-- ==== Sys2Proof/Word.lean ====
section
/-! DEFINITION. The word types of the controller's data paths, and the sparse tables in which the model keeps every
store that is large and mostly at its default: an ascending list of (key, value) pairs that lists no default value. -/

namespace Sys2Proof

/-- One byte. -/
abbrev Byte := BitVec 8

/-- One 64 B granule (Table 0.4), byte `i` in bits `8 i + 7` to `8 i` (R8, little-endian). -/
abbrev Granule := BitVec 512

/-- One 256 B line (Table 0.4), in the byte order of `Granule`. -/
abbrev LineData := BitVec 2048

/-- A sparse table: keys strictly rising, and no entry equal to the table's default. -/
abbrev Sparse (α : Type) := List (Nat × α)

namespace Sparse

variable {α : Type}

/-- The entry of a key, or the default. -/
def get (d : α) (k : Nat) : Sparse α → α
  | [] => d
  | e :: t => if e.1 = k then e.2 else if k < e.1 then d else get d k t

/-- The table without the entry of a key. -/
def erase (k : Nat) : Sparse α → Sparse α
  | [] => []
  | e :: t => if e.1 = k then t else if k < e.1 then e :: t else e :: erase k t

/-- The table with a listed entry at a key. -/
def insert (k : Nat) (v : α) : Sparse α → Sparse α
  | [] => [(k, v)]
  | e :: t => if e.1 = k then (k, v) :: t else if k < e.1 then (k, v) :: e :: t else e :: insert k v t

/-- The table with a key set to a value: the default leaves no entry behind. -/
def set [DecidableEq α] (d : α) (k : Nat) (v : α) (t : Sparse α) : Sparse α :=
  if v = d then erase k t else insert k v t

/-- Every key of the table is above `b`. -/
def above (b : Nat) : Sparse α → Bool
  | [] => true
  | e :: t => decide (b < e.1) && above b t

/-- The canonical form: keys strictly rising and no entry at its key's default. -/
def wf [DecidableEq α] (d : Nat → α) : Sparse α → Bool
  | [] => true
  | e :: t => decide (e.2 ≠ d e.1) && above e.1 t && wf d t

/-- The part of a table with keys from `lo` up to but not including `hi`. -/
def slice (lo hi : Nat) (t : Sparse α) : Sparse α :=
  t.filter fun e => decide (lo ≤ e.1) && decide (e.1 < hi)

/-- The table without the keys from `lo` up to but not including `hi`. -/
def clear (lo hi : Nat) (t : Sparse α) : Sparse α :=
  t.filter fun e => decide (e.1 < lo) || decide (hi ≤ e.1)

/-- The table with each listed key set to its value, in order. -/
def setAll [DecidableEq α] (d : α) (es : List (Nat × α)) (t : Sparse α) : Sparse α :=
  es.foldl (fun u (e : Nat × α) => set d e.1 e.2 u) t

end Sparse

/-- Saturating addition in a counter of `w` bits. -/
def satAdd (w a b : Nat) : Nat := min (a + b) (2 ^ w - 1)

/-- The `w` bits of `v` from bit `lo` up. -/
def bitsOf (v lo w : Nat) : Nat := v / 2 ^ lo % 2 ^ w

/-- A Bool as the value of a one-bit field. -/
def flag (b : Bool) : Nat := if b then 1 else 0

/-- Ceiling division, 0 for a zero divisor. -/
def ceilDiv (a b : Nat) : Nat := if b = 0 then 0 else (a + b - 1) / b

end Sys2Proof
end

