-- ==== Sys2Proof/Syntax.lean ====
section
/-! DEFINITION. The commands the block takes: one constructor per row of the opcode table, in the table's order, with the
row's operands. An operand names what the row's sender supplies: an address, a value, the field of a frame, the verdict of
a check that the model cannot compute (a tag, a signature, an analogue reading). -/

namespace Sys2Proof

/-- Who makes a register access (Table 2.11): the Reeve, a host through the window of one logical device (R97), or the
guest chiplet (R461). -/
inductive Agent where
  | reeve
  | host (ld : Fin 64)
  | guest
  deriving DecidableEq, Repr

/-- What a configuration request asks of a function: a write of its power state, D3hot or D0 (Table 3.3), a read of its
identity (R111), of its BARs, MSI-X and DOE resources (Table 3.3), of its CXL capabilities (Table 3.1), of its GPF DVSEC (R32), of its IDE
capability (R116), of its CDAT over DOE (R102), a write of the mask of an MSI-X vector, or another access. -/
inductive CfgAsk where
  | power (d3hot : Bool)
  | identity
  | resources
  | capabilities
  | gpf
  | ide
  | cdat
  | msixMask (vector : Fin 8) (masked : Bool)
  | other
  deriving DecidableEq, Repr

/-- What an IDE_KM message does (R116, R118): install a key set and start the stream, switch to a refreshed key set, or
end the stream (the host disables IDE). -/
inductive IdeAct where
  | program
  | refresh
  | disable
  deriving DecidableEq, Repr

/-- A line entry of a LINES or LINES_BG frame (Table 12.4), with the data it decrypts to: the line (pair address bits
[48:8]), its stored KEY_GEN, POISON, POISON_SRC and tier flags. -/
structure LineEntry where
  line : Nat
  gen : Nat
  poison : Bool
  psrc : Nat
  flags : Nat
  data : LineData
  deriving DecidableEq, Repr

/-- The label storage area and shutdown state of one window, keyed by tenant, side, base slot and span (R127). -/
structure WinRec where
  tenant : Nat
  side : Nat
  base : Nat
  span : Nat
  lsa : Sparse Nat
  shutdown : Nat
  deriving DecidableEq, Repr

/-- The payload of a mirror frame (Tables 12.3 and 12.5). `window` is a LINES frame of the service-region lines that hold a window's label
storage area and shutdown state (R127; log entry 138). A record frame's payload is the words of the record. -/
inductive CwBody where
  | lines (es : List LineEntry)
  | linesBg (es : List LineEntry)
  | window (w : WinRec)
  | pageMark (es : List (Nat × Bool))
  | horizon (es : List (Nat × Nat))
  | record (kind idx : Nat) (words : List Nat)
  | commit (seqs : List Nat)
  | keyGen (side gen tenant midx salt : Nat)
  | keyMaster (tenant midx serial master : Nat)
  | keyDestroyGen (side gen : Nat)
  | keyDestroyMaster (tenant midx : Nat)
  | repairReq (id page : Nat)
  | assayState (claim : Bool)
  | drainBegin
  | catchupBegin (full0 full1 : Bool)
  | catchupDone
  | temperSet (t : Nat)
  | unpair
  | repairDone (id status : Nat)
  | keyCommitted (seq : Nat)
  deriving DecidableEq, Repr

/-- What the read of a stored line gives (Table 9.3): every codeword corrected and the tag verified, a tag that fails, or a
codeword that is uncorrectable. -/
inductive LineVerdict where
  | good
  | tagFails
  | uncorrectable
  deriving DecidableEq, Repr
/-- What an erase erased (R389, R284): a stripe block, the image areas of a taken spare, or a released image area. -/
inductive EraseWhat where
  | block (sb : Nat)
  | spareAreas (slot : Fin 20)
  | imageArea (a : Fin 2)
  deriving DecidableEq, Repr

/-- What the decoder reports of a codeword it read (R307, R308): no error, or symbols corrected on the devices named in a
subchannel, with the device whose erasure alone gave a result. -/
inductive EccNote where
  | clean
  | corrected (sub : Fin 2) (devices : List (Fin 10)) (erased : Option (Fin 10))
  deriving DecidableEq, Repr

/-- What the SPD of a DIMM position says (R346 to R349): the 256 words read; whether the base block's CRC verifies and the module
lies within Table 10.1; the device width; package ranks; dies of a 3DS stack; Gb of a device; GiB; the highest rate of Table 10.1 it
supports with one DIMM on the channel and with two; the module's serial; the bank groups of its logical ranks with a hard repair
resource. -/
structure Dimm where
  chan : Fin 16
  dimm : Fin 2
  words : List Nat
  accepted : Bool
  x8 : Bool
  ranks : Nat
  stack : Nat
  density : Nat
  gib : Nat
  rate1 : Nat
  rate2 : Nat
  serial : Nat
  ppr : Nat
  deriving DecidableEq, Repr

/-- What the LDPC decoding of a stripe's pages reports (R386): the position of every codeword that was corrected, and of every one that needed a
re-read or a soft decode. -/
structure DeepEcc where
  corrected : List Nat
  retried : List Nat
  deriving DecidableEq, Repr

/-- A checker of Table 9.11 that tests itself at BRINGUP beside the DRAM decoders, whose test is a training step: an LDPC engine of a flash
tile, the SRAM ECC of a slice, a crypto pipeline. -/
inductive Checker where
  | ldpc
  | slice
  | pipeline
  deriving DecidableEq, Repr

/-- A faulty row or column of an SRAM array, as the bring-up BIST finds it (R563): the array (0 to 65: the front-cache and queue arrays of
slice s, 66: the key-slot SRAM, 67: the Reeve SRAM, as Table 17.1 numbers them), whether it is a row, and its number (log entry 145). -/
structure SramRepair where
  array : Fin 68
  row : Bool
  index : Nat
  deriving DecidableEq, Repr

/-- A module found in a slot at BRINGUP (R380, R393): its identity record, whether the record's CRC verifies, and GROUP_ID and
position of the label it carries. -/
structure Module where
  slot : Fin 20
  record : Nat
  crcOk : Bool
  label : Option (Nat × Nat)
  deriving DecidableEq, Repr

/-- A frame as an Ethernet link receives it: the link, its source GID, whether its ICRC verifies, how full the port's receive buffer
is in per cent with the frame in it (above 100: it has no room; R157), whether its ECN field is CE, and how many FEC codewords were
corrected in receiving it. -/
structure RxFrame where
  link : Fin 16
  gid : Nat
  icrc : Bool
  fill : Nat
  ce : Bool
  corrected : Nat := 0
  deriving DecidableEq, Repr

/-- What a Causeway path's FEC did since the frame before this one: codewords corrected, and codewords it could not correct
(CW_PATH_FEC_CORR and CW_PATH_FEC_UNCORR of Table 12.17). -/
structure Fec where
  corrected : Nat := 0
  uncorrectable : Nat := 0
  deriving DecidableEq, Repr

/-- What a mirror-stream frame shows at its receiver (Table 12.2): the path, KEY_EPOCH and SEQ, whether FCHK verifies and whether the GCM
tag does under the link key that KEY_EPOCH selects; whether its TYPE is the one the command names, a type of Table 12.3, and no other number
(R411); and what the path's FEC did. -/
structure MirrorRx where
  path : Fin 2
  epoch : Nat
  seq : Nat
  fchk : Bool
  tag : Bool
  known : Bool := true
  fec : Fec := {}
  deriving DecidableEq, Repr

/-- A CONTROL frame (Table 12.6). -/
structure ControlRx where
  path : Fin 2
  fchk : Bool
  tag : Bool
  ack : Nat
  nak : Nat
  credit : Nat
  mode : Nat
  fenced : Bool
  serving : Bool
  ready : Bool
  mEff : Nat
  epoch : Nat
  fec : Fec := {}
  deriving DecidableEq, Repr

/-- A HELLO payload (Table 12.7), with what its check gives: whether its signature verifies, the digest of DEVICE_PUB, and whether
PEER_NONCE is the receiver's present NONCE (`echo`); NONCE and EPH. `mapBase` and `map` are the sender's MAP_BASE and the extents of its changed-extent map,
which the catch-up of R438 needs (log entry 37). -/
structure Hello where
  sigOk : Bool
  keyId : Nat
  side : Nat
  serial : Nat
  pairId : Nat
  epoch : Nat
  temper : Nat
  temperMax : Nat
  ownAuth : Bool
  mirrorValid : Bool
  mapValid : Bool
  unsealed : Bool
  serving : Bool
  groupId : Nat
  echo : Bool
  nonce : Nat := 0
  eph : Nat := 0
  mapBase : Nat
  map : List Nat
  deriving DecidableEq, Repr

/-- A witness frame (Table 12.9): whether its MAC verifies; SESSION, COUNTER and PAIR_EPOCH; FLAGS bits 2 to 4; REASON; and the SESSION and
COUNTER it echoes. -/
structure WitFrame where
  mac : Bool
  session : Nat
  counter : Nat
  epoch : Nat
  fenceN : Bool
  grantSide : Nat
  grantValid : Bool
  reason : Nat
  echoSession : Nat
  echoCounter : Nat
  deriving DecidableEq, Repr

/-- What a part brings from its manufacture beside the fuses that registers show: the revocation fuses of keys 0 to 3, OWNER_KEY_HASH (0:
not programmed), the FINAL fuse, the words of the embedded flash by number (16 B each), the provisioning public key
that the physically unclonable source gives (R329, R482, R487, R490). -/
structure Part where
  revoked : Nat
  ownerHash : Nat
  final : Bool
  flash : List (Nat × Nat)
  deviceKey : Nat
  deriving DecidableEq, Repr

/-- What verifying the image of a slot gives (R491): WIFAREN_SIG, the payload's digest, and OWNER_SIG with the owner key's hash. -/
structure SlotCheck where
  sig : Bool := false
  digest : Bool := false
  owner : Bool := false
  deriving DecidableEq, Repr

/-- Where an SPDM request comes from: MCTP on the BMC port, or the DOE mailbox of a logical device (R498). -/
inductive Transport where
  | bmc
  | doe (ld : Fin 64)
  deriving DecidableEq, Repr

/-- How a MGMT message reached the Reeve (R500): as an operation of a queue, by the mailbox of a logical device, or from the BMC. -/
inductive MgmtPath where
  | queue (q seq : Nat)
  | mailbox (ld : Fin 64)
  | bmc
  deriving DecidableEq, Repr

/-- How a read of the embedded flash or of the Reeve's SRAM fares: correct, corrected, or uncorrectable (R480, R486). -/
inductive EccVerdict where
  | ok
  | corrected
  | uncorrectable
  deriving DecidableEq, Repr

/-- What a JTAG access does at readout level 0 (R488, R555): read a word of the flash window, hold or leave a test mode, raise the level. -/
inductive JtagAct where
  | read (addr : Nat) (ecc : EccVerdict)
  | testMode (on : Bool)
  | raise_
  deriving DecidableEq, Repr

/-- A dual-rail error pair (R510, R511): the guest's non-fatal and fatal pairs, or line j. -/
inductive ErrPair where
  | guestNf
  | guestF
  | line (j : Fin 48)
  deriving DecidableEq, Repr

/-- The commands of the opcode table. -/
inductive Instr where
  /-- REGISTER_WRITE (R11): `agent` writes `v` at byte offset `off`, `size` bytes wide. -/
  | registerWrite (agent : Agent) (off : Nat) (size : Nat) (v : Nat)
  /-- REGISTER_READ_CLEAR (R11): `agent` reads at byte offset `off`, `size` bytes wide. -/
  | registerReadClear (agent : Agent) (off : Nat) (size : Nat)
  /-- REGISTER_READ_LATCH_HIGH (R9): `agent` reads 32 bits at `off` of a 64-bit register. -/
  | registerReadLatchHigh (agent : Agent) (off : Nat)
  /-- CXL_MEMRD (R112): MemRd or MemRdData of the granule at device physical address `dpa` of LD-ID `ldid`; `sramBad`: the front-cache SRAM reports the line uncorrectable. -/
  | cxlMemrd (link : Fin 16) (ldid tag dpa : Nat) (sramBad : Bool)
  /-- CXL_MEMWR (R112): MemWr of one granule; `sramBad` as for CXL_MEMRD. -/
  | cxlMemwr (link : Fin 16) (ldid tag dpa : Nat) (data : Granule) (poison sramBad : Bool)
  /-- CXL_MEMWRPTL (R112): MemWrPtl with byte enables. -/
  | cxlMemwrptl (link : Fin 16) (ldid tag dpa : Nat) (data : Granule) (enables : BitVec 64) (poison sramBad : Bool)
  /-- CXL_MEMSPECRD (R112): MemSpecRd hint. -/
  | cxlMemspecrd (link : Fin 16) (ldid dpa : Nat)
  /-- CXL_MEMINV (R112): MemInv. -/
  | cxlMeminv (link : Fin 16) (ldid tag : Nat)
  /-- CXL_UNSUPPORTED_M2S (R112): an M2S message outside Table 3.4, of the read class when `read`. -/
  | cxlUnsupportedM2s (link : Fin 16) (ldid tag : Nat) (read : Bool)
  /-- WRITE_COMPLETION (R210): 20 fc after the acceptance of write `id`; whether the read-back check passed. -/
  | writeCompletion (id : Nat) (readbackOk : Bool)
  /-- MIRROR_WINDOW_DRAIN (R21): the mirror window has room again. -/
  | mirrorWindowDrain
  /-- PERSIST (R28): the fetched PERSIST with sequence number `seq` of queue `q`. -/
  | persist (q seq : Nat)
  /-- PERSIST_COMPLETE (R28): the pending PERSIST's conditions are looked at. -/
  | persistComplete (q seq : Nat)
  /-- PERSIST_STALLED (R29): PERSIST_WATCH_MS has passed since the PERSIST was fetched. -/
  | persistStalled (q seq : Nat)
  /-- GPF_PHASE1 (R31): a phase 1 request to logical device `ld`. -/
  | gpfPhase1 (ld : Fin 64)
  /-- GPF_PHASE2 (R31): a phase 2 request to logical device `ld`. -/
  | gpfPhase2 (ld : Fin 64)
  /-- GPF_PHASE2_DONE (R32): the pending phase 2 of `ld` is looked at. -/
  | gpfPhase2Done (ld : Fin 64)
  /-- CONFIG_REQUEST (R120): a configuration request of the function, for what `ask` says. -/
  | configRequest (ld : Fin 64) (tag : Nat) (ask : CfgAsk)
  /-- PERST_N_ASSERT (R125): PERST_N of port `p` asserts. -/
  | perstNAssert (p : Fin 4)
  /-- PERST_N_DEASSERT (R120): PERST_N of port `p` deasserts. -/
  | perstNDeassert (p : Fin 4)
  /-- CXL_LINK_UP (R119): the link finishes training at `width` lanes and RATE `rate`; whether the partner negotiated MLD operation and latency-optimised flits. -/
  | cxlLinkUp (link : Fin 16) (width rate : Nat) (mld lopt : Bool)
  /-- CXL_LINK_DOWN (R125): the link goes down. -/
  | cxlLinkDown (link : Fin 16)
  /-- CXL_HOT_RESET (R125): a hot reset is received on the link. -/
  | cxlHotReset (link : Fin 16)
  /-- FUNCTION_LEVEL_RESET (R125): a function level reset of logical device `ld`. -/
  | functionLevelReset (ld : Fin 64)
  /-- CXL_PORT_SERVICE_WRITE (R126): the Reeve writes SERVICE of CXL_PORT_CTRL. -/
  | cxlPortServiceWrite (p : Fin 4) (service : Bool)
  /-- CXL_BIND_RESTORE (R126): the Reeve writes BIND_RESTORE. -/
  | cxlBindRestore (link : Fin 16)
  /-- IDE_KM_EXCHANGE (R116): an IDE_KM message for the link on the DOE mailbox of its LD_BASE, within the SPDM session it names. -/
  | ideKmExchange (link : Fin 16) (session : Nat) (act : IdeAct)
  /-- IDE_MAC_FAILURE (R118): a CXL.cachemem MAC check fails. -/
  | ideMacFailure (link : Fin 16)
  /-- IDE_EPOCH_VERIFIED (R118): the MAC of the present epoch verifies. -/
  | ideEpochVerified (link : Fin 16)
  /-- HDM_DECODER_COMMIT (R110): a commit of an HDM decoder. -/
  | hdmDecoderCommit (ld : Fin 64) (idx : Fin 4) (base size skip ways gran : Nat) (lockOnCommit : Bool)
  /-- GET_EVENT_RECORDS (R129): Get Event Records of log 0 Informational, 1 Warning, 2 Failure, 3 Fatal. -/
  | getEventRecords (ld : Fin 64) (log : Fin 4)
  /-- CLEAR_EVENT_RECORDS (R127): Clear Event Records. -/
  | clearEventRecords (ld : Fin 64) (log : Fin 4) (all : Bool) (handles : List Nat)
  /-- GET_EVENT_INTERRUPT_POLICY (R127): Get Event Interrupt Policy. -/
  | getEventInterruptPolicy (ld : Fin 64)
  /-- SET_EVENT_INTERRUPT_POLICY (R127): Set Event Interrupt Policy, one byte per log. -/
  | setEventInterruptPolicy (ld : Fin 64) (policy : Nat)
  /-- GET_FW_INFO (R127): Get FW Info. -/
  | getFwInfo (ld : Fin 64)
  /-- GET_TIMESTAMP (R127): Get Timestamp. -/
  | getTimestamp (ld : Fin 64)
  /-- SET_TIMESTAMP (R127): Set Timestamp. -/
  | setTimestamp (ld : Fin 64) (t : Nat)
  /-- GET_SUPPORTED_LOGS (R127): Get Supported Logs. -/
  | getSupportedLogs (ld : Fin 64)
  /-- GET_LOG (R127): Get Log, of the Command Effects Log when `cel`. -/
  | getLog (ld : Fin 64) (cel : Bool)
  /-- IDENTIFY_MEMORY_DEVICE (R127): Identify Memory Device. -/
  | identifyMemoryDevice (ld : Fin 64)
  /-- GET_PARTITION_INFO (R127): Get Partition Info. -/
  | getPartitionInfo (ld : Fin 64)
  /-- GET_LSA (R127): Get LSA. -/
  | getLsa (ld : Fin 64) (off len : Nat)
  /-- SET_LSA (R127): Set LSA. -/
  | setLsa (ld : Fin 64) (off : Nat) (data : List Byte)
  /-- GET_HEALTH_INFO (R128): Get Health Info. -/
  | getHealthInfo (ld : Fin 64)
  /-- GET_ALERT_CONFIGURATION (R127): Get Alert Configuration. -/
  | getAlertConfiguration (ld : Fin 64)
  /-- GET_SHUTDOWN_STATE (R127): Get Shutdown State. -/
  | getShutdownState (ld : Fin 64)
  /-- SET_SHUTDOWN_STATE (R127): Set Shutdown State. -/
  | setShutdownState (ld : Fin 64) (v : Nat)
  /-- GET_POISON_LIST (R127): Get Poison List of the range. -/
  | getPoisonList (ld : Fin 64) (dpa len : Nat)
  /-- INJECT_POISON (R127): Inject Poison. -/
  | injectPoison (ld : Fin 64) (dpa : Nat)
  /-- CLEAR_POISON (R127): Clear Poison with the write data. -/
  | clearPoison (ld : Fin 64) (dpa : Nat) (data : Granule)
  /-- SCAN_MEDIA (R127): Scan Media of the range, `len` in 64 B units. -/
  | scanMedia (ld : Fin 64) (dpa len : Nat)
  /-- GET_SCAN_MEDIA_CAPABILITIES (R127): Get Scan Media Capabilities. -/
  | getScanMediaCapabilities (ld : Fin 64) (dpa len : Nat)
  /-- GET_SCAN_MEDIA_RESULTS (R127): Get Scan Media Results. -/
  | getScanMediaResults (ld : Fin 64)
  /-- SCAN_MEDIA_DONE (R127): the background Scan Media reaches the end of its range, having found the lines `bad` (line numbers) uncorrectable. -/
  | scanMediaDone (ld : Fin 64) (bad : List Nat)
  /-- MAILBOX_MGMT_REQUEST (R500): mailbox command 0xC000 with a message of type `typ`. -/
  | mailboxMgmtRequest (ld : Fin 64) (typ : Nat)
  /-- MAILBOX_UNSUPPORTED (R127): a mailbox command outside Table 3.8. -/
  | mailboxUnsupported (ld : Fin 64) (opcode : Nat)
  /-- GET_LD_INFO (R107): FM API Get LD Info. -/
  | getLdInfo (link : Fin 16)
  /-- GET_LD_ALLOCATIONS (R107): FM API Get LD Allocations. -/
  | getLdAllocations (link : Fin 16)
  /-- GET_QOS_STATUS (R107): FM API Get QoS Status. -/
  | getQosStatus (link : Fin 16)
  /-- FM_API_UNSUPPORTED (R107): another FM API command. -/
  | fmApiUnsupported (link : Fin 16) (opcode : Nat)
  /-- ETH_LINK_UP (R135): the link trains at its split's rate. -/
  | ethLinkUp (link : Fin 16)
  /-- ETH_LINK_DOWN (R136): the link goes down. -/
  | ethLinkDown (link : Fin 16)
  /-- ETH_LINK_SERVICE_WRITE (R136): SERVICE of RDMA_LINK_CTRL is written. -/
  | ethLinkServiceWrite (link : Fin 16) (service : Bool)
  /-- ARP_ND_REQUEST (R137): an ARP request or a neighbour solicitation for an address. -/
  | arpNdRequest (link : Fin 16) (addr : Nat)
  /-- CM_REQ (R140): a REQ at a service address: its P_Key, path MTU, whether its transport is RC, its initiator depth, starting PSN and private data. -/
  | cmReq (f : RxFrame) (addr pkey mtu : Nat) (rc : Bool) (depth psn : Nat) (priv : List Byte)
  /-- CM_RTU (R139): an RTU. -/
  | cmRtu (f : RxFrame) (qpn : Nat)
  /-- CM_DREQ (R139): a DREQ. -/
  | cmDreq (f : RxFrame) (qpn : Nat)
  /-- CM_REJ_RX (R139): a REJ. -/
  | cmRejRx (f : RxFrame) (qpn : Nat)
  /-- CM_OTHER_MAD (R139): a MAD of another class on QP1. -/
  | cmOtherMad (f : RxFrame)
  /-- RDMA_READ_REQ (R144): an RDMA READ request; `sram`: the lines that the front-cache SRAM reports uncorrectable to it. -/
  | rdmaReadReq (f : RxFrame) (qpn pkey psn va rkey len : Nat) (sram : List Nat)
  /-- RDMA_WRITE_PACKET (R142): a packet of an RDMA WRITE; the RETH fields count on its first packet; `sram` as for RDMA_READ_REQ. -/
  | rdmaWritePacket (f : RxFrame) (qpn pkey psn : Nat) (first last : Bool) (va rkey len : Nat) (bytes : List Byte) (sram : List Nat)
  /-- RDMA_WRITE_ACK (R143): the completion point of the oldest unanswered message of the queue pair. -/
  | rdmaWriteAck (qpn : Nat)
  /-- RDMA_ATOMIC (R145): a Compare and Swap or a Fetch and Add. -/
  | rdmaAtomic (f : RxFrame) (qpn pkey psn : Nat) (swap : Bool) (va rkey add compare : Nat) (sram : List Nat)
  /-- RDMA_UNSUPPORTED_OPCODE (R141): a request opcode that Table 4.5 does not list. -/
  | rdmaUnsupportedOpcode (f : RxFrame) (qpn pkey psn : Nat)
  /-- CQP_SEND (R150): a SEND of descriptors. -/
  | cqpSend (f : RxFrame) (qpn pkey psn len : Nat) (ds : List (BitVec 512))
  /-- RDMA_ACK_RX (R150): the host acknowledges completion SENDs up to a PSN, or, when `nak`, those before it, with NAK PSN sequence error for it. -/
  | rdmaAckRx (f : RxFrame) (qpn psn : Nat) (nak : Bool)
  /-- CQP_RNR_NAK_RX (R151): the host answers a completion SEND with RNR NAK. -/
  | cqpRnrNakRx (f : RxFrame) (qpn psn : Nat)
  /-- CQP_RNR_RETRY (R151): the host's RNR timer has expired. -/
  | cqpRnrRetry (qpn : Nat)
  /-- COMPLETION_SEND_FLUSH (R151): 2 µs after the oldest unsent record became ready. -/
  | completionSendFlush (qpn : Nat)
  /-- QP_CONTEXT_FETCH_DONE (R148): the context arrives from the spill store. -/
  | qpContextFetchDone (qpn : Nat)
  /-- QP_CACHE_PRESSURE_CHECK (R149): a 1 s interval of context lookups has ended. -/
  | qpCachePressureCheck
  /-- HLT_HOLDDOWN_EXPIRY (R153): the primary has carried no packet from the GID for 100 ms. -/
  | hltHolddownExpiry (gid : Nat)
  /-- HLT_MOVE_DRAIN_DONE (R154): the frames queued on the old primary have left. -/
  | hltMoveDrainDone (gid : Nat)
  /-- HLT_FLAP_CLEAR (R153): 10 s have passed without a move of the entry. -/
  | hltFlapClear (gid : Nat)
  /-- HLT_ENTRY_AGE_OUT (R154): no packet has refreshed the entry for 60 s. -/
  | hltEntryAgeOut (gid : Nat)
  /-- CNP_RX (R155): a CNP. -/
  | cnpRx (f : RxFrame) (qpn : Nat)
  /-- CNP_RATE_RECOVERY (R155): 55 µs have passed without a CNP. -/
  | cnpRateRecovery (qpn : Nat)
  /-- SLUICE_CNP_TIMER (R156): CNP_INTERVAL_US has passed. -/
  | sluiceCnpTimer
  /-- PFC_FRAME_RX (R157): the link partner pauses or resumes transmission on PFC_PRIO. -/
  | pfcFrameRx (link : Fin 16) (pause : Bool)
  /-- PFC_PAUSE_LONG (R157): a pause has lasted more than 100 ms. -/
  | pfcPauseLong (link : Fin 16)
  /-- RING_ENABLE (R165): a write of RING_CFG with ENABLE 1: the 32-bit word `v`. -/
  | ringEnable (ld r : Fin 64) (v : Nat)
  /-- RING_DISABLE (R173): a write of RING_CFG with ENABLE 0. -/
  | ringDisable (ld r : Fin 64)
  /-- RING_DISABLED (R173): the destroyed ring is looked at. -/
  | ringDisabled (ld r : Fin 64)
  /-- POLLER_TICK (R166): the ring's poll interval elapses. -/
  | pollerTick (ld r : Fin 64)
  /-- RING_FETCH_DATA (R166): the descriptors the outstanding fetch read returns. -/
  | ringFetchData (ld r : Fin 64) (ds : List (BitVec 512))
  /-- MULTIPART_ASSEMBLED (R176): the multi-part operation of queue `q` whose head has `seq` is looked at. -/
  | multipartAssembled (q seq : Nat)
  /-- CQ_HEAD_RECHECK (R167): 1 µs passes with the completion ring full. -/
  | cqHeadRecheck (ld r : Fin 64)
  /-- CQ_FULL_TIMEOUT (R167): the completion ring has been full for 1 s. -/
  | cqFullTimeout (ld r : Fin 64)
  /-- RING_IDLE_SLEEP (R168): the idle time elapses; SQ_TAIL as the read after the write of ASLEEP returns it. -/
  | ringIdleSleep (ld r : Fin 64) (tail : Nat)
  /-- RING_WAKE (R168): a write of RING_WAKE. -/
  | ringWake (ld : Fin 64) (mask : BitVec 64)
  /-- RING_RESTART (R187): a write of RESTART. -/
  | ringRestart (ld r : Fin 64)
  /-- IRQ_COALESCE_EXPIRY (R172): COAL_US elapses after a message on vector 5, or 6 when `notice`. -/
  | irqCoalesceExpiry (ld r : Fin 64) (notice : Bool)
  /-- COPY (R181): the fetched COPY; `sram`: the lines that the front-cache SRAM reports uncorrectable to it. -/
  | copy (q seq : Nat) (sram : List Nat)
  /-- ZERO (R181): the fetched ZERO. -/
  | zero (q seq : Nat)
  /-- COPY_ZERO_RESUME (R275): a COPY or ZERO that waits for its share goes on as far as it allows. -/
  | copyZeroResume (q seq : Nat) (sram : List Nat)
  /-- COPY_ZERO_DONE (R181): the COPY or ZERO is looked at for its end. -/
  | copyZeroDone (q seq : Nat)
  /-- HAZARD_HOLD_RELEASE (R180): the held operation is looked at; `sram` as for COPY. -/
  | hazardHoldRelease (q seq : Nat) (sram : List Nat)
  /-- WAIT (R183): the fetched WAIT. -/
  | wait (q seq : Nat)
  /-- WAIT_SATISFIED (R183): the WAIT's target value is looked at. -/
  | waitSatisfied (q seq : Nat)
  /-- WAIT_TIMEOUT (R184): TIMEOUT_US elapses. -/
  | waitTimeout (q seq : Nat)
  /-- ABORT (R185): the fetched ABORT. -/
  | abort (q seq : Nat)
  /-- REGION_ATTACH (R73): the fetched REGION_ATTACH. -/
  | regionAttach (q seq : Nat)
  /-- REGION_ATTACH_COMPLETE (R73): the attach in progress is looked at. -/
  | regionAttachComplete (q seq : Nat)
  /-- REGION_DETACH (R594): the fetched REGION_DETACH. -/
  | regionDetach (q seq : Nat)
  /-- REGION_DETACH_COMPLETE (R78): the detach in progress is looked at. -/
  | regionDetachComplete (q seq : Nat)
  /-- REGION_RELEASE (R78): the DETACHING region of record `idx` is looked at for dirty lines. -/
  | regionRelease (idx : Fin 8192)
  /-- REGION_INFO (R179): the fetched REGION_INFO. -/
  | regionInfo (q seq : Nat)
  /-- KEY_PROVISION (R335): the fetched KEY_PROVISION; whether the blob's GCM tag verifies. -/
  | keyProvision (q seq : Nat) (tagOk : Bool)
  /-- KEY_ROTATE (R337): the fetched KEY_ROTATE. -/
  | keyRotate (q seq : Nat)
  /-- STREAM_DECLARE (R241): the STREAM_DECLARE with head SEQ `seq` of queue `q` starts; list lines whose read fails, with the status each gives. -/
  | streamDeclare (q seq : Nat) (bad : List (Nat × Nat))
  /-- STREAM_ADVANCE (R243): the STREAM_ADVANCE with head SEQ `seq` of queue `q` starts. -/
  | streamAdvance (q seq : Nat)
  /-- STREAM_RETIRE (R245): the STREAM_RETIRE with head SEQ `seq` of queue `q` starts. -/
  | streamRetire (q seq : Nat)
  /-- GUEST (R462): the operation is started. -/
  | guest (q seq : Nat)
  /-- MGMT_OPERATION (R500): the operation is started. -/
  | mgmtOperation (q seq : Nat)
  /-- TENANT_CREATE (R85): the Reeve writes STATE 1 to tenant `t`. -/
  | tenantCreate (t : Fin 4096)
  /-- TENANT_REMOVE (R86): the Reeve writes STATE 2 to tenant `t`. -/
  | tenantRemove (t : Fin 4096)
  /-- BINDING_WRITE (R99): the Reeve writes `v` to entry `n` of LD_MAP, or of the P_Key map when `pkeyMap`. -/
  | bindingWrite (pkeyMap : Bool) (n v : Nat)
  /-- HA_SLICE_SLEEP (R212): logical home agent `home` has been idle for its idle time. -/
  | haSliceSleep (home : Fin 64)
  /-- VICTIM_WRITE_ACK (R206): the DRAM tile acknowledges the write of victim `line`. -/
  | victimWriteAck (line : Nat)
  /-- HA_REMAP_REQUEST (R215): GO is written with LOGICAL `home` and PHYS `phys`. -/
  | haRemapRequest (home : Fin 64) (phys : Fin 128)
  /-- HA_SLICE_BIST_DONE (R215): the BIST of the slice ends. -/
  | haSliceBistDone (slice : Fin 66) (pass : Bool)
  /-- HA_SLICE_BIST_TIMEOUT (R215): 5 ms pass without a passed BIST. -/
  | haSliceBistTimeout (slice : Fin 66)
  /-- EPOCH_BOUNDARY (R214): 65,536 fc have passed since the last boundary. -/
  | epochBoundary
  /-- LATENCY_TRACER_CLEAR (R219): CLEAR is written to FP_LAT_CTRL. -/
  | latencyTracerClear
  /-- FILL_LANDED (R228): the fill of `page` lands: the positions with an uncorrectable codeword, what the decoding of the others reports, what its lines' verification gives, the parts in µs of each waiting read's stall, and the memory and crypto cycles of a sampled read. -/
  | fillLanded (page : Nat) (bad : List Nat) (ecc : DeepEcc) (verdicts : List (Nat × LineVerdict)) (stalls : List (Nat × List Nat)) (memory crypto : Nat)
  /-- STALL_CEILING_EXPIRY (R231): the stall of read `id` reaches its region's STALL_CEIL_MS; its parts in µs. -/
  | stallCeilingExpiry (id : Nat) (parts : List Nat)
  /-- EXTENT_DROP (R236): the Culvert looks for an extent to drop. -/
  | extentDrop
  /-- FRAME_WAIT_TIMEOUT (R236): fills have waited for a frame for 1 ms without a break. -/
  | frameWaitTimeout
  /-- WRITEBACK_CAPTURE (R238): the Culvert takes DIRTY page `page` for write-back. -/
  | writebackCapture (page : Nat)
  /-- WRITEBACK_PROGRAM_DONE (R238): the program of captured page `page` completes and its delta is in the journal. -/
  | writebackProgramDone (page : Nat)
  /-- PROGRAM_FAILED (R399): the program of captured page `page` fails. -/
  | programFailed (page : Nat)
  /-- JOURNAL_BLOCK_WRITE (R253): a journal block is full, or 100 µs have passed since its first entry. -/
  | journalBlockWrite
  /-- TABLE_PAGE_WRITE (R254): the table page for the pages from `tp` × 2,048 on is due. -/
  | tablePageWrite (tp : Nat)
  /-- GC_VICTIM_RELOCATE (R255): garbage collection takes its next block. -/
  | gcVictimRelocate
  /-- WEAR_LEVEL_RELOCATE (R256): the Culvert compares the erase-count spread with WL_SPREAD. -/
  | wearLevelRelocate
  /-- STREAM_STATUS_WRITE (R246): the status block of stream `j` is due. -/
  | streamStatusWrite (j : Fin 1024)
  /-- FREEBOARD_RECOMPUTE (R262): 1 ms has passed. -/
  | freeboardRecompute
  /-- SLUICE_SHARE_RECOMPUTE (R274): 100 µs have passed. -/
  | sluiceShareRecompute
  /-- THERMAL_CAP_STEP (R279): THERM_STEP_MS has passed while the cap is in force. -/
  | thermalCapStep
  /-- BANK_ID_READ (R266): the bank identity record is read: its 256 bytes, and whether its CRC verifies. -/
  | bankIdRead (record : BitVec 2048) (crcOk : Bool)
  /-- ASSAY_DUE (R267): an assay falls due under R267. -/
  | assayDue
  /-- ASSAY_NOW (R267): ASSAY_NOW is written. -/
  | assayNow
  /-- ASSAY_PREPARE_READY (R268): the dirty bytes and the conversions allow the discharge. -/
  | assayPrepareReady
  /-- ASSAY_PREPARE_TIMEOUT (R268): 60 s pass in PREPARE. -/
  | assayPrepareTimeout
  /-- ASSAY_ESR_MEASURE (R268): the 8 conversions that follow 1 ms of load are complete. -/
  | assayEsrMeasure
  /-- ASSAY_DISCHARGE_END (R268): the conversions show the corrected voltage at or below 0.97 × V0. -/
  | assayDischargeEnd
  /-- ASSAY_DISCHARGE_TIMEOUT (R268): 2 s of discharge pass, or the load current is missing after the first 1 ms. -/
  | assayDischargeTimeout
  /-- ASSAY_RELAX_END (R268): 5 ms have passed since BANK_TEST_EN deasserted and 64 conversions are complete. -/
  | assayRelaxEnd
  /-- ASSAY_RECHARGE_DONE (R268): BANK_V may be back within 0.5 % of V0. -/
  | assayRechargeDone
  /-- ASSAY_RECHARGE_TIMEOUT (R268): T_CHARGE_S passes in RECHARGE. -/
  | assayRechargeTimeout
  /-- ASSAY_RETRY_DUE (R270): 60 s after a REPEAT, or 1 h after a rejection or a postponement. -/
  | assayRetryDue
  /-- PFAIL_N_ASSERT (R280): PFAIL_N asserts. -/
  | pfailNAssert
  /-- PFAIL_N_DEASSERT (R280): PFAIL_N deasserts. -/
  | pfailNDeassert
  /-- PFAIL_FILTER_EXPIRY (R280): PFAIL_N has been asserted for PFAIL_FILTER_US. -/
  | pfailFilterExpiry
  /-- SPILLWAY_SEAL (R282): the COMMIT is written and read back, and the image pointer written; DURATION_US and ENERGY_J. -/
  | spillwaySeal (us energy : Nat)
  /-- SAVE_RESTART_WAIT_END (R300): PFAIL_N has been deasserted for 100 ms with good rails after the seal. -/
  | saveRestartWaitEnd
  /-- RESTORE_PHASE_DONE (R296): the work of the present restore phase ends; in SCAN the codewords repaired, the sync patterns ignored and the lost ranges of lines (first, count); in TABLE whether the journal has a gap; in LINES and PENDING the lines whose verification fails. -/
  | restorePhaseDone (repaired ignored : Nat) (damage : List (Nat × Nat)) (gap : Bool) (bad : List (Nat × LineVerdict))
  /-- RESTORE_EXIT (R299): the controller looks whether RESTORE may be left. -/
  | restoreExit
  /-- LINE_DATA_ARRIVAL (R313): a stored line reaches its home agent from DRAM: what decoding and the tag give, whether the pipeline's lanes agree (1: once not; 2: twice not), what the decoder reports of each codeword, the lines of the row that the copy of a row remap cannot correct, and the memory and crypto cycles of a sampled read. -/
  | lineDataArrival (line : Nat) (verdict : LineVerdict) (lanes : Fin 3) (ecc : List EccNote) (copyBad : List Nat) (memory crypto : Nat)
  /-- CP_IDLE_SLEEP (R319): logical pipeline `home` has been idle for its idle time. -/
  | cpIdleSleep (home : Fin 64)
  /-- CP_REMAP_REQUEST (R324): GO is written with LOGICAL `home` and PHYS `phys`. -/
  | cpRemapRequest (home : Fin 64) (phys : Fin 128)
  /-- CP_SELF_TEST_DONE (R324): the self-test of the pipeline ends. -/
  | cpSelfTestDone (pipe : Fin 68) (pass : Bool)
  /-- CP_SELF_TEST_TIMEOUT (R324): 2 ms pass without a passed self-test. -/
  | cpSelfTestTimeout (pipe : Fin 68)
  /-- KS_LOAD (R326): LOAD is written to KS_CMD. -/
  | ksLoad
  /-- KS_DESTROY (R327): DESTROY is written to KS_CMD. -/
  | ksDestroy
  /-- KS_COMMAND_DONE (R327): no pipeline has the command's generation in flight any longer. -/
  | ksCommandDone
  /-- KEY_STORE_UPDATE (R331): the changes collected are looked at. -/
  | keyStoreUpdate
  /-- KEY_STORE_UPDATE_DONE (R331): the commit record of the update that runs has verified. -/
  | keyStoreUpdateDone
  /-- ROTATION_SWEEP_EXTENT (R338): the sweep of record `idx` takes its extent; the lines of it whose read does not verify. -/
  | rotationSweepExtent (idx : Fin 8192) (bad : List (Nat × LineVerdict))
  /-- FLIP_MASK_ARM (R343): ARM of set `f` is written; with `read`, the write in scope and the read of its word follow at once, and whether the checker works. -/
  | flipMaskArm (f : Fin 4) (read : Option Bool)
  /-- DIMM_TEMP_READ (R350): the SPD hub of DIMM `d` on channel `c` is read, in 0.25 °C steps. -/
  | dimmTempRead (c : Fin 16) (d : Fin 2) (reading : Option (BitVec 16))
  /-- CHANNEL_TRAINING_DONE (R354): the training of channel `c` ends without a time-out: (lane, read centre, read width, write centre, write width), the pending remap entries that a post-package repair replaced, and whether the decoder passed its self-test. -/
  | channelTrainingDone (c : Fin 16) (lanes : List (Nat × Nat × Nat × Nat × Nat)) (ppr : List Nat) (decoderOk : Bool)
  /-- CHANNEL_TRAINING_TIMEOUT (R354): training step `step` + 1 of channel `c` exceeds its time-out. -/
  | channelTrainingTimeout (c : Fin 16) (step : Fin 8)
  /-- ZQ_CALIBRATION (R356): 128 ms have passed for a logical rank. -/
  | zqCalibration (c : Fin 16) (rank : Fin 8)
  /-- DQS_DRIFT_TRACK (R356): 10 ms have passed; the measured drift of each lane in delay steps. -/
  | dqsDriftTrack (c : Fin 16) (drift : List (Fin 20 × Int))
  /-- REFRESH_DUE (R359): tREFI has passed for a logical rank. -/
  | refreshDue (c : Fin 16) (rank : Fin 8)
  /-- RANK_POWER_DOWN_ENTRY (R360): a logical rank has been idle for PD_IDLE_US. -/
  | rankPowerDownEntry (c : Fin 16) (rank : Fin 8)
  /-- RANK_SELF_REFRESH_ENTRY (R360): a logical rank has been idle for SR_IDLE_MS. -/
  | rankSelfRefreshEntry (c : Fin 16) (rank : Fin 8)
  /-- DRAM_ALERT (R361): a module signals an error: the replays made, whether the last succeeded, and the lines whose reads and writes it covers. -/
  | dramAlert (c : Fin 16) (replays : Fin 4) (ok : Bool) (reads writes : List Nat)
  /-- DRAM_PATROL_READ (R363): the patrol reads the codewords of a line, or of a reserved page at `loc`: uncorrectable or as the decoder reports of each; the lines of the row that the copy of a row remap cannot correct; the progress of the pass and whether it ends. -/
  | dramPatrolRead (c : Fin 16) (line : Option Nat) (loc : List Nat) (bad : Bool) (ecc : List EccNote) (copyBad : List Nat) (pct : Fin 101) (done : Bool)
  /-- CHANNEL_SERVICE_WRITE (R367): SERVICE of channel `c` is written. -/
  | channelServiceWrite (c : Fin 16) (service : Bool)
  /-- CHANNEL_DRAIN_PAGE_COPY (R368): the drain of channel `c` takes its next page: a page of an extent, or a reserved page. -/
  | channelDrainPageCopy (c : Fin 16) (page : Option Nat)
  /-- CHANNEL_FAULT (R370): the RCD or the PHY of channel `c` reports a fault that a retrain cannot clear. -/
  | channelFault (c : Fin 16)
  /-- SLOT_PRESENCE_FILTERED (R376): SLOT_PRSNT_N of the slot has held its new level through its filter; the identity record read, and whether its CRC verifies. -/
  | slotPresenceFiltered (slot : Fin 20) (present : Bool) (record : Nat) (crcOk : Bool)
  /-- SLOT_POWER_ATTEMPT (R377): the power-up of a POWERING slot is due. -/
  | slotPowerAttempt (slot : Fin 20)
  /-- SLOT_PG_TIMEOUT (R377): 20 ms pass after SLOT_EN without SLOT_PG. -/
  | slotPgTimeout (slot : Fin 20)
  /-- SLOT_FAULT (R377): SLOT_FLT_N asserts. -/
  | slotFault (slot : Fin 20)
  /-- SLOT_POWER_RETRY (R377): 500 ms have passed since the failed attempt. -/
  | slotPowerRetry (slot : Fin 20)
  /-- SLOT_SETTLE_DONE (R384): 5 ms after SLOT_PG the interface of `slot` is up: whether the parameter pages agree with the record, and the stripe blocks whose block there carries a factory bad-block mark and is not remapped. -/
  | slotSettleDone (slot : Fin 20) (geometry : Bool) (factoryBad : List Nat)
  /-- SLOT_CLEAR_FAULT (R377): CLEAR_FAULT is written. -/
  | slotClearFault (slot : Fin 20)
  /-- SLOT_FAIL_NOW (R396): FAIL_NOW is written. -/
  | slotFailNow (slot : Fin 20)
  /-- ONFI_READY_TIMEOUT (R383): a LUN of the slot is not ready within 1.2 times the rated time. -/
  | onfiReadyTimeout (slot : Fin 20)
  /-- NAND_ERASE_DONE (R389): an erase ends; the positions on which it failed. -/
  | nandEraseDone (what : EraseWhat) (failed : List Nat)
  /-- NO_GROUP_RETRY (R394): 60 s pass without a group. -/
  | noGroupRetry
  /-- REBUILD_STRIPE (R400): the rebuild takes its next stripe: the positions whose page is uncorrectable, what the decoding of the others reports, and whether the spare's program fails. -/
  | rebuildStripe (bad : List Nat) (ecc : DeepEcc) (progFail : Bool)
  /-- REPAIR_REPLY_TIMEOUT (R401): 10 s pass without the reply to repair request `id`. -/
  | repairReplyTimeout (id : Nat)
  /-- FLASH_PATROL_STRIPE (R403): the patrol takes its next stripe: uncorrectable positions and what the decoding of the others reports; P or Q disagreeing, with the position located; a marginal codeword; a tile whose LDPC engine disagreed. -/
  | flashPatrolStripe (bad : List Nat) (ecc : DeepEcc) (parity : Option (Option Nat)) (marginal : Bool) (engine : Option (Fin 2))
  /-- FLASH_PATROL_RATE_UPDATE (R403): an hour passes. -/
  | flashPatrolRateUpdate
  /-- MODULE_TEMP_READ (R404): the slot's sensor is read, in 0.25 °C steps. -/
  | moduleTempRead (slot : Fin 20) (reading : Option (BitVec 16))
  /-- PATH_TRAINING_DONE (R409): training and FEC alignment of path `p` complete. -/
  | pathTrainingDone (p : Fin 2)
  /-- PATH_TRAINING_TIMEOUT (R409): 100 ms of training have passed. -/
  | pathTrainingTimeout (p : Fin 2)
  /-- PATH_RETRAIN_DUE (R409): 1 s has passed since the training failed. -/
  | pathRetrainDue (p : Fin 2)
  /-- PATH_LINK_LOSS (R409): FEC alignment is lost, or more than 100 codewords were uncorrectable in 1 ms; the codewords that path has corrected, and failed to correct, since the last frame. -/
  | pathLinkLoss (p : Fin 2) (fec : Fec)
  /-- CW_PATH_SERVICE_WRITE (R409): the Reeve writes SERVICE. -/
  | cwPathServiceWrite (p : Fin 2) (service : Bool)
  /-- LINES_FRAME_RX (R413): a LINES frame: its lines, or the window whose service-region lines it carries. -/
  | linesFrameRx (m : MirrorRx) (es : List LineEntry) (win : Option WinRec)
  /-- LINES_BG_FRAME_RX (R413): a LINES_BG frame. -/
  | linesBgFrameRx (m : MirrorRx) (es : List LineEntry)
  /-- PAGE_MARK_RX (R438): a PAGE_MARK frame: pair addresses, LOST when true and UNMAP when false. -/
  | pageMarkRx (m : MirrorRx) (es : List (Nat × Bool))
  /-- HORIZON_FRAME_RX (R36): a HORIZON frame: QUEUE_IDs and horizons. -/
  | horizonFrameRx (m : MirrorRx) (es : List (Nat × Nat))
  /-- RECORD_FRAME_RX (R417): a RECORD frame of KIND 1 to 3. -/
  | recordFrameRx (m : MirrorRx) (kind idx : Nat) (words : List Nat)
  /-- RECORD_COMMIT_RX (R417): a RECORD frame of KIND 4. -/
  | recordCommitRx (m : MirrorRx) (seqs : List Nat)
  /-- KEY_GEN_ENTRY_RX (R415): a KEY frame with a generation entry. -/
  | keyGenEntryRx (m : MirrorRx) (side gen tenant midx salt : Nat)
  /-- KEY_MASTER_RX (R415): a KEY frame with a tenant master. -/
  | keyMasterRx (m : MirrorRx) (tenant midx serial master : Nat)
  /-- KEY_DESTROY_RX (R415): a KEY frame that names an entry to destroy: a master (tenant, index; index 2: every key of the tenant) when `tenantKey`, else a generation (side, generation). -/
  | keyDestroyRx (m : MirrorRx) (tenantKey : Bool) (a b : Nat)
  /-- REPAIR_REQ_RX (R440): a REPAIR_REQ for the page at a pair address. -/
  | repairReqRx (m : MirrorRx) (id page : Nat)
  /-- ASSAY_STATE_RX (R267): PAIR KIND 1. -/
  | assayStateRx (m : MirrorRx) (claim : Bool)
  /-- DRAIN_BEGIN_RX (R435): PAIR KIND 2. -/
  | drainBeginRx (m : MirrorRx)
  /-- CATCHUP_BEGIN_RX (R438): PAIR KIND 3. -/
  | catchupBeginRx (m : MirrorRx) (full0 full1 : Bool)
  /-- CATCHUP_DONE_RX (R438): PAIR KIND 4. -/
  | catchupDoneRx (m : MirrorRx)
  /-- TEMPER_SET_RX (R442): PAIR KIND 5. -/
  | temperSetRx (m : MirrorRx) (temper : Nat)
  /-- UNPAIR_RX (R441): PAIR KIND 6. -/
  | unpairRx (m : MirrorRx)
  /-- REPAIR_DONE_RX (R401): PAIR KIND 7. -/
  | repairDoneRx (m : MirrorRx) (id status : Nat)
  /-- KEY_COMMITTED_RX (R333): PAIR KIND 8. -/
  | keyCommittedRx (m : MirrorRx) (seq : Nat)
  /-- CONTROL_FRAME_RX (R415): a CONTROL frame. -/
  | controlFrameRx (c : ControlRx)
  /-- HELLO_RX (R419): a HELLO frame. -/
  | helloRx (p : Fin 2) (fchk : Bool) (fec : Fec) (h : Hello)
  /-- NAK_TIMER (R414): a SEQ has been missing for 20 µs while a higher one is held. -/
  | nakTimer
  /-- RETRANSMIT_TIMER (R414): the mirror frame has not been acknowledged for 100 µs. -/
  | retransmitTimer (seq : Nat)
  /-- CONTROL_SEND_TIMER (R415): a CONTROL frame is due on path `p`. -/
  | controlSendTimer (p : Fin 2)
  /-- HELLO_SEND_TIMER (R418): 100 µs have passed in a HELLO exchange. -/
  | helloSendTimer
  /-- REKEY_DUE (R418): 24 h of operating time have passed since the last rekey. -/
  | rekeyDue
  /-- CW_REKEY (R418): REKEY is written. -/
  | cwRekey
  /-- OLD_KEY_EPOCH_EXPIRY (R418): 10 ms have passed since a rekey. -/
  | oldKeyEpochExpiry
  /-- HEARTBEAT_TIMER (R423): 5 ms have passed since the last HEARTBEAT. -/
  | heartbeatTimer
  /-- TAKEOVER_REQ_RESEND (R420): 10 ms have passed since the last TAKEOVER_REQ. -/
  | takeoverReqResend
  /-- WITNESS_STATUS_RX (R421): a STATUS frame. -/
  | witnessStatusRx (f : WitFrame)
  /-- WITNESS_GRANT_RX (R431): a GRANT frame; what the scan of each ring's completion ring passes: the ring, its records, and those that are no notices. -/
  | witnessGrantRx (f : WitFrame) (scans : List (Nat × Nat × Nat))
  /-- WITNESS_DENY_RX (R421): a DENY frame. -/
  | witnessDenyRx (f : WitFrame)
  /-- WITNESS_FENCE_RX (R424): a FENCE frame. -/
  | witnessFenceRx (f : WitFrame)
  /-- WITNESS_CONTACT_TIMEOUT (R423): no valid witness frame for WITNESS_LOST_MS. -/
  | witnessContactTimeout
  /-- TWIN_CONTACT_TIMEOUT (R423): no valid Causeway frame for TWIN_LOST_MS. -/
  | twinContactTimeout
  /-- FENCE_N_ASSERT (R424): FENCE_N asserts. -/
  | fenceNAssert
  /-- FENCE_N_DEASSERT (R424): FENCE_N deasserts. -/
  | fenceNDeassert
  /-- CHECKPOINT_DUE (R430): CKPT_INTERVAL_MS has passed; whether the last checkpoint is still being written; the duration of this one in µs. -/
  | checkpointDue (late : Bool) (us : Nat)
  /-- CW_DRAIN (R435): DRAIN is written. -/
  | cwDrain
  /-- DRAIN_CUTOVER_READY (R435): the drain's quiesce step is looked at; the duration of the exact checkpoint in µs. -/
  | drainCutoverReady (us : Nat)
  /-- DRAIN_RELEASE_TIMEOUT (R435): 100 ms have passed since RELEASE_READY. -/
  | drainReleaseTimeout
  /-- CW_UNPAIR (R441): UNPAIR is written. -/
  | cwUnpair
  /-- CW_REPLACE_ALLOW (R419): REPLACE_ALLOW is written. -/
  | cwReplaceAllow
  /-- CW_PAIR_ALLOW_NEW (R419): PAIR_ALLOW_NEW is written. -/
  | cwPairAllowNew
  /-- PAIR_ALLOW_EXPIRY (R419): 10 min have passed since REPLACE_ALLOW, or PAIR_ALLOW_NEW, was written. -/
  | pairAllowExpiry (replace : Bool)
  /-- CATCHUP_COPY_EXTENT (R438): the chosen extent `x` is copied. -/
  | catchupCopyExtent (x : Nat)
  /-- CATCHUP_COMPLETE (R438): the copy is looked at. -/
  | catchupComplete
  /-- HANDBACK_START (R439): the catch-up's handback is looked at; the duration of the exact checkpoint in µs. -/
  | handbackStart (us : Nat)
  /-- KERUP_LINK_UP (R454): link `k` has trained: its width, the data lanes repaired, and the redundant lanes left in the weaker direction. -/
  | kerupLinkUp (k : Fin 13) (width repaired spares : Nat)
  /-- KERUP_LINK_DOWN (R454): link `k` goes down. -/
  | kerupLinkDown (k : Fin 13)
  /-- GUEST_RD_GRAN (R451): RD_GRAN on guest module `p`; `sramBad` as for CXL_MEMRD. -/
  | guestRdGran (p : Fin 2) (tag handle grant addr : Nat) (sramBad : Bool)
  /-- GUEST_RD_LINE (R451): RD_LINE. -/
  | guestRdLine (p : Fin 2) (tag handle grant addr : Nat) (sramBad : Bool)
  /-- GUEST_RD_HINT (R450): RD_HINT. -/
  | guestRdHint (p : Fin 2) (tag handle grant addr : Nat)
  /-- GUEST_WR_PTL (R459): WR_PTL. -/
  | guestWrPtl (p : Fin 2) (tag handle grant addr : Nat) (mask : BitVec 64) (data : Granule) (sramBad : Bool)
  /-- GUEST_WR_GRAN (R459): WR_GRAN. -/
  | guestWrGran (p : Fin 2) (tag handle grant addr : Nat) (data : Granule) (sramBad : Bool)
  /-- GUEST_WR_LINE (R459): WR_LINE. -/
  | guestWrLine (p : Fin 2) (tag handle grant addr : Nat) (data : LineData)
  /-- GUEST_REG_RD (R461): REG_RD from the guest. -/
  | guestRegRd (p : Fin 2) (tag off : Nat)
  /-- GUEST_REG_WR (R461): REG_WR from the guest. -/
  | guestRegWr (p : Fin 2) (tag off : Nat) (value : BitVec 32)
  /-- GQ_TAKEN_RX (R462): GQ_TAKEN. -/
  | gqTakenRx (p : Fin 2) (handle : Nat)
  /-- GQ_DONE_RX (R462): GQ_DONE. -/
  | gqDoneRx (p : Fin 2) (handle code ra rb : Nat)
  /-- GRANT_ACK_RX (R457): GRANT_ACK. -/
  | grantAckRx (p : Fin 2) (grant : Fin 256)
  /-- ECHO_RSP_RX (R467): ECHO_RSP. -/
  | echoRspRx (p : Fin 2) (pattern : BitVec 64)
  /-- GUEST_CMP_OK_RX (R449): CMP_OK from the guest. -/
  | guestCmpOkRx (p : Fin 2) (tag : Nat)
  /-- GUEST_CMP_ERR_RX (R449): CMP_ERR from the guest. -/
  | guestCmpErrRx (p : Fin 2) (tag code : Nat)
  /-- GUEST_REG_DATA_RX (R449): REG_DATA from the guest. -/
  | guestRegDataRx (p : Fin 2) (tag : Nat) (value : BitVec 32)
  /-- GQ_SUBMIT_DISPATCH (R462): the next waiting GUEST operation of queue `q` may be sent. -/
  | gqSubmitDispatch (q : Nat)
  /-- KG_GRANT_WRITE (R455): a word of KG_GRANT is written. -/
  | kgGrantWrite (grant : Fin 256) (word : Fin 3) (value : BitVec 32)
  /-- GRANT_REVOKE (R457): VALID 0 is written. -/
  | grantRevoke (grant : Fin 256)
  /-- GRANT_REVOKED_SEND (R457): the requests that passed check 2 under the grant are answered. -/
  | grantRevokedSend (grant : Fin 256)
  /-- GRANT_ACK_TIMEOUT (R457): 10 ms have passed since GRANT_REVOKED. -/
  | grantAckTimeout (grant : Fin 256)
  /-- GQ_TIMEOUT (R464): GQ_TMO_MS have passed since GQ_SUBMIT. -/
  | gqTimeout (handle : Nat)
  /-- G_ERR_NF_ASSERT (R465): the non-fatal pair is asserted. -/
  | gErrNfAssert
  /-- G_ERR_F_ASSERT (R465): the fatal pair is asserted. -/
  | gErrFAssert
  /-- GUEST_REFCLK_STABLE (R467): G_REFCLK has been stable for 100 µs. -/
  | guestRefclkStable
  /-- G_READY_ASSERT (R467): G_READY asserts. -/
  | gReadyAssert
  /-- GUEST_BRINGUP_TIMEOUT (R467): the time-out of the bring-up step under way has passed. -/
  | guestBringupTimeout
  /-- GUEST_RESET (R470): RESET is written. -/
  | guestReset
  /-- GUEST_SERVICE_WRITE (R470): SERVICE is written. -/
  | guestServiceWrite (service : Bool)
  /-- KERUP_L1_ENTRY (R468): guest module `p` has been idle for L1_IDLE_US. -/
  | kerupL1Entry (p : Fin 2)
  /-- KERUP_L1_EXIT (R468): either side asks for the active state. -/
  | kerupL1Exit (p : Fin 2)
  /-- KG_GREG_ACCESS (R475): the Reeve accesses offset `off` of the guest's register space. -/
  | kgGregAccess (off : Nat) (write : Bool) (value : BitVec 32)
  /-- KG_GREG_TIMEOUT (R475): 1 ms has passed since the oldest access of the offset. -/
  | kgGregTimeout (off : Nat)
  /-- REEVE_LOCKSTEP_FAIL (R478): a lockstep mismatch, and the cores that fail BIST afterwards. -/
  | reeveLockstepFail (failed : List (Fin 3))
  /-- REEVE_WATCHDOG_EXPIRY (R480): WDT_MS have passed without a kick. -/
  | reeveWatchdogExpiry
  /-- RV_WDT_KICK (R480): the firmware writes RV_WDT_KICK; the SRAM words corrected since the last kick (R480). -/
  | rvWdtKick (value : BitVec 32) (corrected : Nat)
  /-- REEVE_SRAM_UNCORRECTABLE (R480): a read of Reeve SRAM finds an uncorrectable word. -/
  | reeveSramUncorrectable (addr : Nat)
  /-- REEVE_BOOT (R492): the mask ROM runs: what verifying the slots gives, in the order firmware A, firmware B, configuration A, configuration B. -/
  | reeveBoot (checks : List SlotCheck)
  /-- FW_TRIAL_CONFIRM (R492): CONFIRM is written. -/
  | fwTrialConfirm
  /-- FW_TRIAL_TIMEOUT (R492): 60 s have passed since a trial firmware started. -/
  | fwTrialTimeout
  /-- FLASH_UNLOCK_WRITE (R483): a byte write at an offset of a bank. -/
  | flashUnlockWrite (bank : Fin 4) (off : Nat) (value : Byte)
  /-- PROGRAM_WORD (R483): an operand write of PROGRAM_WORD at an offset of the flash window. -/
  | programWord (addr : Nat) (value : BitVec 32)
  /-- PROGRAM_ROW (R483): an operand write of PROGRAM_ROW. -/
  | programRow (addr : Nat) (value : BitVec 32)
  /-- ERASE_SECTOR (R483): the operand write of ERASE_SECTOR. -/
  | eraseSector (addr : Nat) (value : BitVec 32)
  /-- ERASE_BLOCK (R483): the operand write of ERASE_BLOCK. -/
  | eraseBlock (addr : Nat) (value : BitVec 32)
  /-- FLASH_CLEAR_STATUS (R483): the command byte CLEAR_STATUS. -/
  | flashClearStatus (bank : Fin 4)
  /-- FLASH_RESET (R483): the command byte RESET. -/
  | flashReset (bank : Fin 4)
  /-- FLASH_OP_DONE (R486): the operation of a bank ends; whether its internal verify passes. -/
  | flashOpDone (bank : Fin 4) (ok : Bool)
  /-- FLASH_WINDOW_READ (R484): the Reeve reads the flash window. -/
  | flashWindowRead (addr : Nat) (ecc : EccVerdict)
  /-- READOUT_RAISE (R488): the message READOUT_RAISE. -/
  | readoutRaise (path : MgmtPath)
  /-- READOUT_LOWER_ARM (R489): the message READOUT_LOWER_ARM. -/
  | readoutLowerArm (path : MgmtPath)
  /-- READOUT_LOWER_CONFIRM (R489): the message READOUT_LOWER_CONFIRM. -/
  | readoutLowerConfirm (path : MgmtPath) (challenge : Nat)
  /-- READOUT_FINAL_ARM (R488): the message READOUT_FINAL_ARM. -/
  | readoutFinalArm (path : MgmtPath)
  /-- READOUT_FINAL_CONFIRM (R488): the message READOUT_FINAL_CONFIRM. -/
  | readoutFinalConfirm (path : MgmtPath) (challenge : Nat)
  /-- ARM_EXPIRY (R488): 10 s have passed since an arm. -/
  | armExpiry
  /-- READOUT_ERASE_DONE (R489): the erase of all four banks has ended. -/
  | readoutEraseDone
  /-- BMC_ADDRESS_MATCH (R495): the BMC addresses the port. -/
  | bmcAddressMatch
  /-- MCTP_CONTROL_MSG (R495): an MCTP control message: Set Endpoint ID with its value, or another. -/
  | mctpControlMsg (setEid : Option Nat)
  /-- GET_TID (R496): GetTID. -/
  | getTid
  /-- GET_PLDM_VERSION (R496): GetPLDMVersion. -/
  | getPldmVersion
  /-- GET_PLDM_TYPES (R496): GetPLDMTypes. -/
  | getPldmTypes
  /-- GET_PLDM_COMMANDS (R496): GetPLDMCommands of a type. -/
  | getPldmCommands (typ : Nat)
  /-- GET_PDR_REPOSITORY_INFO (R496): GetPDRRepositoryInfo. -/
  | getPdrRepositoryInfo
  /-- GET_PDR (R496): GetPDR of a record. -/
  | getPdr (n : Nat)
  /-- GET_SENSOR_READING (R496): GetSensorReading of a numeric sensor. -/
  | getSensorReading (sensor : Nat)
  /-- GET_STATE_SENSOR_READINGS (R496): GetStateSensorReadings: mode, pair state, group state. -/
  | getStateSensorReadings (sensor : Fin 3)
  /-- SET_NUMERIC_SENSOR_ENABLE (R496): SetNumericSensorEnable. -/
  | setNumericSensorEnable (sensor : Nat) (on : Bool)
  /-- SET_EVENT_RECEIVER (R496): SetEventReceiver: the receiver, or none. -/
  | setEventReceiver (eid : Option Nat)
  /-- POLL_FOR_PLATFORM_EVENT_MESSAGE (R496): PollForPlatformEventMessage. -/
  | pollForPlatformEventMessage
  /-- QUERY_DEVICE_IDENTIFIERS (R496): QueryDeviceIdentifiers. -/
  | queryDeviceIdentifiers
  /-- GET_FIRMWARE_PARAMETERS (R496): GetFirmwareParameters. -/
  | getFirmwareParameters
  /-- REQUEST_UPDATE (R497): RequestUpdate. -/
  | requestUpdate
  /-- PASS_COMPONENT_TABLE (R496): PassComponentTable. -/
  | passComponentTable
  /-- UPDATE_COMPONENT (R497): UpdateComponent of component 1 or 2, with the image's size. -/
  | updateComponent (comp : Fin 3) (size : Nat)
  /-- FIRMWARE_DATA_RX (R497): the reply to RequestFirmwareData. -/
  | firmwareDataRx (off : Nat) (bytes : List Byte)
  /-- TRANSFER_COMPLETE (R497): the transfer is complete; what verifying the slot gives. -/
  | transferComplete (check : SlotCheck)
  /-- VERIFY_COMPLETE (R497): the verify result is reported. -/
  | verifyComplete
  /-- APPLY_COMPLETE (R497): the apply result is reported. -/
  | applyComplete
  /-- ACTIVATE_FIRMWARE (R497): ActivateFirmware. -/
  | activateFirmware
  /-- GET_STATUS (R496): GetStatus. -/
  | getStatus
  /-- CANCEL_UPDATE_COMPONENT (R496): CancelUpdateComponent. -/
  | cancelUpdateComponent
  /-- CANCEL_UPDATE (R496): CancelUpdate. -/
  | cancelUpdate
  /-- PLDM_UNSUPPORTED (R496): another PLDM command. -/
  | pldmUnsupported (typ cmd : Nat)
  /-- SPDM_GET_VERSION (R498): GET_VERSION. -/
  | spdmGetVersion (t : Transport)
  /-- SPDM_GET_CAPABILITIES (R498): GET_CAPABILITIES. -/
  | spdmGetCapabilities (t : Transport)
  /-- SPDM_NEGOTIATE_ALGORITHMS (R498): NEGOTIATE_ALGORITHMS. -/
  | spdmNegotiateAlgorithms (t : Transport)
  /-- SPDM_GET_DIGESTS (R498): GET_DIGESTS. -/
  | spdmGetDigests (t : Transport)
  /-- SPDM_GET_CERTIFICATE (R498): GET_CERTIFICATE. -/
  | spdmGetCertificate (t : Transport) (slot off len : Nat)
  /-- SPDM_CHALLENGE (R498): CHALLENGE. -/
  | spdmChallenge (t : Transport) (slot : Nat)
  /-- SPDM_GET_MEASUREMENTS (R499): GET_MEASUREMENTS of a block; 0 for their number, 255 for all. -/
  | spdmGetMeasurements (t : Transport) (index : Nat)
  /-- SPDM_KEY_EXCHANGE (R498): KEY_EXCHANGE. -/
  | spdmKeyExchange (t : Transport)
  /-- SPDM_FINISH (R498): FINISH; whether it verifies. -/
  | spdmFinish (t : Transport) (session : Nat) (ok : Bool)
  /-- SPDM_HEARTBEAT (R498): HEARTBEAT; whether its MAC verifies. -/
  | spdmHeartbeat (t : Transport) (session : Nat) (ok : Bool)
  /-- SPDM_END_SESSION (R498): END_SESSION; whether its MAC verifies. -/
  | spdmEndSession (t : Transport) (session : Nat) (ok : Bool)
  /-- MGMT_STATUS (R501): the message STATUS. -/
  | mgmtStatus (path : MgmtPath)
  /-- MGMT_IDENTITY (R501): the message IDENTITY. -/
  | mgmtIdentity (path : MgmtPath)
  /-- MGMT_DEVICE_KEY (R501): the message DEVICE_KEY. -/
  | mgmtDeviceKey (path : MgmtPath)
  /-- MGMT_SENSOR_READ (R501): the message SENSOR_READ. -/
  | mgmtSensorRead (path : MgmtPath) (channels : List (Fin 256))
  /-- MGMT_BERM_READ (R501): the message BERM_READ. -/
  | mgmtBermRead (path : MgmtPath) (pool count : Nat)
  /-- MGMT_EVENT_READ (R530): the message EVENT_READ. -/
  | mgmtEventRead (path : MgmtPath) (start count : Nat)
  /-- MGMT_TENANT_SET (R501): the message TENANT_SET. -/
  | mgmtTenantSet (path : MgmtPath) (tenant state weight regions gib : Nat)
  /-- MGMT_BINDING_SET (R501): the message BINDING_SET. -/
  | mgmtBindingSet (path : MgmtPath) (pkeyMap : Bool) (n v : Nat)
  /-- MGMT_GRANT_SET (R501): the message GRANT_SET. -/
  | mgmtGrantSet (path : MgmtPath) (grant w0 w1 w2 : Nat)
  /-- MGMT_REG_READ (R501): the message REG_READ. -/
  | mgmtRegRead (path : MgmtPath) (off : Nat)
  /-- MGMT_REG_WRITE (R501): the message REG_WRITE. -/
  | mgmtRegWrite (path : MgmtPath) (off v : Nat)
  /-- MGMT_ASSAY_NOW (R501): the message ASSAY_NOW. -/
  | mgmtAssayNow (path : MgmtPath)
  /-- MGMT_PAIR_CMD (R501): the message PAIR_CMD. -/
  | mgmtPairCmd (path : MgmtPath) (bit : Nat)
  /-- MGMT_SERVICE (R501): the message SERVICE. -/
  | mgmtService (path : MgmtPath) (off v : Nat)
  /-- MGMT_TEMPER_SET (R571): the message TEMPER_SET. -/
  | mgmtTemperSet (path : MgmtPath) (temper : Nat)
  /-- GROUP_RESET_ARM (R502): the message GROUP_RESET_ARM. -/
  | groupResetArm (path : MgmtPath)
  /-- GROUP_RESET_CONFIRM (R502): the message GROUP_RESET_CONFIRM. -/
  | groupResetConfirm (path : MgmtPath) (challenge : Nat)
  /-- MGMT_UNKNOWN_TYPE (R500): a message of a type Table 14.11 does not list. -/
  | mgmtUnknownType (path : MgmtPath) (typ : Nat)
  /-- ADC_CONVERSION (R503): a conversion of a channel ends: the input in µV, or in 0.01 °C, and its highest value during the conversion. -/
  | adcConversion (c : Fin 32) (reading peak : BitVec 24)
  /-- ADC_TRACK_CLEAR (R504): TRACK_CLEAR is written. -/
  | adcTrackClear
  /-- ERROR_LINE_ASSERT (R510): error line `line` asserts; the Kerup link its block reports over, where it is on another tile; the pending bits of its word with the values their records carry. Line 0 stands for the collector's own checks. -/
  | errorLineAssert (line : Fin 48) (link : Option (Fin 13)) (word : List (Fin 32 × List Nat))
  /-- WIRE_FAULT_DETECT (R511): T equals C on a pair for 3 samples. -/
  | wireFaultDetect (pair : ErrPair)
  /-- WIRE_FAULT_POLL (R511): 1 ms of a wire fault has passed; what the pending word holds. -/
  | wireFaultPoll (line : Fin 48) (link : Option (Fin 13)) (word : List (Fin 32 × List Nat))
  /-- SOURCE_CONDITION_END (R515): the condition of a level source ends. -/
  | sourceConditionEnd (n : Fin 1536)
  /-- FC_ACK_WRITE (R515): a number is written to FC_ACK. -/
  | fcAckWrite (n : BitVec 11)
  /-- FC_RAISE_WRITE (R509): a number is written to FC_RAISE. -/
  | fcRaiseWrite (n : BitVec 11)
  /-- FC_PIN_CLEAR (R518): 1 is written to PIN_CLEAR. -/
  | fcPinClear
  /-- EVENT_RECORD_WRITE (R524): the Reeve writes the record of the oldest entry; whether a reset of the Reeve or the loss of VAUX cuts the write short, after the erase of its sectors where it rewrites them. -/
  | eventRecordWrite (cut : Bool)
  /-- TOKEN_REFILL (R523): 1 s has passed with the bucket of a code below 16 tokens. -/
  | tokenRefill (code : Fin 1536)
  /-- VAUX_RISE (R532): VAUX rises above 2.65 V: the straps SIDE, AUTOWAKE and I3C_ADDR, and what the part brings from its manufacture: the fuse map (register field keys and values) and the rest. -/
  | vauxRise (side : Fin 2) (autowake : Bool) (i3cAddr : Fin 4) (fuses : List (Nat × Nat)) (part : Part)
  /-- VAUX_FALL (R532): VAUX falls below 2.60 V. -/
  | vauxFall
  /-- AON_START_CHECK (R533): 5 ms have passed since the regulator's start, or its output is within range before: whether the start succeeded. -/
  | aonStartCheck (ok : Bool)
  /-- AON_START_RETRY (R533): 100 ms have passed since a failed start. -/
  | aonStartRetry
  /-- AON_REGULATOR_DIP (R533): the regulator output has been below 0.85 V for 100 µs. -/
  | aonRegulatorDip
  /-- PWR_RAMP (R550): RAMP is written. -/
  | pwrRamp
  /-- PWR_SLEEP (R549): SLEEP is written. -/
  | pwrSleep
  /-- PWR_SHUTDOWN (R551): SHUTDOWN is written. -/
  | pwrShutdown
  /-- PWR_RESTART (R552): RESTART is written. -/
  | pwrRestart
  /-- SHUTDOWN_WRITEBACK_DONE (R551): the write-back of a shutdown in SOLO has ended. -/
  | shutdownWritebackDone
  /-- PSEQ_GO_ASSERT (R539): PSEQ_GO asserts. -/
  | pseqGoAssert
  /-- GO_WAIT_TIMEOUT (R539): 10 s of waiting for PSEQ_GO have passed. -/
  | goWaitTimeout
  /-- RAIL_PG_ASSERT (R537): PSEQ_PG of the rail asserts. -/
  | railPgAssert (rail : Fin 12)
  /-- RAIL_PG_TIMEOUT (R537): PG_TMO_MS has passed since the rail was enabled. -/
  | railPgTimeout (rail : Fin 12)
  /-- RAIL_WINDOW_TIMEOUT (R537): 5 ms have passed since the rail's power-good. -/
  | railWindowTimeout (rail : Fin 12)
  /-- STEP_DELAY_EXPIRY (R537): STEP_DELAY_US has passed since the rail passed its window check. -/
  | stepDelayExpiry (rail : Fin 12)
  /-- PLL_LOCKED (R537): a PLL locks. -/
  | pllLocked (pll : Fin 13)
  /-- PLL_LOCK_TIMEOUT (R537): 200 µs have passed since the PLLs were started. -/
  | pllLockTimeout (pll : Fin 13)
  /-- RAMPDOWN_RAIL_OFF (R538): the disabled rail reads below 10 % of nominal, or 5 ms have passed. -/
  | rampdownRailOff (rail : Fin 12)
  /-- WAKE_RETRY_DELAY (R543): 100 ms have passed since the ramp-down after a wake step failure. -/
  | wakeRetryDelay
  /-- MODULE_DISCOVERY_START (R539): 20 ms have passed since PSEQ_DONE: the modules that stand in the slots, the DIMMs that answer, the faulty rows and columns of the SRAM arrays that the bring-up BIST found, the checkers that fail their self-test, with their unit, and the error lines that fail theirs. -/
  | moduleDiscoveryStart (modules : List Module) (dimms : List Dimm) (faults : List SramRepair) (checkers : List (Checker × Nat)) (errorLines : List (Fin 48))
  /-- BRINGUP_COMPLETE (R549): the work of BRINGUP is done. -/
  | bringupComplete
  /-- RAIL_PG_LOSS (R541): PSEQ_PG of the rail has been deasserted for 10 µs. -/
  | railPgLoss (rail : Fin 12)
  /-- PMBUS_POLL (R542): the rail's regulator is read: whether the transactions succeed, whether STATUS_WORD shows a fault, and the readings. -/
  | pmbusPoll (rail : Fin 12) (ok bad : Bool) (mv tenMa : Nat) (temp : BitVec 16)
  /-- RAIL_MARGIN_WRITE (R542): RAIL_MARGIN of the rail is written. -/
  | railMarginWrite (rail : Fin 12) (steps : BitVec 4)
  /-- PMBUS_MARGIN_ACK (R542): the regulator acknowledges the margin command, or PMBus fails. -/
  | pmbusMarginAck (rail : Fin 12) (ok : Bool)
  /-- XTAL_STABLE (R544): the crystal has run within 10 % of the RC frequency for 1 s. -/
  | xtalStable
  /-- XTAL_FAIL (R544): no crystal edge for 4 RC periods, or the counts differ by more than 10 %. -/
  | xtalFail
  /-- PLL_LOCK_LOSS (R546): a PLL loses lock in service. -/
  | pllLockLoss (pll : Fin 13)
  /-- PLL_RELOCK (R546): the PLL locks again. -/
  | pllRelock (pll : Fin 13)
  /-- PLL_RELOCK_TIMEOUT (R546): 200 µs pass without a relock. -/
  | pllRelockTimeout (pll : Fin 13)
  /-- FLASH_CLOCK_IDLE_STOP (R547): an ONFI channel has had no operation for FLASH_CLK_IDLE_US. -/
  | flashClockIdleStop (channel : Fin 40)
  /-- AON_ALARM_EXPIRY (R549): AON_ALARM expires. -/
  | aonAlarmExpiry
  /-- JUNCTION_SENSOR_READ (R555): the sensor of channel 16 + c is read, in 0.25 °C steps; the cause with which it is failed (0: none). -/
  | junctionSensorRead (c : Fin 16) (reading : BitVec 16) (cause : Fin 4)
  /-- THERMAL_TRIP (R558): the hardware trip of a sensor acts. -/
  | thermalTrip (c : Fin 16)
  /-- THROTTLE_GRACE_EXPIRY (R559): GRACE_MS have passed since the throttle condition set; the admitted write rate of the last 100 ms in MB/s. -/
  | throttleGraceExpiry (rate : Nat)
  /-- OPERATING_SECOND_TICK (R520): 1 s has passed. -/
  | operatingSecondTick
  /-- BERM_BUCKET_CLOSE (R566): 10 days of operating time have passed. -/
  | bermBucketClose
  /-- BERM_COMMIT (R567): the ledger is to be committed. -/
  | bermCommit
  /-- SLOT_PG_ASSERT (R377): SLOT_PG asserts. -/
  | slotPgAssert (slot : Fin 20)
  /-- HOLDOFF_EXPIRY (R550): PFAIL_N has been deasserted for HOLDOFF_MS. -/
  | holdoffExpiry
  /-- RING_CONTROL_RECORD_RETURN (R166): the ring control record returns with SQ_TAIL and CQ_HEAD. -/
  | ringControlRecordReturn (ld r : Fin 64) (tail head : Nat)
  /-- RING_READ_COMPLETION_TIMEOUT (R194): a read of ring memory returns an error, poison or no completion. -/
  | ringReadCompletionTimeout (ld r : Fin 64)
  /-- FLIT_REPLAY (R134): the CXL link runs a replay sequence. -/
  | flitReplay (link : Fin 16)
  /-- KERUP_FLIT_REPLAY (R477): a flit with a CRC error has been replayed. -/
  | kerupFlitReplay (k : Fin 13)
  /-- FEC_CODEWORD_UNCORRECTABLE (R162): an uncorrectable FEC codeword is received. -/
  | fecCodewordUncorrectable (link : Fin 16)
  /-- KERUP_CREDIT_RETURN (R452): a flit of guest module `p`: the credits its header returns, and the TAGs of the messages in it whose OPCODE the guest may not send, or whose length is not that of Table 13.6. -/
  | kerupCreditReturn (p : Fin 2) (idle : Bool) (req wdat cmp rdat : Nat) (bad : List Nat)
  /-- JTAG_ACCESS (R488): a JTAG access. -/
  | jtagAccess (act : JtagAct)
  /-- WITNESS_LINK_ALIGNED (R420): the witness link gains 8b/10b alignment. -/
  | witnessLinkAligned
  deriving DecidableEq, Repr

end Sys2Proof
end

