-- ==== Sys2Proof/Machine/Events.lean ====
section
/-! DEFINITION. The event sources of R508 and Table 15.1, by name, and the fixed attributes (class, severity, kind) that
the owning chapters' event tables give them. -/

namespace Sys2Proof.Machine

/-- One row of an event table: `count` sources from `first`, with their class and severity (encodings of Table 15.7) and
whether they are level sources (R508). -/
structure EventRow where
  first : Nat
  count : Nat
  cls : Nat
  sev : Nat
  level : Bool
  deriving DecidableEq, Repr

namespace Ev

/-- 856 MIRROR_WINDOW_FULL, ENVIRONMENT, WARNING, level (R66): MIRROR_WINDOW_FULL becomes 1; at most once per 10 s. -/
def MIRROR_WINDOW_FULL : Nat := 856
/-- 857 PERSIST_STALLED, ENVIRONMENT, WARNING, pulse (R66): A PERSIST exceeds PERSIST_WATCH_MS. -/
def PERSIST_STALLED : Nat := 857
/-- 858 HORIZON_FROZEN, ENVIRONMENT, INFO, pulse (R66): HORIZON_FROZEN changes in either direction; the record carries the new value. -/
def HORIZON_FROZEN : Nat := 858
/-- 859 TWIN_DURABILITY_WITHDRAWN, ENVIRONMENT, WARNING, level (R66): TWIN_COMPLETE_SUSPENDED becomes 1. -/
def TWIN_DURABILITY_WITHDRAWN : Nat := 859
/-- 120 ACCESS_REFUSED, SECURITY, WARNING, pulse (R100): A request fails checks 2 to 8 of Table 2.8; the record carries CHECK, PATH, TENANT and the pair address. -/
def ACCESS_REFUSED : Nat := 120
/-- 121 REGION_ATTACHED, ENVIRONMENT, INFO, pulse (R100): A record becomes ATTACHED, or a re-attach changes it. -/
def REGION_ATTACHED : Nat := 121
/-- 122 REGION_DETACHED, ENVIRONMENT, INFO, pulse (R100): A record becomes FREE. -/
def REGION_DETACHED : Nat := 122
/-- 123 TENANT_CHANGED, ENVIRONMENT, INFO, pulse (R100): A tenant record changes STATE, or its bindings change. -/
def TENANT_CHANGED : Nat := 123
/-- 124 KEY_GEN_LOW, ENVIRONMENT, WARNING, pulse (R100): Pulse: an attach or rotation leaves fewer than 1,048,576 generation values, and again at every later BRINGUP while fewer remain, under R80. -/
def KEY_GEN_LOW : Nat := 124
/-- 125 PKEY_DUPLICATE, ENVIRONMENT, WARNING, pulse (R100): Two valid P_Key map entries carry the same PKEY_PART. -/
def PKEY_DUPLICATE : Nat := 125
/-- 576 + l CXL_LINK_DOWN, LINK, WARNING, level (R134): Link l, 0 to 15, goes down in a serving mode. -/
def CXL_LINK_DOWN (i : Nat) : Nat := 576 + i
/-- 592 + l IDE_FAILURE, SECURITY, ERROR, pulse (R134): A MAC check fails on link l. -/
def IDE_FAILURE (i : Nat) : Nat := 592 + i
/-- 608 + l CXL_LINK_DEGRADED, LINK, WARNING, level (R134): Link l trains below its configured width or below 64 GT/s. -/
def CXL_LINK_DEGRADED (i : Nat) : Nat := 608 + i
/-- 624 + l LINK_REPLAY, LINK, INFO, pulse (R134): Link l exceeds 1,000 replay sequences in 1 s. -/
def LINK_REPLAY (i : Nat) : Nat := 624 + i
/-- 640 + p PORT_OUT_OF_SERVICE, LINK, ERROR, level (R134): Port p leaves service under R126; the record carries OOS_CAUSE. -/
def PORT_OUT_OF_SERVICE (i : Nat) : Nat := 640 + i
/-- 644 DORMANT_ACTIVATED, ENVIRONMENT, INFO, pulse (R134): R122 activates a logical device; the record carries its number. -/
def DORMANT_ACTIVATED : Nat := 644
/-- 645 DORMANT_RESUMED, ENVIRONMENT, INFO, pulse (R134): R123 deactivates a logical device. -/
def DORMANT_RESUMED : Nat := 645
/-- 646 CONFIG_INVALID, ENVIRONMENT, ERROR, pulse (R134): R105 or R108 disables a link or window. -/
def CONFIG_INVALID : Nat := 646
/-- 647 MLD_NOT_NEGOTIATED, LINK, WARNING, pulse (R134): R106 applies. -/
def MLD_NOT_NEGOTIATED : Nat := 647
/-- 648 CXL_PROTOCOL_UNSUPPORTED, LINK, WARNING, pulse (R134): R112 applies; at most once per 10 s per link. -/
def CXL_PROTOCOL_UNSUPPORTED : Nat := 648
/-- 704 + l ETH_LINK_DOWN, LINK, WARNING, level (R162): Link l goes down in a serving mode. -/
def ETH_LINK_DOWN (i : Nat) : Nat := 704 + i
/-- 720 + l ETH_LINK_DEGRADED, LINK, WARNING, pulse (R162): Link l has more than 10 uncorrectable FEC codewords in 1 s. -/
def ETH_LINK_DEGRADED (i : Nat) : Nat := 720 + i
/-- 736 + l ETH_LINK_OUT_OF_SERVICE, LINK, ERROR, level (R162): Link l leaves service under R136; the record carries OOS_CAUSE. -/
def ETH_LINK_OUT_OF_SERVICE (i : Nat) : Nat := 736 + i
/-- 752 HOST_FLAPPING, LINK, WARNING, pulse (R162): An entry becomes FLAPPING; the record carries the GID's low 64 bits. -/
def HOST_FLAPPING : Nat := 752
/-- 753 LOCATOR_FULL, ENVIRONMENT, WARNING, pulse (R162): R154 applies. -/
def LOCATOR_FULL : Nat := 753
/-- 754 QP_LIMIT, ENVIRONMENT, WARNING, pulse (R162): QP_ACTIVE reaches RDMA_QP_LIMIT. -/
def QP_LIMIT : Nat := 754
/-- 755 QP_CACHE_PRESSURE, ENVIRONMENT, INFO, level (R162): R149 miss condition holds. -/
def QP_CACHE_PRESSURE : Nat := 755
/-- 756 PKEY_VIOLATION, SECURITY, WARNING, pulse (R162): R142 drops a packet; at most once per 10 s per link. -/
def PKEY_VIOLATION : Nat := 756
/-- 757 ADDRESS_ADOPTED, ENVIRONMENT, INFO, pulse (R162): R160 adopts the partner's service addresses. -/
def ADDRESS_ADOPTED : Nat := 757
/-- 758 ADDRESS_RELEASED, ENVIRONMENT, INFO, pulse (R162): R160 releases them. -/
def ADDRESS_RELEASED : Nat := 758
/-- 759 ETH_PROTOCOL_UNSUPPORTED, LINK, WARNING, pulse (R162): R141 applies; at most once per 10 s per link. -/
def ETH_PROTOCOL_UNSUPPORTED : Nat := 759
/-- 760 RX_OVERFLOW, ENVIRONMENT, WARNING, pulse (R162): R157 drops a frame. -/
def RX_OVERFLOW : Nat := 760
/-- 761 PFC_PAUSE_LONG, LINK, WARNING, level (R162): R157 pause condition holds. -/
def PFC_PAUSE_LONG : Nat := 761
/-- 762 DATA_PATH_REFUSED, UNCORRECTED, ERROR, pulse (R162): R143 or R144 replaces a response with NAK remote operational error. -/
def DATA_PATH_REFUSED : Nat := 762
/-- 126 RING_STOPPED, ENVIRONMENT, WARNING, pulse (R195): A ring or command queue pair stops; the record carries the queue, STOP_CAUSE and the expected sequence number. -/
def RING_STOPPED : Nat := 126
/-- 127 NOTICE_LOST, ENVIRONMENT, INFO, pulse (R195): R190 drops a notice; at most once per 10 s per queue. -/
def NOTICE_LOST : Nat := 127
/-- 128 CQ_FULL, ENVIRONMENT, WARNING, pulse (R195): R167 full condition lasts 1 s. -/
def CQ_FULL : Nat := 128
/-- 129 HA_REMAP_DONE, ENVIRONMENT, INFO, pulse (R221): A remap switch completes; the record carries LOGICAL, the source slice and the target slice. -/
def HA_REMAP_DONE : Nat := 129
/-- 130 HA_REMAP_FAILED, ENVIRONMENT, ERROR, pulse (R221): A target slice fails BIST under Table 6.8. -/
def HA_REMAP_FAILED : Nat := 130
/-- 131 FC_LINE_REFETCHED, CORRECTED, INFO, pulse (R221): R208 refills a clean line; at most once per 10 s per slice. -/
def FC_LINE_REFETCHED : Nat := 131
/-- 132 FC_LINE_POISONED, UNCORRECTED, ERROR, pulse (R221): R208 poisons a FRONT_DIRTY line; the record carries the pair address. -/
def FC_LINE_POISONED : Nat := 132
/-- 133 HA_QUEUE_READBACK, CORRECTED, WARNING, pulse (R221): R210 repeats a queue-entry write; at most once per 10 s per slice. -/
def HA_QUEUE_READBACK : Nat := 133
/-- 134 HA_SLICE_RETIRED, ENVIRONMENT, WARNING, pulse (R221): A slice enters RETIRED. -/
def HA_SLICE_RETIRED : Nat := 134
/-- 928 STALL_CEILING, ENVIRONMENT, WARNING, pulse (R260): R231 completes a read; the record carries the pair address, the stall in µs and the cause of R232. -/
def STALL_CEILING : Nat := 928
/-- 929 STREAM_FALLBACK, ENVIRONMENT, WARNING, level (R260): A stream enters FALLBACK; the record carries the handle and CAUSE. -/
def STREAM_FALLBACK : Nat := 929
/-- 930 STREAM_WINDOW_KEPT, ENVIRONMENT, INFO, pulse (R260): A stream returns from FALLBACK to FILLING. -/
def STREAM_WINDOW_KEPT : Nat := 930
/-- 931 FRAME_WAIT, ENVIRONMENT, WARNING, level (R260): R236 wait condition holds. -/
def FRAME_WAIT : Nat := 931
/-- 932 WRITEBACK_PAUSED, ENVIRONMENT, WARNING, pulse (R260): WB_PAUSED changes in either direction; the record carries the new value. -/
def WRITEBACK_PAUSED : Nat := 932
/-- 933 GC_CRITICAL, ENVIRONMENT, WARNING, level (R260): GC_CRITICAL becomes 1. -/
def GC_CRITICAL : Nat := 933
/-- 934 WEAR_RELOCATION, ENVIRONMENT, INFO, pulse (R260): R256 starts a relocation. -/
def WEAR_RELOCATION : Nat := 934
/-- 935 READ_DISTURB_RELOCATION, CORRECTED, INFO, pulse (R260): R257 queues a block. -/
def READ_DISTURB_RELOCATION : Nat := 935
/-- 936 TRANSLATION_LOST, UNCORRECTED, ERROR, pulse (R260): R258 journals LOST entries; the record carries the first pair address and the length in pages. -/
def TRANSLATION_LOST : Nat := 936
/-- 937 PIN_FILL_DONE, ENVIRONMENT, INFO, pulse (R260): A pin fill ends; the record carries the region. -/
def PIN_FILL_DONE : Nat := 937
/-- 938 JOURNAL_PRESSURE, ENVIRONMENT, WARNING, level (R260): R254 condition holds. -/
def JOURNAL_PRESSURE : Nat := 938
/-- 939 STREAM_STATUS_REFUSED, ENVIRONMENT, WARNING, pulse (R260): R246 status write is refused. -/
def STREAM_STATUS_REFUSED : Nat := 939
/-- 992 SLUICE_THROTTLE, ENVIRONMENT, WARNING, pulse (R302): First entry into LIMITING or CLOSED in a minute. -/
def SLUICE_THROTTLE : Nat := 992
/-- 993 SLUICE_CLOSED, ENVIRONMENT, WARNING, level (R302): The Sluice enters CLOSED; at most once per 10 s. -/
def SLUICE_CLOSED : Nat := 993
/-- 994 FREEBOARD_CHANGED, ENVIRONMENT, INFO, pulse (R302): The first D computed after each entry to BRINGUP, whatever its value; then each D that differs by 1 GiB or more from the value last reported; the record carries D, P_save and R_save. -/
def FREEBOARD_CHANGED : Nat := 994
/-- 995 FREEBOARD_OVER, ENVIRONMENT, WARNING, level (R302): OVER becomes 1. -/
def FREEBOARD_OVER : Nat := 995
/-- 996 ASSAY_DONE, ENVIRONMENT, INFO, pulse (R302): An assay is accepted; the record carries C, ESR and the assayed energy. -/
def ASSAY_DONE : Nat := 996
/-- 997 ASSAY_FAILED, ENVIRONMENT, ERROR, pulse (R302): Third consecutive rejection under R270. -/
def ASSAY_FAILED : Nat := 997
/-- 998 BANK_DEGRADED, ENVIRONMENT, ERROR, pulse (R302): R270 accepts a confirmed fall. -/
def BANK_DEGRADED : Nat := 998
/-- 999 BANK_ID_INVALID, ENVIRONMENT, ERROR, level (R302): R266 finds the record invalid. -/
def BANK_ID_INVALID : Nat := 999
/-- 1000 BANK_NOT_READY, ENVIRONMENT, WARNING, level (R302): RECHARGE times out under Table 8.3. -/
def BANK_NOT_READY : Nat := 1000
/-- 1001 THERMAL_ENFORCE, ENVIRONMENT, WARNING, pulse (R302): R279 sets n = 1. -/
def THERMAL_ENFORCE : Nat := 1001
/-- 1002 SAVE_STARTED, ENVIRONMENT, WARNING, pulse (R302): SAVE entered; the record carries the dirty lines. -/
def SAVE_STARTED : Nat := 1002
/-- 1003 SAVE_SEALED, ENVIRONMENT, INFO, pulse (R302): The image pointer is written to the embedded flash, after the COMMIT has been written and read back, under Table 8.7. -/
def SAVE_SEALED : Nat := 1003
/-- 1004 SAVE_UNSEALED, UNCORRECTED, ERROR, pulse (R302): R298 applies. -/
def SAVE_UNSEALED : Nat := 1004
/-- 1005 SAVE_OUT_OF_RANGE, ENVIRONMENT, WARNING, pulse (R302): R285 applies. -/
def SAVE_OUT_OF_RANGE : Nat := 1005
/-- 1006 RESTORE_DONE, ENVIRONMENT, INFO, pulse (R302): R299 leaves RESTORE. -/
def RESTORE_DONE : Nat := 1006
/-- 1007 RESTORE_CW_REPAIRED, CORRECTED, INFO, pulse (R302): A codeword is rebuilt under R295; at most once per restore. -/
def RESTORE_CW_REPAIRED : Nat := 1007
/-- 1008 RESTORE_DAMAGED, UNCORRECTED, ERROR, pulse (R302): R297 poisons a range; the record carries the first pair address and the length in lines. -/
def RESTORE_DAMAGED : Nat := 1008
/-- 1009 JOURNAL_DAMAGED, FATAL, FATAL, level (R302): R296 finds a gap in the journal. -/
def JOURNAL_DAMAGED : Nat := 1009
/-- 1010 SAVE_SKIPPED, FATAL, FATAL, pulse (R302): PFAIL_N, in a serving mode or in QUARANTINE, with SAVE_PATH_OK 0, under R53. -/
def SAVE_SKIPPED : Nat := 1010
/-- 1011 PFAIL_GLITCH, ENVIRONMENT, INFO, pulse (R302): PFAIL_N asserts for less than PFAIL_FILTER_US; at most once per 10 s. -/
def PFAIL_GLITCH : Nat := 1011
/-- 864 TAG_MISMATCH, UNCORRECTED, ERROR, pulse (R345): R314 poisons a line; the record carries the pair address and KEY_GEN. -/
def TAG_MISMATCH : Nat := 864
/-- 865 MERGE_REFUSED, UNCORRECTED, ERROR, pulse (R345): R315 refuses a merge; the record carries the pair address and the row of Table 9.4. -/
def MERGE_REFUSED : Nat := 865
/-- 866 CP_DUP_MISMATCH, CORRECTED, WARNING, pulse (R345): R322 repeat agrees; at most once per 10 s per pipeline. -/
def CP_DUP_MISMATCH : Nat := 866
/-- 867 CP_FAILED, UNCORRECTED, ERROR, level (R345): A pipeline enters FAILED. -/
def CP_FAILED : Nat := 867
/-- 868 CP_NO_SPARE, ENVIRONMENT, ERROR, level (R345): Table 9.6 shares a physical pipeline. -/
def CP_NO_SPARE : Nat := 868
/-- 869 CP_REMAP_DONE, ENVIRONMENT, INFO, pulse (R345): A pipeline remap switch completes. -/
def CP_REMAP_DONE : Nat := 869
/-- 870 KEY_SLOT_MISSING, SECURITY, ERROR, pulse (R345): R328 finds no slot for a live generation. -/
def KEY_SLOT_MISSING : Nat := 870
/-- 871 KEY_PROVISIONED, SECURITY, INFO, pulse (R345): R335 stores a master; the record carries the tenant and SERIAL. -/
def KEY_PROVISIONED : Nat := 871
/-- 872 KEY_REJECTED, SECURITY, WARNING, pulse (R345): R335 rejects a blob; the record carries the tenant and the failed check. -/
def KEY_REJECTED : Nat := 872
/-- 873 ROTATION_STARTED, ENVIRONMENT, INFO, pulse (R345): R337 sets ROTATING. -/
def ROTATION_STARTED : Nat := 873
/-- 874 ROTATION_DONE, ENVIRONMENT, INFO, pulse (R345): R339 ends a rotation. -/
def ROTATION_DONE : Nat := 874
/-- 875 CRYPTO_ERASED, SECURITY, INFO, pulse (R345): R341 completes. -/
def CRYPTO_ERASED : Nat := 875
/-- 876 KEY_STORE_FALLBACK, UNCORRECTED, WARNING, pulse (R345): R332 uses the older slot. -/
def KEY_STORE_FALLBACK : Nat := 876
/-- 877 KEY_STORE_LOST, FATAL, FATAL, level (R345): R332 finds no valid slot. -/
def KEY_STORE_LOST : Nat := 877
/-- 878 CRYPTO_LENGTH, ENVIRONMENT, ERROR, pulse (R345): R320 refuses a request. -/
def CRYPTO_LENGTH : Nat := 878
/-- 879 SELF_TEST_FAILED, UNCORRECTED, ERROR, pulse (R345): A checker fails under R342 or R343; the record carries the checker and unit. -/
def SELF_TEST_FAILED : Nat := 879
/-- 880 FLIP_TEST_DONE, ENVIRONMENT, INFO, pulse (R345): A flip-mask set records RESULT; the record carries f and RESULT. -/
def FLIP_TEST_DONE : Nat := 880
/-- 881 KEY_STORE_ORPHANS, ENVIRONMENT, INFO, pulse (R345): R332 removes orphaned generation entries; the record carries the count. -/
def KEY_STORE_ORPHANS : Nat := 881
/-- 192 + c CHANNEL_OUT_OF_SERVICE, ENVIRONMENT, ERROR, level (R373): Channel c reaches OUT_OF_SERVICE; the record carries OOS_CAUSE. -/
def CHANNEL_OUT_OF_SERVICE (i : Nat) : Nat := 192 + i
/-- 208 + c CHANNEL_LOST, FATAL, FATAL, level (R373): R370 applies in a serving mode. -/
def CHANNEL_LOST (i : Nat) : Nat := 208 + i
/-- 224 + c DRAM_UNCORRECTABLE, UNCORRECTED, ERROR, pulse (R373): An uncorrectable codeword on channel c; the record carries rank, bank group, bank, row and column. -/
def DRAM_UNCORRECTABLE (i : Nat) : Nat := 224 + i
/-- 240 + c DRAM_CORRECTED, CORRECTED, INFO, pulse (R373): A corrected codeword; at most once per 10 s per channel. -/
def DRAM_CORRECTED (i : Nat) : Nat := 240 + i
/-- 256 + c DEVICE_MARKED, CORRECTED, WARNING, pulse (R373): R355 or R362 marks a device; the record carries rank, subchannel and device. -/
def DEVICE_MARKED (i : Nat) : Nat := 256 + i
/-- 272 + c ROW_REMAPPED, CORRECTED, INFO, pulse (R373): R365 enters a mapping. -/
def ROW_REMAPPED (i : Nat) : Nat := 272 + i
/-- 288 + c TRAINING_FAILED, ENVIRONMENT, ERROR, pulse (R373): A step of Table 10.3 fails; the record carries the step. -/
def TRAINING_FAILED (i : Nat) : Nat := 288 + i
/-- 304 + c CA_REPLAY, LINK, WARNING, pulse (R373): R361 replays; at most once per 10 s per channel. -/
def CA_REPLAY (i : Nat) : Nat := 304 + i
/-- 320 + c DIMM_HOT, ENVIRONMENT, WARNING, level (R373): R350 limit begins. -/
def DIMM_HOT (i : Nat) : Nat := 320 + i
/-- 336 DRAM_CAPACITY_SHORT, FATAL, FATAL, level (R373): R371 applies. -/
def DRAM_CAPACITY_SHORT : Nat := 336
/-- 337 SPD_INVALID, ENVIRONMENT, ERROR, pulse (R373): R346 or R348 rejects a module; the record carries channel and DIMM. -/
def SPD_INVALID : Nat := 337
/-- 338 CONFIG_MISMATCH, ENVIRONMENT, ERROR, level (R373): R347 leaves a channel NOT_USED. -/
def CONFIG_MISMATCH : Nat := 338
/-- 339 REMAP_EXHAUSTED, ENVIRONMENT, WARNING, pulse (R373): R365 finds no free entry or spare row. -/
def REMAP_EXHAUSTED : Nat := 339
/-- 340 PPR_APPLIED, ENVIRONMENT, INFO, pulse (R373): R366 repairs a row. -/
def PPR_APPLIED : Nat := 340
/-- 341 DRAIN_NO_ROOM, ENVIRONMENT, WARNING, pulse (R373): R368 stops a drain. -/
def DRAIN_NO_ROOM : Nat := 341
/-- 342 PATROL_PASS_DONE, ENVIRONMENT, INFO, pulse (R373): A patrol pass over every channel IN_SERVICE ends. -/
def PATROL_PASS_DONE : Nat := 342
/-- 384 + s MEMBER_FAILED, UNCORRECTED, ERROR, level (R407): The member in slot s fails under R396 or R377; the record carries the position and CAUSE. -/
def MEMBER_FAILED (i : Nat) : Nat := 384 + i
/-- 404 + s SLOT_POWER_FAILED, ENVIRONMENT, ERROR, level (R407): Slot s enters FAILED_POWER. -/
def SLOT_POWER_FAILED (i : Nat) : Nat := 404 + i
/-- 424 + s MODULE_REFUSED, ENVIRONMENT, WARNING, level (R407): Slot s enters REFUSED; the record carries CAUSE. -/
def MODULE_REFUSED (i : Nat) : Nat := 424 + i
/-- 444 + s MODULE_PRESENCE, ENVIRONMENT, INFO, pulse (R407): SLOT_PRSNT_N of slot s changes after its filter; the record carries the new value. -/
def MODULE_PRESENCE (i : Nat) : Nat := 444 + i
/-- 464 + s PROG_WINDOW, ENVIRONMENT, WARNING, level (R407): Slot s leaves its program window or its sensor fails under R404. -/
def PROG_WINDOW (i : Nat) : Nat := 464 + i
/-- 504 SPARE_TAKEN, ENVIRONMENT, INFO, pulse (R407): R398 takes a spare; the record carries slot and position. -/
def SPARE_TAKEN : Nat := 504
/-- 505 NO_SPARE, ENVIRONMENT, WARNING, level (R407): A position is FAILED with no spare present. -/
def NO_SPARE : Nat := 505
/-- 506 REBUILD_STARTED, ENVIRONMENT, INFO, pulse (R407): A rebuild begins or a position joins it. -/
def REBUILD_STARTED : Nat := 506
/-- 507 REBUILD_DONE, ENVIRONMENT, INFO, pulse (R407): A rebuild ends. -/
def REBUILD_DONE : Nat := 507
/-- 508 STRIPE_LOST, UNCORRECTED, ERROR, pulse (R407): R401 finds a lost stripe; the record carries the stripe block and page. -/
def STRIPE_LOST : Nat := 508
/-- 509 PAGES_REPAIRED, CORRECTED, INFO, pulse (R407): R401 repairs a page from the twin; at most once per 10 s. -/
def PAGES_REPAIRED : Nat := 509
/-- 510 PAGES_POISONED, UNCORRECTED, ERROR, pulse (R407): R401 journals pages LOST; the record carries the first pair address and the length in lines. -/
def PAGES_POISONED : Nat := 510
/-- 511 PARITY_MISMATCH, CORRECTED, WARNING, pulse (R407): R403 case 2. -/
def PARITY_MISMATCH : Nat := 511
/-- 512 FLASH_PATROL_DONE, ENVIRONMENT, INFO, pulse (R407): A patrol pass ends. -/
def FLASH_PATROL_DONE : Nat := 512
/-- 513 GROUP_FORMED, ENVIRONMENT, INFO, pulse (R407): R394 commits a new group. -/
def GROUP_FORMED : Nat := 513
/-- 514 GROUP_LOST, FATAL, FATAL, level (R407): R397 applies. -/
def GROUP_LOST : Nat := 514
/-- 515 NO_GROUP, ENVIRONMENT, ERROR, level (R407): R394 cannot form a group. -/
def NO_GROUP : Nat := 515
/-- 516 LDPC_ENGINE_RETIRED, ENVIRONMENT, WARNING, pulse (R407): R387 retires an engine. -/
def LDPC_ENGINE_RETIRED : Nat := 516
/-- 517 DIE_SPARES_LOW, ENVIRONMENT, WARNING, pulse (R407): A die reaches 10 % of its spare blocks. -/
def DIE_SPARES_LOW : Nat := 517
/-- 518 STRIPE_BLOCK_RETIRED, ENVIRONMENT, INFO, pulse (R407): R389 retires a stripe block. -/
def STRIPE_BLOCK_RETIRED : Nat := 518
/-- 800 + p PATH_DOWN, LINK, WARNING, level (R444): Path p leaves UP. -/
def PATH_DOWN (i : Nat) : Nat := 800 + i
/-- 802 + p PATH_OUT_OF_SERVICE, LINK, ERROR, level (R444): Path p enters OUT_OF_SERVICE; the record carries OOS_CAUSE. -/
def PATH_OUT_OF_SERVICE (i : Nat) : Nat := 802 + i
/-- 804 FRAME_AUTH_FAILED, SECURITY, ERROR, pulse (R444): R414 step 3; at most once per 10 s per path. -/
def FRAME_AUTH_FAILED : Nat := 804
/-- 805 TWIN_LOST, ENVIRONMENT, ERROR, level (R444): Twin contact is lost. -/
def TWIN_LOST : Nat := 805
/-- 806 TWIN_CONTACT, ENVIRONMENT, INFO, pulse (R444): Twin contact returns. -/
def TWIN_CONTACT : Nat := 806
/-- 807 WITNESS_LOST, ENVIRONMENT, ERROR, level (R444): Witness contact is lost. -/
def WITNESS_LOST : Nat := 807
/-- 808 WITNESS_CONTACT, ENVIRONMENT, INFO, pulse (R444): Witness contact returns. -/
def WITNESS_CONTACT : Nat := 808
/-- 809 WITNESS_AUTH_FAILED, SECURITY, ERROR, pulse (R444): A witness MAC fails; at most once per 10 s. -/
def WITNESS_AUTH_FAILED : Nat := 809
/-- 810 SELF_FENCED, ENVIRONMENT, ERROR, level (R444): Level: the controller is fenced with cause SELF; the condition ends when that fence ends under Table 12.11. -/
def SELF_FENCED : Nat := 810
/-- 811 FENCE_N_ASSERTED, ENVIRONMENT, ERROR, level (R444): Level: the controller is fenced with cause FENCE_N or WITNESS_ORDER; the condition ends when that fence ends under Table 12.11. -/
def FENCE_N_ASSERTED : Nat := 811
/-- 812 TAKEOVER_REQUESTED, ENVIRONMENT, WARNING, pulse (R444): A TAKEOVER_REQ is first sent; the record carries REASON. -/
def TAKEOVER_REQUESTED : Nat := 812
/-- 813 TAKEOVER_GRANTED, ENVIRONMENT, WARNING, pulse (R444): R431 step 1; the record carries the epoch and the side. -/
def TAKEOVER_GRANTED : Nat := 813
/-- 814 TAKEOVER_DENIED, ENVIRONMENT, WARNING, pulse (R444): A DENY is accepted; the record carries REASON. -/
def TAKEOVER_DENIED : Nat := 814
/-- 815 TAKEN_OVER, ENVIRONMENT, ERROR, pulse (R444): R425 applies without a drain. -/
def TAKEN_OVER : Nat := 815
/-- 816 CHECKPOINT_LATE, ENVIRONMENT, WARNING, pulse (R444): R430 skips a checkpoint; at most once per 10 s. -/
def CHECKPOINT_LATE : Nat := 816
/-- 817 CKPT_LOAD_FAILED, UNCORRECTED, ERROR, pulse (R444): R431 or R432 cannot resume a queue. -/
def CKPT_LOAD_FAILED : Nat := 817
/-- 818 CATCHUP_STARTED, ENVIRONMENT, INFO, pulse (R444): CATCHUP_BEGIN is sent or received. -/
def CATCHUP_STARTED : Nat := 818
/-- 819 CATCHUP_DONE, ENVIRONMENT, INFO, pulse (R444): CATCHUP_DONE is acknowledged. -/
def CATCHUP_DONE : Nat := 819
/-- 820 HANDBACK_DONE, ENVIRONMENT, INFO, pulse (R444): R439 step 3. -/
def HANDBACK_DONE : Nat := 820
/-- 821 DRAIN_DONE, ENVIRONMENT, INFO, pulse (R444): R435 grant learned. -/
def DRAIN_DONE : Nat := 821
/-- 822 DRAIN_ABANDONED, ENVIRONMENT, WARNING, pulse (R444): R435 or R436 abandons a drain. -/
def DRAIN_ABANDONED : Nat := 822
/-- 823 PAIRING_REFUSED, ENVIRONMENT, ERROR, pulse (R444): R419, R442 or R441 refuses; the record carries the cause. -/
def PAIRING_REFUSED : Nat := 823
/-- 824 PAIR_MIRRORING, ENVIRONMENT, INFO, pulse (R444): Pulse: both controllers enter PAIRED; raised once at each entry. -/
def PAIR_MIRRORING : Nat := 824
/-- 825 TEMPER_ADOPTED, ENVIRONMENT, INFO, pulse (R444): R442 adopts a temper. -/
def TEMPER_ADOPTED : Nat := 825
/-- 826 REKEYED, SECURITY, INFO, pulse (R444): A new KEY_EPOCH comes into force. -/
def REKEYED : Nat := 826
/-- 827 REPAIR_SERVED, ENVIRONMENT, INFO, pulse (R444): R440 answers a REPAIR_REQ; at most once per 10 s. -/
def REPAIR_SERVED : Nat := 827
/-- 828 UNPAIRED, ENVIRONMENT, INFO, pulse (R444): R441 completes. -/
def UNPAIRED : Nat := 828
/-- 1248 + k KERUP_LINK_DOWN, LINK, ERROR, level (R477): Link k goes down in a mode in which it is up. -/
def KERUP_LINK_DOWN (i : Nat) : Nat := 1248 + i
/-- 1264 + k KERUP_LANE_REPAIRED, CORRECTED, WARNING, pulse (R477): R471 repairs a lane of link k. -/
def KERUP_LANE_REPAIRED (i : Nat) : Nat := 1264 + i
/-- 1280 + k KERUP_WIDTH_DEGRADED, LINK, ERROR, level (R477): Link k trains below its full width. -/
def KERUP_WIDTH_DEGRADED (i : Nat) : Nat := 1280 + i
/-- 1296 + k KERUP_REPLAY, LINK, INFO, pulse (R477): Link k exceeds 1,000 replays in 1 s. -/
def KERUP_REPLAY (i : Nat) : Nat := 1296 + i
/-- 1344 GUEST_REG_REFUSED, SECURITY, WARNING, pulse (R477): R461 refuses an offset; at most once per 10 s. -/
def GUEST_REG_REFUSED : Nat := 1344
/-- 1345 GUEST_NONFATAL, UNCORRECTED, ERROR, level (R477): G_ERR_NF asserts. -/
def GUEST_NONFATAL : Nat := 1345
/-- 1346 GUEST_FATAL, FATAL, ERROR, level (R477): G_ERR_F asserts. -/
def GUEST_FATAL : Nat := 1346
/-- 1347 GUEST_ID_INVALID, ENVIRONMENT, ERROR, level (R477): R469 finds the record invalid. -/
def GUEST_ID_INVALID : Nat := 1347
/-- 1348 GUEST_WAKE_FAILED, ENVIRONMENT, ERROR, pulse (R477): R467 fails twice; the record carries CAUSE. -/
def GUEST_WAKE_FAILED : Nat := 1348
/-- 1349 GUEST_OUT_OF_SERVICE, ENVIRONMENT, WARNING, level (R477): The guest leaves IN_SERVICE; the record carries CAUSE. -/
def GUEST_OUT_OF_SERVICE : Nat := 1349
/-- 1350 GUEST_REVOKE_LATE, SECURITY, ERROR, pulse (R477): R457 receives no GRANT_ACK in 10 ms. -/
def GUEST_REVOKE_LATE : Nat := 1350
/-- 1351 GUEST_OP_TIMEOUT, ENVIRONMENT, WARNING, pulse (R477): R464 times out an operation; at most once per 10 s. -/
def GUEST_OP_TIMEOUT : Nat := 1351
/-- 1352 GUEST_PROTOCOL, LINK, ERROR, pulse (R477): R450 or KG_GREG finds a protocol error; at most once per 10 s. -/
def GUEST_PROTOCOL : Nat := 1352
/-- 1353 GRANT_REVOKED, SECURITY, INFO, pulse (R477): A revocation ends; the record carries the grant, the tenant and the end, GRANT_ACK or reset. -/
def GRANT_REVOKED : Nat := 1353
/-- 1360 + i GUEST_FIRMWARE_EVENT, ENVIRONMENT, INFO, pulse (R477): The guest writes INDEX i to GST_EVENT; the record carries VALUE. -/
def GUEST_FIRMWARE_EVENT (i : Nat) : Nat := 1360 + i
/-- 1056 REEVE_LOCKSTEP, UNCORRECTED, ERROR, pulse (R507): Lockstep comparison fails under R478. -/
def REEVE_LOCKSTEP : Nat := 1056
/-- 1057 REEVE_CORE_RETIRED, ENVIRONMENT, WARNING, pulse (R507): A core is retired; the record carries the core. -/
def REEVE_CORE_RETIRED : Nat := 1057
/-- 1058 REEVE_NO_SPARE, ENVIRONMENT, ERROR, level (R507): The Reeve runs without lockstep. -/
def REEVE_NO_SPARE : Nat := 1058
/-- 1059 REEVE_WATCHDOG, UNCORRECTED, ERROR, pulse (R507): The watchdog expires. -/
def REEVE_WATCHDOG : Nat := 1059
/-- 1060 REEVE_SRAM_UNCORRECTABLE, UNCORRECTED, ERROR, pulse (R507): Under R480. -/
def REEVE_SRAM_UNCORRECTABLE : Nat := 1060
/-- 1061 EFL_OP_FAILED, UNCORRECTED, ERROR, pulse (R507): ERR_VERIFY is set; the record carries the status word. -/
def EFL_OP_FAILED : Nat := 1061
/-- 1062 EFL_UNCORRECTABLE, UNCORRECTED, ERROR, pulse (R507): Under R486; the record carries the address. -/
def EFL_UNCORRECTABLE : Nat := 1062
/-- 1063 EFL_SEQUENCE, ENVIRONMENT, WARNING, pulse (R507): ERR_SEQUENCE or ERR_TWICE is set; at most once per 10 s. -/
def EFL_SEQUENCE : Nat := 1063
/-- 1064 FW_BOOTED, ENVIRONMENT, INFO, pulse (R507): Firmware starts; the record carries slot and VERSION. -/
def FW_BOOTED : Nat := 1064
/-- 1065 FW_SLOT_FALLBACK, ENVIRONMENT, WARNING, pulse (R507): Under R492. -/
def FW_SLOT_FALLBACK : Nat := 1065
/-- 1066 FW_TRIAL_FAILED, ENVIRONMENT, ERROR, pulse (R507): Under R492. -/
def FW_TRIAL_FAILED : Nat := 1066
/-- 1067 FW_SIGNATURE_FAILED, SECURITY, ERROR, pulse (R507): Under R497. -/
def FW_SIGNATURE_FAILED : Nat := 1067
/-- 1068 FW_ROLLBACK_REFUSED, SECURITY, WARNING, pulse (R507): Under R497. -/
def FW_ROLLBACK_REFUSED : Nat := 1068
/-- 1069 FW_UPDATE_DONE, ENVIRONMENT, INFO, pulse (R507): A trial is confirmed. -/
def FW_UPDATE_DONE : Nat := 1069
/-- 1070 RECOVERY_LOADER, ENVIRONMENT, WARNING, level (R507): Under R493. -/
def RECOVERY_LOADER : Nat := 1070
/-- 1071 CONFIG_REJECTED, ENVIRONMENT, ERROR, pulse (R507): Under R494. -/
def CONFIG_REJECTED : Nat := 1071
/-- 1072 READOUT_CHANGED, SECURITY, WARNING, pulse (R507): The level changes; the record carries old and new levels. -/
def READOUT_CHANGED : Nat := 1072
/-- 1073 READOUT_ERASE_DONE, SECURITY, WARNING, pulse (R507): Step 4 of R489 ends. -/
def READOUT_ERASE_DONE : Nat := 1073
/-- 1074 GROUP_RESET, ENVIRONMENT, WARNING, pulse (R507): Under R502. -/
def GROUP_RESET : Nat := 1074
/-- 1075 SPDM_AUTH_FAILED, SECURITY, WARNING, pulse (R507): Under R498; at most once per 10 s. -/
def SPDM_AUTH_FAILED : Nat := 1075
/-- 1076 MGMT_DENIED, SECURITY, WARNING, pulse (R507): Under R501. -/
def MGMT_DENIED : Nat := 1076
/-- 1077 ADC_RANGE_UNSTABLE, ENVIRONMENT, WARNING, pulse (R507): Under R504; the record carries the channel. -/
def ADC_RANGE_UNSTABLE : Nat := 1077
/-- 0 COLLECTOR_SELF_TEST, UNCORRECTED, ERROR, level (R509): A line fails the test of R512; DETAIL_B carries j. -/
def COLLECTOR_SELF_TEST : Nat := 0
/-- 1 COLLECTOR_QUEUE_FULL, ENVIRONMENT, WARNING, pulse (R509): R521 drops entries; raised once the queue has room again, with the count. -/
def COLLECTOR_QUEUE_FULL : Nat := 1
/-- 2 COLLECTOR_SRAM, CORRECTED, WARNING, pulse (R509): The collector's state or queue SRAM corrects a word; at most once per 10 s. -/
def COLLECTOR_SRAM : Nat := 2
/-- 3 LOG_DROPPED, ENVIRONMENT, WARNING, pulse (R509): R528 drops a record for want of a victim; at most once per 10 s. -/
def LOG_DROPPED : Nat := 3
/-- 4 LOG_REWRITE_LOST, ENVIRONMENT, ERROR, pulse (R509): R529 finds a sector rewrite interrupted by loss of VAUX or by a Reeve reset. -/
def LOG_REWRITE_LOST : Nat := 4
/-- 8 WIRE_FAULT_G_NF, UNCORRECTED, ERROR, level (R509): R511 applies to G_ERR_NF. -/
def WIRE_FAULT_G_NF : Nat := 8
/-- 9 WIRE_FAULT_G_F, UNCORRECTED, ERROR, level (R509): R511 applies to G_ERR_F. -/
def WIRE_FAULT_G_F : Nat := 9
/-- 16 + j WIRE_FAULT, UNCORRECTED, ERROR, level (R509): R511 applies to line j, for j = 2 to 47. -/
def WIRE_FAULT (i : Nat) : Nat := 16 + i
/-- 519 + t FLASH_TILE_FATAL, FATAL, FATAL, level (R509): Flash tile t reports an unrecoverable fault in its parity engines, translation hardware or channel sequencers. -/
def FLASH_TILE_FATAL (i : Nat) : Nat := 519 + i
/-- 1012 SPILLWAY_SEQ_FAULT, FATAL, FATAL, level (R509): The Spillway sequencer fails its self-check at BRINGUP, or its state parity fails in service. -/
def SPILLWAY_SEQ_FAULT : Nat := 1012
/-- 1013 BANK_SENSE_FAULT, FATAL, FATAL, level (R509): BANK_V or BANK_I reads at its range limit in HIGH for 10 ms; D of Table 8.1 is taken as 0 while it is uncleared. -/
def BANK_SENSE_FAULT : Nat := 1013
/-- FIRMWARE_n, sources 1408 to 1535 (Table 15.2). -/
def FIRMWARE (i : Nat) : Nat := 1408 + i
/-- 1152 VAUX_LOW, ENVIRONMENT, WARNING, level (R561): R535 condition holds. -/
def VAUX_LOW : Nat := 1152
/-- 1153 AON_START_FAILED, ENVIRONMENT, ERROR, pulse (R561): R533 finds AON_RETRIES not 0; the record carries the count. -/
def AON_START_FAILED : Nat := 1153
/-- 1154 XTAL_FAILED, ENVIRONMENT, WARNING, level (R561): R544 condition holds. -/
def XTAL_FAILED : Nat := 1154
/-- 1155 WAKE_STEP_FAILED, ENVIRONMENT, WARNING, pulse (R561): A wake step fails; the record carries FAIL_STEP and FAIL_INDEX. -/
def WAKE_STEP_FAILED : Nat := 1155
/-- 1156 WAKE_FAILED, FATAL, FATAL, level (R561): R543 second failure, or Table 16.2 in BRINGUP or RESTORE. -/
def WAKE_FAILED : Nat := 1156
/-- 1157 GO_WAIT, ENVIRONMENT, INFO, pulse (R561): R539 wait reaches 10 s. -/
def GO_WAIT : Nat := 1157
/-- 1158 MODE_CHANGED, ENVIRONMENT, INFO, pulse (R561): R549; the record carries the old and new mode. -/
def MODE_CHANGED : Nat := 1158
/-- 1159 SHUTDOWN_DONE, ENVIRONMENT, INFO, pulse (R561): R551 step 4. -/
def SHUTDOWN_DONE : Nat := 1159
/-- 1160 + i RAIL_WINDOW, ENVIRONMENT, WARNING, level (R561): Rail i is out of window under R540. -/
def RAIL_WINDOW (i : Nat) : Nat := 1160 + i
/-- 1172 + i RAIL_PG_LOST, FATAL, FATAL, level (R561): Rail i is lost under R540. -/
def RAIL_PG_LOST (i : Nat) : Nat := 1172 + i
/-- 1184 + i RAIL_REG_FAULT, ENVIRONMENT, WARNING, pulse (R561): STATUS_WORD of rail i shows a fault; at most once per 10 s per rail. -/
def RAIL_REG_FAULT (i : Nat) : Nat := 1184 + i
/-- 1196 MARGIN_SET, ENVIRONMENT, INFO, pulse (R561): R542 applies a margin; the record carries i and the steps. -/
def MARGIN_SET : Nat := 1196
/-- 1197 MARGIN_FAILED, ENVIRONMENT, WARNING, pulse (R561): R542 margin write fails. -/
def MARGIN_FAILED : Nat := 1197
/-- 1198 PMBUS_ERROR, ENVIRONMENT, WARNING, pulse (R561): R542 three failed transactions; the record carries i. -/
def PMBUS_ERROR : Nat := 1198
/-- 1199 CMD_REFUSED, ENVIRONMENT, WARNING, pulse (R561): A PWR_CMD command is refused; the record carries CMD and the mode. -/
def CMD_REFUSED : Nat := 1199
/-- 1200 THERMAL_WARNING, ENVIRONMENT, WARNING, level (R561): The warning threshold is set. -/
def THERMAL_WARNING : Nat := 1200
/-- 1201 THERMAL_THROTTLE, ENVIRONMENT, ERROR, level (R561): The throttle condition is set. -/
def THERMAL_THROTTLE : Nat := 1201
/-- 1202 THERMAL_SHUTDOWN, FATAL, FATAL, level (R561): The shutdown threshold is set; the record carries the channel. -/
def THERMAL_SHUTDOWN : Nat := 1202
/-- 1203 THERMAL_TRIP, FATAL, FATAL, pulse (R561): R558 trips; the record carries the channel. -/
def THERMAL_TRIP : Nat := 1203
/-- 1204 THERMAL_COLD, ENVIRONMENT, WARNING, level (R561): R550 waits for −40 °C. -/
def THERMAL_COLD : Nat := 1204
/-- 1205 PLL_RELOCKED, ENVIRONMENT, WARNING, pulse (R561): R546 relock; the record carries p; at most once per 10 s. -/
def PLL_RELOCKED : Nat := 1205
/-- 1206 PLL_FAILED, FATAL, FATAL, level (R561): R546 relock fails; the record carries p. -/
def PLL_FAILED : Nat := 1206
/-- 1208 + c SENSOR_FAILED, UNCORRECTED, ERROR, level (R561): Channel 16 + c fails under R556; the record carries CAUSE. -/
def SENSOR_FAILED (i : Nat) : Nat := 1208 + i
/-- 1078 BERM_DRAW, ENVIRONMENT, INFO, pulse (R576): A draw under Table 17.1; the record carries POOL, INSTANCE and REMAINING. -/
def BERM_DRAW : Nat := 1078
/-- 1079 BERM_LOW, ENVIRONMENT, WARNING, pulse (R576): LOW of a record becomes 1; the record carries POOL, INSTANCE and FORECAST_DAYS. -/
def BERM_LOW : Nat := 1079
/-- 1080 BERM_EXHAUSTED, ENVIRONMENT, ERROR, pulse (R576): EXHAUSTED of a record becomes 1; the record carries POOL and INSTANCE. -/
def BERM_EXHAUSTED : Nat := 1080
/-- 1081 BERM_REBUILT, ENVIRONMENT, WARNING, pulse (R576): R567 builds a new ledger. -/
def BERM_REBUILT : Nat := 1081
/-- 1082 TEMPER_CHANGED, ENVIRONMENT, INFO, pulse (R576): R571 accepts a change; the record carries the old and new temper. -/
def TEMPER_CHANGED : Nat := 1082
/-- 1083 TEMPER_IMAGE_REFUSED, SECURITY, WARNING, pulse (R576): R572 refuses an image; the record carries its TEMPER_MAX. -/
def TEMPER_IMAGE_REFUSED : Nat := 1083

end Ev

/-- Every assigned source (Table 15.1 and the owning chapters' event tables). The kind of a source whose row does not
begin with "Level" or "Pulse" is DEDUCED from the words of R508 (log entry 20). -/
def eventRows : List EventRow := [
  ⟨0, 1, 2, 3, true⟩,
  ⟨1, 1, 4, 2, false⟩,
  ⟨2, 1, 0, 2, false⟩,
  ⟨3, 1, 4, 2, false⟩,
  ⟨4, 1, 4, 3, false⟩,
  ⟨8, 1, 2, 3, true⟩,
  ⟨9, 1, 2, 3, true⟩,
  ⟨18, 46, 2, 3, true⟩,
  ⟨120, 1, 6, 2, false⟩,
  ⟨121, 1, 4, 1, false⟩,
  ⟨122, 1, 4, 1, false⟩,
  ⟨123, 1, 4, 1, false⟩,
  ⟨124, 1, 4, 2, false⟩,
  ⟨125, 1, 4, 2, false⟩,
  ⟨126, 1, 4, 2, false⟩,
  ⟨127, 1, 4, 1, false⟩,
  ⟨128, 1, 4, 2, false⟩,
  ⟨129, 1, 4, 1, false⟩,
  ⟨130, 1, 4, 3, false⟩,
  ⟨131, 1, 0, 1, false⟩,
  ⟨132, 1, 2, 3, false⟩,
  ⟨133, 1, 0, 2, false⟩,
  ⟨134, 1, 4, 2, false⟩,
  ⟨192, 16, 4, 3, true⟩,
  ⟨208, 16, 3, 4, true⟩,
  ⟨224, 16, 2, 3, false⟩,
  ⟨240, 16, 0, 1, false⟩,
  ⟨256, 16, 0, 2, false⟩,
  ⟨272, 16, 0, 1, false⟩,
  ⟨288, 16, 4, 3, false⟩,
  ⟨304, 16, 5, 2, false⟩,
  ⟨320, 16, 4, 2, true⟩,
  ⟨336, 1, 3, 4, true⟩,
  ⟨337, 1, 4, 3, false⟩,
  ⟨338, 1, 4, 3, true⟩,
  ⟨339, 1, 4, 2, false⟩,
  ⟨340, 1, 4, 1, false⟩,
  ⟨341, 1, 4, 2, false⟩,
  ⟨342, 1, 4, 1, false⟩,
  ⟨384, 20, 2, 3, true⟩,
  ⟨404, 20, 4, 3, true⟩,
  ⟨424, 20, 4, 2, true⟩,
  ⟨444, 20, 4, 1, false⟩,
  ⟨464, 20, 4, 2, true⟩,
  ⟨504, 1, 4, 1, false⟩,
  ⟨505, 1, 4, 2, true⟩,
  ⟨506, 1, 4, 1, false⟩,
  ⟨507, 1, 4, 1, false⟩,
  ⟨508, 1, 2, 3, false⟩,
  ⟨509, 1, 0, 1, false⟩,
  ⟨510, 1, 2, 3, false⟩,
  ⟨511, 1, 0, 2, false⟩,
  ⟨512, 1, 4, 1, false⟩,
  ⟨513, 1, 4, 1, false⟩,
  ⟨514, 1, 3, 4, true⟩,
  ⟨515, 1, 4, 3, true⟩,
  ⟨516, 1, 4, 2, false⟩,
  ⟨517, 1, 4, 2, false⟩,
  ⟨518, 1, 4, 1, false⟩,
  ⟨519, 2, 3, 4, true⟩,
  ⟨576, 16, 5, 2, true⟩,
  ⟨592, 16, 6, 3, false⟩,
  ⟨608, 16, 5, 2, true⟩,
  ⟨624, 16, 5, 1, false⟩,
  ⟨640, 4, 5, 3, true⟩,
  ⟨644, 1, 4, 1, false⟩,
  ⟨645, 1, 4, 1, false⟩,
  ⟨646, 1, 4, 3, false⟩,
  ⟨647, 1, 5, 2, false⟩,
  ⟨648, 1, 5, 2, false⟩,
  ⟨704, 16, 5, 2, true⟩,
  ⟨720, 16, 5, 2, false⟩,
  ⟨736, 16, 5, 3, true⟩,
  ⟨752, 1, 5, 2, false⟩,
  ⟨753, 1, 4, 2, false⟩,
  ⟨754, 1, 4, 2, false⟩,
  ⟨755, 1, 4, 1, true⟩,
  ⟨756, 1, 6, 2, false⟩,
  ⟨757, 1, 4, 1, false⟩,
  ⟨758, 1, 4, 1, false⟩,
  ⟨759, 1, 5, 2, false⟩,
  ⟨760, 1, 4, 2, false⟩,
  ⟨761, 1, 5, 2, true⟩,
  ⟨762, 1, 2, 3, false⟩,
  ⟨800, 2, 5, 2, true⟩,
  ⟨802, 2, 5, 3, true⟩,
  ⟨804, 1, 6, 3, false⟩,
  ⟨805, 1, 4, 3, true⟩,
  ⟨806, 1, 4, 1, false⟩,
  ⟨807, 1, 4, 3, true⟩,
  ⟨808, 1, 4, 1, false⟩,
  ⟨809, 1, 6, 3, false⟩,
  ⟨810, 1, 4, 3, true⟩,
  ⟨811, 1, 4, 3, true⟩,
  ⟨812, 1, 4, 2, false⟩,
  ⟨813, 1, 4, 2, false⟩,
  ⟨814, 1, 4, 2, false⟩,
  ⟨815, 1, 4, 3, false⟩,
  ⟨816, 1, 4, 2, false⟩,
  ⟨817, 1, 2, 3, false⟩,
  ⟨818, 1, 4, 1, false⟩,
  ⟨819, 1, 4, 1, false⟩,
  ⟨820, 1, 4, 1, false⟩,
  ⟨821, 1, 4, 1, false⟩,
  ⟨822, 1, 4, 2, false⟩,
  ⟨823, 1, 4, 3, false⟩,
  ⟨824, 1, 4, 1, false⟩,
  ⟨825, 1, 4, 1, false⟩,
  ⟨826, 1, 6, 1, false⟩,
  ⟨827, 1, 4, 1, false⟩,
  ⟨828, 1, 4, 1, false⟩,
  ⟨856, 1, 4, 2, true⟩,
  ⟨857, 1, 4, 2, false⟩,
  ⟨858, 1, 4, 1, false⟩,
  ⟨859, 1, 4, 2, true⟩,
  ⟨864, 1, 2, 3, false⟩,
  ⟨865, 1, 2, 3, false⟩,
  ⟨866, 1, 0, 2, false⟩,
  ⟨867, 1, 2, 3, true⟩,
  ⟨868, 1, 4, 3, true⟩,
  ⟨869, 1, 4, 1, false⟩,
  ⟨870, 1, 6, 3, false⟩,
  ⟨871, 1, 6, 1, false⟩,
  ⟨872, 1, 6, 2, false⟩,
  ⟨873, 1, 4, 1, false⟩,
  ⟨874, 1, 4, 1, false⟩,
  ⟨875, 1, 6, 1, false⟩,
  ⟨876, 1, 2, 2, false⟩,
  ⟨877, 1, 3, 4, true⟩,
  ⟨878, 1, 4, 3, false⟩,
  ⟨879, 1, 2, 3, false⟩,
  ⟨880, 1, 4, 1, false⟩,
  ⟨881, 1, 4, 1, false⟩,
  ⟨928, 1, 4, 2, false⟩,
  ⟨929, 1, 4, 2, true⟩,
  ⟨930, 1, 4, 1, false⟩,
  ⟨931, 1, 4, 2, true⟩,
  ⟨932, 1, 4, 2, false⟩,
  ⟨933, 1, 4, 2, true⟩,
  ⟨934, 1, 4, 1, false⟩,
  ⟨935, 1, 0, 1, false⟩,
  ⟨936, 1, 2, 3, false⟩,
  ⟨937, 1, 4, 1, false⟩,
  ⟨938, 1, 4, 2, true⟩,
  ⟨939, 1, 4, 2, false⟩,
  ⟨992, 1, 4, 2, false⟩,
  ⟨993, 1, 4, 2, true⟩,
  ⟨994, 1, 4, 1, false⟩,
  ⟨995, 1, 4, 2, true⟩,
  ⟨996, 1, 4, 1, false⟩,
  ⟨997, 1, 4, 3, false⟩,
  ⟨998, 1, 4, 3, false⟩,
  ⟨999, 1, 4, 3, true⟩,
  ⟨1000, 1, 4, 2, true⟩,
  ⟨1001, 1, 4, 2, false⟩,
  ⟨1002, 1, 4, 2, false⟩,
  ⟨1003, 1, 4, 1, false⟩,
  ⟨1004, 1, 2, 3, false⟩,
  ⟨1005, 1, 4, 2, false⟩,
  ⟨1006, 1, 4, 1, false⟩,
  ⟨1007, 1, 0, 1, false⟩,
  ⟨1008, 1, 2, 3, false⟩,
  ⟨1009, 1, 3, 4, true⟩,
  ⟨1010, 1, 3, 4, false⟩,
  ⟨1011, 1, 4, 1, false⟩,
  ⟨1012, 1, 3, 4, true⟩,
  ⟨1013, 1, 3, 4, true⟩,
  ⟨1056, 1, 2, 3, false⟩,
  ⟨1057, 1, 4, 2, false⟩,
  ⟨1058, 1, 4, 3, true⟩,
  ⟨1059, 1, 2, 3, false⟩,
  ⟨1060, 1, 2, 3, false⟩,
  ⟨1061, 1, 2, 3, false⟩,
  ⟨1062, 1, 2, 3, false⟩,
  ⟨1063, 1, 4, 2, false⟩,
  ⟨1064, 1, 4, 1, false⟩,
  ⟨1065, 1, 4, 2, false⟩,
  ⟨1066, 1, 4, 3, false⟩,
  ⟨1067, 1, 6, 3, false⟩,
  ⟨1068, 1, 6, 2, false⟩,
  ⟨1069, 1, 4, 1, false⟩,
  ⟨1070, 1, 4, 2, true⟩,
  ⟨1071, 1, 4, 3, false⟩,
  ⟨1072, 1, 6, 2, false⟩,
  ⟨1073, 1, 6, 2, false⟩,
  ⟨1074, 1, 4, 2, false⟩,
  ⟨1075, 1, 6, 2, false⟩,
  ⟨1076, 1, 6, 2, false⟩,
  ⟨1077, 1, 4, 2, false⟩,
  ⟨1078, 1, 4, 1, false⟩,
  ⟨1079, 1, 4, 2, false⟩,
  ⟨1080, 1, 4, 3, false⟩,
  ⟨1081, 1, 4, 2, false⟩,
  ⟨1082, 1, 4, 1, false⟩,
  ⟨1083, 1, 6, 2, false⟩,
  ⟨1152, 1, 4, 2, true⟩,
  ⟨1153, 1, 4, 3, false⟩,
  ⟨1154, 1, 4, 2, true⟩,
  ⟨1155, 1, 4, 2, false⟩,
  ⟨1156, 1, 3, 4, true⟩,
  ⟨1157, 1, 4, 1, false⟩,
  ⟨1158, 1, 4, 1, false⟩,
  ⟨1159, 1, 4, 1, false⟩,
  ⟨1160, 12, 4, 2, true⟩,
  ⟨1172, 12, 3, 4, true⟩,
  ⟨1184, 12, 4, 2, false⟩,
  ⟨1196, 1, 4, 1, false⟩,
  ⟨1197, 1, 4, 2, false⟩,
  ⟨1198, 1, 4, 2, false⟩,
  ⟨1199, 1, 4, 2, false⟩,
  ⟨1200, 1, 4, 2, true⟩,
  ⟨1201, 1, 4, 3, true⟩,
  ⟨1202, 1, 3, 4, true⟩,
  ⟨1203, 1, 3, 4, false⟩,
  ⟨1204, 1, 4, 2, true⟩,
  ⟨1205, 1, 4, 2, false⟩,
  ⟨1206, 1, 3, 4, true⟩,
  ⟨1208, 16, 2, 3, true⟩,
  ⟨1248, 13, 5, 3, true⟩,
  ⟨1264, 13, 0, 2, false⟩,
  ⟨1280, 13, 5, 3, true⟩,
  ⟨1296, 13, 5, 1, false⟩,
  ⟨1344, 1, 6, 2, false⟩,
  ⟨1345, 1, 2, 3, true⟩,
  ⟨1346, 1, 3, 3, true⟩,
  ⟨1347, 1, 4, 3, true⟩,
  ⟨1348, 1, 4, 3, false⟩,
  ⟨1349, 1, 4, 2, true⟩,
  ⟨1350, 1, 6, 3, false⟩,
  ⟨1351, 1, 4, 2, false⟩,
  ⟨1352, 1, 5, 3, false⟩,
  ⟨1353, 1, 6, 1, false⟩,
  ⟨1360, 48, 4, 1, false⟩,
  ⟨1408, 128, 4, 1, false⟩]

/-- The row of a source; a number that no chapter assigns has none and is never raised. -/
def eventRow? (n : Nat) : Option EventRow :=
  eventRows.find? fun r => decide (r.first ≤ n) && decide (n < r.first + r.count)

/-- The quarantine sources of R514. -/
def quarSource (n : Nat) : Bool :=
  (decide (208 ≤ n) && decide (n ≤ 223)) || [336, 514, 519, 520, 877, 1009, 1012].contains n

/-- The save-path sources of Table 15.6. -/
def savePathSources : List Nat := [514, 519, 520, 1012, 1013, 1252, 1253]

end Sys2Proof.Machine
end

