-- ==== Sys2Proof/Machine/RegTable.lean ====
section
/-! DEFINITION. The register tables of the spec as one table of field rows: where each field lies, how it may be
accessed (Table 0.8), what its reset column says (R14) and which LOCK governs it (R13). -/

namespace Sys2Proof.Machine

/-- Access types of Table 0.8. -/
inductive Access where
  | ro | rw | wo | w1c | rc | rwl
  deriving DecidableEq, Repr

/-- What the reset column of a field says (R14). -/
inductive ResetSrc where
  | value | config | fuse | strap
  deriving DecidableEq, Repr

/-- One row of a register table: `c1 × c2` fields at `base + s1 i + s2 j`. -/
structure RegRow where
  base : Nat
  s1 : Nat
  c1 : Nat
  s2 : Nat
  c2 : Nat
  lo : Nat
  w : Nat
  acc : Access
  src : ResetSrc
  reset : Nat
  lock : Nat
  wide : Bool
  deriving DecidableEq, Repr

/-- Part 0 of the register table. -/
def regRows0 : List RegRow := [
  ⟨0x1000, 0x0, 1, 0x0, 1, 0, 64, .ro, .value, 0x0, 0x1030, true⟩,
  ⟨0x1008, 0x0, 1, 0x0, 1, 0, 64, .ro, .value, 0x0, 0x1030, true⟩,
  ⟨0x1010, 0x0, 1, 0x0, 1, 0, 64, .ro, .value, 0x0, 0x1030, true⟩,
  ⟨0x1018, 0x0, 1, 0x0, 1, 0, 64, .rc, .value, 0x0, 0x1030, true⟩,
  ⟨0x1020, 0x0, 1, 0x0, 1, 0, 20, .ro, .value, 0x0, 0x1030, false⟩,
  ⟨0x1024, 0x0, 1, 0x0, 1, 6, 1, .ro, .value, 0x0, 0x1030, false⟩,
  ⟨0x1024, 0x0, 1, 0x0, 1, 5, 1, .ro, .value, 0x0, 0x1030, false⟩,
  ⟨0x1024, 0x0, 1, 0x0, 1, 4, 1, .ro, .value, 0x0, 0x1030, false⟩,
  ⟨0x1024, 0x0, 1, 0x0, 1, 3, 1, .ro, .value, 0x0, 0x1030, false⟩,
  ⟨0x1024, 0x0, 1, 0x0, 1, 2, 1, .ro, .value, 0x0, 0x1030, false⟩,
  ⟨0x1024, 0x0, 1, 0x0, 1, 0, 2, .ro, .value, 0x0, 0x1030, false⟩,
  ⟨0x1028, 0x0, 1, 0x0, 1, 16, 3, .ro, .value, 0x0, 0x1030, false⟩,
  ⟨0x1028, 0x0, 1, 0x0, 1, 0, 16, .ro, .value, 0x0, 0x1030, false⟩,
  ⟨0x102C, 0x0, 1, 0x0, 1, 0, 24, .ro, .value, 0x0, 0x1030, false⟩,
  ⟨0x1030, 0x0, 1, 0x0, 1, 31, 1, .rw, .value, 0x0, 0x1030, false⟩,
  ⟨0x1030, 0x0, 1, 0x0, 1, 8, 8, .rwl, .config, 0x0, 0x1030, false⟩,
  ⟨0x1030, 0x0, 1, 0x0, 1, 2, 1, .rwl, .config, 0x0, 0x1030, false⟩,
  ⟨0x1030, 0x0, 1, 0x0, 1, 0, 2, .rwl, .config, 0x0, 0x1030, false⟩,
  ⟨0x60000, 0x10, 4096, 0x0, 1, 8, 8, .rw, .config, 0x0, 0x70000, false⟩,
  ⟨0x60000, 0x10, 4096, 0x0, 1, 2, 1, .ro, .config, 0x0, 0x70000, false⟩,
  ⟨0x60000, 0x10, 4096, 0x0, 1, 0, 2, .rw, .config, 0x0, 0x70000, false⟩,
  ⟨0x60004, 0x10, 4096, 0x0, 1, 16, 13, .ro, .value, 0x0, 0x70000, false⟩,
  ⟨0x60004, 0x10, 4096, 0x0, 1, 0, 13, .rw, .config, 0x0, 0x70000, false⟩,
  ⟨0x60008, 0x10, 4096, 0x0, 1, 0, 18, .rw, .config, 0x0, 0x70000, false⟩,
  ⟨0x6000C, 0x10, 4096, 0x0, 1, 0, 18, .ro, .value, 0x0, 0x70000, false⟩,
  ⟨0x78000, 0x4, 4096, 0x0, 1, 28, 1, .rw, .config, 0x0, 0x70000, false⟩,
  ⟨0x78000, 0x4, 4096, 0x0, 1, 16, 12, .rw, .config, 0x0, 0x70000, false⟩,
  ⟨0x78000, 0x4, 4096, 0x0, 1, 15, 1, .rw, .config, 0x0, 0x70000, false⟩,
  ⟨0x78000, 0x4, 4096, 0x0, 1, 0, 15, .rw, .config, 0x0, 0x70000, false⟩,
  ⟨0x70000, 0x0, 1, 0x0, 1, 31, 1, .rw, .value, 0x0, 0x70000, false⟩,
  ⟨0x70000, 0x0, 1, 0x0, 1, 0, 1, .ro, .strap, 0x0, 0x70000, false⟩,
  ⟨0x70004, 0x0, 1, 0x0, 1, 16, 13, .ro, .value, 0x0, 0x70000, false⟩,
  ⟨0x70004, 0x0, 1, 0x0, 1, 0, 13, .ro, .value, 0x0, 0x70000, false⟩,
  ⟨0x70008, 0x0, 1, 0x0, 1, 0, 18, .ro, .value, 0x0, 0x70000, false⟩,
  ⟨0x7000C, 0x0, 1, 0x0, 1, 0, 18, .rwl, .config, 0x0, 0x70000, false⟩,
  ⟨0x70010, 0x0, 1, 0x0, 1, 0, 14, .rwl, .config, 0x0, 0x70000, false⟩,
  ⟨0x70014, 0x0, 1, 0x0, 1, 0, 14, .ro, .value, 0x0, 0x70000, false⟩,
  ⟨0x70018, 0x0, 1, 0x0, 1, 0, 32, .ro, .config, 0x0, 0x70000, false⟩,
  ⟨0x7001C, 0x0, 1, 0x0, 1, 0, 32, .rc, .value, 0x0, 0x70000, false⟩,
  ⟨0x70020, 0x0, 1, 0x0, 1, 31, 1, .w1c, .value, 0x0, 0x70000, false⟩,
  ⟨0x70020, 0x0, 1, 0x0, 1, 24, 4, .ro, .value, 0x0, 0x70000, false⟩,
  ⟨0x70020, 0x0, 1, 0x0, 1, 20, 4, .ro, .value, 0x0, 0x70000, false⟩,
  ⟨0x70020, 0x0, 1, 0x0, 1, 8, 12, .ro, .value, 0x0, 0x70000, false⟩,
  ⟨0x70020, 0x0, 1, 0x0, 1, 0, 6, .ro, .value, 0x0, 0x70000, false⟩,
  ⟨0x70028, 0x0, 1, 0x0, 1, 0, 49, .ro, .value, 0x0, 0x70000, true⟩,
  ⟨0x70100, 0x4, 64, 0x0, 1, 15, 1, .rw, .config, 0x0, 0x70000, false⟩,
  ⟨0x70100, 0x4, 64, 0x0, 1, 14, 1, .rw, .config, 0x0, 0x70000, false⟩,
  ⟨0x70100, 0x4, 64, 0x0, 1, 13, 1, .rw, .config, 0x0, 0x70000, false⟩,
  ⟨0x70100, 0x4, 64, 0x0, 1, 12, 1, .rw, .config, 0x0, 0x70000, false⟩,
  ⟨0x70100, 0x4, 64, 0x0, 1, 0, 12, .rw, .config, 0x0, 0x70000, false⟩,
  ⟨0x200000, 0x0, 1, 0x0, 1, 31, 1, .rw, .value, 0x0, 0x200000, false⟩,
  ⟨0x200000, 0x0, 1, 0x0, 1, 0, 2, .rwl, .config, 0x0, 0x200000, false⟩,
  ⟨0x200000, 0x0, 1, 0x0, 1, 2, 2, .rwl, .config, 0x0, 0x200000, false⟩,
  ⟨0x200000, 0x0, 1, 0x0, 1, 4, 2, .rwl, .config, 0x0, 0x200000, false⟩,
  ⟨0x200000, 0x0, 1, 0x0, 1, 6, 2, .rwl, .config, 0x0, 0x200000, false⟩,
  ⟨0x200004, 0x0, 1, 0x0, 1, 16, 2, .ro, .value, 0x0, 0x200000, false⟩,
  ⟨0x200004, 0x0, 1, 0x0, 1, 0, 16, .ro, .value, 0x0, 0x200000, false⟩,
  ⟨0x200100, 0x20, 4, 0x0, 1, 0, 1, .rw, .config, 0x0, 0x200000, false⟩,
  ⟨0x200104, 0x20, 4, 0x0, 1, 16, 16, .ro, .value, 0x0, 0x200000, false⟩,
  ⟨0x200104, 0x20, 4, 0x0, 1, 8, 8, .ro, .value, 0x0, 0x200000, false⟩]

/-- Part 1 of the register table. -/
def regRows1 : List RegRow := [
  ⟨0x200104, 0x20, 4, 0x0, 1, 2, 1, .ro, .value, 0x0, 0x200000, false⟩,
  ⟨0x200104, 0x20, 4, 0x0, 1, 0, 2, .ro, .value, 0x0, 0x200000, false⟩,
  ⟨0x200108, 0x20, 4, 0x0, 1, 0, 32, .rc, .value, 0x0, 0x200000, false⟩,
  ⟨0x201000, 0x40, 16, 0x0, 1, 21, 1, .rwl, .config, 0x0, 0x200000, false⟩,
  ⟨0x201000, 0x40, 16, 0x0, 1, 16, 5, .rwl, .config, 0x0, 0x200000, false⟩,
  ⟨0x201000, 0x40, 16, 0x0, 1, 8, 6, .rwl, .config, 0x0, 0x200000, false⟩,
  ⟨0x201004, 0x40, 16, 0x0, 1, 0, 1, .wo, .value, 0x0, 0x200000, false⟩,
  ⟨0x201008, 0x40, 16, 0x0, 1, 28, 1, .ro, .value, 0x0, 0x200000, false⟩,
  ⟨0x201008, 0x40, 16, 0x0, 1, 26, 2, .ro, .value, 0x0, 0x200000, false⟩,
  ⟨0x201008, 0x40, 16, 0x0, 1, 25, 1, .ro, .value, 0x0, 0x200000, false⟩,
  ⟨0x201008, 0x40, 16, 0x0, 1, 24, 1, .ro, .value, 0x0, 0x200000, false⟩,
  ⟨0x201008, 0x40, 16, 0x0, 1, 16, 5, .ro, .value, 0x0, 0x200000, false⟩,
  ⟨0x201008, 0x40, 16, 0x0, 1, 0, 2, .ro, .value, 0x0, 0x200000, false⟩,
  ⟨0x20100C, 0x40, 16, 0x0, 1, 0, 32, .rc, .value, 0x0, 0x200000, false⟩,
  ⟨0x201010, 0x40, 16, 0x0, 1, 0, 32, .rc, .value, 0x0, 0x200000, false⟩,
  ⟨0x201014, 0x40, 16, 0x0, 1, 0, 32, .rc, .value, 0x0, 0x200000, false⟩,
  ⟨0x201018, 0x40, 16, 0x0, 1, 0, 16, .rc, .value, 0x0, 0x200000, false⟩,
  ⟨0x202000, 0x20, 64, 0x0, 1, 31, 1, .rwl, .config, 0x0, 0x200000, false⟩,
  ⟨0x202000, 0x20, 64, 0x0, 1, 24, 1, .rwl, .config, 0x0, 0x200000, false⟩,
  ⟨0x202000, 0x20, 64, 0x0, 1, 0, 18, .rwl, .config, 0x0, 0x200000, false⟩,
  ⟨0x202004, 0x20, 64, 0x0, 1, 0, 18, .rwl, .config, 0x0, 0x200000, false⟩,
  ⟨0x202008, 0x20, 64, 0x0, 1, 7, 1, .ro, .value, 0x0, 0x200000, false⟩,
  ⟨0x202008, 0x20, 64, 0x0, 1, 6, 1, .ro, .value, 0x0, 0x200000, false⟩,
  ⟨0x202008, 0x20, 64, 0x0, 1, 4, 2, .ro, .value, 0x0, 0x200000, false⟩,
  ⟨0x202008, 0x20, 64, 0x0, 1, 3, 1, .ro, .value, 0x0, 0x200000, false⟩,
  ⟨0x20200C, 0x20, 64, 0x0, 1, 0, 16, .ro, .value, 0x2, 0x200000, false⟩,
  ⟨0x300000, 0x0, 1, 0x0, 1, 31, 1, .rw, .value, 0x0, 0x300000, false⟩,
  ⟨0x300000, 0x0, 1, 0x0, 1, 16, 4, .rwl, .config, 0x0, 0x300000, false⟩,
  ⟨0x300000, 0x0, 1, 0x0, 1, 8, 1, .rwl, .config, 0x0, 0x300000, false⟩,
  ⟨0x300000, 0x0, 1, 0x0, 1, 2, 2, .rwl, .config, 0x0, 0x300000, false⟩,
  ⟨0x300000, 0x0, 1, 0x0, 1, 0, 2, .rwl, .config, 0x0, 0x300000, false⟩,
  ⟨0x300004, 0x0, 1, 0x0, 1, 0, 16, .ro, .value, 0x0, 0x300000, false⟩,
  ⟨0x300010, 0x0, 1, 0x0, 1, 0, 21, .rwl, .config, 0x0, 0x300000, false⟩,
  ⟨0x300014, 0x0, 1, 0x0, 1, 0, 12, .rwl, .config, 0x0, 0x300000, false⟩,
  ⟨0x300018, 0x0, 1, 0x0, 1, 0, 21, .ro, .value, 0x0, 0x300000, false⟩,
  ⟨0x300020, 0x0, 1, 0x0, 1, 0, 64, .rc, .value, 0x0, 0x300000, true⟩,
  ⟨0x300028, 0x0, 1, 0x0, 1, 0, 64, .rc, .value, 0x0, 0x300000, true⟩,
  ⟨0x300030, 0x0, 1, 0x0, 1, 0, 8, .rwl, .config, 0x0, 0x300000, false⟩,
  ⟨0x300040, 0x0, 1, 0x0, 1, 0, 17, .ro, .value, 0x0, 0x300000, false⟩,
  ⟨0x300044, 0x0, 1, 0x0, 1, 0, 32, .rc, .value, 0x0, 0x300000, false⟩,
  ⟨0x300048, 0x0, 1, 0x0, 1, 0, 32, .rc, .value, 0x0, 0x300000, false⟩,
  ⟨0x300100, 0x20, 16, 0x4, 4, 0, 32, .rwl, .config, 0x0, 0x300000, false⟩,
  ⟨0x300110, 0x20, 16, 0x0, 1, 1, 1, .rwl, .config, 0x0, 0x300000, false⟩,
  ⟨0x300110, 0x20, 16, 0x0, 1, 0, 1, .rwl, .config, 0x0, 0x300000, false⟩,
  ⟨0x301000, 0x80, 16, 0x0, 1, 0, 1, .rw, .config, 0x0, 0x300000, false⟩,
  ⟨0x301004, 0x80, 16, 0x0, 1, 16, 16, .ro, .value, 0x0, 0x300000, false⟩,
  ⟨0x301004, 0x80, 16, 0x0, 1, 8, 8, .ro, .value, 0x0, 0x300000, false⟩,
  ⟨0x301004, 0x80, 16, 0x0, 1, 2, 2, .ro, .value, 0x0, 0x300000, false⟩,
  ⟨0x301004, 0x80, 16, 0x0, 1, 1, 1, .ro, .value, 0x0, 0x300000, false⟩,
  ⟨0x301004, 0x80, 16, 0x0, 1, 0, 1, .ro, .value, 0x0, 0x300000, false⟩,
  ⟨0x301008, 0x80, 16, 0x0, 1, 0, 32, .rwl, .config, 0x0, 0x300000, false⟩,
  ⟨0x30100C, 0x80, 16, 0x0, 1, 0, 16, .rwl, .config, 0x0, 0x300000, false⟩,
  ⟨0x301010, 0x80, 16, 0x0, 1, 0, 32, .rwl, .config, 0x0, 0x300000, false⟩,
  ⟨0x301014, 0x80, 16, 0x0, 1, 0, 16, .rwl, .config, 0x0, 0x300000, false⟩,
  ⟨0x301018, 0x80, 16, 0x0, 1, 0, 64, .rc, .value, 0x0, 0x300000, true⟩,
  ⟨0x301020, 0x80, 16, 0x0, 1, 0, 64, .rc, .value, 0x0, 0x300000, true⟩,
  ⟨0x301028, 0x80, 16, 0x0, 1, 0, 32, .rc, .value, 0x0, 0x300000, false⟩,
  ⟨0x30102C, 0x80, 16, 0x0, 1, 0, 32, .rc, .value, 0x0, 0x300000, false⟩,
  ⟨0x301030, 0x80, 16, 0x0, 1, 0, 32, .rc, .value, 0x0, 0x300000, false⟩,
  ⟨0x301034, 0x80, 16, 0x0, 1, 0, 32, .rc, .value, 0x0, 0x300000, false⟩]

/-- Part 2 of the register table. -/
def regRows2 : List RegRow := [
  ⟨0x301038, 0x80, 16, 0x0, 1, 0, 32, .rc, .value, 0x0, 0x300000, false⟩,
  ⟨0x30103C, 0x80, 16, 0x0, 1, 0, 32, .rc, .value, 0x0, 0x300000, false⟩,
  ⟨0x301040, 0x80, 16, 0x0, 1, 0, 32, .rc, .value, 0x0, 0x300000, false⟩,
  ⟨0x301044, 0x80, 16, 0x0, 1, 0, 32, .rc, .value, 0x0, 0x300000, false⟩,
  ⟨0x301048, 0x80, 16, 0x0, 1, 0, 32, .rc, .value, 0x0, 0x300000, false⟩,
  ⟨0x100000, 0x4000, 64, 0x0, 1, 0, 64, .wo, .value, 0x0, 0x0, true⟩,
  ⟨0x100008, 0x4000, 64, 0x0, 1, 0, 64, .ro, .value, 0x0, 0x0, true⟩,
  ⟨0x100010, 0x4000, 64, 0x0, 1, 0, 64, .ro, .value, 0x0, 0x0, true⟩,
  ⟨0x101000, 0x4000, 64, 0x40, 64, 12, 52, .rw, .value, 0x0, 0x0, true⟩,
  ⟨0x101008, 0x4000, 64, 0x40, 64, 12, 52, .rw, .value, 0x0, 0x0, true⟩,
  ⟨0x101010, 0x4000, 64, 0x40, 64, 6, 58, .rw, .value, 0x0, 0x0, true⟩,
  ⟨0x101018, 0x4000, 64, 0x40, 64, 31, 1, .rw, .value, 0x0, 0x0, false⟩,
  ⟨0x101018, 0x4000, 64, 0x40, 64, 30, 1, .rw, .value, 0x0, 0x0, false⟩,
  ⟨0x101018, 0x4000, 64, 0x40, 64, 29, 1, .rw, .value, 0x0, 0x0, false⟩,
  ⟨0x101018, 0x4000, 64, 0x40, 64, 28, 1, .rw, .value, 0x0, 0x0, false⟩,
  ⟨0x101018, 0x4000, 64, 0x40, 64, 24, 4, .rw, .value, 0x0, 0x0, false⟩,
  ⟨0x101018, 0x4000, 64, 0x40, 64, 19, 5, .rw, .value, 0x0, 0x0, false⟩,
  ⟨0x101018, 0x4000, 64, 0x40, 64, 16, 3, .rw, .value, 0x3, 0x0, false⟩,
  ⟨0x101018, 0x4000, 64, 0x40, 64, 12, 3, .rw, .value, 0x2, 0x0, false⟩,
  ⟨0x101018, 0x4000, 64, 0x40, 64, 8, 4, .rw, .value, 0x8, 0x0, false⟩,
  ⟨0x101018, 0x4000, 64, 0x40, 64, 0, 4, .rw, .value, 0x0, 0x0, false⟩,
  ⟨0x10101C, 0x4000, 64, 0x40, 64, 16, 11, .ro, .value, 0x0, 0x0, false⟩,
  ⟨0x10101C, 0x4000, 64, 0x40, 64, 8, 4, .ro, .value, 0x0, 0x0, false⟩,
  ⟨0x10101C, 0x4000, 64, 0x40, 64, 7, 1, .ro, .value, 0x0, 0x0, false⟩,
  ⟨0x10101C, 0x4000, 64, 0x40, 64, 0, 3, .ro, .value, 0x0, 0x0, false⟩,
  ⟨0x101020, 0x4000, 64, 0x40, 64, 0, 64, .ro, .value, 0x0, 0x0, true⟩,
  ⟨0x101028, 0x4000, 64, 0x40, 64, 0, 64, .ro, .value, 0x0, 0x0, true⟩,
  ⟨0x101030, 0x4000, 64, 0x40, 64, 0, 64, .ro, .value, 0x0, 0x0, true⟩,
  ⟨0x101038, 0x4000, 64, 0x40, 64, 0, 1, .wo, .value, 0x0, 0x0, false⟩,
  ⟨0x400000, 0x0, 1, 0x0, 1, 31, 1, .rw, .value, 0x0, 0x400000, false⟩,
  ⟨0x400000, 0x0, 1, 0x0, 1, 8, 4, .rwl, .config, 0x0, 0x400000, false⟩,
  ⟨0x400000, 0x0, 1, 0x0, 1, 4, 2, .rwl, .config, 0x0, 0x400000, false⟩,
  ⟨0x400000, 0x0, 1, 0x0, 1, 0, 2, .rwl, .config, 0x0, 0x400000, false⟩,
  ⟨0x400004, 0x0, 1, 0x0, 1, 0, 32, .ro, .value, 0x0, 0x400000, false⟩,
  ⟨0x400008, 0x0, 1, 0x0, 1, 31, 1, .wo, .value, 0x0, 0x400000, false⟩,
  ⟨0x400008, 0x0, 1, 0x0, 1, 16, 6, .rw, .value, 0x0, 0x400000, false⟩,
  ⟨0x400008, 0x0, 1, 0x0, 1, 0, 7, .rw, .value, 0x0, 0x400000, false⟩,
  ⟨0x40000C, 0x0, 1, 0x0, 1, 29, 3, .ro, .value, 0x0, 0x400000, false⟩,
  ⟨0x40000C, 0x0, 1, 0x0, 1, 0, 15, .ro, .value, 0x0, 0x400000, false⟩,
  ⟨0x400010, 0x0, 1, 0x0, 1, 0, 64, .ro, .value, 0x0, 0x400000, true⟩,
  ⟨0x400018, 0x0, 1, 0x0, 1, 0, 64, .rc, .value, 0x0, 0x400000, true⟩,
  ⟨0x400020, 0x0, 1, 0x0, 1, 0, 64, .rc, .value, 0x0, 0x400000, true⟩,
  ⟨0x400028, 0x0, 1, 0x0, 1, 0, 64, .rc, .value, 0x0, 0x400000, true⟩,
  ⟨0x400030, 0x0, 1, 0x0, 1, 0, 64, .rc, .value, 0x0, 0x400000, true⟩,
  ⟨0x400038, 0x0, 1, 0x0, 1, 0, 32, .rc, .value, 0x0, 0x400000, false⟩,
  ⟨0x40003C, 0x0, 1, 0x0, 1, 0, 32, .rc, .value, 0x0, 0x400000, false⟩,
  ⟨0x400100, 0x4, 64, 0x0, 1, 0, 7, .ro, .config, 0x0, 0x400000, false⟩,
  ⟨0x400200, 0x4, 66, 0x0, 1, 24, 8, .ro, .value, 0x0, 0x400000, false⟩,
  ⟨0x400200, 0x4, 66, 0x0, 1, 8, 6, .ro, .value, 0x0, 0x400000, false⟩,
  ⟨0x400200, 0x4, 66, 0x0, 1, 0, 3, .ro, .value, 0x0, 0x400000, false⟩,
  ⟨0x400800, 0x0, 1, 0x0, 1, 31, 1, .rw, .value, 0x0, 0x400000, false⟩,
  ⟨0x400800, 0x0, 1, 0x0, 1, 30, 1, .wo, .value, 0x0, 0x400000, false⟩,
  ⟨0x400800, 0x0, 1, 0x0, 1, 20, 4, .rw, .value, 0x0, 0x400000, false⟩,
  ⟨0x400800, 0x0, 1, 0x0, 1, 12, 4, .rw, .value, 0xF, 0x400000, false⟩,
  ⟨0x400800, 0x0, 1, 0x0, 1, 8, 2, .rw, .value, 0x0, 0x400000, false⟩,
  ⟨0x400800, 0x0, 1, 0x0, 1, 7, 1, .rw, .value, 0x1, 0x400000, false⟩,
  ⟨0x400800, 0x0, 1, 0x0, 1, 0, 6, .rw, .value, 0x0, 0x400000, false⟩,
  ⟨0x400808, 0x0, 1, 0x0, 1, 0, 64, .ro, .value, 0x0, 0x400000, true⟩,
  ⟨0x400810, 0x8, 8, 0x0, 1, 0, 64, .ro, .value, 0x0, 0x400000, true⟩,
  ⟨0x400850, 0x4, 8, 0x0, 1, 0, 32, .ro, .value, 0x0, 0x400000, false⟩]

/-- Part 3 of the register table. -/
def regRows3 : List RegRow := [
  ⟨0x400870, 0x4, 16, 0x0, 1, 0, 32, .ro, .value, 0x0, 0x400000, false⟩,
  ⟨0x500000, 0x0, 1, 0x0, 1, 31, 1, .rw, .value, 0x0, 0x500000, false⟩,
  ⟨0x500000, 0x0, 1, 0x0, 1, 3, 1, .rwl, .config, 0x0, 0x500000, false⟩,
  ⟨0x500000, 0x0, 1, 0x0, 1, 2, 1, .rwl, .config, 0x0, 0x500000, false⟩,
  ⟨0x500004, 0x0, 1, 0x0, 1, 7, 1, .ro, .value, 0x0, 0x500000, false⟩,
  ⟨0x500004, 0x0, 1, 0x0, 1, 6, 1, .ro, .value, 0x0, 0x500000, false⟩,
  ⟨0x500004, 0x0, 1, 0x0, 1, 5, 1, .ro, .value, 0x0, 0x500000, false⟩,
  ⟨0x500004, 0x0, 1, 0x0, 1, 4, 1, .ro, .value, 0x0, 0x500000, false⟩,
  ⟨0x500008, 0x0, 1, 0x0, 1, 0, 18, .ro, .value, 0x0, 0x500000, false⟩,
  ⟨0x50000C, 0x0, 1, 0x0, 1, 0, 23, .ro, .value, 0x0, 0x500000, false⟩,
  ⟨0x500010, 0x0, 1, 0x0, 1, 0, 23, .ro, .value, 0x0, 0x500000, false⟩,
  ⟨0x500014, 0x0, 1, 0x0, 1, 0, 23, .ro, .value, 0x0, 0x500000, false⟩,
  ⟨0x500018, 0x0, 1, 0x0, 1, 0, 23, .ro, .value, 0x0, 0x500000, false⟩,
  ⟨0x50001C, 0x0, 1, 0x0, 1, 0, 23, .rwl, .config, 0x0, 0x500000, false⟩,
  ⟨0x500020, 0x0, 1, 0x0, 1, 16, 10, .rwl, .config, 0x0, 0x500000, false⟩,
  ⟨0x500020, 0x0, 1, 0x0, 1, 0, 10, .rwl, .config, 0x0, 0x500000, false⟩,
  ⟨0x500024, 0x0, 1, 0x0, 1, 0, 8, .rwl, .config, 0x0, 0x500000, false⟩,
  ⟨0x500028, 0x0, 1, 0x0, 1, 20, 12, .rwl, .config, 0x0, 0x500000, false⟩,
  ⟨0x500028, 0x0, 1, 0x0, 1, 10, 10, .rwl, .config, 0x0, 0x500000, false⟩,
  ⟨0x500028, 0x0, 1, 0x0, 1, 0, 10, .rwl, .config, 0x0, 0x500000, false⟩,
  ⟨0x50002C, 0x0, 1, 0x0, 1, 0, 7, .rwl, .config, 0x0, 0x500000, false⟩,
  ⟨0x500030, 0x0, 1, 0x0, 1, 16, 8, .ro, .value, 0x0, 0x500000, false⟩,
  ⟨0x500030, 0x0, 1, 0x0, 1, 0, 10, .ro, .value, 0x0, 0x500000, false⟩,
  ⟨0x500034, 0x0, 1, 0x0, 1, 0, 16, .ro, .value, 0x0, 0x500000, false⟩,
  ⟨0x500038, 0x0, 1, 0x0, 1, 0, 64, .rc, .value, 0x0, 0x500000, true⟩,
  ⟨0x500040, 0x0, 1, 0x0, 1, 0, 64, .rc, .value, 0x0, 0x500000, true⟩,
  ⟨0x500048, 0x0, 1, 0x0, 1, 0, 64, .rc, .value, 0x0, 0x500000, true⟩,
  ⟨0x500050, 0x0, 1, 0x0, 1, 0, 64, .rc, .value, 0x0, 0x500000, true⟩,
  ⟨0x500058, 0x0, 1, 0x0, 1, 0, 64, .rc, .value, 0x0, 0x500000, true⟩,
  ⟨0x500060, 0x0, 1, 0x0, 1, 0, 32, .rc, .value, 0x0, 0x500000, false⟩,
  ⟨0x500064, 0x0, 1, 0x0, 1, 0, 32, .rc, .value, 0x0, 0x500000, false⟩,
  ⟨0x500068, 0x0, 1, 0x0, 1, 0, 32, .rc, .value, 0x0, 0x500000, false⟩,
  ⟨0x50006C, 0x0, 1, 0x0, 1, 0, 32, .ro, .value, 0x0, 0x500000, false⟩,
  ⟨0x500070, 0x0, 1, 0x0, 1, 0, 7, .ro, .value, 0x0, 0x500000, false⟩,
  ⟨0x500100, 0x10, 8, 0x0, 1, 0, 32, .rc, .value, 0x0, 0x500000, false⟩,
  ⟨0x500108, 0x10, 8, 0x0, 1, 0, 64, .rc, .value, 0x0, 0x500000, true⟩,
  ⟨0x501000, 0x10, 1024, 0x0, 1, 16, 16, .ro, .value, 0x0, 0x500000, false⟩,
  ⟨0x501000, 0x10, 1024, 0x0, 1, 4, 4, .ro, .value, 0x0, 0x500000, false⟩,
  ⟨0x501000, 0x10, 1024, 0x0, 1, 0, 3, .ro, .value, 0x0, 0x500000, false⟩,
  ⟨0x501004, 0x10, 1024, 0x0, 1, 0, 32, .ro, .value, 0x0, 0x500000, false⟩,
  ⟨0x501008, 0x10, 1024, 0x0, 1, 16, 16, .ro, .value, 0x0, 0x500000, false⟩,
  ⟨0x501008, 0x10, 1024, 0x0, 1, 0, 16, .ro, .value, 0x0, 0x500000, false⟩,
  ⟨0x50100C, 0x10, 1024, 0x0, 1, 0, 32, .ro, .value, 0x0, 0x500000, false⟩,
  ⟨0x600000, 0x0, 1, 0x0, 1, 31, 1, .rw, .value, 0x0, 0x600000, false⟩,
  ⟨0x600000, 0x0, 1, 0x0, 1, 16, 8, .rwl, .config, 0x0, 0x600000, false⟩,
  ⟨0x600000, 0x0, 1, 0x0, 1, 8, 8, .rwl, .config, 0x0, 0x600000, false⟩,
  ⟨0x600000, 0x0, 1, 0x0, 1, 0, 8, .rwl, .config, 0x0, 0x600000, false⟩,
  ⟨0x600004, 0x0, 1, 0x0, 1, 0, 1, .wo, .value, 0x0, 0x600000, false⟩,
  ⟨0x600008, 0x0, 1, 0x0, 1, 31, 1, .ro, .config, 0x0, 0x600000, false⟩,
  ⟨0x600008, 0x0, 1, 0x0, 1, 30, 1, .ro, .value, 0x0, 0x600000, false⟩,
  ⟨0x600008, 0x0, 1, 0x0, 1, 29, 1, .ro, .value, 0x0, 0x600000, false⟩,
  ⟨0x600008, 0x0, 1, 0x0, 1, 28, 1, .ro, .value, 0x0, 0x600000, false⟩,
  ⟨0x600008, 0x0, 1, 0x0, 1, 16, 5, .ro, .value, 0x0, 0x600000, false⟩,
  ⟨0x600008, 0x0, 1, 0x0, 1, 0, 8, .ro, .value, 0x0, 0x600000, false⟩,
  ⟨0x60000C, 0x0, 1, 0x0, 1, 0, 17, .ro, .value, 0x0, 0x600000, false⟩,
  ⟨0x600010, 0x0, 1, 0x0, 1, 0, 12, .ro, .value, 0x0, 0x600000, false⟩,
  ⟨0x600014, 0x0, 1, 0x0, 1, 0, 20, .ro, .value, 0x0, 0x600000, false⟩,
  ⟨0x600018, 0x0, 1, 0x0, 1, 0, 18, .ro, .value, 0x0, 0x600000, false⟩,
  ⟨0x60001C, 0x0, 1, 0x0, 1, 0, 18, .ro, .value, 0x0, 0x600000, false⟩,
  ⟨0x600020, 0x0, 1, 0x0, 1, 28, 4, .ro, .value, 0x0, 0x600000, false⟩]

/-- Part 4 of the register table. -/
def regRows4 : List RegRow := [
  ⟨0x600020, 0x0, 1, 0x0, 1, 24, 4, .ro, .value, 0x0, 0x600000, false⟩,
  ⟨0x600020, 0x0, 1, 0x0, 1, 16, 8, .ro, .value, 0x0, 0x600000, false⟩,
  ⟨0x600020, 0x0, 1, 0x0, 1, 0, 16, .ro, .config, 0x0, 0x600000, false⟩,
  ⟨0x600024, 0x0, 1, 0x0, 1, 0, 32, .ro, .config, 0x0, 0x600000, false⟩,
  ⟨0x600028, 0x0, 1, 0x0, 1, 0, 20, .ro, .config, 0x0, 0x600000, false⟩,
  ⟨0x60002C, 0x0, 1, 0x0, 1, 0, 20, .ro, .config, 0x0, 0x600000, false⟩,
  ⟨0x600030, 0x0, 1, 0x0, 1, 0, 40, .ro, .config, 0x0, 0x600000, true⟩,
  ⟨0x600040, 0x0, 1, 0x0, 1, 8, 1, .ro, .value, 0x0, 0x600000, false⟩,
  ⟨0x600040, 0x0, 1, 0x0, 1, 7, 1, .ro, .value, 0x0, 0x600000, false⟩,
  ⟨0x600040, 0x0, 1, 0x0, 1, 4, 3, .ro, .value, 0x0, 0x600000, false⟩,
  ⟨0x600040, 0x0, 1, 0x0, 1, 0, 2, .ro, .value, 0x0, 0x600000, false⟩,
  ⟨0x600044, 0x0, 1, 0x0, 1, 0, 20, .ro, .value, 0x0, 0x600000, false⟩,
  ⟨0x600048, 0x0, 1, 0x0, 1, 0, 20, .ro, .value, 0x0, 0x600000, false⟩,
  ⟨0x60004C, 0x0, 1, 0x0, 1, 0, 20, .ro, .value, 0x0, 0x600000, false⟩,
  ⟨0x600050, 0x0, 1, 0x0, 1, 0, 8, .rwl, .config, 0x0, 0x600000, false⟩,
  ⟨0x600054, 0x0, 1, 0x0, 1, 0, 32, .rc, .value, 0x0, 0x600000, false⟩,
  ⟨0x600100, 0x0, 1, 0x0, 1, 7, 1, .ro, .config, 0x0, 0x600000, false⟩,
  ⟨0x600100, 0x0, 1, 0x0, 1, 6, 1, .ro, .config, 0x0, 0x600000, false⟩,
  ⟨0x600100, 0x0, 1, 0x0, 1, 5, 1, .ro, .config, 0x0, 0x600000, false⟩,
  ⟨0x600100, 0x0, 1, 0x0, 1, 4, 1, .ro, .config, 0x0, 0x600000, false⟩,
  ⟨0x600100, 0x0, 1, 0x0, 1, 0, 3, .ro, .value, 0x0, 0x600000, false⟩,
  ⟨0x600104, 0x0, 1, 0x0, 1, 0, 32, .ro, .config, 0x0, 0x600000, false⟩,
  ⟨0x600108, 0x0, 1, 0x0, 1, 0, 32, .ro, .config, 0x0, 0x600000, false⟩,
  ⟨0x60010C, 0x0, 1, 0x0, 1, 0, 20, .ro, .config, 0x0, 0x600000, false⟩,
  ⟨0x600110, 0x0, 1, 0x0, 1, 0, 64, .ro, .config, 0x0, 0x600000, true⟩,
  ⟨0x600118, 0x0, 1, 0x0, 1, 0, 32, .ro, .config, 0x0, 0x600000, false⟩,
  ⟨0x60011C, 0x0, 1, 0x0, 1, 0, 32, .ro, .config, 0x0, 0x600000, false⟩,
  ⟨0x600140, 0x0, 1, 0x0, 1, 5, 1, .ro, .value, 0x0, 0x600000, false⟩,
  ⟨0x600140, 0x0, 1, 0x0, 1, 4, 1, .ro, .value, 0x0, 0x600000, false⟩,
  ⟨0x600140, 0x0, 1, 0x0, 1, 0, 3, .ro, .value, 0x0, 0x600000, false⟩,
  ⟨0x600144, 0x0, 1, 0x0, 1, 0, 32, .ro, .value, 0x0, 0x600000, false⟩,
  ⟨0x600148, 0x0, 1, 0x0, 1, 0, 32, .ro, .value, 0x0, 0x600000, false⟩,
  ⟨0x60014C, 0x0, 1, 0x0, 1, 0, 32, .ro, .value, 0x0, 0x600000, false⟩,
  ⟨0x600200, 0x0, 1, 0x4, 64, 0, 32, .ro, .config, 0x0, 0x600000, false⟩,
  ⟨0x608000, 0x8, 4096, 0x0, 1, 0, 64, .rc, .value, 0x0, 0x600000, true⟩,
  ⟨0x700000, 0x0, 1, 0x0, 1, 31, 1, .rw, .value, 0x0, 0x700000, false⟩,
  ⟨0x700000, 0x0, 1, 0x0, 1, 16, 4, .rwl, .config, 0x0, 0x700000, false⟩,
  ⟨0x700000, 0x0, 1, 0x0, 1, 0, 8, .rwl, .config, 0x0, 0x700000, false⟩,
  ⟨0x700004, 0x0, 1, 0x0, 1, 16, 14, .ro, .value, 0x0, 0x700000, false⟩,
  ⟨0x700004, 0x0, 1, 0x0, 1, 4, 4, .ro, .value, 0x0, 0x700000, false⟩,
  ⟨0x700008, 0x0, 1, 0x0, 1, 31, 1, .wo, .value, 0x0, 0x700000, false⟩,
  ⟨0x700008, 0x0, 1, 0x0, 1, 16, 6, .rw, .value, 0x0, 0x700000, false⟩,
  ⟨0x700008, 0x0, 1, 0x0, 1, 0, 7, .rw, .value, 0x0, 0x700000, false⟩,
  ⟨0x70000C, 0x0, 1, 0x0, 1, 29, 3, .ro, .value, 0x0, 0x700000, false⟩,
  ⟨0x700010, 0x0, 1, 0x0, 1, 0, 64, .ro, .value, 0x0, 0x700000, true⟩,
  ⟨0x700018, 0x0, 1, 0x0, 1, 0, 64, .rc, .value, 0x0, 0x700000, true⟩,
  ⟨0x700020, 0x0, 1, 0x0, 1, 0, 64, .rc, .value, 0x0, 0x700000, true⟩,
  ⟨0x700028, 0x0, 1, 0x0, 1, 0, 64, .rc, .value, 0x0, 0x700000, true⟩,
  ⟨0x700030, 0x0, 1, 0x0, 1, 0, 64, .rc, .value, 0x0, 0x700000, true⟩,
  ⟨0x700038, 0x0, 1, 0x0, 1, 0, 32, .rc, .value, 0x0, 0x700000, false⟩,
  ⟨0x70003C, 0x0, 1, 0x0, 1, 0, 32, .rc, .value, 0x0, 0x700000, false⟩,
  ⟨0x700040, 0x0, 1, 0x0, 1, 31, 1, .ro, .value, 0x0, 0x700000, false⟩,
  ⟨0x700040, 0x0, 1, 0x0, 1, 30, 1, .ro, .value, 0x0, 0x700000, false⟩,
  ⟨0x700040, 0x0, 1, 0x0, 1, 29, 1, .ro, .value, 0x0, 0x700000, false⟩,
  ⟨0x700044, 0x0, 1, 0x0, 1, 0, 32, .ro, .value, 0x0, 0x700000, false⟩,
  ⟨0x700048, 0x0, 1, 0x0, 1, 16, 15, .ro, .value, 0x0, 0x700000, false⟩,
  ⟨0x700048, 0x0, 1, 0x0, 1, 0, 13, .ro, .value, 0x0, 0x700000, false⟩,
  ⟨0x700060, 0x0, 1, 0x0, 1, 31, 1, .ro, .value, 0x0, 0x700000, false⟩,
  ⟨0x700060, 0x0, 1, 0x0, 1, 3, 1, .ro, .value, 0x0, 0x700000, false⟩,
  ⟨0x700060, 0x0, 1, 0x0, 1, 2, 1, .ro, .value, 0x0, 0x700000, false⟩]

/-- Part 5 of the register table. -/
def regRows5 : List RegRow := [
  ⟨0x700060, 0x0, 1, 0x0, 1, 1, 1, .ro, .value, 0x0, 0x700000, false⟩,
  ⟨0x700060, 0x0, 1, 0x0, 1, 0, 1, .ro, .value, 0x0, 0x700000, false⟩,
  ⟨0x700080, 0x20, 4, 0x0, 1, 5, 3, .ro, .value, 0x0, 0x700000, false⟩,
  ⟨0x700080, 0x20, 4, 0x0, 1, 4, 1, .w1c, .value, 0x0, 0x700000, false⟩,
  ⟨0x700080, 0x20, 4, 0x0, 1, 2, 2, .rw, .value, 0x0, 0x700000, false⟩,
  ⟨0x700080, 0x20, 4, 0x0, 1, 0, 1, .rw, .value, 0x0, 0x700000, false⟩,
  ⟨0x700088, 0x20, 4, 0x0, 1, 0, 64, .rw, .value, 0x0, 0x700000, true⟩,
  ⟨0x700090, 0x20, 4, 0x0, 1, 0, 32, .rw, .value, 0x0, 0x700000, false⟩,
  ⟨0x700100, 0x4, 64, 0x0, 1, 0, 7, .ro, .config, 0x0, 0x700000, false⟩,
  ⟨0x700200, 0x4, 68, 0x0, 1, 8, 6, .ro, .value, 0x0, 0x700000, false⟩,
  ⟨0x700200, 0x4, 68, 0x0, 1, 0, 3, .ro, .value, 0x0, 0x700000, false⟩,
  ⟨0x701000, 0x0, 1, 0x0, 1, 0, 15, .rw, .value, 0x0, 0x700000, false⟩,
  ⟨0x701004, 0x0, 1, 0x0, 1, 0, 32, .wo, .value, 0x0, 0x700000, false⟩,
  ⟨0x701008, 0x0, 1, 0x0, 1, 12, 1, .wo, .value, 0x0, 0x700000, false⟩,
  ⟨0x701008, 0x0, 1, 0x0, 1, 0, 12, .wo, .value, 0x0, 0x700000, false⟩,
  ⟨0x70100C, 0x0, 1, 0x0, 1, 0, 2, .wo, .value, 0x0, 0x700000, false⟩,
  ⟨0x701010, 0x0, 1, 0x0, 1, 31, 1, .ro, .value, 0x0, 0x700000, false⟩,
  ⟨0x701010, 0x0, 1, 0x0, 1, 0, 4, .ro, .value, 0x0, 0x700000, false⟩,
  ⟨0x701040, 0x4, 24, 0x0, 1, 0, 32, .wo, .value, 0x0, 0x700000, false⟩,
  ⟨0x704000, 0x8, 16384, 0x0, 1, 63, 1, .ro, .value, 0x0, 0x700000, true⟩,
  ⟨0x704000, 0x8, 16384, 0x0, 1, 44, 1, .ro, .value, 0x0, 0x700000, true⟩,
  ⟨0x704000, 0x8, 16384, 0x0, 1, 32, 12, .ro, .value, 0x0, 0x700000, true⟩,
  ⟨0x704000, 0x8, 16384, 0x0, 1, 0, 32, .ro, .value, 0x0, 0x700000, true⟩,
  ⟨0x730000, 0x4, 8192, 0x0, 1, 31, 1, .ro, .value, 0x0, 0x700000, false⟩,
  ⟨0x730000, 0x4, 8192, 0x0, 1, 0, 25, .ro, .value, 0x0, 0x700000, false⟩,
  ⟨0x800000, 0x0, 1, 0x0, 1, 31, 1, .rw, .value, 0x0, 0x800000, false⟩,
  ⟨0x800000, 0x0, 1, 0x0, 1, 16, 12, .rwl, .config, 0x0, 0x800000, false⟩,
  ⟨0x800000, 0x0, 1, 0x0, 1, 8, 8, .rwl, .config, 0x0, 0x800000, false⟩,
  ⟨0x800000, 0x0, 1, 0x0, 1, 0, 8, .rwl, .config, 0x0, 0x800000, false⟩,
  ⟨0x800004, 0x0, 1, 0x0, 1, 24, 8, .rwl, .config, 0x0, 0x800000, false⟩,
  ⟨0x800004, 0x0, 1, 0x0, 1, 16, 8, .rwl, .config, 0x0, 0x800000, false⟩,
  ⟨0x800004, 0x0, 1, 0x0, 1, 8, 8, .rwl, .config, 0x0, 0x800000, false⟩,
  ⟨0x800004, 0x0, 1, 0x0, 1, 0, 8, .rwl, .config, 0x0, 0x800000, false⟩,
  ⟨0x800008, 0x0, 1, 0x0, 1, 8, 8, .rwl, .config, 0x0, 0x800000, false⟩,
  ⟨0x800008, 0x0, 1, 0x0, 1, 0, 8, .rwl, .config, 0x0, 0x800000, false⟩,
  ⟨0x80000C, 0x0, 1, 0x0, 1, 16, 16, .ro, .value, 0x0, 0x800000, false⟩,
  ⟨0x80000C, 0x0, 1, 0x0, 1, 0, 16, .ro, .value, 0x0, 0x800000, false⟩,
  ⟨0x800010, 0x0, 1, 0x0, 1, 0, 14, .ro, .value, 0x0, 0x800000, false⟩,
  ⟨0x800014, 0x0, 1, 0x0, 1, 0, 12, .ro, .value, 0x0, 0x800000, false⟩,
  ⟨0x810000, 0x10000, 16, 0x0, 1, 0, 1, .rw, .config, 0x0, 0x800000, false⟩,
  ⟨0x810004, 0x10000, 16, 0x0, 1, 16, 4, .ro, .value, 0x0, 0x800000, false⟩,
  ⟨0x810004, 0x10000, 16, 0x0, 1, 12, 4, .ro, .value, 0x0, 0x800000, false⟩,
  ⟨0x810004, 0x10000, 16, 0x0, 1, 8, 4, .ro, .value, 0x0, 0x800000, false⟩,
  ⟨0x810004, 0x10000, 16, 0x0, 1, 6, 2, .ro, .value, 0x0, 0x800000, false⟩,
  ⟨0x810004, 0x10000, 16, 0x0, 1, 4, 2, .ro, .value, 0x0, 0x800000, false⟩,
  ⟨0x810008, 0x10000, 16, 0x0, 1, 0, 10, .ro, .value, 0x0, 0x800000, false⟩,
  ⟨0x81000C, 0x10000, 16, 0x0, 1, 0, 19, .ro, .value, 0x0, 0x800000, false⟩,
  ⟨0x810010, 0x10000, 16, 0x0, 1, 0, 19, .ro, .value, 0x0, 0x800000, false⟩,
  ⟨0x810018, 0x10000, 16, 0x0, 1, 0, 64, .ro, .config, 0x0, 0x800000, true⟩,
  ⟨0x810020, 0x10000, 16, 0x0, 1, 0, 64, .rc, .value, 0x0, 0x800000, true⟩,
  ⟨0x810028, 0x10000, 16, 0x0, 1, 0, 32, .rc, .value, 0x0, 0x800000, false⟩,
  ⟨0x81002C, 0x10000, 16, 0x0, 1, 0, 32, .rc, .value, 0x0, 0x800000, false⟩,
  ⟨0x810030, 0x10000, 16, 0x0, 1, 16, 16, .ro, .value, 0x0, 0x800000, false⟩,
  ⟨0x810030, 0x10000, 16, 0x0, 1, 0, 7, .ro, .value, 0x0, 0x800000, false⟩,
  ⟨0x810034, 0x10000, 16, 0x0, 1, 16, 16, .ro, .value, 0x0, 0x800000, false⟩,
  ⟨0x810034, 0x10000, 16, 0x0, 1, 0, 16, .ro, .value, 0x0, 0x800000, false⟩,
  ⟨0x810040, 0x10000, 16, 0x4, 20, 24, 8, .ro, .value, 0x0, 0x800000, false⟩,
  ⟨0x810040, 0x10000, 16, 0x4, 20, 16, 8, .ro, .value, 0x0, 0x800000, false⟩,
  ⟨0x810040, 0x10000, 16, 0x4, 20, 8, 8, .ro, .value, 0x0, 0x800000, false⟩,
  ⟨0x810040, 0x10000, 16, 0x4, 20, 0, 8, .ro, .value, 0x0, 0x800000, false⟩]

/-- Part 6 of the register table. -/
def regRows6 : List RegRow := [
  ⟨0x810100, 0x10000, 16, 0x8, 256, 63, 1, .ro, .config, 0x0, 0x800000, true⟩,
  ⟨0x810100, 0x10000, 16, 0x8, 256, 62, 1, .ro, .config, 0x0, 0x800000, true⟩,
  ⟨0x810100, 0x10000, 16, 0x8, 256, 59, 3, .ro, .config, 0x0, 0x800000, true⟩,
  ⟨0x810100, 0x10000, 16, 0x8, 256, 56, 3, .ro, .config, 0x0, 0x800000, true⟩,
  ⟨0x810100, 0x10000, 16, 0x8, 256, 54, 2, .ro, .config, 0x0, 0x800000, true⟩,
  ⟨0x810100, 0x10000, 16, 0x8, 256, 52, 2, .ro, .config, 0x0, 0x800000, true⟩,
  ⟨0x810100, 0x10000, 16, 0x8, 256, 0, 17, .ro, .config, 0x0, 0x800000, true⟩,
  ⟨0x811000, 0x10000, 16, 0x4, 512, 0, 32, .ro, .value, 0x0, 0x800000, false⟩,
  ⟨0xC00000, 0x0, 1, 0x0, 1, 31, 1, .rw, .value, 0x0, 0xC00000, false⟩,
  ⟨0xC00000, 0x0, 1, 0x0, 1, 20, 4, .rwl, .config, 0x0, 0xC00000, false⟩,
  ⟨0xC00000, 0x0, 1, 0x0, 1, 16, 3, .rwl, .config, 0x0, 0xC00000, false⟩,
  ⟨0xC00000, 0x0, 1, 0x0, 1, 8, 5, .rwl, .config, 0x0, 0xC00000, false⟩,
  ⟨0xC00004, 0x0, 1, 0x0, 1, 29, 3, .ro, .value, 0x0, 0xC00000, false⟩,
  ⟨0xC00004, 0x0, 1, 0x0, 1, 28, 1, .ro, .value, 0x0, 0xC00000, false⟩,
  ⟨0xC00004, 0x0, 1, 0x0, 1, 27, 1, .ro, .value, 0x0, 0xC00000, false⟩,
  ⟨0xC00004, 0x0, 1, 0x0, 1, 16, 5, .ro, .config, 0x0, 0xC00000, false⟩,
  ⟨0xC00004, 0x0, 1, 0x0, 1, 8, 3, .ro, .value, 0x0, 0xC00000, false⟩,
  ⟨0xC00004, 0x0, 1, 0x0, 1, 0, 5, .ro, .value, 0x0, 0xC00000, false⟩,
  ⟨0xC00008, 0x0, 1, 0x0, 1, 0, 64, .ro, .config, 0x0, 0xC00000, true⟩,
  ⟨0xC00010, 0x0, 1, 0x0, 1, 0, 64, .ro, .config, 0x0, 0xC00000, true⟩,
  ⟨0xC00018, 0x0, 1, 0x0, 1, 0, 16, .rwl, .config, 0x0, 0xC00000, false⟩,
  ⟨0xC0001C, 0x0, 1, 0x0, 1, 27, 5, .ro, .value, 0x1F, 0xC00000, false⟩,
  ⟨0xC0001C, 0x0, 1, 0x0, 1, 22, 5, .ro, .value, 0x1F, 0xC00000, false⟩,
  ⟨0xC0001C, 0x0, 1, 0x0, 1, 0, 7, .ro, .value, 0x0, 0xC00000, false⟩,
  ⟨0xC00020, 0x0, 1, 0x0, 1, 0, 32, .ro, .value, 0x0, 0xC00000, false⟩,
  ⟨0xC00024, 0x0, 1, 0x0, 1, 16, 16, .ro, .value, 0x0, 0xC00000, false⟩,
  ⟨0xC00024, 0x0, 1, 0x0, 1, 0, 7, .ro, .value, 0x0, 0xC00000, false⟩,
  ⟨0xC00028, 0x0, 1, 0x0, 1, 0, 20, .ro, .value, 0x0, 0xC00000, false⟩,
  ⟨0xC0002C, 0x0, 1, 0x0, 1, 8, 8, .rwl, .config, 0x0, 0xC00000, false⟩,
  ⟨0xC0002C, 0x0, 1, 0x0, 1, 0, 7, .rwl, .config, 0x0, 0xC00000, false⟩,
  ⟨0xC00030, 0x0, 1, 0x0, 1, 0, 32, .rc, .value, 0x0, 0xC00000, false⟩,
  ⟨0xC00034, 0x0, 1, 0x0, 1, 0, 32, .rc, .value, 0x0, 0xC00000, false⟩,
  ⟨0xC00038, 0x0, 1, 0x0, 1, 0, 32, .rc, .value, 0x0, 0xC00000, false⟩,
  ⟨0xC0003C, 0x0, 1, 0x0, 1, 0, 32, .rc, .value, 0x0, 0xC00000, false⟩,
  ⟨0xC00040, 0x0, 1, 0x0, 1, 0, 64, .rc, .value, 0x0, 0xC00000, true⟩,
  ⟨0xC00048, 0x0, 1, 0x0, 1, 8, 4, .ro, .value, 0x0, 0xC00000, false⟩,
  ⟨0xC00048, 0x0, 1, 0x0, 1, 0, 4, .ro, .value, 0x0, 0xC00000, false⟩,
  ⟨0xC00080, 0x4, 18, 0x0, 1, 30, 2, .ro, .value, 0x3, 0xC00000, false⟩,
  ⟨0xC00080, 0x4, 18, 0x0, 1, 0, 5, .ro, .value, 0x0, 0xC00000, false⟩,
  ⟨0xC01000, 0x100, 20, 0x0, 1, 1, 1, .wo, .value, 0x0, 0xC00000, false⟩,
  ⟨0xC01000, 0x100, 20, 0x0, 1, 0, 1, .wo, .value, 0x0, 0xC00000, false⟩,
  ⟨0xC01004, 0x100, 20, 0x0, 1, 28, 4, .ro, .value, 0x0, 0xC00000, false⟩,
  ⟨0xC01004, 0x100, 20, 0x0, 1, 23, 5, .ro, .value, 0x1F, 0xC00000, false⟩,
  ⟨0xC01004, 0x100, 20, 0x0, 1, 20, 3, .ro, .value, 0x0, 0xC00000, false⟩,
  ⟨0xC01004, 0x100, 20, 0x0, 1, 16, 4, .ro, .value, 0x0, 0xC00000, false⟩,
  ⟨0xC01004, 0x100, 20, 0x0, 1, 7, 1, .ro, .value, 0x0, 0xC00000, false⟩,
  ⟨0xC01004, 0x100, 20, 0x0, 1, 6, 1, .ro, .value, 0x0, 0xC00000, false⟩,
  ⟨0xC01004, 0x100, 20, 0x0, 1, 5, 1, .ro, .value, 0x0, 0xC00000, false⟩,
  ⟨0xC01004, 0x100, 20, 0x0, 1, 4, 1, .ro, .value, 0x0, 0xC00000, false⟩,
  ⟨0xC01004, 0x100, 20, 0x0, 1, 3, 1, .ro, .value, 0x0, 0xC00000, false⟩,
  ⟨0xC01004, 0x100, 20, 0x0, 1, 2, 1, .ro, .value, 0x0, 0xC00000, false⟩,
  ⟨0xC01004, 0x100, 20, 0x0, 1, 1, 1, .ro, .value, 0x0, 0xC00000, false⟩,
  ⟨0xC01008, 0x100, 20, 0x0, 1, 0, 16, .ro, .value, 0x0, 0xC00000, false⟩,
  ⟨0xC0100C, 0x100, 20, 0x0, 1, 16, 16, .ro, .value, 0x0, 0xC00000, false⟩,
  ⟨0xC0100C, 0x100, 20, 0x0, 1, 0, 16, .ro, .value, 0x0, 0xC00000, false⟩,
  ⟨0xC01010, 0x100, 20, 0x0, 1, 0, 64, .rc, .value, 0x0, 0xC00000, true⟩,
  ⟨0xC01018, 0x100, 20, 0x0, 1, 0, 32, .rc, .value, 0x0, 0xC00000, false⟩,
  ⟨0xC0101C, 0x100, 20, 0x0, 1, 0, 32, .rc, .value, 0x0, 0xC00000, false⟩,
  ⟨0xC01020, 0x100, 20, 0x0, 1, 16, 16, .rc, .value, 0x0, 0xC00000, false⟩,
  ⟨0xC01020, 0x100, 20, 0x0, 1, 0, 16, .rc, .value, 0x0, 0xC00000, false⟩]

/-- Part 7 of the register table. -/
def regRows7 : List RegRow := [
  ⟨0xC01024, 0x100, 20, 0x0, 1, 16, 16, .ro, .value, 0x0, 0xC00000, false⟩,
  ⟨0xC01024, 0x100, 20, 0x0, 1, 0, 16, .ro, .value, 0x0, 0xC00000, false⟩,
  ⟨0xD00000, 0x1000, 20, 0x0, 1, 0, 32, .ro, .value, 0x0, 0xC00000, false⟩,
  ⟨0xE00000, 0x0, 1, 0x0, 1, 31, 1, .rw, .value, 0x0, 0xE00000, false⟩,
  ⟨0xE00000, 0x0, 1, 0x0, 1, 16, 7, .rwl, .config, 0x0, 0xE00000, false⟩,
  ⟨0xE00000, 0x0, 1, 0x0, 1, 8, 8, .rwl, .config, 0x0, 0xE00000, false⟩,
  ⟨0xE00000, 0x0, 1, 0x0, 1, 0, 8, .rwl, .config, 0x0, 0xE00000, false⟩,
  ⟨0xE00004, 0x0, 1, 0x0, 1, 4, 1, .wo, .value, 0x0, 0xE00000, false⟩,
  ⟨0xE00004, 0x0, 1, 0x0, 1, 3, 1, .wo, .value, 0x0, 0xE00000, false⟩,
  ⟨0xE00004, 0x0, 1, 0x0, 1, 2, 1, .wo, .value, 0x0, 0xE00000, false⟩,
  ⟨0xE00004, 0x0, 1, 0x0, 1, 1, 1, .wo, .value, 0x0, 0xE00000, false⟩,
  ⟨0xE00004, 0x0, 1, 0x0, 1, 0, 1, .wo, .value, 0x0, 0xE00000, false⟩,
  ⟨0xE00008, 0x0, 1, 0x0, 1, 28, 4, .ro, .value, 0x0, 0xE00000, false⟩,
  ⟨0xE00008, 0x0, 1, 0x0, 1, 24, 4, .ro, .value, 0x0, 0xE00000, false⟩,
  ⟨0xE00008, 0x0, 1, 0x0, 1, 23, 1, .ro, .value, 0x0, 0xE00000, false⟩,
  ⟨0xE00008, 0x0, 1, 0x0, 1, 22, 1, .ro, .value, 0x0, 0xE00000, false⟩,
  ⟨0xE00008, 0x0, 1, 0x0, 1, 21, 1, .ro, .value, 0x0, 0xE00000, false⟩,
  ⟨0xE00008, 0x0, 1, 0x0, 1, 20, 1, .ro, .value, 0x0, 0xE00000, false⟩,
  ⟨0xE00008, 0x0, 1, 0x0, 1, 19, 1, .ro, .value, 0x0, 0xE00000, false⟩,
  ⟨0xE00008, 0x0, 1, 0x0, 1, 18, 1, .ro, .config, 0x0, 0xE00000, false⟩,
  ⟨0xE00008, 0x0, 1, 0x0, 1, 16, 2, .ro, .value, 0x0, 0xE00000, false⟩,
  ⟨0xE0000C, 0x0, 1, 0x0, 1, 0, 32, .ro, .config, 0x0, 0xE00000, false⟩,
  ⟨0xE00010, 0x0, 1, 0x0, 1, 0, 64, .ro, .config, 0x0, 0xE00000, true⟩,
  ⟨0xE00018, 0x0, 1, 0x0, 1, 0, 64, .ro, .config, 0x0, 0xE00000, true⟩,
  ⟨0xE00020, 0x0, 1, 0x0, 1, 0, 64, .ro, .value, 0x0, 0xE00000, true⟩,
  ⟨0xE00028, 0x0, 1, 0x0, 1, 0, 64, .ro, .value, 0x0, 0xE00000, true⟩,
  ⟨0xE00030, 0x0, 1, 0x0, 1, 0, 64, .ro, .value, 0x0, 0xE00000, true⟩,
  ⟨0xE00038, 0x0, 1, 0x0, 1, 0, 19, .ro, .value, 0x0, 0xE00000, false⟩,
  ⟨0xE0003C, 0x0, 1, 0x0, 1, 0, 8, .rwl, .config, 0x0, 0xE00000, false⟩,
  ⟨0xE00040, 0x0, 1, 0x0, 1, 29, 3, .ro, .value, 0x0, 0xE00000, false⟩,
  ⟨0xE00040, 0x0, 1, 0x0, 1, 28, 1, .ro, .value, 0x0, 0xE00000, false⟩,
  ⟨0xE00040, 0x0, 1, 0x0, 1, 27, 1, .ro, .value, 0x0, 0xE00000, false⟩,
  ⟨0xE00044, 0x0, 1, 0x0, 1, 0, 32, .ro, .value, 0x0, 0xE00000, false⟩,
  ⟨0xE00048, 0x0, 1, 0x0, 1, 0, 32, .ro, .value, 0x0, 0xE00000, false⟩,
  ⟨0xE00050, 0x0, 1, 0x0, 1, 0, 64, .ro, .value, 0x0, 0xE00000, true⟩,
  ⟨0xE00058, 0x0, 1, 0x0, 1, 0, 32, .ro, .value, 0x0, 0xE00000, false⟩,
  ⟨0xE0005C, 0x0, 1, 0x0, 1, 0, 32, .ro, .config, 0x0, 0xE00000, false⟩,
  ⟨0xE00060, 0x0, 1, 0x0, 1, 16, 8, .ro, .value, 0x0, 0xE00000, false⟩,
  ⟨0xE00060, 0x0, 1, 0x0, 1, 8, 8, .ro, .value, 0x0, 0xE00000, false⟩,
  ⟨0xE00060, 0x0, 1, 0x0, 1, 2, 1, .ro, .value, 0x0, 0xE00000, false⟩,
  ⟨0xE00060, 0x0, 1, 0x0, 1, 1, 1, .ro, .value, 0x0, 0xE00000, false⟩,
  ⟨0xE00064, 0x0, 1, 0x0, 1, 0, 32, .rc, .value, 0x0, 0xE00000, false⟩,
  ⟨0xE00068, 0x0, 1, 0x0, 1, 0, 32, .rc, .value, 0x0, 0xE00000, false⟩,
  ⟨0xE0006C, 0x0, 1, 0x0, 1, 0, 16, .ro, .config, 0x0, 0xE00000, false⟩,
  ⟨0xE00080, 0x4, 8, 0x0, 1, 0, 32, .wo, .config, 0x0, 0xE00000, false⟩,
  ⟨0xE00100, 0x40, 2, 0x0, 1, 0, 1, .rw, .config, 0x0, 0xE00000, false⟩,
  ⟨0xE00104, 0x40, 2, 0x0, 1, 16, 16, .ro, .value, 0x0, 0xE00000, false⟩,
  ⟨0xE00104, 0x40, 2, 0x0, 1, 8, 8, .ro, .value, 0x0, 0xE00000, false⟩,
  ⟨0xE00104, 0x40, 2, 0x0, 1, 0, 2, .ro, .value, 0x0, 0xE00000, false⟩,
  ⟨0xE00108, 0x40, 2, 0x0, 1, 0, 32, .rc, .value, 0x0, 0xE00000, false⟩,
  ⟨0xE0010C, 0x40, 2, 0x0, 1, 0, 32, .rc, .value, 0x0, 0xE00000, false⟩,
  ⟨0xE00110, 0x40, 2, 0x0, 1, 0, 64, .rc, .value, 0x0, 0xE00000, true⟩,
  ⟨0xE00118, 0x40, 2, 0x0, 1, 0, 32, .rc, .value, 0x0, 0xE00000, false⟩,
  ⟨0xE0011C, 0x40, 2, 0x0, 1, 0, 32, .rc, .value, 0x0, 0xE00000, false⟩,
  ⟨0xE00120, 0x40, 2, 0x0, 1, 0, 32, .rc, .value, 0x0, 0xE00000, false⟩,
  ⟨0xF00000, 0x0, 1, 0x0, 1, 31, 1, .rw, .value, 0x0, 0xF00000, false⟩,
  ⟨0xF00000, 0x0, 1, 0x0, 1, 8, 16, .rwl, .config, 0x0, 0xF00000, false⟩,
  ⟨0xF00000, 0x0, 1, 0x0, 1, 0, 8, .rwl, .config, 0x0, 0xF00000, false⟩,
  ⟨0xF00004, 0x0, 1, 0x0, 1, 1, 1, .wo, .value, 0x0, 0xF00000, false⟩,
  ⟨0xF00004, 0x0, 1, 0x0, 1, 0, 1, .rw, .config, 0x0, 0xF00000, false⟩]

/-- Part 8 of the register table. -/
def regRows8 : List RegRow := [
  ⟨0xF00008, 0x0, 1, 0x0, 1, 16, 16, .ro, .value, 0x0, 0xF00000, false⟩,
  ⟨0xF00008, 0x0, 1, 0x0, 1, 12, 1, .ro, .value, 0x0, 0xF00000, false⟩,
  ⟨0xF00008, 0x0, 1, 0x0, 1, 8, 4, .ro, .value, 0x0, 0xF00000, false⟩,
  ⟨0xF00008, 0x0, 1, 0x0, 1, 0, 4, .ro, .value, 0x0, 0xF00000, false⟩,
  ⟨0xF0000C, 0x0, 1, 0x0, 1, 0, 16, .ro, .value, 0x2, 0xF00000, false⟩,
  ⟨0xF00010, 0x0, 1, 0x0, 1, 0, 64, .rc, .value, 0x0, 0xF00000, true⟩,
  ⟨0xF00018, 0x0, 1, 0x0, 1, 0, 32, .rc, .value, 0x0, 0xF00000, false⟩,
  ⟨0xF0001C, 0x0, 1, 0x0, 1, 0, 32, .rc, .value, 0x0, 0xF00000, false⟩,
  ⟨0xF00100, 0x20, 13, 0x0, 1, 24, 4, .ro, .fuse, 0x0, 0xF00000, false⟩,
  ⟨0xF00100, 0x20, 13, 0x0, 1, 20, 4, .ro, .value, 0x0, 0xF00000, false⟩,
  ⟨0xF00100, 0x20, 13, 0x0, 1, 8, 8, .ro, .value, 0x0, 0xF00000, false⟩,
  ⟨0xF00100, 0x20, 13, 0x0, 1, 0, 2, .ro, .value, 0x0, 0xF00000, false⟩,
  ⟨0xF00104, 0x20, 13, 0x0, 1, 0, 32, .rc, .value, 0x0, 0xF00000, false⟩,
  ⟨0xF00108, 0x20, 13, 0x0, 1, 0, 32, .rc, .value, 0x0, 0xF00000, false⟩,
  ⟨0xF0010C, 0x20, 13, 0x0, 1, 0, 32, .rc, .value, 0x0, 0xF00000, false⟩,
  ⟨0xF00110, 0x20, 13, 0x0, 1, 0, 64, .rc, .value, 0x0, 0xF00000, true⟩,
  ⟨0xF01000, 0x10, 256, 0x0, 1, 31, 1, .rw, .config, 0x0, 0xF00000, false⟩,
  ⟨0xF01000, 0x10, 256, 0x0, 1, 30, 1, .rw, .config, 0x0, 0xF00000, false⟩,
  ⟨0xF01000, 0x10, 256, 0x0, 1, 29, 1, .rw, .config, 0x0, 0xF00000, false⟩,
  ⟨0xF01000, 0x10, 256, 0x0, 1, 28, 1, .rw, .config, 0x0, 0xF00000, false⟩,
  ⟨0xF01000, 0x10, 256, 0x0, 1, 24, 1, .rw, .config, 0x0, 0xF00000, false⟩,
  ⟨0xF01000, 0x10, 256, 0x0, 1, 0, 12, .rw, .config, 0x0, 0xF00000, false⟩,
  ⟨0xF01004, 0x10, 256, 0x0, 1, 0, 18, .rw, .config, 0x0, 0xF00000, false⟩,
  ⟨0xF01008, 0x10, 256, 0x0, 1, 0, 18, .rw, .config, 0x0, 0xF00000, false⟩,
  ⟨0xF0100C, 0x10, 256, 0x0, 1, 31, 1, .ro, .value, 0x0, 0xF00000, false⟩,
  ⟨0xF0100C, 0x10, 256, 0x0, 1, 0, 16, .ro, .value, 0x0, 0xF00000, false⟩,
  ⟨0xF02000, 0x0, 1, 0x4, 64, 0, 32, .ro, .value, 0x0, 0xF00000, false⟩,
  ⟨0xF02100, 0x0, 1, 0x4, 4, 0, 32, .ro, .value, 0x0, 0xF00000, false⟩,
  ⟨0xF40000, 0x0, 1, 0x4, 16384, 0, 32, .rw, .value, 0x0, 0xF00000, false⟩,
  ⟨0xF80000, 0x0, 1, 0x0, 1, 6, 2, .ro, .value, 0x0, 0xF00000, false⟩,
  ⟨0xF80000, 0x0, 1, 0x0, 1, 5, 1, .ro, .value, 0x0, 0xF00000, false⟩,
  ⟨0xF80000, 0x0, 1, 0x0, 1, 0, 4, .ro, .value, 0x0, 0xF00000, false⟩,
  ⟨0xF80004, 0x0, 1, 0x0, 1, 0, 16, .ro, .value, 0x2, 0xF00000, false⟩,
  ⟨0xF80008, 0x0, 1, 0x0, 1, 16, 6, .wo, .value, 0x0, 0xF00000, false⟩,
  ⟨0xF80008, 0x0, 1, 0x0, 1, 0, 16, .wo, .value, 0x0, 0xF00000, false⟩,
  ⟨0xF8000C, 0x0, 1, 0x0, 1, 0, 32, .rw, .value, 0x0, 0xF00000, false⟩,
  ⟨0xF80010, 0x0, 1, 0x0, 1, 0, 16, .ro, .config, 0x0, 0xF00000, false⟩,
  ⟨0xF81000, 0x10, 256, 0x4, 4, 0, 32, .ro, .config, 0x0, 0xF00000, false⟩,
  ⟨0x0, 0x0, 1, 0x0, 1, 16, 16, .ro, .value, 0x7240, 0x60000000, false⟩,
  ⟨0x0, 0x0, 1, 0x0, 1, 0, 16, .ro, .fuse, 0x1F4C, 0x60000000, false⟩,
  ⟨0x4, 0x0, 1, 0x0, 1, 8, 8, .ro, .fuse, 0x1, 0x60000000, false⟩,
  ⟨0x4, 0x0, 1, 0x0, 1, 0, 8, .ro, .fuse, 0x0, 0x60000000, false⟩,
  ⟨0x8, 0x0, 1, 0x4, 4, 0, 32, .ro, .fuse, 0x0, 0x60000000, false⟩,
  ⟨0x18, 0x0, 1, 0x0, 1, 0, 32, .ro, .value, 0x0, 0x60000000, false⟩,
  ⟨0x1C, 0x0, 1, 0x0, 1, 8, 5, .ro, .fuse, 0x0, 0x60000000, false⟩,
  ⟨0x1C, 0x0, 1, 0x0, 1, 3, 1, .ro, .value, 0x0, 0x60000000, false⟩,
  ⟨0x1C, 0x0, 1, 0x0, 1, 2, 1, .ro, .value, 0x0, 0x60000000, false⟩,
  ⟨0x1C, 0x0, 1, 0x0, 1, 1, 1, .ro, .value, 0x0, 0x60000000, false⟩,
  ⟨0x1C, 0x0, 1, 0x0, 1, 0, 1, .ro, .value, 0x0, 0x60000000, false⟩,
  ⟨0x20, 0x0, 1, 0x0, 1, 16, 16, .ro, .value, 0x0, 0x60000000, false⟩,
  ⟨0x20, 0x0, 1, 0x0, 1, 0, 16, .ro, .value, 0x0, 0x60000000, false⟩,
  ⟨0x24, 0x0, 1, 0x0, 1, 0, 2, .ro, .fuse, 0x0, 0x60000000, false⟩,
  ⟨0x28, 0x0, 1, 0x0, 1, 0, 64, .ro, .value, 0x0, 0x60000000, true⟩,
  ⟨0x30, 0x0, 1, 0x0, 1, 0, 40, .ro, .config, 0x0, 0x60000000, true⟩,
  ⟨0x38, 0x0, 1, 0x0, 1, 0, 32, .ro, .config, 0x0, 0x60000000, false⟩,
  ⟨0x3C, 0x0, 1, 0x0, 1, 0, 4, .ro, .value, 0x0, 0x60000000, false⟩,
  ⟨0x60000000, 0x0, 1, 0x0, 1, 31, 1, .rw, .value, 0x0, 0x60000000, false⟩,
  ⟨0x60000000, 0x0, 1, 0x0, 1, 0, 16, .rwl, .config, 0x0, 0x60000000, false⟩,
  ⟨0x60000004, 0x0, 1, 0x0, 1, 0, 32, .wo, .value, 0x0, 0x60000000, false⟩,
  ⟨0x60000008, 0x0, 1, 0x0, 1, 10, 2, .ro, .value, 0x1, 0x60000000, false⟩]

/-- Part 9 of the register table. -/
def regRows9 : List RegRow := [
  ⟨0x60000008, 0x0, 1, 0x0, 1, 8, 2, .ro, .value, 0x0, 0x60000000, false⟩,
  ⟨0x60000008, 0x0, 1, 0x0, 1, 6, 2, .ro, .value, 0x0, 0x60000000, false⟩,
  ⟨0x60000008, 0x0, 1, 0x0, 1, 0, 1, .ro, .value, 0x0, 0x60000000, false⟩,
  ⟨0x6000000C, 0x0, 1, 0x0, 1, 0, 1, .wo, .value, 0x0, 0x60000000, false⟩,
  ⟨0x60000010, 0x0, 1, 0x0, 1, 0, 32, .rc, .value, 0x0, 0x60000000, false⟩,
  ⟨0x60000020, 0x4, 4, 0x0, 1, 0, 32, .ro, .value, 0x0, 0x60000000, false⟩,
  ⟨0x60000030, 0x0, 1, 0x0, 1, 0, 64, .rwl, .config, 0x0, 0x60000000, true⟩,
  ⟨0x60000038, 0x0, 1, 0x0, 1, 0, 32, .rc, .value, 0x0, 0x60000000, false⟩,
  ⟨0x6000003C, 0x0, 1, 0x0, 1, 0, 32, .rc, .value, 0x0, 0x60000000, false⟩,
  ⟨0x60000040, 0x0, 1, 0x0, 1, 0, 26, .ro, .value, 0x0, 0x60000000, false⟩,
  ⟨0x60000050, 0x0, 1, 0x0, 1, 16, 8, .ro, .fuse, 0x0, 0x60000000, false⟩,
  ⟨0x60000050, 0x0, 1, 0x0, 1, 8, 8, .ro, .fuse, 0x0, 0x60000000, false⟩,
  ⟨0x60000050, 0x0, 1, 0x0, 1, 2, 1, .ro, .value, 0x0, 0x60000000, false⟩,
  ⟨0x60000050, 0x0, 1, 0x0, 1, 0, 2, .ro, .fuse, 0x0, 0x60000000, false⟩,
  ⟨0x60000100, 0x0, 1, 0x0, 1, 0, 1, .wo, .value, 0x0, 0x60000000, false⟩,
  ⟨0x60000200, 0x10, 32, 0x0, 1, 1, 1, .rw, .value, 0x0, 0x60000000, false⟩,
  ⟨0x60000200, 0x10, 32, 0x0, 1, 0, 1, .rw, .value, 0x1, 0x60000000, false⟩,
  ⟨0x60000204, 0x10, 32, 0x0, 1, 31, 1, .ro, .value, 0x0, 0x60000000, false⟩,
  ⟨0x60000204, 0x10, 32, 0x0, 1, 30, 1, .ro, .value, 0x0, 0x60000000, false⟩,
  ⟨0x60000204, 0x10, 32, 0x0, 1, 28, 2, .ro, .value, 0x0, 0x60000000, false⟩,
  ⟨0x60000204, 0x10, 32, 0x0, 1, 0, 24, .ro, .value, 0x0, 0x60000000, false⟩,
  ⟨0x60000208, 0x10, 32, 0x0, 1, 0, 24, .ro, .value, 0x7FFFFF, 0x60000000, false⟩,
  ⟨0x6000020C, 0x10, 32, 0x0, 1, 0, 24, .ro, .value, 0x800000, 0x60000000, false⟩,
  ⟨0x1000000, 0x0, 1, 0x0, 1, 31, 1, .rw, .value, 0x0, 0x1000000, false⟩,
  ⟨0x1000000, 0x0, 1, 0x0, 1, 0, 3, .rwl, .config, 0x0, 0x1000000, false⟩,
  ⟨0x1000004, 0x0, 1, 0x0, 1, 31, 1, .ro, .value, 0x0, 0x1000000, false⟩,
  ⟨0x1000004, 0x0, 1, 0x0, 1, 30, 1, .ro, .value, 0x0, 0x1000000, false⟩,
  ⟨0x1000004, 0x0, 1, 0x0, 1, 29, 1, .ro, .value, 0x0, 0x1000000, false⟩,
  ⟨0x1000004, 0x0, 1, 0x0, 1, 16, 11, .ro, .value, 0x0, 0x1000000, false⟩,
  ⟨0x1000004, 0x0, 1, 0x0, 1, 0, 11, .ro, .value, 0x0, 0x1000000, false⟩,
  ⟨0x1000008, 0x0, 1, 0x0, 1, 0, 11, .wo, .value, 0x0, 0x1000000, false⟩,
  ⟨0x100000C, 0x0, 1, 0x0, 1, 16, 16, .rc, .value, 0x0, 0x1000000, false⟩,
  ⟨0x100000C, 0x0, 1, 0x0, 1, 0, 11, .ro, .value, 0x0, 0x1000000, false⟩,
  ⟨0x1000010, 0x0, 1, 0x0, 1, 0, 11, .wo, .value, 0x0, 0x1000000, false⟩,
  ⟨0x1000014, 0x0, 1, 0x0, 1, 0, 1, .wo, .value, 0x0, 0x1000000, false⟩,
  ⟨0x1000018, 0x0, 1, 0x0, 1, 0, 64, .wo, .value, 0x0, 0x1000000, true⟩,
  ⟨0x1000040, 0x0, 1, 0x0, 1, 0, 32, .ro, .value, 0x0, 0x1000000, false⟩,
  ⟨0x1000044, 0x0, 1, 0x0, 1, 0, 32, .ro, .value, 0x0, 0x1000000, false⟩,
  ⟨0x1000048, 0x0, 1, 0x0, 1, 31, 1, .ro, .value, 0x0, 0x1000000, false⟩,
  ⟨0x1000048, 0x0, 1, 0x0, 1, 0, 19, .ro, .value, 0x0, 0x1000000, false⟩,
  ⟨0x100004C, 0x0, 1, 0x0, 1, 0, 32, .rc, .value, 0x0, 0x1000000, false⟩,
  ⟨0x1000050, 0x0, 1, 0x0, 1, 0, 32, .rc, .value, 0x0, 0x1000000, false⟩,
  ⟨0x1000054, 0x0, 1, 0x0, 1, 0, 32, .rc, .value, 0x0, 0x1000000, false⟩,
  ⟨0x1000100, 0x4, 48, 0x0, 1, 0, 32, .ro, .value, 0x0, 0x1000000, false⟩,
  ⟨0x1000200, 0x4, 48, 0x0, 1, 0, 32, .ro, .value, 0x0, 0x1000000, false⟩,
  ⟨0x1000300, 0x4, 48, 0x0, 1, 1, 1, .ro, .value, 0x0, 0x1000000, false⟩,
  ⟨0x1000300, 0x4, 48, 0x0, 1, 0, 1, .ro, .value, 0x0, 0x1000000, false⟩,
  ⟨0x1010000, 0x4, 1536, 0x0, 1, 31, 1, .ro, .fuse, 0x0, 0x1000000, false⟩,
  ⟨0x1010000, 0x4, 1536, 0x0, 1, 30, 1, .ro, .fuse, 0x0, 0x1000000, false⟩,
  ⟨0x1010000, 0x4, 1536, 0x0, 1, 29, 1, .ro, .fuse, 0x0, 0x1000000, false⟩,
  ⟨0x1010000, 0x4, 1536, 0x0, 1, 26, 3, .ro, .fuse, 0x0, 0x1000000, false⟩,
  ⟨0x1010000, 0x4, 1536, 0x0, 1, 23, 3, .ro, .fuse, 0x0, 0x1000000, false⟩,
  ⟨0x1010000, 0x4, 1536, 0x0, 1, 20, 3, .ro, .fuse, 0x0, 0x1000000, false⟩,
  ⟨0x1010000, 0x4, 1536, 0x0, 1, 7, 2, .rwl, .config, 0x0, 0x1000000, false⟩,
  ⟨0x1010000, 0x4, 1536, 0x0, 1, 5, 2, .rwl, .config, 0x0, 0x1000000, false⟩,
  ⟨0x1010000, 0x4, 1536, 0x0, 1, 3, 2, .rwl, .config, 0x0, 0x1000000, false⟩,
  ⟨0x1010000, 0x4, 1536, 0x0, 1, 0, 3, .rwl, .config, 0x0, 0x1000000, false⟩,
  ⟨0x1020000, 0x4, 1536, 0x0, 1, 30, 2, .ro, .value, 0x0, 0x1000000, false⟩,
  ⟨0x1020000, 0x4, 1536, 0x0, 1, 29, 1, .ro, .value, 0x0, 0x1000000, false⟩,
  ⟨0x1020000, 0x4, 1536, 0x0, 1, 26, 3, .ro, .value, 0x0, 0x1000000, false⟩]

/-- Part 10 of the register table. -/
def regRows10 : List RegRow := [
  ⟨0x1020000, 0x4, 1536, 0x0, 1, 0, 16, .ro, .value, 0x0, 0x1000000, false⟩,
  ⟨0x1100000, 0x0, 1, 0x0, 1, 31, 1, .rw, .value, 0x0, 0x1100000, false⟩,
  ⟨0x1100000, 0x0, 1, 0x0, 1, 16, 8, .rwl, .config, 0x0, 0x1100000, false⟩,
  ⟨0x1100000, 0x0, 1, 0x0, 1, 8, 8, .rwl, .config, 0x0, 0x1100000, false⟩,
  ⟨0x1100000, 0x0, 1, 0x0, 1, 1, 1, .rwl, .config, 0x0, 0x1100000, false⟩,
  ⟨0x1100000, 0x0, 1, 0x0, 1, 0, 1, .rwl, .config, 0x0, 0x1100000, false⟩,
  ⟨0x1100004, 0x0, 1, 0x0, 1, 0, 3, .wo, .value, 0x0, 0x1100000, false⟩,
  ⟨0x1100008, 0x0, 1, 0x0, 1, 28, 4, .ro, .value, 0x0, 0x1100000, false⟩,
  ⟨0x1100008, 0x0, 1, 0x0, 1, 27, 1, .ro, .value, 0x0, 0x1100000, false⟩,
  ⟨0x1100008, 0x0, 1, 0x0, 1, 26, 1, .ro, .value, 0x0, 0x1100000, false⟩,
  ⟨0x1100008, 0x0, 1, 0x0, 1, 25, 1, .ro, .value, 0x0, 0x1100000, false⟩,
  ⟨0x1100008, 0x0, 1, 0x0, 1, 24, 1, .ro, .value, 0x0, 0x1100000, false⟩,
  ⟨0x1100008, 0x0, 1, 0x0, 1, 23, 1, .ro, .value, 0x0, 0x1100000, false⟩,
  ⟨0x1100008, 0x0, 1, 0x0, 1, 22, 1, .ro, .value, 0x0, 0x1100000, false⟩,
  ⟨0x1100008, 0x0, 1, 0x0, 1, 21, 1, .ro, .value, 0x0, 0x1100000, false⟩,
  ⟨0x1100008, 0x0, 1, 0x0, 1, 20, 1, .ro, .value, 0x0, 0x1100000, false⟩,
  ⟨0x1100008, 0x0, 1, 0x0, 1, 18, 2, .ro, .value, 0x0, 0x1100000, false⟩,
  ⟨0x1100008, 0x0, 1, 0x0, 1, 0, 12, .ro, .value, 0x0, 0x1100000, false⟩,
  ⟨0x110000C, 0x0, 1, 0x0, 1, 24, 8, .ro, .value, 0x0, 0x1100000, false⟩,
  ⟨0x110000C, 0x0, 1, 0x0, 1, 20, 4, .ro, .value, 0x0, 0x1100000, false⟩,
  ⟨0x110000C, 0x0, 1, 0x0, 1, 16, 4, .ro, .value, 0x0, 0x1100000, false⟩,
  ⟨0x1100010, 0x0, 1, 0x0, 1, 16, 16, .ro, .value, 0x0, 0x1100000, false⟩,
  ⟨0x1100010, 0x0, 1, 0x0, 1, 0, 1, .ro, .value, 0x1, 0x1100000, false⟩,
  ⟨0x1100014, 0x0, 1, 0x0, 1, 0, 32, .rw, .value, 0x0, 0x1100000, false⟩,
  ⟨0x1100100, 0x20, 12, 0x0, 1, 31, 1, .rwl, .config, 0x0, 0x1100000, false⟩,
  ⟨0x1100100, 0x20, 12, 0x0, 1, 30, 1, .ro, .fuse, 0x0, 0x1100000, false⟩,
  ⟨0x1100100, 0x20, 12, 0x0, 1, 16, 8, .rwl, .config, 0x0, 0x1100000, false⟩,
  ⟨0x1100100, 0x20, 12, 0x0, 1, 0, 16, .ro, .fuse, 0x0, 0x1100000, false⟩,
  ⟨0x1100104, 0x20, 12, 0x0, 1, 16, 16, .rwl, .config, 0x0, 0x1100000, false⟩,
  ⟨0x1100104, 0x20, 12, 0x0, 1, 0, 16, .rwl, .config, 0x0, 0x1100000, false⟩,
  ⟨0x1100108, 0x20, 12, 0x0, 1, 8, 8, .rwl, .config, 0x0, 0x1100000, false⟩,
  ⟨0x1100108, 0x20, 12, 0x0, 1, 0, 7, .rwl, .config, 0x0, 0x1100000, false⟩,
  ⟨0x110010C, 0x20, 12, 0x0, 1, 0, 4, .rw, .value, 0x0, 0x1100000, false⟩,
  ⟨0x1100110, 0x20, 12, 0x0, 1, 29, 3, .ro, .value, 0x0, 0x1100000, false⟩,
  ⟨0x1100110, 0x20, 12, 0x0, 1, 25, 4, .ro, .value, 0x0, 0x1100000, false⟩,
  ⟨0x1100110, 0x20, 12, 0x0, 1, 24, 1, .ro, .value, 0x0, 0x1100000, false⟩,
  ⟨0x1100110, 0x20, 12, 0x0, 1, 16, 8, .ro, .value, 0x0, 0x1100000, false⟩,
  ⟨0x1100114, 0x20, 12, 0x0, 1, 16, 16, .ro, .value, 0x0, 0x1100000, false⟩,
  ⟨0x1100114, 0x20, 12, 0x0, 1, 0, 16, .ro, .value, 0x0, 0x1100000, false⟩,
  ⟨0x1100118, 0x20, 12, 0x0, 1, 0, 16, .ro, .value, 0x0, 0x1100000, false⟩,
  ⟨0x1100400, 0x0, 1, 0x0, 1, 31, 1, .ro, .value, 0x0, 0x1100000, false⟩,
  ⟨0x1100400, 0x0, 1, 0x0, 1, 0, 13, .ro, .value, 0x0, 0x1100000, false⟩,
  ⟨0x1100404, 0x0, 1, 0x0, 1, 0, 16, .rwl, .config, 0x0, 0x1100000, false⟩,
  ⟨0x1100408, 0x0, 1, 0x0, 1, 0, 32, .rc, .value, 0x0, 0x1100000, false⟩,
  ⟨0x1100500, 0x0, 1, 0x0, 1, 16, 8, .rwl, .config, 0x0, 0x1100000, false⟩,
  ⟨0x1100500, 0x0, 1, 0x0, 1, 8, 8, .rwl, .config, 0x0, 0x1100000, false⟩,
  ⟨0x1100504, 0x0, 1, 0x0, 1, 0, 16, .rwl, .config, 0x0, 0x1100000, false⟩,
  ⟨0x1100508, 0x0, 1, 0x0, 1, 16, 16, .ro, .value, 0x0, 0x1100000, false⟩,
  ⟨0x1100508, 0x0, 1, 0x0, 1, 15, 1, .ro, .value, 0x0, 0x1100000, false⟩,
  ⟨0x1100508, 0x0, 1, 0x0, 1, 14, 1, .ro, .value, 0x0, 0x1100000, false⟩,
  ⟨0x1100508, 0x0, 1, 0x0, 1, 13, 1, .ro, .value, 0x0, 0x1100000, false⟩,
  ⟨0x1100508, 0x0, 1, 0x0, 1, 12, 1, .ro, .value, 0x0, 0x1100000, false⟩,
  ⟨0x1100508, 0x0, 1, 0x0, 1, 11, 1, .ro, .value, 0x0, 0x1100000, false⟩,
  ⟨0x1100508, 0x0, 1, 0x0, 1, 0, 5, .ro, .value, 0x0, 0x1100000, false⟩,
  ⟨0x110050C, 0x0, 1, 0x0, 1, 0, 32, .rc, .value, 0x0, 0x1100000, false⟩,
  ⟨0x1100510, 0x0, 1, 0x0, 1, 0, 32, .rc, .value, 0x0, 0x1100000, false⟩,
  ⟨0x1100600, 0x4, 16, 0x0, 1, 31, 1, .ro, .value, 0x0, 0x1100000, false⟩,
  ⟨0x1100600, 0x4, 16, 0x0, 1, 29, 2, .ro, .value, 0x0, 0x1100000, false⟩,
  ⟨0x1100600, 0x4, 16, 0x0, 1, 28, 1, .ro, .fuse, 0x0, 0x1100000, false⟩,
  ⟨0x1100600, 0x4, 16, 0x0, 1, 0, 16, .ro, .value, 0x0, 0x1100000, false⟩]

/-- Part 11 of the register table. -/
def regRows11 : List RegRow := [
  ⟨0x1200000, 0x0, 1, 0x0, 1, 24, 8, .ro, .value, 0x0, 0x0, false⟩,
  ⟨0x1200000, 0x0, 1, 0x0, 1, 16, 8, .ro, .value, 0x0, 0x0, false⟩,
  ⟨0x1200000, 0x0, 1, 0x0, 1, 8, 8, .ro, .value, 0x0, 0x0, false⟩,
  ⟨0x1200000, 0x0, 1, 0x0, 1, 0, 8, .ro, .value, 0xB0, 0x0, false⟩,
  ⟨0x1200004, 0x0, 1, 0x0, 1, 17, 1, .ro, .value, 0x0, 0x0, false⟩,
  ⟨0x1200004, 0x0, 1, 0x0, 1, 16, 1, .ro, .config, 0x0, 0x0, false⟩,
  ⟨0x1200004, 0x0, 1, 0x0, 1, 0, 16, .ro, .config, 0x0, 0x0, false⟩,
  ⟨0x1200008, 0x0, 1, 0x0, 1, 0, 32, .ro, .config, 0x0, 0x0, false⟩,
  ⟨0x1201000, 0x20, 176, 0x4, 8, 0, 32, .ro, .config, 0x0, 0x0, false⟩]

/-- The rows whose reset column gives a number other than 0, the fuses whose value Table 14.12a states (VENDOR_ID and
STEPPING), and what CLASS and SEVERITY of the firmware-defined sources
read before the Reeve writes them (the text after Table 15.9). -/
def resetRows : List RegRow := [
  ⟨0x20200C, 0x20, 64, 0x0, 1, 0, 16, .ro, .value, 0x2, 0x200000, false⟩,
  ⟨0x101018, 0x4000, 64, 0x40, 64, 16, 3, .rw, .value, 0x3, 0x0, false⟩,
  ⟨0x101018, 0x4000, 64, 0x40, 64, 12, 3, .rw, .value, 0x2, 0x0, false⟩,
  ⟨0x101018, 0x4000, 64, 0x40, 64, 8, 4, .rw, .value, 0x8, 0x0, false⟩,
  ⟨0x400800, 0x0, 1, 0x0, 1, 12, 4, .rw, .value, 0xF, 0x400000, false⟩,
  ⟨0x400800, 0x0, 1, 0x0, 1, 7, 1, .rw, .value, 0x1, 0x400000, false⟩,
  ⟨0xC0001C, 0x0, 1, 0x0, 1, 27, 5, .ro, .value, 0x1F, 0xC00000, false⟩,
  ⟨0xC0001C, 0x0, 1, 0x0, 1, 22, 5, .ro, .value, 0x1F, 0xC00000, false⟩,
  ⟨0xC00080, 0x4, 18, 0x0, 1, 30, 2, .ro, .value, 0x3, 0xC00000, false⟩,
  ⟨0xC01004, 0x100, 20, 0x0, 1, 23, 5, .ro, .value, 0x1F, 0xC00000, false⟩,
  ⟨0xF0000C, 0x0, 1, 0x0, 1, 0, 16, .ro, .value, 0x2, 0xF00000, false⟩,
  ⟨0xF80004, 0x0, 1, 0x0, 1, 0, 16, .ro, .value, 0x2, 0xF00000, false⟩,
  ⟨0x0, 0x0, 1, 0x0, 1, 16, 16, .ro, .value, 0x7240, 0x60000000, false⟩,
  ⟨0x0, 0x0, 1, 0x0, 1, 0, 16, .ro, .fuse, 0x1F4C, 0x60000000, false⟩,
  ⟨0x4, 0x0, 1, 0x0, 1, 8, 8, .ro, .fuse, 0x1, 0x60000000, false⟩,
  ⟨0x60000008, 0x0, 1, 0x0, 1, 10, 2, .ro, .value, 0x1, 0x60000000, false⟩,
  ⟨0x60000200, 0x10, 32, 0x0, 1, 0, 1, .rw, .value, 0x1, 0x60000000, false⟩,
  ⟨0x60000208, 0x10, 32, 0x0, 1, 0, 24, .ro, .value, 0x7FFFFF, 0x60000000, false⟩,
  ⟨0x6000020C, 0x10, 32, 0x0, 1, 0, 24, .ro, .value, 0x800000, 0x60000000, false⟩,
  ⟨0x1100010, 0x0, 1, 0x0, 1, 0, 1, .ro, .value, 0x1, 0x1100000, false⟩,
  ⟨0x1200000, 0x0, 1, 0x0, 1, 0, 8, .ro, .value, 0xB0, 0x0, false⟩,
  ⟨0x1011600, 0x4, 128, 0x0, 1, 26, 3, .rw, .value, 0x4, 0x1000000, false⟩,
  ⟨0x1011600, 0x4, 128, 0x0, 1, 23, 3, .rw, .value, 0x1, 0x1000000, false⟩]

/-- The row holds a field at register offset `off`. -/
def RegRow.at (r : RegRow) (off : Nat) : Bool :=
  decide (r.base ≤ off) &&
    (let d := off - r.base
     let i := if r.s1 = 0 then 0 else if r.c1 ≤ d / r.s1 then r.c1 - 1 else d / r.s1
     let e := d - r.s1 * i
     let j := if r.s2 = 0 then 0 else e / r.s2
     decide (j < r.c2) && decide (e = r.s2 * j))

/-- The value a field holds after reset until something changes it (R14): the number of the reset column, and 0 for a field
marked config, fuse or strap until it is loaded, but for a fuse whose value Table 14.12a states. -/
def resetValue (off lo : Nat) : Nat :=
  match resetRows.find? fun r => decide (r.lo = lo) && r.at off with
  | some r => r.reset
  | none => 0

/-- Every field row of the spec's register tables. -/
def regTable : List RegRow :=
  regRows0 ++ regRows1 ++ regRows2 ++ regRows3 ++ regRows4 ++ regRows5 ++ regRows6 ++ regRows7 ++ regRows8 ++ regRows9 ++ regRows10 ++ regRows11

end Sys2Proof.Machine
end

