-- ==== Sys2Proof/Config.lean ====
section
/-! DEFINITION. What an implementation fixes, and the free values: opaque constants that no proof can evaluate. -/

namespace Sys2Proof.Config

/-- A value the spec leaves open (a draw from the physically unclonable source, a nonce, a challenge, a value of another
implementation), one for each draw: applied to the state's draw counter. Nothing constrains it (log entry 4). -/
opaque freeValue : Nat → BitVec 64

/-- The journal blocks the journal area holds (R254): the spec gives the area no size (log entry 30). -/
opaque journalArea : Nat

/-- The activates of a bank after which Refresh Management is due, as the DRAM reports it in its mode registers (R357): the spec gives no
number (log entry 148). -/
opaque rfmThreshold : Nat

/-- The SHA-384 digest of the mask ROM (measurement block 1 of Table 14.9a), which the spec does not give (log entry 4). -/
opaque romDigest : BitVec 384

/-- The subsystem vendor and subsystem ID a function reports, which the configuration image fixes and the spec gives no
value (Table 3.3; log entry 4). -/
opaque subsystemIds : BitVec 32

/-! The primitives of published standards on which the keys, the seals and the checks of the spec rest. The model builds what the spec builds on
them and leaves the primitives uninterpreted (log entry 154). Byte `i` of a value lies in bits `8 i + 7` to `8 i`. -/

/-- AES-256 of a 16 B block under a 32 B key (R311, R312). -/
opaque aes256 (key block : Nat) : BitVec 128

/-- The SHA-384 digest of bytes (R310, R329). -/
opaque sha384 (bytes : List Nat) : BitVec 384

/-- The SHA-256 digest of bytes (R420). -/
opaque sha256 (bytes : List Nat) : BitVec 256

/-- The uncompressed P-384 public key, 97 B, of a private key (R418). -/
opaque p384Public (priv : Nat) : BitVec 776

/-- The ECDH secret of a P-384 private key and a public key (R418). -/
opaque p384Shared (priv pub : Nat) : BitVec 384

/-- The ECDH secret of the provisioning private key, which the physically unclonable source gives, and a public key (R329, R334). -/
opaque deviceShared (pub : Nat) : BitVec 384

/-- The physically unclonable source's response followed by the fuse secret (R329). -/
opaque deviceSecret : List Nat

/-- The 24 check symbols of a DRAM codeword's 136 message symbols (R307): the spec gives the code, and no generator (log entry 155). -/
opaque rsCheck (message : List Nat) : BitVec 192

/-- The 256 B of LDPC parity over the 4,384 B of a flash codeword (R385, R386; log entry 155). -/
opaque ldpcParity (message : List Nat) : BitVec 2048

end Sys2Proof.Config
end

