-- ==== Sys2Proof/Machine/Fields.lean ====
section
/-! DEFINITION. Every register field the spec's register tables give, by name: the byte offset of its register in the
set-up window of Table 2.11 (the Reeve local block at 0x6000_0000 of Table 14.1), its lowest bit and its width. -/

namespace Sys2Proof.Machine

/-- A register field: its register's offset, its lowest bit, its width. -/
structure Fld where
  off : Nat
  lo : Nat
  w : Nat
  deriving DecidableEq, Repr

/-- The key of a field in the register file. -/
def Fld.key (f : Fld) : Nat := f.off * 64 + f.lo

namespace F

/-- PLD_DIRTY_LINES [63:0] LINES, RO, reset 0 (R56, Table 1.12). -/
def PLD_DIRTY_LINES_LINES : Fld := ⟨0x1000, 0, 64⟩
/-- PLD_DIRTY_MIRROR_LINES [63:0] LINES, RO, reset 0 (R57, Table 1.13). -/
def PLD_DIRTY_MIRROR_LINES_LINES : Fld := ⟨0x1008, 0, 64⟩
/-- PLD_DIRTY_FRONT_LINES [63:0] LINES, RO, reset 0 (R58, Table 1.14). -/
def PLD_DIRTY_FRONT_LINES_LINES : Fld := ⟨0x1010, 0, 64⟩
/-- PLD_DIRTY_PEAK_LINES [63:0] LINES, RC, reset 0 (R59, Table 1.15). -/
def PLD_DIRTY_PEAK_LINES_LINES : Fld := ⟨0x1018, 0, 64⟩
/-- PLD_MIRROR_PENDING [19:0] PENDING_LINES, RO, reset 0 (R60, Table 1.16). -/
def PLD_MIRROR_PENDING_PENDING_LINES : Fld := ⟨0x1020, 0, 20⟩
/-- PLD_DUR_STATE [6:6] MIRROR_WINDOW_FULL, RO, reset 0 (R61, Table 1.17). -/
def PLD_DUR_STATE_MIRROR_WINDOW_FULL : Fld := ⟨0x1024, 6, 1⟩
/-- PLD_DUR_STATE [5:5] TWIN_COMPLETE_SUSPENDED, RO, reset 0 (R61, Table 1.17). -/
def PLD_DUR_STATE_TWIN_COMPLETE_SUSPENDED : Fld := ⟨0x1024, 5, 1⟩
/-- PLD_DUR_STATE [4:4] SAVE_PATH_OK, RO, reset 0 (R61, Table 1.17). -/
def PLD_DUR_STATE_SAVE_PATH_OK : Fld := ⟨0x1024, 4, 1⟩
/-- PLD_DUR_STATE [3:3] FENCED, RO, reset 0 (R61, Table 1.17). -/
def PLD_DUR_STATE_FENCED : Fld := ⟨0x1024, 3, 1⟩
/-- PLD_DUR_STATE [2:2] HORIZON_FROZEN, RO, reset 0 (R61, Table 1.17). -/
def PLD_DUR_STATE_HORIZON_FROZEN : Fld := ⟨0x1024, 2, 1⟩
/-- PLD_DUR_STATE [1:0] DUR_LEVEL, RO, reset 0 (R61, Table 1.17). -/
def PLD_DUR_STATE_DUR_LEVEL : Fld := ⟨0x1024, 0, 2⟩
/-- PLD_GPF_STATUS [18:16] LAST_RESULT, RO, reset 0 (R62, Table 1.18). -/
def PLD_GPF_STATUS_LAST_RESULT : Fld := ⟨0x1028, 16, 3⟩
/-- PLD_GPF_STATUS [15:0] GPF_COUNT, RO, reset 0 (R62, Table 1.18). -/
def PLD_GPF_STATUS_GPF_COUNT : Fld := ⟨0x1028, 0, 16⟩
/-- PLD_GPF_LAST_US [23:0] DURATION_US, RO, reset 0 (R63, Table 1.19). -/
def PLD_GPF_LAST_US_DURATION_US : Fld := ⟨0x102C, 0, 24⟩
/-- PLD_CFG [31:31] LOCK, RW, reset 0 (R64, Table 1.20). -/
def PLD_CFG_LOCK : Fld := ⟨0x1030, 31, 1⟩
/-- PLD_CFG [15:8] PERSIST_WATCH_MS, RWL, reset config (R64, Table 1.20). -/
def PLD_CFG_PERSIST_WATCH_MS : Fld := ⟨0x1030, 8, 8⟩
/-- PLD_CFG [2:2] PERSIST_WATCH_EN, RWL, reset config (R64, Table 1.20). -/
def PLD_CFG_PERSIST_WATCH_EN : Fld := ⟨0x1030, 2, 1⟩
/-- PLD_CFG [1:0] MIRROR_WINDOW, RWL, reset config (R64, Table 1.20). -/
def PLD_CFG_MIRROR_WINDOW : Fld := ⟨0x1030, 0, 2⟩
/-- TENANT_W0 [15:8] SLUICE_WEIGHT, RW, reset config (R84, Table 2.6, i below 4096). -/
def TENANT_W0_SLUICE_WEIGHT (i : Nat) : Fld := ⟨0x60000 + 0x10 * i, 8, 8⟩
/-- TENANT_W0 [2:2] KEYS_VALID, RO, reset config (R84, Table 2.6, i below 4096). -/
def TENANT_W0_KEYS_VALID (i : Nat) : Fld := ⟨0x60000 + 0x10 * i, 2, 1⟩
/-- TENANT_W0 [1:0] STATE, RW, reset config (R84, Table 2.6, i below 4096). -/
def TENANT_W0_STATE (i : Nat) : Fld := ⟨0x60000 + 0x10 * i, 0, 2⟩
/-- TENANT_W1 [28:16] REGION_COUNT, RO, reset 0 (R84, Table 2.6, i below 4096). -/
def TENANT_W1_REGION_COUNT (i : Nat) : Fld := ⟨0x60004 + 0x10 * i, 16, 13⟩
/-- TENANT_W1 [12:0] MAX_REGIONS, RW, reset config (R84, Table 2.6, i below 4096). -/
def TENANT_W1_MAX_REGIONS (i : Nat) : Fld := ⟨0x60004 + 0x10 * i, 0, 13⟩
/-- TENANT_W2 [17:0] MAX_GIB, RW, reset config (R84, Table 2.6, i below 4096). -/
def TENANT_W2_MAX_GIB (i : Nat) : Fld := ⟨0x60008 + 0x10 * i, 0, 18⟩
/-- TENANT_W3 [17:0] COMMITTED_GIB, RO, reset 0 (R84, Table 2.6, i below 4096). -/
def TENANT_W3_COMMITTED_GIB (i : Nat) : Fld := ⟨0x6000C + 0x10 * i, 0, 18⟩
/-- PKEY_MAP [28:28] ADMIN, RW, reset config (R88, Table 2.7, i below 4096). -/
def PKEY_MAP_ADMIN (i : Nat) : Fld := ⟨0x78000 + 0x4 * i, 28, 1⟩
/-- PKEY_MAP [27:16] TENANT, RW, reset config (R88, Table 2.7, i below 4096). -/
def PKEY_MAP_TENANT (i : Nat) : Fld := ⟨0x78000 + 0x4 * i, 16, 12⟩
/-- PKEY_MAP [15:15] VALID, RW, reset config (R88, Table 2.7, i below 4096). -/
def PKEY_MAP_VALID (i : Nat) : Fld := ⟨0x78000 + 0x4 * i, 15, 1⟩
/-- PKEY_MAP [14:0] PKEY_PART, RW, reset config (R88, Table 2.7, i below 4096). -/
def PKEY_MAP_PKEY_PART (i : Nat) : Fld := ⟨0x78000 + 0x4 * i, 0, 15⟩
/-- ADR_CTRL [31:31] LOCK, RW, reset 0 (R98, Table 2.12). -/
def ADR_CTRL_LOCK : Fld := ⟨0x70000, 31, 1⟩
/-- ADR_CTRL [0:0] SIDE, RO, reset strap (R98, Table 2.12). -/
def ADR_CTRL_SIDE : Fld := ⟨0x70000, 0, 1⟩
/-- ADR_STATUS [28:16] REGIONS_PARTNER, RO, reset 0 (R98, Table 2.12). -/
def ADR_STATUS_REGIONS_PARTNER : Fld := ⟨0x70004, 16, 13⟩
/-- ADR_STATUS [12:0] REGIONS_OWN, RO, reset 0 (R98, Table 2.12). -/
def ADR_STATUS_REGIONS_OWN : Fld := ⟨0x70004, 0, 13⟩
/-- ADR_COMMITTED_GIB [17:0] GIB, RO, reset 0 (R98, Table 2.12). -/
def ADR_COMMITTED_GIB_GIB : Fld := ⟨0x70008, 0, 18⟩
/-- ADR_USABLE_GIB [17:0] GIB, RWL, reset config (R98, Table 2.12). -/
def ADR_USABLE_GIB_GIB : Fld := ⟨0x7000C, 0, 18⟩
/-- ADR_PIN_LIMIT_GIB [13:0] GIB, RWL, reset config (R98, Table 2.12). -/
def ADR_PIN_LIMIT_GIB_GIB : Fld := ⟨0x70010, 0, 14⟩
/-- ADR_PINNED_GIB [13:0] GIB, RO, reset 0 (R98, Table 2.12). -/
def ADR_PINNED_GIB_GIB : Fld := ⟨0x70014, 0, 14⟩
/-- ADR_GEN_NEXT [31:0] GEN, RO, reset config (R98, Table 2.12). -/
def ADR_GEN_NEXT_GEN : Fld := ⟨0x70018, 0, 32⟩
/-- ADR_REFUSE_COUNT [31:0] COUNT, RC, reset 0 (R98, Table 2.12). -/
def ADR_REFUSE_COUNT_COUNT : Fld := ⟨0x7001C, 0, 32⟩
/-- ADR_LAST_REFUSE [31:31] VALID, W1C, reset 0 (R98, Table 2.12). -/
def ADR_LAST_REFUSE_VALID : Fld := ⟨0x70020, 31, 1⟩
/-- ADR_LAST_REFUSE [27:24] CHECK, RO, reset 0 (R98, Table 2.12). -/
def ADR_LAST_REFUSE_CHECK : Fld := ⟨0x70020, 24, 4⟩
/-- ADR_LAST_REFUSE [23:20] PATH, RO, reset 0 (R98, Table 2.12). -/
def ADR_LAST_REFUSE_PATH : Fld := ⟨0x70020, 20, 4⟩
/-- ADR_LAST_REFUSE [19:8] TENANT, RO, reset 0 (R98, Table 2.12). -/
def ADR_LAST_REFUSE_TENANT : Fld := ⟨0x70020, 8, 12⟩
/-- ADR_LAST_REFUSE [5:0] INGRESS, RO, reset 0 (R98, Table 2.12). -/
def ADR_LAST_REFUSE_INGRESS : Fld := ⟨0x70020, 0, 6⟩
/-- ADR_LAST_REFUSE_ADDR [48:0] PAIR_ADDR, RO, reset 0 (R98, Table 2.12). -/
def ADR_LAST_REFUSE_ADDR_PAIR_ADDR : Fld := ⟨0x70028, 0, 49⟩
/-- LD_MAP [15:15] READ_ONLY, RW, reset config (R98, Table 2.12, i below 64). -/
def LD_MAP_READ_ONLY (i : Nat) : Fld := ⟨0x70100 + 0x4 * i, 15, 1⟩
/-- LD_MAP [14:14] DORMANT, RW, reset config (R98, Table 2.12, i below 64). -/
def LD_MAP_DORMANT (i : Nat) : Fld := ⟨0x70100 + 0x4 * i, 14, 1⟩
/-- LD_MAP [13:13] ADMIN, RW, reset config (R98, Table 2.12, i below 64). -/
def LD_MAP_ADMIN (i : Nat) : Fld := ⟨0x70100 + 0x4 * i, 13, 1⟩
/-- LD_MAP [12:12] ENABLE, RW, reset config (R98, Table 2.12, i below 64). -/
def LD_MAP_ENABLE (i : Nat) : Fld := ⟨0x70100 + 0x4 * i, 12, 1⟩
/-- LD_MAP [11:0] TENANT, RW, reset config (R98, Table 2.12, i below 64). -/
def LD_MAP_TENANT (i : Nat) : Fld := ⟨0x70100 + 0x4 * i, 0, 12⟩
/-- CXL_GLOBAL_CFG [31:31] LOCK, RW, reset 0 (R133, Table 3.13). -/
def CXL_GLOBAL_CFG_LOCK : Fld := ⟨0x200000, 31, 1⟩
/-- CXL_GLOBAL_CFG [1:0] BIFURC_P0, RWL, reset config (R133, Table 3.13). -/
def CXL_GLOBAL_CFG_BIFURC_P0 : Fld := ⟨0x200000, 0, 2⟩
/-- CXL_GLOBAL_CFG [3:2] BIFURC_P1, RWL, reset config (R133, Table 3.13). -/
def CXL_GLOBAL_CFG_BIFURC_P1 : Fld := ⟨0x200000, 2, 2⟩
/-- CXL_GLOBAL_CFG [5:4] BIFURC_P2, RWL, reset config (R133, Table 3.13). -/
def CXL_GLOBAL_CFG_BIFURC_P2 : Fld := ⟨0x200000, 4, 2⟩
/-- CXL_GLOBAL_CFG [7:6] BIFURC_P3, RWL, reset config (R133, Table 3.13). -/
def CXL_GLOBAL_CFG_BIFURC_P3 : Fld := ⟨0x200000, 6, 2⟩
/-- CXL_GLOBAL_STATUS [17:16] DEVLOAD, RO, reset 0 (R133, Table 3.13). -/
def CXL_GLOBAL_STATUS_DEVLOAD : Fld := ⟨0x200004, 16, 2⟩
/-- CXL_GLOBAL_STATUS [15:0] LINK_UP, RO, reset 0 (R133, Table 3.13). -/
def CXL_GLOBAL_STATUS_LINK_UP : Fld := ⟨0x200004, 0, 16⟩
/-- CXL_PORT_CTRL [0:0] SERVICE, RW, reset config (R133, Table 3.13, i below 4). -/
def CXL_PORT_CTRL_SERVICE (i : Nat) : Fld := ⟨0x200100 + 0x20 * i, 0, 1⟩
/-- CXL_PORT_STATUS [31:16] LINK_DOWNS_60S, RO, reset 0 (R133, Table 3.13, i below 4). -/
def CXL_PORT_STATUS_LINK_DOWNS_60S (i : Nat) : Fld := ⟨0x200104 + 0x20 * i, 16, 16⟩
/-- CXL_PORT_STATUS [15:8] OOS_CAUSE, RO, reset 0 (R133, Table 3.13, i below 4). -/
def CXL_PORT_STATUS_OOS_CAUSE (i : Nat) : Fld := ⟨0x200104 + 0x20 * i, 8, 8⟩
/-- CXL_PORT_STATUS [2:2] PERST_ASSERTED, RO, reset 0 (R133, Table 3.13, i below 4). -/
def CXL_PORT_STATUS_PERST_ASSERTED (i : Nat) : Fld := ⟨0x200104 + 0x20 * i, 2, 1⟩
/-- CXL_PORT_STATUS [1:0] SVC_STATE, RO, reset 0 (R133, Table 3.13, i below 4). -/
def CXL_PORT_STATUS_SVC_STATE (i : Nat) : Fld := ⟨0x200104 + 0x20 * i, 0, 2⟩
/-- CXL_PORT_PERST_COUNT [31:0] COUNT, RC, reset 0 (R133, Table 3.13, i below 4). -/
def CXL_PORT_PERST_COUNT_COUNT (i : Nat) : Fld := ⟨0x200108 + 0x20 * i, 0, 32⟩
/-- CXL_LINK_CFG [21:21] IDE_REQUIRED, RWL, reset config (R133, Table 3.13, i below 16). -/
def CXL_LINK_CFG_IDE_REQUIRED (i : Nat) : Fld := ⟨0x201000 + 0x40 * i, 21, 1⟩
/-- CXL_LINK_CFG [20:16] LD_COUNT, RWL, reset config (R133, Table 3.13, i below 16). -/
def CXL_LINK_CFG_LD_COUNT (i : Nat) : Fld := ⟨0x201000 + 0x40 * i, 16, 5⟩
/-- CXL_LINK_CFG [13:8] LD_BASE, RWL, reset config (R133, Table 3.13, i below 16). -/
def CXL_LINK_CFG_LD_BASE (i : Nat) : Fld := ⟨0x201000 + 0x40 * i, 8, 6⟩
/-- CXL_LINK_CTRL [0:0] BIND_RESTORE, WO, reset 0 (R133, Table 3.13, i below 16). -/
def CXL_LINK_CTRL_BIND_RESTORE (i : Nat) : Fld := ⟨0x201004 + 0x40 * i, 0, 1⟩
/-- CXL_LINK_STATUS [28:28] BIND_HOLD, RO, reset 0 (R133, Table 3.13, i below 16). -/
def CXL_LINK_STATUS_BIND_HOLD (i : Nat) : Fld := ⟨0x201008 + 0x40 * i, 28, 1⟩
/-- CXL_LINK_STATUS [27:26] IDE_STATE, RO, reset 0 (R133, Table 3.13, i below 16). -/
def CXL_LINK_STATUS_IDE_STATE (i : Nat) : Fld := ⟨0x201008 + 0x40 * i, 26, 2⟩
/-- CXL_LINK_STATUS [25:25] MLD_ACTIVE, RO, reset 0 (R133, Table 3.13, i below 16). -/
def CXL_LINK_STATUS_MLD_ACTIVE (i : Nat) : Fld := ⟨0x201008 + 0x40 * i, 25, 1⟩
/-- CXL_LINK_STATUS [24:24] LOPT_FLIT, RO, reset 0 (R133, Table 3.13, i below 16). -/
def CXL_LINK_STATUS_LOPT_FLIT (i : Nat) : Fld := ⟨0x201008 + 0x40 * i, 24, 1⟩
/-- CXL_LINK_STATUS [20:16] WIDTH, RO, reset 0 (R133, Table 3.13, i below 16). -/
def CXL_LINK_STATUS_WIDTH (i : Nat) : Fld := ⟨0x201008 + 0x40 * i, 16, 5⟩
/-- CXL_LINK_STATUS [1:0] RATE, RO, reset 0 (R133, Table 3.13, i below 16). -/
def CXL_LINK_STATUS_RATE (i : Nat) : Fld := ⟨0x201008 + 0x40 * i, 0, 2⟩
/-- CXL_LINK_DISCARDS [31:0] COUNT, RC, reset 0 (R133, Table 3.13, i below 16). -/
def CXL_LINK_DISCARDS_COUNT (i : Nat) : Fld := ⟨0x20100C + 0x40 * i, 0, 32⟩
/-- CXL_LINK_POISON_READS [31:0] COUNT, RC, reset 0 (R133, Table 3.13, i below 16). -/
def CXL_LINK_POISON_READS_COUNT (i : Nat) : Fld := ⟨0x201010 + 0x40 * i, 0, 32⟩
/-- CXL_LINK_REPLAYS [31:0] COUNT, RC, reset 0 (R133, Table 3.13, i below 16). -/
def CXL_LINK_REPLAYS_COUNT (i : Nat) : Fld := ⟨0x201014 + 0x40 * i, 0, 32⟩
/-- CXL_LINK_IDE_FAILS [15:0] COUNT, RC, reset 0 (R133, Table 3.13, i below 16). -/
def CXL_LINK_IDE_FAILS_COUNT (i : Nat) : Fld := ⟨0x201018 + 0x40 * i, 0, 16⟩
/-- CXL_LD_WIN_BASE [31:31] WIN_VALID, RWL, reset config (R133, Table 3.13, i below 64). -/
def CXL_LD_WIN_BASE_WIN_VALID (i : Nat) : Fld := ⟨0x202000 + 0x20 * i, 31, 1⟩
/-- CXL_LD_WIN_BASE [24:24] SIDE, RWL, reset config (R133, Table 3.13, i below 64). -/
def CXL_LD_WIN_BASE_SIDE (i : Nat) : Fld := ⟨0x202000 + 0x20 * i, 24, 1⟩
/-- CXL_LD_WIN_BASE [17:0] BASE_SLOT, RWL, reset config (R133, Table 3.13, i below 64). -/
def CXL_LD_WIN_BASE_BASE_SLOT (i : Nat) : Fld := ⟨0x202000 + 0x20 * i, 0, 18⟩
/-- CXL_LD_WIN_SPAN [17:0] SPAN_M1, RWL, reset config (R133, Table 3.13, i below 64). -/
def CXL_LD_WIN_SPAN_SPAN_M1 (i : Nat) : Fld := ⟨0x202004 + 0x20 * i, 0, 18⟩
/-- CXL_LD_STATUS [7:7] ACTIVATED, RO, reset 0 (R133, Table 3.13, i below 64). -/
def CXL_LD_STATUS_ACTIVATED (i : Nat) : Fld := ⟨0x202008 + 0x20 * i, 7, 1⟩
/-- CXL_LD_STATUS [6:6] MEMORY_ACTIVE, RO, reset 0 (R133, Table 3.13, i below 64). -/
def CXL_LD_STATUS_MEMORY_ACTIVE (i : Nat) : Fld := ⟨0x202008 + 0x20 * i, 6, 1⟩
/-- CXL_LD_STATUS [5:4] MEDIA_STATUS, RO, reset 0 (R133, Table 3.13, i below 64). -/
def CXL_LD_STATUS_MEDIA_STATUS (i : Nat) : Fld := ⟨0x202008 + 0x20 * i, 4, 2⟩
/-- CXL_LD_STATUS [3:3] HDM_COMMITTED, RO, reset 0 (R133, Table 3.13, i below 64). -/
def CXL_LD_STATUS_HDM_COMMITTED (i : Nat) : Fld := ⟨0x202008 + 0x20 * i, 3, 1⟩
/-- CXL_LD_TMO_MIN [15:0] MS, RO, reset 2 (R133, Table 3.13, i below 64). -/
def CXL_LD_TMO_MIN_MS (i : Nat) : Fld := ⟨0x20200C + 0x20 * i, 0, 16⟩
/-- RDMA_GLOBAL_CFG [31:31] LOCK, RW, reset 0 (R161, Table 4.8). -/
def RDMA_GLOBAL_CFG_LOCK : Fld := ⟨0x300000, 31, 1⟩
/-- RDMA_GLOBAL_CFG [19:16] PFC_PRIO, RWL, reset config (R161, Table 4.8). -/
def RDMA_GLOBAL_CFG_PFC_PRIO : Fld := ⟨0x300000, 16, 4⟩
/-- RDMA_GLOBAL_CFG [8:8] FLOW_MODE, RWL, reset config (R161, Table 4.8). -/
def RDMA_GLOBAL_CFG_FLOW_MODE : Fld := ⟨0x300000, 8, 1⟩
/-- RDMA_GLOBAL_CFG [3:2] SPLIT_P1, RWL, reset config (R161, Table 4.8). -/
def RDMA_GLOBAL_CFG_SPLIT_P1 : Fld := ⟨0x300000, 2, 2⟩
/-- RDMA_GLOBAL_CFG [1:0] SPLIT_P0, RWL, reset config (R161, Table 4.8). -/
def RDMA_GLOBAL_CFG_SPLIT_P0 : Fld := ⟨0x300000, 0, 2⟩
/-- RDMA_GLOBAL_STATUS [15:0] LINK_UP, RO, reset 0 (R161, Table 4.8). -/
def RDMA_GLOBAL_STATUS_LINK_UP : Fld := ⟨0x300004, 0, 16⟩
/-- RDMA_QP_LIMIT [20:0] LIMIT, RWL, reset config (R161, Table 4.8). -/
def RDMA_QP_LIMIT_LIMIT : Fld := ⟨0x300010, 0, 21⟩
/-- RDMA_CMD_QP_LIMIT [11:0] LIMIT, RWL, reset config (R161, Table 4.8). -/
def RDMA_CMD_QP_LIMIT_LIMIT : Fld := ⟨0x300014, 0, 12⟩
/-- RDMA_QP_STATUS [20:0] QP_ACTIVE, RO, reset 0 (R161, Table 4.8). -/
def RDMA_QP_STATUS_QP_ACTIVE : Fld := ⟨0x300018, 0, 21⟩
/-- RDMA_QP_HITS [63:0] COUNT, RC, reset 0 (R161, Table 4.8). -/
def RDMA_QP_HITS_COUNT : Fld := ⟨0x300020, 0, 64⟩
/-- RDMA_QP_MISSES [63:0] COUNT, RC, reset 0 (R161, Table 4.8). -/
def RDMA_QP_MISSES_COUNT : Fld := ⟨0x300028, 0, 64⟩
/-- RDMA_CNP_CFG [7:0] CNP_INTERVAL_US, RWL, reset config (R161, Table 4.8). -/
def RDMA_CNP_CFG_CNP_INTERVAL_US : Fld := ⟨0x300030, 0, 8⟩
/-- RDMA_HLT_STATUS [16:0] ENTRIES, RO, reset 0 (R161, Table 4.8). -/
def RDMA_HLT_STATUS_ENTRIES : Fld := ⟨0x300040, 0, 17⟩
/-- RDMA_HLT_MOVES [31:0] COUNT, RC, reset 0 (R161, Table 4.8). -/
def RDMA_HLT_MOVES_COUNT : Fld := ⟨0x300044, 0, 32⟩
/-- RDMA_HLT_FLAP_COUNT [31:0] COUNT, RC, reset 0 (R161, Table 4.8). -/
def RDMA_HLT_FLAP_COUNT_COUNT : Fld := ⟨0x300048, 0, 32⟩
/-- RDMA_SVC_ADDR [31:0] ADDR, RWL, reset config (R161, Table 4.8, i below 16, j below 4). -/
def RDMA_SVC_ADDR_ADDR (i j : Nat) : Fld := ⟨0x300100 + 0x20 * i + 0x4 * j, 0, 32⟩
/-- RDMA_SVC_CTRL [1:1] SIDE, RWL, reset config (R161, Table 4.8, i below 16). -/
def RDMA_SVC_CTRL_SIDE (i : Nat) : Fld := ⟨0x300110 + 0x20 * i, 1, 1⟩
/-- RDMA_SVC_CTRL [0:0] VALID, RWL, reset config (R161, Table 4.8, i below 16). -/
def RDMA_SVC_CTRL_VALID (i : Nat) : Fld := ⟨0x300110 + 0x20 * i, 0, 1⟩
/-- RDMA_LINK_CTRL [0:0] SERVICE, RW, reset config (R161, Table 4.8, i below 16). -/
def RDMA_LINK_CTRL_SERVICE (i : Nat) : Fld := ⟨0x301000 + 0x80 * i, 0, 1⟩
/-- RDMA_LINK_STATUS [31:16] LINK_DOWNS_60S, RO, reset 0 (R161, Table 4.8, i below 16). -/
def RDMA_LINK_STATUS_LINK_DOWNS_60S (i : Nat) : Fld := ⟨0x301004 + 0x80 * i, 16, 16⟩
/-- RDMA_LINK_STATUS [15:8] OOS_CAUSE, RO, reset 0 (R161, Table 4.8, i below 16). -/
def RDMA_LINK_STATUS_OOS_CAUSE (i : Nat) : Fld := ⟨0x301004 + 0x80 * i, 8, 8⟩
/-- RDMA_LINK_STATUS [3:2] SVC_STATE, RO, reset 0 (R161, Table 4.8, i below 16). -/
def RDMA_LINK_STATUS_SVC_STATE (i : Nat) : Fld := ⟨0x301004 + 0x80 * i, 2, 2⟩
/-- RDMA_LINK_STATUS [1:1] FEC_LOCK, RO, reset 0 (R161, Table 4.8, i below 16). -/
def RDMA_LINK_STATUS_FEC_LOCK (i : Nat) : Fld := ⟨0x301004 + 0x80 * i, 1, 1⟩
/-- RDMA_LINK_STATUS [0:0] UP, RO, reset 0 (R161, Table 4.8, i below 16). -/
def RDMA_LINK_STATUS_UP (i : Nat) : Fld := ⟨0x301004 + 0x80 * i, 0, 1⟩
/-- RDMA_LINK_MAC_LO [31:0] MAC, RWL, reset config (R161, Table 4.8, i below 16). -/
def RDMA_LINK_MAC_LO_MAC (i : Nat) : Fld := ⟨0x301008 + 0x80 * i, 0, 32⟩
/-- RDMA_LINK_MAC_HI [15:0] MAC, RWL, reset config (R161, Table 4.8, i below 16). -/
def RDMA_LINK_MAC_HI_MAC (i : Nat) : Fld := ⟨0x30100C + 0x80 * i, 0, 16⟩
/-- RDMA_LINK_GW_LO [31:0] GW_MAC, RWL, reset config (R161, Table 4.8, i below 16). -/
def RDMA_LINK_GW_LO_GW_MAC (i : Nat) : Fld := ⟨0x301010 + 0x80 * i, 0, 32⟩
/-- RDMA_LINK_GW_HI [15:0] GW_MAC, RWL, reset config (R161, Table 4.8, i below 16). -/
def RDMA_LINK_GW_HI_GW_MAC (i : Nat) : Fld := ⟨0x301014 + 0x80 * i, 0, 16⟩
/-- RDMA_LINK_RX_FRAMES [63:0] COUNT, RC, reset 0 (R161, Table 4.8, i below 16). -/
def RDMA_LINK_RX_FRAMES_COUNT (i : Nat) : Fld := ⟨0x301018 + 0x80 * i, 0, 64⟩
/-- RDMA_LINK_TX_FRAMES [63:0] COUNT, RC, reset 0 (R161, Table 4.8, i below 16). -/
def RDMA_LINK_TX_FRAMES_COUNT (i : Nat) : Fld := ⟨0x301020 + 0x80 * i, 0, 64⟩
/-- RDMA_LINK_RX_DROPS [31:0] COUNT, RC, reset 0 (R161, Table 4.8, i below 16). -/
def RDMA_LINK_RX_DROPS_COUNT (i : Nat) : Fld := ⟨0x301028 + 0x80 * i, 0, 32⟩
/-- RDMA_LINK_FEC_CORR [31:0] COUNT, RC, reset 0 (R161, Table 4.8, i below 16). -/
def RDMA_LINK_FEC_CORR_COUNT (i : Nat) : Fld := ⟨0x30102C + 0x80 * i, 0, 32⟩
/-- RDMA_LINK_FEC_UNCORR [31:0] COUNT, RC, reset 0 (R161, Table 4.8, i below 16). -/
def RDMA_LINK_FEC_UNCORR_COUNT (i : Nat) : Fld := ⟨0x301030 + 0x80 * i, 0, 32⟩
/-- RDMA_LINK_CE_RX [31:0] COUNT, RC, reset 0 (R161, Table 4.8, i below 16). -/
def RDMA_LINK_CE_RX_COUNT (i : Nat) : Fld := ⟨0x301034 + 0x80 * i, 0, 32⟩
/-- RDMA_LINK_CNP_TX [31:0] COUNT, RC, reset 0 (R161, Table 4.8, i below 16). -/
def RDMA_LINK_CNP_TX_COUNT (i : Nat) : Fld := ⟨0x301038 + 0x80 * i, 0, 32⟩
/-- RDMA_LINK_CNP_RX [31:0] COUNT, RC, reset 0 (R161, Table 4.8, i below 16). -/
def RDMA_LINK_CNP_RX_COUNT (i : Nat) : Fld := ⟨0x30103C + 0x80 * i, 0, 32⟩
/-- RDMA_LINK_NAK_TX [31:0] COUNT, RC, reset 0 (R161, Table 4.8, i below 16). -/
def RDMA_LINK_NAK_TX_COUNT (i : Nat) : Fld := ⟨0x301040 + 0x80 * i, 0, 32⟩
/-- RDMA_LINK_PKEY_VIOLATIONS [31:0] COUNT, RC, reset 0 (R161, Table 4.8, i below 16). -/
def RDMA_LINK_PKEY_VIOLATIONS_COUNT (i : Nat) : Fld := ⟨0x301044 + 0x80 * i, 0, 32⟩
/-- RDMA_LINK_PAUSE_US [31:0] US, RC, reset 0 (R161, Table 4.8, i below 16). -/
def RDMA_LINK_PAUSE_US_US (i : Nat) : Fld := ⟨0x301048 + 0x80 * i, 0, 32⟩
/-- RING_WAKE [63:0] WAKE, WO, reset 0 (R194, Table 5.11, i below 64). -/
def RING_WAKE_WAKE (i : Nat) : Fld := ⟨0x100000 + 0x4000 * i, 0, 64⟩
/-- RING_FN_ENABLED [63:0] ENABLED, RO, reset 0 (R194, Table 5.11, i below 64). -/
def RING_FN_ENABLED_ENABLED (i : Nat) : Fld := ⟨0x100008 + 0x4000 * i, 0, 64⟩
/-- RING_FN_STOPPED [63:0] STOPPED, RO, reset 0 (R194, Table 5.11, i below 64). -/
def RING_FN_STOPPED_STOPPED (i : Nat) : Fld := ⟨0x100010 + 0x4000 * i, 0, 64⟩
/-- RING_SQ_BASE [63:12] ADDR, RW, reset 0 (R194, Table 5.11, i below 64, j below 64). -/
def RING_SQ_BASE_ADDR (i j : Nat) : Fld := ⟨0x101000 + 0x4000 * i + 0x40 * j, 12, 52⟩
/-- RING_CQ_BASE [63:12] ADDR, RW, reset 0 (R194, Table 5.11, i below 64, j below 64). -/
def RING_CQ_BASE_ADDR (i j : Nat) : Fld := ⟨0x101008 + 0x4000 * i + 0x40 * j, 12, 52⟩
/-- RING_CTL_ADDR [63:6] ADDR, RW, reset 0 (R194, Table 5.11, i below 64, j below 64). -/
def RING_CTL_ADDR_ADDR (i j : Nat) : Fld := ⟨0x101010 + 0x4000 * i + 0x40 * j, 6, 58⟩
/-- RING_CFG [31:31] ENABLE, RW, reset 0 (R194, Table 5.11, i below 64, j below 64). -/
def RING_CFG_ENABLE (i j : Nat) : Fld := ⟨0x101018 + 0x4000 * i + 0x40 * j, 31, 1⟩
/-- RING_CFG [30:30] ORDERED, RW, reset 0 (R194, Table 5.11, i below 64, j below 64). -/
def RING_CFG_ORDERED (i j : Nat) : Fld := ⟨0x101018 + 0x4000 * i + 0x40 * j, 30, 1⟩
/-- RING_CFG [29:29] NOTICE_EN, RW, reset 0 (R194, Table 5.11, i below 64, j below 64). -/
def RING_CFG_NOTICE_EN (i j : Nat) : Fld := ⟨0x101018 + 0x4000 * i + 0x40 * j, 29, 1⟩
/-- RING_CFG [28:28] IRQ_EN, RW, reset 0 (R194, Table 5.11, i below 64, j below 64). -/
def RING_CFG_IRQ_EN (i j : Nat) : Fld := ⟨0x101018 + 0x4000 * i + 0x40 * j, 28, 1⟩
/-- RING_CFG [27:24] COAL_US, RW, reset 0 (R194, Table 5.11, i below 64, j below 64). -/
def RING_CFG_COAL_US (i j : Nat) : Fld := ⟨0x101018 + 0x4000 * i + 0x40 * j, 24, 4⟩
/-- RING_CFG [23:19] CQ_LOG2, RW, reset 0 (R194, Table 5.11, i below 64, j below 64). -/
def RING_CFG_CQ_LOG2 (i j : Nat) : Fld := ⟨0x101018 + 0x4000 * i + 0x40 * j, 19, 5⟩
/-- RING_CFG [18:16] IDLE, RW, reset 3 (R194, Table 5.11, i below 64, j below 64). -/
def RING_CFG_IDLE (i j : Nat) : Fld := ⟨0x101018 + 0x4000 * i + 0x40 * j, 16, 3⟩
/-- RING_CFG [14:12] POLL, RW, reset 2 (R194, Table 5.11, i below 64, j below 64). -/
def RING_CFG_POLL (i j : Nat) : Fld := ⟨0x101018 + 0x4000 * i + 0x40 * j, 12, 3⟩
/-- RING_CFG [11:8] FETCH_LOG2, RW, reset 8 (R194, Table 5.11, i below 64, j below 64). -/
def RING_CFG_FETCH_LOG2 (i j : Nat) : Fld := ⟨0x101018 + 0x4000 * i + 0x40 * j, 8, 4⟩
/-- RING_CFG [3:0] SQ_LOG2, RW, reset 0 (R194, Table 5.11, i below 64, j below 64). -/
def RING_CFG_SQ_LOG2 (i j : Nat) : Fld := ⟨0x101018 + 0x4000 * i + 0x40 * j, 0, 4⟩
/-- RING_STATUS [26:16] OUTSTANDING, RO, reset 0 (R194, Table 5.11, i below 64, j below 64). -/
def RING_STATUS_OUTSTANDING (i j : Nat) : Fld := ⟨0x10101C + 0x4000 * i + 0x40 * j, 16, 11⟩
/-- RING_STATUS [11:8] STOP_CAUSE, RO, reset 0 (R194, Table 5.11, i below 64, j below 64). -/
def RING_STATUS_STOP_CAUSE (i j : Nat) : Fld := ⟨0x10101C + 0x4000 * i + 0x40 * j, 8, 4⟩
/-- RING_STATUS [7:7] WAIT_HELD, RO, reset 0 (R194, Table 5.11, i below 64, j below 64). -/
def RING_STATUS_WAIT_HELD (i j : Nat) : Fld := ⟨0x10101C + 0x4000 * i + 0x40 * j, 7, 1⟩
/-- RING_STATUS [2:0] STATE, RO, reset 0 (R194, Table 5.11, i below 64, j below 64). -/
def RING_STATUS_STATE (i j : Nat) : Fld := ⟨0x10101C + 0x4000 * i + 0x40 * j, 0, 3⟩
/-- RING_COMPLETIONS [63:0] COUNT, RO, reset 0 (R194, Table 5.11, i below 64, j below 64). -/
def RING_COMPLETIONS_COUNT (i j : Nat) : Fld := ⟨0x101020 + 0x4000 * i + 0x40 * j, 0, 64⟩
/-- RING_HORIZON [63:0] HORIZON, RO, reset 0 (R194, Table 5.11, i below 64, j below 64). -/
def RING_HORIZON_HORIZON (i j : Nat) : Fld := ⟨0x101028 + 0x4000 * i + 0x40 * j, 0, 64⟩
/-- RING_FETCHED [63:0] SEQ, RO, reset 0 (R194, Table 5.11, i below 64, j below 64). -/
def RING_FETCHED_SEQ (i j : Nat) : Fld := ⟨0x101030 + 0x4000 * i + 0x40 * j, 0, 64⟩
/-- RING_CTRL [0:0] RESTART, WO, reset 0 (R194, Table 5.11, i below 64, j below 64). -/
def RING_CTRL_RESTART (i j : Nat) : Fld := ⟨0x101038 + 0x4000 * i + 0x40 * j, 0, 1⟩
/-- FP_CTRL [31:31] LOCK, RW, reset 0 (R220, Table 6.10). -/
def FP_CTRL_LOCK : Fld := ⟨0x400000, 31, 1⟩
/-- FP_CTRL [11:8] HA_IDLE_LOG2, RWL, reset config (R220, Table 6.10). -/
def FP_CTRL_HA_IDLE_LOG2 : Fld := ⟨0x400000, 8, 4⟩
/-- FP_CTRL [5:4] INSERT_STREAM, RWL, reset config (R220, Table 6.10). -/
def FP_CTRL_INSERT_STREAM : Fld := ⟨0x400000, 4, 2⟩
/-- FP_CTRL [1:0] INSERT_READ, RWL, reset config (R220, Table 6.10). -/
def FP_CTRL_INSERT_READ : Fld := ⟨0x400000, 0, 2⟩
/-- FP_EPOCH [31:0] EPOCH, RO, reset 0 (R220, Table 6.10). -/
def FP_EPOCH_EPOCH : Fld := ⟨0x400004, 0, 32⟩
/-- FP_REMAP_REQ [31:31] GO, WO, reset 0 (R220, Table 6.10). -/
def FP_REMAP_REQ_GO : Fld := ⟨0x400008, 31, 1⟩
/-- FP_REMAP_REQ [21:16] LOGICAL, RW, reset 0 (R220, Table 6.10). -/
def FP_REMAP_REQ_LOGICAL : Fld := ⟨0x400008, 16, 6⟩
/-- FP_REMAP_REQ [6:0] PHYS, RW, reset 0 (R220, Table 6.10). -/
def FP_REMAP_REQ_PHYS : Fld := ⟨0x400008, 0, 7⟩
/-- FP_REMAP_STATUS [31:29] STATE, RO, reset 0 (R220, Table 6.10). -/
def FP_REMAP_STATUS_STATE : Fld := ⟨0x40000C, 29, 3⟩
/-- FP_REMAP_STATUS [14:0] FRONT_DIRTY, RO, reset 0 (R220, Table 6.10). -/
def FP_REMAP_STATUS_FRONT_DIRTY : Fld := ⟨0x40000C, 0, 15⟩
/-- FP_HA_AWAKE [63:0] AWAKE, RO, reset 0 (R220, Table 6.10). -/
def FP_HA_AWAKE_AWAKE : Fld := ⟨0x400010, 0, 64⟩
/-- FP_FC_HITS [63:0] COUNT, RC, reset 0 (R220, Table 6.10). -/
def FP_FC_HITS_COUNT : Fld := ⟨0x400018, 0, 64⟩
/-- FP_FC_MISSES [63:0] COUNT, RC, reset 0 (R220, Table 6.10). -/
def FP_FC_MISSES_COUNT : Fld := ⟨0x400020, 0, 64⟩
/-- FP_FC_DIRTY_EVICTS [63:0] COUNT, RC, reset 0 (R220, Table 6.10). -/
def FP_FC_DIRTY_EVICTS_COUNT : Fld := ⟨0x400028, 0, 64⟩
/-- FP_ARB_COLLISIONS [63:0] COUNT, RC, reset 0 (R220, Table 6.10). -/
def FP_ARB_COLLISIONS_COUNT : Fld := ⟨0x400030, 0, 64⟩
/-- FP_HA_WAKES [31:0] COUNT, RC, reset 0 (R220, Table 6.10). -/
def FP_HA_WAKES_COUNT : Fld := ⟨0x400038, 0, 32⟩
/-- FP_QUEUE_READBACK [31:0] COUNT, RC, reset 0 (R220, Table 6.10). -/
def FP_QUEUE_READBACK_COUNT : Fld := ⟨0x40003C, 0, 32⟩
/-- HA_MAP [6:0] PHYS, RO, reset config (R220, Table 6.10, i below 64). -/
def HA_MAP_PHYS (i : Nat) : Fld := ⟨0x400100 + 0x4 * i, 0, 7⟩
/-- HA_SLICE [31:24] QUEUE_USED, RO, reset 0 (R220, Table 6.10, i below 66). -/
def HA_SLICE_QUEUE_USED (i : Nat) : Fld := ⟨0x400200 + 0x4 * i, 24, 8⟩
/-- HA_SLICE [13:8] LOGICAL, RO, reset 0 (R220, Table 6.10, i below 66). -/
def HA_SLICE_LOGICAL (i : Nat) : Fld := ⟨0x400200 + 0x4 * i, 8, 6⟩
/-- HA_SLICE [2:0] STATE, RO, reset 0 (R220, Table 6.10, i below 66). -/
def HA_SLICE_STATE (i : Nat) : Fld := ⟨0x400200 + 0x4 * i, 0, 3⟩
/-- FP_LAT_CTRL [31:31] EN, RW, reset 0 (R220, Table 6.10). -/
def FP_LAT_CTRL_EN : Fld := ⟨0x400800, 31, 1⟩
/-- FP_LAT_CTRL [30:30] CLEAR, WO, reset 0 (R220, Table 6.10). -/
def FP_LAT_CTRL_CLEAR : Fld := ⟨0x400800, 30, 1⟩
/-- FP_LAT_CTRL [23:20] SAMPLE_LOG2, RW, reset 0 (R220, Table 6.10). -/
def FP_LAT_CTRL_SAMPLE_LOG2 : Fld := ⟨0x400800, 20, 4⟩
/-- FP_LAT_CTRL [15:12] PORT, RW, reset 15 (R220, Table 6.10). -/
def FP_LAT_CTRL_PORT : Fld := ⟨0x400800, 12, 4⟩
/-- FP_LAT_CTRL [9:8] CLASS, RW, reset 0 (R220, Table 6.10). -/
def FP_LAT_CTRL_CLASS : Fld := ⟨0x400800, 8, 2⟩
/-- FP_LAT_CTRL [7:7] HOME_ANY, RW, reset 1 (R220, Table 6.10). -/
def FP_LAT_CTRL_HOME_ANY : Fld := ⟨0x400800, 7, 1⟩
/-- FP_LAT_CTRL [5:0] HOME, RW, reset 0 (R220, Table 6.10). -/
def FP_LAT_CTRL_HOME : Fld := ⟨0x400800, 0, 6⟩
/-- FP_LAT_SAMPLES [63:0] COUNT, RO, reset 0 (R220, Table 6.10). -/
def FP_LAT_SAMPLES_COUNT : Fld := ⟨0x400808, 0, 64⟩
/-- FP_LAT_SUM [63:0] FC, RO, reset 0 (R220, Table 6.10, i below 8). -/
def FP_LAT_SUM_FC (i : Nat) : Fld := ⟨0x400810 + 0x8 * i, 0, 64⟩
/-- FP_LAT_MAX [31:0] FC, RO, reset 0 (R220, Table 6.10, i below 8). -/
def FP_LAT_MAX_FC (i : Nat) : Fld := ⟨0x400850 + 0x4 * i, 0, 32⟩
/-- FP_LAT_HIST [31:0] COUNT, RO, reset 0 (R220, Table 6.10, i below 16). -/
def FP_LAT_HIST_COUNT (i : Nat) : Fld := ⟨0x400870 + 0x4 * i, 0, 32⟩
/-- CUL_CTRL [31:31] LOCK, RW, reset 0 (R259, Table 7.12). -/
def CUL_CTRL_LOCK : Fld := ⟨0x500000, 31, 1⟩
/-- CUL_CTRL [3:3] PIN_FIRST, RWL, reset config (R259, Table 7.12). -/
def CUL_CTRL_PIN_FIRST : Fld := ⟨0x500000, 3, 1⟩
/-- CUL_CTRL [2:2] FILL_AHEAD, RWL, reset config (R259, Table 7.12). -/
def CUL_CTRL_FILL_AHEAD : Fld := ⟨0x500000, 2, 1⟩
/-- CUL_STATUS [7:7] WB_PAUSED, RO, reset 0 (R259, Table 7.12). -/
def CUL_STATUS_WB_PAUSED : Fld := ⟨0x500004, 7, 1⟩
/-- CUL_STATUS [6:6] GC_CRITICAL, RO, reset 0 (R259, Table 7.12). -/
def CUL_STATUS_GC_CRITICAL : Fld := ⟨0x500004, 6, 1⟩
/-- CUL_STATUS [5:5] GC_ACTIVE, RO, reset 0 (R259, Table 7.12). -/
def CUL_STATUS_GC_ACTIVE : Fld := ⟨0x500004, 5, 1⟩
/-- CUL_STATUS [4:4] PIN_FILL_ACTIVE, RO, reset 0 (R259, Table 7.12). -/
def CUL_STATUS_PIN_FILL_ACTIVE : Fld := ⟨0x500004, 4, 1⟩
/-- CUL_DEEP_USABLE_GIB [17:0] GIB, RO, reset 0 (R259, Table 7.12). -/
def CUL_DEEP_USABLE_GIB_GIB : Fld := ⟨0x500008, 0, 18⟩
/-- CUL_FRAMES [22:0] COUNT, RO, reset 0 (R259, Table 7.12). -/
def CUL_FRAMES_COUNT : Fld := ⟨0x50000C, 0, 23⟩
/-- CUL_FRAMES_FREE [22:0] COUNT, RO, reset 0 (R259, Table 7.12). -/
def CUL_FRAMES_FREE_COUNT : Fld := ⟨0x500010, 0, 23⟩
/-- CUL_FRAMES_PINNED [22:0] COUNT, RO, reset 0 (R259, Table 7.12). -/
def CUL_FRAMES_PINNED_COUNT : Fld := ⟨0x500014, 0, 23⟩
/-- CUL_FRAMES_WINDOW [22:0] COUNT, RO, reset 0 (R259, Table 7.12). -/
def CUL_FRAMES_WINDOW_COUNT : Fld := ⟨0x500018, 0, 23⟩
/-- CUL_STREAM_BUDGET [22:0] COUNT, RWL, reset config (R259, Table 7.12). -/
def CUL_STREAM_BUDGET_COUNT : Fld := ⟨0x50001C, 0, 23⟩
/-- CUL_EVICT_CFG [25:16] EVICT_HIGH_PERMIL, RWL, reset config (R259, Table 7.12). -/
def CUL_EVICT_CFG_EVICT_HIGH_PERMIL : Fld := ⟨0x500020, 16, 10⟩
/-- CUL_EVICT_CFG [9:0] EVICT_LOW_PERMIL, RWL, reset config (R259, Table 7.12). -/
def CUL_EVICT_CFG_EVICT_LOW_PERMIL : Fld := ⟨0x500020, 0, 10⟩
/-- CUL_WB_CFG [7:0] WB_MIN_AGE_MS, RWL, reset config (R259, Table 7.12). -/
def CUL_WB_CFG_WB_MIN_AGE_MS : Fld := ⟨0x500024, 0, 8⟩
/-- CUL_GC_CFG [31:20] WL_SPREAD, RWL, reset config (R259, Table 7.12). -/
def CUL_GC_CFG_WL_SPREAD : Fld := ⟨0x500028, 20, 12⟩
/-- CUL_GC_CFG [19:10] FREE_CRIT_PERMIL, RWL, reset config (R259, Table 7.12). -/
def CUL_GC_CFG_FREE_CRIT_PERMIL : Fld := ⟨0x500028, 10, 10⟩
/-- CUL_GC_CFG [9:0] FREE_LOW_PERMIL, RWL, reset config (R259, Table 7.12). -/
def CUL_GC_CFG_FREE_LOW_PERMIL : Fld := ⟨0x500028, 0, 10⟩
/-- CUL_RD_CFG [6:0] RD_MARGIN_PCT, RWL, reset config (R259, Table 7.12). -/
def CUL_RD_CFG_RD_MARGIN_PCT : Fld := ⟨0x50002C, 0, 7⟩
/-- CUL_GC_STATUS [23:16] GC_SHARE_PCT, RO, reset 0 (R259, Table 7.12). -/
def CUL_GC_STATUS_GC_SHARE_PCT : Fld := ⟨0x500030, 16, 8⟩
/-- CUL_GC_STATUS [9:0] FREE_PERMIL, RO, reset 0 (R259, Table 7.12). -/
def CUL_GC_STATUS_FREE_PERMIL : Fld := ⟨0x500030, 0, 10⟩
/-- CUL_ERASE_SPREAD [15:0] SPREAD, RO, reset 0 (R259, Table 7.12). -/
def CUL_ERASE_SPREAD_SPREAD : Fld := ⟨0x500034, 0, 16⟩
/-- CUL_FILL_BYTES [63:0] COUNT, RC, reset 0 (R259, Table 7.12). -/
def CUL_FILL_BYTES_COUNT : Fld := ⟨0x500038, 0, 64⟩
/-- CUL_WB_BYTES [63:0] COUNT, RC, reset 0 (R259, Table 7.12). -/
def CUL_WB_BYTES_COUNT : Fld := ⟨0x500040, 0, 64⟩
/-- CUL_GC_BYTES [63:0] COUNT, RC, reset 0 (R259, Table 7.12). -/
def CUL_GC_BYTES_COUNT : Fld := ⟨0x500048, 0, 64⟩
/-- CUL_XMC_HITS [63:0] COUNT, RC, reset 0 (R259, Table 7.12). -/
def CUL_XMC_HITS_COUNT : Fld := ⟨0x500050, 0, 64⟩
/-- CUL_XMC_MISSES [63:0] COUNT, RC, reset 0 (R259, Table 7.12). -/
def CUL_XMC_MISSES_COUNT : Fld := ⟨0x500058, 0, 64⟩
/-- CUL_RD_RELOCATIONS [31:0] COUNT, RC, reset 0 (R259, Table 7.12). -/
def CUL_RD_RELOCATIONS_COUNT : Fld := ⟨0x500060, 0, 32⟩
/-- CUL_WL_MOVES [31:0] COUNT, RC, reset 0 (R259, Table 7.12). -/
def CUL_WL_MOVES_COUNT : Fld := ⟨0x500064, 0, 32⟩
/-- CUL_CEILING_HITS [31:0] COUNT, RC, reset 0 (R259, Table 7.12). -/
def CUL_CEILING_HITS_COUNT : Fld := ⟨0x500068, 0, 32⟩
/-- CUL_PIN_FILL_LEFT [31:0] PAGES, RO, reset 0 (R259, Table 7.12). -/
def CUL_PIN_FILL_LEFT_PAGES : Fld := ⟨0x50006C, 0, 32⟩
/-- CUL_JOURNAL_FILL [6:0] PCT, RO, reset 0 (R259, Table 7.12). -/
def CUL_JOURNAL_FILL_PCT : Fld := ⟨0x500070, 0, 7⟩
/-- CUL_STALL_COUNT [31:0] COUNT, RC, reset 0 (R259, Table 7.12, i below 8). -/
def CUL_STALL_COUNT_COUNT (i : Nat) : Fld := ⟨0x500100 + 0x10 * i, 0, 32⟩
/-- CUL_STALL_US [63:0] US, RC, reset 0 (R259, Table 7.12, i below 8). -/
def CUL_STALL_US_US (i : Nat) : Fld := ⟨0x500108 + 0x10 * i, 0, 64⟩
/-- CUL_STREAM_STATE [31:16] HANDLE, RO, reset 0 (R259, Table 7.12, i below 1024). -/
def CUL_STREAM_STATE_HANDLE (i : Nat) : Fld := ⟨0x501000 + 0x10 * i, 16, 16⟩
/-- CUL_STREAM_STATE [7:4] CAUSE, RO, reset 0 (R259, Table 7.12, i below 1024). -/
def CUL_STREAM_STATE_CAUSE (i : Nat) : Fld := ⟨0x501000 + 0x10 * i, 4, 4⟩
/-- CUL_STREAM_STATE [2:0] STATE, RO, reset 0 (R259, Table 7.12, i below 1024). -/
def CUL_STREAM_STATE_STATE (i : Nat) : Fld := ⟨0x501000 + 0x10 * i, 0, 3⟩
/-- CUL_STREAM_POS [31:0] POSITION, RO, reset 0 (R259, Table 7.12, i below 1024). -/
def CUL_STREAM_POS_POSITION (i : Nat) : Fld := ⟨0x501004 + 0x10 * i, 0, 32⟩
/-- CUL_STREAM_WINDOW [31:16] RESIDENT_AHEAD, RO, reset 0 (R259, Table 7.12, i below 1024). -/
def CUL_STREAM_WINDOW_RESIDENT_AHEAD (i : Nat) : Fld := ⟨0x501008 + 0x10 * i, 16, 16⟩
/-- CUL_STREAM_WINDOW [15:0] WINDOW, RO, reset 0 (R259, Table 7.12, i below 1024). -/
def CUL_STREAM_WINDOW_WINDOW (i : Nat) : Fld := ⟨0x501008 + 0x10 * i, 0, 16⟩
/-- CUL_STREAM_MISSES [31:0] COUNT, RO, reset 0 (R259, Table 7.12, i below 1024). -/
def CUL_STREAM_MISSES_COUNT (i : Nat) : Fld := ⟨0x50100C + 0x10 * i, 0, 32⟩
/-- SSB_CTRL [31:31] LOCK, RW, reset 0 (R301, Table 8.14). -/
def SSB_CTRL_LOCK : Fld := ⟨0x600000, 31, 1⟩
/-- SSB_CTRL [23:16] MIRROR_WEIGHT, RWL, reset config (R301, Table 8.14). -/
def SSB_CTRL_MIRROR_WEIGHT : Fld := ⟨0x600000, 16, 8⟩
/-- SSB_CTRL [15:8] ASSAY_INTERVAL_D, RWL, reset config (R301, Table 8.14). -/
def SSB_CTRL_ASSAY_INTERVAL_D : Fld := ⟨0x600000, 8, 8⟩
/-- SSB_CTRL [7:0] PFAIL_FILTER_US, RWL, reset config (R301, Table 8.14). -/
def SSB_CTRL_PFAIL_FILTER_US : Fld := ⟨0x600000, 0, 8⟩
/-- SSB_CMD [0:0] ASSAY_NOW, WO, reset 0 (R301, Table 8.14). -/
def SSB_CMD_ASSAY_NOW : Fld := ⟨0x600004, 0, 1⟩
/-- FB_STATUS [31:31] ASSAYED, RO, reset config (R301, Table 8.14). -/
def FB_STATUS_ASSAYED : Fld := ⟨0x600008, 31, 1⟩
/-- FB_STATUS [30:30] OVER, RO, reset 0 (R301, Table 8.14). -/
def FB_STATUS_OVER : Fld := ⟨0x600008, 30, 1⟩
/-- FB_STATUS [29:29] BANK_READY, RO, reset 0 (R301, Table 8.14). -/
def FB_STATUS_BANK_READY : Fld := ⟨0x600008, 29, 1⟩
/-- FB_STATUS [28:28] BANK_ID_VALID, RO, reset 0 (R301, Table 8.14). -/
def FB_STATUS_BANK_ID_VALID : Fld := ⟨0x600008, 28, 1⟩
/-- FB_STATUS [20:16] M_EFF, RO, reset 0 (R301, Table 8.14). -/
def FB_STATUS_M_EFF : Fld := ⟨0x600008, 16, 5⟩
/-- FB_STATUS [7:0] FREEBOARD_GIB, RO, reset 0 (R301, Table 8.14). -/
def FB_STATUS_FREEBOARD_GIB : Fld := ⟨0x600008, 0, 8⟩
/-- FB_RSAVE [16:0] MBPS, RO, reset 0 (R301, Table 8.14). -/
def FB_RSAVE_MBPS : Fld := ⟨0x60000C, 0, 17⟩
/-- FB_PSAVE [11:0] W, RO, reset 0 (R301, Table 8.14). -/
def FB_PSAVE_W : Fld := ⟨0x600010, 0, 12⟩
/-- FB_EUSABLE [19:0] J, RO, reset 0 (R301, Table 8.14). -/
def FB_EUSABLE_J : Fld := ⟨0x600014, 0, 20⟩
/-- FB_HIGH_MIB [17:0] MIB, RO, reset 0 (R301, Table 8.14). -/
def FB_HIGH_MIB_MIB : Fld := ⟨0x600018, 0, 18⟩
/-- FB_ADMIT_MIB [17:0] MIB, RO, reset 0 (R301, Table 8.14). -/
def FB_ADMIT_MIB_MIB : Fld := ⟨0x60001C, 0, 18⟩
/-- ASSAY_STATUS [31:28] STATE, RO, reset 0 (R301, Table 8.14). -/
def ASSAY_STATUS_STATE : Fld := ⟨0x600020, 28, 4⟩
/-- ASSAY_STATUS [27:24] LAST_RESULT, RO, reset 0 (R301, Table 8.14). -/
def ASSAY_STATUS_LAST_RESULT : Fld := ⟨0x600020, 24, 4⟩
/-- ASSAY_STATUS [23:16] REJECTS, RO, reset 0 (R301, Table 8.14). -/
def ASSAY_STATUS_REJECTS : Fld := ⟨0x600020, 16, 8⟩
/-- ASSAY_STATUS [15:0] COUNT, RO, reset config (R301, Table 8.14). -/
def ASSAY_STATUS_COUNT : Fld := ⟨0x600020, 0, 16⟩
/-- ASSAY_C_UF [31:0] UF, RO, reset config (R301, Table 8.14). -/
def ASSAY_C_UF_UF : Fld := ⟨0x600024, 0, 32⟩
/-- ASSAY_ESR_UOHM [19:0] UOHM, RO, reset config (R301, Table 8.14). -/
def ASSAY_ESR_UOHM_UOHM : Fld := ⟨0x600028, 0, 20⟩
/-- ASSAY_EBANK_J [19:0] J, RO, reset config (R301, Table 8.14). -/
def ASSAY_EBANK_J_J : Fld := ⟨0x60002C, 0, 20⟩
/-- ASSAY_TIME [39:0] SECONDS, RO, reset config (R301, Table 8.14). -/
def ASSAY_TIME_SECONDS : Fld := ⟨0x600030, 0, 40⟩
/-- SLU_STATUS [8:8] MARK_RAISED, RO, reset 0 (R301, Table 8.14). -/
def SLU_STATUS_MARK_RAISED : Fld := ⟨0x600040, 8, 1⟩
/-- SLU_STATUS [7:7] THERM_ENFORCE, RO, reset 0 (R301, Table 8.14). -/
def SLU_STATUS_THERM_ENFORCE : Fld := ⟨0x600040, 7, 1⟩
/-- SLU_STATUS [6:4] THERM_STEP, RO, reset 0 (R301, Table 8.14). -/
def SLU_STATUS_THERM_STEP : Fld := ⟨0x600040, 4, 3⟩
/-- SLU_STATUS [1:0] STATE, RO, reset 0 (R301, Table 8.14). -/
def SLU_STATUS_STATE : Fld := ⟨0x600040, 0, 2⟩
/-- SLU_DRAIN_MBPS [19:0] MBPS, RO, reset 0 (R301, Table 8.14). -/
def SLU_DRAIN_MBPS_MBPS : Fld := ⟨0x600044, 0, 20⟩
/-- SLU_ADMIT_MBPS [19:0] MBPS, RO, reset 0 (R301, Table 8.14). -/
def SLU_ADMIT_MBPS_MBPS : Fld := ⟨0x600048, 0, 20⟩
/-- SLU_THERM_REF_MBPS [19:0] MBPS, RO, reset 0 (R301, Table 8.14). -/
def SLU_THERM_REF_MBPS_MBPS : Fld := ⟨0x60004C, 0, 20⟩
/-- SLU_CFG [7:0] THERM_STEP_MS, RWL, reset config (R301, Table 8.14). -/
def SLU_CFG_THERM_STEP_MS : Fld := ⟨0x600050, 0, 8⟩
/-- SLU_THROTTLE_COUNT [31:0] COUNT, RC, reset 0 (R301, Table 8.14). -/
def SLU_THROTTLE_COUNT_COUNT : Fld := ⟨0x600054, 0, 32⟩
/-- SPW_STATUS [7:7] OUT_OF_RANGE, RO, reset config (R301, Table 8.14). -/
def SPW_STATUS_OUT_OF_RANGE : Fld := ⟨0x600100, 7, 1⟩
/-- SPW_STATUS [6:6] LAST_SEALED, RO, reset config (R301, Table 8.14). -/
def SPW_STATUS_LAST_SEALED : Fld := ⟨0x600100, 6, 1⟩
/-- SPW_STATUS [5:5] IMAGE_HELD, RO, reset config (R301, Table 8.14). -/
def SPW_STATUS_IMAGE_HELD : Fld := ⟨0x600100, 5, 1⟩
/-- SPW_STATUS [4:4] AREA, RO, reset config (R301, Table 8.14). -/
def SPW_STATUS_AREA : Fld := ⟨0x600100, 4, 1⟩
/-- SPW_STATUS [2:0] PHASE, RO, reset 0 (R301, Table 8.14). -/
def SPW_STATUS_PHASE : Fld := ⟨0x600100, 0, 3⟩
/-- SPW_IMAGE_SEQ [31:0] SEQ, RO, reset config (R301, Table 8.14). -/
def SPW_IMAGE_SEQ_SEQ : Fld := ⟨0x600104, 0, 32⟩
/-- SPW_LAST_US [31:0] US, RO, reset config (R301, Table 8.14). -/
def SPW_LAST_US_US : Fld := ⟨0x600108, 0, 32⟩
/-- SPW_LAST_ENERGY_J [19:0] J, RO, reset config (R301, Table 8.14). -/
def SPW_LAST_ENERGY_J_J : Fld := ⟨0x60010C, 0, 20⟩
/-- SPW_LAST_LINES [63:0] LINES, RO, reset config (R301, Table 8.14). -/
def SPW_LAST_LINES_LINES : Fld := ⟨0x600110, 0, 64⟩
/-- SPW_SEALED_COUNT [31:0] COUNT, RO, reset config (R301, Table 8.14). -/
def SPW_SEALED_COUNT_COUNT : Fld := ⟨0x600118, 0, 32⟩
/-- SPW_UNSEALED_COUNT [31:0] COUNT, RO, reset config (R301, Table 8.14). -/
def SPW_UNSEALED_COUNT_COUNT : Fld := ⟨0x60011C, 0, 32⟩
/-- RST_STATUS [5:5] DAMAGED, RO, reset 0 (R301, Table 8.14). -/
def RST_STATUS_DAMAGED : Fld := ⟨0x600140, 5, 1⟩
/-- RST_STATUS [4:4] REVERIFY, RO, reset 0 (R301, Table 8.14). -/
def RST_STATUS_REVERIFY : Fld := ⟨0x600140, 4, 1⟩
/-- RST_STATUS [2:0] PHASE, RO, reset 0 (R301, Table 8.14). -/
def RST_STATUS_PHASE : Fld := ⟨0x600140, 0, 3⟩
/-- RST_CW_REPAIRED [31:0] COUNT, RO, reset 0 (R301, Table 8.14). -/
def RST_CW_REPAIRED_COUNT : Fld := ⟨0x600144, 0, 32⟩
/-- RST_SYNC_IGNORED [31:0] COUNT, RO, reset 0 (R301, Table 8.14). -/
def RST_SYNC_IGNORED_COUNT : Fld := ⟨0x600148, 0, 32⟩
/-- RST_LINES_POISONED [31:0] COUNT, RO, reset 0 (R301, Table 8.14). -/
def RST_LINES_POISONED_COUNT : Fld := ⟨0x60014C, 0, 32⟩
/-- BANK_ID [31:0] RECORD, RO, reset config (R301, Table 8.14, j below 64). -/
def BANK_ID_RECORD (j : Nat) : Fld := ⟨0x600200 + 0x4 * j, 0, 32⟩
/-- SLU_TENANT_THROTTLED_US [63:0] US, RC, reset 0 (R301, Table 8.14, i below 4096). -/
def SLU_TENANT_THROTTLED_US_US (i : Nat) : Fld := ⟨0x608000 + 0x8 * i, 0, 64⟩
/-- LC_CTRL [31:31] LOCK, RW, reset 0 (R344, Table 9.13). -/
def LC_CTRL_LOCK : Fld := ⟨0x700000, 31, 1⟩
/-- LC_CTRL [19:16] CP_IDLE_LOG2, RWL, reset config (R344, Table 9.13). -/
def LC_CTRL_CP_IDLE_LOG2 : Fld := ⟨0x700000, 16, 4⟩
/-- LC_CTRL [7:0] ROT_RATE_GBPS, RWL, reset config (R344, Table 9.13). -/
def LC_CTRL_ROT_RATE_GBPS : Fld := ⟨0x700000, 0, 8⟩
/-- LC_STATUS [29:16] ROTATING, RO, reset 0 (R344, Table 9.13). -/
def LC_STATUS_ROTATING : Fld := ⟨0x700004, 16, 14⟩
/-- LC_STATUS [7:4] SPARES_LEFT, RO, reset 0 (R344, Table 9.13). -/
def LC_STATUS_SPARES_LEFT : Fld := ⟨0x700004, 4, 4⟩
/-- CP_REMAP_REQ [31:31] GO, WO, reset 0 (R344, Table 9.13). -/
def CP_REMAP_REQ_GO : Fld := ⟨0x700008, 31, 1⟩
/-- CP_REMAP_REQ [21:16] LOGICAL, RW, reset 0 (R344, Table 9.13). -/
def CP_REMAP_REQ_LOGICAL : Fld := ⟨0x700008, 16, 6⟩
/-- CP_REMAP_REQ [6:0] PHYS, RW, reset 0 (R344, Table 9.13). -/
def CP_REMAP_REQ_PHYS : Fld := ⟨0x700008, 0, 7⟩
/-- CP_REMAP_STATUS [31:29] STATE, RO, reset 0 (R344, Table 9.13). -/
def CP_REMAP_STATUS_STATE : Fld := ⟨0x70000C, 29, 3⟩
/-- CP_AWAKE [63:0] AWAKE, RO, reset 0 (R344, Table 9.13). -/
def CP_AWAKE_AWAKE : Fld := ⟨0x700010, 0, 64⟩
/-- LC_TAG_FAILS [63:0] COUNT, RC, reset 0 (R344, Table 9.13). -/
def LC_TAG_FAILS_COUNT : Fld := ⟨0x700018, 0, 64⟩
/-- LC_MERGE_REFUSED [63:0] COUNT, RC, reset 0 (R344, Table 9.13). -/
def LC_MERGE_REFUSED_COUNT : Fld := ⟨0x700020, 0, 64⟩
/-- LC_ZERO_READS [63:0] COUNT, RC, reset 0 (R344, Table 9.13). -/
def LC_ZERO_READS_COUNT : Fld := ⟨0x700028, 0, 64⟩
/-- LC_KEYCACHE_MISSES [63:0] COUNT, RC, reset 0 (R344, Table 9.13). -/
def LC_KEYCACHE_MISSES_COUNT : Fld := ⟨0x700030, 0, 64⟩
/-- LC_DUP_MISMATCH [31:0] COUNT, RC, reset 0 (R344, Table 9.13). -/
def LC_DUP_MISMATCH_COUNT : Fld := ⟨0x700038, 0, 32⟩
/-- LC_LENGTH_REFUSED [31:0] COUNT, RC, reset 0 (R344, Table 9.13). -/
def LC_LENGTH_REFUSED_COUNT : Fld := ⟨0x70003C, 0, 32⟩
/-- KSTORE_STATUS [31:31] UPDATE_BUSY, RO, reset 0 (R344, Table 9.13). -/
def KSTORE_STATUS_UPDATE_BUSY : Fld := ⟨0x700040, 31, 1⟩
/-- KSTORE_STATUS [30:30] ACTIVE_SLOT, RO, reset 0 (R344, Table 9.13). -/
def KSTORE_STATUS_ACTIVE_SLOT : Fld := ⟨0x700040, 30, 1⟩
/-- KSTORE_STATUS [29:29] FALLBACK, RO, reset 0 (R344, Table 9.13). -/
def KSTORE_STATUS_FALLBACK : Fld := ⟨0x700040, 29, 1⟩
/-- KSTORE_SGEN [31:0] SGEN, RO, reset 0 (R344, Table 9.13). -/
def KSTORE_SGEN_SGEN : Fld := ⟨0x700044, 0, 32⟩
/-- KSTORE_COUNTS [30:16] GENERATIONS, RO, reset 0 (R344, Table 9.13). -/
def KSTORE_COUNTS_GENERATIONS : Fld := ⟨0x700048, 16, 15⟩
/-- KSTORE_COUNTS [12:0] MASTERS, RO, reset 0 (R344, Table 9.13). -/
def KSTORE_COUNTS_MASTERS : Fld := ⟨0x700048, 0, 13⟩
/-- ST_STATUS [31:31] DONE, RO, reset 0 (R344, Table 9.13). -/
def ST_STATUS_DONE : Fld := ⟨0x700060, 31, 1⟩
/-- ST_STATUS [3:3] CRYPTO_FAIL, RO, reset 0 (R344, Table 9.13). -/
def ST_STATUS_CRYPTO_FAIL : Fld := ⟨0x700060, 3, 1⟩
/-- ST_STATUS [2:2] SRAM_FAIL, RO, reset 0 (R344, Table 9.13). -/
def ST_STATUS_SRAM_FAIL : Fld := ⟨0x700060, 2, 1⟩
/-- ST_STATUS [1:1] LDPC_FAIL, RO, reset 0 (R344, Table 9.13). -/
def ST_STATUS_LDPC_FAIL : Fld := ⟨0x700060, 1, 1⟩
/-- ST_STATUS [0:0] RS_FAIL, RO, reset 0 (R344, Table 9.13). -/
def ST_STATUS_RS_FAIL : Fld := ⟨0x700060, 0, 1⟩
/-- FM_CTRL [7:5] RESULT, RO, reset 0 (R344, Table 9.13, i below 4). -/
def FM_CTRL_RESULT (i : Nat) : Fld := ⟨0x700080 + 0x20 * i, 5, 3⟩
/-- FM_CTRL [4:4] DONE, W1C, reset 0 (R344, Table 9.13, i below 4). -/
def FM_CTRL_DONE (i : Nat) : Fld := ⟨0x700080 + 0x20 * i, 4, 1⟩
/-- FM_CTRL [3:2] PATH, RW, reset 0 (R344, Table 9.13, i below 4). -/
def FM_CTRL_PATH (i : Nat) : Fld := ⟨0x700080 + 0x20 * i, 2, 2⟩
/-- FM_CTRL [0:0] ARM, RW, reset 0 (R344, Table 9.13, i below 4). -/
def FM_CTRL_ARM (i : Nat) : Fld := ⟨0x700080 + 0x20 * i, 0, 1⟩
/-- FM_DATA [63:0] MASK, RW, reset 0 (R344, Table 9.13, i below 4). -/
def FM_DATA_MASK (i : Nat) : Fld := ⟨0x700088 + 0x20 * i, 0, 64⟩
/-- FM_CHECK [31:0] MASK, RW, reset 0 (R344, Table 9.13, i below 4). -/
def FM_CHECK_MASK (i : Nat) : Fld := ⟨0x700090 + 0x20 * i, 0, 32⟩
/-- CP_MAP [6:0] PHYS, RO, reset config (R344, Table 9.13, i below 64). -/
def CP_MAP_PHYS (i : Nat) : Fld := ⟨0x700100 + 0x4 * i, 0, 7⟩
/-- CP_PIPE [13:8] LOGICAL, RO, reset 0 (R344, Table 9.13, i below 68). -/
def CP_PIPE_LOGICAL (i : Nat) : Fld := ⟨0x700200 + 0x4 * i, 8, 6⟩
/-- CP_PIPE [2:0] STATE, RO, reset 0 (R344, Table 9.13, i below 68). -/
def CP_PIPE_STATE (i : Nat) : Fld := ⟨0x700200 + 0x4 * i, 0, 3⟩
/-- KS_SEL [14:0] SLOT, RW, reset 0 (R344, Table 9.13). -/
def KS_SEL_SLOT : Fld := ⟨0x701000, 0, 15⟩
/-- KS_BIND_GEN [31:0] KEY_GEN, WO, reset 0 (R344, Table 9.13). -/
def KS_BIND_GEN_KEY_GEN : Fld := ⟨0x701004, 0, 32⟩
/-- KS_BIND [12:12] SIDE, WO, reset 0 (R344, Table 9.13). -/
def KS_BIND_SIDE : Fld := ⟨0x701008, 12, 1⟩
/-- KS_BIND [11:0] TENANT, WO, reset 0 (R344, Table 9.13). -/
def KS_BIND_TENANT : Fld := ⟨0x701008, 0, 12⟩
/-- KS_CMD [1:0] CMD, WO, reset 0 (R344, Table 9.13). -/
def KS_CMD_CMD : Fld := ⟨0x70100C, 0, 2⟩
/-- KS_STATUS [31:31] BUSY, RO, reset 0 (R344, Table 9.13). -/
def KS_STATUS_BUSY : Fld := ⟨0x701010, 31, 1⟩
/-- KS_STATUS [3:0] LAST_ERROR, RO, reset 0 (R344, Table 9.13). -/
def KS_STATUS_LAST_ERROR : Fld := ⟨0x701010, 0, 4⟩
/-- KS_DATA [31:0] KEY, WO, reset 0 (R344, Table 9.13, i below 24). -/
def KS_DATA_KEY (i : Nat) : Fld := ⟨0x701040 + 0x4 * i, 0, 32⟩
/-- KS_SLOT_INFO [63:63] VALID, RO, reset 0 (R344, Table 9.13, i below 16384). -/
def KS_SLOT_INFO_VALID (i : Nat) : Fld := ⟨0x704000 + 0x8 * i, 63, 1⟩
/-- KS_SLOT_INFO [44:44] SIDE, RO, reset 0 (R344, Table 9.13, i below 16384). -/
def KS_SLOT_INFO_SIDE (i : Nat) : Fld := ⟨0x704000 + 0x8 * i, 44, 1⟩
/-- KS_SLOT_INFO [43:32] TENANT, RO, reset 0 (R344, Table 9.13, i below 16384). -/
def KS_SLOT_INFO_TENANT (i : Nat) : Fld := ⟨0x704000 + 0x8 * i, 32, 12⟩
/-- KS_SLOT_INFO [31:0] KEY_GEN, RO, reset 0 (R344, Table 9.13, i below 16384). -/
def KS_SLOT_INFO_KEY_GEN (i : Nat) : Fld := ⟨0x704000 + 0x8 * i, 0, 32⟩
/-- ROT_CURSOR [31:31] ACTIVE, RO, reset 0 (R344, Table 9.13, i below 8192). -/
def ROT_CURSOR_ACTIVE (i : Nat) : Fld := ⟨0x730000 + 0x4 * i, 31, 1⟩
/-- ROT_CURSOR [24:0] EXTENT, RO, reset 0 (R344, Table 9.13, i below 8192). -/
def ROT_CURSOR_EXTENT (i : Nat) : Fld := ⟨0x730000 + 0x4 * i, 0, 25⟩
/-- DRC_CFG [31:31] LOCK, RW, reset 0 (R372, Table 10.6). -/
def DRC_CFG_LOCK : Fld := ⟨0x800000, 31, 1⟩
/-- DRC_CFG [27:16] PATROL_HOURS, RWL, reset config (R372, Table 10.6). -/
def DRC_CFG_PATROL_HOURS : Fld := ⟨0x800000, 16, 12⟩
/-- DRC_CFG [15:8] PD_IDLE_US, RWL, reset config (R372, Table 10.6). -/
def DRC_CFG_PD_IDLE_US : Fld := ⟨0x800000, 8, 8⟩
/-- DRC_CFG [7:0] SR_IDLE_MS, RWL, reset config (R372, Table 10.6). -/
def DRC_CFG_SR_IDLE_MS : Fld := ⟨0x800000, 0, 8⟩
/-- DRC_LIMITS [31:24] DIMM_HOT_C, RWL, reset config (R372, Table 10.6). -/
def DRC_LIMITS_DIMM_HOT_C : Fld := ⟨0x800004, 24, 8⟩
/-- DRC_LIMITS [23:16] ROW_CE_LIMIT, RWL, reset config (R372, Table 10.6). -/
def DRC_LIMITS_ROW_CE_LIMIT : Fld := ⟨0x800004, 16, 8⟩
/-- DRC_LIMITS [15:8] UCE_LIMIT, RWL, reset config (R372, Table 10.6). -/
def DRC_LIMITS_UCE_LIMIT : Fld := ⟨0x800004, 8, 8⟩
/-- DRC_LIMITS [7:0] DEV_ROW_LIMIT, RWL, reset config (R372, Table 10.6). -/
def DRC_LIMITS_DEV_ROW_LIMIT : Fld := ⟨0x800004, 0, 8⟩
/-- DRC_TRAIN_CFG [15:8] SAVE_W_OVR, RWL, reset config (R372, Table 10.6). -/
def DRC_TRAIN_CFG_SAVE_W_OVR : Fld := ⟨0x800008, 8, 8⟩
/-- DRC_TRAIN_CFG [7:0] EYE_MIN, RWL, reset config (R372, Table 10.6). -/
def DRC_TRAIN_CFG_EYE_MIN : Fld := ⟨0x800008, 0, 8⟩
/-- DRC_STATUS [31:16] IN_SERVICE, RO, reset 0 (R372, Table 10.6). -/
def DRC_STATUS_IN_SERVICE : Fld := ⟨0x80000C, 16, 16⟩
/-- DRC_STATUS [15:0] SPEED_MTS, RO, reset 0 (R372, Table 10.6). -/
def DRC_STATUS_SPEED_MTS : Fld := ⟨0x80000C, 0, 16⟩
/-- DRC_CAPACITY [13:0] GIB, RO, reset 0 (R372, Table 10.6). -/
def DRC_CAPACITY_GIB : Fld := ⟨0x800010, 0, 14⟩
/-- DRC_SAVE_W [11:0] W, RO, reset 0 (R372, Table 10.6). -/
def DRC_SAVE_W_W : Fld := ⟨0x800014, 0, 12⟩
/-- CH_CTRL [0:0] SERVICE, RW, reset config (R372, Table 10.6, i below 16). -/
def CH_CTRL_SERVICE (i : Nat) : Fld := ⟨0x810000 + 0x10000 * i, 0, 1⟩
/-- CH_STATUS [19:16] STATE, RO, reset 0 (R372, Table 10.6, i below 16). -/
def CH_STATUS_STATE (i : Nat) : Fld := ⟨0x810004 + 0x10000 * i, 16, 4⟩
/-- CH_STATUS [15:12] OOS_CAUSE, RO, reset 0 (R372, Table 10.6, i below 16). -/
def CH_STATUS_OOS_CAUSE (i : Nat) : Fld := ⟨0x810004 + 0x10000 * i, 12, 4⟩
/-- CH_STATUS [11:8] LOGICAL_RANKS, RO, reset 0 (R372, Table 10.6, i below 16). -/
def CH_STATUS_LOGICAL_RANKS (i : Nat) : Fld := ⟨0x810004 + 0x10000 * i, 8, 4⟩
/-- CH_STATUS [7:6] DIMMS, RO, reset 0 (R372, Table 10.6, i below 16). -/
def CH_STATUS_DIMMS (i : Nat) : Fld := ⟨0x810004 + 0x10000 * i, 6, 2⟩
/-- CH_STATUS [5:4] WIDTH, RO, reset 0 (R372, Table 10.6, i below 16). -/
def CH_STATUS_WIDTH (i : Nat) : Fld := ⟨0x810004 + 0x10000 * i, 4, 2⟩
/-- CH_CAPACITY [9:0] GIB, RO, reset 0 (R372, Table 10.6, i below 16). -/
def CH_CAPACITY_GIB (i : Nat) : Fld := ⟨0x810008 + 0x10000 * i, 0, 10⟩
/-- CH_FRAMES [18:0] COUNT, RO, reset 0 (R372, Table 10.6, i below 16). -/
def CH_FRAMES_COUNT (i : Nat) : Fld := ⟨0x81000C + 0x10000 * i, 0, 19⟩
/-- CH_DRAIN_LEFT [18:0] FRAMES, RO, reset 0 (R372, Table 10.6, i below 16). -/
def CH_DRAIN_LEFT_FRAMES (i : Nat) : Fld := ⟨0x810010 + 0x10000 * i, 0, 19⟩
/-- CH_DEV_MARK [63:0] MARK, RO, reset config (R372, Table 10.6, i below 16). -/
def CH_DEV_MARK_MARK (i : Nat) : Fld := ⟨0x810018 + 0x10000 * i, 0, 64⟩
/-- CH_CE_COUNT [63:0] COUNT, RC, reset 0 (R372, Table 10.6, i below 16). -/
def CH_CE_COUNT_COUNT (i : Nat) : Fld := ⟨0x810020 + 0x10000 * i, 0, 64⟩
/-- CH_UCE_COUNT [31:0] COUNT, RC, reset 0 (R372, Table 10.6, i below 16). -/
def CH_UCE_COUNT_COUNT (i : Nat) : Fld := ⟨0x810028 + 0x10000 * i, 0, 32⟩
/-- CH_REPLAY_COUNT [31:0] COUNT, RC, reset 0 (R372, Table 10.6, i below 16). -/
def CH_REPLAY_COUNT_COUNT (i : Nat) : Fld := ⟨0x81002C + 0x10000 * i, 0, 32⟩
/-- CH_PATROL [31:16] PASSES, RO, reset 0 (R372, Table 10.6, i below 16). -/
def CH_PATROL_PASSES (i : Nat) : Fld := ⟨0x810030 + 0x10000 * i, 16, 16⟩
/-- CH_PATROL [6:0] PCT, RO, reset 0 (R372, Table 10.6, i below 16). -/
def CH_PATROL_PCT (i : Nat) : Fld := ⟨0x810030 + 0x10000 * i, 0, 7⟩
/-- CH_TEMP [31:16] DIMM1, RO, reset 0 (R372, Table 10.6, i below 16). -/
def CH_TEMP_DIMM1 (i : Nat) : Fld := ⟨0x810034 + 0x10000 * i, 16, 16⟩
/-- CH_TEMP [15:0] DIMM0, RO, reset 0 (R372, Table 10.6, i below 16). -/
def CH_TEMP_DIMM0 (i : Nat) : Fld := ⟨0x810034 + 0x10000 * i, 0, 16⟩
/-- CH_TRAIN [31:24] RD_CENTRE, RO, reset 0 (R372, Table 10.6, i below 16, j below 20). -/
def CH_TRAIN_RD_CENTRE (i j : Nat) : Fld := ⟨0x810040 + 0x10000 * i + 0x4 * j, 24, 8⟩
/-- CH_TRAIN [23:16] RD_WIDTH, RO, reset 0 (R372, Table 10.6, i below 16, j below 20). -/
def CH_TRAIN_RD_WIDTH (i j : Nat) : Fld := ⟨0x810040 + 0x10000 * i + 0x4 * j, 16, 8⟩
/-- CH_TRAIN [15:8] WR_CENTRE, RO, reset 0 (R372, Table 10.6, i below 16, j below 20). -/
def CH_TRAIN_WR_CENTRE (i j : Nat) : Fld := ⟨0x810040 + 0x10000 * i + 0x4 * j, 8, 8⟩
/-- CH_TRAIN [7:0] WR_WIDTH, RO, reset 0 (R372, Table 10.6, i below 16, j below 20). -/
def CH_TRAIN_WR_WIDTH (i j : Nat) : Fld := ⟨0x810040 + 0x10000 * i + 0x4 * j, 0, 8⟩
/-- CH_REMAP [63:63] VALID, RO, reset config (R372, Table 10.6, i below 16, j below 256). -/
def CH_REMAP_VALID (i j : Nat) : Fld := ⟨0x810100 + 0x10000 * i + 0x8 * j, 63, 1⟩
/-- CH_REMAP [62:62] PPR_PENDING, RO, reset config (R372, Table 10.6, i below 16, j below 256). -/
def CH_REMAP_PPR_PENDING (i j : Nat) : Fld := ⟨0x810100 + 0x10000 * i + 0x8 * j, 62, 1⟩
/-- CH_REMAP [61:59] LRANK, RO, reset config (R372, Table 10.6, i below 16, j below 256). -/
def CH_REMAP_LRANK (i j : Nat) : Fld := ⟨0x810100 + 0x10000 * i + 0x8 * j, 59, 3⟩
/-- CH_REMAP [58:56] BG, RO, reset config (R372, Table 10.6, i below 16, j below 256). -/
def CH_REMAP_BG (i j : Nat) : Fld := ⟨0x810100 + 0x10000 * i + 0x8 * j, 56, 3⟩
/-- CH_REMAP [55:54] BA, RO, reset config (R372, Table 10.6, i below 16, j below 256). -/
def CH_REMAP_BA (i j : Nat) : Fld := ⟨0x810100 + 0x10000 * i + 0x8 * j, 54, 2⟩
/-- CH_REMAP [53:52] SPARE, RO, reset config (R372, Table 10.6, i below 16, j below 256). -/
def CH_REMAP_SPARE (i j : Nat) : Fld := ⟨0x810100 + 0x10000 * i + 0x8 * j, 52, 2⟩
/-- CH_REMAP [16:0] ROW, RO, reset config (R372, Table 10.6, i below 16, j below 256). -/
def CH_REMAP_ROW (i j : Nat) : Fld := ⟨0x810100 + 0x10000 * i + 0x8 * j, 0, 17⟩
/-- CH_SPD [31:0] BYTES, RO, reset 0 (R372, Table 10.6, i below 16, j below 512). -/
def CH_SPD_BYTES (i j : Nat) : Fld := ⟨0x811000 + 0x10000 * i + 0x4 * j, 0, 32⟩
/-- FL_CTRL [31:31] LOCK, RW, reset 0 (R406, Table 11.8). -/
def FL_CTRL_LOCK : Fld := ⟨0xC00000, 31, 1⟩
/-- FL_CTRL [23:20] PATROL_DAYS, RWL, reset config (R406, Table 11.8). -/
def FL_CTRL_PATROL_DAYS : Fld := ⟨0xC00000, 20, 4⟩
/-- FL_CTRL [18:16] SPARE_MAX, RWL, reset config (R406, Table 11.8). -/
def FL_CTRL_SPARE_MAX : Fld := ⟨0xC00000, 16, 3⟩
/-- FL_CTRL [12:8] GROUP_WIDTH, RWL, reset config (R406, Table 11.8). -/
def FL_CTRL_GROUP_WIDTH : Fld := ⟨0xC00000, 8, 5⟩
/-- FL_STATUS [31:29] GROUP_STATE, RO, reset 0 (R406, Table 11.8). -/
def FL_STATUS_GROUP_STATE : Fld := ⟨0xC00004, 29, 3⟩
/-- FL_STATUS [28:28] PROG_ALLOWED, RO, reset 0 (R406, Table 11.8). -/
def FL_STATUS_PROG_ALLOWED : Fld := ⟨0xC00004, 28, 1⟩
/-- FL_STATUS [27:27] REBUILD_ACTIVE, RO, reset 0 (R406, Table 11.8). -/
def FL_STATUS_REBUILD_ACTIVE : Fld := ⟨0xC00004, 27, 1⟩
/-- FL_STATUS [20:16] WIDTH, RO, reset config (R406, Table 11.8). -/
def FL_STATUS_WIDTH : Fld := ⟨0xC00004, 16, 5⟩
/-- FL_STATUS [10:8] SPARES_READY, RO, reset 0 (R406, Table 11.8). -/
def FL_STATUS_SPARES_READY : Fld := ⟨0xC00004, 8, 3⟩
/-- FL_STATUS [4:0] HEALTHY, RO, reset 0 (R406, Table 11.8). -/
def FL_STATUS_HEALTHY : Fld := ⟨0xC00004, 0, 5⟩
/-- FL_GROUP_ID [63:0] ID, RO, reset config (R406, Table 11.8). -/
def FL_GROUP_ID_ID : Fld := ⟨0xC00008, 0, 64⟩
/-- FL_CLASS_ID [63:0] ID, RO, reset config (R406, Table 11.8). -/
def FL_CLASS_ID_ID : Fld := ⟨0xC00010, 0, 64⟩
/-- FL_REBUILD_CFG [15:0] REBUILD_MBPS, RWL, reset config (R406, Table 11.8). -/
def FL_REBUILD_CFG_REBUILD_MBPS : Fld := ⟨0xC00018, 0, 16⟩
/-- FL_REBUILD_STATUS [31:27] POSITION_A, RO, reset 31 (R406, Table 11.8). -/
def FL_REBUILD_STATUS_POSITION_A : Fld := ⟨0xC0001C, 27, 5⟩
/-- FL_REBUILD_STATUS [26:22] POSITION_B, RO, reset 31 (R406, Table 11.8). -/
def FL_REBUILD_STATUS_POSITION_B : Fld := ⟨0xC0001C, 22, 5⟩
/-- FL_REBUILD_STATUS [6:0] PCT, RO, reset 0 (R406, Table 11.8). -/
def FL_REBUILD_STATUS_PCT : Fld := ⟨0xC0001C, 0, 7⟩
/-- FL_REBUILD_LEFT [31:0] BLOCKS, RO, reset 0 (R406, Table 11.8). -/
def FL_REBUILD_LEFT_BLOCKS : Fld := ⟨0xC00020, 0, 32⟩
/-- FL_PATROL [31:16] PASSES, RO, reset 0 (R406, Table 11.8). -/
def FL_PATROL_PASSES : Fld := ⟨0xC00024, 16, 16⟩
/-- FL_PATROL [6:0] PCT, RO, reset 0 (R406, Table 11.8). -/
def FL_PATROL_PCT : Fld := ⟨0xC00024, 0, 7⟩
/-- FL_PATROL_MBPS [19:0] MBPS, RO, reset 0 (R406, Table 11.8). -/
def FL_PATROL_MBPS_MBPS : Fld := ⟨0xC00028, 0, 20⟩
/-- FL_MARGIN_CFG [15:8] MEMBER_UCE_LIMIT, RWL, reset config (R406, Table 11.8). -/
def FL_MARGIN_CFG_MEMBER_UCE_LIMIT : Fld := ⟨0xC0002C, 8, 8⟩
/-- FL_MARGIN_CFG [6:0] MARGIN_PCT, RWL, reset config (R406, Table 11.8). -/
def FL_MARGIN_CFG_MARGIN_PCT : Fld := ⟨0xC0002C, 0, 7⟩
/-- FL_LOST_STRIPES [31:0] COUNT, RC, reset 0 (R406, Table 11.8). -/
def FL_LOST_STRIPES_COUNT : Fld := ⟨0xC00030, 0, 32⟩
/-- FL_PAGES_REPAIRED [31:0] COUNT, RC, reset 0 (R406, Table 11.8). -/
def FL_PAGES_REPAIRED_COUNT : Fld := ⟨0xC00034, 0, 32⟩
/-- FL_PAGES_POISONED [31:0] COUNT, RC, reset 0 (R406, Table 11.8). -/
def FL_PAGES_POISONED_COUNT : Fld := ⟨0xC00038, 0, 32⟩
/-- FL_PARITY_MISMATCH [31:0] COUNT, RC, reset 0 (R406, Table 11.8). -/
def FL_PARITY_MISMATCH_COUNT : Fld := ⟨0xC0003C, 0, 32⟩
/-- FL_RECONSTRUCTS [63:0] COUNT, RC, reset 0 (R406, Table 11.8). -/
def FL_RECONSTRUCTS_COUNT : Fld := ⟨0xC00040, 0, 64⟩
/-- FL_LDPC_STATUS [11:8] ENGINES_T1, RO, reset 0 (R406, Table 11.8). -/
def FL_LDPC_STATUS_ENGINES_T1 : Fld := ⟨0xC00048, 8, 4⟩
/-- FL_LDPC_STATUS [3:0] ENGINES_T0, RO, reset 0 (R406, Table 11.8). -/
def FL_LDPC_STATUS_ENGINES_T0 : Fld := ⟨0xC00048, 0, 4⟩
/-- FL_POSITION [31:30] STATE, RO, reset 3 (R406, Table 11.8, i below 18). -/
def FL_POSITION_STATE (i : Nat) : Fld := ⟨0xC00080 + 0x4 * i, 30, 2⟩
/-- FL_POSITION [4:0] SLOT, RO, reset 0 (R406, Table 11.8, i below 18). -/
def FL_POSITION_SLOT (i : Nat) : Fld := ⟨0xC00080 + 0x4 * i, 0, 5⟩
/-- SLOT_CTRL [1:1] CLEAR_FAULT, WO, reset 0 (R406, Table 11.8, i below 20). -/
def SLOT_CTRL_CLEAR_FAULT (i : Nat) : Fld := ⟨0xC01000 + 0x100 * i, 1, 1⟩
/-- SLOT_CTRL [0:0] FAIL_NOW, WO, reset 0 (R406, Table 11.8, i below 20). -/
def SLOT_CTRL_FAIL_NOW (i : Nat) : Fld := ⟨0xC01000 + 0x100 * i, 0, 1⟩
/-- SLOT_STATUS [31:28] STATE, RO, reset 0 (R406, Table 11.8, i below 20). -/
def SLOT_STATUS_STATE (i : Nat) : Fld := ⟨0xC01004 + 0x100 * i, 28, 4⟩
/-- SLOT_STATUS [27:23] POSITION, RO, reset 31 (R406, Table 11.8, i below 20). -/
def SLOT_STATUS_POSITION (i : Nat) : Fld := ⟨0xC01004 + 0x100 * i, 23, 5⟩
/-- SLOT_STATUS [22:20] ATTEMPTS, RO, reset 0 (R406, Table 11.8, i below 20). -/
def SLOT_STATUS_ATTEMPTS (i : Nat) : Fld := ⟨0xC01004 + 0x100 * i, 20, 3⟩
/-- SLOT_STATUS [19:16] CAUSE, RO, reset 0 (R406, Table 11.8, i below 20). -/
def SLOT_STATUS_CAUSE (i : Nat) : Fld := ⟨0xC01004 + 0x100 * i, 16, 4⟩
/-- SLOT_STATUS [7:7] TEMP_OK, RO, reset 0 (R406, Table 11.8, i below 20). -/
def SLOT_STATUS_TEMP_OK (i : Nat) : Fld := ⟨0xC01004 + 0x100 * i, 7, 1⟩
/-- SLOT_STATUS [6:6] SENSOR_FAIL, RO, reset 0 (R406, Table 11.8, i below 20). -/
def SLOT_STATUS_SENSOR_FAIL (i : Nat) : Fld := ⟨0xC01004 + 0x100 * i, 6, 1⟩
/-- SLOT_STATUS [5:5] ID_VALID, RO, reset 0 (R406, Table 11.8, i below 20). -/
def SLOT_STATUS_ID_VALID (i : Nat) : Fld := ⟨0xC01004 + 0x100 * i, 5, 1⟩
/-- SLOT_STATUS [4:4] POWER_ON, RO, reset 0 (R406, Table 11.8, i below 20). -/
def SLOT_STATUS_POWER_ON (i : Nat) : Fld := ⟨0xC01004 + 0x100 * i, 4, 1⟩
/-- SLOT_STATUS [3:3] FLT, RO, reset 0 (R406, Table 11.8, i below 20). -/
def SLOT_STATUS_FLT (i : Nat) : Fld := ⟨0xC01004 + 0x100 * i, 3, 1⟩
/-- SLOT_STATUS [2:2] PG, RO, reset 0 (R406, Table 11.8, i below 20). -/
def SLOT_STATUS_PG (i : Nat) : Fld := ⟨0xC01004 + 0x100 * i, 2, 1⟩
/-- SLOT_STATUS [1:1] PRESENT, RO, reset 0 (R406, Table 11.8, i below 20). -/
def SLOT_STATUS_PRESENT (i : Nat) : Fld := ⟨0xC01004 + 0x100 * i, 1, 1⟩
/-- SLOT_TEMP [15:0] CASE, RO, reset 0 (R406, Table 11.8, i below 20). -/
def SLOT_TEMP_CASE (i : Nat) : Fld := ⟨0xC01008 + 0x100 * i, 0, 16⟩
/-- SLOT_BLOCKS [31:16] BAD, RO, reset 0 (R406, Table 11.8, i below 20). -/
def SLOT_BLOCKS_BAD (i : Nat) : Fld := ⟨0xC0100C + 0x100 * i, 16, 16⟩
/-- SLOT_BLOCKS [15:0] SPARE_MIN, RO, reset 0 (R406, Table 11.8, i below 20). -/
def SLOT_BLOCKS_SPARE_MIN (i : Nat) : Fld := ⟨0xC0100C + 0x100 * i, 0, 16⟩
/-- SLOT_CE_COUNT [63:0] COUNT, RC, reset 0 (R406, Table 11.8, i below 20). -/
def SLOT_CE_COUNT_COUNT (i : Nat) : Fld := ⟨0xC01010 + 0x100 * i, 0, 64⟩
/-- SLOT_UCE_COUNT [31:0] COUNT, RC, reset 0 (R406, Table 11.8, i below 20). -/
def SLOT_UCE_COUNT_COUNT (i : Nat) : Fld := ⟨0xC01018 + 0x100 * i, 0, 32⟩
/-- SLOT_RETRY_COUNT [31:0] COUNT, RC, reset 0 (R406, Table 11.8, i below 20). -/
def SLOT_RETRY_COUNT_COUNT (i : Nat) : Fld := ⟨0xC0101C + 0x100 * i, 0, 32⟩
/-- SLOT_OP_FAILS [31:16] ERASE, RC, reset 0 (R406, Table 11.8, i below 20). -/
def SLOT_OP_FAILS_ERASE (i : Nat) : Fld := ⟨0xC01020 + 0x100 * i, 16, 16⟩
/-- SLOT_OP_FAILS [15:0] PROGRAM, RC, reset 0 (R406, Table 11.8, i below 20). -/
def SLOT_OP_FAILS_PROGRAM (i : Nat) : Fld := ⟨0xC01020 + 0x100 * i, 0, 16⟩
/-- SLOT_WEAR [31:16] MAX_PE, RO, reset 0 (R406, Table 11.8, i below 20). -/
def SLOT_WEAR_MAX_PE (i : Nat) : Fld := ⟨0xC01024 + 0x100 * i, 16, 16⟩
/-- SLOT_WEAR [15:0] AVG_PE, RO, reset 0 (R406, Table 11.8, i below 20). -/
def SLOT_WEAR_AVG_PE (i : Nat) : Fld := ⟨0xC01024 + 0x100 * i, 0, 16⟩
/-- FL_ID_RECORD [31:0] RECORD, RO, reset 0 (R406, Table 11.8, i below 20). -/
def FL_ID_RECORD_RECORD (i : Nat) : Fld := ⟨0xD00000 + 0x1000 * i, 0, 32⟩
/-- CW_CTRL [31:31] LOCK, RW, reset 0 (R443, Table 12.17). -/
def CW_CTRL_LOCK : Fld := ⟨0xE00000, 31, 1⟩
/-- CW_CTRL [22:16] CKPT_INTERVAL_MS, RWL, reset config (R443, Table 12.17). -/
def CW_CTRL_CKPT_INTERVAL_MS : Fld := ⟨0xE00000, 16, 7⟩
/-- CW_CTRL [15:8] WITNESS_LOST_MS, RWL, reset config (R443, Table 12.17). -/
def CW_CTRL_WITNESS_LOST_MS : Fld := ⟨0xE00000, 8, 8⟩
/-- CW_CTRL [7:0] TWIN_LOST_MS, RWL, reset config (R443, Table 12.17). -/
def CW_CTRL_TWIN_LOST_MS : Fld := ⟨0xE00000, 0, 8⟩
/-- CW_CMD [4:4] REKEY, WO, reset 0 (R443, Table 12.17). -/
def CW_CMD_REKEY : Fld := ⟨0xE00004, 4, 1⟩
/-- CW_CMD [3:3] UNPAIR, WO, reset 0 (R443, Table 12.17). -/
def CW_CMD_UNPAIR : Fld := ⟨0xE00004, 3, 1⟩
/-- CW_CMD [2:2] REPLACE_ALLOW, WO, reset 0 (R443, Table 12.17). -/
def CW_CMD_REPLACE_ALLOW : Fld := ⟨0xE00004, 2, 1⟩
/-- CW_CMD [1:1] PAIR_ALLOW_NEW, WO, reset 0 (R443, Table 12.17). -/
def CW_CMD_PAIR_ALLOW_NEW : Fld := ⟨0xE00004, 1, 1⟩
/-- CW_CMD [0:0] DRAIN, WO, reset 0 (R443, Table 12.17). -/
def CW_CMD_DRAIN : Fld := ⟨0xE00004, 0, 1⟩
/-- CW_STATUS [31:28] PAIR_STATE, RO, reset 0 (R443, Table 12.17). -/
def CW_STATUS_PAIR_STATE : Fld := ⟨0xE00008, 28, 4⟩
/-- CW_STATUS [27:24] FENCE_CAUSE, RO, reset 0 (R443, Table 12.17). -/
def CW_STATUS_FENCE_CAUSE : Fld := ⟨0xE00008, 24, 4⟩
/-- CW_STATUS [23:23] TWIN_CONTACT, RO, reset 0 (R443, Table 12.17). -/
def CW_STATUS_TWIN_CONTACT : Fld := ⟨0xE00008, 23, 1⟩
/-- CW_STATUS [22:22] WITNESS_CONTACT, RO, reset 0 (R443, Table 12.17). -/
def CW_STATUS_WITNESS_CONTACT : Fld := ⟨0xE00008, 22, 1⟩
/-- CW_STATUS [21:21] FENCE_N, RO, reset 0 (R443, Table 12.17). -/
def CW_STATUS_FENCE_N : Fld := ⟨0xE00008, 21, 1⟩
/-- CW_STATUS [20:20] SERVING_PARTNER, RO, reset 0 (R443, Table 12.17). -/
def CW_STATUS_SERVING_PARTNER : Fld := ⟨0xE00008, 20, 1⟩
/-- CW_STATUS [19:19] RELEASE_READY, RO, reset 0 (R443, Table 12.17). -/
def CW_STATUS_RELEASE_READY : Fld := ⟨0xE00008, 19, 1⟩
/-- CW_STATUS [18:18] MAP_VALID, RO, reset config (R443, Table 12.17). -/
def CW_STATUS_MAP_VALID : Fld := ⟨0xE00008, 18, 1⟩
/-- CW_STATUS [17:16] PATHS_UP, RO, reset 0 (R443, Table 12.17). -/
def CW_STATUS_PATHS_UP : Fld := ⟨0xE00008, 16, 2⟩
/-- CW_PAIR_EPOCH [31:0] EPOCH, RO, reset config (R443, Table 12.17). -/
def CW_PAIR_EPOCH_EPOCH : Fld := ⟨0xE0000C, 0, 32⟩
/-- CW_PAIR_ID [63:0] ID, RO, reset config (R443, Table 12.17). -/
def CW_PAIR_ID_ID : Fld := ⟨0xE00010, 0, 64⟩
/-- CW_PARTNER_KEY_ID [63:0] ID, RO, reset config (R443, Table 12.17). -/
def CW_PARTNER_KEY_ID_ID : Fld := ⟨0xE00018, 0, 64⟩
/-- CW_TX_SEQ [63:0] SEQ, RO, reset 0 (R443, Table 12.17). -/
def CW_TX_SEQ_SEQ : Fld := ⟨0xE00020, 0, 64⟩
/-- CW_ACK_SEQ [63:0] SEQ, RO, reset 0 (R443, Table 12.17). -/
def CW_ACK_SEQ_SEQ : Fld := ⟨0xE00028, 0, 64⟩
/-- CW_RX_SEQ [63:0] SEQ, RO, reset 0 (R443, Table 12.17). -/
def CW_RX_SEQ_SEQ : Fld := ⟨0xE00030, 0, 64⟩
/-- CW_RX_CREDIT [18:0] FREE_LINES, RO, reset 0 (R443, Table 12.17). -/
def CW_RX_CREDIT_FREE_LINES : Fld := ⟨0xE00038, 0, 19⟩
/-- CW_CATCHUP_CFG [7:0] CATCHUP_GBPS, RWL, reset config (R443, Table 12.17). -/
def CW_CATCHUP_CFG_CATCHUP_GBPS : Fld := ⟨0xE0003C, 0, 8⟩
/-- CW_CATCHUP_STATUS [31:29] STATE, RO, reset 0 (R443, Table 12.17). -/
def CW_CATCHUP_STATUS_STATE : Fld := ⟨0xE00040, 29, 3⟩
/-- CW_CATCHUP_STATUS [28:28] FULL_SIDE1, RO, reset 0 (R443, Table 12.17). -/
def CW_CATCHUP_STATUS_FULL_SIDE1 : Fld := ⟨0xE00040, 28, 1⟩
/-- CW_CATCHUP_STATUS [27:27] FULL_SIDE0, RO, reset 0 (R443, Table 12.17). -/
def CW_CATCHUP_STATUS_FULL_SIDE0 : Fld := ⟨0xE00040, 27, 1⟩
/-- CW_CATCHUP_LEFT [31:0] EXTENTS, RO, reset 0 (R443, Table 12.17). -/
def CW_CATCHUP_LEFT_EXTENTS : Fld := ⟨0xE00044, 0, 32⟩
/-- CW_MAP_BITS [31:0] EXTENTS, RO, reset 0 (R443, Table 12.17). -/
def CW_MAP_BITS_EXTENTS : Fld := ⟨0xE00048, 0, 32⟩
/-- CW_CKPT_SEQ [63:0] SEQ, RO, reset 0 (R443, Table 12.17). -/
def CW_CKPT_SEQ_SEQ : Fld := ⟨0xE00050, 0, 64⟩
/-- CW_CKPT_LAST_US [31:0] US, RO, reset 0 (R443, Table 12.17). -/
def CW_CKPT_LAST_US_US : Fld := ⟨0xE00058, 0, 32⟩
/-- CW_TAKEOVER_COUNT [31:0] COUNT, RO, reset config (R443, Table 12.17). -/
def CW_TAKEOVER_COUNT_COUNT : Fld := ⟨0xE0005C, 0, 32⟩
/-- CW_WIT_STATUS [23:16] LAST_HEARD_MS, RO, reset 0 (R443, Table 12.17). -/
def CW_WIT_STATUS_LAST_HEARD_MS : Fld := ⟨0xE00060, 16, 8⟩
/-- CW_WIT_STATUS [15:8] LAST_TYPE, RO, reset 0 (R443, Table 12.17). -/
def CW_WIT_STATUS_LAST_TYPE : Fld := ⟨0xE00060, 8, 8⟩
/-- CW_WIT_STATUS [2:2] REQUESTING, RO, reset 0 (R443, Table 12.17). -/
def CW_WIT_STATUS_REQUESTING : Fld := ⟨0xE00060, 2, 1⟩
/-- CW_WIT_STATUS [1:1] LINK_UP, RO, reset 0 (R443, Table 12.17). -/
def CW_WIT_STATUS_LINK_UP : Fld := ⟨0xE00060, 1, 1⟩
/-- CW_WIT_AUTH_FAILS [31:0] COUNT, RC, reset 0 (R443, Table 12.17). -/
def CW_WIT_AUTH_FAILS_COUNT : Fld := ⟨0xE00064, 0, 32⟩
/-- CW_WIT_REJECTED [31:0] COUNT, RC, reset 0 (R443, Table 12.17). -/
def CW_WIT_REJECTED_COUNT : Fld := ⟨0xE00068, 0, 32⟩
/-- CW_PAIR_TEMPER [15:0] TEMPER, RO, reset config (R443, Table 12.17). -/
def CW_PAIR_TEMPER_TEMPER : Fld := ⟨0xE0006C, 0, 16⟩
/-- CW_WIT_KEY [31:0] KEY, WO, reset config (R443, Table 12.17, i below 8). -/
def CW_WIT_KEY_KEY (i : Nat) : Fld := ⟨0xE00080 + 0x4 * i, 0, 32⟩
/-- CW_PATH_CTRL [0:0] SERVICE, RW, reset config (R443, Table 12.17, i below 2). -/
def CW_PATH_CTRL_SERVICE (i : Nat) : Fld := ⟨0xE00100 + 0x40 * i, 0, 1⟩
/-- CW_PATH_STATUS [31:16] DOWNS_60S, RO, reset 0 (R443, Table 12.17, i below 2). -/
def CW_PATH_STATUS_DOWNS_60S (i : Nat) : Fld := ⟨0xE00104 + 0x40 * i, 16, 16⟩
/-- CW_PATH_STATUS [15:8] OOS_CAUSE, RO, reset 0 (R443, Table 12.17, i below 2). -/
def CW_PATH_STATUS_OOS_CAUSE (i : Nat) : Fld := ⟨0xE00104 + 0x40 * i, 8, 8⟩
/-- CW_PATH_STATUS [1:0] STATE, RO, reset 0 (R443, Table 12.17, i below 2). -/
def CW_PATH_STATUS_STATE (i : Nat) : Fld := ⟨0xE00104 + 0x40 * i, 0, 2⟩
/-- CW_PATH_CRC_DISCARDS [31:0] COUNT, RC, reset 0 (R443, Table 12.17, i below 2). -/
def CW_PATH_CRC_DISCARDS_COUNT (i : Nat) : Fld := ⟨0xE00108 + 0x40 * i, 0, 32⟩
/-- CW_PATH_AUTH_FAILS [31:0] COUNT, RC, reset 0 (R443, Table 12.17, i below 2). -/
def CW_PATH_AUTH_FAILS_COUNT (i : Nat) : Fld := ⟨0xE0010C + 0x40 * i, 0, 32⟩
/-- CW_PATH_DUP_DISCARDS [63:0] COUNT, RC, reset 0 (R443, Table 12.17, i below 2). -/
def CW_PATH_DUP_DISCARDS_COUNT (i : Nat) : Fld := ⟨0xE00110 + 0x40 * i, 0, 64⟩
/-- CW_PATH_RETRANSMITS [31:0] COUNT, RC, reset 0 (R443, Table 12.17, i below 2). -/
def CW_PATH_RETRANSMITS_COUNT (i : Nat) : Fld := ⟨0xE00118 + 0x40 * i, 0, 32⟩
/-- CW_PATH_FEC_CORR [31:0] COUNT, RC, reset 0 (R443, Table 12.17, i below 2). -/
def CW_PATH_FEC_CORR_COUNT (i : Nat) : Fld := ⟨0xE0011C + 0x40 * i, 0, 32⟩
/-- CW_PATH_FEC_UNCORR [31:0] COUNT, RC, reset 0 (R443, Table 12.17, i below 2). -/
def CW_PATH_FEC_UNCORR_COUNT (i : Nat) : Fld := ⟨0xE00120 + 0x40 * i, 0, 32⟩
/-- KG_CTRL [31:31] LOCK, RW, reset 0 (R475, Table 13.12). -/
def KG_CTRL_LOCK : Fld := ⟨0xF00000, 31, 1⟩
/-- KG_CTRL [23:8] GQ_TMO_MS, RWL, reset config (R475, Table 13.12). -/
def KG_CTRL_GQ_TMO_MS : Fld := ⟨0xF00000, 8, 16⟩
/-- KG_CTRL [7:0] L1_IDLE_US, RWL, reset config (R475, Table 13.12). -/
def KG_CTRL_L1_IDLE_US : Fld := ⟨0xF00000, 0, 8⟩
/-- KG_GUEST_CTRL [1:1] RESET, WO, reset 0 (R475, Table 13.12). -/
def KG_GUEST_CTRL_RESET : Fld := ⟨0xF00004, 1, 1⟩
/-- KG_GUEST_CTRL [0:0] SERVICE, RW, reset config (R475, Table 13.12). -/
def KG_GUEST_CTRL_SERVICE : Fld := ⟨0xF00004, 0, 1⟩
/-- KG_GUEST_STATUS [31:16] OPS_OUTSTANDING, RO, reset 0 (R475, Table 13.12). -/
def KG_GUEST_STATUS_OPS_OUTSTANDING : Fld := ⟨0xF00008, 16, 16⟩
/-- KG_GUEST_STATUS [12:12] ID_VALID, RO, reset 0 (R475, Table 13.12). -/
def KG_GUEST_STATUS_ID_VALID : Fld := ⟨0xF00008, 12, 1⟩
/-- KG_GUEST_STATUS [11:8] CAUSE, RO, reset 0 (R475, Table 13.12). -/
def KG_GUEST_STATUS_CAUSE : Fld := ⟨0xF00008, 8, 4⟩
/-- KG_GUEST_STATUS [3:0] STATE, RO, reset 0 (R475, Table 13.12). -/
def KG_GUEST_STATUS_STATE : Fld := ⟨0xF00008, 0, 4⟩
/-- KG_TMO_MIN [15:0] MS, RO, reset 2 (R475, Table 13.12). -/
def KG_TMO_MIN_MS : Fld := ⟨0xF0000C, 0, 16⟩
/-- KG_GQ_SENT [63:0] COUNT, RC, reset 0 (R475, Table 13.12). -/
def KG_GQ_SENT_COUNT : Fld := ⟨0xF00010, 0, 64⟩
/-- KG_GQ_TIMEOUTS [31:0] COUNT, RC, reset 0 (R475, Table 13.12). -/
def KG_GQ_TIMEOUTS_COUNT : Fld := ⟨0xF00018, 0, 32⟩
/-- KG_GRANT_REFUSALS [31:0] COUNT, RC, reset 0 (R475, Table 13.12). -/
def KG_GRANT_REFUSALS_COUNT : Fld := ⟨0xF0001C, 0, 32⟩
/-- KG_MOD_STATUS [27:24] SPARES_LEFT, RO, reset fuse (R475, Table 13.12, i below 13). -/
def KG_MOD_STATUS_SPARES_LEFT (i : Nat) : Fld := ⟨0xF00100 + 0x20 * i, 24, 4⟩
/-- KG_MOD_STATUS [23:20] REPAIRED, RO, reset 0 (R475, Table 13.12, i below 13). -/
def KG_MOD_STATUS_REPAIRED (i : Nat) : Fld := ⟨0xF00100 + 0x20 * i, 20, 4⟩
/-- KG_MOD_STATUS [15:8] WIDTH, RO, reset 0 (R475, Table 13.12, i below 13). -/
def KG_MOD_STATUS_WIDTH (i : Nat) : Fld := ⟨0xF00100 + 0x20 * i, 8, 8⟩
/-- KG_MOD_STATUS [1:0] STATE, RO, reset 0 (R475, Table 13.12, i below 13). -/
def KG_MOD_STATUS_STATE (i : Nat) : Fld := ⟨0xF00100 + 0x20 * i, 0, 2⟩
/-- KG_MOD_CRC_ERRORS [31:0] COUNT, RC, reset 0 (R475, Table 13.12, i below 13). -/
def KG_MOD_CRC_ERRORS_COUNT (i : Nat) : Fld := ⟨0xF00104 + 0x20 * i, 0, 32⟩
/-- KG_MOD_REPLAYS [31:0] COUNT, RC, reset 0 (R475, Table 13.12, i below 13). -/
def KG_MOD_REPLAYS_COUNT (i : Nat) : Fld := ⟨0xF00108 + 0x20 * i, 0, 32⟩
/-- KG_MOD_RETRAINS [31:0] COUNT, RC, reset 0 (R475, Table 13.12, i below 13). -/
def KG_MOD_RETRAINS_COUNT (i : Nat) : Fld := ⟨0xF0010C + 0x20 * i, 0, 32⟩
/-- KG_MOD_FLITS [63:0] COUNT, RC, reset 0 (R475, Table 13.12, i below 13). -/
def KG_MOD_FLITS_COUNT (i : Nat) : Fld := ⟨0xF00110 + 0x20 * i, 0, 64⟩
/-- KG_GRANT_W0 [31:31] VALID, RW, reset config (R475, Table 13.12, i below 256). -/
def KG_GRANT_W0_VALID (i : Nat) : Fld := ⟨0xF01000 + 0x10 * i, 31, 1⟩
/-- KG_GRANT_W0 [30:30] READ, RW, reset config (R475, Table 13.12, i below 256). -/
def KG_GRANT_W0_READ (i : Nat) : Fld := ⟨0xF01000 + 0x10 * i, 30, 1⟩
/-- KG_GRANT_W0 [29:29] WRITE, RW, reset config (R475, Table 13.12, i below 256). -/
def KG_GRANT_W0_WRITE (i : Nat) : Fld := ⟨0xF01000 + 0x10 * i, 29, 1⟩
/-- KG_GRANT_W0 [28:28] AUTONOMOUS, RW, reset config (R475, Table 13.12, i below 256). -/
def KG_GRANT_W0_AUTONOMOUS (i : Nat) : Fld := ⟨0xF01000 + 0x10 * i, 28, 1⟩
/-- KG_GRANT_W0 [24:24] SIDE, RW, reset config (R475, Table 13.12, i below 256). -/
def KG_GRANT_W0_SIDE (i : Nat) : Fld := ⟨0xF01000 + 0x10 * i, 24, 1⟩
/-- KG_GRANT_W0 [11:0] TENANT, RW, reset config (R475, Table 13.12, i below 256). -/
def KG_GRANT_W0_TENANT (i : Nat) : Fld := ⟨0xF01000 + 0x10 * i, 0, 12⟩
/-- KG_GRANT_W1 [17:0] BASE_SLOT, RW, reset config (R475, Table 13.12, i below 256). -/
def KG_GRANT_W1_BASE_SLOT (i : Nat) : Fld := ⟨0xF01004 + 0x10 * i, 0, 18⟩
/-- KG_GRANT_W2 [17:0] SPAN_M1, RW, reset config (R475, Table 13.12, i below 256). -/
def KG_GRANT_W2_SPAN_M1 (i : Nat) : Fld := ⟨0xF01008 + 0x10 * i, 0, 18⟩
/-- KG_GRANT_W3 [31:31] REVOKING, RO, reset 0 (R475, Table 13.12, i below 256). -/
def KG_GRANT_W3_REVOKING (i : Nat) : Fld := ⟨0xF0100C + 0x10 * i, 31, 1⟩
/-- KG_GRANT_W3 [15:0] OUTSTANDING, RO, reset 0 (R475, Table 13.12, i below 256). -/
def KG_GRANT_W3_OUTSTANDING (i : Nat) : Fld := ⟨0xF0100C + 0x10 * i, 0, 16⟩
/-- KG_GUEST_ID [31:0] RECORD, RO, reset 0 (R475, Table 13.12, j below 64). -/
def KG_GUEST_ID_RECORD (j : Nat) : Fld := ⟨0xF02000 + 0x4 * j, 0, 32⟩
/-- KG_GUEST_SERIAL [31:0] SERIAL, RO, reset 0 (R475, Table 13.12, j below 4). -/
def KG_GUEST_SERIAL_SERIAL (j : Nat) : Fld := ⟨0xF02100 + 0x4 * j, 0, 32⟩
/-- KG_GREG [31:0] VALUE, RW, reset — (R475, Table 13.12, j below 16384). -/
def KG_GREG_VALUE (j : Nat) : Fld := ⟨0xF40000 + 0x4 * j, 0, 32⟩
/-- GST_STATUS [7:6] DUR_LEVEL, RO, reset 0 (R476, Table 13.13). -/
def GST_STATUS_DUR_LEVEL : Fld := ⟨0xF80000, 6, 2⟩
/-- GST_STATUS [5:5] FENCED, RO, reset 0 (R476, Table 13.13). -/
def GST_STATUS_FENCED : Fld := ⟨0xF80000, 5, 1⟩
/-- GST_STATUS [3:0] MODE, RO, reset 0 (R476, Table 13.13). -/
def GST_STATUS_MODE : Fld := ⟨0xF80000, 0, 4⟩
/-- GST_TMO_MIN [15:0] MS, RO, reset 2 (R476, Table 13.13). -/
def GST_TMO_MIN_MS : Fld := ⟨0xF80004, 0, 16⟩
/-- GST_EVENT [21:16] INDEX, WO, reset 0 (R476, Table 13.13). -/
def GST_EVENT_INDEX : Fld := ⟨0xF80008, 16, 6⟩
/-- GST_EVENT [15:0] VALUE, WO, reset 0 (R476, Table 13.13). -/
def GST_EVENT_VALUE : Fld := ⟨0xF80008, 0, 16⟩
/-- GST_SCRATCH [31:0] VALUE, RW, reset 0 (R476, Table 13.13). -/
def GST_SCRATCH_VALUE : Fld := ⟨0xF8000C, 0, 32⟩
/-- GST_GQ_TMO [15:0] MS, RO, reset config (R476, Table 13.13). -/
def GST_GQ_TMO_MS : Fld := ⟨0xF80010, 0, 16⟩
/-- GST_GRANT [31:0] VIEW, RO, reset config (R476, Table 13.13, i below 256, j below 4). -/
def GST_GRANT_VIEW (i j : Nat) : Fld := ⟨0xF81000 + 0x10 * i + 0x4 * j, 0, 32⟩
/-- ID_DEVICE [31:16] DEVICE_ID, RO, reset 0x7240 (R505, Table 14.12a). -/
def ID_DEVICE_DEVICE_ID : Fld := ⟨0x0, 16, 16⟩
/-- ID_DEVICE [15:0] VENDOR_ID, RO, reset fuse (R505, Table 14.12a). -/
def ID_DEVICE_VENDOR_ID : Fld := ⟨0x0, 0, 16⟩
/-- ID_VARIANT [15:8] STEPPING, RO, reset fuse (R505, Table 14.12a). -/
def ID_VARIANT_STEPPING : Fld := ⟨0x4, 8, 8⟩
/-- ID_VARIANT [7:0] ORDER_CODE, RO, reset fuse (R505, Table 14.12a). -/
def ID_VARIANT_ORDER_CODE : Fld := ⟨0x4, 0, 8⟩
/-- ID_SERIAL [31:0] SERIAL, RO, reset fuse (R505, Table 14.12a, j below 4). -/
def ID_SERIAL_SERIAL (j : Nat) : Fld := ⟨0x8 + 0x4 * j, 0, 32⟩
/-- ID_FW_VERSION [31:0] VERSION, RO, reset 0 (R505, Table 14.12a). -/
def ID_FW_VERSION_VERSION : Fld := ⟨0x18, 0, 32⟩
/-- ID_FW_STATUS [12:8] SECURITY_COUNT, RO, reset fuse (R505, Table 14.12a). -/
def ID_FW_STATUS_SECURITY_COUNT : Fld := ⟨0x1C, 8, 5⟩
/-- ID_FW_STATUS [3:3] RECOVERY, RO, reset 0 (R505, Table 14.12a). -/
def ID_FW_STATUS_RECOVERY : Fld := ⟨0x1C, 3, 1⟩
/-- ID_FW_STATUS [2:2] TRIAL, RO, reset 0 (R505, Table 14.12a). -/
def ID_FW_STATUS_TRIAL : Fld := ⟨0x1C, 2, 1⟩
/-- ID_FW_STATUS [1:1] FALLBACK, RO, reset 0 (R505, Table 14.12a). -/
def ID_FW_STATUS_FALLBACK : Fld := ⟨0x1C, 1, 1⟩
/-- ID_FW_STATUS [0:0] ACTIVE_SLOT, RO, reset 0 (R505, Table 14.12a). -/
def ID_FW_STATUS_ACTIVE_SLOT : Fld := ⟨0x1C, 0, 1⟩
/-- ID_TEMPER [31:16] TEMPER_MAX, RO, reset 0 (R505, Table 14.12a). -/
def ID_TEMPER_TEMPER_MAX : Fld := ⟨0x20, 16, 16⟩
/-- ID_TEMPER [15:0] TEMPER, RO, reset 0 (R505, Table 14.12a). -/
def ID_TEMPER_TEMPER : Fld := ⟨0x20, 0, 16⟩
/-- ID_READOUT [1:0] LEVEL, RO, reset fuse (R505, Table 14.12a). -/
def ID_READOUT_LEVEL : Fld := ⟨0x24, 0, 2⟩
/-- ID_DEVICE_KEY_ID [63:0] ID, RO, reset 0 (R505, Table 14.12a). -/
def ID_DEVICE_KEY_ID_ID : Fld := ⟨0x28, 0, 64⟩
/-- ID_OPERATING_S [39:0] SECONDS, RO, reset config (R505, Table 14.12a). -/
def ID_OPERATING_S_SECONDS : Fld := ⟨0x30, 0, 40⟩
/-- ID_POWER_CYCLES [31:0] COUNT, RO, reset config (R505, Table 14.12a). -/
def ID_POWER_CYCLES_COUNT : Fld := ⟨0x38, 0, 32⟩
/-- ID_MODE [3:0] MODE, RO, reset 0 (R505, Table 14.12a). -/
def ID_MODE_MODE : Fld := ⟨0x3C, 0, 4⟩
/-- RV_CTRL [31:31] LOCK, RW, reset 0 (R506, Table 14.12). -/
def RV_CTRL_LOCK : Fld := ⟨0x60000000, 31, 1⟩
/-- RV_CTRL [15:0] WDT_MS, RWL, reset config (R506, Table 14.12). -/
def RV_CTRL_WDT_MS : Fld := ⟨0x60000000, 0, 16⟩
/-- RV_WDT_KICK [31:0] KICK, WO, reset 0 (R506, Table 14.12). -/
def RV_WDT_KICK_KICK : Fld := ⟨0x60000004, 0, 32⟩
/-- RV_CORES [11:10] C2, RO, reset 1 (R506, Table 14.12). -/
def RV_CORES_C2 : Fld := ⟨0x60000008, 10, 2⟩
/-- RV_CORES [9:8] C1, RO, reset 0 (R506, Table 14.12). -/
def RV_CORES_C1 : Fld := ⟨0x60000008, 8, 2⟩
/-- RV_CORES [7:6] C0, RO, reset 0 (R506, Table 14.12). -/
def RV_CORES_C0 : Fld := ⟨0x60000008, 6, 2⟩
/-- RV_CORES [0:0] DEGRADED, RO, reset 0 (R506, Table 14.12). -/
def RV_CORES_DEGRADED : Fld := ⟨0x60000008, 0, 1⟩
/-- RV_BOOT [0:0] CONFIRM, WO, reset 0 (R506, Table 14.12). -/
def RV_BOOT_CONFIRM : Fld := ⟨0x6000000C, 0, 1⟩
/-- RV_SRAM_CORR [31:0] COUNT, RC, reset 0 (R506, Table 14.12). -/
def RV_SRAM_CORR_COUNT : Fld := ⟨0x60000010, 0, 32⟩
/-- EFL_BANK_STATUS [31:0] STATUS, RO, reset 0 (R506, Table 14.12, i below 4). -/
def EFL_BANK_STATUS_STATUS (i : Nat) : Fld := ⟨0x60000020 + 0x4 * i, 0, 32⟩
/-- EFL_PROTECT [63:0] PROTECT, RWL, reset config (R506, Table 14.12). -/
def EFL_PROTECT_PROTECT : Fld := ⟨0x60000030, 0, 64⟩
/-- EFL_ECC_CORR [31:0] COUNT, RC, reset 0 (R506, Table 14.12). -/
def EFL_ECC_CORR_COUNT : Fld := ⟨0x60000038, 0, 32⟩
/-- EFL_ECC_UNCORR [31:0] COUNT, RC, reset 0 (R506, Table 14.12). -/
def EFL_ECC_UNCORR_COUNT : Fld := ⟨0x6000003C, 0, 32⟩
/-- EFL_LAST_ERR [25:0] ADDR, RO, reset 0 (R506, Table 14.12). -/
def EFL_LAST_ERR_ADDR : Fld := ⟨0x60000040, 0, 26⟩
/-- RDL_STATUS [23:16] LOWERS, RO, reset fuse (R506, Table 14.12). -/
def RDL_STATUS_LOWERS : Fld := ⟨0x60000050, 16, 8⟩
/-- RDL_STATUS [15:8] RAISES, RO, reset fuse (R506, Table 14.12). -/
def RDL_STATUS_RAISES : Fld := ⟨0x60000050, 8, 8⟩
/-- RDL_STATUS [2:2] ARMED, RO, reset 0 (R506, Table 14.12). -/
def RDL_STATUS_ARMED : Fld := ⟨0x60000050, 2, 1⟩
/-- RDL_STATUS [1:0] LEVEL, RO, reset fuse (R506, Table 14.12). -/
def RDL_STATUS_LEVEL : Fld := ⟨0x60000050, 0, 2⟩
/-- ADC_CTRL [0:0] TRACK_CLEAR, WO, reset 0 (R506, Table 14.12). -/
def ADC_CTRL_TRACK_CLEAR : Fld := ⟨0x60000100, 0, 1⟩
/-- ADC_CH_CFG [1:1] LOCK_HIGH, RW, reset 0 (R506, Table 14.12, i below 32). -/
def ADC_CH_CFG_LOCK_HIGH (i : Nat) : Fld := ⟨0x60000200 + 0x10 * i, 1, 1⟩
/-- ADC_CH_CFG [0:0] EN, RW, reset 1 (R506, Table 14.12, i below 32). -/
def ADC_CH_CFG_EN (i : Nat) : Fld := ⟨0x60000200 + 0x10 * i, 0, 1⟩
/-- ADC_RESULT [31:31] VALID, RO, reset 0 (R506, Table 14.12, i below 32). -/
def ADC_RESULT_VALID (i : Nat) : Fld := ⟨0x60000204 + 0x10 * i, 31, 1⟩
/-- ADC_RESULT [30:30] RANGED, RO, reset 0 (R506, Table 14.12, i below 32). -/
def ADC_RESULT_RANGED (i : Nat) : Fld := ⟨0x60000204 + 0x10 * i, 30, 1⟩
/-- ADC_RESULT [29:28] RANGE, RO, reset 0 (R506, Table 14.12, i below 32). -/
def ADC_RESULT_RANGE (i : Nat) : Fld := ⟨0x60000204 + 0x10 * i, 28, 2⟩
/-- ADC_RESULT [23:0] VALUE, RO, reset 0 (R506, Table 14.12, i below 32). -/
def ADC_RESULT_VALUE (i : Nat) : Fld := ⟨0x60000204 + 0x10 * i, 0, 24⟩
/-- ADC_MIN [23:0] VALUE, RO, reset 0x7F_FFFF (R506, Table 14.12, i below 32). -/
def ADC_MIN_VALUE (i : Nat) : Fld := ⟨0x60000208 + 0x10 * i, 0, 24⟩
/-- ADC_MAX [23:0] VALUE, RO, reset 0x80_0000 (R506, Table 14.12, i below 32). -/
def ADC_MAX_VALUE (i : Nat) : Fld := ⟨0x6000020C + 0x10 * i, 0, 24⟩
/-- FC_CTRL [31:31] LOCK, RW, reset 0 (R531, Table 15.9). -/
def FC_CTRL_LOCK : Fld := ⟨0x1000000, 31, 1⟩
/-- FC_CTRL [2:0] ESC_MAX, RWL, reset config (R531, Table 15.9). -/
def FC_CTRL_ESC_MAX : Fld := ⟨0x1000000, 0, 3⟩
/-- FC_STATUS [31:31] FAULT_LEVEL, RO, reset 0 (R531, Table 15.9). -/
def FC_STATUS_FAULT_LEVEL : Fld := ⟨0x1000004, 31, 1⟩
/-- FC_STATUS [30:30] ALERT_LEVEL, RO, reset 0 (R531, Table 15.9). -/
def FC_STATUS_ALERT_LEVEL : Fld := ⟨0x1000004, 30, 1⟩
/-- FC_STATUS [29:29] LATCH_HELD, RO, reset 0 (R531, Table 15.9). -/
def FC_STATUS_LATCH_HELD : Fld := ⟨0x1000004, 29, 1⟩
/-- FC_STATUS [26:16] UNCLEARED, RO, reset 0 (R531, Table 15.9). -/
def FC_STATUS_UNCLEARED : Fld := ⟨0x1000004, 16, 11⟩
/-- FC_STATUS [10:0] ACTIVE, RO, reset 0 (R531, Table 15.9). -/
def FC_STATUS_ACTIVE : Fld := ⟨0x1000004, 0, 11⟩
/-- FC_ACK [10:0] SOURCE, WO, reset 0 (R531, Table 15.9). -/
def FC_ACK_SOURCE : Fld := ⟨0x1000008, 0, 11⟩
/-- FC_QUEUE [31:16] DROPPED, RC, reset 0 (R531, Table 15.9). -/
def FC_QUEUE_DROPPED : Fld := ⟨0x100000C, 16, 16⟩
/-- FC_QUEUE [10:0] DEPTH, RO, reset 0 (R531, Table 15.9). -/
def FC_QUEUE_DEPTH : Fld := ⟨0x100000C, 0, 11⟩
/-- FC_RAISE [10:0] SOURCE, WO, reset 0 (R531, Table 15.9). -/
def FC_RAISE_SOURCE : Fld := ⟨0x1000010, 0, 11⟩
/-- FC_PIN_CTRL [0:0] PIN_CLEAR, WO, reset 0 (R531, Table 15.9). -/
def FC_PIN_CTRL_PIN_CLEAR : Fld := ⟨0x1000014, 0, 1⟩
/-- FC_RAISE_DETAIL [63:0] DETAIL, WO, reset 0 (R531, Table 15.9). -/
def FC_RAISE_DETAIL_DETAIL : Fld := ⟨0x1000018, 0, 64⟩
/-- EV_HEAD_SEQ [31:0] SEQ, RO, reset 0 (R531, Table 15.9). -/
def EV_HEAD_SEQ_SEQ : Fld := ⟨0x1000040, 0, 32⟩
/-- EV_TAIL_SEQ [31:0] SEQ, RO, reset 0 (R531, Table 15.9). -/
def EV_TAIL_SEQ_SEQ : Fld := ⟨0x1000044, 0, 32⟩
/-- EV_STATUS [31:31] FULL, RO, reset 0 (R531, Table 15.9). -/
def EV_STATUS_FULL : Fld := ⟨0x1000048, 31, 1⟩
/-- EV_STATUS [18:0] RECORDS, RO, reset 0 (R531, Table 15.9). -/
def EV_STATUS_RECORDS : Fld := ⟨0x1000048, 0, 19⟩
/-- EV_DROPPED [31:0] COUNT, RC, reset 0 (R531, Table 15.9). -/
def EV_DROPPED_COUNT : Fld := ⟨0x100004C, 0, 32⟩
/-- EV_SUPPRESSED [31:0] COUNT, RC, reset 0 (R531, Table 15.9). -/
def EV_SUPPRESSED_COUNT : Fld := ⟨0x1000050, 0, 32⟩
/-- EV_REWRITES [31:0] COUNT, RC, reset 0 (R531, Table 15.9). -/
def EV_REWRITES_COUNT : Fld := ⟨0x1000054, 0, 32⟩
/-- FC_ACTIVE_MAP [31:0] ACTIVE, RO, reset 0 (R531, Table 15.9, i below 48). -/
def FC_ACTIVE_MAP_ACTIVE (i : Nat) : Fld := ⟨0x1000100 + 0x4 * i, 0, 32⟩
/-- FC_UNCLEARED_MAP [31:0] UNCLEARED, RO, reset 0 (R531, Table 15.9, i below 48). -/
def FC_UNCLEARED_MAP_UNCLEARED (i : Nat) : Fld := ⟨0x1000200 + 0x4 * i, 0, 32⟩
/-- FC_LINE_STATUS [1:1] WIRE_FAULT, RO, reset 0 (R531, Table 15.9, i below 48). -/
def FC_LINE_STATUS_WIRE_FAULT (i : Nat) : Fld := ⟨0x1000300 + 0x4 * i, 1, 1⟩
/-- FC_LINE_STATUS [0:0] ASSERTED, RO, reset 0 (R531, Table 15.9, i below 48). -/
def FC_LINE_STATUS_ASSERTED (i : Nat) : Fld := ⟨0x1000300 + 0x4 * i, 0, 1⟩
/-- FC_SRC_CFG [31:31] QUAR, RO, reset fuse (R531, Table 15.9, i below 1536). -/
def FC_SRC_CFG_QUAR (i : Nat) : Fld := ⟨0x1010000 + 0x4 * i, 31, 1⟩
/-- FC_SRC_CFG [30:30] SAVE_PATH, RO, reset fuse (R531, Table 15.9, i below 1536). -/
def FC_SRC_CFG_SAVE_PATH (i : Nat) : Fld := ⟨0x1010000 + 0x4 * i, 30, 1⟩
/-- FC_SRC_CFG [29:29] KIND, RO, reset fuse (R531, Table 15.9, i below 1536). -/
def FC_SRC_CFG_KIND (i : Nat) : Fld := ⟨0x1010000 + 0x4 * i, 29, 1⟩
/-- FC_SRC_CFG [28:26] CLASS, RO, reset fuse (R531, Table 15.9, i below 1536). -/
def FC_SRC_CFG_CLASS (i : Nat) : Fld := ⟨0x1010000 + 0x4 * i, 26, 3⟩
/-- FC_SRC_CFG [25:23] SEVERITY, RO, reset fuse (R531, Table 15.9, i below 1536). -/
def FC_SRC_CFG_SEVERITY (i : Nat) : Fld := ⟨0x1010000 + 0x4 * i, 23, 3⟩
/-- FC_SRC_CFG [22:20] MIN_REACTION, RO, reset fuse (R531, Table 15.9, i below 1536). -/
def FC_SRC_CFG_MIN_REACTION (i : Nat) : Fld := ⟨0x1010000 + 0x4 * i, 20, 3⟩
/-- FC_SRC_CFG [8:7] AUTO_ACK, RWL, reset config (R531, Table 15.9, i below 1536). -/
def FC_SRC_CFG_AUTO_ACK (i : Nat) : Fld := ⟨0x1010000 + 0x4 * i, 7, 2⟩
/-- FC_SRC_CFG [6:5] SNAPSHOT, RWL, reset config (R531, Table 15.9, i below 1536). -/
def FC_SRC_CFG_SNAPSHOT (i : Nat) : Fld := ⟨0x1010000 + 0x4 * i, 5, 2⟩
/-- FC_SRC_CFG [4:3] ALERT, RWL, reset config (R531, Table 15.9, i below 1536). -/
def FC_SRC_CFG_ALERT (i : Nat) : Fld := ⟨0x1010000 + 0x4 * i, 3, 2⟩
/-- FC_SRC_CFG [2:0] REACTION, RWL, reset config (R531, Table 15.9, i below 1536). -/
def FC_SRC_CFG_REACTION (i : Nat) : Fld := ⟨0x1010000 + 0x4 * i, 0, 3⟩
/-- FC_SRC_STATUS [31:30] STATE, RO, reset 0 (R531, Table 15.9, i below 1536). -/
def FC_SRC_STATUS_STATE (i : Nat) : Fld := ⟨0x1020000 + 0x4 * i, 30, 2⟩
/-- FC_SRC_STATUS [29:29] ESCALATED, RO, reset 0 (R531, Table 15.9, i below 1536). -/
def FC_SRC_STATUS_ESCALATED (i : Nat) : Fld := ⟨0x1020000 + 0x4 * i, 29, 1⟩
/-- FC_SRC_STATUS [28:26] TAKEN, RO, reset 0 (R531, Table 15.9, i below 1536). -/
def FC_SRC_STATUS_TAKEN (i : Nat) : Fld := ⟨0x1020000 + 0x4 * i, 26, 3⟩
/-- FC_SRC_STATUS [15:0] COUNT, RO, reset 0 (R531, Table 15.9, i below 1536). -/
def FC_SRC_STATUS_COUNT (i : Nat) : Fld := ⟨0x1020000 + 0x4 * i, 0, 16⟩
/-- PWR_CTRL [31:31] LOCK, RW, reset 0 (R560, Table 16.11). -/
def PWR_CTRL_LOCK : Fld := ⟨0x1100000, 31, 1⟩
/-- PWR_CTRL [23:16] HOLDOFF_100MS, RWL, reset config (R560, Table 16.11). -/
def PWR_CTRL_HOLDOFF_100MS : Fld := ⟨0x1100000, 16, 8⟩
/-- PWR_CTRL [15:8] STEP_DELAY_100US, RWL, reset config (R560, Table 16.11). -/
def PWR_CTRL_STEP_DELAY_100US : Fld := ⟨0x1100000, 8, 8⟩
/-- PWR_CTRL [1:1] WAKE_ON_POWER, RWL, reset config (R560, Table 16.11). -/
def PWR_CTRL_WAKE_ON_POWER : Fld := ⟨0x1100000, 1, 1⟩
/-- PWR_CTRL [0:0] AUTO_RAMP, RWL, reset config (R560, Table 16.11). -/
def PWR_CTRL_AUTO_RAMP : Fld := ⟨0x1100000, 0, 1⟩
/-- PWR_CMD [2:0] CMD, WO, reset 0 (R560, Table 16.11). -/
def PWR_CMD_CMD : Fld := ⟨0x1100004, 0, 3⟩
/-- PWR_STATUS [31:28] MODE, RO, reset 0 (R560, Table 16.11). -/
def PWR_STATUS_MODE : Fld := ⟨0x1100008, 28, 4⟩
/-- PWR_STATUS [27:27] STOPPING, RO, reset 0 (R560, Table 16.11). -/
def PWR_STATUS_STOPPING : Fld := ⟨0x1100008, 27, 1⟩
/-- PWR_STATUS [26:26] RETURNING, RO, reset 0 (R560, Table 16.11). -/
def PWR_STATUS_RETURNING : Fld := ⟨0x1100008, 26, 1⟩
/-- PWR_STATUS [25:25] WAKE_LOCK, RO, reset 0 (R560, Table 16.11). -/
def PWR_STATUS_WAKE_LOCK : Fld := ⟨0x1100008, 25, 1⟩
/-- PWR_STATUS [24:24] THERM_LATCH, RO, reset 0 (R560, Table 16.11). -/
def PWR_STATUS_THERM_LATCH : Fld := ⟨0x1100008, 24, 1⟩
/-- PWR_STATUS [23:23] PFAIL, RO, reset 0 (R560, Table 16.11). -/
def PWR_STATUS_PFAIL : Fld := ⟨0x1100008, 23, 1⟩
/-- PWR_STATUS [22:22] PSEQ_GO, RO, reset 0 (R560, Table 16.11). -/
def PWR_STATUS_PSEQ_GO : Fld := ⟨0x1100008, 22, 1⟩
/-- PWR_STATUS [21:21] PSEQ_DONE, RO, reset 0 (R560, Table 16.11). -/
def PWR_STATUS_PSEQ_DONE : Fld := ⟨0x1100008, 21, 1⟩
/-- PWR_STATUS [20:20] GO_WAIT, RO, reset 0 (R560, Table 16.11). -/
def PWR_STATUS_GO_WAIT : Fld := ⟨0x1100008, 20, 1⟩
/-- PWR_STATUS [19:18] LAST_CMD, RO, reset 0 (R560, Table 16.11). -/
def PWR_STATUS_LAST_CMD : Fld := ⟨0x1100008, 18, 2⟩
/-- PWR_STATUS [11:0] RAIL_GOOD, RO, reset 0 (R560, Table 16.11). -/
def PWR_STATUS_RAIL_GOOD : Fld := ⟨0x1100008, 0, 12⟩
/-- PWR_WAKE_STATUS [31:24] ATTEMPTS, RO, reset 0 (R560, Table 16.11). -/
def PWR_WAKE_STATUS_ATTEMPTS : Fld := ⟨0x110000C, 24, 8⟩
/-- PWR_WAKE_STATUS [23:20] FAIL_STEP, RO, reset 0 (R560, Table 16.11). -/
def PWR_WAKE_STATUS_FAIL_STEP : Fld := ⟨0x110000C, 20, 4⟩
/-- PWR_WAKE_STATUS [19:16] FAIL_INDEX, RO, reset 0 (R560, Table 16.11). -/
def PWR_WAKE_STATUS_FAIL_INDEX : Fld := ⟨0x110000C, 16, 4⟩
/-- AON_STATUS [31:16] AON_RETRIES, RO, reset 0 (R560, Table 16.11). -/
def AON_STATUS_AON_RETRIES : Fld := ⟨0x1100010, 16, 16⟩
/-- AON_STATUS [0:0] ON_RC, RO, reset 1 (R560, Table 16.11). -/
def AON_STATUS_ON_RC : Fld := ⟨0x1100010, 0, 1⟩
/-- AON_ALARM [31:0] SECONDS, RW, reset 0 (R560, Table 16.11). -/
def AON_ALARM_SECONDS : Fld := ⟨0x1100014, 0, 32⟩
/-- RAIL_CFG [31:31] PRESENT, RWL, reset config (R560, Table 16.11, i below 12). -/
def RAIL_CFG_PRESENT (i : Nat) : Fld := ⟨0x1100100 + 0x20 * i, 31, 1⟩
/-- RAIL_CFG [30:30] SAVE_NEEDED, RO, reset fuse (R560, Table 16.11, i below 12). -/
def RAIL_CFG_SAVE_NEEDED (i : Nat) : Fld := ⟨0x1100100 + 0x20 * i, 30, 1⟩
/-- RAIL_CFG [23:16] PG_TMO_MS, RWL, reset config (R560, Table 16.11, i below 12). -/
def RAIL_CFG_PG_TMO_MS (i : Nat) : Fld := ⟨0x1100100 + 0x20 * i, 16, 8⟩
/-- RAIL_CFG [15:0] NOMINAL_MV, RO, reset fuse (R560, Table 16.11, i below 12). -/
def RAIL_CFG_NOMINAL_MV (i : Nat) : Fld := ⟨0x1100100 + 0x20 * i, 0, 16⟩
/-- RAIL_WINDOW [31:16] OV_PERMIL, RWL, reset config (R560, Table 16.11, i below 12). -/
def RAIL_WINDOW_OV_PERMIL (i : Nat) : Fld := ⟨0x1100104 + 0x20 * i, 16, 16⟩
/-- RAIL_WINDOW [15:0] UV_PERMIL, RWL, reset config (R560, Table 16.11, i below 12). -/
def RAIL_WINDOW_UV_PERMIL (i : Nat) : Fld := ⟨0x1100104 + 0x20 * i, 0, 16⟩
/-- RAIL_PMBUS [15:8] PAGE, RWL, reset config (R560, Table 16.11, i below 12). -/
def RAIL_PMBUS_PAGE (i : Nat) : Fld := ⟨0x1100108 + 0x20 * i, 8, 8⟩
/-- RAIL_PMBUS [6:0] ADDR, RWL, reset config (R560, Table 16.11, i below 12). -/
def RAIL_PMBUS_ADDR (i : Nat) : Fld := ⟨0x1100108 + 0x20 * i, 0, 7⟩
/-- RAIL_MARGIN [3:0] STEPS, RW, reset 0 (R560, Table 16.11, i below 12). -/
def RAIL_MARGIN_STEPS (i : Nat) : Fld := ⟨0x110010C + 0x20 * i, 0, 4⟩
/-- RAIL_STATUS [31:29] STATE, RO, reset 0 (R560, Table 16.11, i below 12). -/
def RAIL_STATUS_STATE (i : Nat) : Fld := ⟨0x1100110 + 0x20 * i, 29, 3⟩
/-- RAIL_STATUS [28:25] MARGIN_APPLIED, RO, reset 0 (R560, Table 16.11, i below 12). -/
def RAIL_STATUS_MARGIN_APPLIED (i : Nat) : Fld := ⟨0x1100110 + 0x20 * i, 25, 4⟩
/-- RAIL_STATUS [24:24] PMBUS_OK, RO, reset 0 (R560, Table 16.11, i below 12). -/
def RAIL_STATUS_PMBUS_OK (i : Nat) : Fld := ⟨0x1100110 + 0x20 * i, 24, 1⟩
/-- RAIL_STATUS [23:16] PG_LOSSES, RO, reset 0 (R560, Table 16.11, i below 12). -/
def RAIL_STATUS_PG_LOSSES (i : Nat) : Fld := ⟨0x1100110 + 0x20 * i, 16, 8⟩
/-- RAIL_VOUT [31:16] IOUT_10MA, RO, reset 0 (R560, Table 16.11, i below 12). -/
def RAIL_VOUT_IOUT_10MA (i : Nat) : Fld := ⟨0x1100114 + 0x20 * i, 16, 16⟩
/-- RAIL_VOUT [15:0] VOUT_MV, RO, reset 0 (R560, Table 16.11, i below 12). -/
def RAIL_VOUT_VOUT_MV (i : Nat) : Fld := ⟨0x1100114 + 0x20 * i, 0, 16⟩
/-- RAIL_TEMP [15:0] CASE, RO, reset 0 (R560, Table 16.11, i below 12). -/
def RAIL_TEMP_CASE (i : Nat) : Fld := ⟨0x1100118 + 0x20 * i, 0, 16⟩
/-- CLK_STATUS [31:31] XTAL_OK, RO, reset 0 (R560, Table 16.11). -/
def CLK_STATUS_XTAL_OK : Fld := ⟨0x1100400, 31, 1⟩
/-- CLK_STATUS [12:0] PLL_LOCK, RO, reset 0 (R560, Table 16.11). -/
def CLK_STATUS_PLL_LOCK : Fld := ⟨0x1100400, 0, 13⟩
/-- CLK_CFG [15:0] FLASH_CLK_IDLE_US, RWL, reset config (R560, Table 16.11). -/
def CLK_CFG_FLASH_CLK_IDLE_US : Fld := ⟨0x1100404, 0, 16⟩
/-- CLK_RELOCKS [31:0] COUNT, RC, reset 0 (R560, Table 16.11). -/
def CLK_RELOCKS_COUNT : Fld := ⟨0x1100408, 0, 32⟩
/-- TH_CFG [23:16] WARN_C, RWL, reset config (R560, Table 16.11). -/
def TH_CFG_WARN_C : Fld := ⟨0x1100500, 16, 8⟩
/-- TH_CFG [15:8] THROTTLE_C, RWL, reset config (R560, Table 16.11). -/
def TH_CFG_THROTTLE_C : Fld := ⟨0x1100500, 8, 8⟩
/-- TH_GRACE [15:0] GRACE_MS, RWL, reset config (R560, Table 16.11). -/
def TH_GRACE_GRACE_MS : Fld := ⟨0x1100504, 0, 16⟩
/-- TH_STATUS [31:16] HOTTEST, RO, reset 0 (R560, Table 16.11). -/
def TH_STATUS_HOTTEST : Fld := ⟨0x1100508, 16, 16⟩
/-- TH_STATUS [15:15] WARNING, RO, reset 0 (R560, Table 16.11). -/
def TH_STATUS_WARNING : Fld := ⟨0x1100508, 15, 1⟩
/-- TH_STATUS [14:14] REQUESTED, RO, reset 0 (R560, Table 16.11). -/
def TH_STATUS_REQUESTED : Fld := ⟨0x1100508, 14, 1⟩
/-- TH_STATUS [13:13] ENFORCING, RO, reset 0 (R560, Table 16.11). -/
def TH_STATUS_ENFORCING : Fld := ⟨0x1100508, 13, 1⟩
/-- TH_STATUS [12:12] SHUTDOWN, RO, reset 0 (R560, Table 16.11). -/
def TH_STATUS_SHUTDOWN : Fld := ⟨0x1100508, 12, 1⟩
/-- TH_STATUS [11:11] FAST, RO, reset 0 (R560, Table 16.11). -/
def TH_STATUS_FAST : Fld := ⟨0x1100508, 11, 1⟩
/-- TH_STATUS [4:0] HOTTEST_CH, RO, reset 0 (R560, Table 16.11). -/
def TH_STATUS_HOTTEST_CH : Fld := ⟨0x1100508, 0, 5⟩
/-- TH_THROTTLE_COUNT [31:0] COUNT, RC, reset 0 (R560, Table 16.11). -/
def TH_THROTTLE_COUNT_COUNT : Fld := ⟨0x110050C, 0, 32⟩
/-- TH_ENFORCE_MS [31:0] MS, RC, reset 0 (R560, Table 16.11). -/
def TH_ENFORCE_MS_MS : Fld := ⟨0x1100510, 0, 32⟩
/-- TH_SENSOR [31:31] FAILED, RO, reset 0 (R560, Table 16.11, i below 16). -/
def TH_SENSOR_FAILED (i : Nat) : Fld := ⟨0x1100600 + 0x4 * i, 31, 1⟩
/-- TH_SENSOR [30:29] CAUSE, RO, reset 0 (R560, Table 16.11, i below 16). -/
def TH_SENSOR_CAUSE (i : Nat) : Fld := ⟨0x1100600 + 0x4 * i, 29, 2⟩
/-- TH_SENSOR [28:28] DISABLED, RO, reset fuse (R560, Table 16.11, i below 16). -/
def TH_SENSOR_DISABLED (i : Nat) : Fld := ⟨0x1100600 + 0x4 * i, 28, 1⟩
/-- TH_SENSOR [15:0] READING, RO, reset 0 (R560, Table 16.11, i below 16). -/
def TH_SENSOR_READING (i : Nat) : Fld := ⟨0x1100600 + 0x4 * i, 0, 16⟩
/-- BERM_STATUS [31:24] LIFE_USED_PCT, RO, reset 0 (R575, Table 17.4). -/
def BERM_STATUS_LIFE_USED_PCT : Fld := ⟨0x1200000, 24, 8⟩
/-- BERM_STATUS [23:16] EXHAUSTED, RO, reset 0 (R575, Table 17.4). -/
def BERM_STATUS_EXHAUSTED : Fld := ⟨0x1200000, 16, 8⟩
/-- BERM_STATUS [15:8] LOW, RO, reset 0 (R575, Table 17.4). -/
def BERM_STATUS_LOW : Fld := ⟨0x1200000, 8, 8⟩
/-- BERM_STATUS [7:0] RECORDS, RO, reset 176 (R575, Table 17.4). -/
def BERM_STATUS_RECORDS : Fld := ⟨0x1200000, 0, 8⟩
/-- BERM_TEMPER [17:17] HIDING, RO, reset 0 (R575, Table 17.4). -/
def BERM_TEMPER_HIDING : Fld := ⟨0x1200004, 17, 1⟩
/-- BERM_TEMPER [16:16] ADOPTED, RO, reset config (R575, Table 17.4). -/
def BERM_TEMPER_ADOPTED : Fld := ⟨0x1200004, 16, 1⟩
/-- BERM_TEMPER [15:0] TEMPER, RO, reset config (R575, Table 17.4). -/
def BERM_TEMPER_TEMPER : Fld := ⟨0x1200004, 0, 16⟩
/-- BERM_COMMIT [31:0] SGEN, RO, reset config (R575, Table 17.4). -/
def BERM_COMMIT_SGEN : Fld := ⟨0x1200008, 0, 32⟩
/-- BERM_RECORD [31:0] RECORD, RO, reset config (R575, Table 17.4, i below 176, j below 8). -/
def BERM_RECORD_RECORD (i j : Nat) : Fld := ⟨0x1201000 + 0x20 * i + 0x4 * j, 0, 32⟩

end F

end Sys2Proof.Machine
end

