-- ==== Sys2Proof/Machine/State.lean ====
section
/-! DEFINITION. The state of the controller as plain data: its register file, its memory, the records it keeps per line,
page, region, queue, link, slot and path, the fault collector, and the queue of commands waiting. -/

namespace Sys2Proof.Machine

/-- The twelve modes of Table 0.5, and OFF, which is a state and not a mode (R6). -/
inductive Mode where
  | dormant | watch | ramp | bringup | restore | solo | paired | resync | takeover | drain | save | quarantine | off
  deriving DecidableEq, Repr

/-- The mode number of Table 0.5; 15 stands for OFF in event records (R549). -/
def Mode.num : Mode → Nat
  | .dormant => 0 | .watch => 1 | .ramp => 2 | .bringup => 3 | .restore => 4 | .solo => 5 | .paired => 6
  | .resync => 7 | .takeover => 8 | .drain => 9 | .save => 10 | .quarantine => 11 | .off => 15

/-- Where a request to memory comes from: the paths of Table 1.3 and Table 6.2. -/
inductive Src where
  | cxl (link ld tag : Nat)
  | rdma (qp psn : Nat)
  | op (q seq : Nat)
  | guest (port tag : Nat)
  | hub
  deriving DecidableEq, Repr

/-- The state a line carries through every tier (Table 9.2), its dirtiness (R43) and its mirroring (R21). `pend` is the
mirror SEQ of the newest frame that carries the line, 0 when none is outstanding; `ver`
is the highest entry version applied to a line of the partner's side (R413). -/
structure LineMeta where
  gen : Nat := 0
  poison : Bool := false
  psrc : Nat := 0
  rotated : Bool := false
  repaired : Bool := false
  restored : Bool := false
  dirty : Bool := false
  pend : Nat := 0
  ver : Nat := 0
  deriving DecidableEq, Repr

/-- A front-cache line (R203, R204): the way it occupies, its re-reference value and FRONT_DIRTY. -/
structure FrontLine where
  valid : Bool := false
  way : Nat := 0
  rrpv : Nat := 0
  frontDirty : Bool := false
  deriving DecidableEq, Repr

/-- A write to one line as it is presented to its home agent: whole when every byte is enabled. `tenant` and `readOnly` are
what its binding gave it at ingress (R91), `entered` the cycle in which it entered the hub; `atomic` makes it an 8-byte atomic
(swap, add or swap value, compare value, address; R145); `sram`: the front-cache SRAM reports the line uncorrectable (R208);
`sampled` and `wake` what the tracer holds for it, `windowHeld` whether the mirror window held it (R218). -/
structure WriteReq where
  src : Src
  tenant : Nat
  line : Nat
  mask : BitVec 256
  data : LineData
  poison : Bool
  readOnly : Bool
  entered : Nat
  atomic : Option (Bool × Nat × Nat × Nat) := none
  sram : Bool := false
  sampled : Bool := false
  wake : Nat := 0
  windowHeld : Bool := false
  epoch : Nat := 0
  deriving DecidableEq, Repr

/-- A read within one line as it is presented to its home agent, in the manner of `WriteReq`. -/
structure ReadReq where
  src : Src
  tenant : Nat
  addr : Nat
  len : Nat
  entered : Nat
  sram : Bool := false
  sampled : Bool := false
  wake : Nat := 0
  deriving DecidableEq, Repr

/-- A request held at home-agent ingress (R201). -/
inductive Request where
  | write (w : WriteReq)
  | read (r : ReadReq)
  deriving DecidableEq, Repr

/-- An accepted write whose entry or completion is outstanding (R18, R202, R210): `twin` is the completion point fixed at
acceptance (R26), `seq` its mirror frame (0: none), `verify` whether it still waits for the merge of R19, `done20` whether
the 20 fc and the read-back are past, `suspended` whether it was accepted into a TWIN_COMPLETE region while that was suspended
(R24), `repeats` how often its read-back was repeated, `sampled`, `wake`, `arb` and `hold` what the tracer holds for it: the cycles of the
wake, at ingress, and of a mirror-window hold. -/
structure WriteRec where
  id : Nat
  src : Src
  line : Nat
  twin : Bool
  seq : Nat
  verify : Bool
  done20 : Bool
  whole : Bool
  accepted : Nat
  suspended : Bool
  sampled : Bool
  wake : Nat
  arb : Nat
  hold : Nat
  repeats : Nat
  deriving DecidableEq, Repr

/-- A read taken and not yet answered: the first byte, the length in bytes, when it was taken, and whether it missed the front cache
and waits for its line, or waits for twin durability (R22); `sampled`, `wake` and `arb` are the tracer's, `hazard` whether queued
writes of its line had yet to merge (R211). -/
structure ReadRec where
  id : Nat
  src : Src
  addr : Nat
  len : Nat
  taken : Nat
  missed : Bool
  sampled : Bool
  wake : Nat
  arb : Nat
  hazard : Bool
  deriving DecidableEq, Repr

/-- A region record (Tables 2.2 to 2.4). STATE 0: FREE; 1: ATTACHED; 2: DETACHING. -/
structure Region where
  state : Nat := 0
  readOnly : Bool := false
  twinComplete : Bool := false
  policy : Nat := 0
  sizeM1 : Nat := 0
  baseSlot : Nat := 0
  tenant : Nat := 0
  prevGen : Nat := 0
  keyGen : Nat := 0
  nonce : Nat := 0
  guestGranted : Bool := false
  rotating : Bool := false
  stallCeil : Nat := 0
  label : Nat := 0
  deriving DecidableEq, Repr

/-- A host event record (Tables 3.10 and 3.11); `dram` is the channel, rank, bank group, bank, row and column of a DRAM
record (R130). -/
structure HostRec where
  cause : Nat
  source : Nat
  region : Nat
  tenant : Nat
  value : Nat
  dpa : Option Nat
  dram : List Nat
  onWrite : Bool
  stamp : Nat
  handle : Nat
  deriving DecidableEq, Repr

/-- One host event log: at most 256 records, and the overflow count (R129). -/
structure HostLog where
  recs : List HostRec := []
  overflow : Nat := 0
  deriving DecidableEq, Repr

/-- A committed HDM decoder (R110). -/
structure Hdm where
  base : Nat := 0
  size : Nat := 0
  skip : Nat := 0
  ways : Nat := 0
  gran : Nat := 0
  committed : Bool := false
  locked : Bool := false
  notCommitted : Bool := false
  deriving DecidableEq, Repr

/-- A logical device: its four host event logs, the record buckets of R129 for the causes ACCESS_REFUSED and STALL_CEILING
(records used, and when the bucket was last refilled), interrupt policy, timestamp, HDM decoders, power state, Scan Media
in progress and its results, configuration space written since reset, the next record handle, and the pending Global
Persistent Flush phase 2 (the covered mirror SEQ and its start) and Set LSA (its mirror SEQ); and of the MSI-X table and pending-bit array
(Table 3.3) the vectors masked and those pending. -/
structure LdState where
  logs : List HostLog := [{}, {}, {}, {}]
  accUsed : Nat := 0
  accAt : Nat := 0
  stallUsed : Nat := 0
  stallAt : Nat := 0
  irqPolicy : Nat := 0
  timestamp : Nat := 0
  stampAt : Nat := 0
  stampSet : Bool := false
  hdm : Sparse Hdm := []
  d3hot : Bool := false
  scan : Option (Nat × Nat) := none
  scanResults : List Nat := []
  scanDone : Bool := false
  handle : Nat := 0
  gpf : Option (Nat × Nat) := none
  lsaWait : Nat := 0
  msixMask : List Nat := []
  msixPend : List Nat := []
  deriving DecidableEq, Repr

/-- A CXL link: the configuration in effect since its port last returned to service, its lanes among it (R103), the IDE key sets installed, the lines of the unverified MAC epoch with the logical device that
wrote each (R118), the number of that epoch, the writes its port holds for epoch room, and when it replayed in the last second. -/
structure CxlLink where
  present : Bool := false
  lanes : Nat := 0
  ldBase : Nat := 0
  ldCount : Nat := 0
  ideRequired : Bool := false
  ideKeys : Nat := 0
  epoch : List (Nat × Nat) := []
  epochNo : Nat := 1
  held : List WriteReq := []
  replays : List Nat := []
  deriving DecidableEq, Repr

/-- A CXL port: the times of its recent link-down events (R126), and whether its configuration space is loaded (R120). -/
structure CxlPort where
  downs : List Nat := []
  cfgLoaded : Bool := false
  deriving DecidableEq, Repr

/-- A completion record or notice (Table 5.8). PHASE follows from the slot. `parts`: the descriptors it answers (R150). -/
structure CompRec where
  seq : Nat
  horizon : Nat
  status : Nat
  detail : Nat
  opcode : Nat
  notice : Bool
  duplicate : Bool
  lost : Bool
  ext : List Nat
  resultA : Nat
  resultB : Nat
  irq : Bool
  parts : Nat := 1
  deriving DecidableEq, Repr

/-- Where an operation stands. `assembling`: its parts are not all fetched; `ready`: fetched and not started; `held`: by a
hazard (R180); `running`; `finishing`: its work is done and its record waits for twin durability or a key-store update;
`relayed`: sent to the guest or to the Reeve. -/
inductive OpPhase where
  | assembling | ready | held | running | finishing | relayed
  deriving DecidableEq, Repr

/-- A fetched operation without its completion: the head descriptor, the payloads of its parts, and its progress. `cover` is
the mirror SEQ that a PERSIST waits for (R27), `mseq` the highest mirror SEQ of its writes, `wait` the mirror SEQ its
completion waits for, `fin` the result it completes with then, `since` when it was fetched, `waited` whether it wrote to a
line whose TWIN_COMPLETE was suspended, `stalled` whether PERSIST_STALLED was raised for it,
`got` what the source lines of a COPY gave that its next destination line needs (line, status, value), `awaits` the operations whose
completion an ABORT in QUEUE mode waits for: `done` counts those that completed ABORTED (R187). -/
structure OpRec where
  seq : Nat
  desc : BitVec 512
  parts : Nat
  payload : List Nat
  phase : OpPhase
  done : Nat
  cover : Nat
  mseq : Nat
  wait : Nat
  fin : Option (Nat × Nat × Nat × Nat)
  since : Nat
  stalled : Bool
  suspended : Bool
  duplicate : Bool
  got : List (Nat × Nat × LineData) := []
  awaits : List Nat := []
  deriving DecidableEq, Repr

/-- A queue: a ring pair or a command queue pair (R163). `expected`: the next SEQ to fetch; `fetched`: the newest fetched;
`asked`: the newest a fetch read was issued for; `written`: records written; `prefix_`: every descriptor up to it has
completed; `horizon`: as completion records carry it; `hSent` and `hFrames`: the newest horizon sent to the twin and the
frames that carry horizons; `doneSeqs`: completed descriptors (SEQ, parts, mirror SEQ) above `hSent` or above `prefix_`; `recPrefix`: every
record up to it has been written; `heldRecs`: records held by ORDERED; `aborts`: the descriptors to abort when fetched;
`behind`: descriptors held in the receive path of a command queue pair; `out`: records ready for a completion SEND;
`holdoff`: when the interrupt hold-off of vectors 5 and 6 ends, and whether more was written meanwhile; `limitAt`: when the
last SLUICE_START notice was written; `pkey` and `gid` of a command queue pair; `incarnation` rises by 1 at each creation of
the queue number (R429). STATE as in RING_STATUS. -/
structure Queue where
  state : Nat := 0
  incarnation : Nat := 0
  stopCause : Nat := 0
  tenant : Nat := 0
  ordered : Bool := false
  expected : Nat := 1
  fetched : Nat := 0
  asked : Nat := 0
  sqTail : Nat := 0
  cqHead : Nat := 0
  written : Nat := 0
  completions : Nat := 0
  prefix_ : Nat := 0
  horizon : Nat := 0
  hSent : Nat := 0
  hFrames : List (Nat × Nat) := []
  scope : Nat := 0
  ops : List OpRec := []
  doneSeqs : List (Nat × Nat × Nat) := []
  recPrefix : Nat := 0
  heldRecs : List (Nat × CompRec) := []
  aborts : List Nat := []
  behind : List (BitVec 512) := []
  out : List CompRec := []
  lost : Bool := false
  takeover : Option Nat := none
  takeoverSide : Nat := 0
  reissued : Nat := 0
  lastFetch : Nat := 0
  hold5 : Nat := 0
  more5 : Bool := false
  hold6 : Nat := 0
  more6 : Bool := false
  pkey : Nat := 0
  gid : Nat := 0
  fullRaised : Bool := false
  limitAt : Nat := 0
  deriving DecidableEq, Repr

/-- A partial write that waits in its queue entry for its line (R205, R315): whether the line was poisoned when the write
was accepted, whether a whole-line write has been accepted behind it (R317), the bytes it writes, whether the line was dirty
before it, and whether it was not live then: the write then merges into zeros (R82). -/
structure MergeRec where
  src : Src
  line : Nat
  poisoned : Bool
  replaced : Bool
  mask : BitVec 256
  data : LineData
  dirty : Bool
  dead : Bool
  deriving DecidableEq, Repr

/-- The front path beyond its registers: the remap's logical home agent, target slice and source slice, and whether its target passed BIST, slices under
self-test after leaving service, the tracer's request count, and the cycle of the last epoch boundary. -/
structure Front where
  remapHome : Nat := 0
  remapTarget : Nat := 0
  remapSource : Nat := 0
  remapReady : Bool := false
  afterService : List Nat := []
  sampleCount : Nat := 0
  epochs : Nat := 0
  deriving DecidableEq, Repr

/-- A page of a region (R227). STATE 0: ABSENT; 1: FILLING; 2: CLEAN; 3: DIRTY; 4: CAPTURING. `wrote`: a write was accepted
during FILLING; `redirty`: the lines with a REDIRTY mark (R238); `oldest`: when the page's oldest dirty line became dirty;
`redirty` marks in acceptance order. -/
structure Page where
  st : Nat := 0
  wrote : Bool := false
  redirty : List Nat := []
  oldest : Nat := 0
  deriving DecidableEq, Repr

/-- A queued fill: the page, its priority class of R230, whether it was issued to the deep tier, and the stream it is for (its number + 1;
0: none). -/
structure FillReq where
  page : Nat
  prio : Nat
  issued : Bool
  stream : Nat
  deriving DecidableEq, Repr

/-- An extent record (R223), beyond the masks its pages give: the number of the frame the extent holds (R351), its ACCESS and PIN bits,
its window references, its place in the order of releases (0: not released) and whether it was chosen for eviction. -/
structure Extent where
  frame : Option Nat := none
  access : Bool := false
  pin : Bool := false
  windows : Nat := 0
  released : Nat := 0
  evict : Bool := false
  deriving DecidableEq, Repr

/-- A translation entry (Table 7.9). STATE 0: UNMAPPED; 1: MAPPED; 2: LOST. -/
structure Trans where
  st : Nat := 0
  deep : Nat := 0
  deriving DecidableEq, Repr

/-- A journal entry (Table 7.11): the page or table page, KIND, the new entry or location, and when it was made. -/
structure JEntry where
  addr : Nat
  kind : Nat
  value : Nat
  at_ : Nat
  deriving DecidableEq, Repr

/-- A written journal block (Table 7.10). -/
structure JBlock where
  jseq : Nat
  entries : List JEntry
  deriving DecidableEq, Repr

/-- A stripe block (R255 to R257), under its die × 2^14 + logical block. STATE 0: free; 1: open for write-back; 2: open for
collected data; 3: full; 4: queued for relocation; 5: retired; 6: its valid pages moved, to be erased. `next` counts the
data pages programmed since its erase. -/
structure Block where
  st : Nat := 0
  erase : Nat := 0
  reads : Nat := 0
  lastProgram : Nat := 0
  next : Nat := 0
  suspect : Bool := false
  deriving DecidableEq, Repr

/-- A stream (R240 to R247). STATE 0: none; 1: FILLING; 2: WINDOW; 3: FALLBACK; 4: ENDED. `entries` is the copied list, which
lies in the items `items` of the list store; `missRun` and `residentRun` are the runs of R244; `changed` and `wroteAt` govern the
status block (R246); `queue` and `seq` name its STREAM_DECLARE. -/
structure Stream where
  st : Nat := 0
  incarnation : Nat := 0
  region : Nat := 0
  entries : List Nat := []
  wrap : Bool := false
  window : Nat := 0
  pos : Nat := 0
  cause : Nat := 0
  misses : Nat := 0
  missRun : Nat := 0
  residentRun : Nat := 0
  fallbacks : Nat := 0
  laps : Nat := 0
  updates : Nat := 0
  listAddr : Nat := 0
  queue : Nat := 0
  seq : Nat := 0
  changed : Bool := false
  wroteAt : Nat := 0
  items : List Nat := []
  deriving DecidableEq, Repr

/-- A capture in progress (R238): the page, the mem image taken, and the lines it clears. -/
structure Capture where
  page : Nat
  cells : List Host.Cell
  metas : Sparse LineMeta
  deriving DecidableEq, Repr

/-- The Culvert beyond its registers: `spareArea` what the spare area of each programmed deep-tier page carries, its page's pair address and the journal block sequence number of its write (R252); `lastStream` the stream that had the last turn (its number + 1; R230); `unframed` the pinned regions that lack frames (R225); `evicting` while free frames climb from EVICT_LOW_PERMIL to EVICT_HIGH_PERMIL (R235);
`slots` the slot map, table slots by side × 2^18 + SLOT, one above their number; `tableDirty` the first change each table page
does not hold, `tableAt` where each lies on the deep tier, both one above their value;
`durTrans` and `durTables` are what the deep tier's journal blocks and table pages give of translation and table pages (R254,
R296). -/
structure Culvert where
  xmc : List Nat := []
  pages : Sparse Page := []
  fills : List FillReq := []
  extents : Sparse Extent := []
  releases : Nat := 0
  trans : Sparse Trans := []
  slots : Sparse Nat := []
  jseq : Nat := 1
  jpend : List JEntry := []
  jblocks : List JBlock := []
  tableDirty : Sparse Nat := []
  tableAt : Sparse Nat := []
  durTrans : Sparse Trans := []
  durTables : Sparse Nat := []
  blocks : Sparse Block := []
  evicting : Bool := false
  captures : List Capture := []
  streams : Sparse Stream := []
  spareArea : Sparse (Nat × Nat) := []
  hand : Nat := 0
  nextChannel : Nat := 0
  pinRegions : List Nat := []
  lastStream : Nat := 0
  unframed : List Nat := []
  deriving DecidableEq, Repr

/-- The entry of a tenant in the key store (Table 9.7). -/
structure TenantKeys where
  st : Nat := 0
  current : Nat := 0
  floor : Nat := 0
  master0 : Nat := 0
  master1 : Nat := 0
  deriving DecidableEq, Repr

/-- A generation entry of the key store (Table 9.7). -/
structure GenKeys where
  side : Nat
  gen : Nat
  tenant : Nat
  midx : Nat
  salt : Nat
  deriving DecidableEq, Repr

/-- The content of a key-store slot. -/
structure KeyBody where
  tenants : Sparse TenantKeys := []
  gens : List GenKeys := []
  deriving DecidableEq, Repr

/-- A key-store slot (Tables 9.7 and 9.8): whether its commit record verifies, its SGEN, its body and its NONCE. -/
structure KeySlot where
  ok : Bool := false
  sgen : Nat := 0
  body : KeyBody := {}
  nonce : Nat := 0
  deriving DecidableEq, Repr

/-- A change of the key store (R331, R335 to R341, R415). -/
inductive KeyChange where
  | addGen (g : GenKeys)
  | dropGen (side gen : Nat)
  | setMaster (tenant midx serial master : Nat)
  | dropMaster (tenant midx : Nat)
  | dropTenant (tenant : Nat)
  deriving DecidableEq, Repr

/-- What waits for a key-store update in force (R333): an operation of a queue goes on; a rotation of a region starts with its
new generation, for an operation; a KEY_PROVISION of a tenant ends; the keys of a region or a tenant are gone (R341); a
rotation ends (R339); the twin is told that its KEY frame is in force. -/
inductive KeyWait where
  | op (q seq : Nat)
  | rotate (q seq region gen : Nat)
  | provision (q seq tenant : Nat)
  | erased (region : Nat)
  | rotated (region : Nat)
  | tenantErased (tenant : Nat)
  | twin (seq : Nat)
  deriving DecidableEq, Repr

/-- The key store in the Reeve (R330 to R333): the two slots; the changes collected, what waits for them with the SEQ of its
KEY frame (0: none) and whether one of them destroys a key; the update that runs, its content, the passes left, the changes it makes, whether
one of them destroys a key, and what it
ends; what is in force here and waits for the twin's KEY_COMMITTED; the highest SEQ so reported; and for each
ephemeral key of a blob the IV last used with the wrapping key it gives (Table 9.5). -/
structure KeyStore where
  a : KeySlot := { ok := true }
  b : KeySlot := {}
  pendingChanges : List KeyChange := []
  pendingWaits : List (Nat × KeyWait) := []
  destroys : Bool := false
  running : Bool := false
  content : KeyBody := {}
  passes : Nat := 0
  current : List KeyChange := []
  twice : Bool := false
  waits : List (Nat × KeyWait) := []
  twinWaits : List (Nat × KeyWait) := []
  committed : Nat := 0
  lastIvs : List (Nat × Nat) := []
  deriving DecidableEq, Repr

/-- A key slot's word: the two shares of its 768 bits of key material, K1 in the low bits (R323). -/
structure KeyShares where
  a : Nat := 0
  b : Nat := 0
  deriving DecidableEq, Repr

/-- Lines and crypto beyond the registers: the key material of the slots as two shares, the mask of the latest line operation (R323), the key caches of the physical pipelines
(generations as SIDE × 2^32 + KEY_GEN, newest first), the pipeline remap's target-ready mark, its source, logical pipeline and target, pipelines under
self-test after leaving service, and the words a flip mask has corrupted (set, and how many bits);
`asleep`: the physical pipelines asleep; `sharing`: the logical pipelines that
share a pipeline for want of a spare (R324); `ksLoading`: the slot a LOAD in progress makes VALID. -/
structure Crypto where
  asleep : List Nat := []
  slotKeys : Sparse KeyShares := []
  lineMask : Nat := 0
  caches : Sparse (List Nat) := []
  remapReady : Bool := false
  remapSource : Nat := 0
  remapHome : Nat := 0
  remapTarget : Nat := 0
  afterService : List Nat := []
  waking : List Nat := []
  flipped : Sparse Nat := []
  sharing : List Nat := []
  ksLoading : Option Nat := none
  deriving DecidableEq, Repr

/-- An access of one 256 B line in a channel's queue (R357): its number in the order of arrival, the line, its bank over all channels and its
row, and when it came. -/
structure DramReq where
  id : Nat
  line : Nat
  bank : Nat
  row : Nat
  at_ : Nat
  deriving DecidableEq, Repr

/-- The DRAM channels beyond their registers: the read and write queues of each channel, the row open in each bank (one above its number), the
activates counted of each bank since its last Refresh Management, the channels in a write drain, and the number of the next access (R357); the power state of each logical rank (channel × 8 + rank; 0 awake, 1 precharge
power-down, 2 self-refresh); the reads of lines that ECC has corrected since reset (R128); the save power of each channel's modules as it counts in P_save and as the modules declare it, and the channels that wait to return until it fits (R263, R349); the
serial recorded at each position, channel × 2 + DIMM, one above its value, and its logical ranks; sensor reads failed in a row, by position; the channels that refresh at
half the interval and those held to few activates (R350); the rows in which a device showed corrected symbols, the decodes that
succeeded only with a device erased, the corrected codewords of rows and the uncorrectable ones of channels, each with its operating
second (R362, R365, R367), and the last REMAP_EXHAUSTED of a channel; the reserved page slots below a channel's first frame (R353);
of a drain, the reserved pages left, the frames they took on other channels, and the extents being moved, with their new frame
and the pages that lie there (R368); and the channels whose patrol pass is done. -/
structure Dram where
  ranks : Sparse Nat := []
  corrected : Nat := 0
  saveW : Sparse Nat := []
  watts : Sparse Nat := []
  waiting : List Nat := []
  serials : Sparse Nat := []
  dimmRanks : Sparse Nat := []
  tempFails : Sparse Nat := []
  doubled : List Nat := []
  limited : List Nat := []
  devRows : List (Nat × Nat × Nat) := []
  erasedHits : List (Nat × Nat) := []
  rowCes : List (Nat × Nat) := []
  uces : List (Nat × Nat) := []
  exhausted : Sparse Nat := []
  base : Sparse Nat := []
  reservedLeft : Sparse Nat := []
  reservedFrames : List Nat := []
  moving : Sparse (Nat × List Nat) := []
  patrolDone : List Nat := []
  readQ : Sparse (List DramReq) := []
  writeQ : Sparse (List DramReq) := []
  openRows : Sparse Nat := []
  acts : Sparse Nat := []
  draining : List Nat := []
  nextReq : Nat := 0
  deriving DecidableEq, Repr

/-- The flash members beyond their registers (R388 to R405). The group record (R393): whether a group is formed, the class (bytes
64 to 127 of its members' identity records), the serial of each position's member and the positions shown FAILED. Each slot's
identity record, its 4,096 bytes as one number. Spare blocks used, by slot × 32 + die. Pages whose program failed. Distinct
blocks with uncorrectable codewords (slot, stripe block, operating second). The rebuild: the stripe blocks left in this pass
and in the pass of the position that joined, the next stripe, and how many blocks it began with. Slots whose power-up
waits for the dirty bytes (R263), and slots POWERING as taken spares. Pages awaiting repair from the twin: an ID, the page and
when it was asked for. The patrol: stripe blocks and stripe left, and when the pass began. Failed sensor reads in a row.
The positions the group record shows REBUILDING, the one that joined last, the stripe blocks left in the two passes as the rebuild cursor was
last recorded, and how many have been done since (R400).
The label of this group read on each slot's module, its position plus one. The erases of each member's blocks, by slot × 2^19 + stripe
block. The lines double parity has repaired since the reset (Table 3.9). -/
structure Flash where
  formed : Bool := false
  cls : Nat := 0
  serials : Sparse Nat := []
  failedPos : List Nat := []
  records : Sparse Nat := []
  sparesUsed : Sparse Nat := []
  badPages : List Nat := []
  uce : List (Nat × Nat × Nat) := []
  rbLeft : List Nat := []
  rbLater : List Nat := []
  rbStripe : Nat := 0
  rbTotal : Nat := 0
  rbPos : List Nat := []
  rbNoted : List Nat × List Nat := ([], [])
  rbSince : Nat := 0
  waiting : List Nat := []
  taken : List Nat := []
  repairs : List (Nat × Nat × Nat) := []
  nextRepair : Nat := 1
  patrolLeft : List Nat := []
  patrolStripe : Nat := 0
  patrolAt : Nat := 0
  tempFails : Sparse Nat := []
  clocksStopped : List Nat := []
  labels : Sparse Nat := []
  erases : Sparse Nat := []
  repairedLines : Nat := 0
  deriving DecidableEq, Repr

/-- A Causeway path beyond its registers: the times of its entries into DOWN and of its authentication failures, and whether it waits
1 s before it trains again (R409). -/
structure CwPath where
  downs : List Nat := []
  auths : List Nat := []
  retry : Bool := false
  deriving DecidableEq, Repr

/-- The Causeway beyond its registers: the mirror frames without an acknowledgement, oldest first; the SEQ up to which
frames have been sent and the line entries sent and allowed (R416); whether a link key is in force, its KEY_EPOCH, and
whether frames under the previous one are accepted, the key and the previous one, and the NONCE and ephemeral private key of the
present HELLO exchange (R418); the frames received and not delivered; the RECORD, TEMPER_SET and
UNPAIR frames not yet committed, sent (with the operation that waits) and received (R417); the SEQ named in a NAK; a HELLO
exchange under way, and whether the partner's HELLO of it has come; the line entries held in the inbound buffers; the extents set in the changed-extent map and its MAP_BASE
(R437); what the partner's CONTROL frames show; the extents still to copy to a receiver, and whether a copy is received
(R438); the partner's horizons by QUEUE_ID; the pair record beyond its registers (R419); the permissions of PAIR_ALLOW_NEW
and REPLACE_ALLOW; and where a drain or a handback stands (R435, R439; 0: none; 1: quiescing; 2: released), with the SEQ of the
DRAIN_BEGIN frame, whether requests are withheld for the cutover, and whether only the partner's side is held. `fences`: the causes of
Table 12.11 that stand; `twinHad`: twin contact has been held since BRINGUP; `partnerDrain`: DRAIN_BEGIN has been received; `partnerDone`:
CATCHUP_DONE has been received; `peer`: what the partner's HELLO said of its copy (whether all of it must be copied, UNSEALED, MAP_VALID,
MAP_BASE and the extents of its map); `copySeqs`: the RECORD frames of a catch-up not yet committed; `repairsDue`: REPAIR_REQs to serve;
`leaving`: this controller writes its dirty lines back before BRINGUP (R425); `creditAt`: when credits were last granted;
`twinAt`: when the last twin frame came; `partnerTemperMax`: TEMPER_MAX of the partner's HELLO; `mirrorDue`: the lines whose change of state waits for room in the mirror
window (R21). -/
structure Causeway where
  unacked : List (Nat × CwBody) := []
  sentUpTo : Nat := 0
  sentLines : Nat := 0
  creditLines : Nat := 0
  linkKey : Bool := false
  keyEpoch : Nat := 0
  oldEpoch : Bool := false
  key : Nat := 0
  oldKey : Nat := 0
  nonce : Nat := 0
  eph : Nat := 0
  held : List (Nat × CwBody) := []
  txStaged : List (Nat × CwBody × Option (Nat × Nat)) := []
  rxStaged : List (Nat × CwBody) := []
  nak : Nat := 0
  hello : Bool := false
  helloHeard : Bool := false
  paths : Sparse CwPath := []
  inbound : Nat := 0
  granted : Nat := 0
  mapSet : List Nat := []
  mapBase : Nat := 0
  partnerMode : Nat := 0
  partnerFenced : Bool := false
  partnerServing : Bool := false
  partnerReady : Bool := false
  partnerMeff : Nat := 0
  partnerEpoch : Nat := 0
  copyLeft : List Nat := []
  copyDone : Bool := false
  doneSeq : Nat := 0
  receiving : Bool := false
  rxHorizons : Sparse Nat := []
  paired : Bool := false
  partnerSerial : Nat := 0
  ownAuth : Bool := false
  partnerAuth : Bool := false
  partnerMirror : Bool := false
  groupId : Nat := 0
  unsealed : Bool := false
  allowNew : Bool := false
  allowReplace : Bool := false
  cutover : Nat := 0
  withheld : Bool := false
  sideFence : Bool := false
  drainSeq : Nat := 0
  fences : List Nat := []
  twinHad : Bool := false
  partnerDrain : Bool := false
  partnerDone : Bool := false
  peerFull : Bool := false
  peerUnsealed : Bool := false
  peerMapValid : Bool := false
  peerMapBase : Nat := 0
  peerMap : List Nat := []
  copySeqs : List Nat := []
  repairsDue : List (Nat × Nat) := []
  leaving : Bool := false
  creditAt : Nat := 0
  twinAt : Nat := 0
  partnerTemperMax : Nat := 0
  mirrorDue : List Nat := []
  deriving DecidableEq, Repr

/-- The witness link (R420 to R423): the sessions and counters both ways, the REASON of the request that stands (0: none) and
the side it asks for, and the COUNTER of its latest TAKEOVER_REQ; the frames sent of late with their times; whether the session has
been drawn, contact has been held since BRINGUP, and when a valid frame last came. -/
structure Witness where
  mySession : Nat := 0
  myCounter : Nat := 0
  session : Nat := 0
  counter : Nat := 0
  reason : Nat := 0
  reqSide : Nat := 0
  reqCounter : Nat := 0
  sent : List (Nat × Nat) := []
  started : Bool := false
  had : Bool := false
  heardAt : Nat := 0
  deriving DecidableEq, Repr

/-- A record of the Berm (R565, R566): what Table 17.2 holds, the draws and returns of the present bucket, and those of the
last complete buckets, newest first. `forecast` is none where no forecast stands. -/
structure BermRec where
  valid : Bool := false
  low : Bool := false
  exhausted : Bool := false
  historyLost : Bool := false
  total : Nat := 0
  remaining : Nat := 0
  drawn : Nat := 0
  returned : Nat := 0
  forecast : Option Nat := none
  lastDraw : Nat := 0
  now_ : Nat × Nat := (0, 0)
  past : List (Nat × Nat) := []
  deriving DecidableEq, Repr

/-- A committed Berm slot of Table 14.2. -/
structure BermSlot where
  ok : Bool := false
  sgen : Nat := 0
  recs : Sparse BermRec := []
  deriving DecidableEq, Repr

/-- The Berm (R562 to R567): the records by number, the two slots and which is in force, whether a draw or return waits for a
commit, the equivalent hours of the LIFE pool that are below one hour, in units of 10⁻⁶ h ÷ 3,600. -/
structure Berm where
  recs : Sparse BermRec := []
  a : BermSlot := {}
  b : BermSlot := {}
  active : Nat := 0
  dirty : Bool := false
  lifeAcc : Nat := 0
  deriving DecidableEq, Repr

/-- A message to the guest chiplet (Table 13.6). `data` is DATA_LINE when `line`, else DATA_GRAN. -/
inductive KMsg where
  | cmpOk (tag : Nat) (localOnly : Bool)
  | cmpErr (tag code : Nat)
  | regData (tag value : Nat)
  | data (tag : Nat) (line : Bool) (value : LineData)
  | regRd (tag off : Nat)
  | regWr (tag off value : Nat)
  | submit (handle tenant side queue : Nat) (desc : BitVec 512)
  | abort (handle : Nat)
  | revoked (grant : Nat)
  | echo (pattern : Nat)
  deriving DecidableEq, Repr

/-- A request of the guest that has not been answered: its module, its tag, and the grant and the handle it passed check 2 under (no
grant for a register request). -/
structure GuestReq where
  port : Nat
  tag : Nat
  grant : Option Nat
  handle : Nat
  deriving DecidableEq, Repr

/-- A GUEST operation past step 1 of R462: the queue and SEQ it was fetched from, its guest queue, its handle once GQ_SUBMIT is sent,
whether GQ_TAKEN has come and whether it is aborted, and the highest mirror SEQ of its writes. -/
structure GuestOp where
  q : Nat
  seq : Nat
  queue : Nat
  handle : Nat := 0
  sent : Bool := false
  taken : Bool := false
  aborted : Bool := false
  mseq : Nat := 0
  deriving DecidableEq, Repr

/-- An access of KG_GREG the guest has not answered (Table 13.12), for an agent or for a REG_READ message of the BMC (`mgmt`). -/
structure GuestAccess where
  agent : Agent
  off : Nat
  write : Bool
  tag : Nat
  mgmt : Bool := false
  deriving DecidableEq, Repr

/-- The guest site beyond its registers: the GUEST operations, the last handle assigned, the unanswered requests, the messages that wait
for a credit, oldest first, by guest module, and the credits left, by module × 4 + class (0: REQ; 1: WDAT; 2: CMP; 3: RDAT); where the
bring-up of Table 13.11 stands (0: not running; 1: supplies; 2: G_READY; 3: training; 4: record; 5: ECHO and scratch), and
whether it is the second run; the record words read, by tag; the ECHO answers counted and the pattern that waits for its answer, by
module; whether the guest has written and read GST_SCRATCH; the accesses of KG_GREG under way; the grants whose GRANT_REVOKED is sent;
the links that have trained before; when each link replayed in the last second; and the credits of the hub's own buffers that the guest's
messages have taken and the hub has not returned, by module × 4 + class (R452). -/
structure Guest where
  ops : List GuestOp := []
  lastHandle : Nat := 0
  reqs : List GuestReq := []
  held : List (Nat × KMsg) := []
  credits : Sparse Nat := []
  step : Nat := 0
  second : Bool := false
  words : Sparse (Option Nat) := []
  echoes : Sparse Nat := []
  pattern : Sparse (Option Nat) := []
  scratchWr : Bool := false
  scratchRd : Bool := false
  accesses : List GuestAccess := []
  revokeSent : List Nat := []
  trained : List Nat := []
  replays : Sparse (List Nat) := []
  taken : Sparse Nat := []
  deriving DecidableEq, Repr

/-- A bank of the embedded flash (R483, R484): where its command sequence stands (0: read mode; 1: after 0x4B; 2: after 0xB4; 3: operand
writes of `cmd`), the operand writes taken, and the program or erase under way: its first word, how many words, and the words programmed
(none: an erase). -/
structure FlashBank where
  step : Nat := 0
  cmd : Nat := 0
  operands : List (Nat × Nat) := []
  busy : Option (Nat × Nat × Option (List Nat)) := none
  deriving DecidableEq, Repr

/-- A PLDM firmware update (R497): where it stands (0: none; 1: requested; 2: component table passed; 3: transfer; 4: verified; 5: applied),
the component, its size, the bytes received, whether the last verification passed, whether an activation waits for a key-store update,
and whether firmware has been applied. -/
structure Update where
  st : Nat := 0
  comp : Nat := 0
  size : Nat := 0
  got : Nat := 0
  good : Bool := false
  activate : Bool := false
  fw : Bool := false
  deriving DecidableEq, Repr

/-- What the persistent state records of units that may be replaced (R216, R324, R387, R563): the slice of each logical home agent and the pipeline
of each logical pipeline, the retired slices and pipelines, the LDPC engines retired on the two flash tiles, the SRAM repairs in their order; the data lanes found
faulty on each Kerup link (R471); and whether one of
the state's two slots is valid (R80). -/
structure Units where
  haMap : List Nat := List.range 64
  haRetired : List Nat := []
  cpMap : List Nat := List.range 64
  cpRetired : List Nat := []
  ldpcRetired : Nat × Nat := (0, 0)
  sramRepairs : List SramRepair := []
  lanes : Sparse Nat := []
  valid : Bool := true
  deriving DecidableEq, Repr

/-- An SPDM session open (R498): its number, the transport it runs on, and whether FINISH has passed. -/
structure SpdmSession where
  id : Nat
  transport : Transport
  secured : Bool
  deriving DecidableEq, Repr

/-- The Reeve beyond its registers: what the part brought; the embedded flash's words (16 B each, none: erased) and its banks; the word a
flip mask has corrupted; what verifying each slot gave (0: firmware A; 1: firmware B; 2: configuration A; 3: configuration B); the boot
record of R492; the slot that runs; whether the recovery loader runs, and has run since the last boot of firmware; the configuration slot
applied (2, 3; 0: none) and the one tried first; a readout or group-reset arm with its challenge (1: LOWER; 2: FINAL; 3: GROUP_RESET); a lowering whose tenants
are being removed, and an erase that is not complete; whether JTAG holds a test mode; the endpoint ID; PLDM: the event receiver, the
sensors disabled, the events that wait; the update; the SPDM sessions open; the last session number; the
MGMT messages of mailboxes that wait for the Reeve; and the ADC: RANGED results in a row and results below 80 % of the next lower full
scale in a row, by channel; when the watchdog was last kicked; and the units of the persistent state. -/
structure Reeve where
  part : Part := ⟨0, 0, false, [], 0⟩
  words : Sparse (Option Nat) := []
  banks : Sparse FlashBank := []
  flipWord : Option Nat := none
  checks : Sparse SlotCheck := []
  active : Nat := 0
  trialSlot : Nat := 0
  trial : Bool := false
  trialStarted : Bool := false
  slot : Nat := 0
  recovery : Bool := false
  recovered : Bool := false
  config : Nat := 0
  cfgFirst : Nat := 2
  arm : Option (Nat × Nat) := none
  lowering : Bool := false
  erasing : Bool := false
  testMode : Bool := false
  eid : Nat := 0
  receiver : Option Nat := none
  sensorsOff : List Nat := []
  events : List Nat := []
  update : Update := {}
  sessions : List SpdmSession := []
  lastSession : Nat := 0
  mboxWait : List (Nat × Nat) := []
  ranged : Sparse Nat := []
  below : Sparse Nat := []
  kickAt : Nat := 0
  units : Units := {}
  deriving DecidableEq, Repr

/-- What an SPDM responder answers (R498, R499): `measurements` lists the blocks of Table 14.9a by index. -/
inductive SpdmReply where
  | version (vs : List Nat)
  | capabilities
  | algorithms
  | digests
  | certificate (off len : Nat)
  | challengeAuth
  | measurements (blocks : List (Nat × List Nat))
  | keyExchange (session : Nat)
  | busy
  | finish (session : Nat)
  | heartbeat (session : Nat)
  | ended (session : Nat)
  | error
  deriving DecidableEq, Repr

/-- An event entry of the collector (R520 to R522): the source, what was decided at its raise, its stamps and details, and
the latched snapshot when one was taken. -/
structure EvEntry where
  source : Nat
  severity : Nat
  cls : Nat
  taken : Nat
  escalated : Bool
  est : Bool
  seconds : Nat
  cycles : Nat
  detA : Nat
  detB : Nat
  snap : Option (List Nat)
  snapLate : Bool
  deriving DecidableEq, Repr

/-- A 32 B event record (Table 15.7). TYPE 0: EVENT; 1: SNAPSHOT; 2: LOSS. For a SNAPSHOT record `detB` holds
FIRST_CHANNEL and SNAP_LATE and `values` the five readings. -/
structure EvRec where
  seq : Nat
  kind : Nat
  source : Nat
  severity : Nat
  cls : Nat
  taken : Nat
  escalated : Bool
  est : Bool
  seconds : Nat
  cycles : Nat
  suppressed : Nat
  repeats : Nat
  detA : Nat
  detB : Nat
  values : List Nat
  slot : Nat
  deriving DecidableEq, Repr

/-- The fault collector and the event recorder beyond their registers: the conditions of level sources that persist, the
merges since each source's last record, the collector's queue and the always-on store, drop counts not yet reported, the
last raise of each limited source, the token buckets, the suppressed counts, the FAULT_N latch and its always-on causes,
the lines whose pending word waits for a Kerup link (line, link, pending bits with their values), the ring (`rewriteMark`: records lost with
a rewrite that was cut short), and the reactions still to be carried out. -/
structure Fc where
  cond : Sparse Nat := []
  repeats : Sparse Nat := []
  queue : List EvEntry := []
  aon : List EvEntry := []
  dropsSinceRoom : Nat := 0
  lostEntries : Nat := 0
  lostRecords : Nat := 0
  lostRewrite : Nat := 0
  depthCopy : Nat := 0
  limits : Sparse Nat := []
  tokensUsed : Sparse Nat := []
  suppressed : Sparse Nat := []
  latch : Bool := false
  latchOver : Bool := false
  regulatorCause : Bool := false
  wakeCause : Bool := false
  linePend : List (Nat × Nat × List (Nat × List Nat)) := []
  records : List EvRec := []
  nextSeq : Nat := 0
  slotsUsed : Nat := 0
  freeSlots : List Nat := []
  rewriteMark : Nat := 0
  due : List (Nat × Nat) := []
  deriving DecidableEq, Repr

/-- Power, clocks and temperature beyond the registers (R532 to R559). VAUX above 2.65 V; whether a regulator start is being
judged, and whether none has succeeded since VAUX rose; the mode number the next entry into DORMANT names as its old one;
whether the fuse map has been loaded; the straps AUTOWAKE and I3C_ADDR; whether AON_START_FAILED has been raised since VAUX
rose; the operating seconds in the persistent state; the configuration image that has been applied, by register field, and
whether one has; the ramp (1: up; 2: down; 3: waiting 100 ms for the second ramp-up), the rail it stands at (12: the PLLs),
whether that rail's power-good is asserted and how many conversions in a row lie in its window, and whether it is the second
attempt; what follows the ramp-down (0: WATCH; 1: the second ramp-up; 2: WAKE_FAILED; 3: SHUTDOWN_DONE); whether GO_WAIT was raised;
the rails that are lost, with 16 + p for a PLL p that failed, and the PLLs that are out of lock; whether PFAIL_N has been
deasserted for the hold-off; the operating second in which THERM_LATCH was set; the conversions in a row out of and inside a
limit, by channel and by 64 + channel; a moved target's old value in mV and until when it counts, by rail; a margin sent and
not acknowledged, by rail, and failed PMBus transactions in a row; whether a quarantine source was raised in SAVE; whether the RAMP command waits for −40 °C; whether the Reeve's firmware runs; and
whether a CHIP reaction was taken in SAVE; and whether the last BRINGUP's
BIST left the key-slot SRAM and the Reeve SRAM repaired (R563). -/
structure Power where
  vaux : Bool := false
  starting : Bool := false
  first : Bool := true
  from_ : Nat := 15
  fused : Bool := false
  autowake : Bool := false
  i3cAddr : Nat := 0
  retriesTold : Bool := false
  stored : Nat := 0
  config : Sparse Nat := []
  configOk : Bool := false
  bistOk : Bool := true
  ramp : Nat := 0
  rail : Nat := 0
  pg : Bool := false
  inWindow : Nat := 0
  second : Bool := false
  down : Nat := 0
  goTold : Bool := false
  lost : List Nat := []
  unlocked : List Nat := []
  holdoff : Bool := false
  latchAt : Nat := 0
  runs : Sparse Nat := []
  moved : Sparse (Nat × Nat) := []
  margins : Sparse Nat := []
  pmFails : Sparse Nat := []
  quarantineHeld : Bool := false
  coldWait : Bool := false
  firmware : Bool := false
  chipHeld : Bool := false
  deriving DecidableEq, Repr

/-- The status word a host or the BMC sees for a message (Table 5.10 numbers statuses of queue operations; mailbox
commands answer with CXL return codes). -/
inductive MboxCode where
  | success | invalidInput | unsupported | internal | retry | busy | mediaDisabled | background | invalidPhysical | injectLimit
  deriving DecidableEq, Repr

/-- What a queue pair's side of an Ethernet link sends (R137 to R151, R155): acknowledgements; NAKs with CODE 0: PSN sequence error, 1: invalid
request, 2: remote access error, 3: remote operational error, 4: RNR with a timer of 10.24 µs; READ responses with a packet's bytes; an
atomic's response; these and acknowledgements with a status of Table 5.10 (R24, R26, R52); a CNP; a completion SEND; connection-manager messages; an ARP or neighbour answer. -/
inductive RdmaMsg where
  | ack (qpn psn status : Nat)
  | nak (qpn psn code : Nat)
  | readResp (qpn psn : Nat) (bytes : List Byte)
  | atomicResp (qpn psn value status : Nat)
  | cnp (qpn : Nat)
  | send (qpn psn : Nat) (recs : List CompRec)
  | cmRep (qpn : Nat)
  | cmRej (code : Nat)
  | cmDrep (qpn : Nat)
  | addressReply (addr : Nat)
  deriving DecidableEq, Repr

/-- A frame to a host: the GID it goes to, the link that carried the request it answers, and the message. -/
structure EthOut where
  gid : Nat
  via : Nat
  msg : RdmaMsg
  deriving DecidableEq, Repr

/-- The DVSECs of a function (Table 3.3). -/
inductive Dvsec where
  | cxlDevice
  | gpf
  | flexBusPort
  | registerLocator
  deriving DecidableEq, Repr

/-- The DOE features of a function (Table 3.3). -/
inductive DoeFeature where
  | cdat
  | spdm
  | ideKm
  deriving DecidableEq, Repr

/-- The features of Table 3.1 a capability structure reports. -/
inductive CxlFeature where
  | cxlIo
  | cxlMem
  | cxlCache
  | flit256
  | flit68
  | backInvalidate
  | dynamicCapacity
  | multiHeaded
  | gfam
  | portBasedRouting
  | gpf
  | linkIde
  | secondaryMailbox
  | cxlReset
  | memClear
  deriving DecidableEq, Repr

/-- What a configuration request is answered with: request retry status (R120); the identity of Table 3.3, with the class
code (R111); the CDAT, one DSMAS entry over the window and one DSLBIS entry, latencies in ns and the bandwidth in GB/s
(R102); or the completion alone. -/
inductive CfgAnswer where
  | retry
  | identity (vendor device subsystem classCode : Nat)
  | resources (bars : List (Nat × Nat)) (msixVectors : Nat) (dvsecs : List Dvsec) (doe : List DoeFeature)
  | capabilities (hdmDecoders mailboxPayload : Nat) (supported notSupported : List CxlFeature)
  | gpf (phase2Us powerMw : Nat)
  | ide (skidOnly : Bool) (aggregationFlits : Nat) (selective : Bool)
  | cdat (bytes : Nat) (nonVolatile : Bool) (readNs writeNs gbPerS : Nat)
  | done
  deriving DecidableEq, Repr

/-- What the block sends out, oldest first in `State.out`: responses, records written to host memory, frames, pins. -/
inductive Output where
  | regData (agent : Agent) (off v : Nat)
  | regError (agent : Agent) (off : Nat)
  | cxlData (link ld tag : Nat) (poison : Bool) (data : Granule) (devload : Nat)
  | cxlCmp (link ld tag devload : Nat)
  | cfgCompletion (ld tag : Nat) (answer : CfgAnswer)
  | gpfAck (ld phase : Nat)
  | mailbox (ld : Nat) (code : MboxCode) (payload : List Nat)
  | hostRecord (ld log : Nat) (r : HostRec)
  | msix (ld vector : Nat)
  | fmApi (link : Nat) (ok : Bool) (payload : List Nat)
  | pfc (port prio : Nat) (xoff : Bool)
  | cwFrame (seq : Nat) (body : CwBody)
  | cqRecord (q slot : Nat) (phase : Bool) (r : CompRec)
  | sqHead (q seq : Nat)
  | asleep (q : Nat) (v : Bool)
  | readControl (q : Nat)
  | fetchRead (q first count : Nat)
  | respData (q addr : Nat) (bytes : List Nat)
  | cwControl (path ack nak credit mode : Nat) (fenced serving ready : Bool) (mEff epoch : Nat)
  | cwHello (path : Nat) (h : Hello)
  | witFrame (typ : Nat) (flags side mode epoch session counter health mEff sinceTwin reason mac : Nat)
  | kerup (port : Nat) (m : KMsg)
  | kerupCredit (port cls n : Nat)
  | guestReset (asserted : Bool)
  | guestSupplies (on : Bool)
  | railOn (rail : Nat)
  | railMargin (rail : Nat) (high : Bool) (tenUv : Nat)
  | bankTest (on : Bool)
  | ethFrame (link srcMac dstMac ecn : Nat) (f : EthOut)
  | flashWord (addr v : Nat)
  | busError (addr : Nat)
  | mctp (vals : List Nat)
  | pldm (typ cmd code : Nat) (vals : List Nat)
  | spdm (t : Transport) (m : SpdmReply)
  | mgmt (status : Nat) (body : List Nat)
  deriving DecidableEq, Repr

/-- A request packet's operation (Table 4.5): RDMA READ; a packet of an RDMA WRITE, with the RETH of its first packet; an 8-byte atomic;
a SEND; an opcode that the table does not list. -/
inductive PktKind where
  | read (va rkey len : Nat)
  | write (first last : Bool) (va rkey len : Nat) (bytes : List Byte)
  | atomic (swap : Bool) (va rkey add compare : Nat)
  | send (len : Nat) (ds : List (BitVec 512))
  | unsupported
  deriving DecidableEq, Repr

/-- A request packet of a queue pair: the link it arrived on, its source GID, the QPN, BTH P_Key and PSN, its ECN mark, and the lines
that the front-cache SRAM reports uncorrectable to it (R208). -/
structure RdmaPkt where
  link : Nat
  gid : Nat
  qpn : Nat
  pkey : Nat
  psn : Nat
  ce : Bool
  kind : PktKind
  sram : List Nat := []
  deriving DecidableEq, Repr

/-- An answer a data queue pair owes, in PSN order: KIND 0: the acknowledgement of a WRITE, 1: READ responses, 2: an atomic's response;
the PSNs of the message's first and last packet; the range; whether packets of the message are still to come; what the lines of a READ
gave (address, status, data); the status that replaces it (0: none); an atomic's result; the link its last packet came on (R154); whether a
write of it to a TWIN_COMPLETE region completed as a local-durable one (R24, R26). -/
structure RdmaAns where
  kind : Nat
  psn : Nat
  last : Nat
  addr : Nat
  len : Nat
  open_ : Bool := false
  parts : List (Nat × Nat × LineData) := []
  status : Nat := 0
  value : Nat := 0
  via : Nat := 0
  local_ : Bool := false
  deriving DecidableEq, Repr

/-- A queue-pair context (R147). STATE 0: free; 1: connecting; 2: serving; 3: RESUMING; 4: in error. `psn`: the expected PSN; `msg`: where a
WRITE's next packet goes, the bytes left, and the PSN of its first packet; `sent`: completion SENDs not acknowledged, with the records each
covers; `rnr`: a host RNR NAK holds the SENDs; `via`: the link that carried its latest request. The rate is in Mb/s. -/
structure Qp where
  state : Nat := 0
  incarnation : Nat := 0
  cmd : Bool := false
  pkey : Nat := 0
  tenant : Nat := 0
  gid : Nat := 0
  depth : Nat := 0
  resp : Nat := 0
  mtu : Nat := 0
  psn : Nat := 0
  nakSent : Bool := false
  msg : Option (Nat × Nat × Nat) := none
  answers : List RdmaAns := []
  atomics : List (Nat × Nat) := []
  txPsn : Nat := 0
  sent : List (Nat × List CompRec) := []
  rnr : Bool := false
  rate : Nat := 0
  cutAt : Nat := 0
  cnpAt : Nat := 0
  wroteAt : Nat := 0
  via : Nat := 0
  deriving DecidableEq, Repr

/-- A host locator entry (R153, R154): `old` is the link whose queued frames must leave before the held ones go. -/
structure Locator where
  primary : Nat
  alternate : Option Nat
  created : Nat
  heard : Nat
  refreshed : Nat
  moves : List Nat
  flapping : Bool
  old : Option Nat
  held : List EthOut
  deriving DecidableEq, Repr

/-- Ethernet and RDMA beyond the registers: the split of each port in effect (R135); link-down times by link; queue pairs by side × 2^20 +
INDEX; the contexts in the cache, the most recently used last; the packets held for a fetch, for room among a port's fetches
in flight, and for a cutover (R435); the lookups of the present interval (R148, R149); host locator
entries by GID; when PFC paused each link (now + 1); the times of the uncorrectable codewords of the last second by link; when QP_CACHE_PRESSURE and LOCATOR_FULL were
last raised (now + 1); the partner's addresses are adopted; this side's addresses are handed over (Table 4.7); what reads of
this step gave (queue pair, PSN, address, status, data); the ports that have sent XOFF and not XON (R157); QP_ACTIVE stands at RDMA_QP_LIMIT or above (R149). -/
structure Rdma where
  splits : List Nat := [0, 0]
  downs : Sparse (List Nat) := []
  qps : Sparse Qp := []
  cache : List Nat := []
  fetching : List (Nat × RdmaPkt) := []
  behind : List RdmaPkt := []
  parked : List RdmaPkt := []
  lookups : Nat := 0
  missed : Nat := 0
  hosts : Sparse Locator := []
  pausedAt : Sparse Nat := []
  fecAt : Sparse (List Nat) := []
  pressAt : Nat := 0
  fullAt : Nat := 0
  adopted : Bool := false
  handed : Bool := false
  got : List (Nat × Nat × Nat × Nat × LineData) := []
  xoff : List Nat := []
  atLimit : Bool := false
  deriving DecidableEq, Repr

/-- A PENDING entry (R290) with POISON 0: the line, the bytes a waiting partial write writes, and their data. -/
structure PendEntry where
  line : Nat
  mask : BitVec 256
  data : LineData
  deriving DecidableEq, Repr

/-- The COMMIT payload of an image (Table 8.12): the records, codewords, lines and PENDING entries before it, the µs from the filter's expiry
and the energy drawn in J. -/
structure Commit where
  records : Nat := 0
  codewords : Nat := 0
  lines : Nat := 0
  pending : Nat := 0
  durationUs : Nat := 0
  energyJ : Nat := 0
  deriving DecidableEq, Repr

/-- A save image (R283, R286 to R293): IMAGE_HEADER, LINES, PENDING and META, the contexts of the queue-pair spill store (Table 1.1) and
the horizons acknowledged for the partner's queues (R39). `sealed`: its COMMIT is written and read back. -/
structure Image where
  seq : Nat
  sealed : Bool
  width : Nat
  jseq : Nat
  freeboard : Nat
  psave : Nat
  rsave : Nat
  outOfRange : Bool
  lines : List (Nat × LineMeta × LineData)
  pending : List PendEntry
  journal : List JBlock
  queues : Sparse Queue
  streams : Sparse Stream
  rotations : List (Nat × Nat × Nat × Nat)
  counters : List Nat
  ringRegs : Sparse Nat
  qps : Sparse Qp
  horizons : Sparse Nat
  commit : Commit
  deriving DecidableEq, Repr

/-- The Sluice, the bank and the Spillway beyond their registers. The lines admitted to each account since the last
recomputation of R274 (16 × tenant + ingress port, or 16 × 4096 for the mirror account), and those of the ten windows of 100 µs before it; the
lines that stopped being dirty, in the same way; the shares in bytes per 100 µs, by account, the tenants that are limited, and the minute of the last
SLUICE_THROTTLE; the D last reported, whether a D has been reported since BRINGUP; the BANK_V conversions of the last 1 ms as
(cycle, mV), and the latest BANK_V and BANK_I in mV and mA; D_assay while it governs; the serial of the stored assay; the assay
that runs: V0, V1, I1, V2 (in µV and µA), the latest conversions as (0 for BANK_V or 1 for BANK_I, µV or µA, RANGED), the charge in
µA·µs, the ESR in µΩ and whether it has been measured, whether V0 or V2 was mostly RANGED, whether the load was missing; whether the next
assay is the repeat of R270; whether an assay
waits for a claim or a serving mode; this controller's claim and the twin's; when PFAIL_N asserted (0: deasserted), and
whether it has passed its filter; what started the save (1: PFAIL_N, 2: a CHIP reaction, 3: RESTART, 4: the shutdown
temperature, 5: SHUTDOWN); the area last written and the images of the two image areas; the orderly-shutdown mark (R551); the dirty
shutdown count (R33); the restore, its lost ranges of lines (first, count), and the lines whose PENDING merge was refused and whose record is still due; the areas that
are erased; OUT_OF_RANGE of the save, and when it began. -/
structure Ssb where
  charged : Sparse Nat := []
  history : List (Sparse Nat) := []
  drained : Nat := 0
  drainHist : List Nat := []
  shares : Sparse Nat := []
  limited : List Nat := []
  throttleMinute : Nat := 0
  lastD : Nat := 0
  reported : Bool := false
  volts : List (Nat × Nat) := []
  vNow : Nat := 0
  iNow : Nat := 0
  dAssay : Option Nat := none
  bankSerial : Nat := 0
  v0 : Nat := 0
  v1 : Nat := 0
  i1 : Nat := 0
  v2 : Nat := 0
  samples : List (Nat × Nat × Bool) := []
  charge : Nat := 0
  esrUohm : Nat := 0
  measured : Bool := false
  rangedOver : Bool := false
  noLoad : Bool := false
  repeat_ : Bool := false
  assayDue : Bool := false
  claim : Bool := false
  claimSeq : Nat := 0
  twinClaim : Bool := false
  pfailAt : Nat := 0
  pfailOn : Bool := false
  saveCause : Nat := 0
  mediaHeld : Nat := 0
  area : Nat := 1
  imageA : Option Image := none
  imageB : Option Image := none
  orderly : Bool := true
  dirtyShutdowns : Nat := 0
  restoring : Option Image := none
  rstDamage : List (Nat × Nat) := []
  rstRefused : List Nat := []
  erased : List Nat := [0, 1]
  outOfRange : Bool := false
  saveAt : Nat := 0
  deriving DecidableEq, Repr

/-- The state of the controller. `out` is what it has sent, oldest first; `draws` counts the free values drawn (log entry
4); `now` counts fabric cycles (log entry 3). `mem` is the newest accepted value of every byte of the pair address space,
`deep` the copy the deep tier holds; `lines` and `deepLines` the line states of the two.
`queues` holds the ring pairs under their global queue numbers and the command queue pairs under 2^24 + QPN; `scopes` the
highest mirror SEQ of the completed CXL.mem writes of each logical device (R27). -/
structure State where
  pending : List Instr
  now : Nat
  draws : Nat
  mode : Mode
  regs : Sparse Nat
  latches : Sparse Nat
  mem : List Host.Cell
  deep : List Host.Cell
  lines : Sparse LineMeta
  deepLines : Sparse LineMeta
  out : List Output
  fc : Fc
  front : Sparse FrontLine
  victims : List Nat
  rotPtr : Sparse Nat
  writes : List WriteRec
  reads : List ReadRec
  ingress : List Request
  nextId : Nat
  regions : Sparse Region
  lds : Sparse LdState
  wins : List WinRec
  links : Sparse CxlLink
  ports : Sparse CxlPort
  poisonOverflow : Bool
  loadHist : List (Nat × Nat)
  merges : List MergeRec
  failed : List (Src × Nat)
  fp : Front
  cul : Culvert
  ks : KeyStore
  cry : Crypto
  cw : Causeway
  wit : Witness
  berm : Berm
  queues : Sparse Queue
  scopes : Sparse Nat
  ssb : Ssb
  dram : Dram
  fl : Flash
  pw : Power
  eth : Rdma
  kg : Guest
  rv : Reeve
  deriving DecidableEq, Repr

/-- Why a run stops with a fault. -/
inductive Fault where
  /-- Raised by no meaning: the spec stops no command with an unreported fault. Safe. -/
  | unreachable
  deriving DecidableEq, Repr

/-- Why a command is refused. -/
inductive Refusal where
  /-- A command whose meaning is not written; raised by the arms of `exec` only. Safe. -/
  | notModelled (mnemonic : String)
  deriving DecidableEq, Repr

/-- The controller without VAUX (R532): every register at the reset value of its table, memory with nothing listed. -/
def State.reset : State := {
  pending := [], now := 0, draws := 0, mode := .off, regs := [], latches := [], mem := [], deep := [],
  lines := [], deepLines := [], out := [], fc := {}, front := [], victims := [], rotPtr := [], writes := [],
  reads := [], ingress := [], nextId := 1, regions := [], lds := [], wins := [], links := [], ports := [],
  poisonOverflow := false, loadHist := [], merges := [], failed := [], fp := {}, cul := {}, ks := {}, cry := {}, cw := {}, wit := {}, berm := {}, queues := [], scopes := [],
  ssb := {}, dram := {}, fl := {}, pw := {}, eth := {}, kg := {}, rv := {} }

end Sys2Proof.Machine
end

