-- ==== Sys2Proof/Machine/Ops.lean ====
section
/-! DEFINITION. The named operations every meaning is built from: the register file, what the block sends out, the draw of
free values, memory by the line, and the raising of an event source (R513 to R523). -/

namespace Sys2Proof.Machine

open Sys2Proof

/-! Registers. -/

/-- The value of a register field. -/
def State.get (f : Fld) (s : State) : Nat := Sparse.get (resetValue f.off f.lo) f.key s.regs

/-- A register field set by hardware, cut to its width. -/
def State.put (f : Fld) (v : Nat) (s : State) : State :=
  { s with regs := Sparse.set (resetValue f.off f.lo) f.key (v % 2 ^ f.w) s.regs }

/-- A field read as a flag. -/
def State.isSet (f : Fld) (s : State) : Bool := decide (s.get f ≠ 0)

/-- A counter raised by `n`, saturating at its width. -/
def State.bump (f : Fld) (n : Nat) (s : State) : State := s.put f (satAdd f.w (s.get f) n)

/-- The state, changed by `f` when `c` holds. -/
def State.when (c : Bool) (f : State → State) (s : State) : State := if c then f s else s

/-- One more message, record or pin change sent. -/
def State.emit (o : Output) (s : State) : State := { s with out := s.out ++ [o] }

/-- The state changed once for each element of a list. -/
def State.forEach {α : Type} (l : List α) (f : α → State → State) (s : State) : State :=
  l.foldl (fun t a => f a t) s

/-- A free value of `w` bits, and the state with one more value drawn (log entry 4). -/
def State.draw (w : Nat) (s : State) : Nat × State :=
  ((Config.freeValue s.draws).toNat % 2 ^ w, { s with draws := s.draws + 1 })

/-- Fabric cycles in `n` microseconds, milliseconds and seconds (Table 0.6: 1 fc = 0.5 ns). -/
def usFc (n : Nat) : Nat := n * 2000
/-- Fabric cycles in `n` ms. -/
def msFc (n : Nat) : Nat := n * 2000000
/-- Fabric cycles in `n` s. -/
def secFc (n : Nat) : Nat := n * 2000000000

/-! Modes. -/

/-- The serving modes of R91 check 1. -/
def Mode.serving : Mode → Bool
  | .solo | .paired | .resync | .takeover | .drain => true
  | _ => false

/-- The modes in which the main rails are up and the ramp-up is complete. -/
def Mode.mainRails : Mode → Bool
  | .bringup | .restore | .save | .quarantine => true
  | m => m.serving

/-- The modes with mirroring in force (Table 1.4: PAIRED and DRAIN). -/
def Mode.twin : Mode → Bool
  | .paired | .drain => true
  | _ => false

/-- The side of this controller (R68). -/
def State.side (s : State) : Nat := s.get F.ADR_CTRL_SIDE

/-- The controller is fenced (R52). A handback's fence holds the partner's side only (R439). -/
def State.fenced (s : State) : Bool :=
  s.isSet F.CW_STATUS_FENCE_CAUSE && !(s.cw.sideFence && decide (s.cw.fences = [4]))

/-! Memory by the byte and by the line (R5, Table 0.4). -/

/-- The newest accepted value of one byte. -/
def State.byte (a : Nat) (s : State) : Byte := Sparse.get 0 a s.mem

/-- The value of a granule. -/
def State.granule (a : Nat) (s : State) : Granule :=
  BitVec.ofNat 512 ((List.range 64).foldl (fun n i => n + (s.byte (a + i)).toNat * 2 ^ (8 * i)) 0)

/-- The 64-bit value at an address. -/
def State.qword (a : Nat) (s : State) : Nat :=
  (List.range 8).foldl (fun n i => n + (s.byte (a + i)).toNat * 2 ^ (8 * i)) 0

/-- The value of a line. -/
def State.lineData (line : Nat) (s : State) : LineData :=
  BitVec.ofNat 2048 ((List.range 256).foldl (fun n i => n + (s.byte (line * 256 + i)).toNat * 2 ^ (8 * i)) 0)

/-- Byte `i` of a line value. -/
def lineByte (d : LineData) (i : Nat) : Byte := d.extractLsb' (8 * i) 8

/-- The state with the enabled bytes of a line written. -/
def State.storeLine (line : Nat) (mask : BitVec 256) (d : LineData) (s : State) : State :=
  let step (m : List Host.Cell) (i : Nat) : List Host.Cell :=
    if mask.getLsbD i then Sparse.set 0 (line * 256 + i) (lineByte d i) m else m
  { s with mem := (List.range 256).foldl step s.mem }

/-- The state with the bytes of a line zero. -/
def State.zeroLine (line : Nat) (s : State) : State :=
  { s with mem := Sparse.clear (line * 256) (line * 256 + 256) s.mem }

/-- The state of a line nothing is recorded of. -/
def LineMeta.fresh : LineMeta := {}

/-- The line state of a line. -/
def State.lineMeta (line : Nat) (s : State) : LineMeta := Sparse.get {} line s.lines

/-- The line state of a line, set. -/
def State.setMeta (line : Nat) (m : LineMeta) (s : State) : State :=
  { s with lines := Sparse.set {} line m s.lines }

/-- Every byte of a line enabled. -/
def fullMask : BitVec 256 := BitVec.allOnes 256

/-! What a record carries (R525). -/

/-- The widths of the values that the event tables say a source's record carries, in the order they are named: 49 is a pair address,
more is another wide value; a value without a register field takes 16 bits, or the width its table gives it where that is more
(log entry 22). -/
def carries (n : Nat) : List Nat :=
  if n = 858 ∨ n = 932 ∨ (444 ≤ n ∧ n ≤ 463) then [1]
  else if n = 120 then [4, 4, 12, 49]
  else if 640 ≤ n ∧ n ≤ 643 then [8]
  else if 736 ≤ n ∧ n ≤ 751 then [8]
  else if n = 752 ∨ n = 817 then [64]
  else if n = 126 then [25, 4, 64]
  else if n = 129 then [6, 7, 7]
  else if n = 132 then [49]
  else if n = 928 then [49, 16, 16]
  else if n = 929 then [16, 4]
  else if n = 936 ∨ n = 1008 ∨ n = 510 ∨ n = 864 then [49, 32]
  else if n = 994 then [8, 12, 17]
  else if n = 996 then [32, 20, 20]
  else if n = 1002 then [64]
  else if n = 865 then [49, 16]
  else if n = 871 then [12, 64]
  else if n = 872 then [12, 16]
  else if n = 880 then [16, 3]
  else if 192 ≤ n ∧ n ≤ 207 then [4]
  else if 224 ≤ n ∧ n ≤ 239 then [3, 3, 2, 17, 16]
  else if 256 ≤ n ∧ n ≤ 271 then [3, 16, 16]
  else if 384 ≤ n ∧ n ≤ 403 then [5, 4]
  else if 424 ≤ n ∧ n ≤ 443 then [4]
  else if n = 504 then [16, 5]
  else if n = 508 then [19, 11]
  else if 802 ≤ n ∧ n ≤ 803 then [8]
  else if n = 813 then [32, 1]
  else if n = 1348 ∨ n = 1349 then [4]
  else if n = 1353 then [16, 12, 16]
  else if n = 1061 ∨ n = 1062 then [32]
  else if n = 1064 then [1, 32]
  else if n = 1072 then [2, 2]
  else if n = 1155 ∨ n = 1158 then [4, 4]
  else if n = 1196 then [16, 4]
  else if n = 1199 then [3, 4]
  else if 1208 ≤ n ∧ n ≤ 1223 then [2]
  else if n = 1078 ∨ n = 1079 then [8, 8, 32]
  else if n = 1080 then [8, 8]
  else if n = 1082 then [16, 16]
  else if 1408 ≤ n then [64]
  else [16, 16]

/-- The values placed: a wide value in DETAIL_A; the others in DETAIL_B from bit 0 while they fit, then in DETAIL_A from bit `ap`
(R525). -/
def packDetails : Nat → Nat → Bool → List (Nat × Nat) → Nat × Nat
  | _, _, _, [] => (0, 0)
  | ap, bp, past, (v, w) :: t =>
    if 32 < w then let r := packDetails ap bp past t; (r.1 + v % 2 ^ w, r.2)
    else if !past ∧ bp + w ≤ 32 then let r := packDetails ap (bp + w) false t; (r.1, r.2 + v % 2 ^ w * 2 ^ bp)
    else let r := packDetails (ap + w) bp true t; (r.1 + v % 2 ^ w * 2 ^ ap, r.2)

/-- DETAIL_A and DETAIL_B of a record of source `n` that carries `vals` (R525). -/
def details (n : Nat) (vals : List Nat) : Nat × Nat :=
  let ws := carries n
  let start := if ws.any fun w => decide (49 < w) then 64 else if ws.contains 49 then 49 else 0
  let r := packDetails start 0 false (vals.zip ws)
  (r.1 % 2 ^ 64, r.2 % 2 ^ 32)

/-! Event sources. -/

/-- The class of a source: fixed, or CLASS of FC_SRC_CFG for a firmware-defined source (Table 15.9). -/
def State.srcClass (n : Nat) (s : State) : Nat :=
  if 1408 ≤ n then s.get (F.FC_SRC_CFG_CLASS n)
  else match eventRow? n with
    | some r => r.cls
    | none => 4

/-- The severity of a source, in the manner of `srcClass`. -/
def State.srcSeverity (n : Nat) (s : State) : Nat :=
  if 1408 ≤ n then s.get (F.FC_SRC_CFG_SEVERITY n)
  else match eventRow? n with
    | some r => r.sev
    | none => 1

/-- The source is a level source (R508). -/
def isLevel (n : Nat) : Bool :=
  match eventRow? n with
  | some r => r.level
  | none => false

/-- MIN_REACTION of a source (R514). -/
def State.minReaction (n : Nat) (s : State) : Nat :=
  if n = 1346 then 4
  else if (18 ≤ n ∧ n ≤ 63) ∨ n = 8 ∨ n = 9 then 3
  else if s.srcClass n = 3 then 3 else 1

/-- The assigned reaction of a source: REACTION of FC_SRC_CFG, or the class default of Table 15.4 for 0, 6 and 7. -/
def State.assigned (n : Nat) (s : State) : Nat :=
  let r := s.get (F.FC_SRC_CFG_REACTION n)
  if 1 ≤ r ∧ r ≤ 5 then r else if s.srcClass n = 3 then 3 else 1

/-- ALERT is in effect for a source (Table 15.4). -/
def State.alertOn (n : Nat) (s : State) : Bool :=
  match s.get (F.FC_SRC_CFG_ALERT n) with
  | 1 => false
  | 2 => true
  | _ =>
    match s.srcClass n with
    | 0 | 1 => false
    | 4 | 5 => decide (3 ≤ s.srcSeverity n)
    | _ => true

/-- AUTO_ACK is in effect for a source (R514). -/
def State.autoAck (n : Nat) (s : State) : Bool :=
  match s.get (F.FC_SRC_CFG_AUTO_ACK n) with
  | 1 => false
  | 2 => true
  | _ => decide (s.assigned n = 1)

/-- SNAPSHOT is in effect for a source (R514). -/
def State.snapshotOn (n : Nat) (s : State) : Bool :=
  match s.get (F.FC_SRC_CFG_SNAPSHOT n) with
  | 1 => false
  | 2 => true
  | _ => (decide (992 ≤ n) && decide (n ≤ 1055)) || (decide (1152 ≤ n) && decide (n ≤ 1247))

/-- STATE of a source: 0 IDLE, 1 ACTIVE, 2 ACKED. -/
def State.srcState (n : Nat) (s : State) : Nat := s.get (F.FC_SRC_STATUS_STATE n)

/-- The sources whose STATE satisfies `p`, in ascending order: those the register file lists. -/
def State.sourcesWhere (p : Nat → Bool) (s : State) : List Nat :=
  s.regs.filterMap fun e =>
    let off := e.1 / 64
    if e.1 % 64 = 30 ∧ 0x1020000 ≤ off ∧ off < 0x1020000 + 4 * 1536 ∧ p e.2
    then some ((off - 0x1020000) / 4) else none

/-- The sources that are ACTIVE. -/
def State.activeSources (s : State) : List Nat := s.sourcesWhere (fun v => decide (v = 1))

/-- The sources that are uncleared: ACTIVE or ACKED (R515). -/
def State.unclearedSources (s : State) : List Nat := s.sourcesWhere (fun v => decide (v ≠ 0))

/-- A source is uncleared. -/
def State.uncleared (n : Nat) (s : State) : Bool := decide (s.srcState n ≠ 0)

/-- SAVE_PATH_OK (R517): no save-path source is uncleared, and BRINGUP has ended; KERUP_LINK_DOWN of a flash tile counts
only while its condition lasts. -/
def State.savePathOk (s : State) : Bool :=
  (s.mode.serving || decide (s.mode = .restore) || decide (s.mode = .save) || decide (s.mode = .quarantine)) &&
    savePathSources.all fun n =>
      if 1252 ≤ n ∧ n ≤ 1253 then !(s.uncleared n && decide (Sparse.get 0 n s.fc.cond ≠ 0)) else !s.uncleared n

/-- The collector runs (R519). -/
def State.collectorRuns (s : State) : Bool := s.mode.mainRails

/-- A source taken at PIN or above is uncleared. -/
def State.pinUncleared (s : State) : Bool :=
  s.unclearedSources.any fun n => decide (3 ≤ s.get (F.FC_SRC_STATUS_TAKEN n))

/-- The FAULT_N latch cleared in the cycle in which nothing holds it any more (R518); a latch that outlived the loss of
the collector's state waits for PIN_CLEAR. -/
def State.settleLatch (s : State) : State :=
  if s.fc.latch && !s.fc.latchOver && !s.pinUncleared && !s.fc.regulatorCause && !s.fc.wakeCause
  then { s with fc := { s.fc with latch := false } } else s

/-- The ADC results of the 32 channels, as a snapshot latches them (R522): VALUE, and RANGED in bit 24. -/
def State.adcSnapshot (s : State) : List Nat :=
  (List.range 32).map fun c => s.get (F.ADC_RESULT_VALUE c) + s.get (F.ADC_RESULT_RANGED c) * 2 ^ 24

/-- The entry of a raise, stamped in this cycle (R520); a snapshot is latched while fewer than 8 are held (R522). -/
def State.entryOf (n taken : Nat) (escalated : Bool) (a b : Nat) (s : State) : EvEntry :=
  let snapOn := s.snapshotOn n
  let held := (s.fc.queue.filter fun e => e.snap.isSome).length
  { source := n, severity := s.srcSeverity n, cls := s.srcClass n, taken := taken, escalated := escalated,
    est := s.isSet F.AON_STATUS_ON_RC, seconds := s.get F.ID_OPERATING_S_SECONDS,
    cycles := s.get F.ID_POWER_CYCLES_COUNT, detA := a % 2 ^ 64, detB := b % 2 ^ 32,
    snap := if snapOn && decide (held < 8) then some s.adcSnapshot else none,
    snapLate := snapOn && decide (8 ≤ held) }

/-- The entry queued, or dropped and counted with the queue full (R521). -/
def State.queueEntry (e : EvEntry) (s : State) : State :=
  if s.fc.queue.length < 1024 then { s with fc := { s.fc with queue := s.fc.queue ++ [e] } }
  else { s with fc := { s.fc with dropsSinceRoom := s.fc.dropsSinceRoom + 1, lostEntries := s.fc.lostEntries + 1 } }
    |>.bump F.FC_QUEUE_DROPPED 1

/-- The level condition of a source begins (nothing for a pulse source). -/
def State.beginCond (n : Nat) (s : State) : State :=
  if isLevel n then { s with fc := { s.fc with cond := Sparse.set 0 n 1 s.fc.cond } } else s

/-- A raise of source `n` whose record carries `vals`: merged while the source is uncleared; otherwise its reaction
is taken under R514 and R516, its entry queued, and a BLOCK or CHIP reaction or a quarantine is left in `fc.due`. While the
collector does not run, the always-on store takes the entry (R521). The guest sources are inactive without a guest site (R3). -/
def State.raise (n : Nat) (vals : List Nat) (s : State) : State :=
  let a := (details n vals).1
  let b := (details n vals).2
  if (eventRow? n).isNone ∨ (1344 ≤ n ∧ n ≤ 1407 ∧ s.get F.ID_VARIANT_ORDER_CODE ≠ 1) then s
  else
    let s1 := s.beginCond n
    if s.collectorRuns then
      if s.srcState n = 0 then
        let own := max (s.assigned n) (s.minReaction n)
        let peer := s.activeSources.any fun m => decide (s.srcClass m = s.srcClass n)
        let cap := let e := s.get F.FC_CTRL_ESC_MAX; if 1 ≤ e ∧ e ≤ 5 then e else 3
        let esc := if s.assigned n = 5 then 5 else if peer then min (s.assigned n + 1) cap else s.assigned n
        let taken := max own esc
        let escalated := decide (own < taken)
        let s2 := s1.put (F.FC_SRC_STATUS_STATE n) 1 |>.bump (F.FC_SRC_STATUS_COUNT n) 1
          |>.put (F.FC_SRC_STATUS_TAKEN n) taken |>.put (F.FC_SRC_STATUS_ESCALATED n) (flag escalated)
        let s3 := if 3 ≤ taken then { s2 with fc := { s2.fc with latch := true } } else s2
        let s4 := s3.queueEntry (s.entryOf n taken escalated a b)
        let due := (if 4 ≤ taken then [(n, taken)] else []) ++ (if quarSource n then [(n, 6)] else [])
        { s4 with fc := { s4.fc with due := s4.fc.due ++ due } }
      else
        let s2 := s1.bump (F.FC_SRC_STATUS_COUNT n) 1
        { s2 with fc := { s2.fc with repeats := Sparse.set 0 n (satAdd 16 (Sparse.get 0 n s2.fc.repeats) 1) s2.fc.repeats } }
    else
      let own := max (s.assigned n) (s.minReaction n)
      let e := s.entryOf n own false a b
      let s2 := if 3 ≤ own then { s1 with fc := { s1.fc with latch := true, latchOver := true } } else s1
      if s2.fc.aon.length < 16 then { s2 with fc := { s2.fc with aon := s2.fc.aon ++ [e] } }
      else { s2 with fc := { s2.fc with lostEntries := s2.fc.lostEntries + 1 } }

/-- A raise at a thermal or rail limit: a PLDM threshold event waits for the event receiver as well, when one is set (Table 14.8). -/
def State.raiseThreshold (n : Nat) (vals : List Nat) (s : State) : State :=
  let s1 := s.raise n vals
  match s1.rv.receiver with
  | none => s1
  | some _ => { s1 with rv := { s1.rv with events := s1.rv.events ++ [n] } }

/-- A raise that is made at most once per 10 s for each key (R523: a raise held back is neither raised nor counted). -/
def State.raiseLimited (n key : Nat) (vals : List Nat) (s : State) : State :=
  let k := n * 2 ^ 32 + key
  let last := Sparse.get 0 k s.fc.limits
  if last ≠ 0 ∧ s.now < last - 1 + secFc 10 then s
  else { s with fc := { s.fc with limits := Sparse.set 0 k (s.now + 1) s.fc.limits } } |>.raise n vals

/-- A source acknowledged (Table 15.5). -/
def State.ackSource (n : Nat) (s : State) : State :=
  if s.srcState n = 1 then
    (s.put (F.FC_SRC_STATUS_STATE n) (if isLevel n ∧ Sparse.get 0 n s.fc.cond ≠ 0 then 2 else 0)).settleLatch
  else s

/-- The condition of a level source ends: ACKED becomes IDLE (Table 15.5). -/
def State.endCond (n : Nat) (s : State) : State :=
  let s1 := { s with fc := { s.fc with cond := Sparse.set 0 n 0 s.fc.cond } }
  if s1.srcState n = 2 then (s1.put (F.FC_SRC_STATUS_STATE n) 0).settleLatch else s1

end Sys2Proof.Machine
end

