-- ==== Sys2Proof/Machine/Operands.lean ====
section
/-! DEFINITION. The operand forms: pair addresses and what they select (R67, R197, R198), the region directory (R70),
windows, links and bindings (R87 to R90, R105 to R108), and the permission checks of Table 2.8. -/

namespace Sys2Proof.Machine

open Sys2Proof

/-! The status codes of Table 5.10. -/

namespace St

/-- SUCCESS (Table 5.10). -/
def SUCCESS : Nat := 0x00
/-- LOCAL_ONLY (Table 5.10). -/
def LOCAL_ONLY : Nat := 0x01
/-- ABORT_LATE (Table 5.10). -/
def ABORT_LATE : Nat := 0x02
/-- ABORTED (Table 5.10). -/
def ABORTED : Nat := 0x10
/-- FENCED (Table 5.10). -/
def FENCED : Nat := 0x11
/-- NOT_READY (Table 5.10). -/
def NOT_READY : Nat := 0x12
/-- SEQUENCE (Table 5.10). -/
def SEQUENCE : Nat := 0x13
/-- OPCODE (Table 5.10). -/
def OPCODE : Nat := 0x14
/-- PARAM (Table 5.10). -/
def PARAM : Nat := 0x15
/-- TIMEOUT (Table 5.10). -/
def TIMEOUT : Nat := 0x16
/-- NO_TARGET (Table 5.10). -/
def NO_TARGET : Nat := 0x17
/-- BUSY (Table 5.10). -/
def BUSY : Nat := 0x18
/-- DENIED (Table 5.10). -/
def DENIED : Nat := 0x20
/-- WRONG_OWNER (Table 5.10). -/
def WRONG_OWNER : Nat := 0x21
/-- ADDRESS (Table 5.10). -/
def ADDRESS : Nat := 0x22
/-- OBJECT_GONE (Table 5.10). -/
def OBJECT_GONE : Nat := 0x23
/-- READ_ONLY (Table 5.10). -/
def READ_ONLY : Nat := 0x24
/-- LIMIT (Table 5.10). -/
def LIMIT : Nat := 0x25
/-- NO_KEY (Table 5.10). -/
def NO_KEY : Nat := 0x26
/-- SPACE (Table 5.10). -/
def SPACE : Nat := 0x27
/-- KEY_REJECTED (Table 5.10). -/
def KEY_REJECTED : Nat := 0x28
/-- INTEGRITY (Table 5.10). -/
def INTEGRITY : Nat := 0x30
/-- POISONED (Table 5.10). -/
def POISONED : Nat := 0x31
/-- STALL_CEILING (Table 5.10). -/
def STALL_CEILING : Nat := 0x32
/-- GUEST_ERROR (Table 5.10). -/
def GUEST_ERROR : Nat := 0x33

end St

/-- The status a queue operation gets for a failed check (Table 2.9). -/
def checkStatus (chk : Nat) : Nat :=
  match chk with
  | 1 => St.NOT_READY
  | 2 => St.DENIED
  | 3 => St.WRONG_OWNER
  | 4 => St.ADDRESS
  | 5 => St.OBJECT_GONE
  | 7 => St.DENIED
  | 8 => St.READ_ONLY
  | _ => St.DENIED

/-- A value as `n` bytes, least significant first (R8). -/
def leBytes (n v : Nat) : List Nat := (List.range n).map fun i => bitsOf v (8 * i) 8

/-- A field of `n` bytes at byte `at_` of a record, as its share of the record's value (R8: the record is little-endian). -/
def fieldAt (at_ n v : Nat) : Nat := v % 2 ^ (8 * n) * 2 ^ (8 * at_)

/-! CRC-32C (R20, R469, R494). -/

/-- One step of CRC-32C over a byte, bits least significant first. -/
def crcByte (c b : Nat) : Nat :=
  (List.range 8).foldl (fun v _ => if v % 2 = 1 then (v / 2) ^^^ 0x82F63B78 else v / 2) (c ^^^ b)

/-- CRC-32C of the `n` low bytes of a value, byte 0 first. -/
def crc32c (n v : Nat) : Nat := ((List.range n).foldl (fun c i => crcByte c (v / 2 ^ (8 * i) % 256)) 0xFFFFFFFF) ^^^ 0xFFFFFFFF

/-! Pair addresses (R67). -/

/-- The owner bit of a pair address. -/
def sideOf (a : Nat) : Nat := a / 2 ^ 48 % 2
/-- SLOT of a pair address. -/
def slotOf (a : Nat) : Nat := a / 2 ^ 30 % 2 ^ 18
/-- The pair-wide number of the line of an address. -/
def lineOf (a : Nat) : Nat := a / 256
/-- The pair-wide number of the page of a line. -/
def pageOfLine (line : Nat) : Nat := line / 64
/-- The pair-wide number of the extent of a page. -/
def extentOfPage (page : Nat) : Nat := page / 128
/-- The pair address of a slot. -/
def slotAddr (side slot : Nat) : Nat := side * 2 ^ 48 + slot * 2 ^ 30
/-- The first line of a page. -/
def pageLines (page : Nat) : List Nat := (List.range 64).map (page * 64 + ·)

/-- The home of a line: the exclusive OR of the groups of Table 6.1 (R197). -/
def homeOf (line : Nat) : Nat :=
  let a := line * 256
  [8, 14, 20, 26, 32, 38, 44].foldl (fun h b => h ^^^ (a / 2 ^ b % 64)) 0 % 64

/-- The set index of a line within its home slice (R198). -/
def setOf (line : Nat) : Nat := line / 64 % 1024

/-! Regions (R70 to R72). -/

/-- The index of the record of region `n` on side `sd`. -/
def recIdx (sd n : Nat) : Nat := sd * 4096 + n

/-- A region record. -/
def State.region (idx : Nat) (s : State) : Region := Sparse.get {} idx s.regions

/-- A region record, set. -/
def State.setRegion (idx : Nat) (r : Region) (s : State) : State :=
  { s with regions := Sparse.set {} idx r s.regions }

/-- The region covers a slot of its side. -/
def Region.covers (r : Region) (slot : Nat) : Bool :=
  decide (r.state ≠ 0) && decide (r.baseSlot ≤ slot) && decide (slot ≤ r.baseSlot + r.sizeM1)

/-- The directory: the record index of the region that covers a slot (R70). -/
def State.directory (sd slot : Nat) (s : State) : Option Nat :=
  (s.regions.find? fun e => decide (e.1 / 4096 = sd) && e.2.covers slot).map (·.1)

/-- The record index of the region that holds a line. -/
def State.regionOfLine (line : Nat) (s : State) : Option Nat :=
  s.directory (sideOf (line * 256)) (slotOf (line * 256))

/-- The first pair address of a region. -/
def regionBase (idx : Nat) (r : Region) : Nat := slotAddr (idx / 4096) r.baseSlot

/-- The size of a region in bytes. -/
def Region.bytes (r : Region) : Nat := (r.sizeM1 + 1) * 2 ^ 30

/-- A line lies in a region. -/
def Region.holdsLine (idx : Nat) (r : Region) (line : Nat) : Bool :=
  decide (sideOf (line * 256) = idx / 4096) && r.covers (slotOf (line * 256))

/-- A stored line state is live in its region (R81). -/
def Region.liveGen (r : Region) (gen : Nat) : Bool :=
  decide (r.state ≠ 0) && (decide (gen = r.keyGen) || (r.rotating && decide (gen = r.prevGen)))

/-- A line is live (R81). -/
def State.live (line : Nat) (s : State) : Bool :=
  match s.regionOfLine line with
  | some i => (s.region i).liveGen (s.lineMeta line).gen
  | none => false

/-- The generation with which a write to a line is made: KEY_GEN of its region. -/
def State.writeGen (line : Nat) (s : State) : Nat :=
  match s.regionOfLine line with
  | some i => (s.region i).keyGen
  | none => 0

/-! Tenants (R83 to R86). -/

/-- STATE of a tenant record; tenant 0 is fixed at 1 (R84). -/
def State.tenantState (t : Nat) (s : State) : Nat := if t = 0 then 1 else s.get (F.TENANT_W0_STATE t)

/-- A host tenant that is ACTIVE. -/
def State.tenantActive (t : Nat) (s : State) : Bool := decide (t ≠ 0) && decide (s.tenantState t = 1)

/-! CXL links, logical devices and windows (R103 to R108). -/

/-- The configuration of a link in effect, and the state it keeps. -/
def State.link (l : Nat) (s : State) : CxlLink := Sparse.get {} l s.links
/-- The configuration and state of a link, set. -/
def State.setLink (l : Nat) (k : CxlLink) (s : State) : State := { s with links := Sparse.set {} l k s.links }
/-- The state of a logical device. -/
def State.ld (n : Nat) (s : State) : LdState := Sparse.get {} n s.lds
/-- The state of a logical device, set. -/
def State.setLd (n : Nat) (d : LdState) (s : State) : State := { s with lds := Sparse.set {} n d s.lds }

/-- A message of an MSI-X vector: sent, or pending while the vector is masked (Table 3.3). -/
def State.msix (n v : Nat) (s : State) : State :=
  let d := s.ld n
  if d.msixMask.contains v then (if d.msixPend.contains v then s else s.setLd n { d with msixPend := d.msixPend ++ [v] })
  else s.emit (.msix n v)

/-- The mask of an MSI-X vector written; a vector unmasked while pending is sent. -/
def State.maskMsix (n v : Nat) (masked : Bool) (s : State) : State :=
  let d := s.ld n
  let rest := d.msixMask.filter fun x => decide (x ≠ v)
  if masked then s.setLd n { d with msixMask := rest ++ [v] }
  else (s.setLd n { d with msixMask := rest, msixPend := d.msixPend.filter fun x => decide (x ≠ v) }).when (d.msixPend.contains v)
    (State.emit (.msix n v))

/-- The record of a window's label storage area and shutdown state replaced (R127). -/
def State.keepWindow (w : WinRec) (s : State) : State :=
  { s with wins := (s.wins.filter fun x => decide ((x.tenant, x.side, x.base, x.span) ≠ (w.tenant, w.side, w.base, w.span))) ++ [w] }

/-- A link is up. -/
def State.linkUp (l : Nat) (s : State) : Bool := decide (s.get (F.CXL_LINK_STATUS_RATE l) ≠ 0)

/-- The logical devices a link presents: those of R105, or LD_BASE alone where the partner negotiated no MLD operation
(R106). -/
def State.linkLds (l : Nat) (s : State) : List Nat :=
  let k := s.link l
  if !k.present then []
  else if 2 ≤ k.ldCount ∧ s.linkUp l ∧ s.get (F.CXL_LINK_STATUS_MLD_ACTIVE l) = 0 then [k.ldBase]
  else (List.range k.ldCount).map (k.ldBase + ·)

/-- The link that carries a logical device. -/
def State.linkOfLd (n : Nat) (s : State) : Option Nat :=
  (s.links.find? fun e => (s.linkLds e.1).contains n).map (·.1)

/-- The home-agent ingress port a request comes through (Tables 6.2 and 13.3): the CXL port of a logical device, the context index of a
queue pair modulo 4, a guest module, the Culvert's port for the writes of its streams, and P7 for the hub's own. -/
def State.portOf (src : Src) (s : State) : Nat :=
  match src with
  | .cxl l _ _ => l / 4 % 4
  | .rdma qp _ => qp % 4
  | .op q _ =>
    if 2 ^ 25 ≤ q then 6
    else if 2 ^ 24 ≤ q then q % 4
    else match s.linkOfLd (q / 64) with
      | some l => l / 4 % 4
      | none => 0
  | .guest p _ => 4 + p % 2
  | .hub => 7

/-- The same source of Table 1.9: the same ring pair or command queue pair, queue pair, logical device on a link, guest module, or the
hub. -/
def Src.same : Src → Src → Bool
  | .cxl l n _, .cxl k m _ => decide (l = k) && decide (n = m)
  | .rdma p _, .rdma q _ => decide (p = q)
  | .op p _, .op q _ => decide (p = q)
  | .guest p _, .guest q _ => decide (p = q)
  | .hub, .hub => true
  | _, _ => false

/-- A source whose requests are accepted in the order it makes them: a queue pair, in PSN order (R142), and the hub for itself, so that a
checkpoint's header follows its records (R430). -/
def Src.inOrder : Src → Bool
  | .rdma _ _ => true
  | .hub => true
  | _ => false

/-- A request of a queue pair's RDMA message. -/
def Src.isRdma : Src → Bool
  | .rdma _ _ => true
  | _ => false

/-- The source of a request. -/
def Request.src : Request → Src
  | .write w => w.src
  | .read r => r.src

/-- The line of a request. -/
def Request.line : Request → Nat
  | .write w => w.line
  | .read r => lineOf r.addr

/-- The tenant of a request. -/
def Request.tenant : Request → Nat
  | .write w => w.tenant
  | .read r => r.tenant

/-- The request writes. -/
def Request.isWrite : Request → Bool
  | .write _ => true
  | .read _ => false

/-- WIN_VALID as the controller treats it: 0 when the window extends past the last slot (R108). -/
def State.winValid (n : Nat) (s : State) : Bool :=
  s.isSet (F.CXL_LD_WIN_BASE_WIN_VALID n) &&
    decide (s.get (F.CXL_LD_WIN_BASE_BASE_SLOT n) + s.get (F.CXL_LD_WIN_SPAN_SPAN_M1 n) ≤ 262143)

/-- The side a window names. -/
def State.winSide (n : Nat) (s : State) : Nat := s.get (F.CXL_LD_WIN_BASE_SIDE n)
/-- The span of a window in bytes. -/
def State.winBytes (n : Nat) (s : State) : Nat := (s.get (F.CXL_LD_WIN_SPAN_SPAN_M1 n) + 1) * 2 ^ 30
/-- The first pair address of a window. -/
def State.winBase (n : Nat) (s : State) : Nat :=
  slotAddr (s.winSide n) (s.get (F.CXL_LD_WIN_BASE_BASE_SLOT n))

/-- The device physical address of a line in a window that contains it. -/
def State.winDpa (n line : Nat) (s : State) : Option Nat :=
  let b := s.winBase n
  if s.winValid n && decide (b ≤ line * 256) && decide (line * 256 < b + s.winBytes n)
  then some (line * 256 - b) else none

/-- A port is in service. -/
def State.portInService (p : Nat) (s : State) : Bool := decide (s.get (F.CXL_PORT_STATUS_SVC_STATE p) = 2)

/-- LD_MAP binds a logical device: ENABLE 1 and a tenant other than 0 (Table 2.12), a valid window (R108), no binding hold
and its port in service (R126), and DORMANT 0 or ACTIVATED 1 (R121): "bound" of R119. -/
def State.ldBound (n : Nat) (s : State) : Bool :=
  s.isSet (F.LD_MAP_ENABLE n) && decide (s.get (F.LD_MAP_TENANT n) ≠ 0) && s.winValid n &&
    (!s.isSet (F.LD_MAP_DORMANT n) || s.isSet (F.CXL_LD_STATUS_ACTIVATED n)) &&
    (match s.linkOfLd n with
     | some l => s.get (F.CXL_LINK_STATUS_BIND_HOLD l) = 0 && s.portInService (l / 4)
     | none => false)

/-- What a binding gives a request: its tenant, ADMIN, and whether every write from it is refused. -/
structure Binding where
  tenant : Nat
  admin : Bool
  readOnly : Bool
  deriving DecidableEq, Repr

/-- The binding of a logical device's CXL.mem requests, or none at check BINDING (Table 2.8; D3hot of Table 3.3, IDE of
R117). -/
def State.cxlBinding (n : Nat) (s : State) : Option Binding :=
  let t := s.get (F.LD_MAP_TENANT n)
  let ide := match s.linkOfLd n with
    | some l => !(s.link l).ideRequired || decide (s.get (F.CXL_LINK_STATUS_IDE_STATE l) = 1)
    | none => false
  if s.ldBound n && s.tenantActive t && !(s.ld n).d3hot && ide
  then some ⟨t, s.isSet (F.LD_MAP_ADMIN n), s.isSet (F.LD_MAP_READ_ONLY n)⟩ else none

/-- The binding of a logical device's ring operations: LD_MAP alone (R87), with the window and IDE conditions that count as
ENABLE 0 (R108, R117). -/
def State.ringBinding (n : Nat) (s : State) : Option Binding := s.cxlBinding n

/-! Partitions (R88, R89). -/

/-- The index of the valid P_Key map entry a P_Key matches: the lowest (R88). -/
def State.pkeyIndex (pkey : Nat) (s : State) : Option Nat :=
  (List.range 4096).find? fun i =>
    s.isSet (F.PKEY_MAP_VALID i) && decide (s.get (F.PKEY_MAP_TENANT i) ≠ 0) &&
      decide (s.get (F.PKEY_MAP_PKEY_PART i) = pkey % 2 ^ 15) && decide (pkey % 2 ^ 15 ≠ 0x7FFF)

/-- The binding of a P_Key, or none at check BINDING; a limited member is read-only (R89). -/
def State.pkeyBinding (pkey : Nat) (s : State) : Option Binding :=
  match s.pkeyIndex pkey with
  | some i =>
    let t := s.get (F.PKEY_MAP_TENANT i)
    if s.tenantActive t then some ⟨t, s.isSet (F.PKEY_MAP_ADMIN i), decide (pkey / 2 ^ 15 % 2 = 0)⟩ else none
  | none => none

/-! Serving (R69). -/

/-- The controller serves a side: its own in the serving modes, the partner's in TAKEOVER as well. -/
def State.serves (sd : Nat) (s : State) : Bool :=
  s.mode.serving && (decide (sd = s.side) || decide (s.mode = .takeover))

/-! The checks of Table 2.8. -/

/-- The request paths of ADR_LAST_REFUSE. -/
inductive Path where
  | cxl | rdma | ring | cqp | guest
  deriving DecidableEq, Repr

/-- A queue key names a ring pair. -/
def isRing (q : Nat) : Bool := decide (q < 4096)
/-- The request path of a queue (R94). -/
def queuePath (q : Nat) : Path := if isRing q then .ring else .cqp
/-- The INGRESS a queue's refusals carry (Table 2.12): the logical device of a ring. -/
def queueIngress (q : Nat) : Nat := if isRing q then q / 64 else 0

/-- The PATH code of a path (Table 2.12). -/
def Path.code : Path → Nat
  | .cxl => 0 | .rdma => 1 | .ring => 2 | .cqp => 3 | .guest => 4

/-- Checks 3 to 8 of Table 2.8 of the range of `len` bytes at pair address `a`: 0 when all pass, else the order number of
the first that fails. -/
def State.rangeCheck (b : Binding) (a len : Nat) (write : Bool) (rkey : Option Nat) (s : State) : Nat :=
  if !s.serves (sideOf a) then 3
  else match s.directory (sideOf a) (slotOf a) with
    | none => 4
    | some i =>
      let r := s.region i
      if regionBase i r + r.bytes < a + len ∨ 2 ^ 49 ≤ a then 4
      else if r.state = 2 then 5
      else if (match rkey with
               | some k => decide (k ≠ r.nonce * 2 ^ 13 + i)
               | none => false) then 6
      else if r.tenant ≠ b.tenant ∨ i % 4096 = 0 then 7
      else if write ∧ (r.readOnly ∨ b.readOnly) then 8
      else 0

/-- All checks of Table 2.8, with the binding found at ingress. -/
def State.check (b : Option Binding) (a len : Nat) (write : Bool) (rkey : Option Nat) (s : State) : Nat :=
  if !s.mode.serving then 1
  else match b with
    | none => 2
    | some b => s.rangeCheck b a len write rkey

/-- A refusal at a check: counted, held in ADR_LAST_REFUSE when that is free, and ACCESS_REFUSED raised for checks 2 to 8
(R94, R99). -/
def State.refuse (p : Path) (chk tenant ingress a : Nat) (s : State) : State :=
  let t := if chk ≤ 2 then 0 else tenant
  let s1 := s.bump F.ADR_REFUSE_COUNT_COUNT 1
  let s2 := if s1.isSet F.ADR_LAST_REFUSE_VALID then s1
    else s1.put F.ADR_LAST_REFUSE_VALID 1 |>.put F.ADR_LAST_REFUSE_CHECK chk |>.put F.ADR_LAST_REFUSE_PATH p.code
      |>.put F.ADR_LAST_REFUSE_TENANT t |>.put F.ADR_LAST_REFUSE_INGRESS ingress
      |>.put F.ADR_LAST_REFUSE_ADDR_PAIR_ADDR (a % 2 ^ 49)
  if 2 ≤ chk then s2.raise Ev.ACCESS_REFUSED [chk, p.code, t, a] else s2

/-! Ascending lists. -/

/-- A number put into an ascending list. -/
def insertAsc (x : Nat) : List Nat → List Nat
  | [] => [x]
  | y :: t => if x ≤ y then x :: y :: t else y :: insertAsc x t

/-- A list in ascending order. -/
def sortAsc (l : List Nat) : List Nat := l.foldr insertAsc []

/-- The elements of a list, each once. -/
def onceEach (l : List Nat) : List Nat := l.foldl (fun t x => if t.contains x then t else t ++ [x]) []

end Sys2Proof.Machine
end

