-- ==== Sys2Proof/Machine/Crypto.lean ====
section
/-! DEFINITION. What the spec builds on AES-256, SHA-384 and SHA-256: XTS and the line tag (R311, R312), AES-256-GCM, HKDF, and the keys
derived with it (R310, R329, R334, R418), the witness MAC (R420), and the codewords of DRAM and flash with P and Q (R303, R385, R390). A string of
bytes is a list; a key, a block or a digest is a number, its first byte lowest. -/

namespace Sys2Proof.Machine

open Sys2Proof

/-- Bytes as a number, the first one lowest. -/
def ofLe (bs : List Nat) : Nat := bs.foldr (fun b n => b % 256 + 256 * n) 0

/-- The ASCII bytes of a string. -/
def ascii (t : String) : List Nat := t.toList.map fun c => c.toNat % 256

/-- Bytes xored, as far as both go. -/
def xorBytes (a b : List Nat) : List Nat := List.zipWith (fun x y => x ^^^ y) a b

/-! GF(2^128), in which x^n is bit n. -/

/-- A field element times x, modulo x^128 + x^7 + x^2 + x + 1. -/
def double128 (t : Nat) : Nat := (2 * t) % 2 ^ 128 ^^^ (if t % 2 ^ 128 < 2 ^ 127 then 0 else 0x87)

/-- The product of two field elements. -/
def mul128 (x y : Nat) : Nat :=
  ((List.range 128).foldl (fun (r : Nat × Nat) i => (if y.testBit i then r.1 ^^^ r.2 else r.1, double128 r.2)) (0, x)).1

/-- The bits of each byte of a block in the opposite order: GHASH counts them so. -/
def mirrorBlock (x : Nat) : Nat := (List.range 128).foldl (fun v i => if x.testBit i then v ||| 2 ^ (8 * (i / 8) + (7 - i % 8)) else v) 0

/-- GHASH of blocks under `h`. -/
def ghash (h : Nat) (blocks : List Nat) : Nat :=
  mirrorBlock (blocks.foldl (fun y b => mul128 (y ^^^ mirrorBlock b) (mirrorBlock h)) 0)

/-- The length block of AES-GCM: the bits of AAD and of ciphertext. -/
def lengthBlock (aad cipher : Nat) : Nat := ofLe ((leBytes 8 aad).reverse ++ (leBytes 8 cipher).reverse)

/-- Bytes as blocks of 16 B, the last one filled with zeros. -/
def blocksOf (bs : List Nat) : List Nat := (List.range ((bs.length + 15) / 16)).map fun i => ofLe ((bs.drop (16 * i)).take 16)

/-! A line's ciphertext and tag (R311, R312). `keys`: K1, K2 and KT, K1 lowest. -/

/-- The tweak of a line, and the block A of its tag (R311, R312). -/
def lineBlock (line gen : Nat) : Nat := line % 2 ^ 41 + gen % 2 ^ 32 * 2 ^ 64

/-- Blocks under XTS from the tweak `t` on, the first one lowest. -/
def xtsBlocks (k1 : Nat) : Nat → Nat → Nat → Nat
  | 0, _, _ => 0
  | n + 1, t, p => ((Config.aes256 k1 (p % 2 ^ 128 ^^^ t)).toNat ^^^ t) + 2 ^ 128 * xtsBlocks k1 n (double128 t) (p / 2 ^ 128)

/-- A line encrypted: XTS-AES-256 over its 16 blocks (R311). -/
def xtsLine (keys line gen : Nat) (d : LineData) : LineData :=
  BitVec.ofNat 2048 (xtsBlocks (keys % 2 ^ 256) 16 (Config.aes256 (keys / 2 ^ 256 % 2 ^ 256) (lineBlock line gen)).toNat d.toNat)

/-- The tag of a line's ciphertext (R312). -/
def lineTag (keys line gen : Nat) (c : LineData) : Nat :=
  let kt := keys / 2 ^ 512 % 2 ^ 256
  let a := lineBlock line gen
  let s := ghash (Config.aes256 kt 0).toNat (a :: (List.range 16).map (fun j => c.toNat / 2 ^ (128 * j) % 2 ^ 128) ++ [lengthBlock 128 2048])
  (Config.aes256 kt (s ^^^ (a ||| 2 ^ 127))).toNat % 2 ^ 64

/-! AES-256-GCM of payloads, with an IV of 12 B. -/

/-- The key-stream block of a counter. -/
def gcmStream (key : Nat) (iv : List Nat) (n : Nat) : Nat :=
  (Config.aes256 key (ofLe (iv.take 12) + ofLe (leBytes 4 n).reverse * 2 ^ 96)).toNat

/-- A payload encrypted, or a ciphertext decrypted. -/
def gcmCrypt (key : Nat) (iv p : List Nat) : List Nat :=
  xorBytes p ((List.range ((p.length + 15) / 16)).flatMap fun i => leBytes 16 (gcmStream key iv (i + 2)))

/-- The GCM tag, 16 B. -/
def gcmTag (key : Nat) (iv aad cipher : List Nat) : List Nat :=
  leBytes 16 (gcmStream key iv 1 ^^^
    ghash (Config.aes256 key 0).toNat (blocksOf aad ++ blocksOf cipher ++ [lengthBlock (8 * aad.length) (8 * cipher.length)]))

/-- A payload sealed: the ciphertext, then the tag. -/
def gcmSeal (key : Nat) (iv aad p : List Nat) : List Nat :=
  let c := gcmCrypt key iv p
  c ++ gcmTag key iv aad c

/-! HMAC and HKDF. -/

/-- HMAC with a hash of the given block size, for keys of at most one block. -/
def hmac (hash : List Nat → List Nat) (block : Nat) (key data : List Nat) : List Nat :=
  let k := key ++ List.replicate (block - key.length) 0
  hash (k.map (fun b => b ^^^ 0x5C) ++ hash (k.map (fun b => b ^^^ 0x36) ++ data))

/-- HMAC-SHA-384. -/
def hmac384 (key data : List Nat) : List Nat := hmac (fun b => leBytes 48 (Config.sha384 b).toNat) 128 key data

/-- The output blocks of HKDF, after block `t` with number `i`. -/
def hkdfBlocks (prk info : List Nat) : Nat → Nat → List Nat → List Nat
  | 0, _, _ => []
  | n + 1, i, t =>
    let u := hmac384 prk (t ++ info ++ [i % 256])
    u ++ hkdfBlocks prk info n (i + 1) u

/-- `n` bytes of HKDF-SHA-384. -/
def hkdf384 (n : Nat) (ikm salt info : List Nat) : Nat :=
  ofLe ((hkdfBlocks (hmac384 salt ikm) info ((n + 47) / 48) 1 []).take n)

/-! Keys. -/

/-- K1, K2 and KT of a generation (R310). -/
def lineKeys (master salt side gen : Nat) : Nat :=
  hkdf384 96 (leBytes 32 master) (leBytes 32 salt) (ascii "BXN-LINE" ++ leBytes 1 side ++ leBytes 4 gen)

/-- The key-encryption key (R329). -/
def kek : Nat := hkdf384 32 Config.deviceSecret [] (ascii "BXN-KEK")

/-- The image key of an IMAGE_SEQ (R287, R329). -/
def imageKey (seq : Nat) : Nat := hkdf384 32 (leBytes 32 kek) [] (ascii "BXN-IMAGE" ++ leBytes 4 seq)

/-- DEVICE_KEY_ID of a public key in uncompressed form (R329). -/
def keyIdOf (pub : Nat) : Nat := (Config.sha384 (leBytes 97 pub)).toNat % 2 ^ 64

/-- The master that a wrapped key set brings (R334): the ephemeral key, DEVICE_KEY_ID, the tenant, the IV and WRAPPED_MASTER. -/
def unwrapMaster (eph keyId tenant iv wrapped : Nat) : Nat :=
  let wk := hkdf384 32 (leBytes 48 (Config.deviceShared eph).toNat) (leBytes 8 keyId) (ascii "BXN-KP" ++ leBytes 2 tenant)
  ofLe (gcmCrypt wk (leBytes 12 iv) (leBytes 32 wrapped))

/-- A link key (R418): the own ephemeral private key, the partner's public one, NONCE of side 0 and of side 1, PAIR_ID and KEY_EPOCH. -/
def linkKeyOf (priv pub nonce0 nonce1 pairId epoch : Nat) : Nat :=
  hkdf384 32 (leBytes 48 (Config.p384Shared priv pub).toNat) (leBytes 32 nonce0 ++ leBytes 32 nonce1)
    (ascii "BXN-CWY" ++ leBytes 8 pairId ++ leBytes 1 epoch)

/-- MAC of a witness frame: the first 8 B of HMAC-SHA-256 under WITNESS_KEY (R420). -/
def witnessMac (key : Nat) (frame : List Nat) : Nat :=
  ofLe ((hmac (fun b => leBytes 32 (Config.sha256 b).toNat) 64 (leBytes 32 key) frame).take 8)

/-! Codewords. -/

/-- Codeword `k` of a line in DRAM, 160 B (R303, R307, Table 9.1): its data, its halves of TAG and LINE_STATE, and the check symbols. -/
def dramCodeword (k : Nat) (cipher : LineData) (tag state : Nat) : List Nat :=
  let m := leBytes 128 (cipher.toNat / 2 ^ (1024 * k)) ++ leBytes 4 (tag / 2 ^ (32 * k)) ++ leBytes 4 (state / 2 ^ (32 * k))
  m ++ leBytes 24 (Config.rsCheck m).toNat

/-- Codeword `c` of a flash page, 4,640 B (R385, Table 11.4): 4,096 B of data, the TAG and LINE_STATE of its 16 lines, ADDR, JSEQ, KIND, and the
parity. -/
def flashCodeword (c kind addr jseq : Nat) (data states : List Nat) : List Nat :=
  let m := data.take 4096 ++ states.take 256 ++ leBytes 8 addr ++ leBytes 8 jseq ++ [kind % 256, c % 4] ++ List.replicate 14 0
  m ++ leBytes 256 (Config.ldpcParity m).toNat

/-- A byte times g = 2 in GF(2^8), modulo x^8 + x^4 + x^3 + x^2 + 1 (R390). -/
def double8 (b : Nat) : Nat := 2 * b % 256 ^^^ (if b % 256 < 128 then 0 else 0x1D)

/-- P of a stripe's data codewords (R390). -/
def parityP : List (List Nat) → List Nat
  | [] => []
  | [d] => d
  | d :: t => xorBytes d (parityP t)

/-- Q of a stripe's data codewords, member 0 first (R390). -/
def parityQ : List (List Nat) → List Nat
  | [] => []
  | [d] => d
  | d :: t => xorBytes d ((parityQ t).map double8)

/-- A parity codeword: P or Q with its own LDPC parity (R390). -/
def parityCodeword (m : List Nat) : List Nat := m ++ leBytes 256 (Config.ldpcParity m).toNat

end Sys2Proof.Machine
end

