-- ==== Sys2Proof/Machine/Flags.lean ====
section
/-! DEFINITION. What the block computes from its state and shows in status fields: the dirty counts (R43, R44), the mirror
window (R21), DevLoad (R114), the media status of Table 3.6 and the bound logical devices. -/

namespace Sys2Proof.Machine

open Sys2Proof

/-! Dirty accounting (R43 to R45). -/

/-- Dirty lines in all stores of the Polder. -/
def State.dirtyLines (s : State) : Nat := (s.lines.filter fun e => e.2.dirty).length

/-- Dirty lines of the partner's side. -/
def State.dirtyMirrorLines (s : State) : Nat :=
  (s.lines.filter fun e => e.2.dirty && decide (sideOf (e.1 * 256) ≠ s.side)).length

/-- Dirty lines whose newest value is in the front cache; a line in the victim buffer is in the home-agent queue (R58, R202). -/
def State.dirtyFrontLines (s : State) : Nat :=
  (s.lines.filter fun e => e.2.dirty && (Sparse.get {} e.1 s.front).frontDirty).length

/-- Dirty bytes (R44). -/
def State.dirtyBytes (s : State) : Nat := s.dirtyLines * 256

/-- Freeboard D in bytes (R261: a whole number of GiB). -/
def State.freeboard (s : State) : Nat := s.get F.FB_STATUS_FREEBOARD_GIB * 2 ^ 30

/-- The peak of the dirty count, kept up (R59). -/
def State.notePeak (s : State) : State :=
  let n := s.dirtyLines
  if s.get F.PLD_DIRTY_PEAK_LINES_LINES < n then s.put F.PLD_DIRTY_PEAK_LINES_LINES n else s

/-! The mirror window (R21, R60, R65). -/

/-- Mirror-pending lines. -/
def State.pendingLines (s : State) : Nat := (s.lines.filter fun e => decide (e.2.pend ≠ 0)).length

/-- The mirror window in lines (Table 1.20). -/
def State.windowLines (s : State) : Nat :=
  match s.get F.PLD_CFG_MIRROR_WINDOW with
  | 0 => 65536
  | 1 => 131072
  | _ => 262144

/-- The mirror window is full. -/
def State.windowFull (s : State) : Bool := decide (s.windowLines ≤ s.pendingLines)

/-- How a line is mirrored now (Table 1.4): not at all, with its writes twin-durable on acknowledgement, or forwarded. -/
inductive Mirroring where
  | none | twin | forward
  deriving DecidableEq, Repr

/-- A catch-up is in progress, or done and not yet ended by the handback (STATE RECORDS, COPYING or DONE of Table 12.17). -/
def State.catchingUp (s : State) : Bool :=
  decide (1 ≤ s.get F.CW_CATCHUP_STATUS_STATE) && decide (s.get F.CW_CATCHUP_STATUS_STATE ≤ 3)

/-- The mirroring of a line by mode and side (Table 1.4). -/
def State.mirroringOf (line : Nat) (s : State) : Mirroring :=
  let own := decide (sideOf (line * 256) = s.side)
  if !s.cw.linkKey then .none
  else if s.mode.twin then (if own then .twin else .none)
  else match s.mode with
    | .resync => if own then .forward else .none
    | .takeover => if s.catchingUp then .forward else .none
    | _ => .none

/-- Writes complete at twin durability in a TWIN_COMPLETE region: mirroring is in force and TWIN_COMPLETE not suspended
(Table 1.3, R24). -/
def State.twinComplete (line : Nat) (s : State) : Bool :=
  decide (s.mirroringOf line = .twin) && !s.isSet F.PLD_DUR_STATE_TWIN_COMPLETE_SUSPENDED &&
    (match s.regionOfLine line with
     | some i => (s.region i).twinComplete
     | none => false)

/-! The host view (Tables 3.5 and 3.6). -/

/-- DevLoad by the first row of Table 3.5 that holds: 3 Severe, 2 Moderate, 1 Optimal, 0 Light. -/
def State.devLoad (s : State) : Nat :=
  let b := s.dirtyBytes
  let d := s.freeboard
  if s.get F.SLU_STATUS_STATE ≠ 0 ∨ s.isSet F.TH_STATUS_REQUESTED then 3
  else if 3 * d ≤ 4 * b ∨ s.isSet F.TH_STATUS_WARNING then 2
  else if d ≤ 2 * b then 1
  else 0

/-- DevLoad noted when it changes: its history over the last 1 ms, oldest first, with the value before it. -/
def State.noteLoad (s : State) : State :=
  let last := (s.loadHist.getLast?.map (·.2)).getD 0
  let s1 := s.put F.CXL_GLOBAL_STATUS_DEVLOAD s.devLoad
  if s.devLoad = last then s1
  else
    let old := s.loadHist.filter fun e => decide (e.1 + msFc 1 < s.now)
    let recent := s.loadHist.filter fun e => decide (s.now ≤ e.1 + msFc 1)
    { s1 with loadHist := old.drop (old.length - 1) ++ recent ++ [(s.now, s.devLoad)] }

/-- The integral of DevLoad from `from_` to `to_` over its changes, given the value before them. -/
def loadIntegral (from_ to_ : Nat) : Nat → List (Nat × Nat) → Nat
  | v, [] => v * (to_ - from_)
  | v, e :: t =>
    if e.1 ≤ from_ then loadIntegral from_ to_ e.2 t
    else v * (min e.1 to_ - from_) + loadIntegral (min e.1 to_) to_ e.2 t

/-- DevLoad averaged over the last 1 ms (R107), rounded down (log entry 25). -/
def State.devLoadAverage (s : State) : Nat := loadIntegral (s.now - msFc 1) s.now 0 s.loadHist / msFc 1

/-- The logical devices that are bound (R119). -/
def State.boundLds (s : State) : List Nat := (List.range 64).filter fun n => s.ldBound n

/-- A shutdown is in progress in SOLO: no host request is accepted (R551). -/
def State.stopping (s : State) : Bool := s.isSet F.PWR_STATUS_STOPPING

/-- Memory Active of a logical device brought in line with the mode, its link and its binding (Table 3.6, R119, R121). -/
def State.setActive (n : Nat) (s : State) : State :=
  let up := match s.linkOfLd n with
    | some l => s.linkUp l
    | none => false
  s.put (F.CXL_LD_STATUS_MEMORY_ACTIVE n) (flag (s.mode.serving && !s.stopping && s.ldBound n && up))

/-- Media status by mode (Table 3.6): unchanged in SAVE. -/
def State.mediaStatus (s : State) : Nat :=
  if s.mode = .save then s.ssb.mediaHeld
  else if s.mode.serving then 1 else if s.mode = .quarantine then 2 else 0

/-- Home-agent queue entries of a home in use: accepted writes not yet written back to and read, those that wait for their line, each
once, and victim lines (R202, R205). -/
def State.queueUsed (home : Nat) (s : State) : Nat :=
  (s.writes.filter fun w => decide (homeOf w.line = home) && !w.done20 &&
    !(s.merges.any fun m => decide (m.line = w.line) && decide (m.src = w.src))).length +
    (s.merges.filter fun m => decide (homeOf m.line = home)).length +
    (s.victims.filter fun v => decide (homeOf v = home)).length

/-- SAVE and QUARANTINE withhold every CXL.mem credit (R53, R115). -/
def State.frozenMode (s : State) : Bool := decide (s.mode = .save) || decide (s.mode = .quarantine)

/-- CXL.mem credits are withheld: in a frozen mode and by a fenced controller (R52, R53, R115), while a shutdown is in progress (R551), and
for a cutover (R435). -/
def State.withheld (s : State) : Bool := s.frozenMode || s.fenced || s.stopping || s.cw.withheld

/-- CXL.mem requests of a logical device are withheld: with the others, or for the handback of the partner's side (R439). -/
def State.ldWithheld (n : Nat) (s : State) : Bool := s.withheld || (s.cw.sideFence && s.isSet (F.LD_MAP_DORMANT n))

end Sys2Proof.Machine
end

