-- ==== Sys2Proof/Machine/Kerup.lean ====
section
/-! DEFINITION. What the hub sends to the guest (R449 to R452): message classes, the credits that gate them, and the requests a message
answers. -/

namespace Sys2Proof.Machine

open Sys2Proof

/-- The guest site is fitted: a BXN7240-G (R3). -/
def State.guestFitted (s : State) : Bool := decide (s.get F.ID_VARIANT_ORDER_CODE = 1)

/-- The class of a message (Table 13.6). -/
def KMsg.cls : KMsg → Nat
  | .cmpOk _ _ => 2
  | .cmpErr _ _ => 2
  | .regData _ _ => 2
  | .data _ _ _ => 3
  | .submit _ _ _ _ _ => 1
  | .regRd _ _ => 0
  | .regWr _ _ _ => 0
  | .abort _ => 0
  | .revoked _ => 0
  | .echo _ => 0

/-- The credits a message takes (R452). -/
def KMsg.cost : KMsg → Nat
  | .data _ line _ => if line then 4 else 1
  | _ => 1

/-- The guest's tag a message answers. -/
def KMsg.answers : KMsg → Option Nat
  | .cmpOk t _ => some t
  | .cmpErr t _ => some t
  | .regData t _ => some t
  | .data t _ _ => some t
  | _ => none

/-- The unanswered request of a module with a tag. -/
def State.guestReq (p tag : Nat) (s : State) : Option GuestReq := s.kg.reqs.find? fun r => decide (r.port = p) && decide (r.tag = tag)

/-- OUTSTANDING of every grant: the requests past check 2 that are not answered (Table 13.12). -/
def State.countGrant (g : Option Nat) (s : State) : State :=
  match g with
  | some n => s.put (F.KG_GRANT_W3_OUTSTANDING n) (s.kg.reqs.filter fun r => decide (r.grant = some n)).length
  | none => s

/-- A request of the guest noted as unanswered. -/
def State.addReq (r : GuestReq) (s : State) : State :=
  ({ s with kg := { s.kg with reqs := s.kg.reqs ++ [r] } }).countGrant r.grant

/-- The requests that satisfy `p` are no longer unanswered. -/
def State.dropReqs (p : GuestReq → Bool) (s : State) : State :=
  let gone := s.kg.reqs.filter p
  ({ s with kg := { s.kg with reqs := s.kg.reqs.filter fun r => !p r } }).forEach gone fun r a => a.countGrant r.grant

/-- A message leaves for guest module `p`: its credits are taken and the request it answers is done. -/
def State.kerupDeliver (p : Nat) (m : KMsg) (s : State) : State :=
  let k := p * 4 + m.cls
  let s1 := ({ s with kg := { s.kg with credits := Sparse.set 0 k (Sparse.get 0 k s.kg.credits - m.cost) s.kg.credits } }).emit (.kerup p m)
  match m.answers with
  | some t => s1.dropReqs fun r => decide (r.port = p) && decide (r.tag = t)
  | none => s1

/-- The guest module a request came in on. -/
def Src.guestPort : Src → Option Nat
  | .guest p _ => some p
  | _ => none

/-- A message of a class received from guest module `p`: it takes `n` credits of the hub's own buffer (R452). -/
def State.hubTakes (p cls n : Nat) (s : State) : State :=
  let k := p * 4 + cls
  { s with kg := { s.kg with taken := Sparse.set 0 k (Sparse.get 0 k s.kg.taken + n) s.kg.taken } }

/-- The hub grants its whole buffers afresh: 256 REQ, 1,024 WDAT and 256 CMP credits (R452). -/
def State.hubGrants (p : Nat) (s : State) : State :=
  let s1 := { s with kg := { s.kg with taken := s.kg.taken.filter fun (e : Nat × Nat) => decide (e.1 / 4 ≠ p) } }
  ((s1.emit (.kerupCredit p 0 256)).emit (.kerupCredit p 1 1024)).emit (.kerupCredit p 2 256)

/-- What of guest module `p`'s messages of a class still stands in the hub's buffer: reads and writes that no home agent has accepted. -/
def State.hubHolds (p cls : Nat) (s : State) : Nat :=
  s.ingress.foldl (fun n r => match r with
    | .read q => if cls = 0 ∧ q.src.guestPort = some p then n + 1 else n
    | .write w => if cls = 1 ∧ w.src.guestPort = some p then n + (if w.mask = fullMask then 4 else 1) else n) 0

/-- The credits of the messages that have left the hub's buffers returned (R452). -/
def State.returnCredits (s : State) : State :=
  s.forEach s.kg.taken fun (e : Nat × Nat) a =>
    let p := e.1 / 4
    let held := a.hubHolds p (e.1 % 4)
    if e.2 ≤ held then a
    else ({ a with kg := { a.kg with taken := Sparse.set 0 e.1 held a.kg.taken } }).emit (.kerupCredit p (e.1 % 4) (e.2 - held))

/-- STATE of guest module `p`'s link: 0 DOWN, 1 TRAINING, 2 UP, 3 L1. -/
def State.guestLink (p : Nat) (s : State) : Nat := s.get (F.KG_MOD_STATUS_STATE (10 + p))

/-- A message may leave: its link is up and it holds its credits. -/
def State.kerupReady (p : Nat) (m : KMsg) (s : State) : Bool :=
  decide (s.guestLink p = 2) && decide (m.cost ≤ Sparse.get 0 (p * 4 + m.cls) s.kg.credits)

/-- A message for guest module `p`: sent while it holds credits and none of its class waits, held otherwise; dropped while the link is
down (R452, R454). -/
def State.kerupSend (p : Nat) (m : KMsg) (s : State) : State :=
  if s.guestLink p < 2 then s
  else if s.kerupReady p m && !(s.kg.held.any fun (h : Nat × KMsg) => decide (h.1 = p) && decide (h.2.cls = m.cls)) then s.kerupDeliver p m
  else { s with kg := { s.kg with held := s.kg.held ++ [(p, m)] } }

/-- The messages held for guest module `p` sent in their order within each class, as far as credits reach. -/
def State.kerupPump (p : Nat) (s : State) : State :=
  let all := s.kg.held
  ({ s with kg := { s.kg with held := [] } }).forEach all fun (h : Nat × KMsg) a =>
    if h.1 = p then a.kerupSend p h.2 else { a with kg := { a.kg with held := a.kg.held ++ [h] } }

/-- The completion code of a status (Table 13.7). -/
def guestCode (status : Nat) : Nat :=
  if status = 0x30 then 0x10 else if status = 0x31 then 0x11 else if status = 0x32 then 0x12 else if status = 0x11 then 0x13 else status

/-- The mirror frame of a guest write noted for the operation it was made under (R35). -/
def State.guestNote (p tag seq : Nat) (s : State) : State :=
  match s.guestReq p tag with
  | some r =>
    if r.handle = 0 then s
    else { s with kg := { s.kg with ops := s.kg.ops.map fun o => if o.sent ∧ o.handle = r.handle then { o with mseq := max o.mseq seq } else o } }
  | none => s

end Sys2Proof.Machine
end

