-- ==== Sys2Proof/Machine/Channels.lean ====
section
/-! DEFINITION. Pages, frames and the DRAM channels as the data path sees them: where a line lies (R222, R227, R351 to R353), and the read
and write queues of a channel (R357, R358, R360). -/

namespace Sys2Proof.Machine

open Sys2Proof

/-! Pages, extents and where a line lies in DRAM (R222, R227, R351 to R353). -/

/-- A page. -/
def State.page (p : Nat) (s : State) : Page := Sparse.get {} p s.cul.pages
/-- A page, set. -/
def State.setPage (p : Nat) (g : Page) (s : State) : State :=
  { s with cul := { s.cul with pages := Sparse.set {} p g s.cul.pages } }
/-- An extent record. -/
def State.extent (x : Nat) (s : State) : Extent := Sparse.get {} x s.cul.extents
/-- An extent record, set. -/
def State.setExtent (x : Nat) (e : Extent) (s : State) : State :=
  { s with cul := { s.cul with extents := Sparse.set {} x e s.cul.extents } }

/-- The frame in which a line lies: its extent's, or the new one once a drain has moved its page there (R368). -/
def State.frameOf (line : Nat) (s : State) : Option Nat :=
  let x := extentOfPage (pageOfLine line)
  match (s.dram.moving.find? fun e => decide (e.1 = x)) with
  | some m => if m.2.2.contains (pageOfLine line % 128) then some m.2.1 else (s.extent x).frame
  | none => (s.extent x).frame

/-- The channel, logical rank, bank group, bank, row and column of a line (Table 10.2), by its extent's frame; nothing for an
extent without a frame. -/
def State.lineLocation (line : Nat) (s : State) : List Nat :=
  match s.frameOf line with
  | none => []
  | some f =>
    let c := f % 16
    let ranks := max 1 (s.get (F.CH_STATUS_LOGICAL_RANKS c))
    let g := Sparse.get 0 c s.dram.base + f / 16 * 128 + pageOfLine line % 128
    let l := line % 64
    if s.get (F.CH_STATUS_WIDTH c) = 0 then [c, g / 32 % ranks, g % 8, g / 8 % 4, g / (32 * ranks), 32 * l]
    else [c, g / 32 % ranks, (g % 8) ^^^ (if l < 32 then 0 else 4), g / 8 % 4, g / (16 * ranks), 32 * (l % 32)]

/-- The channel of a line. -/
def State.channelOf (line : Nat) (s : State) : Nat := (s.lineLocation line).headD 0

/-- The frames in use on a channel, by local index. -/
def State.usedFrames (c : Nat) (s : State) : List Nat :=
  let on (f : Nat) : Option Nat := if f % 16 = c then some (f / 16) else none
  (s.cul.extents.filterMap fun e => match e.2.frame with
    | some f => on f
    | none => none) ++ s.dram.reservedFrames.filterMap on ++ s.dram.moving.filterMap fun e => on e.2.1

/-- CUL_FRAMES_FREE brought in line: the free frames of the channels IN_SERVICE. -/
def State.syncFree (s : State) : State :=
  s.put F.CUL_FRAMES_FREE_COUNT ((List.range 16).foldl (fun n c =>
    if s.get (F.CH_STATUS_STATE c) = 2 then n + (s.get (F.CH_FRAMES_COUNT c) - (s.usedFrames c).length) else n) 0)

/-- The next frame the Culvert assigns: from the next channel IN_SERVICE, in round-robin order, that has a free frame (R351);
the lowest free local index (log entry 23). -/
def State.nextFrame (s : State) : Option Nat :=
  (List.range 16).findSome? fun k =>
    let c := (s.cul.nextChannel + k) % 16
    let used := s.usedFrames c
    if s.get (F.CH_STATUS_STATE c) = 2 ∧ used.length < s.get (F.CH_FRAMES_COUNT c) then
      ((List.range (used.length + 1)).find? fun i => !used.contains i).map fun i => i * 16 + c
    else none

/-! The channel queues (R357, R358). -/

/-- What a channel's queues hold for it, under its number. -/
def State.readQueue (c : Nat) (s : State) : List DramReq := Sparse.get [] c s.dram.readQ
/-- The writes a channel's queue holds. -/
def State.writeQueue (c : Nat) (s : State) : List DramReq := Sparse.get [] c s.dram.writeQ

/-- A bank's number from the location of a line: (channel × 8 + rank) × 32 + bank group × 4 + bank. -/
def bankOf (c r g b : Nat) : Nat := (c * 8 + r) * 32 + g * 4 + b

/-- The write drain of a channel brought in line (rule 2 of R357): from 48 entries, or a write that has waited more than 10 µs, down to 16. -/
def State.syncDrain (c : Nat) (s : State) : State :=
  let ws := s.writeQueue c
  let rest := s.dram.draining.filter fun x => decide (x ≠ c)
  let on := decide (16 < ws.length) &&
    (decide (48 ≤ ws.length) || (ws.any fun w => decide (w.at_ + usFc 10 < s.now)) || s.dram.draining.contains c)
  { s with dram := { s.dram with draining := if on then rest ++ [c] else rest } }

/-- A request hits the open row of its bank. -/
def State.rowHit (q : DramReq) (s : State) : Bool := decide (Sparse.get 0 q.bank s.dram.openRows = q.row + 1)

/-- The request a channel selects next, and whether it is a write (R357): one that has waited more than 2 µs, oldest first; else reads, or
writes during a drain, those that hit an open row first; a write does not pass an older read of its line (R358). -/
def State.channelNext (c : Nat) (s : State) : Option (Bool × DramReq) :=
  let rs := s.readQueue c
  let ws := (s.writeQueue c).filter fun w => !(rs.any fun r => decide (r.line = w.line) && decide (r.id < w.id))
  let late (q : DramReq) : Bool := decide (q.at_ + usFc 2 < s.now)
  let older (x y : Option (Bool × DramReq)) : Option (Bool × DramReq) :=
    match x, y with
    | some a, some b => if b.2.id < a.2.id then some b else some a
    | some a, none => some a
    | none, b => b
  let pick (w : Bool) (l : List DramReq) : Option (Bool × DramReq) := ((l.find? fun q => s.rowHit q).orElse fun _ => l.head?).map fun q => (w, q)
  match older ((rs.find? late).map fun q => (false, q)) ((ws.find? late).map fun q => (true, q)) with
  | some x => some x
  | none => if s.dram.draining.contains c then (pick true ws).orElse fun _ => pick false rs else (pick false rs).orElse fun _ => pick true ws

/-- The commands of a selected request: its rank awake, its row opened in place of another, and Refresh Management when the bank's
activate count reaches the threshold that the DRAM reports (R357, R360; log entry 148). -/
def State.accessRow (q : DramReq) (s : State) : State :=
  let s1 := { s with dram := { s.dram with ranks := Sparse.set 0 (q.bank / 32) 0 s.dram.ranks } }
  if s1.rowHit q then s1
  else
    let n := Sparse.get 0 q.bank s1.dram.acts + 1
    { s1 with dram := { s1.dram with
        openRows := Sparse.set 0 q.bank (q.row + 1) s1.dram.openRows
        acts := Sparse.set 0 q.bank (if Config.rfmThreshold ≤ n then 0 else n) s1.dram.acts } }

/-- A request selected: it leaves its queue. -/
def State.selectReq (c : Nat) (w : Bool) (q : DramReq) (s : State) : State :=
  let out (l : List DramReq) : List DramReq := l.filter fun x => decide (x.id ≠ q.id)
  let s1 := if w then { s with dram := { s.dram with writeQ := Sparse.set [] c (out (s.writeQueue c)) s.dram.writeQ } }
    else { s with dram := { s.dram with readQ := Sparse.set [] c (out (s.readQueue c)) s.dram.readQ } }
  (s1.accessRow q).syncDrain c

/-- Requests selected in the channel's order until one under an id has been, at most `n` of them. -/
def State.selectUpTo (c id : Nat) : Nat → State → State
  | 0, s => s
  | n + 1, s =>
    if (s.readQueue c).any (fun q => decide (q.id = id)) || (s.writeQueue c).any fun q => decide (q.id = id) then
      match s.channelNext c with
      | some x => selectUpTo c id n (s.selectReq c x.1 x.2)
      | none => s
    else s

/-- Every request of a channel selected, in its order. -/
def State.selectAll (c : Nat) : Nat → State → State
  | 0, s => s
  | n + 1, s => match s.channelNext c with
    | some x => selectAll c n (s.selectReq c x.1 x.2)
    | none => s

/-- Room made in a channel's read or write queue of 64 entries. -/
def State.queueRoom (c : Nat) (w : Bool) : Nat → State → State
  | 0, s => s
  | n + 1, s =>
    if (if w then s.writeQueue c else s.readQueue c).length < 64 then s
    else match s.channelNext c with
      | some x => queueRoom c w n (s.selectReq c x.1 x.2)
      | none => s

/-- An access to a line in DRAM enters its channel's queue, once there is room; a read that finds a write to its line queued is served from
that entry, and one that finds a read joins it (R357, R358). -/
def State.enqueue (w : Bool) (line : Nat) (s : State) : State :=
  match s.lineLocation line with
  | [c, r, g, b, row, _] =>
    let same (q : DramReq) : Bool := decide (q.line = line)
    if !w && ((s.writeQueue c).any same || (s.readQueue c).any same) then s
    else
      let s1 := (s.syncDrain c).queueRoom c w 128
      let q : DramReq := { id := s1.dram.nextReq, line := line, bank := bankOf c r g b, row := row, at_ := s1.now }
      let d := { s1.dram with nextReq := s1.dram.nextReq + 1 }
      ({ s1 with dram := if w then { d with writeQ := Sparse.set [] c (s1.writeQueue c ++ [q]) d.writeQ }
                         else { d with readQ := Sparse.set [] c (s1.readQueue c ++ [q]) d.readQ } }).syncDrain c
  | _ => s

/-- The access of a line has been carried out: what the channel selects before it has been too. -/
def State.served (w : Bool) (line : Nat) (s : State) : State :=
  let c := s.channelOf line
  match ((if w then s.writeQueue c else s.readQueue c).find? fun q => decide (q.line = line)) with
  | some q => s.selectUpTo c q.id 128
  | none => s

/-- A channel that fails or leaves service holds no access. -/
def State.dropQueues (c : Nat) (s : State) : State :=
  { s with dram := { s.dram with readQ := Sparse.set [] c [] s.dram.readQ, writeQ := Sparse.set [] c [] s.dram.writeQ
                                 draining := s.dram.draining.filter fun x => decide (x ≠ c)
                                 openRows := s.dram.openRows.filter fun e => decide (e.1 / 256 ≠ c) } }

/-- The rows of a logical rank closed: by a refresh, or as it enters power-down or self-refresh (R357, R360). -/
def State.closeRows (c r : Nat) (s : State) : State :=
  { s with dram := { s.dram with openRows := s.dram.openRows.filter fun e => decide (e.1 / 32 ≠ c * 8 + r) } }

/-- A rank in power-down or self-refresh woken (R360): by its channel × 8 + logical rank. -/
def State.wakeRank (line : Nat) (s : State) : State :=
  match s.lineLocation line with
  | c :: r :: _ => { s with dram := { s.dram with ranks := Sparse.set 0 (c * 8 + r) 0 s.dram.ranks } }
  | _ => s

end Sys2Proof.Machine
end

