-- ==== Sys2Proof/Machine/Access.lean ====
section
/-! DEFINITION. The data path shared by every family: host event records (R129), mirror frames (R413), the front cache
(R203 to R206), page states (R227 to R233), the acceptance of a write (R17) and the service of a read (R22, R313). -/

namespace Sys2Proof.Machine

open Sys2Proof

/-! Host event records (R129, R130). -/

/-- The log a host record cause goes to (Table 3.11): 0 Informational, 1 Warning, 2 Failure. -/
def logOfCause (c : Nat) : Nat :=
  if c = 5 ∨ c = 6 ∨ c = 0x10 ∨ c = 0x12 then 1
  else if c = 0x11 ∨ (0x13 ≤ c ∧ c ≤ 0x15) then 0 else 2

/-- A token of a bucket of 16, refilled at 1 per second: the bucket after the request, and whether it was granted. -/
def bucketTake (now used at_ : Nat) : Option (Nat × Nat) :=
  let k := (now - at_) / secFc 1
  let u := used - k
  let a := if u = 0 then now else at_ + k * secFc 1
  if u < 16 then some (u + 1, a) else none

/-- A record placed in the log of a logical device: dropped and counted as overflow when the log holds 256 records, held to
16 and 1 per second for ACCESS_REFUSED and STALL_CEILING, with the MSI-X vector of the log when its policy says so. -/
def State.placeRecord (n cause source region tenant value : Nat) (dpa : Option Nat) (dram : List Nat)
    (onWrite : Bool) (s : State) : State :=
  let d := s.ld n
  let take : Option LdState :=
    if cause = 6 then (bucketTake s.now d.accUsed d.accAt).map fun b => { d with accUsed := b.1, accAt := b.2 }
    else if cause = 5 then (bucketTake s.now d.stallUsed d.stallAt).map fun b => { d with stallUsed := b.1, stallAt := b.2 }
    else some d
  match take with
  | none => s
  | some d1 =>
    let k := logOfCause cause
    let log := d1.logs.getD k {}
    if log.recs.length < 256 then
      let h := d1.handle % 65535 + 1
      let stamp := if d1.stampSet then d1.timestamp + (s.now - d1.stampAt) / 2 else 0
      let r : HostRec := { cause := cause, source := source, region := region, tenant := tenant, value := value,
                           dpa := dpa, dram := dram, onWrite := onWrite, stamp := stamp, handle := h }
      let s1 := (s.setLd n { d1 with handle := h, logs := d1.logs.set k { log with recs := log.recs ++ [r] } }).emit
        (.hostRecord n k r)
      s1.when (decide (d1.irqPolicy / 2 ^ (8 * k) % 4 = 1)) (State.msix n (k + 1))
    else s.setLd n { d1 with logs := d1.logs.set k { log with overflow := log.overflow + 1 } }

/-- REGION of the component identifier: the region number, the side and the valid bit (Table 3.10). -/
def recRegion (idx : Nat) : Nat := idx % 4096 + (idx / 4096) * 2 ^ 12 + 2 ^ 15

/-- A record for one line: to every bound logical device whose window contains the line and whose tenant owns it (R129). -/
def State.recordLine (cause source line value : Nat) (onWrite : Bool) (s : State) : State :=
  match s.regionOfLine line with
  | none => s
  | some i =>
    let t := (s.region i).tenant
    s.forEach s.boundLds fun n a =>
      match a.winDpa n line with
      | some d =>
        if a.get (F.LD_MAP_TENANT n) = t then a.placeRecord n cause source (recRegion i) t value (some d)
          (if cause = 2 then a.lineLocation line else []) onWrite else a
      | none => a

/-- A record for one line sent to one logical device: the sender of the request (R94, R118). -/
def State.recordTo (n cause source line value : Nat) (onWrite : Bool) (s : State) : State :=
  let i := s.regionOfLine line
  s.placeRecord n cause source ((i.map recRegion).getD 0) (s.get (F.LD_MAP_TENANT n)) value (s.winDpa n line) [] onWrite

/-- A device-wide record: to every bound logical device. -/
def State.recordAll (cause source value : Nat) (s : State) : State :=
  s.forEach s.boundLds fun n a => a.placeRecord n cause source 0 0 value none [] false

/-! Mirror frames (R412 to R416). -/

/-- The line entries a frame carries, which credits bound (R416). -/
def frameLines : CwBody → Nat
  | .lines es => es.length
  | .linesBg es => es.length
  | .window _ => 1
  | _ => 0

/-- Frames not yet sent leave in SEQ order while the receiver's credits admit their line entries (R416). -/
def State.pumpFrames : List (Nat × CwBody) → State → State
  | [], s => s
  | f :: t, s =>
    if f.1 ≤ s.cw.sentUpTo then pumpFrames t s
    else if s.cw.sentLines + frameLines f.2 ≤ s.cw.creditLines ∨ frameLines f.2 = 0 then
      pumpFrames t ({ s with cw := { s.cw with sentUpTo := f.1, sentLines := s.cw.sentLines + frameLines f.2 } }
        |>.emit (.cwFrame f.1 f.2))
    else s

/-- The frames that may leave now, sent. -/
def State.pump (s : State) : State := State.pumpFrames s.cw.unacked s

/-- A mirror frame assembled under the next SEQ (R413): its SEQ, and the state with it queued and sent when credits admit
it. -/
def State.sendFrame (b : CwBody) (s : State) : Nat × State :=
  let seq := s.get F.CW_TX_SEQ_SEQ + 1
  let s1 := s.put F.CW_TX_SEQ_SEQ seq
  (seq, { s1 with cw := { s1.cw with unacked := s1.cw.unacked ++ [(seq, b)] } }.pump)

/-- The entry of a line as it stands (Table 12.4). -/
def State.lineEntry (line : Nat) (s : State) : LineEntry :=
  let m := s.lineMeta line
  { line := line, gen := m.gen, poison := m.poison, psrc := m.psrc,
    flags := flag m.restored + 2 * flag m.repaired + 4 * flag m.rotated, data := s.lineData line }

/-- The extent of a line set in the changed-extent map when the map runs (R437). -/
def State.mapNote (line : Nat) (s : State) : State :=
  let x := extentOfPage (pageOfLine line)
  if s.isSet F.CW_STATUS_MAP_VALID && !(s.mode.twin && !s.fenced) && !s.cw.mapSet.contains x
  then { s with cw := { s.cw with mapSet := s.cw.mapSet ++ [x] } } else s

/-- A line sent to the twin as its newest value stands, as a pending twin-durable frame (R21). -/
def State.mirrorNow (line : Nat) (s : State) : State :=
  let r := s.sendFrame (.lines [s.lineEntry line])
  r.2.setMeta line { r.2.lineMeta line with pend := r.1 }

/-- A line mirrored as its newest value stands: as a pending twin-durable frame, or forwarded (R21, Table 1.4). A change of line state that
finds the mirror window full waits for room, so that the window is never exceeded; a line already pending takes none. -/
def State.mirrorLine (line : Nat) (s : State) : State :=
  let s1 := s.mapNote line
  match s1.mirroringOf line with
  | .none => s1
  | .twin =>
    if s1.windowFull ∧ (s1.lineMeta line).pend = 0 then
      { s1 with cw := { s1.cw with mirrorDue := if s1.cw.mirrorDue.contains line then s1.cw.mirrorDue else s1.cw.mirrorDue ++ [line] } }
    else s1.mirrorNow line
  | .forward => (s1.sendFrame (.lines [s1.lineEntry line])).2

/-- The line-state changes that wait for room in the mirror window sent as far as it has room. -/
def State.mirrorHeld : List Nat → State → State
  | [], s => s
  | line :: t, s =>
    if s.windowFull ∧ (s.lineMeta line).pend = 0 then s
    else
      let s1 := { s with cw := { s.cw with mirrorDue := t } }
      mirrorHeld t (if s1.mirroringOf line = .twin then s1.mirrorNow line else s1)

/-! Fills and writes to pages (R222 to R236). -/

/-- PRESENT of a page: its state is CLEAN, DIRTY or CAPTURING. -/
def State.present (p : Nat) (s : State) : Bool := decide (2 ≤ (s.page p).st)

/-- The translation entry of a page (R250, R251). -/
def State.transOf (p : Nat) (s : State) : Trans := Sparse.get {} p s.cul.trans
/-- The page is MAPPED. -/
def State.pageMapped (p : Nat) (s : State) : Bool := decide ((s.transOf p).st = 1)

/-- A frame assigned to an extent that holds none, when one is free (R227, R236). -/
def State.assignFrame (x : Nat) (s : State) : State :=
  let e := s.extent x
  if e.frame.isSome then s
  else match s.nextFrame with
    | none => s
    | some f =>
      let s1 := s.setExtent x { e with frame := some f, access := true, released := 0 }
      ({ s1 with cul := { s1.cul with nextChannel := (f % 16 + 1) % 16 } }).syncFree

/-- A fill requested at a priority class of R230, for a stream (its number + 1; 0: for none): queued for an ABSENT page, joined to the fill in progress otherwise, which
moves to the higher class while it is still queued (R228). -/
def State.requestFillOf (p prio stream : Nat) (s : State) : State :=
  let g := s.page p
  if g.st = 0 then
    let s1 := (s.assignFrame (extentOfPage p)).setPage p { g with st := 1, wrote := false }
    { s1 with cul := { s1.cul with fills := s1.cul.fills ++ [⟨p, prio, false, stream⟩] } }
  else if g.st = 1 then
    match s.cul.fills.find? fun f => decide (f.page = p) with
    | some f =>
      if !f.issued ∧ prio < f.prio then
        { s with cul := { s.cul with
            fills := (s.cul.fills.filter fun h => decide (h.page ≠ p)) ++ [⟨p, prio, false, stream⟩] } }
      else s
    | none => s
  else s

/-- A fill requested for no stream. -/
def State.requestFill (p prio : Nat) (s : State) : State := s.requestFillOf p prio 0

/-- The extent's record looked up: the extent map cache of 131,072 records counts a hit or a miss; which record a full cache
gives up is a free value (R223, log entry 21). -/
def State.extentLookup (x : Nat) (s : State) : State :=
  if s.cul.xmc.contains x then s.bump F.CUL_XMC_HITS_COUNT 1
  else
    let s1 := s.bump F.CUL_XMC_MISSES_COUNT 1
    if s1.cul.xmc.length < 131072 then { s1 with cul := { s1.cul with xmc := s1.cul.xmc ++ [x] } }
    else
      let d := s1.draw 17
      { d.2 with cul := { d.2.cul with xmc := d.2.cul.xmc.eraseIdx d.1 ++ [x] } }

/-- A write accepted to a line acts on its page (Table 7.3, R233, R238) and its extent (R235). -/
def State.pageWrite (line : Nat) (s : State) : State :=
  let p := pageOfLine line
  let x := extentOfPage p
  let s1 := s.requestFill p 2
  let e := s1.extent x
  let s2 := s1.setExtent x { e with access := e.frame.isSome }
  let g := s2.page p
  match g.st with
  | 1 => s2.setPage p { g with wrote := true, oldest := if g.wrote then g.oldest else s2.now }
  | 2 => s2.setPage p { g with st := 3, oldest := s2.now }
  | 4 => s2.setPage p { g with redirty := if g.redirty.contains line then g.redirty else g.redirty ++ [line],
                               oldest := if g.redirty.isEmpty then s2.now else g.oldest }
  | _ => s2

/-! Home slices and the tracer (R200, R212, R218). -/

/-- A request presents at a home agent: its slice is woken if it sleeps; the cycles the wake takes (R212). -/
def State.wakeSlice (home : Nat) (s : State) : Nat × State :=
  let p := s.get (F.HA_MAP_PHYS home)
  if s.get (F.HA_SLICE_STATE p) = 3 then
    (40, (s.put (F.HA_SLICE_STATE p) 2).bump F.FP_HA_WAKES_COUNT 1)
  else (0, s)

/-- A request granted at a home agent: the rotation pointer moved past the port (R200). -/
def State.rotate (home port : Nat) (s : State) : State :=
  { s with rotPtr := Sparse.set 0 home ((port + 1) % 8) s.rotPtr }

/-- A request of a hub engine presented and granted at a line's home agent at once (R199, R200, R212). -/
def State.grant (line port : Nat) (s : State) : State := ((s.wakeSlice (homeOf line)).2).rotate (homeOf line) port

/-- The request is sampled by the latency tracer: EN, the filter of FP_LAT_CTRL, and one of every 2^SAMPLE_LOG2. Class 3
(reads that miss) is decided at the miss, with `miss` true. -/
def State.traceEntry (home port : Nat) (write miss : Bool) (s : State) : Bool × State :=
  let c := s.get F.FP_LAT_CTRL_CLASS
  let okClass := if miss then decide (c = 3)
    else decide (c = 0) || (decide (c = 1) && !write) || (decide (c = 2) && write)
  let pf := s.get F.FP_LAT_CTRL_PORT
  if s.isSet F.FP_LAT_CTRL_EN && okClass && (decide (8 ≤ pf) || decide (pf = port)) &&
      (s.isSet F.FP_LAT_CTRL_HOME_ANY || decide (s.get F.FP_LAT_CTRL_HOME = home)) then
    let n := s.fp.sampleCount + 1
    (decide (n % 2 ^ s.get F.FP_LAT_CTRL_SAMPLE_LOG2 = 0), { s with fp := { s.fp with sampleCount := n } })
  else (false, s)

/-- The histogram bin of a total (R219). -/
def histBin (total : Nat) : Nat :=
  if total < 32 then 0 else min 15 (Nat.log2 total - 4)

/-- A sampled request's stages added to the sums, maxima and histogram (R218). -/
def State.traceEnd (sampled : Bool) (stages : List Nat) (s : State) : State :=
  if sampled then
    let total := stages.foldl (· + ·) 0
    let s1 := (s.bump F.FP_LAT_SAMPLES_COUNT 1).bump (F.FP_LAT_HIST_COUNT (histBin total)) 1
    s1.forEach (List.range 8) fun k a =>
      let v := stages.getD k 0
      let a1 := a.bump (F.FP_LAT_SUM_FC k) v
      if a1.get (F.FP_LAT_MAX_FC k) < v then a1.put (F.FP_LAT_MAX_FC k) (min v (2 ^ 32 - 1)) else a1
  else s

/-! Keys on the data path (R319, R323, R325). -/

/-- `n` words of 64 bits drawn from the random bit generator. -/
def State.drawWords (n : Nat) (s : State) : Nat × State :=
  (List.range n).foldl (fun (r : Nat × State) _ => let d := r.2.draw 64; (r.1 * 2 ^ 64 + d.1, d.2)) (0, s)

/-- The 768 bits of key material a slot holds, K1, K2 and KT, drawn. -/
def State.drawKeys (s : State) : Nat × State := s.drawWords 12

/-- A slot's word in the key-slot SRAM: two shares of the key material (R323). -/
def State.drawShares (s : State) : KeyShares × State :=
  let a := s.drawKeys
  let b := a.2.drawKeys
  (⟨a.1, b.1⟩, b.2)

/-- Key material put into a slot as two shares under a fresh mask (R323). -/
def State.putKeys (k key : Nat) (s : State) : State :=
  let m := s.drawKeys
  { m.2 with cry := { m.2.cry with slotKeys := Sparse.set {} k ⟨key ^^^ m.1, m.1⟩ m.2.cry.slotKeys } }

/-- The key material of a slot: its shares together. -/
def State.slotKey (k : Nat) (s : State) : Nat := let e := Sparse.get {} k s.cry.slotKeys; e.a ^^^ e.b

/-- Both shares of a slot renewed (R323). -/
def State.renewShares (k : Nat) (s : State) : State := s.putKeys k (s.slotKey k)

/-- The mask of a line's pass through a pipeline drawn (R323). -/
def State.drawLineMask (s : State) : State :=
  let a := s.draw 64
  let b := a.2.draw 64
  { b.2 with cry := { b.2.cry with lineMask := a.1 * 2 ^ 64 + b.1 } }

/-- A key slot is VALID with a side and generation (R325): the slots the register file lists. -/
def State.keySlotOf (side gen : Nat) (s : State) : Option Nat :=
  let slots := s.regs.filterMap fun e =>
    let off := e.1 / 64
    if e.1 % 64 = 63 ∧ 0x704000 ≤ off ∧ off < 0x704000 + 8 * 16384 ∧ e.2 = 1 then some ((off - 0x704000) / 8) else none
  slots.find? fun k =>
    decide (s.get (F.KS_SLOT_INFO_SIDE k) = side) && decide (s.get (F.KS_SLOT_INFO_KEY_GEN k) = gen)

/-- The keys of a generation used by the pipeline of a home for a line, under a mask of its own: a miss of its 32-entry key cache counts, and
the key enters the cache with both its shares renewed (R319, R323); which entry a full cache gives up is a free value (log entry 21). -/
def State.keyCacheUse (home side gen slot : Nat) (s0 : State) : State :=
  let s := s0.drawLineMask
  let p := s.get (F.CP_MAP_PHYS home)
  let k := side * 2 ^ 32 + gen
  let c := Sparse.get [] p s.cry.caches
  let put (c' : List Nat) (a : State) : State := { a with cry := { a.cry with caches := Sparse.set [] p c' a.cry.caches } }
  if c.contains k then s
  else
    let s1 := (s.bump F.LC_KEYCACHE_MISSES_COUNT 1).renewShares slot
    if c.length < 32 then put (c ++ [k]) s1
    else
      let d := s1.draw 5
      put (c.eraseIdx d.1 ++ [k]) d.2

/-- A line encrypted on its way to DRAM: the keys of its generation used by its pipeline (R206, R319). -/
def State.encryptLine (line : Nat) (s : State) : State :=
  let sd := sideOf (line * 256)
  let g := (s.lineMeta line).gen
  match s.keySlotOf sd g with
  | some k => s.keyCacheUse (homeOf line) sd g k
  | none => s

/-- A line encrypted and written to DRAM (R206): the write enters its channel's queue (R357). -/
def State.writeBack (line : Nat) (s : State) : State := (s.encryptLine line).enqueue true line

/-! The front cache (R203 to R206). -/

/-- A line's front-cache entry. -/
def State.frontLine (line : Nat) (s : State) : FrontLine := Sparse.get {} line s.front
/-- A line's front-cache entry, set. -/
def State.setFront (line : Nat) (f : FrontLine) (s : State) : State :=
  { s with front := Sparse.set {} line f s.front }
/-- The front cache holds a line, in a way or in the victim buffer. -/
def State.resident (line : Nat) (s : State) : Bool := (s.frontLine line).valid || s.victims.contains line

/-- The lines in the set of a line. -/
def State.frontSet (line : Nat) (s : State) : List (Nat × FrontLine) :=
  s.front.filter fun e => e.2.valid && decide (homeOf e.1 = homeOf line) && decide (setOf e.1 = setOf line)

/-- A line leaves the front cache: by the victim buffer when FRONT_DIRTY, else dropped (R206). -/
def State.evictLine (line : Nat) (s : State) : State :=
  let f := s.frontLine line
  let s1 := s.setFront line {}
  if f.frontDirty then ({ s1 with victims := s1.victims ++ [line] }.bump F.FP_FC_DIRTY_EVICTS_COUNT 1).writeBack line else s1

/-- The victim of R204 among the lines of a full set: the lowest way of value 3 without FRONT_DIRTY, else the lowest way of
value 3, the values first raised together until one is 3. -/
def victimOf (ws : List (Nat × FrontLine)) : Option (Nat × Nat) :=
  let top := ws.foldl (fun m e => max m e.2.rrpv) 0
  let full := ws.filter fun e => decide (e.2.rrpv = top)
  let clean := full.filter fun e => !e.2.frontDirty
  let pick := (if clean.isEmpty then full else clean).foldl
    (fun (b : Option (Nat × Nat)) e => match b with
      | none => some (e.2.way, e.1)
      | some x => if e.2.way < x.1 then some (e.2.way, e.1) else b) none
  pick.map fun x => (x.2, 3 - top)

/-- The slice of a line's home agent flushes: lines merged from now on are written through to DRAM (Table 6.8). -/
def State.flushing (line : Nat) (s : State) : Bool := decide (s.get (F.HA_SLICE_STATE (s.get (F.HA_MAP_PHYS (homeOf line)))) = 4)

/-- A line allocated with a re-reference value: in its own way when the cache holds it, back from the victim buffer, in the
lowest invalid way, or in the place of a victim (R204 to R206). -/
def State.allocLine (line rrpv : Nat) (dirty_ : Bool) (s00 : State) : State :=
  let dirty := dirty_ && !s00.flushing line
  let s := s00.when (dirty_ && !dirty) (State.writeBack line)
  let f := s.frontLine line
  if f.valid then s.setFront line { f with rrpv := rrpv, frontDirty := f.frontDirty || dirty }
  else
    let back := s.victims.contains line
    let s0 := { s with victims := s.victims.filter fun v => decide (v ≠ line) }
    let ws := s0.frontSet line
    let used := ws.map fun e => e.2.way
    match (List.range 16).find? fun w => !used.contains w with
    | some w => s0.setFront line { valid := true, way := w, rrpv := rrpv, frontDirty := dirty || back }
    | none =>
      match victimOf ws with
      | none => s0
      | some (v, bump) =>
        let w := (s0.frontLine v).way
        let s1 := s0.forEach ws fun e a => a.setFront e.1 { e.2 with rrpv := e.2.rrpv + bump }
        (s1.evictLine v).setFront line { valid := true, way := w, rrpv := rrpv, frontDirty := dirty || back }

/-- The re-reference value of a read fill, by the region's policy (R204). -/
def State.insertValue (line : Nat) (s : State) : Nat :=
  match s.regionOfLine line with
  | some i => if (s.region i).policy = 2 then s.get F.FP_CTRL_INSERT_STREAM else s.get F.FP_CTRL_INSERT_READ
  | none => s.get F.FP_CTRL_INSERT_READ

/-- A line's front-cache copy is no longer newer than DRAM's, which its write has reached (R206, R207). -/
def State.cleanLine (line : Nat) (s : State) : State :=
  let f := s.frontLine line
  let s1 := { s with victims := s.victims.filter fun v => decide (v ≠ line) }
  if f.valid then s1.setFront line { f with frontDirty := false } else s1

/-! Line states (R43, R304, R314 to R318). -/

/-- A line given a state the deep tier does not hold: dirty, its page acted on, mirrored, the peak kept. -/
def State.commitLine (line : Nat) (m : LineMeta) (s : State) : State :=
  ((s.setMeta line { m with dirty := true }).pageWrite line |>.mirrorLine line).notePeak

/-- The poisoned lines the controller keeps entries for passed 65,536 (R127). -/
def State.poisonCount (s : State) : Nat := (s.lines.filter fun e => e.2.poison).length

/-- A front-cache copy newer than its DRAM copy: FRONT_DIRTY set for a line the cache holds (R203). -/
def State.noteFront (line : Nat) (s : State) : State :=
  let f := s.frontLine line
  if f.valid && !s.flushing line then s.setFront line { f with frontDirty := true } else s

/-- A line poisoned with a POISON_SRC under the region's current KEY_GEN (R318). -/
def State.poisonLine (line psrc : Nat) (s : State) : State :=
  let m := s.lineMeta line
  let s1 := (s.commitLine line { m with poison := true, psrc := psrc, gen := s.writeGen line }).noteFront line
  if 65536 < s1.poisonCount then { s1 with poisonOverflow := true } else s1

/-- The front-cache SRAM reports an uncorrectable error in a resident line (R208): refetched, or poisoned when FRONT_DIRTY. -/
def State.sramError (line : Nat) (s : State) : State :=
  let f := s.frontLine line
  let slice := s.get (F.HA_MAP_PHYS (homeOf line))
  if !f.valid then s
  else if f.frontDirty then (s.poisonLine line 2).raise Ev.FC_LINE_POISONED [line * 256]
  else (s.setFront line {}).raiseLimited Ev.FC_LINE_REFETCHED slice []

/-- The line's tag did not verify (R314). -/
def State.tagFailed (line : Nat) (s : State) : State :=
  let g := (s.lineMeta line).gen
  ((s.poisonLine line 2).recordLine 3 Ev.TAG_MISMATCH line g false |>.bump F.LC_TAG_FAILS_COUNT 1).raise
    Ev.TAG_MISMATCH [line * 256, g]

/-- A merge refused at a row of Table 9.4: counted and raised; a CXL host gets the record of R19, a ring, command-queue-pair
or RDMA write the status. -/
def State.mergeRefused (src : Src) (line row status : Nat) (s : State) : State :=
  let s1 := (s.bump F.LC_MERGE_REFUSED_COUNT 1).raise Ev.MERGE_REFUSED [line * 256, row]
  match src with
  | .cxl _ _ _ => s1.recordLine 4 Ev.MERGE_REFUSED line 0 true
  | .hub => if s.mode = .restore then { s1 with ssb := { s1.ssb with rstRefused := s1.ssb.rstRefused ++ [line] } } else s1
  | _ => { s1 with failed := s1.failed ++ [(src, status)] }


/-! Acceptance of a write (R17). -/

/-- The total the Sluice admits, in MB/s: none when unlimited (R274, R279). -/
def State.admitLimit (s : State) : Option Nat :=
  let lim := match s.get F.SLU_STATUS_STATE with
    | 0 => none
    | 1 => some (s.get F.SLU_DRAIN_MBPS_MBPS)
    | _ => some 0
  let n := s.get F.SLU_STATUS_THERM_STEP
  let cap := if s.isSet F.SLU_STATUS_THERM_ENFORCE then some ((8 - n) * 125 * s.get F.SLU_THERM_REF_MBPS_MBPS / 1000) else none
  match lim, cap with
  | some a, some b => some (min a b)
  | some a, none => some a
  | none, c => c

/-- The number of a tenant's account at an ingress point (R274): 16 × tenant + port. The mirror account is 16 × 4096. -/
def accountAt (tenant port : Nat) : Nat := 16 * tenant + port

/-- A write charged to an account (R274). -/
def State.charge (account : Nat) (s : State) : State :=
  { s with ssb := { s.ssb with charged := Sparse.set 0 account (Sparse.get 0 account s.ssb.charged + 1) s.ssb.charged } }

/-- The writes that are charged to their tenant (R276): not the hub's own, nor the Culvert's status blocks. -/
def Src.charged : Src → Bool
  | .hub => false
  | .op q _ => decide (q < 2 ^ 25)
  | _ => true

/-- The writes that wait for their share (R275): a CXL.mem write the port has taken does not (R115). -/
def Src.sluiced : Src → Bool
  | .cxl _ _ _ => false
  | x => x.charged

/-- A tenant has used up its share at an ingress point until the next recomputation (R274, R275). -/
def State.overShare (tenant port : Nat) (s : State) : Bool :=
  s.admitLimit.isSome && decide (tenant ≠ 0) &&
    decide (Sparse.get 0 (accountAt tenant port) s.ssb.shares ≤ 256 * Sparse.get 0 (accountAt tenant port) s.ssb.charged)

/-- The Sluice holds a write (R275, R276). -/
def State.sluiceHolds (w : WriteReq) (s : State) : Bool := w.src.sluiced && s.overShare w.tenant (s.portOf w.src)

/-- A destination line of a COPY or ZERO accepted: its progress, the mirror frames it waits for, and whether the line's TWIN_COMPLETE is
suspended; what its source lines gave is used up (R24, R181). -/
def State.noteOpWrite (q seq n pend : Nat) (twin suspended : Bool) (s : State) : State :=
  let k := Sparse.get {} q s.queues
  let note (o : OpRec) : OpRec :=
    if o.seq = seq then
      { o with done := o.done + n, mseq := max o.mseq pend, wait := if twin then max o.wait pend else o.wait,
               suspended := o.suspended || suspended, got := [] }
    else o
  { s with queues := Sparse.set {} q { k with ops := k.ops.map note } s.queues }

/-- The bytes a mask enables. -/
def maskBytes (m : BitVec 256) : Nat := ((List.range 256).filter fun i => m.getLsbD i).length

/-- The lowest byte a mask enables. -/
def maskFirst (m : BitVec 256) : Nat := ((List.range 256).find? fun i => m.getLsbD i).getD 0

/-- The record of an accepted write: of its queue entry, and of the completion it owes (R18, R202). -/
def State.recordWrite (w : WriteReq) (twin : Bool) (verify : Bool) (s : State) : State :=
  let held := s.now - w.entered
  let tc := match s.regionOfLine w.line with
    | some i => (s.region i).twinComplete
    | none => false
  let suspended := tc && s.isSet F.PLD_DUR_STATE_TWIN_COMPLETE_SUSPENDED
  let s0 := match w.src with
    | .guest p tag => s.guestNote p tag (s.lineMeta w.line).pend
    | .op q seq => s.noteOpWrite q seq (maskBytes w.mask) (s.lineMeta w.line).pend twin suspended
    | _ => s
  { s0 with
    writes := s.writes ++ [{ id := s.nextId, src := w.src, line := w.line, twin := twin,
                             seq := (s.lineMeta w.line).pend, verify := verify, done20 := false,
                             whole := decide (w.mask = fullMask), accepted := s.now,
                             suspended := suspended,
                             sampled := w.sampled, wake := w.wake, arb := if w.windowHeld then 0 else held - w.wake,
                             hold := if w.windowHeld then held - w.wake else 0, repeats := 0 }]
    nextId := s.nextId + 1 }

/-- A line of zeros in place of a line that is not live, when a partial write merges into it (R82). -/
def State.zeroIfDead (line : Nat) (s : State) : State := if s.live line then s else s.zeroLine line

/-- What a read of `len` bytes at `a` within one line gives from the newest accepted value: zeros for a line that is not
live, poison, or data. -/
def State.readValue (a len : Nat) (s : State) : Bool × LineData :=
  let line := lineOf a
  if !s.live line then (false, 0)
  else if (s.lineMeta line).poison then (true, 0)
  else (false, BitVec.ofNat 2048 (bitsOf (s.lineData line).toNat (8 * (a % 256)) (8 * len)))

/-- An atomic's read noted in its queue pair's answer and in its record of the last 16 atomics (R145). -/
def State.noteAtomic (key psn old status : Nat) (s : State) : State :=
  let p := Sparse.get {} key s.eth.qps
  let p1 := { p with answers := p.answers.map fun x => if x.kind = 2 ∧ x.psn = psn then { x with value := old, status := status } else x
                     atomics := if status = 0 then ((psn, old) :: p.atomics).take 16 else p.atomics }
  { s with eth := { s.eth with qps := Sparse.set {} key p1 s.eth.qps } }

/-- An atomic becomes the write it makes, from the value its line has at its acceptance; none when the line is poisoned (R145). -/
def State.resolveAtomic (w : WriteReq) (s : State) : Option WriteReq × State :=
  match w.atomic, w.src with
  | some (swap, add, compare, a), .rdma key psn =>
    let v := s.readValue a 8
    let old := v.2.toNat
    let new := if swap then (if old = compare then add else old) else (old + add) % 2 ^ 64
    let s1 := s.noteAtomic key psn old (if v.1 then St.POISONED else 0)
    (if v.1 then none else some { w with data := BitVec.ofNat 2048 (new % 2 ^ 64 * 2 ^ (8 * (a % 256))) }, s1)
  | _, _ => (some w, s)

/-- The crypto pipeline of a home woken at the miss decision (R213, R319). -/
def State.wakePipe (home : Nat) (s : State) : State :=
  let p := s.get (F.CP_MAP_PHYS home)
  { s with cry := { s.cry with asleep := s.cry.asleep.filter fun q => decide (q ≠ p) } }

/-- A CXL.mem write does not wait for its merge (R19). -/
def Src.verifies : Src → Bool
  | .cxl _ _ _ => false
  | _ => true

/-- A write accepted at its home agent: local-durable and charged from this cycle, merged into the line at once or when the
line arrives, mirrored, and recorded for its completion (R17, R19, R21, R205, R213, R233, R315, R316). -/
def State.storeWrite (w : WriteReq) (s : State) : State :=
  let home := homeOf w.line
  let s1 := (s.extentLookup (extentOfPage (pageOfLine w.line))).when (w.src.charged && decide (w.tenant ≠ 0))
    (State.charge (accountAt w.tenant (s.portOf w.src)))
  let hit := s1.resident w.line
  let s2 := s1.bump (if hit then F.FP_FC_HITS_COUNT else F.FP_FC_MISSES_COUNT) 1
  let twin := s2.twinComplete w.line ||
    (w.atomic.isSome && decide (s2.mirroringOf w.line = .twin) && !s2.isSet F.PLD_DUR_STATE_TWIN_COMPLETE_SUSPENDED)
  let m := s2.lineMeta w.line
  let live := s2.live w.line
  let gen := s2.writeGen w.line
  let rr := if hit then 0 else 1
  let fresh : LineMeta := { m with gen := gen, poison := false, psrc := 0, rotated := false, repaired := false,
                                   restored := false }
  let rest (verify : Bool) (a : State) : State := a.recordWrite w twin (verify && w.src.verifies)
  let behind (a : State) : State :=
    { a with merges := a.merges.map fun k => if k.line = w.line then { k with replaced := true } else k }
  let fetch (a : State) : State := (a.wakePipe home).when (a.present (pageOfLine w.line)) fun b => (b.wakeRank w.line).enqueue false w.line
  if w.poison then
    -- R113: a poisoned write is a line-state change that poisons the whole line.
    rest false (behind ((s2.poisonLine w.line 0).allocLine w.line rr true))
  else if w.mask = fullMask then
    rest false (behind ((s2.storeLine w.line w.mask w.data |>.commitLine w.line fresh).allocLine w.line rr true))
  else if live && m.poison then
    -- Row 3 of Table 9.4: refused, at once for a resident line, when the line arrives otherwise.
    if hit then rest false ((s2.allocLine w.line 0 false).mergeRefused w.src w.line 3 St.POISONED)
    else rest true (fetch { (s2.commitLine w.line m) with
      merges := s2.merges ++ [⟨w.src, w.line, true, false, w.mask, w.data, m.dirty, false⟩] })
  else
    let s3 := (s2.zeroIfDead w.line |>.storeLine w.line w.mask w.data).commitLine w.line
      (if live then { m with gen := gen, rotated := false, repaired := false, restored := false } else fresh)
    if hit then rest false (s3.allocLine w.line rr true)
    else rest true (fetch { s3 with merges := s3.merges ++ [⟨w.src, w.line, false, false, w.mask, w.data, m.dirty, !live⟩] })

/-- A write of a link's unverified MAC epoch: its line tracked with the logical device that sent it (R118). -/
def State.trackEpoch (w : WriteReq) (s : State) : State :=
  match w.src with
  | .cxl l n _ =>
    let k := s.link l
    if w.epoch = k.epochNo ∧ !k.epoch.contains (w.line, n) then s.setLink l { k with epoch := k.epoch ++ [(w.line, n)] } else s
  | _ => s

/-- The link of a write's unverified MAC epoch tracks all the lines it can (R118). -/
def State.epochFull (w : WriteReq) (s : State) : Bool :=
  match w.src with
  | .cxl l n _ => decide (w.epoch = (s.link l).epochNo) && decide (128 ≤ (s.link l).epoch.length) && !(s.link l).epoch.contains (w.line, n)
  | _ => false

/-- A write granted and accepted (R17, R118, R200, R208). -/
def State.acceptWrite (w : WriteReq) (s : State) : State :=
  let s1 := ((s.trackEpoch w).rotate (homeOf w.line) (s.portOf w.src)).when (w.sram && decide (w.mask ≠ fullMask)) (State.sramError w.line)
  let r := s1.resolveAtomic w
  match r.1 with
  | some v => r.2.storeWrite v
  | none => r.2

/-- The home-agent queue of a line is full (R202). -/
def State.queueFull (line : Nat) (s : State) : Bool := decide (128 ≤ s.queueUsed (homeOf line))

/-- A mirror-window hold applies to writes of a line (R21). -/
def State.windowHolds (line : Nat) (s : State) : Bool := decide (s.mirroringOf line ≠ .none) && s.windowFull

/-- A write is held at home-agent ingress: the mirror window is full for a line that is mirrored (R21), or the home-agent
queue is full (R201, R202). -/
def State.holds (line : Nat) (s : State) : Bool := s.windowHolds line || s.queueFull line

/-- A request waits at ingress: it is not eligible (R201), or its source has an earlier one there that it must not pass: a write to the same
line (R46), any request of a source whose order stands (R142, R430). A write of an unverified MAC epoch waits while 128 lines are tracked (R118), and a write beyond its tenant's share for the Sluice (R275). Reads are never held by a mirror-window hold. -/
def State.waits (r : Request) (earlier : List Request) (s : State) : Bool :=
  (match r with
   | .write w => s.holds w.line || s.fenced || s.epochFull w || s.sluiceHolds w
   | .read q => s.queueFull (lineOf q.addr)) ||
  earlier.any fun h => h.src.same r.src && (r.src.inOrder || (h.isWrite && r.isWrite && decide (h.line = r.line)))

/-- A request put at ingress, with what holds it noted for the tracer. -/
def State.hold (r : Request) (s : State) : State :=
  let r1 := match r with
    | .write w => .write { w with windowHeld := w.windowHeld || s.windowHolds w.line }
    | .read q => .read q
  { s with ingress := s.ingress ++ [r1] }

/-- A write that passed its checks accepted, or held at ingress (R201); the slice is woken and the tracer's filter judged as it enters the
hub (R212, R219). -/
def State.presentWrite (w : WriteReq) (s : State) : State :=
  let home := homeOf w.line
  let t := s.traceEntry home (s.portOf w.src) true false
  let k := t.2.wakeSlice home
  let w1 := { w with sampled := t.1, wake := k.1 }
  if k.2.waits (.write w1) k.2.ingress then k.2.hold (.write w1) else k.2.acceptWrite w1

/-- A request refused at a check its home agent makes is granted and refused in its acceptance cycle (R91, R201). -/
def State.grantRefused (chk a : Nat) (src : Src) (s : State) : State :=
  if 4 ≤ chk then s.grant (lineOf a) (s.portOf src) else s

/-- A refused read: poison returned and counted, with the ACCESS_REFUSED record to the logical device (R94). -/
def State.refuseCxlRead (l n tag a chk : Nat) (s : State) : State :=
  let t := s.get (F.LD_MAP_TENANT n)
  let s1 := ((s.grantRefused chk a (.cxl l n tag)).refuse .cxl chk t n a).emit (.cxlData l n tag true 0 s.devLoad)
  (s1.bump (F.CXL_LINK_POISON_READS_COUNT l) 1).recordTo n 6 Ev.ACCESS_REFUSED (lineOf a) chk false

/-- A refused write: discarded and counted; its NDR carries no error (R94, log entry 24). -/
def State.refuseCxlWrite (l n tag a chk : Nat) (s : State) : State :=
  let t := s.get (F.LD_MAP_TENANT n)
  (((s.grantRefused chk a (.cxl l n tag)).refuse .cxl chk t n a).bump (F.CXL_LINK_DISCARDS_COUNT l) 1).emit (.cxlCmp l n tag s.devLoad)

/-! Reads (R22, R209, R228, R313). -/

/-- A source line of a COPY obtained by its operation (R181). -/
def State.copyGot (q seq line status : Nat) (data : LineData) (s : State) : State :=
  let k := Sparse.get {} q s.queues
  let ops := k.ops.map fun o => if o.seq = seq then { o with got := o.got ++ [(line, status, data)] } else o
  { s with queues := Sparse.set {} q { k with ops := ops } s.queues }

/-- A read answered on its path with the status of Table 5.10 it ends in, 0 for data: poison for a CXL host, CMP_ERR without data for the
guest (R451). -/
def State.answerRead (r : ReadRec) (status : Nat) (data : LineData) (s : State) : State :=
  match r.src with
  | .cxl l n tag =>
    (s.emit (.cxlData l n tag (decide (status ≠ 0)) (data.setWidth 512) s.devLoad)).when (decide (status ≠ 0))
      (State.bump (F.CXL_LINK_POISON_READS_COUNT l) 1)
  | .guest p tag => if status = 0 then s.kerupSend p (.data tag (decide (64 < r.len)) data) else s.kerupSend p (.cmpErr tag (guestCode status))
  | .rdma qp psn => { s with eth := { s.eth with got := s.eth.got ++ [(qp, psn, r.addr, status, data)] } }
  | .op q seq => s.copyGot q seq (lineOf r.addr) status data
  | .hub => s

/-- The newest value of a line is mirror-pending in a TWIN_COMPLETE region: the SEQ a read of it waits for, else 0 (R22). -/
def State.readWait (line : Nat) (s : State) : Nat :=
  if s.twinComplete line then (s.lineMeta line).pend else 0

/-- A read miss asks for its page (R228, R234): a fill, and with FILL_AHEAD the extent's other ABSENT and MAPPED pages of a tiered
region. -/
def State.missFill (line : Nat) (s : State) : State :=
  let p := pageOfLine line
  let x := extentOfPage p
  let e := s.extent x
  if s.present p then ((s.wakeRank line).enqueue false line).setExtent x { e with access := true }
  else
    let s5 := s.requestFill p 1
    let tiered := match s5.regionOfLine line with
      | some i => decide ((s5.region i).policy = 1)
      | none => false
    if tiered && s5.isSet F.CUL_CTRL_FILL_AHEAD && decide (e.windows = 0) then
      s5.forEach ((List.range 128).map (x * 128 + ·)) fun q b =>
        if (b.page q).st = 0 ∧ b.pageMapped q then b.requestFill q 5 else b
    else s5

/-- A read granted by a home agent: served from the front cache or the victim buffer, or left waiting for its line, with the
fill a tiered miss starts (R22, R200, R204, R205, R208, R228, R234). -/
def State.takeRead (q : ReadReq) (s : State) : State :=
  let line := lineOf q.addr
  let home := homeOf line
  let port := s.portOf q.src
  let s0 := (s.rotate home port).when q.sram (State.sramError line)
  let s1 := s0.extentLookup (extentOfPage (pageOfLine line))
  let hit := s1.resident line
  let s2 := s1.bump (if hit then F.FP_FC_HITS_COUNT else F.FP_FC_MISSES_COUNT) 1
  let wait := s2.readWait line
  let arb := s2.now - q.entered - q.wake
  let r : ReadRec := { id := s2.nextId, src := q.src, addr := q.addr, len := q.len, taken := s2.now,
                       missed := !hit, sampled := q.sampled, wake := q.wake, arb := arb,
                       hazard := s2.merges.any fun m => decide (m.line = line) }
  let s3 := { s2 with nextId := s2.nextId + 1 }
  if hit then
    let s4 := s3.allocLine line 0 false
    if wait = 0 then
      let v := s4.readValue q.addr q.len
      (s4.answerRead r (if v.1 then St.POISONED else 0) v.2).traceEnd q.sampled [q.wake, 4 + arb, 0, 3, 0, 0, 0, 17]
    else { s4 with reads := s4.reads ++ [r] }
  else
    let tm := s3.traceEntry home port false true
    ({ tm.2 with reads := tm.2.reads ++ [{ r with sampled := q.sampled || tm.1 }] }.wakePipe home).missFill line

/-- A read that passed its checks taken, or held at ingress while its home agent's queue is full (R201). -/
def State.presentRead (q : ReadReq) (s : State) : State :=
  let home := homeOf (lineOf q.addr)
  let t := s.traceEntry home (s.portOf q.src) false false
  let k := t.2.wakeSlice home
  let q1 := { q with sampled := t.1, wake := k.1 }
  if k.2.waits (.read q1) k.2.ingress then k.2.hold (.read q1) else k.2.takeRead q1

/-- A speculative read (R112): the slice and pipeline woken and the line's fill into the front cache started, without an answer. -/
def State.specRead (port line : Nat) (s : State) : State :=
  let s1 := ((s.grant line port).extentLookup (extentOfPage (pageOfLine line))).wakePipe (homeOf line)
  if s1.resident line then s1
  else
    let r : ReadRec := { id := s1.nextId, src := .hub, addr := line * 256, len := 64, taken := s1.now, missed := true,
                         sampled := false, wake := 0, arb := 0, hazard := false }
    { s1 with nextId := s1.nextId + 1, reads := s1.reads ++ [r] }.missFill line

/-! Ingress (R199 to R201). -/

/-- A held request presented again and granted: the checks its home agent makes are made in its acceptance cycle, with the binding it was
given at ingress (R91). -/
def State.presentHeld (r : Request) (s : State) : State :=
  let line := r.line
  let (addr, len, ro) : Nat × Nat × Bool := match r with
    | .write w => (line * 256 + maskFirst w.mask, maskBytes w.mask, w.readOnly)
    | .read q => (q.addr, q.len, false)
  let own := match r.src with
    | .hub => true
    | _ => false
  let chk := if own then 0 else s.rangeCheck ⟨r.tenant, false, ro⟩ addr len r.isWrite none
  if chk = 0 then (match r with
    | .write w => s.acceptWrite w
    | .read q => s.takeRead q)
  else match r.src with
    | .cxl l n tag => if r.isWrite then s.refuseCxlWrite l n tag addr chk else s.refuseCxlRead l n tag addr chk
    | .guest p tag => (s.refuse .guest chk r.tenant 0 addr).kerupSend p (.cmpErr tag chk)
    | .rdma qp psn =>
      let s1 := s.refuse .rdma chk r.tenant (Sparse.get {} qp s.eth.qps).via addr
      if r.isWrite then { s1 with failed := s1.failed ++ [(r.src, checkStatus chk)] }
      else { s1 with eth := { s1.eth with got := s1.eth.got ++ [(qp, psn, addr, checkStatus chk, 0)] } }
    | .op q seq =>
      if r.isWrite ∧ 2 ^ 25 ≤ q then { s with failed := s.failed ++ [(r.src, checkStatus chk)] }
      else
        let s1 := s.refuse (queuePath q) chk r.tenant (queueIngress q) addr
        if r.isWrite then { s1 with failed := s1.failed ++ [(r.src, checkStatus chk)] } else s1.copyGot q seq line (checkStatus chk) 0
    | .hub => s

/-- The held requests that may be granted now, each with its index (R201). -/
def State.eligible (s : State) : List (Nat × Request) :=
  ((List.range s.ingress.length).zip s.ingress).filter fun e => !s.waits e.2 (s.ingress.take e.1)

/-- The request a home agent grants among the eligible ones that present to it: the first of each port stands, and the first port from the
rotation pointer on is granted (R50, R199, R200). -/
def State.pickPort (home : Nat) (es : List (Nat × Request)) (s : State) : Option (Nat × Request) :=
  (List.range 8).findSome? fun k =>
    let port := (Sparse.get 0 home s.rotPtr + k) % 8
    es.find? fun e => decide (s.portOf e.2.src = port)

/-- The held requests granted while one is eligible: the home agent of the oldest grants by its rotating priority, and a cycle with more than
one port presenting counts (R200). -/
def State.drainIngress : Nat → State → State
  | 0, s => s
  | n + 1, s =>
    match s.eligible with
    | [] => s
    | e :: t =>
      let home := homeOf e.2.line
      let mine := (e :: t).filter fun x => decide (homeOf x.2.line = home)
      let many := mine.any fun x => decide (s.portOf x.2.src ≠ s.portOf e.2.src)
      let s1 := s.when many (State.bump F.FP_ARB_COLLISIONS_COUNT 1)
      match s1.pickPort home mine with
      | some x => drainIngress n ({ s1 with ingress := s1.ingress.eraseIdx x.1 }.presentHeld x.2)
      | none => s1

/-- Home agents hold a write to an owned region for mirror-window space (Table 1.17). -/
def State.windowHolding (s : State) : Bool :=
  s.windowFull && ((s.ingress.any fun r => r.isWrite && decide (s.mirroringOf r.line ≠ .none)))

/-- MIRROR_WINDOW_FULL brought in line with what is held (R61, R66). -/
def State.syncWindow (s : State) : State :=
  let v := s.windowHolding
  let was := s.isSet F.PLD_DUR_STATE_MIRROR_WINDOW_FULL
  (s.put F.PLD_DUR_STATE_MIRROR_WINDOW_FULL (flag v)).when (v && !was) (State.raiseLimited Ev.MIRROR_WINDOW_FULL 0 [])

/-- What waits for room at the home agents goes on as far as there is room: line-state changes first, then the held requests. -/
def State.drainHeld (s : State) : State :=
  if s.mode.serving then
    let s1 := s.mirrorHeld s.cw.mirrorDue
    s1.drainIngress s1.ingress.length
  else s

end Sys2Proof.Machine
end

