-- ==== Sys2Proof/Machine/Arrival.lean ====
section
/-! DEFINITION. What happens when a stored line reaches its home agent (R309, R313 to R317), shared by the arrival of a line
from DRAM and the landing of a fill. -/

namespace Sys2Proof.Machine

open Sys2Proof

/-- The reads that wait for a line answered with a status, 0 for data: those that also wait for twin durability go on waiting (R22). A read
that had to wait for queued writes of its line counts the wait as HAZARD (R211). -/
def State.endReads (line status memory crypto : Nat) (s : State) : State :=
  let mine := s.reads.filter fun r => r.missed && decide (lineOf r.addr = line)
  let s1 := { s with reads := s.reads.filter fun r => !(r.missed && decide (lineOf r.addr = line)) }
  s1.forEach mine fun r a =>
    let w := a.readWait line
    if w = 0 ∨ status ≠ 0 then
      let v := a.readValue r.addr r.len
      let st := if status ≠ 0 then status else if v.1 then St.POISONED else 0
      let stages := if r.hazard then [r.wake, 4 + r.arb, 0, 3, memory + crypto, 0, 0, 17] else [r.wake, 4 + r.arb, 0, 3, 0, memory, crypto, 17]
      (a.answerRead r st (if st = 0 then v.2 else 0)).traceEnd r.sampled stages
    else { a with reads := a.reads ++ [{ r with missed := false }] }

/-- The reads that wait for a line answered with its data, or with poison. -/
def State.answerReads (line : Nat) (poison : Bool) (memory crypto : Nat) (s : State) : State :=
  s.endReads line (if poison then St.POISONED else 0) memory crypto

/-- The writes of a line whose completion waited for its verification may complete (R19). -/
def State.verifyWrites (line : Nat) (s : State) : State :=
  { s with writes := s.writes.map fun w => if w.line = line then { w with verify := false } else w }

/-- The partial writes that wait for a line refused at a row of Table 9.4, in their acceptance order (R315, R317). -/
def State.refuseMerges (line row status : Nat) (s : State) : State :=
  let mine := s.merges.filter fun m => decide (m.line = line)
  let s1 := { s with merges := s.merges.filter fun m => decide (m.line ≠ line) }
  (s1.forEach mine fun m a => a.mergeRefused m.src line row status).verifyWrites line

/-- The partial writes that wait for a line merged: the front cache holds the merged line (R315). -/
def State.applyMerges (line : Nat) (s : State) : State :=
  let mine := s.merges.filter fun m => decide (m.line = line)
  let s1 := { s with merges := s.merges.filter fun m => decide (m.line ≠ line) }
  if mine.isEmpty then s1 else (s1.allocLine line 1 true).verifyWrites line

/-- A whole-line write has been accepted behind the partial writes that wait for a line (R317). -/
def State.replacedBehind (line : Nat) (s : State) : Bool := s.merges.any fun m => decide (m.line = line) && m.replaced

/-- A codeword of the line is uncorrectable (R309): a CLEAN page is filled again at priority 1; otherwise the line is
poisoned, with the DRAM_UNCORRECTABLE record and event, and poison returned. -/
def State.uncorrectable (line memory crypto : Nat) (s : State) : State :=
  let p := pageOfLine line
  let g := s.page p
  let ev := Ev.DRAM_UNCORRECTABLE (s.channelOf line)
  if g.st = 2 then
    let s1 := (s.raise ev ((s.lineLocation line).drop 1)).setPage p { g with st := 1, wrote := false }
    { s1 with cul := { s1.cul with fills := s1.cul.fills ++ [⟨p, 1, false, 0⟩] } }
  else
    let onWrite := (s.merges.any fun m => decide (m.line = line))
    let s1 := if s.replacedBehind line then s else s.poisonLine line 2
    let s2 := (s1.recordLine 2 ev line 0 onWrite).raise ev ((s.lineLocation line).drop 1)
    (s2.refuseMerges line 1 St.POISONED).answerReads line true memory crypto

/-- A partial write waits for a line that was not live when it was accepted: the stored line counts as zeros and is not verified (R82). -/
def State.deadMerge (line : Nat) (s : State) : Bool := s.merges.any fun m => decide (m.line = line) && m.dead

/-- A stored line reaches its home agent: the steps of Table 9.3 in order, for the reads and the merges that wait for it. A
line the front cache holds was verified when it was filled and needs no step (R313). -/
def State.arriveLine (line : Nat) (v : LineVerdict) (memory crypto : Nat) (s : State) : State :=
  let home := homeOf line
  let m := s.lineMeta line
  let side := sideOf (line * 256)
  if v = .uncorrectable then s.uncorrectable line memory crypto
  else if !s.live line then
    let n := (s.reads.filter fun r => r.missed && decide (lineOf r.addr = line)).length
    let s1 := (s.bump F.LC_ZERO_READS_COUNT n).zeroLine line
    ((s1.allocLine line (s1.insertValue line) false).applyMerges line).answerReads line false memory crypto
  else if s.deadMerge line then (s.applyMerges line).answerReads line false memory crypto
  else if m.poison then
    (s.refuseMerges line 3 St.POISONED).answerReads line true memory crypto
  else match s.keySlotOf side m.gen with
  | none => (s.raise Ev.KEY_SLOT_MISSING []).answerReads line true memory crypto
  | some slot =>
    let s1 := s.keyCacheUse home side m.gen slot
    if v = .tagFails then
      let s2 := if s1.replacedBehind line
        then ((s1.recordLine 3 Ev.TAG_MISMATCH line m.gen false).bump F.LC_TAG_FAILS_COUNT 1).raise
          Ev.TAG_MISMATCH [line * 256, m.gen]
        else s1.tagFailed line
      (s2.refuseMerges line 4 St.INTEGRITY).endReads line St.INTEGRITY memory crypto
    else
      let refuse := s1.merges.any fun k => decide (k.line = line) && k.poisoned
      let s2 := if refuse then s1.refuseMerges line 3 St.POISONED else s1.applyMerges line
      let s3 := if (s2.frontLine line).valid then s2 else s2.allocLine line (s2.insertValue line) false
      s3.answerReads line false memory crypto

end Sys2Proof.Machine
end

