-- ==== Sys2Proof/Machine/Queues.lean ====
section
/-! DEFINITION. Queues (R163 to R194): descriptors, completion records, notices, horizons (R35 to R38), the hazard hold
(R180), and how an operation ends. -/

namespace Sys2Proof.Machine

open Sys2Proof

/-- A queue. -/
def State.queue (q : Nat) (s : State) : Queue := Sparse.get {} q s.queues
/-- A queue, set. -/
def State.setQueue (q : Nat) (k : Queue) (s : State) : State := { s with queues := Sparse.set {} q k s.queues }
/-- The key of a command queue pair. -/
def cqpKey (qpn : Nat) : Nat := 2 ^ 24 + qpn

/-- STATE codes of RING_STATUS. -/
def Queue.live (k : Queue) : Bool := decide (k.state = 1) || decide (k.state = 2) || decide (k.state = 3)

/-- A field of a descriptor: `w` bits from bit `lo` of byte `byte` (Table 5.3). -/
def dbits (d : BitVec 512) (byte lo w : Nat) : Nat := bitsOf d.toNat (8 * byte + lo) w
/-- SEQ. -/
def dSeq (d : BitVec 512) : Nat := dbits d 0 0 64
/-- OPCODE. -/
def dOpcode (d : BitVec 512) : Nat := dbits d 8 0 8
/-- IRQ. -/
def dIrq (d : BitVec 512) : Bool := decide (dbits d 9 0 1 = 1)
/-- PARTS, 0 treated as 1. -/
def dParts (d : BitVec 512) : Nat := let p := dbits d 10 0 4; if p = 0 then 1 else p
/-- OBJECT. -/
def dObject (d : BitVec 512) : Nat := dbits d 12 0 32

/-- The queue a WAIT or ABORT names. -/
def targetKey (d : BitVec 512) : Nat := if dbits d 12 24 1 = 1 then cqpKey (dbits d 12 0 24) else dbits d 12 0 24

/-- The binding of a queue now, with the tenant the queue took at its creation (R163), or none at check BINDING. -/
def State.queueBinding (q : Nat) (s : State) : Option Binding :=
  let k := s.queue q
  let b := if isRing q then s.ringBinding (q / 64) else s.pkeyBinding k.pkey
  if s.tenantActive k.tenant then b.map fun x => { x with tenant := k.tenant } else none

/-! Records. -/

/-- A message on vector 5 or 6 of a ring, held off under R172. -/
def State.signal (q : Nat) (notice : Bool) (s : State) : State :=
  let n := q / 64
  let r := q % 64
  let k := s.queue q
  if !s.isSet (F.RING_CFG_IRQ_EN n r) then s
  else
    let until_ := s.now + usFc (s.get (F.RING_CFG_COAL_US n r))
    if notice then
      if s.now < k.hold6 then s.setQueue q { k with more6 := true }
      else (s.setQueue q { k with hold6 := until_, more6 := false }).msix n 6
    else
      if s.now < k.hold5 then s.setQueue q { k with more5 := true }
      else (s.setQueue q { k with hold5 := until_, more5 := false }).msix n 5

/-- A record written as the queue's next: into its slot with its PHASE on a ring (R170), or ready for a completion SEND on
a command queue pair (R193). It carries the queue's horizon and LOST (R37, R190). -/
def State.writeRecord (q : Nat) (r : CompRec) (s : State) : State :=
  let k := s.queue q
  let r1 := { r with horizon := k.horizon, lost := k.lost }
  if isRing q then
    let lg := s.get (F.RING_CFG_CQ_LOG2 (q / 64) (q % 64))
    let s1 := (s.setQueue q { k with written := k.written + 1, lost := false }).emit
      (.cqRecord q (k.written % 2 ^ lg) (decide (k.written / 2 ^ lg % 2 = 0)) r1)
    if r.notice then s1.signal q true else if r.irq then s1.signal q false else s1
  else s.setQueue q { k with written := k.written + 1, lost := false, out := k.out ++ [r1] }

/-- Descriptors fetched and not yet completed (R167). -/
def Queue.outstanding (k : Queue) : Nat := k.ops.foldl (fun n o => n + o.parts) 0

/-- Completion slots in use or reserved: records written and not consumed, records ORDERED holds, and descriptors
outstanding (R167). -/
def Queue.usedSlots (k : Queue) : Nat := (k.written - k.cqHead) + k.heldRecs.length + k.outstanding

/-- The completion ring's size; a command queue pair has none (R193). -/
def State.cqSize (q : Nat) (s : State) : Nat :=
  if isRing q then 2 ^ s.get (F.RING_CFG_CQ_LOG2 (q / 64) (q % 64)) else 2 ^ 64

/-- The takeover notice a taken-over queue owes, written before any other record of it: a due completion has its slot (R39, R190). -/
def State.payTakeover (q : Nat) (s : State) : State :=
  let k := s.queue q
  match k.takeover with
  | some h =>
    (s.setQueue q { k with takeover := none, horizon := h }).writeRecord q
      { seq := 0, horizon := h, status := St.SUCCESS, detail := 0, opcode := 1, notice := true, duplicate := false,
        lost := false, ext := [], resultA := k.takeoverSide, resultB := 0, irq := false }
  | none => s

/-- The takeover notice written once a slot is free for it (R190). -/
def State.offerTakeover (q : Nat) (s : State) : State := s.when (decide ((s.queue q).usedSlots < s.cqSize q)) (State.payTakeover q)

/-- A notice of Table 5.9 to one queue: dropped with LOST and NOTICE_LOST when no slot is free (R190). -/
def State.noticeTo (q typ status ra rb : Nat) (s0 : State) : State :=
  let s := s0.offerTakeover q
  let k := s.queue q
  if !k.live then s0
  else if k.takeover.isNone ∧ k.usedSlots < s.cqSize q then
    s.writeRecord q
      { seq := 0, horizon := 0, status := status, detail := 0, opcode := typ, notice := true, duplicate := false,
        lost := false, ext := [], resultA := ra, resultB := rb, irq := false }
  else (s.setQueue q { k with lost := true }).raiseLimited Ev.NOTICE_LOST q []

/-- The queue receives its tenant's notices: a command queue pair, or a ring with NOTICE_EN (R189). -/
def State.takesNotices (q : Nat) (s : State) : Bool :=
  (s.queue q).live && (!isRing q || s.isSet (F.RING_CFG_NOTICE_EN (q / 64) (q % 64)))

/-- A notice to every queue of a tenant that takes notices; every tenant's when `tenant` is none (R189). -/
def State.notice (tenant : Option Nat) (typ ra rb : Nat) (s : State) : State :=
  let qs := (s.queues.filter fun e => match tenant with
    | some t => decide (e.2.tenant = t)
    | none => true).map (·.1)
  s.forEach qs fun q a => if a.takesNotices q then a.noticeTo q typ St.SUCCESS ra rb else a

/-! Horizons (R35 to R38). -/

/-- The mirror SEQ up to which the twin has acknowledged. -/
def State.ackSeq (s : State) : Nat := s.get F.CW_ACK_SEQ_SEQ

/-- The highest s such that the entries (SEQ, parts) cover every descriptor from `from_` + 1 up to s. -/
def walkSeqs (fuel from_ : Nat) (es : List (Nat × Nat)) : Nat :=
  match fuel with
  | 0 => from_
  | f + 1 =>
    match es.find? fun e => decide (e.1 = from_ + 1) with
    | some e => walkSeqs f (from_ + e.2) es
    | none => from_

/-- The horizon a queue's completed work and its twin-durable PERSISTs reach (R35). -/
def State.horizonReach (q : Nat) (s : State) : Nat :=
  let k := s.queue q
  let done := (k.doneSeqs.filter fun e => decide (e.2.2 ≤ s.ackSeq)).map fun e => (e.1, e.2.1)
  let persists := (k.ops.filter fun o => decide (dOpcode o.desc = 1) && decide (o.phase = .running) &&
    decide (o.cover ≤ s.ackSeq)).map fun o => (o.seq, o.parts)
  let es := done ++ persists
  walkSeqs (es.length + 1) k.hSent es

/-- The side a queue belongs to: that of the addresses that created a command queue pair (Table 4.2); for a ring this controller's, or the
partner's for a logical device with DORMANT 1 (R124). -/
def State.queueSide (q : Nat) (s : State) : Nat :=
  if isRing q then (if s.isSet (F.LD_MAP_DORMANT (q / 64)) then 1 - s.side else s.side) else q / 2 ^ 23 % 2

/-- The QUEUE_ID of a queue (R429): its number with KIND in bit 24, the owner side, and its incarnation. -/
def State.queueId (q : Nat) (s : State) : Nat := q + s.queueSide q * 2 ^ 25 + (s.queue q).incarnation % 2 ^ 32 * 2 ^ 32

/-- A cutover or a handback holds the queue: nothing is fetched from it (R435, R439). -/
def State.queueHeld (q : Nat) (s : State) : Bool :=
  s.cw.withheld || (s.cw.sideFence && decide (s.queueSide q ≠ s.side))

/-- A queue's horizon advanced: the new value sent to the twin (R36), or taken once the frame that carries it is
acknowledged. -/
def State.advanceHorizon (q : Nat) (s : State) : State :=
  if !s.mode.twin ∨ s.fenced ∨ !s.cw.linkKey then s
  else
    let k := s.queue q
    let got := k.hFrames.foldl (fun h e => if e.1 ≤ s.ackSeq then max h e.2 else h) k.horizon
    let k1 := { k with horizon := got, hFrames := k.hFrames.filter fun e => decide (s.ackSeq < e.1) }
    let s1 := s.setQueue q k1
    let h := s1.horizonReach q
    if k1.hSent < h then
      let f := s1.sendFrame (.horizon [(s1.queueId q, h)])
      f.2.setQueue q { k1 with hSent := h, hFrames := k1.hFrames ++ [(f.1, h)],
                               doneSeqs := k1.doneSeqs.filter fun e => decide (min h k1.prefix_ < e.1) }
    else s1

/-! Completion of an operation. -/

/-- The status a completion carries: LOCAL_ONLY replaces SUCCESS while horizons are frozen or for a write whose TWIN_COMPLETE
was suspended, FENCED replaces both (R192). -/
def State.finalStatus (status : Nat) (suspended duplicate : Bool) (s : State) : Nat :=
  if status = St.SUCCESS ∨ status = St.LOCAL_ONLY then
    if duplicate then St.SUCCESS
    else if s.fenced then St.FENCED
    else if s.isSet F.PLD_DUR_STATE_HORIZON_FROZEN ∨ suspended ∨ status = St.LOCAL_ONLY then St.LOCAL_ONLY
    else St.SUCCESS
  else status

/-- The records ORDERED holds that may be written now (R171). -/
def State.flushOrdered (fuel q : Nat) (s : State) : State :=
  match fuel with
  | 0 => s
  | f + 1 =>
    let k := s.queue q
    match k.heldRecs.find? fun e => decide (e.2.seq = k.recPrefix + 1) with
    | some e =>
      let k1 := { k with heldRecs := k.heldRecs.filter fun h => decide (h.2.seq ≠ e.2.seq), recPrefix := k.recPrefix + e.1 }
      State.flushOrdered f q ((s.setQueue q k1).writeRecord q e.2)
    | none => s

/-- The queue writes its records in sequence order. -/
def State.orderedQueue (q : Nat) (s : State) : Bool :=
  if isRing q then s.isSet (F.RING_CFG_ORDERED (q / 64) (q % 64)) else (s.queue q).ordered

/-- An operation ends: it leaves the queue, counts, advances PREFIX, and its record is written, or held by ORDERED. A queue
being destroyed writes no record (R171, R173, R183). -/
def State.completeOp (q : Nat) (o : OpRec) (status detail ra rb : Nat) (ext : List Nat) (s : State) : State :=
  let k := s.queue q
  let k1 := { k with ops := k.ops.filter fun x => decide (x.seq ≠ o.seq) }
  if !k.live then s.setQueue q k1
  else
    let done := k1.doneSeqs ++ [(o.seq, o.parts, o.mseq)]
    let k2 := { k1 with completions := k1.completions + 1, doneSeqs := done, scope := max k1.scope o.mseq,
                        prefix_ := walkSeqs (done.length + 1) k1.prefix_ (done.map fun e => (e.1, e.2.1)) }
    let s1 := (s.setQueue q k2).payTakeover q
    let r : CompRec := { seq := o.seq, horizon := 0, status := s1.finalStatus status o.suspended o.duplicate,
                         detail := if ext.isEmpty then detail else ext.length, opcode := dOpcode o.desc, notice := false,
                         duplicate := o.duplicate, lost := false, ext := ext, resultA := ra, resultB := rb,
                         irq := dIrq o.desc, parts := o.parts }
    if s1.orderedQueue q then
      let k3 := s1.queue q
      State.flushOrdered (k3.heldRecs.length + 2) q
        (s1.setQueue q { k3 with heldRecs := k3.heldRecs ++ [(o.parts, r)] })
    else s1.writeRecord q r

/-- The operation with a head SEQ. -/
def State.op? (q seq : Nat) (s : State) : Option OpRec := (s.queue q).ops.find? fun o => decide (o.seq = seq)

/-- An operation replaced in its queue. -/
def State.setOp (q : Nat) (o : OpRec) (s : State) : State :=
  let k := s.queue q
  s.setQueue q { k with ops := k.ops.map fun x => if x.seq = o.seq then o else x }

/-- An operation whose work is done completes when its mirror frame `wait` is acknowledged, or at once when there is none to
wait for (Table 1.3). -/
def State.finishOp (q : Nat) (o : OpRec) (status detail ra rb : Nat) (s : State) : State :=
  if o.wait = 0 ∨ o.wait ≤ s.ackSeq then s.completeOp q o status detail ra rb []
  else s.setOp q { o with phase := .finishing, fin := some (status, detail, ra, rb) }

/-- A WAIT of the queue is in progress: nothing later is fetched (R183). One whose PARTS is wrong only has its parts fetched (R176). -/
def Queue.waitHeld (k : Queue) : Bool := k.ops.any fun o => decide (dOpcode o.desc = 8) && decide (o.phase ≠ .assembling)

/-- A queue destroyed (R173): fetching stops; operations not started are dropped, COPY and ZERO stop at their line boundary,
WAITs are released, and other operations in progress run on without a record. -/
def State.destroyQueue (q : Nat) (s : State) : State :=
  let k := s.queue q
  if k.live then
    let keep := k.ops.filter fun o =>
      (decide (o.phase = .running) || decide (o.phase = .finishing) || decide (o.phase = .relayed)) &&
        !([2, 3, 8].contains (dOpcode o.desc))
    let s1 := s.setQueue q { k with state := 4, ops := keep, heldRecs := [], aborts := [], behind := [], out := [] }
    if isRing q then s1.put (F.RING_CFG_ENABLE (q / 64) (q % 64)) 0 else s1
  else s

/-! Where an operation may run (R177, R192, Table 1.10). -/

/-- The operations that the Reeve's firmware carries out (R479): region, key and MGMT operations. -/
def needsReeve (opcode : Nat) : Bool := [0x10, 0x11, 0x12, 0x18, 0x19, 0x38].contains opcode

/-- An operation that is fetched and not started, put through the conditions on its start: a frozen mode leaves it, another
mode gives NOT_READY, a fence FENCED, a removed tenant OBJECT_GONE, and one that needs the Reeve waits for its firmware; else `f`. -/
def State.startOp (q seq opcode : Nat) (f : OpRec → State → State) (s : State) : State :=
  match s.op? q seq with
  | none => s
  | some o =>
    if dOpcode o.desc ≠ opcode ∨ (o.phase ≠ .ready ∧ o.phase ≠ .held) then s
    else if s.mode = .save ∨ s.mode = .quarantine then s
    else if !s.mode.serving ∨ s.stopping then s.completeOp q o St.NOT_READY s.mode.num 0 0 []
    else if s.fenced then s.completeOp q o St.FENCED 0 0 0 []
    else if !s.tenantActive (s.queue q).tenant then s.completeOp q o St.OBJECT_GONE 5 0 0 []
    else if needsReeve opcode ∧ !s.pw.firmware then s
    else f o s

/-! The hazard hold (R180). -/

/-- The line ranges an operation reads and writes: (first, last + 1); empty for operations other than COPY and ZERO. -/
def opRanges (d : BitVec 512) : (Nat × Nat) × (Nat × Nat) :=
  let r (a len : Nat) : Nat × Nat := (a / 256, (a + len + 255) / 256)
  match dOpcode d with
  | 2 => (r (dbits d 16 0 49) (dbits d 32 0 64), r (dbits d 24 0 49) (dbits d 32 0 64))
  | 3 => ((0, 0), r (dbits d 16 0 49) (dbits d 24 0 64))
  | _ => ((0, 0), (0, 0))

/-- Two half-open ranges share an element. -/
def overlaps (a b : Nat × Nat) : Bool := decide (a.1 < b.2) && decide (b.1 < a.2) && decide (a.1 < a.2) && decide (b.1 < b.2)

/-- An earlier incomplete operation of the queue holds an operation (R180). -/
def State.hazard (q : Nat) (o : OpRec) (s : State) : Bool :=
  let m := opRanges o.desc
  (s.queue q).ops.any fun e =>
    let x := opRanges e.desc
    decide (e.seq < o.seq) && (overlaps m.1 x.2 || overlaps m.2 x.2 || overlaps m.2 x.1)

end Sys2Proof.Machine
end

