-- ==== Sys2Proof/Machine/CxlPorts.lean ====
section
/-! DEFINITION. What a reset, a loss of link or a return to service does to CXL ports, links and logical devices (R103,
R105, R106, R119, R125, R126): the operations the port commands and the reactions of the fault collector share. -/

namespace Sys2Proof.Machine

open Sys2Proof

/-- The links of a port and their lanes by its BIFURC field (Table 3.2). -/
def portLinks (p bifurc : Nat) : List (Nat × Nat) :=
  match bifurc with
  | 0 => [(4 * p, 16)]
  | 1 => [(4 * p, 8), (4 * p + 2, 8)]
  | 2 => [(4 * p, 4), (4 * p + 1, 4), (4 * p + 2, 4), (4 * p + 3, 4)]
  | _ => []

/-- BIFURC of a port. -/
def State.bifurc (p : Nat) (s : State) : Nat :=
  match p with
  | 0 => s.get F.CXL_GLOBAL_CFG_BIFURC_P0
  | 1 => s.get F.CXL_GLOBAL_CFG_BIFURC_P1
  | 2 => s.get F.CXL_GLOBAL_CFG_BIFURC_P2
  | _ => s.get F.CXL_GLOBAL_CFG_BIFURC_P3

/-- The configured lanes of a link; 0 for an index its port's division does not use. -/
def State.linkLanes (l : Nat) (s : State) : Nat :=
  (((portLinks (l / 4) (s.bifurc (l / 4))).find? fun e => decide (e.1 = l)).map (·.2)).getD 0

/-- The configuration of a link taken into effect (R103, R105): an absent index, an LD_COUNT of 0 or above 16, or a range that overlaps
one already in effect or extends past 63 leaves the link disabled; the last two raise CONFIG_INVALID. At configuration load the links are
taken in ascending index, so that a range already in effect is an earlier link's; a link whose port returns to service later yields to
those in effect (log entry 139). -/
def State.loadLink (l : Nat) (s : State) : State :=
  let base := s.get (F.CXL_LINK_CFG_LD_BASE l)
  let cnt := s.get (F.CXL_LINK_CFG_LD_COUNT l)
  let k := s.link l
  let lanes := s.linkLanes l
  let off := s.setLink l { k with present := false, lanes := lanes, ldBase := base, ldCount := 0 }
  if lanes = 0 ∨ cnt = 0 ∨ 16 < cnt then off
  else
    let clash := s.links.any fun e => decide (e.1 ≠ l) && e.2.present &&
      overlaps (e.2.ldBase, e.2.ldBase + e.2.ldCount) (base, base + cnt)
    if clash ∨ 64 < base + cnt then off.raise Ev.CONFIG_INVALID []
    else s.setLink l { k with present := true, lanes := lanes, ldBase := base, ldCount := cnt,
                              ideRequired := s.isSet (F.CXL_LINK_CFG_IDE_REQUIRED l) }

/-- The configuration of every link taken into effect in ascending link index: a configuration load (R105). -/
def State.loadLinks (ls : List Nat) (s : State) : State :=
  (s.forEach ls fun l a => a.setLink l { a.link l with present := false }).forEach ls fun l a => a.loadLink l

/-- The state a port keeps. -/
def State.port (p : Nat) (s : State) : CxlPort := Sparse.get {} p s.ports
/-- The state a port keeps, set. -/
def State.setPort (p : Nat) (k : CxlPort) (s : State) : State := { s with ports := Sparse.set {} p k s.ports }

/-- The links of a port, by index. -/
def portIndices (p : Nat) : List Nat := [4 * p, 4 * p + 1, 4 * p + 2, 4 * p + 3]

/-- The function state of a logical device reset (Table 3.7): configuration space, MSI-X, mailbox and background command. -/
def State.resetFunction (n : Nat) (s : State) : State :=
  let d := s.ld n
  let s1 := s.setLd n { d with irqPolicy := 0, d3hot := false, msixMask := [], msixPend := [], scan := none, scanResults := [], scanDone := false,
                               gpf := none, lsaWait := 0 }
  s1.forEach ((List.range 64).map (n * 64 + ·)) fun q a => a.destroyQueue q

/-- Everything a port reset does to one link (Table 3.7), with LINK_DOWN for one that goes down in a serving mode (R134); `linkOnly`: link
state only (R125). -/
def State.resetLink (l : Nat) (linkOnly : Bool) (s : State) : State :=
  let lds := s.linkLds l
  let fromLink (x : Src) : Bool := match x with
    | .cxl k _ _ => decide (k = l)
    | _ => false
  let s1 := s.put (F.CXL_LINK_STATUS_RATE l) 0 |>.put (F.CXL_LINK_STATUS_WIDTH l) 0
    |>.put (F.CXL_LINK_STATUS_MLD_ACTIVE l) 0 |>.put (F.CXL_LINK_STATUS_LOPT_FLIT l) 0
  let s1 := s1.when (s.linkUp l && s.mode.serving) (State.raise (Ev.CXL_LINK_DOWN l) [])
  if linkOnly then s1
  else
    let s2 : State := { s1 with
      writes := s1.writes.filter fun w => !fromLink w.src
      reads := s1.reads.filter fun r => !fromLink r.src
      ingress := s1.ingress.filter fun w => !fromLink w.src }
    let s3 := (s2.setLink l { s2.link l with epoch := [], held := [], ideKeys := 0 }).put (F.CXL_LINK_STATUS_IDE_STATE l) 0
    s3.forEach lds fun n a =>
      ((a.resetFunction n).setLd n { (a.resetFunction n).ld n with hdm := [] }).put (F.CXL_LD_STATUS_MEMORY_ACTIVE n) 0
        |>.put (F.CXL_LD_STATUS_HDM_COMMITTED n) 0

/-- A port reset by PERST_N or a link down: every link of the port, and its configuration space (R125). -/
def State.resetPort (p : Nat) (linkOnly : Bool) (s : State) : State :=
  let s1 := s.forEach (portIndices p) fun l a => a.resetLink l linkOnly
  if linkOnly then s1 else s1.setPort p { s1.port p with cfgLoaded := false }

/-- A port leaves service (R126): its links go down with the effects of a port reset, and PORT_OUT_OF_SERVICE carries the
cause. -/
def State.portLeaves (p cause : Nat) (s : State) : State :=
  if s.get (F.CXL_PORT_STATUS_SVC_STATE p) = 0 then s
  else ((s.resetPort p false).put (F.CXL_PORT_STATUS_SVC_STATE p) 0 |>.put (F.CXL_PORT_STATUS_OOS_CAUSE p) cause).raise
    (Ev.PORT_OUT_OF_SERVICE p) [cause]

/-- A port returns (R126): its configuration taken into effect, its links held unbound; it is in service when a link comes
up. DESIGN CHOICE (log entry 140): the link-down events counted before it left service count no more. -/
def State.portReturns (p : Nat) (s : State) : State :=
  let s1 := (s.loadLinks (portIndices p)).forEach (portIndices p) fun l a => a.put (F.CXL_LINK_STATUS_BIND_HOLD l) 1
  let s2 := s1.setPort p { s1.port p with cfgLoaded := true, downs := [] }
  (s2.put (F.CXL_PORT_STATUS_SVC_STATE p) 1 |>.put (F.CXL_PORT_STATUS_OOS_CAUSE p) 0).endCond (Ev.PORT_OUT_OF_SERVICE p)

/-- Memory Active set for every logical device as its binding and link allow (R119). -/
def State.setAllActive (s : State) : State := s.forEach (List.range 64) fun n a => a.setActive n

/-- Memory Active cleared for every logical device that is no longer bound (R119). -/
def State.dropUnbound (s : State) : State :=
  s.forEach (List.range 64) fun n a => if a.ldBound n then a else a.put (F.CXL_LD_STATUS_MEMORY_ACTIVE n) 0

/-- CXL_LD_TMO_MIN of a logical device: 2 ms and the largest stall ceiling among the regions of its tenant that overlap its
window (R131). -/
def State.timeoutMin (n : Nat) (s : State) : Nat :=
  let t := s.get (F.LD_MAP_TENANT n)
  let b := s.get (F.CXL_LD_WIN_BASE_BASE_SLOT n)
  let sp := s.get (F.CXL_LD_WIN_SPAN_SPAN_M1 n)
  2 + s.regions.foldl (fun m e =>
    if e.1 / 4096 = s.winSide n ∧ e.2.state ≠ 0 ∧ e.2.tenant = t ∧ e.2.baseSlot ≤ b + sp ∧ b ≤ e.2.baseSlot + e.2.sizeM1
      ∧ s.winValid n
    then max m e.2.stallCeil else m) 0

/-- A grant that is VALID, as the controller treats it, or REVOKING. -/
def State.grantCounts (g : Nat) (s : State) : Bool :=
  s.isSet (F.KG_GRANT_W3_REVOKING g) || (s.isSet (F.KG_GRANT_W0_VALID g) && decide (s.get (F.KG_GRANT_W0_TENANT g) ≠ 0) &&
    decide (s.get (F.KG_GRANT_W1_BASE_SLOT g) + s.get (F.KG_GRANT_W2_SPAN_M1 g) ≤ 262143))

/-- KG_TMO_MIN recomputed: 2 ms and the largest stall ceiling among the regions that overlap such a grant (R460). -/
def State.guestTimeout (s : State) : State :=
  let gs := (List.range 256).filter fun g => s.grantCounts g
  s.put F.KG_TMO_MIN_MS (2 + s.regions.foldl (fun m e =>
    if e.2.state ≠ 0 ∧ gs.any fun g =>
        decide (s.get (F.KG_GRANT_W0_SIDE g) = e.1 / 4096) &&
          decide (e.2.baseSlot ≤ s.get (F.KG_GRANT_W1_BASE_SLOT g) + s.get (F.KG_GRANT_W2_SPAN_M1 g)) &&
          decide (s.get (F.KG_GRANT_W1_BASE_SLOT g) ≤ e.2.baseSlot + e.2.sizeM1)
    then max m e.2.stallCeil else m) 0)

/-- CXL_LD_TMO_MIN recomputed for every logical device, and KG_TMO_MIN (R131, R460). -/
def State.recomputeTimeouts (s : State) : State :=
  (s.forEach (List.range 64) fun n a => a.put (F.CXL_LD_TMO_MIN_MS n) (a.timeoutMin n)).guestTimeout

end Sys2Proof.Machine
end

