-- ==== Sys2Proof/Machine/Fetch.lean ====
section
/-! DEFINITION. Fetching (R166 to R168), the checks a descriptor passes when it is fetched (R34, R175 to R178, R192), and the
assembly of multi-part operations (R176): shared by rings and command queue pairs. -/

namespace Sys2Proof.Machine

open Sys2Proof

/-- The MGMT message types marked "status" (Table 14.11). -/
def mgmtStatus (t : Nat) : Bool := (decide (1 ≤ t) && decide (t ≤ 6)) || decide (t = 0x13)

/-- The opcodes of Table 5.4. -/
def opcodes : List Nat := [0x01, 0x02, 0x03, 0x08, 0x09, 0x10, 0x11, 0x12, 0x18, 0x19, 0x20, 0x21, 0x22, 0x30, 0x38]

/-- The operations marked ADMIN. -/
def adminOpcodes : List Nat := [0x10, 0x11, 0x18, 0x19]

/-- The fields a descriptor of an opcode may use, as (byte, bit, width), beyond SEQ, OPCODE, IRQ and PARTS (Table 5.5). -/
def operandFields (op : Nat) : List (Nat × Nat × Nat) :=
  match op with
  | 0x02 => [(16, 0, 49), (24, 0, 49), (32, 0, 64)]
  | 0x03 => [(16, 0, 49), (24, 0, 64)]
  | 0x08 => [(12, 0, 25), (16, 0, 64), (24, 0, 2), (28, 0, 32)]
  | 0x09 => [(12, 0, 25), (16, 0, 64), (24, 0, 1)]
  | 0x10 => [(12, 0, 12), (16, 0, 32), (20, 0, 4), (21, 0, 5), (24, 0, 64)]
  | 0x11 => [(12, 0, 13)]
  | 0x12 => [(12, 0, 13), (12, 31, 1), (16, 0, 64)]
  | 0x18 => [(16, 0, 16)]
  | 0x19 => [(12, 0, 13)]
  | 0x20 => [(12, 0, 13), (16, 0, 49), (24, 0, 32), (28, 0, 16)]
  | 0x21 => [(12, 0, 16), (16, 0, 32)]
  | 0x22 => [(12, 0, 16)]
  | 0x30 => [(12, 0, 8), (16, 0, 384)]
  | 0x38 => [(12, 0, 32), (16, 0, 64), (24, 0, 16), (26, 0, 304)]
  | _ => []

/-- The bits of a descriptor that are not reserved. -/
def usedBits (op : Nat) : BitVec 512 :=
  ([(0, 0, 64), (8, 0, 8), (9, 0, 1), (10, 0, 4)] ++ operandFields op).foldl
    (fun (m : BitVec 512) (f : Nat × Nat × Nat) => m ||| (BitVec.ofNat 512 ((2 ^ f.2.2 - 1) * 2 ^ (8 * f.1 + f.2.1)))) 0

/-- The operand errors a descriptor shows by itself (PARAM of R175 to R178, R181, R183, R185, R187). -/
def paramBad (q : Nat) (d : BitVec 512) : Bool :=
  let op := dOpcode d
  let p := dParts d
  let range (a len : Nat) : Bool := decide (a % 64 ≠ 0) || decide (len < 64) || decide (2 ^ 46 < len) || decide (len % 64 ≠ 0)
  let target := if dbits d 12 24 1 = 1 then cqpKey (dbits d 12 0 24) else dbits d 12 0 24
  (decide (d &&& ~~~(usedBits op) ≠ 0)) || decide (8 < p) || (decide (op ≠ 0x18 ∧ op ≠ 0x38) && decide (p ≠ 1)) ||
  match op with
  | 0x02 => range (dbits d 16 0 49) (dbits d 32 0 64) || range (dbits d 24 0 49) (dbits d 32 0 64) ||
      overlaps (opRanges d).1 (opRanges d).2
  | 0x03 => range (dbits d 16 0 49) (dbits d 24 0 64)
  | 0x08 => decide (dbits d 24 0 2 = 3) ||
      (decide (target = q) && decide (dbits d 24 0 2 ≠ 0) && decide (dSeq d ≤ dbits d 16 0 64))
  | 0x09 => decide (target = q) && (decide (dbits d 24 0 1 = 1) || decide (dbits d 16 0 64 = dSeq d))
  | 0x12 => isRing q && decide (dbits d 12 31 1 = 0) && decide (dbits d 16 0 64 % 32 ≠ 0)
  | 0x18 => let b := dbits d 16 0 16
      decide (b = 0) || decide (336 < b) || decide (p ≠ ceilDiv b 48 + 1)
  | 0x20 => decide (dbits d 16 0 49 % 64 ≠ 0)
  | 0x38 => let r := dbits d 12 16 16
      decide (374 < r) || decide (512 < dbits d 24 0 16) || (isRing q && decide (dbits d 16 0 64 % 32 ≠ 0)) ||
        decide (p ≠ 1 + ceilDiv (r - 38) 48)
  | _ => false

/-- The status and DETAIL a descriptor completes with when it is fetched, or none when it may start (R177, R192). -/
def State.decideFetch (q : Nat) (d : BitVec 512) (s : State) : Option (Nat × Nat) :=
  let op := dOpcode d
  let admitted := (s.mode.serving && !s.stopping) || (decide (op = 0x12) && decide (dbits d 12 31 1 = 1)) ||
    (decide (op = 0x38) && mgmtStatus (dbits d 12 0 16))
  let b := s.queueBinding q
  if !admitted then some (St.NOT_READY, s.mode.num)
  else if s.fenced then some (St.FENCED, 0)
  else if !opcodes.contains op then some (St.OPCODE, 0)
  else match b with
    | none => some (St.DENIED, 2)
    | some x =>
      if adminOpcodes.contains op ∧ !x.admin then some (St.DENIED, 0)
      else if paramBad q d then some (St.PARAM, 0)
      else none

/-- The mirror SEQ that covers every write in a PERSIST's scope completed so far (Table 1.6): the queue's own operations, and
the CXL.mem writes of the logical device or the RDMA writes of the partition and host. -/
def State.persistCover (q : Nat) (s : State) : Nat :=
  let k := s.queue q
  max k.scope (Sparse.get 0 (if isRing q then q / 64 else 64 + k.gid * 2 ^ 16 + k.pkey % 2 ^ 15) s.scopes)

/-- A queue stopped (R34, R194): RING_STOPPED, and vector 7 of a ring. -/
def State.stopQueue (q cause : Nat) (s : State) : State :=
  let k := s.queue q
  let s1 := (s.setQueue q { k with state := 3, stopCause := cause }).raise Ev.RING_STOPPED [q, cause, k.expected]
  if isRing q then s1.msix (q / 64) 7 else s1

/-- A record that completes no sequence number: SEQUENCE or a DUPLICATE (R34, R40). It counts once, and ORDERED never holds
it. -/
def State.looseRecord (q : Nat) (d : BitVec 512) (status : Nat) (dup : Bool) (s : State) : State :=
  let k := s.queue q
  ((s.setQueue q { k with completions := k.completions + 1 }).payTakeover q).writeRecord q
    { seq := dSeq d, horizon := 0, status := status, detail := 0, opcode := dOpcode d, notice := false, duplicate := dup,
      lost := false, ext := [], resultA := 0, resultB := 0, irq := dIrq d }

/-- The first byte of the range a refusal of an operation names (Table 2.12): of its source for a COPY, its destination for a ZERO, its extent
list for a STREAM_DECLARE; 0 for an operation without a range. -/
def opFirstByte (d : BitVec 512) : Nat :=
  match dOpcode d with
  | 0x02 | 0x03 | 0x20 => dbits d 16 0 49
  | _ => 0

/-- One descriptor fetched: its SEQ checked, then taken as a part of the operation being assembled or as a head. -/
def State.fetchOne (q : Nat) (d : BitVec 512) (s : State) : State :=
  let k := s.queue q
  if dSeq d ≠ k.expected then
    if 1 ≤ dSeq d ∧ dSeq d ≤ k.reissued then s.looseRecord q d St.SUCCESS true
    else (s.looseRecord q d St.SEQUENCE false).stopQueue q 1
  else
    let k1 := { k with expected := k.expected + 1, fetched := max k.fetched (dSeq d), lastFetch := s.now }
    match k1.ops.find? fun o => decide (o.phase = .assembling) && decide (o.payload.length + 1 < o.parts) with
    | some o =>
      let i := o.payload.length + 1
      let ok := decide (dOpcode d = 0xFE) && decide (dbits d 9 0 8 = i) && decide (dbits d 10 0 48 = 0)
      let o1 := { o with payload := o.payload ++ [dbits d 16 0 384],
                         fin := if ok ∨ o.fin.isSome then o.fin else some (St.PARAM, 0, 0, 0) }
      (s.setQueue q k1).setOp q o1
    | none =>
      let p := min 8 (dParts d)
      let aborted := k1.aborts.contains (dSeq d)
      let k2 := { k1 with aborts := k1.aborts.filter fun x => decide (x ≠ dSeq d) }
      let verdict := if aborted then some (St.ABORTED, 0) else s.decideFetch q d
      let fin := verdict.map fun v => (v.1, v.2, 0, 0)
      let multi := decide (1 < p) && decide (dParts d ≤ 8) && decide (dOpcode d ≠ 0xFE)
      let o : OpRec := { seq := dSeq d, desc := d, parts := if multi then p else 1, payload := [],
                         phase := if multi then .assembling else .ready, done := 0,
                         cover := if dOpcode d = 1 then s.persistCover q else 0, mseq := 0, wait := 0,
                         fin := fin, since := s.now, stalled := false, suspended := false, duplicate := false }
      let s1 := s.setQueue q { k2 with ops := k2.ops ++ [o] }
      match verdict with
      | some (st, det) =>
        let s2 := if st = St.NOT_READY then s1.refuse (queuePath q) 1 0 (queueIngress q) (opFirstByte d)
          else if st = St.DENIED ∧ det = 2 then s1.refuse (queuePath q) 2 0 (queueIngress q) (opFirstByte d) else s1
        if multi then s2 else s2.completeOp q o st det 0 0 []
      | none => s1

/-- Descriptors fetched in order until one stops the queue or a WAIT holds it (R34, R183); what remains. Fetching of a command queue pair
resumes at the position of the descriptor that stopped it (R193). -/
def State.fetchAll (q : Nat) : List (BitVec 512) → State → State × List (BitVec 512)
  | [], s => (s, [])
  | d :: t, s =>
    let k := s.queue q
    if k.waitHeld ∨ k.state = 3 ∨ !k.live then (s, d :: t)
    else
      let s1 := s.fetchOne q d
      if (s1.queue q).state = 3 ∧ !isRing q then (s1, d :: t) else fetchAll q t s1

/-- A ring's logical device is dormant: its rings do not poll and do not fetch (R174). -/
def State.dormantRing (q : Nat) (s : State) : Bool :=
  s.isSet (F.LD_MAP_DORMANT (q / 64)) && !s.isSet (F.CXL_LD_STATUS_ACTIVATED (q / 64))

/-- The next fetch read of a ring, of up to eight slots, as SQ_TAIL and the reserved completion slots allow (R166, R167). -/
def State.pollFetch (q : Nat) (s : State) : State :=
  let k := s.queue q
  let n := q / 64
  let r := q % 64
  let sq := 2 ^ s.get (F.RING_CFG_SQ_LOG2 n r)
  let cq := s.cqSize q
  let lim := min (2 ^ min 10 (s.get (F.RING_CFG_FETCH_LOG2 n r))) sq
  let room := min (cq - 16 - k.usedSlots) (lim - k.outstanding)
  let want := min (k.sqTail - (k.expected - 1)) sq
  let c := min 8 (min room want)
  if k.state = 1 ∧ !k.waitHeld ∧ !s.frozenMode ∧ !s.queueHeld q ∧ k.asked < k.expected ∧ 0 < c then
    (s.setQueue q { k with asked := k.expected - 1 + c }).emit (.fetchRead q k.expected c)
  else s

/-- A queue goes on fetching after a WAIT ends or it is resumed (R168, R183, R187). -/
def State.resumeFetch (q : Nat) (s : State) : State :=
  let k := s.queue q
  if isRing q then
    if k.state = 2 then ((s.setQueue q { k with state := 1 }).emit (.asleep q false)).emit (.readControl q)
    else if k.state = 1 then (s.emit (.readControl q)).pollFetch q else s
  else
    let r := (s.setQueue q { k with behind := [] }).fetchAll q k.behind
    let k1 := r.1.queue q
    r.1.setQueue q { k1 with behind := r.2 ++ k1.behind }

end Sys2Proof.Machine
end

