-- ==== Sys2Proof/Machine/Keys.lean ====
section
/-! DEFINITION. Key slots (R325 to R328) and the key store (R330 to R333, R336, R341): the operations that the region and key
commands, the Causeway and the tenant commands share. -/

namespace Sys2Proof.Machine

open Sys2Proof

/-! Key slots. -/

/-- The valid key slots, by number. -/
def State.validSlots (s : State) : List Nat :=
  s.regs.filterMap fun e =>
    let off := e.1 / 64
    if e.1 % 64 = 63 ∧ 0x704000 ≤ off ∧ off < 0x704000 + 8 * 16384 ∧ e.2 = 1 then some ((off - 0x704000) / 8) else none

/-- A slot bound to a generation. -/
def State.bindSlot (k side gen tenant : Nat) (s : State) : State :=
  s.put (F.KS_SLOT_INFO_VALID k) 1 |>.put (F.KS_SLOT_INFO_SIDE k) side |>.put (F.KS_SLOT_INFO_TENANT k) tenant
    |>.put (F.KS_SLOT_INFO_KEY_GEN k) gen

/-- A slot overwritten with fresh random values and not VALID, its generation gone from every key cache (R327). -/
def State.clearSlot (k : Nat) (s0 : State) : State :=
  let r := s0.drawShares
  let s := r.2
  let key := s.get (F.KS_SLOT_INFO_SIDE k) * 2 ^ 32 + s.get (F.KS_SLOT_INFO_KEY_GEN k)
  let s1 := s.put (F.KS_SLOT_INFO_VALID k) 0 |>.put (F.KS_SLOT_INFO_SIDE k) 0 |>.put (F.KS_SLOT_INFO_TENANT k) 0
    |>.put (F.KS_SLOT_INFO_KEY_GEN k) 0
  { s1 with cry := { s1.cry with
      slotKeys := Sparse.set {} k r.1 s1.cry.slotKeys
      caches := s1.cry.caches.filterMap fun e =>
        let c := e.2.filter fun x => decide (x ≠ key)
        if c.isEmpty then none else some (e.1, c) } }

/-- The slot of a generation destroyed. -/
def State.destroyGen (side gen : Nat) (s : State) : State :=
  match s.keySlotOf side gen with
  | some k => s.clearSlot k
  | none => s

/-! The key store. -/

/-- The slot in force. -/
def State.keySlotInForce (s : State) : KeySlot := if s.get F.KSTORE_STATUS_ACTIVE_SLOT = 0 then s.ks.a else s.ks.b
/-- The key store's content in force. -/
def State.keyBody (s : State) : KeyBody := s.keySlotInForce.body
/-- The key entry of a tenant in force. -/
def KeyBody.tenant (b : KeyBody) (t : Nat) : TenantKeys := Sparse.get {} t b.tenants

/-- A change applied to a key store's content (R335, R336, R341). -/
def KeyBody.apply (b : KeyBody) : KeyChange → KeyBody
  | .addGen g => { b with gens := (b.gens.filter fun x => decide (x.side ≠ g.side ∨ x.gen ≠ g.gen)) ++ [g] }
  | .dropGen sd gen => { b with gens := b.gens.filter fun x => decide (x.side ≠ sd ∨ x.gen ≠ gen) }
  | .setMaster t midx serial master =>
    let k := b.tenant t
    let k1 := { k with st := if k.st = 0 then 1 else if k.current = midx then k.st else 2, current := midx,
                       floor := max k.floor serial,
                       master0 := if midx = 0 then master else k.master0, master1 := if midx = 0 then k.master1 else master }
    { b with tenants := Sparse.set {} t k1 b.tenants }
  | .dropMaster t midx =>
    let k := b.tenant t
    { b with tenants := Sparse.set {} t { k with st := 1, master0 := if midx = 0 then 0 else k.master0,
                                                 master1 := if midx = 0 then k.master1 else 0 } b.tenants }
  | .dropTenant t =>
    let k := b.tenant t
    { b with tenants := Sparse.set {} t { floor := k.floor } b.tenants }

/-! The keys of a generation. -/

/-- The generation entry and the master it names, as the key store has them, or will have them once the changes collected are in force
(R310). -/
def State.genSource (side gen : Nat) (s : State) : Option (Nat × Nat) :=
  let b := (s.ks.current ++ s.ks.pendingChanges).foldl KeyBody.apply s.keyBody
  (b.gens.find? fun g => decide (g.side = side ∧ g.gen = gen)).map fun g =>
    (if g.midx = 0 then (b.tenant g.tenant).master0 else (b.tenant g.tenant).master1, g.salt)

/-- The keys of a generation, derived from its master and salt (R310), loaded by the Reeve into the lowest slot that is free (R326); a generation
that is loaded is left alone, and one that the key store does not name cannot be loaded. -/
def State.loadSlot (side gen tenant : Nat) (s : State) : State :=
  if (s.keySlotOf side gen).isSome then s
  else match s.genSource side gen with
    | none => s
    | some e =>
      let used := s.validSlots
      match (List.range (used.length + 1)).find? fun k => !used.contains k with
      | some k => if k < 16384 then (s.putKeys k (lineKeys e.1 e.2 side gen)).bindSlot k side gen tenant else s
      | none => s

/-- The change destroys a key: two updates in succession (R331). -/
def KeyChange.destroys : KeyChange → Bool
  | .dropGen _ _ => true
  | .dropMaster _ _ => true
  | .dropTenant _ => true
  | _ => false

/-- The KEY frame that carries a change to the twin (Table 12.3). -/
def KeyChange.frame : KeyChange → CwBody
  | .addGen g => .keyGen g.side g.gen g.tenant g.midx g.salt
  | .dropGen sd gen => .keyDestroyGen sd gen
  | .setMaster t midx serial master => .keyMaster t midx serial master
  | .dropMaster t midx => .keyDestroyMaster t midx
  | .dropTenant t => .keyDestroyMaster t 2

/-- Frames sent one after another: the SEQ of the last (0: none), and the state. -/
def State.sendFrames : List CwBody → State → Nat × State
  | [], s => (0, s)
  | b :: t, s =>
    let r := s.sendFrame b
    let u := sendFrames t r.2
    (if u.1 = 0 then r.1 else u.1, u.2)

/-- Changes reach the twin: mirroring is in force, or a catch-up or resync is under way (R417, R438). -/
def State.twinLink (s : State) : Bool :=
  s.cw.linkKey && (s.mode.twin || decide (s.mode = .resync) || s.catchingUp)

/-- Changes of the key store collected for the next update, sent to the twin, with what waits for them (R331, R333). -/
def State.postKey (cs : List KeyChange) (ws : List KeyWait) (s : State) : State :=
  let r := if s.twinLink then s.sendFrames (cs.map KeyChange.frame) else (0, s)
  let s1 := r.2
  { s1 with ks := { s1.ks with
      pendingChanges := s1.ks.pendingChanges ++ cs
      pendingWaits := s1.ks.pendingWaits ++ ws.map fun w => (r.1, w)
      destroys := s1.ks.destroys || cs.any KeyChange.destroys } }

/-- The changes a twin's KEY frame asks for. -/
def keyFrameChange : CwBody → Option KeyChange
  | .keyGen sd gen t midx salt => some (.addGen ⟨sd, gen, t, midx, salt⟩)
  | .keyMaster t midx serial master => some (.setMaster t midx serial master)
  | .keyDestroyGen sd gen => some (.dropGen sd gen)
  | .keyDestroyMaster t midx => some (if midx = 2 then .dropTenant t else .dropMaster t midx)
  | _ => none

/-- A KEY frame staged for the next update (R415): no frame goes back for it but KEY_COMMITTED. -/
def State.stageKey (seq : Nat) (c : KeyChange) (s : State) : State :=
  { s with ks := { s.ks with
      pendingChanges := s.ks.pendingChanges ++ [c]
      pendingWaits := s.ks.pendingWaits ++ [(0, .twin seq)]
      destroys := s.ks.destroys || c.destroys } }

/-- The older masters that no generation entry names any longer destroyed (R336). -/
def State.dropStaleMasters (s : State) : State :=
  let b := s.keyBody
  let stale := b.tenants.filter fun e => decide (e.2.st = 2) &&
    !(b.gens.any fun g => decide (g.tenant = e.1 ∧ g.midx ≠ e.2.current)) &&
    !(s.ks.pendingChanges.any fun c => match c with
      | .dropMaster t _ => decide (t = e.1)
      | .addGen g => decide (g.tenant = e.1 ∧ g.midx ≠ e.2.current)
      | _ => false)
  if stale.isEmpty then s
  else s.postKey (stale.map fun e => .dropMaster e.1 (1 - e.2.current)) []

/-- KEYS_VALID of each tenant as the store in force has it (R84, R335). -/
def State.syncKeysValid (s : State) : State :=
  s.forEach (s.keyBody.tenants.map (·.1)) fun t a => a.put (F.TENANT_W0_KEYS_VALID t) (flag (decide ((a.keyBody.tenant t).st ≠ 0)))

/-- The next key generation drawn (R80): the counter passed on, with KEY_GEN_LOW at the draw that leaves fewer than 1,048,576
values. -/
def State.drawGen (s : State) : Nat × State :=
  let g := s.get F.ADR_GEN_NEXT_GEN
  let s1 := s.put F.ADR_GEN_NEXT_GEN (g + 1)
  (g, s1.when (decide (0xFFFFFFFF - (g + 1) = 1048575)) (State.raise Ev.KEY_GEN_LOW []))

/-- The counter is exhausted (R80). -/
def State.genExhausted (s : State) : Bool := decide (s.get F.ADR_GEN_NEXT_GEN = 0xFFFFFFFF)

/-- A salt drawn: 32 B from the random bit generator (R330). -/
def State.drawSalt (s : State) : Nat × State := s.drawWords 4

end Sys2Proof.Machine
end

