-- ==== Sys2Proof/Machine/Culvert.lean ====
section
/-! DEFINITION. The Culvert's shared operations: pages and frames of an extent, translation and journal (R250 to R254), and
streams (R240 to R247). -/

namespace Sys2Proof.Machine

open Sys2Proof

/-! Journal and translation. -/

/-- A translation entry changed: the matching delta goes into the journal (R251, R253). KIND 1: MAP; 2: UNMAP; 3: LOST. -/
def State.setTrans (p kind deep : Nat) (s : State) : State :=
  let t : Trans := match kind with
    | 1 => { st := 1, deep := deep }
    | 3 => { st := 2 }
    | _ => {}
  let tp := p / 2048
  let mark := if Sparse.get 0 tp s.cul.tableDirty = 0 then Sparse.set 0 tp (s.now + 1) s.cul.tableDirty else s.cul.tableDirty
  { s with cul := { s.cul with trans := Sparse.set {} p t s.cul.trans
                               jpend := s.cul.jpend ++ [⟨p * 16384, kind, t.st * 2 ^ 62 + t.deep, s.now⟩]
                               tableDirty := mark } }

/-- The slots of a region given table slots, the lowest free ones (R250). -/
def State.takeTableSlots (idx : Nat) (r : Region) (s : State) : State :=
  s.forEach (List.range (r.sizeM1 + 1)) fun i a =>
    let k := idx / 4096 * 2 ^ 18 + r.baseSlot + i
    let used := a.cul.slots.map fun e => e.2 - 1
    match (List.range (used.length + 1)).find? fun n => !used.contains n with
    | some n => { a with cul := { a.cul with slots := Sparse.set 0 k (n + 1) a.cul.slots } }
    | none => a

/-- The extents of a region, by number. -/
def regionExtents (idx : Nat) (r : Region) : List Nat :=
  (List.range ((r.sizeM1 + 1) * 512)).map (regionBase idx r / 2 ^ 21 + ·)

/-- An extent, page or line number lies in a region, given the bytes of one. -/
def inRegion (idx : Nat) (r : Region) (unit n : Nat) : Bool :=
  decide (regionBase idx r ≤ n * unit) && decide (n * unit < regionBase idx r + r.bytes)

/-! Frames. -/

/-- The frames of pinned regions of both sides (Table 7.12). -/
def State.pinnedFrames (s : State) : Nat :=
  s.regions.foldl (fun n e => if e.2.state ≠ 0 ∧ e.2.policy = 0 then n + (e.2.sizeM1 + 1) * 512 else n) 0

/-- An extent gives up its frame and its pages (R236): the record leaves the extent map. -/
def State.dropExtent (x : Nat) (s : State) : State :=
  let e := s.extent x
  let s1 := { s with cul := { s.cul with
      pages := Sparse.clear (x * 128) (x * 128 + 128) s.cul.pages
      xmc := s.cul.xmc.filter fun y => decide (y ≠ x) } }
  let s2 := s1.setExtent x { e with frame := none, access := false, evict := false, released := 0 }
  s2.syncFree

/-- Every extent of a region holds a frame (R225). -/
def State.allFramed (idx : Nat) (r : Region) (s : State) : Bool :=
  (regionExtents idx r).all fun x => (s.extent x).frame.isSome

/-- Frames given to the extents of a pinned region that have none, as far as free frames allow, with PIN set (R225, R248). -/
def State.pinRegion (idx : Nat) (r : Region) (s : State) : State :=
  let s1 := s.forEach (regionExtents idx r) fun x a =>
    let b := a.assignFrame x
    b.setExtent x { b.extent x with pin := true }
  if s1.allFramed idx r ∨ s1.cul.unframed.contains idx then s1
  else { s1 with cul := { s1.cul with unframed := s1.cul.unframed ++ [idx] } }

/-- The ABSENT, MAPPED pages of a pinned region's extents (R249). -/
def State.pinPages (idx : Nat) (r : Region) (s : State) : List Nat :=
  (s.cul.trans.filter fun e => decide (e.2.st ≠ 0) && inRegion idx r 16384 e.1 && decide ((s.page e.1).st = 0)).map (·.1)

/-- A pin fill started (R249): every ABSENT page but the UNMAPPED ones, at priority 4. -/
def State.startPinFill (idx : Nat) (s : State) : State :=
  let r := s.region idx
  let ps := s.pinPages idx r
  if ps.isEmpty then s
  else
    let s1 := s.forEach ps fun p a => a.requestFill p 4
    ({ s1 with cul := { s1.cul with
        pinRegions := if s1.cul.pinRegions.contains idx then s1.cul.pinRegions else s1.cul.pinRegions ++ [idx] } }).put
      F.CUL_STATUS_PIN_FILL_ACTIVE 1

/-- The pages a region's pin fill still waits for. -/
def State.pinLeft (idx : Nat) (s : State) : Nat :=
  let r := s.region idx
  (s.cul.fills.filter fun f => decide (f.prio = 4) && inRegion idx r 16384 f.page).length

/-- Pin fills looked at: CUL_PIN_FILL_LEFT, and PIN_FILL_DONE for a region whose fill has ended (R249). -/
def State.checkPinFills (s : State) : State :=
  let done := s.cul.pinRegions.filter fun i => decide (s.pinLeft i = 0)
  let s1 := { s with cul := { s.cul with pinRegions := s.cul.pinRegions.filter fun i => !done.contains i } }
  let s2 := s1.forEach done fun i a => a.raise Ev.PIN_FILL_DONE [i]
  let left := s2.cul.pinRegions.foldl (fun n i => n + s2.pinLeft i) 0
  s2.put F.CUL_PIN_FILL_LEFT_PAGES left |>.put F.CUL_STATUS_PIN_FILL_ACTIVE (flag (!s2.cul.pinRegions.isEmpty))

/-! Writes of the service region and other writes the hub makes for itself. -/

/-- A write the hub makes for itself, charged to a tenant (0: to none, R276): it presents to its home agent as any write does, held while
the mirror window is full (R21, R65) or the home-agent queue is (R201). -/
def State.hubWrite (src : Src) (tenant a n v : Nat) (s : State) : State :=
  s.presentWrite { src := src, tenant := tenant, line := lineOf a, mask := BitVec.ofNat 256 ((2 ^ n - 1) * 2 ^ (a % 256)),
                   data := BitVec.ofNat 2048 (v % 2 ^ (8 * n) * 2 ^ (8 * (a % 256))), poison := false, readOnly := false,
                   entered := s.now }

/-- A write into the service region of a side, of `n` bytes that stay in one line (R427). -/
def State.serviceWrite (sd off n v : Nat) (s : State) : State :=
  s.hubWrite .hub 0 (slotAddr sd ((s.region (recIdx sd 0)).baseSlot) + off) n v

/-- A byte of the hub's own: its newest write that is held at ingress prevails over what is stored. -/
def State.hubByte (a : Nat) (s : State) : Nat :=
  let held := s.ingress.reverse.findSome? fun r => match r with
    | .write w => if w.src = .hub ∧ w.line = lineOf a ∧ w.mask.getLsbD (a % 256) then some (bitsOf w.data.toNat (8 * (a % 256)) 8) else none
    | .read _ => none
  match held with
  | some b => b
  | none => if s.live (lineOf a) then (s.byte a).toNat else 0

/-- A value of `n` bytes of the service region of a side. -/
def State.serviceRead (sd off n : Nat) (s : State) : Nat :=
  let a := slotAddr sd ((s.region (recIdx sd 0)).baseSlot) + off
  (List.range n).foldl (fun v i => v + s.hubByte (a + i) * 2 ^ (8 * i)) 0

/-! Streams. -/

/-- The register index of a stream of side `sd`. -/
def streamIdx (sd i : Nat) : Nat := 512 * sd + i

/-- A stream. -/
def State.stream (j : Nat) (s : State) : Stream := Sparse.get {} j s.cul.streams

/-- The handle of stream j (R240). -/
def streamHandle (j inc : Nat) : Nat := j % 512 + inc * 2 ^ 9 + j / 512 * 2 ^ 15

/-- A stream set, with the registers of Table 7.12 that show it. -/
def State.setStream (j : Nat) (k : Stream) (s : State) : State :=
  { s with cul := { s.cul with streams := Sparse.set {} j k s.cul.streams } }
    |>.put (F.CUL_STREAM_STATE_HANDLE j) (if k.st = 0 then 0 else streamHandle j k.incarnation)
    |>.put (F.CUL_STREAM_STATE_CAUSE j) k.cause |>.put (F.CUL_STREAM_STATE_STATE j) k.st
    |>.put (F.CUL_STREAM_POS_POSITION j) k.pos |>.put (F.CUL_STREAM_WINDOW_WINDOW j) k.window
    |>.put (F.CUL_STREAM_MISSES_COUNT j) (min k.misses (2 ^ 32 - 1))

/-- The list entries from position `p` for `n` entries: modulo ENTRIES with WRAP, up to the last entry without (R242). -/
def Stream.entriesAt (k : Stream) (p n : Nat) : List Nat :=
  let e := k.entries.length
  if e = 0 then []
  else if k.wrap then (List.range n).map fun i => k.entries.getD ((p + i) % e) 0
  else (k.entries.drop p).take n

/-- The extents a stream holds: its window in FILLING and WINDOW, the extents at v and v + 1 in FALLBACK (R242, R244). -/
def Stream.heldEntries (k : Stream) : List Nat :=
  match k.st with
  | 1 | 2 => k.entriesAt k.pos k.window
  | 3 => k.entriesAt k.pos 2
  | _ => []

/-- The pair-wide numbers of extents of a stream's region. -/
def State.streamExtents (k : Stream) (es : List Nat) (s : State) : List Nat :=
  es.map (regionBase k.region (s.region k.region) / 2 ^ 21 + ·)

/-- An extent is resident when every one of its pages is PRESENT (R244). -/
def State.extentResident (x : Nat) (s : State) : Bool := (List.range 128).all fun i => s.present (x * 128 + i)

/-- The frames a window reserves: one for each distinct extent (R242). -/
def distinct (l : List Nat) : Nat := l.eraseDups.length

/-- The frames reserved by the windows of all streams (R242). -/
def State.windowFrames (s : State) : Nat :=
  s.cul.streams.foldl (fun n e => if e.2.st = 1 ∨ e.2.st = 2 then n + distinct (e.2.entriesAt e.2.pos e.2.window) else n) 0

/-- The effective budget admits a window more (R242). -/
def State.admits (k : Stream) (s : State) : Bool :=
  let budget := min (s.get F.CUL_STREAM_BUDGET_COUNT) (s.get F.CUL_FRAMES_COUNT - s.pinnedFrames - 8192)
  decide (s.windowFrames + distinct (k.entriesAt k.pos k.window) ≤ budget)

/-- The window references of extents changed: taken for `new`, given up for `old`; an extent no window holds any longer joins
the first eviction class (R235, R245). -/
def State.moveWindow (old new : List Nat) (s : State) : State :=
  let s1 := s.forEach new fun x a => a.setExtent x { a.extent x with windows := (a.extent x).windows + 1, released := 0 }
  s1.forEach old fun x a =>
    let e := a.extent x
    let w := e.windows - 1
    if w = 0 then
      { a.setExtent x { e with windows := 0, released := a.cul.releases + 1 } with
        cul := { (a.setExtent x { e with windows := 0, released := a.cul.releases + 1 }).cul with releases := a.cul.releases + 1 } }
    else a.setExtent x { e with windows := w }

/-- The fills of a stream's extents queued in list order, each extent's ABSENT pages in ascending order (R242). -/
def State.streamFills (j : Nat) (xs : List Nat) (s : State) : State :=
  s.forEach xs fun x a => a.forEach ((List.range 128).map (x * 128 + ·)) fun p b =>
    if (b.page p).st = 0 then b.requestFillOf p 3 (j + 1) else b

/-- A stream changed to `k`: its held extents exchanged, the fills of those it takes on queued, its state a mark for the status
block (R242 to R246). -/
def State.changeStream (j : Nat) (k : Stream) (s : State) : State :=
  let o := s.stream j
  let old := s.streamExtents o o.heldEntries
  let new := s.streamExtents k k.heldEntries
  let s1 := (s.setStream j { k with changed := true }).moveWindow old new
  s1.streamFills j (new.filter fun x => !old.contains x)

/-- The extents of a stream's window are all resident: FILLING becomes WINDOW (Table 7.8). -/
def State.checkWindow (j : Nat) (s : State) : State :=
  let k := s.stream j
  if k.st = 1 ∧ (s.streamExtents k (k.entriesAt k.pos k.window)).all (fun x => s.extentResident x) then
    s.setStream j { k with st := 2, changed := true, wroteAt := 0 }
  else s

/-- Consecutive resident extents from the position (Table 7.6). -/
def State.residentAhead (k : Stream) (s : State) : Nat :=
  min 65535 ((s.streamExtents k (k.entriesAt k.pos k.entries.length)).takeWhile fun x => s.extentResident x).length

/-- The status block of a stream, written as one 64 B write (R246, Table 7.6), with a STATE and CAUSE; refused when the list's
range is no longer the tenant's to write. -/
def State.writeStreamStatus (j st cause : Nat) (s : State) : State :=
  let k := s.stream j
  if s.rangeCheck ⟨(s.region k.region).tenant, false, false⟩ (k.listAddr + 64) 64 true none ≠ 0 then
    (s.setStream j { k with changed := false, wroteAt := s.now + 1 }).raise Ev.STREAM_STATUS_REFUSED []
  else
  let r := s.residentAhead k
  let v := k.pos + st * 2 ^ 32 + cause * 2 ^ 36 + streamHandle j k.incarnation * 2 ^ 48 +
    (k.window + r * 2 ^ 16) * 2 ^ 64 + k.misses * 2 ^ 128 + (k.fallbacks % 2 ^ 32 + k.laps % 2 ^ 32 * 2 ^ 32) * 2 ^ 192 +
    (k.updates + 1) * 2 ^ 256
  let s1 := (s.setStream j { k with updates := k.updates + 1, changed := false, wroteAt := s.now + 1 }).put
    (F.CUL_STREAM_WINDOW_RESIDENT_AHEAD j) r
  s1.hubWrite (.op (2 ^ 25 + j) 0) (s1.region k.region).tenant (k.listAddr + 64) 64 v

/-- The items of a stream's list in the list store of its side's service region: 16 B each, EXTENT, entry number, handle, WRAP,
a valid mark and LIST_ADDR (log entry 26). -/
def State.writeList (j : Nat) (clear : Bool) (s : State) : State :=
  let k := s.stream j
  s.forEach (List.range k.entries.length) fun i a =>
    a.serviceWrite (j / 512) (0x80000000 + 16 * (k.items.getD i 0)) 16
      (if clear then 0 else k.entries.getD i 0 + i * 2 ^ 32 + streamHandle j k.incarnation * 2 ^ 64 +
        flag k.wrap * 2 ^ 80 + 2 ^ 81 + k.listAddr / 64 * 2 ^ 84)

/-- A stream freed (Table 7.8): its extents released, with a final status of `cause` unless it is 0. -/
def State.freeStream (j cause : Nat) (s : State) : State :=
  let k := s.stream j
  if k.st = 0 then s
  else
    let s1 := if cause = 0 then s else s.writeStreamStatus j 5 cause
    let s2 := s1.writeList j true
    s2.changeStream j { incarnation := k.incarnation } |>.setStream j { incarnation := k.incarnation }

/-- Every stream of a region freed. -/
def State.freeStreams (idx cause : Nat) (s : State) : State :=
  s.forEach ((s.cul.streams.filter fun e => decide (e.2.st ≠ 0) && decide (e.2.region = idx)).map (·.1)) fun j a =>
    a.freeStream j cause

end Sys2Proof.Machine
end

