-- ==== Sys2Proof/Machine/Regions.lean ====
section
/-! DEFINITION. Changes of the region table, the tenant table and the P_Key map: how they are encoded in RECORD frames, when
they take effect on both controllers (R85, R417), and what a region's attach, detach and release do (R73 to R79, R86). -/

namespace Sys2Proof.Machine

open Sys2Proof

/-! The region record (Tables 2.2 to 2.4). -/

/-- The four words of a region record. -/
def regionWords (idx : Nat) (r : Region) : List Nat :=
  [idx % 4096 + r.tenant * 2 ^ 12 + r.baseSlot * 2 ^ 24 + r.sizeM1 * 2 ^ 42 + r.policy * 2 ^ 58 +
     flag r.twinComplete * 2 ^ 60 + flag r.readOnly * 2 ^ 61 + r.state * 2 ^ 62,
   r.keyGen + r.prevGen * 2 ^ 32,
   r.stallCeil + idx / 4096 * 2 ^ 5 + flag r.rotating * 2 ^ 6 + flag r.guestGranted * 2 ^ 7 + r.nonce * 2 ^ 8,
   r.label]

/-- The region record four words spell. -/
def regionOfWords (ws : List Nat) : Region :=
  let w0 := ws.getD 0 0
  let w1 := ws.getD 1 0
  let w2 := ws.getD 2 0
  { state := bitsOf w0 62 2, readOnly := decide (bitsOf w0 61 1 = 1), twinComplete := decide (bitsOf w0 60 1 = 1),
    policy := bitsOf w0 58 2, sizeM1 := bitsOf w0 42 16, baseSlot := bitsOf w0 24 18, tenant := bitsOf w0 12 12,
    keyGen := bitsOf w1 0 32, prevGen := bitsOf w1 32 32, stallCeil := bitsOf w2 0 5, rotating := decide (bitsOf w2 6 1 = 1),
    guestGranted := decide (bitsOf w2 7 1 = 1), nonce := bitsOf w2 8 19, label := ws.getD 3 0 }

/-- A grant is VALID as the controller treats it: a tenant other than 0, and a window within the slots (Table 13.12). -/
def State.grantValid (g : Nat) (s : State) : Bool :=
  s.isSet (F.KG_GRANT_W0_VALID g) && decide (s.get (F.KG_GRANT_W0_TENANT g) ≠ 0) &&
    decide (s.get (F.KG_GRANT_W1_BASE_SLOT g) + s.get (F.KG_GRANT_W2_SPAN_M1 g) ≤ 262143)

/-- At least one VALID grant of a region's tenant and side overlaps it (R455). -/
def State.grantCovers (idx : Nat) (r : Region) (s : State) : Bool :=
  (List.range 256).any fun g =>
    s.grantValid g && decide (s.get (F.KG_GRANT_W0_SIDE g) = idx / 4096) &&
      decide (s.get (F.KG_GRANT_W0_TENANT g) = r.tenant) &&
      decide (s.get (F.KG_GRANT_W1_BASE_SLOT g) ≤ r.baseSlot + r.sizeM1) &&
      decide (r.baseSlot ≤ s.get (F.KG_GRANT_W1_BASE_SLOT g) + s.get (F.KG_GRANT_W2_SPAN_M1 g))

/-- GUEST_GRANTED of every region brought in line with the grants (R455). -/
def State.updateGranted (s : State) : State :=
  s.forEach (s.regions.map (·.1)) fun i a =>
    let r := a.region i
    if r.state = 0 then a else a.setRegion i { r with guestGranted := a.grantCovers i r }

/-- A grant revoked (R457 steps 1 and 5): VALID 0, and REVOKING until the guest has acknowledged; a guest held in reset or switched off
holds nothing of it, and the revocation ends at once. -/
def State.revokeGrant (g : Nat) (s : State) : State :=
  if s.isSet (F.KG_GRANT_W0_VALID g) then
    let s1 := s.put (F.KG_GRANT_W0_VALID g) 0
    if 3 ≤ s.get F.KG_GUEST_STATUS_STATE ∧ s.get F.KG_GUEST_STATUS_STATE ≤ 5 then s1.put (F.KG_GRANT_W3_REVOKING g) 1
    else s1.raise Ev.GRANT_REVOKED [g, s.get (F.KG_GRANT_W0_TENANT g), 1]
  else s

/-- The valid grants that satisfy `p`, given side, tenant, first and last slot. -/
def State.grantsWhere (p : Nat → Nat → Nat → Nat → Bool) (s : State) : List Nat :=
  (List.range 256).filter fun g => s.isSet (F.KG_GRANT_W0_VALID g) &&
    p (s.get (F.KG_GRANT_W0_SIDE g)) (s.get (F.KG_GRANT_W0_TENANT g)) (s.get (F.KG_GRANT_W1_BASE_SLOT g))
      (s.get (F.KG_GRANT_W1_BASE_SLOT g) + s.get (F.KG_GRANT_W2_SPAN_M1 g))

/-! Totals (R74, R75, R84). -/

/-- The SIZE_GIB of the records that are not FREE and satisfy `p`. -/
def gibWhere (p : Nat → Region → Bool) (rs : Sparse Region) : Nat :=
  rs.foldl (fun n e => if e.2.state ≠ 0 ∧ p e.1 e.2 then n + e.2.sizeM1 + 1 else n) 0

/-- The records that are not FREE and satisfy `p`. -/
def countWhere (p : Nat → Region → Bool) (rs : Sparse Region) : Nat :=
  (rs.filter fun e => decide (e.2.state ≠ 0) && p e.1 e.2).length

/-- The region table with every change that has been sent and not yet taken effect: what later checks count (R182). -/
def State.regionsNext (s : State) : Sparse Region :=
  s.cw.txStaged.foldl (fun t e => match e.2.1 with
    | .record 1 i ws => Sparse.set {} i (regionOfWords ws) t
    | _ => t) s.regions

/-- A tenant's regions of both sides that are not FREE (REGION_COUNT). -/
def State.regionCount (t : Nat) (s : State) : Nat := countWhere (fun _ r => decide (r.tenant = t)) s.regionsNext

/-! The effects of a region record's change. -/

/-- The region's front-cache lines encrypted into DRAM and invalidated (step 3 of Table 2.5), each by a request through port P7 (R207). -/
def State.flushRegion (idx : Nat) (r : Region) (s : State) : State :=
  let held := ((s.front.filter fun e => e.2.valid && inRegion idx r 256 e.1).map fun e => e.1) ++ s.victims.filter fun l => inRegion idx r 256 l
  let s1 := s.forEach held fun l a => a.grant l 7
  { s1 with front := s1.front.filter fun e => !inRegion idx r 256 e.1
            victims := s1.victims.filter fun l => !inRegion idx r 256 l }

/-- The generations a region names. -/
def Region.gens (r : Region) : List Nat := if r.rotating ∧ r.prevGen ≠ r.keyGen then [r.keyGen, r.prevGen] else [r.keyGen]

/-- Steps 2 to 4 of Table 2.5: the region's streams retired, its front-cache lines gone, its key slots destroyed, the grants
that overlap it revoked (R458). -/
def State.detachRegion (idx : Nat) (r : Region) (s : State) : State :=
  let s1 := (s.freeStreams idx 0).flushRegion idx r
  let s2 := s1.forEach r.gens fun g a => a.destroyGen (idx / 4096) g
  let gs := s2.grantsWhere fun sd _ lo hi => decide (sd = idx / 4096 ∧ lo ≤ r.baseSlot + r.sizeM1 ∧ r.baseSlot ≤ hi)
  (s2.forEach gs fun g a => a.revokeGrant g).put (F.ROT_CURSOR_ACTIVE idx) 0 |>.put (F.ROT_CURSOR_EXTENT idx) 0

/-- Step 7 of Table 2.5: the region's pages return to the free pool, its slots and capacity are released, and each MAPPED page
is journalled as UNMAP (R258). -/
def State.releasePages (idx : Nat) (r : Region) (s : State) : State :=
  let lo := regionBase idx r
  let hi := lo + r.bytes
  let mapped := (s.cul.trans.filter fun e => decide (e.2.st ≠ 0) && inRegion idx r 16384 e.1).map (·.1)
  let s1 := s.forEach mapped fun p a => a.setTrans p 2 0
  let held := (s1.cul.extents.filter fun e => inRegion idx r (2 ^ 21) e.1).map (·.1)
  let s2 := s1.forEach held fun x a => (a.dropExtent x).setExtent x {}
  { s2 with
    mem := Sparse.clear lo hi s2.mem
    lines := Sparse.clear (lo / 256) (hi / 256) s2.lines
    cul := { s2.cul with
      pages := Sparse.clear (lo / 16384) (hi / 16384) s2.cul.pages
      fills := s2.cul.fills.filter fun f => !inRegion idx r 16384 f.page
      captures := s2.cul.captures.filter fun c => !inRegion idx r 16384 c.page
      slots := Sparse.clear (idx / 4096 * 2 ^ 18 + r.baseSlot) (idx / 4096 * 2 ^ 18 + r.baseSlot + r.sizeM1 + 1)
        s2.cul.slots } }

/-- A tenant's bindings disabled and its record set to FREE once REMOVING and without regions (R86 step 4). -/
def State.checkTenantGone (t : Nat) (s : State) : State :=
  if t ≠ 0 ∧ s.tenantState t = 2 ∧ countWhere (fun _ r => decide (r.tenant = t)) s.regions = 0 then
    (s.put (F.TENANT_W0_STATE t) 0).raise Ev.TENANT_CHANGED []
  else s

/-- A change of POLICY (R248). -/
def State.policyChange (idx : Nat) (old new : Region) (s : State) : State :=
  if old.policy = new.policy then s
  else
    let s1 := if old.policy = 2 then s.freeStreams idx 3 else s
    let s2 := if old.policy = 0 then
        s1.forEach (regionExtents idx old) fun x a => a.setExtent x { a.extent x with pin := false, access := true }
      else s1
    if new.policy = 0 then (s2.pinRegion idx new).startPinFill idx else s2

/-- A region record takes its new value (R72, R73, R76, R78, R337, R339), with what follows from it on this controller. -/
def State.applyRegion (idx : Nat) (new0 : Region) (s : State) : State :=
  let old := s.region idx
  let new := { new0 with guestGranted := s.grantCovers idx new0 && decide (new0.state ≠ 0) }
  if new.state = 0 then
    if old.state = 0 then s
    else
      let s1 := (s.releasePages idx old).setRegion idx {}
      ((s1.raise Ev.REGION_DETACHED []).checkTenantGone old.tenant).recomputeTimeouts
  else if old.state = 0 then
    let s1 := (s.setRegion idx new).takeTableSlots idx new
    let s2 := (s1.when (decide (new.policy = 0)) (State.pinRegion idx new)).loadSlot (idx / 4096) new.keyGen new.tenant
    (s2.raise Ev.REGION_ATTACHED []).recomputeTimeouts
  else if new.state = 2 then
    if old.state = 2 then s.setRegion idx new else ((s.detachRegion idx old).setRegion idx new).updateGranted
  else
    let s1 := s.setRegion idx new
    if new.rotating ∧ !old.rotating then
      (s1.put (F.ROT_CURSOR_ACTIVE idx) 1 |>.put (F.ROT_CURSOR_EXTENT idx) 0 |>.loadSlot (idx / 4096) new.keyGen new.tenant).raise
        Ev.ROTATION_STARTED []
    else if !new.rotating ∧ old.rotating then
      (s1.put (F.ROT_CURSOR_ACTIVE idx) 0 |>.put (F.ROT_CURSOR_EXTENT idx) 0).destroyGen (idx / 4096) old.prevGen
    else ((s1.policyChange idx old new).when (decide (new ≠ old)) (State.raise Ev.REGION_ATTACHED [])).recomputeTimeouts

/-! Sequence points (R85, R417). -/

/-- A P_Key map entry is used: VALID, and of a tenant other than 0 (Table 2.7). -/
def State.pkeyUsed (i : Nat) (s : State) : Bool := s.isSet (F.PKEY_MAP_VALID i) && decide (s.get (F.PKEY_MAP_TENANT i) ≠ 0)

/-- Two valid P_Key map entries carry the same PKEY_PART (R88). -/
def State.pkeyDuplicate (i : Nat) (s : State) : Bool :=
  s.pkeyUsed i && (List.range 4096).any fun k =>
    decide (k ≠ i) && s.pkeyUsed k && decide (s.get (F.PKEY_MAP_PKEY_PART k) = s.get (F.PKEY_MAP_PKEY_PART i))

/-- A P_Key map entry as one word (Table 2.7). -/
def State.pkeyWord (i : Nat) (s : State) : Nat :=
  s.get (F.PKEY_MAP_ADMIN i) * 2 ^ 28 + s.get (F.PKEY_MAP_TENANT i) * 2 ^ 16 + s.get (F.PKEY_MAP_VALID i) * 2 ^ 15 +
    s.get (F.PKEY_MAP_PKEY_PART i)

/-- A P_Key map entry takes a value (Table 2.7). -/
def State.applyPkey (i v : Nat) (s : State) : State :=
  if s.pkeyWord i = v then s
  else
  let s1 := s.put (F.PKEY_MAP_ADMIN i) (bitsOf v 28 1) |>.put (F.PKEY_MAP_TENANT i) (bitsOf v 16 12)
    |>.put (F.PKEY_MAP_VALID i) (bitsOf v 15 1) |>.put (F.PKEY_MAP_PKEY_PART i) (bitsOf v 0 15)
  let s2 := s1.raise Ev.TENANT_CHANGED []
  if s2.pkeyDuplicate i then s2.raise Ev.PKEY_DUPLICATE [] else s2

/-- The records of a tenant's regions that this controller serves and that are ATTACHED. -/
def State.tenantRegions (t : Nat) (s : State) : List (Nat × Region) :=
  s.regions.filter fun e => decide (e.2.state = 1) && decide (e.2.tenant = t)

/-- Removal of a tenant (R86): its regions detached, its bindings disabled, its key set destroyed. `own`: the key changes are
this controller's to post. -/
def State.removeTenant (t : Nat) (own : Bool) (s : State) : State :=
  let s1 := (s.put (F.TENANT_W0_STATE t) 2).raise Ev.TENANT_CHANGED []
  let rs := s1.tenantRegions t
  let gs := s1.grantsWhere fun _ tn _ _ => decide (tn = t)
  let s2 := (s1.forEach gs fun g a => a.revokeGrant g).updateGranted.forEach rs fun e a => a.applyRegion e.1 { e.2 with state := 2 }
  let s3 := s2.forEach (List.range 64) fun n a =>
    if a.get (F.LD_MAP_TENANT n) = t then a.put (F.LD_MAP_ENABLE n) 0 else a
  let s4 := s3.forEach (List.range 4096) fun i a =>
    if a.get (F.PKEY_MAP_TENANT i) = t ∧ a.isSet (F.PKEY_MAP_VALID i) then a.put (F.PKEY_MAP_VALID i) 0 else a
  let drops := (rs.map fun e => e.2.gens.map fun g => KeyChange.dropGen (e.1 / 4096) g).flatten
  let s5 := if own then s4.postKey (drops ++ [.dropTenant t]) ((rs.map fun e => KeyWait.erased e.1) ++ [.tenantErased t]) else s4
  (s5.dropUnbound).checkTenantGone t

/-- A tenant record takes a value (Table 2.6): its limits and weight, a creation (R85) or a removal (R86). -/
def State.applyTenant (t : Nat) (ws : List Nat) (own : Bool) (s : State) : State :=
  if t = 0 then s
  else
    let w0 := ws.getD 0 0
    let s1 := s.put (F.TENANT_W0_SLUICE_WEIGHT t) (bitsOf w0 8 8) |>.put (F.TENANT_W1_MAX_REGIONS t) (ws.getD 1 0)
      |>.put (F.TENANT_W2_MAX_GIB t) (ws.getD 2 0)
    let cur := s1.tenantState t
    match bitsOf w0 0 2 with
    | 1 => if cur = 0 then (s1.put (F.TENANT_W0_STATE t) 1).raise Ev.TENANT_CHANGED [] else s1
    | 2 => if cur = 1 then s1.removeTenant t own else s1
    | _ => s1

/-- A tenant record adopted in full from the serving controller's table at RESYNC (R85). -/
def State.copiedTenant (t : Nat) (ws : List Nat) (s : State) : State :=
  let st := bitsOf (ws.getD 0 0) 0 2
  let cur := s.tenantState t
  let s1 := s.applyTenant t ws false
  if t = 0 ∨ s1.tenantState t = st then s1 else (s1.put (F.TENANT_W0_STATE t) st).when (decide (cur ≠ st)) (State.raise Ev.TENANT_CHANGED [])

/-- A RECORD frame's change applied (Table 12.3). -/
def State.applyRecord (kind idx : Nat) (ws : List Nat) (own : Bool) (s : State) : State :=
  match kind with
  | 1 => s.applyRegion idx (regionOfWords ws)
  | 2 => s.applyTenant idx ws own
  | 3 => s.applyPkey idx (ws.getD 0 0)
  | _ => s

/-- An operation's progress mark set: the change it waits for has taken effect. -/
def State.markOp (q seq n : Nat) (s : State) : State :=
  match s.op? q seq with
  | some o => s.setOp q { o with done := max o.done n }
  | none => s

/-- The change of a staged frame made on this controller, with the keys a detach gives up (R341). -/
def State.applyStaged (b : CwBody) (op : Option (Nat × Nat)) (s : State) : State :=
  match b with
  | .record 1 idx ws =>
    let old := s.region idx
    let s1 := s.applyRegion idx (regionOfWords ws)
    let new := s1.region idx
    let waits := match op with
      | some (q, seq) => [KeyWait.op q seq]
      | none => []
    if old.state = 1 ∧ new.state = 2 then
      s1.postKey (old.gens.map fun g => .dropGen (idx / 4096) g) ([.erased idx] ++ waits)
    else if old.rotating ∧ !new.rotating ∧ new.state = 1 then
      s1.postKey [.dropGen (idx / 4096) old.prevGen] [.rotated idx]
    else match op with
      | some (q, seq) => s1.markOp q seq 1
      | none => s1
  | .record kind idx ws => s.applyRecord kind idx ws true
  | _ => s

/-- A change made at a sequence point (R85, R417): sent and staged until the twin has acknowledged it, or made at once where no
twin shares the tables. -/
def State.sequencePoint (b : CwBody) (op : Option (Nat × Nat)) (s : State) : State :=
  if s.twinLink then
    let r := s.sendFrame b
    { r.2 with cw := { r.2.cw with txStaged := r.2.cw.txStaged ++ [(r.1, b, op)] } }
  else s.applyStaged b op

/-- A region record changed at a sequence point. A frame carries GUEST_GRANTED as 0 (R72). -/
def State.changeRegion (idx : Nat) (r : Region) (op : Option (Nat × Nat)) (s : State) : State :=
  s.sequencePoint (.record 1 idx (regionWords idx { r with guestGranted := false })) op

end Sys2Proof.Machine
end

