-- ==== Sys2Proof/Machine/Freeboard.lean ====
section
/-! DEFINITION. Freeboard (R261 to R264, R272) and the Sluice (R273 to R279). -/

namespace Sys2Proof.Machine

open Sys2Proof

/-! The bank (Table 8.2). -/

/-- `n` bytes of the bank identity record from byte `lo`. -/
def State.bankField (lo n : Nat) (s : State) : Nat :=
  (List.range n).foldl (fun v i => v + bitsOf (s.get (F.BANK_ID_RECORD ((lo + i) / 4))) (8 * ((lo + i) % 4)) 8 * 2 ^ (8 * i)) 0
/-- V_FULL in mV. -/
def State.vFull (s : State) : Nat := s.bankField 20 4
/-- V_CUT in mV. -/
def State.vCut (s : State) : Nat := s.bankField 24 4
/-- V_READY in mV. -/
def State.vReady (s : State) : Nat := s.bankField 28 4

/-- The lowest BANK_V of the last 1 ms in mV (Table 8.1). -/
def State.vLow (s : State) : Nat :=
  (s.ssb.volts.filter fun e => decide (s.now ≤ e.1 + msFc 1)).foldl (fun m e => min m e.2) s.ssb.vNow

/-! The terms of Table 8.1. -/

/-- A field of the group's class by its byte in the identity record (Table 11.2). -/
def State.classField (lo n : Nat) (s : State) : Nat := bitsOf s.fl.cls (8 * (lo - 64)) (8 * n)

/-- The save power of the powered modules, of the powered RDIMMs and of the controller (R261, R378). -/
def State.pSave (s : State) : Nat :=
  let slots := (List.range 20).filter fun i => s.isSet (F.SLOT_STATUS_POWER_ON i)
  160 + slots.foldl (fun n i => n + bitsOf (Sparse.get 0 i s.fl.records) (8 * 118) 16) 0 +
    s.dram.saveW.foldl (fun n e => n + e.2) 0

/-- m_eff: healthy members less 2, capped at the data width. -/
def State.mEff (s : State) : Nat := min (s.get F.FL_STATUS_WIDTH) (s.get F.FL_STATUS_HEALTHY - 2)

/-- R_save in MB/s. -/
def State.rSave (s : State) : Nat := 110000 * s.mEff / 16

/-- E_bank at V as a fraction in J: C × (V² V_CUT² − (V_CUT² + ESR P_save)²) over 2 × 10¹² × V_CUT², with voltages in mV, C in
µF and ESR in µΩ. -/
def State.eBank (v : Nat) (s : State) : Nat × Nat :=
  let c := s.get F.ASSAY_C_UF_UF
  let q := s.vCut
  (c * (v ^ 2 * q ^ 2 - (q ^ 2 + s.get F.ASSAY_ESR_UOHM_UOHM * s.pSave) ^ 2), 2 * 10 ^ 12 * q ^ 2)

/-- D in GiB at a bank voltage (R261): 0.8 E_bank ÷ P_save less 0.25 s, at R_save, in whole GiB and at most 192. -/
def State.freeboardAt (v : Nat) (s : State) : Nat :=
  let e := s.eBank v
  let den := 10 * e.2 * s.pSave
  if den = 0 then 0
  else min 192 ((4 * (8 * e.1) - den) * (110 * 10 ^ 9 * s.mEff) / (4 * den * 16) / 2 ^ 30)

/-- D in GiB now (R261, R262, R266): 0 while BANK_SENSE_FAULT is uncleared (Table 15.2). -/
def State.freeboardNow (s : State) : Nat :=
  if !s.isSet F.FB_STATUS_BANK_ID_VALID ∨ s.uncleared Ev.BANK_SENSE_FAULT then 0
  else if s.isSet F.FB_STATUS_ASSAYED then s.freeboardAt (min s.vLow s.vFull)
  else if s.vReady ≤ s.vLow then 32 else 0

/-- The D the Sluice works to: D_assay where an assay makes it lower (R268). -/
def State.sluiceD (s : State) : Nat :=
  match s.ssb.dAssay with
  | some d => min d (s.get F.FB_STATUS_FREEBOARD_GIB)
  | none => s.get F.FB_STATUS_FREEBOARD_GIB

/-- D_adm in bytes (R264). -/
def State.admitMark (s : State) : Nat := (s.sluiceD - 1) * 2 ^ 30

/-- The high mark, in tenths of a byte (R264, R278). -/
def State.highMark10 (s : State) : Nat :=
  if s.isSet F.SLU_STATUS_MARK_RAISED then 10 * s.admitMark else min (9 * s.sluiceD * 2 ^ 30) (10 * s.admitMark)

/-- The release mark, in twentieths of a byte (R264, R278). -/
def State.releaseMark20 (s : State) : Nat :=
  if s.isSet F.SLU_STATUS_MARK_RAISED then 20 * s.admitMark
  else min (17 * s.sluiceD * 2 ^ 30) (2 * s.highMark10 - 20 * 2 ^ 30)

/-! The Sluice. -/

/-- The tenants limited get SLUICE_END: the Sluice returned to OPEN, or their share meets their demand (R277). -/
def State.endLimits (ts : List Nat) (s : State) : State :=
  let s1 := { s with ssb := { s.ssb with limited := s.ssb.limited.filter fun t => !ts.contains t } }
  s1.forEach ts fun t a => a.notice (some t) 5 0 0

/-- The Sluice enters LIMITING or CLOSED (R277). -/
def State.sluiceEnter (st : Nat) (s : State) : State :=
  let m := s.get F.ID_OPERATING_S_SECONDS / 60 + 1
  let s1 := (s.put F.SLU_STATUS_STATE st).bump F.SLU_THROTTLE_COUNT_COUNT 1
  let s2 := if s1.ssb.throttleMinute = m then s1
    else ({ s1 with ssb := { s1.ssb with throttleMinute := m } }).raise Ev.SLUICE_THROTTLE []
  if st = 2 then s2.raiseLimited Ev.SLUICE_CLOSED 0 [] else s2

/-- One transition of Table 8.4. -/
def State.sluiceStep (s : State) : State :=
  let b := s.dirtyBytes
  match s.get F.SLU_STATUS_STATE with
  | 0 => if s.highMark10 ≤ 10 * b then s.sluiceEnter 1 else s
  | 1 => if s.admitMark ≤ b then s.sluiceEnter 2
    else if 20 * b < s.releaseMark20 then (s.put F.SLU_STATUS_STATE 0).endLimits s.ssb.limited else s
  | _ => if b < s.admitMark then (s.endCond Ev.SLUICE_CLOSED).sluiceEnter 1 else s

/-- The Sluice in the state its marks and the dirty bytes give (R273): it admits nothing outside the serving modes. -/
def State.sluice (s : State) : State :=
  if !s.mode.mainRails ∨ s.mode = .save then s
  else ((s.sluiceStep).sluiceStep).sluiceStep.noteLoad

/-- OVER as D and the dirty bytes have it (R272). -/
def State.checkOver (s : State) : State :=
  let past := decide (s.freeboard < s.dirtyBytes)
  if past ∧ !s.isSet F.FB_STATUS_OVER then (s.put F.FB_STATUS_OVER 1).raise Ev.FREEBOARD_OVER []
  else if !past ∧ s.isSet F.FB_STATUS_OVER then (s.put F.FB_STATUS_OVER 0).endCond Ev.FREEBOARD_OVER else s

/-- D, its terms and the marks recomputed (R262 to R264), and reported when it is the first since BRINGUP or moved by 1 GiB or
more (Table 8.15). -/
def State.recomputeFreeboard (s : State) : State :=
  if !s.mode.mainRails then s
  else
    let d := s.freeboardNow
    let e := s.eBank (min s.vLow s.vFull)
    let eus := if s.isSet F.FB_STATUS_ASSAYED ∧ e.2 ≠ 0 then 8 * e.1 / (10 * e.2) else 0
    let s1 := s.put F.FB_STATUS_FREEBOARD_GIB d |>.put F.FB_STATUS_M_EFF s.mEff |>.put F.FB_RSAVE_MBPS s.rSave
      |>.put F.FB_PSAVE_W s.pSave |>.put F.FB_EUSABLE_J eus |>.put F.FB_STATUS_BANK_READY (flag (decide (s.vReady ≤ s.ssb.vNow)))
    let s2 := s1.put F.FB_ADMIT_MIB_MIB (s1.admitMark / 2 ^ 20) |>.put F.FB_HIGH_MIB_MIB (s1.highMark10 / 10 / 2 ^ 20)
    let moved := !s.ssb.reported || decide (d ≠ s.ssb.lastD)
    let s3 := if moved then
        ({ s2 with ssb := { s2.ssb with reported := true, lastD := d } }).raise Ev.FREEBOARD_CHANGED [d, s2.pSave, s2.rSave]
      else s2
    let s4 := if s3.vReady ≤ s3.ssb.vNow then s3.endCond Ev.BANK_NOT_READY else s3
    (s4.checkOver).sluice

/-- A device that would raise P_save by `w` may be powered: the dirty bytes lie below the admission bound with it (R263). -/
def State.powerFits (w : Nat) (s : State) : Bool :=
  let c := { s with dram := { s.dram with saveW := s.dram.saveW ++ [(2 ^ 32, w)] } }
  decide (s.dirtyBytes < (c.freeboardNow - 1) * 2 ^ 30) || (decide (s.dirtyBytes = 0) && !s.mode.serving)

/-! Max-min shares (R274). -/

/-- One round of R274: accounts (number, weight, demand) whose share of what is left meets their demand are settled at it. -/
def shareRound (left : Nat) (accts : List (Nat × Nat × Nat)) : List (Nat × Nat) × List (Nat × Nat × Nat) × Nat :=
  let w := accts.foldl (fun n a => n + a.2.1) 0
  let met := accts.filter fun a => decide (a.2.2 * w < left * a.2.1)
  (met.map fun a => (a.1, a.2.2), accts.filter (fun a => !decide (a.2.2 * w < left * a.2.1)),
    left - met.foldl (fun n a => n + a.2.2) 0)

/-- The shares of the accounts (R274 steps 2 and 3), each in the unit of `left`. -/
def shares (fuel left : Nat) (accts : List (Nat × Nat × Nat)) : List (Nat × Nat) :=
  let w := accts.foldl (fun n a => n + a.2.1) 0
  let plain := accts.map fun a => (a.1, if w = 0 then 0 else left * a.2.1 / w)
  match fuel with
  | 0 => plain
  | f + 1 =>
    let r := shareRound left accts
    if r.1.isEmpty then plain else r.1 ++ shares f r.2.2 r.2.1

end Sys2Proof.Machine
end

