-- ==== Sys2Proof/Machine/Ledger.lean ====
section
/-! DEFINITION. The Berm's ledger (R562 to R568): draws, returns, forecasts, and what the ledger shows. -/

namespace Sys2Proof.Machine

open Sys2Proof

/-- The first record number of a pool (R562). -/
def poolBase (pool : Nat) : Nat :=
  match pool with
  | 1 => 0 | 2 => 16 | 3 => 32 | 4 => 48 | 5 => 116 | 6 => 129 | 7 => 149 | 8 => 150 | 9 => 151 | 10 => 152 | 11 => 153
  | 12 => 155 | _ => 175

/-- The pool and the instance of a record number. -/
def poolOf (n : Nat) : Nat × Nat :=
  let p := ((List.range 13).map (· + 1)).foldl (fun m p => if poolBase p ≤ n then p else m) 1
  (p, n - poolBase p)

/-- A record. -/
def State.bermRec (n : Nat) (s : State) : BermRec := Sparse.get {} n s.berm.recs
/-- A record, set. -/
def State.setBermRec (n : Nat) (r : BermRec) (s : State) : State :=
  { s with berm := { s.berm with recs := Sparse.set {} n r s.berm.recs } }

/-- FORECAST_DAYS (R566): the window is the complete buckets of 10 days kept. -/
def BermRec.forecastNow (r : BermRec) : Option Nat :=
  let d := r.past.foldl (fun n b => n + b.1) 0
  let u := r.past.foldl (fun n b => n + b.2) 0
  if decide (r.remaining = 0) && decide (0 < r.total) then some 0
  else if r.past.isEmpty ∨ d ≤ u then none
  else some (r.remaining * (10 * r.past.length) / (d - u))

/-- LOW (Table 17.2). -/
def BermRec.lowNow (r : BermRec) : Bool :=
  (match r.forecastNow with
   | some f => decide (f < 365)
   | none => false) || decide (10 * r.remaining ≤ r.total)

/-- A record recomputed, with BERM_LOW and BERM_EXHAUSTED where they become 1 (R568). -/
def State.recomputeBerm (n : Nat) (s : State) : State :=
  let r := s.bermRec n
  if !r.valid then s
  else
    let r1 := { r with forecast := r.forecastNow, low := r.lowNow,
                       exhausted := decide (r.remaining = 0) && decide (0 < r.total) }
    let p := poolOf n
    let s1 := s.setBermRec n r1
    let s2 := if r1.low ∧ !r.low then s1.raise Ev.BERM_LOW [p.1, p.2, r1.forecast.getD 0xFFFFFFFF] else s1
    if r1.exhausted ∧ !r.exhausted then s2.raise Ev.BERM_EXHAUSTED [p.1, p.2] else s2

/-- BERM_STATUS as the records have it: LOW, EXHAUSTED and Life Used (R566). -/
def State.bermStatus (s : State) : State :=
  let rs := s.berm.recs.filter fun e => e.2.valid
  let used := rs.foldl (fun m e => if e.2.total = 0 then m else max m (100 * (e.2.total - e.2.remaining) / e.2.total)) 0
  s.put F.BERM_STATUS_LOW (rs.filter fun e => e.2.low).length
    |>.put F.BERM_STATUS_EXHAUSTED (rs.filter fun e => e.2.exhausted).length |>.put F.BERM_STATUS_LIFE_USED_PCT used

/-- A draw of `k` units of an instance of a pool (R562, R568). -/
def State.bermDraw (pool inst k : Nat) (s : State) : State :=
  let n := poolBase pool + inst
  let r := s.bermRec n
  if !r.valid then s
  else
    let r1 := { r with remaining := r.remaining - k, drawn := satAdd 32 r.drawn k, now_ := (r.now_.1 + k, r.now_.2),
                       lastDraw := s.get F.ID_OPERATING_S_SECONDS }
    let s1 := ({ s.setBermRec n r1 with berm := { (s.setBermRec n r1).berm with dirty := true } }).raise Ev.BERM_DRAW
      [pool, inst, r1.remaining]
    (s1.recomputeBerm n).bermStatus

/-- A return of `k` units (R562). -/
def State.bermReturn (pool inst k : Nat) (s : State) : State :=
  let n := poolBase pool + inst
  let r := s.bermRec n
  if !r.valid then s
  else
    let r1 := { r with remaining := min r.total (r.remaining + k), returned := satAdd 32 r.returned k,
                       now_ := (r.now_.1, r.now_.2 + k) }
    let s1 := { s.setBermRec n r1 with berm := { (s.setBermRec n r1).berm with dirty := true } }
    (s1.recomputeBerm n).bermStatus

/-- A record started anew: the instance found with a TOTAL and what remains of it (R562, R566). -/
def State.bermFound (pool inst total remaining : Nat) (fresh : Bool) (s : State) : State :=
  let n := poolBase pool + inst
  let r := s.bermRec n
  let r1 : BermRec := if fresh ∨ !r.valid then
      { valid := true, total := total, remaining := min total remaining, drawn := total - remaining, forecast := none }
    else { r with total := total, remaining := min total remaining }
  let r2 := if fresh then { r1 with drawn := 0 } else r1
  ((s.setBermRec n r2).recomputeBerm n).bermStatus

/-- An instance that is no longer there (R562: a slot that holds no member). -/
def State.bermGone (pool inst : Nat) (s : State) : State :=
  let n := poolBase pool + inst
  (s.setBermRec n { s.bermRec n with valid := false }).bermStatus

/-- The eight words of a record (Table 17.2). -/
def bermWords (n : Nat) (r : BermRec) : List Nat :=
  let p := poolOf n
  [p.1 + p.2 * 2 ^ 8 + (flag r.valid + 2 * flag r.low + 4 * flag r.exhausted + 8 * flag r.historyLost) * 2 ^ 16,
   r.total, r.remaining, r.drawn, r.returned, r.forecast.getD 0xFFFFFFFF, r.lastDraw % 2 ^ 32, r.lastDraw / 2 ^ 32 % 2 ^ 8]

end Sys2Proof.Machine
end

