-- ==== Sys2Proof/Machine/Stripes.lean ====
section
/-! DEFINITION. The deep tier below the translation layer: the group's geometry (R388 to R392), stripe blocks and where pages
are programmed (R252, R255 to R257), erasures, and pages that are lost (R258, R401). -/

namespace Sys2Proof.Machine

open Sys2Proof

/-! Geometry (Table 11.2, R389 to R392). -/

/-- m, the group's data width. -/
def State.width (s : State) : Nat := s.get F.FL_STATUS_WIDTH
/-- Dies of a module. -/
def State.dies (s : State) : Nat := s.classField 73 1
/-- Native pages of a block. -/
def State.pagesPerBlock (s : State) : Nat := s.classField 78 2
/-- Spare blocks a die reserves (R389). -/
def State.dieSpares (s : State) : Nat := ceilDiv (2 * s.classField 76 2) 100
/-- Logical blocks of a die (R389). -/
def State.logicalBlocks (s : State) : Nat := s.classField 76 2 - s.dieSpares
/-- Stripe blocks of one image area (R392). -/
def State.imageBlocks (s : State) : Nat :=
  let slc := s.pagesPerBlock / max 1 (s.classField 72 1)
  let n := ceilDiv 58720256 (4 * slc * (s.width - 2))
  ceilDiv n s.dies * s.dies
/-- Logical blocks of a die that hold data. -/
def State.dataBlocks (s : State) : Nat := s.logicalBlocks - 2 * (s.imageBlocks / max 1 s.dies)
/-- Stripe blocks that hold data: all but (0, 0), the labels (R390). -/
def State.stripeBlocks (s : State) : Nat := s.dies * s.dataBlocks - 1
/-- The key of a stripe block. -/
def sbKey (die block : Nat) : Nat := die * 2 ^ 14 + block
/-- The `k`-th stripe block in the order in which unused ones are taken: block by block, across the dies. -/
def State.sbAt (k : Nat) (s : State) : Nat := let d := max 1 s.dies; sbKey (k % d) (k / d)
/-- The stripe block of a DEEP_PAGE (R391). -/
def sbOfDeep (deep : Nat) : Nat := deep / 2 ^ 11 % 2 ^ 19
/-- The position of a DEEP_PAGE. -/
def posOfDeep (deep : Nat) : Nat := deep / 2 ^ 30 % 32
/-- The stripe (native page) of a DEEP_PAGE. -/
def stripeOfDeep (deep : Nat) : Nat := deep % 2 ^ 11
/-- Data pages a stripe block holds. -/
def State.sbPages (s : State) : Nat := s.pagesPerBlock * s.width
/-- The DEEP_PAGE of data page `n` of a stripe block: stripe n ÷ m, data member n mod m (R390). -/
def State.deepOf (sb n : Nat) (s : State) : Nat :=
  let m := max 1 s.width
  (n / m + 2 + n % m) % (m + 2) * 2 ^ 30 + sb * 2 ^ 11 + n / m

/-! Stripe blocks. -/

/-- A stripe block. -/
def State.block (sb : Nat) (s : State) : Block := Sparse.get {} sb s.cul.blocks
/-- A stripe block, set. -/
def State.setBlock (sb : Nat) (b : Block) (s : State) : State :=
  { s with cul := { s.cul with blocks := Sparse.set {} sb b s.cul.blocks } }
/-- A block in use holds data. -/
def Block.inUse (b : Block) : Bool := decide (b.st ≠ 0) && decide (b.st ≠ 5)

/-- The pages the translation table and the table pages keep valid in a stripe block. -/
def State.validPages (sb : Nat) (s : State) : List Nat :=
  (s.cul.trans.filter fun e => decide (e.2.st = 1) && decide (sbOfDeep e.2.deep = sb)).map (·.1)
/-- The table pages valid in a stripe block. -/
def State.validTables (sb : Nat) (s : State) : List Nat :=
  (s.cul.tableAt.filter fun e => decide (sbOfDeep (e.2 - 1) = sb)).map (·.1)

/-- Free stripe blocks. -/
def State.freeBlocks (s : State) : Nat := s.stripeBlocks - (s.cul.blocks.filter fun e => decide (e.2.st ≠ 0)).length

/-- The lowest stripe block that nothing is recorded of, in the order of `sbAt`: free, with no erase counted. -/
def State.freshBlock (s : State) : Option Nat :=
  ((List.range (s.cul.blocks.length + 1)).map (· + 1)).findSome? fun k =>
    let sb := s.sbAt k
    if k ≤ s.stripeBlocks ∧ !(s.cul.blocks.any fun e => decide (e.1 = sb)) then some sb else none

/-- The free block to open (R256): for write-back the one with the lowest erase count, for collected data the highest; the lowest
number among equals (log entry 31). -/
def State.pickFree (gc : Bool) (s : State) : Option Nat :=
  let free := s.cul.blocks.filter fun e => decide (e.2.st = 0)
  let best := free.foldl (fun (m : Option (Nat × Nat)) e => match m with
    | none => some (e.2.erase, e.1)
    | some x => if (if gc then x.1 < e.2.erase else e.2.erase < x.1) then some (e.2.erase, e.1) else m) none
  match best, s.freshBlock with
  | some b, some f => if gc ∨ b.1 = 0 then some b.2 else some f
  | some b, none => some b.2
  | none, f => f

/-- The share of program bandwidth collection takes at a free level in ‰ (R255), at least 5 % while a block is queued (R257). -/
def State.gcShare (free : Nat) (s : State) : Nat :=
  let low := s.get F.CUL_GC_CFG_FREE_LOW_PERMIL
  let crit := s.get F.CUL_GC_CFG_FREE_CRIT_PERMIL
  let base := if low < free then 0 else if free ≤ crit then 50 else 50 * (low - free) / (low - crit)
  if s.cul.blocks.any fun e => decide (e.2.st = 4) then max 5 base else base

/-- FREE_PERMIL, the share, GC_ACTIVE, GC_CRITICAL and the erase-count spread as the blocks have them (R255, R256). -/
def State.blockStatus (s : State) : State :=
  let n := s.stripeBlocks
  let free := if n = 0 then 0 else s.freeBlocks * 1000 / n
  let crit := decide (n ≠ 0) && decide (free ≤ s.get F.CUL_GC_CFG_FREE_CRIT_PERMIL)
  let used := (s.cul.blocks.filter fun e => e.2.inUse).map fun e => e.2.erase
  let hi := used.foldl max 0
  let lo := used.foldl min hi
  let share := if n = 0 then 0 else s.gcShare free
  let s1 := s.put F.CUL_GC_STATUS_FREE_PERMIL (min 1023 free) |>.put F.CUL_GC_STATUS_GC_SHARE_PCT share
    |>.put F.CUL_STATUS_GC_ACTIVE (flag (decide (share ≠ 0))) |>.put F.CUL_ERASE_SPREAD_SPREAD (hi - lo)
  if crit ∧ !s1.isSet F.CUL_STATUS_GC_CRITICAL then (s1.put F.CUL_STATUS_GC_CRITICAL 1).raise Ev.GC_CRITICAL []
  else if !crit ∧ s1.isSet F.CUL_STATUS_GC_CRITICAL then (s1.put F.CUL_STATUS_GC_CRITICAL 0).endCond Ev.GC_CRITICAL else s1

/-- A block queued for relocation (R257, R399, R403). -/
def State.queueBlock (sb : Nat) (s : State) : State :=
  let b := s.block sb
  if b.st = 1 ∨ b.st = 2 ∨ b.st = 3 then (s.setBlock sb { b with st := 4 }).blockStatus else s

/-- A block queued by R257: counted and raised. -/
def State.disturbBlock (sb : Nat) (s : State) : State :=
  let b := s.block sb
  if b.st = 1 ∨ b.st = 2 ∨ b.st = 3 then
    ((s.bump F.CUL_RD_RELOCATIONS_COUNT 1).raise Ev.READ_DISTURB_RELOCATION []).queueBlock sb
  else s

/-- The ONFI channels that an operation on a stripe block uses: its die's module channel of every member's slot, with its clock started
(R382, R547). -/
def State.wakeChannels (sb : Nat) (s : State) : State :=
  { s with fl := { s.fl with clocksStopped := s.fl.clocksStopped.filter fun k => decide (k % 2 ≠ sb / 2 ^ 14 % 2) } }

/-- A page read from a block: its count, against RD_MARGIN_PCT of the members' limit (R257). -/
def State.countRead (sb : Nat) (s : State) : State :=
  let b := s.block sb
  let s1 := s.setBlock sb { b with reads := b.reads + 1 }
  let pct := let v := s.get F.CUL_RD_CFG_RD_MARGIN_PCT; if 50 ≤ v ∧ v ≤ 100 then v else 80
  if pct * s.classField 108 4 < 100 * (b.reads + 1) then s1.disturbBlock sb else s1

/-- The entries of a table moved from one base to another. -/
def moved {α : Type} (from_ to_ : Nat) (t : Sparse α) : Sparse α := t.map fun (e : Nat × α) => (e.1 - from_ + to_, e.2)

/-- Where the next page goes: the open block of its kind, opened anew when it is full (R252, R256): the DEEP_PAGE, and the state
with it taken; nothing when no block is free. -/
def State.takePage (gc : Bool) (s : State) : Option (Nat × State) :=
  let k := if gc then 2 else 1
  let openSb := (s.cul.blocks.find? fun e => decide (e.2.st = k) && decide (e.2.next < s.sbPages)).map (·.1)
  let sb := match openSb with
    | some b => some b
    | none => s.pickFree gc
  match sb with
  | none => none
  | some b =>
    let o := s.block b
    let n := o.next + 1
    let s1 := s.setBlock b { o with st := if s.sbPages ≤ n then 3 else k, next := n, lastProgram := s.now }
    some (s.deepOf b o.next, (s1.wakeChannels b).blockStatus)

/-! Erasures (R391). -/

/-- A position cannot be used for a stripe block: FAILED, or its rebuild has not passed the block. -/
def State.posErased (p sb : Nat) (s : State) : Bool :=
  decide (s.get (F.FL_POSITION_STATE p) = 2) ||
    (decide (s.get (F.FL_POSITION_STATE p) = 1) &&
      ((decide (s.get F.FL_REBUILD_STATUS_POSITION_A = p) && s.fl.rbLeft.contains sb) ||
       (decide (s.get F.FL_REBUILD_STATUS_POSITION_B = p) && (s.fl.rbLeft.contains sb || s.fl.rbLater.contains sb))))

/-- The positions whose page of a stripe cannot be used, with those whose codeword is uncorrectable now. -/
def State.erasures (sb stripe : Nat) (bad : List Nat) (s : State) : List Nat :=
  (List.range (s.width + 2)).filter fun p => s.posErased p sb || bad.contains p ||
    s.fl.badPages.contains (p * 2 ^ 30 + sb * 2 ^ 11 + stripe)

/-- `n` pages rebuilt from P and Q: counted, with the lines double parity repaired (R406, Table 3.9). -/
def State.reconstructed (n : Nat) (s : State) : State :=
  let s1 := s.bump F.FL_RECONSTRUCTS_COUNT n
  { s1 with fl := { s1.fl with repairedLines := satAdd 32 s1.fl.repairedLines (64 * n) } }

/-- The slot of a position's member. -/
def State.slotOfPos (p : Nat) (s : State) : Nat := s.get (F.FL_POSITION_SLOT p)

/-- What the LDPC decoding of pages of a stripe block reports: counted by slot, and a block that needed retries queued (R257, R386, R406). -/
def State.noteLdpc (sb : Nat) (e : DeepEcc) (s : State) : State :=
  let here (l : List Nat) : List Nat := l.filter fun p => decide (p < s.width + 2)
  let s1 := s.forEach (here e.corrected) fun p a => a.bump (F.SLOT_CE_COUNT_COUNT (a.slotOfPos p)) 1
  let s2 := s1.forEach (here e.retried) fun p a => a.bump (F.SLOT_RETRY_COUNT_COUNT (a.slotOfPos p)) 1
  s2.when (!e.retried.isEmpty) (State.disturbBlock sb)

/-- The state of the group by its erased positions (Table 11.8); programs are allowed while it has members and none of them stands outside
its window (R405). -/
def State.groupState (s : State) : State :=
  let n := ((List.range (s.width + 2)).filter fun p =>
    decide (s.get (F.FL_POSITION_STATE p) = 1) || decide (s.get (F.FL_POSITION_STATE p) = 2)).length
  let healthy := ((List.range 20).filter fun i =>
    decide (s.get (F.SLOT_STATUS_STATE i) = 6) || decide (s.get (F.SLOT_STATUS_STATE i) = 7)).length
  let spares := ((List.range 20).filter fun i => decide (s.get (F.SLOT_STATUS_STATE i) = 4)).length
  s.put F.FL_STATUS_GROUP_STATE (if !s.fl.formed then 0 else 1 + min n 3) |>.put F.FL_STATUS_HEALTHY healthy
    |>.put F.FL_STATUS_SPARES_READY spares |>.put F.FL_STATUS_PROG_ALLOWED (flag (decide (healthy ≠ 0) && !s.isSet F.CUL_STATUS_WB_PAUSED))

/-- A spare block of a die used by a member (R389): recorded in the Berm (pool 5), with DIE_SPARES_LOW at 10 % left; with none left
the stripe block is retired on every position. -/
def State.useSpareBlock (slot sb : Nat) (s : State) : State :=
  let die := sb / 2 ^ 14
  let key := slot * 32 + die
  let used := Sparse.get 0 key s.fl.sparesUsed
  let n := s.dieSpares
  if n ≤ used then
    (s.setBlock sb { s.block sb with st := 5 }).raise Ev.STRIPE_BLOCK_RETIRED [] |>.blockStatus
  else
    let s1 := { s with fl := { s.fl with sparesUsed := Sparse.set 0 key (used + 1) s.fl.sparesUsed } }
    let left := (List.range s.dies).foldl (fun m d => min m (n - Sparse.get 0 (slot * 32 + d) s1.fl.sparesUsed)) n
    let s2 := s1.put (F.SLOT_BLOCKS_SPARE_MIN slot) left |>.bump (F.SLOT_BLOCKS_BAD slot) 1
    let s3 := if (n - used - 1) * 10 ≤ n ∧ n < (n - used) * 10 then s2.raise Ev.DIE_SPARES_LOW [] else s2
    let before := (List.range s.dies).foldl (fun m d => min m (n - Sparse.get 0 (slot * 32 + d) s.fl.sparesUsed)) n
    s3.when (decide (left < before)) (State.bermDraw 6 slot 1)

/-! Lost pages (R258, R401). -/

/-- The runs of consecutive numbers in an ascending list, as (first, length). -/
def runsOf : List Nat → List (Nat × Nat)
  | [] => []
  | x :: t => match runsOf t with
    | (y, n) :: r => if x + 1 = y then (x, n + 1) :: r else (x, 1) :: (y, n) :: r
    | [] => [(x, 1)]

/-- RANGE_POISONED records, one for each run of consecutive lines (R401), to every bound logical device whose window contains the
run and whose tenant owns it. -/
def State.recordRuns (source : Nat) (lines : List Nat) (s : State) : State :=
  s.forEach (runsOf lines) fun r a => a.recordLine 7 source r.1 r.2 false

/-- A page journalled LOST: its lines read as poison (R258, R401). -/
def State.losePage (p : Nat) (s : State) : State :=
  let fresh := (pageLines p).filter fun l => !(s.lineMeta l).dirty
  let s1 := s.setTrans p 3 0
  let s2 := s1.forEach fresh fun l a =>
    a.setMeta l { gen := a.writeGen l, poison := true, psrc := 2 }
  (((s2.bump F.FL_PAGES_POISONED_COUNT 1).raise Ev.PAGES_POISONED [p * 16384, 64]).raise Ev.TRANSLATION_LOST [p * 16384, 1]).recordRuns
    Ev.PAGES_POISONED fresh

/-- A page whose deep-tier copy is lost (R401): PRESENT, it is marked DIRTY; in PAIRED or DRAIN, its lines are asked of the twin;
otherwise it is journalled LOST. -/
def State.lostPage (p : Nat) (s : State) : State :=
  let g := s.page p
  if 2 ≤ g.st then if g.st = 2 then s.setPage p { g with st := 3, oldest := s.now } else s
  else if s.fl.repairs.any fun r => decide (r.2.1 = p) then s
  else if s.mode.twin ∧ s.cw.linkKey then
    let id := s.fl.nextRepair
    let s1 := s.requestFill p 1
    let f := s1.sendFrame (.repairReq id (p * 16384))
    { f.2 with fl := { f.2.fl with repairs := f.2.fl.repairs ++ [(id, p, s.now)], nextRepair := id + 1 } }
  else s.losePage p

/-- A stripe with three or more erasures (R401): counted and raised, its erased data pages handled by `lostPage`. -/
def State.loseStripe (sb stripe : Nat) (erased : List Nat) (s : State) : State :=
  let s1 := (s.bump F.FL_LOST_STRIPES_COUNT 1).raise Ev.STRIPE_LOST [sb, stripe]
  let ps := (s1.cul.trans.filter fun e => decide (e.2.st = 1) && decide (sbOfDeep e.2.deep = sb) &&
    decide (stripeOfDeep e.2.deep = stripe) && erased.contains (posOfDeep e.2.deep)).map (·.1)
  s1.forEach ps fun p a => a.lostPage p

/-- Distinct blocks of a slot with uncorrectable codewords within the last hour of operating time (R396). -/
def State.noteUce (slot sb : Nat) (s : State) : State :=
  let t := s.get F.ID_OPERATING_S_SECONDS
  let keep := s.fl.uce.filter fun e => decide (t < e.2.2 + 3600) && !(decide (e.1 = slot) && decide (e.2.1 = sb))
  ({ s with fl := { s.fl with uce := keep ++ [(slot, sb, t)] } }).bump (F.SLOT_UCE_COUNT_COUNT slot) 1

/-- The member of a slot passed MEMBER_UCE_LIMIT (R396). -/
def State.uceOver (slot : Nat) (s : State) : Bool :=
  let lim := let v := s.get F.FL_MARGIN_CFG_MEMBER_UCE_LIMIT; if v = 0 then 16 else v
  decide (lim < (s.fl.uce.filter fun e => decide (e.1 = slot)).length)

end Sys2Proof.Machine
end

