-- ==== Sys2Proof/Machine/Members.lean ====
section
/-! DEFINITION. Slots, members and the group (R377 to R381, R388 to R398): what the slot commands, the patrol and the bring-up
share. -/

namespace Sys2Proof.Machine

open Sys2Proof

/-! Identity records (Table 11.2, R380, R381). -/

/-- `n` bytes of an identity record from byte `lo`. -/
def recField (r lo n : Nat) : Nat := bitsOf r (8 * lo) (8 * n)

/-- A byte as two's complement. -/
def signed8 (v : Nat) : Int := if v < 128 then (v : Int) else (v : Int) - 256

/-- Every field of a record lies within its range, with the capacity and temperature rules of R380. -/
def recordRanges (r : Nat) : Bool :=
  let f := recField r
  let oneOf (v : Nat) (l : List Nat) : Bool := l.contains v
  decide (f 0 2 = 1) && decide (f 2 2 = 4096) && decide (1 ≤ f 58 1 ∧ f 58 1 ≤ 53) && decide (f 60 4 = 0) && oneOf (f 72 1) [2, 3, 4] &&
    decide (2 ≤ f 73 1) && decide (f 73 1 ≤ 32) && decide (f 73 1 % 2 = 0) && decide (f 74 1 = 2) && oneOf (f 75 1) [1, 2, 4, 8] &&
    decide (1024 ≤ f 76 2) && decide (f 76 2 ≤ 16384) && decide (256 ≤ f 78 2) && decide (f 78 2 ≤ 2048) &&
    decide (f 78 2 % f 72 1 = 0) && decide (f 80 2 = 16384) && decide (2176 ≤ f 82 2) && oneOf (f 84 1) [1, 2] &&
    decide (f 86 2 ≤ 3600) && decide (f 98 2 ≤ 16000) && decide (f 116 1 ≤ 16) && decide (f 117 1 = 0) &&
    decide (f 120 2 ≤ 60) && decide (f 126 2 = 0) && decide (signed8 (f 112 1) < signed8 (f 113 1)) &&
    decide (f 448 1600 = 0) &&
    decide (f 98 2 * 10 ^ 9 ≤ f 73 1 * f 76 2 * f 78 2 * 16384)

/-- The class of a record: its bytes 64 to 127. -/
def recClass (r : Nat) : Nat := recField r 64 64

/-- The serial of a record with its vendor. -/
def recSerial (r : Nat) : Nat := recField r 40 16 * 2 ^ 128 + recField r 4 16

/-- A slot's record. -/
def State.record (slot : Nat) (s : State) : Nat := Sparse.get 0 slot s.fl.records

/-- SAVE_W of a slot's module. -/
def State.slotSaveW (slot : Nat) (s : State) : Nat := recField (s.record slot) 118 2

/-! Spares. -/

/-- SPARE_MAX as it is treated. -/
def State.spareMax (s : State) : Nat := min 4 (s.get F.FL_CTRL_SPARE_MAX)

/-- The slots in a state. -/
def State.slotsIn (st : Nat) (s : State) : List Nat := (List.range 20).filter fun i => decide (s.get (F.SLOT_STATUS_STATE i) = st)

/-- A slot enters SPARE (Berm pool 7). -/
def State.enterSpare (slot : Nat) (s : State) : State := (s.put (F.SLOT_STATUS_STATE slot) 4).bermReturn 7 0 1

/-- IDLE slots move up while fewer than SPARE_MAX are SPARE (Table 11.5). -/
def State.promoteIdle (s : State) : State :=
  match s.slotsIn 3 with
  | i :: _ => if (s.slotsIn 4).length < s.spareMax then s.enterSpare i else s
  | [] => s

/-- The FAILED positions that no slot stands in for. -/
def State.openPositions (s : State) : List Nat :=
  (List.range (s.width + 2)).filter fun p => decide (s.get (F.FL_POSITION_STATE p) = 2) &&
    !((List.range 20).any fun i => decide (s.get (F.SLOT_STATUS_POSITION i) = p))

/-- The lowest-numbered SPARE slot taken for each open position (R398); its power-up waits for R263. -/
def State.takeSpares (s : State) : State :=
  s.forEach s.openPositions fun p a =>
    match a.slotsIn 4 with
    | i :: _ =>
      let a1 := a.put (F.SLOT_STATUS_STATE i) 5 |>.put (F.SLOT_STATUS_POSITION i) p |>.put (F.SLOT_STATUS_ATTEMPTS i) 0
      (({ a1 with fl := { a1.fl with taken := a1.fl.taken ++ [i] } }).raise Ev.SPARE_TAKEN [i, p] |>.bermDraw 7 0 1).promoteIdle
    | [] => a.raise Ev.NO_SPARE []

/-! Rebuild (R400). -/

/-- The registers of the rebuild. -/
def State.rebuildStatus (s : State) : State :=
  let active := decide (s.get F.FL_REBUILD_STATUS_POSITION_A ≠ 31)
  let left := s.fl.rbLeft.length + s.fl.rbLater.length
  s.put F.FL_STATUS_REBUILD_ACTIVE (flag active) |>.put F.FL_REBUILD_LEFT_BLOCKS left
    |>.put F.FL_REBUILD_STATUS_PCT (if !active then 0 else if s.fl.rbTotal = 0 then 100 else (s.fl.rbTotal - min left s.fl.rbTotal) * 100 / s.fl.rbTotal)

/-- The rebuild cursor and the positions being rebuilt recorded in the embedded flash (R393, R400). -/
def State.noteRebuild (s : State) : State :=
  let ps := [s.get F.FL_REBUILD_STATUS_POSITION_A, s.get F.FL_REBUILD_STATUS_POSITION_B].filter fun p => decide (p ≠ 31)
  { s with fl := { s.fl with rbPos := ps, rbNoted := (s.fl.rbLeft, s.fl.rbLater), rbSince := 0 } }

/-- A rebuild begins for a position, or the position joins the one that runs (R400). -/
def State.startRebuild (p : Nat) (s : State) : State :=
  let used := (s.cul.blocks.filter fun e => e.2.inUse).map (·.1)
  let s1 := if s.get F.FL_REBUILD_STATUS_POSITION_A = 31 then
      ({ s with fl := { s.fl with rbLeft := used, rbLater := [], rbStripe := 0, rbTotal := used.length } }).put
        F.FL_REBUILD_STATUS_POSITION_A p
    else
      let passed := used.filter fun b => !s.fl.rbLeft.contains b || (decide (s.fl.rbLeft.head? = some b) && decide (0 < s.fl.rbStripe))
      ({ s with fl := { s.fl with rbLater := passed, rbTotal := s.fl.rbTotal + passed.length } }).put F.FL_REBUILD_STATUS_POSITION_B p
  (s1.raise Ev.REBUILD_STARTED []).rebuildStatus.noteRebuild

/-- The rebuild of the group record goes on from its recorded cursor at BRINGUP (R400): the stripe blocks still in use. -/
def State.resumeRebuild (s : State) : State :=
  let used (l : List Nat) : List Nat := l.filter fun b => (s.block b).inUse
  match s.fl.rbPos with
  | [] => s
  | a :: t =>
    let l := used s.fl.rbNoted.1
    let r := used s.fl.rbNoted.2
    (({ s with fl := { s.fl with rbLeft := l, rbLater := r, rbStripe := 0, rbTotal := l.length + r.length } }).put
      F.FL_REBUILD_STATUS_POSITION_A a |>.put F.FL_REBUILD_STATUS_POSITION_B (t.headD 31)).rebuildStatus

/-- Two ascending lists merged without repeats. -/
def mergeAsc (a b : List Nat) : List Nat := sortAsc (a ++ b.filter fun x => !a.contains x)

/-- A position leaves the rebuild because it failed (R400). -/
def State.dropRebuild (p : Nat) (s : State) : State :=
  let b := s.get F.FL_REBUILD_STATUS_POSITION_B
  if s.get F.FL_REBUILD_STATUS_POSITION_A = p then
    if b = 31 then
      (({ s with fl := { s.fl with rbLeft := [], rbLater := [], rbStripe := 0 } }).put F.FL_REBUILD_STATUS_POSITION_A 31).rebuildStatus.noteRebuild
    else
      (({ s with fl := { s.fl with rbLeft := mergeAsc s.fl.rbLater s.fl.rbLeft, rbLater := [], rbStripe := 0 } }).put
        F.FL_REBUILD_STATUS_POSITION_A b |>.put F.FL_REBUILD_STATUS_POSITION_B 31).rebuildStatus.noteRebuild
  else if b = p then
    (({ s with fl := { s.fl with rbLater := [] } }).put F.FL_REBUILD_STATUS_POSITION_B 31).rebuildStatus.noteRebuild
  else s

/-! Failure of a member (R395 to R398). -/

/-- A slot's power switched off. -/
def State.slotOff (slot : Nat) (s : State) : State := s.put (F.SLOT_STATUS_POWER_ON slot) 0 |>.put (F.SLOT_STATUS_PG slot) 0

/-- More than two positions FAILED: GROUP_LOST (R397). -/
def State.checkGroup (s : State) : State :=
  let n := ((List.range (s.width + 2)).filter fun p => decide (s.get (F.FL_POSITION_STATE p) = 2)).length
  let s1 := s.groupState
  if 2 < n then s1.raise Ev.GROUP_LOST [] else s1

/-- The slot holds a position: as a member, or while it powers up as one. -/
def State.holdsPosition (slot : Nat) (s : State) : Bool := decide (s.get (F.SLOT_STATUS_POSITION slot) ≠ 31)

/-- A slot with a position leaves it: to STATE `st` with CAUSE `cause`, switched off; the position FAILED in the group record, a
spare taken, freeboard recomputed (Table 11.5, R396 to R398). -/
def State.failSlot (slot st cause : Nat) (s : State) : State :=
  let p := s.get (F.SLOT_STATUS_POSITION slot)
  let s1 := (s.slotOff slot).put (F.SLOT_STATUS_STATE slot) st |>.put (F.SLOT_STATUS_CAUSE slot) cause
    |>.put (F.SLOT_STATUS_POSITION slot) 31
  let s2 := { s1 with fl := { s1.fl with
      taken := s1.fl.taken.filter fun x => decide (x ≠ slot)
      failedPos := if s1.fl.failedPos.contains p then s1.fl.failedPos else s1.fl.failedPos ++ [p] } }
  let s3 := ((s2.dropRebuild p).put (F.FL_POSITION_STATE p) 2).raise (Ev.MEMBER_FAILED slot) [p, cause]
    |>.bermGone 6 slot |>.bermGone 12 slot
  (s3.takeSpares).checkGroup.recomputeFreeboard

/-- A member past MEMBER_UCE_LIMIT fails (R396). -/
def State.checkUce (slot : Nat) (s : State) : State :=
  if s.uceOver slot ∧ (s.get (F.SLOT_STATUS_STATE slot) = 6 ∨ s.get (F.SLOT_STATUS_STATE slot) = 7) then
    s.failSlot slot 8 4
  else s

/-! Power-up (R377). -/

/-- A power-up attempt that failed (R377): SLOT_EN deasserted; after the fourth the slot is latched in FAILED_POWER. -/
def State.failAttempt (slot : Nat) (s : State) : State :=
  let s1 := s.slotOff slot
  if s1.get (F.SLOT_STATUS_ATTEMPTS slot) < 4 ∨ s1.mode = .save then s1.recomputeFreeboard
  else
    let s2 := s1.raise (Ev.SLOT_POWER_FAILED slot) []
    if s2.holdsPosition slot then s2.failSlot slot 9 3
    else (s2.put (F.SLOT_STATUS_STATE slot) 9 |>.put (F.SLOT_STATUS_CAUSE slot) 3).recomputeFreeboard

/-- SLOT_EN asserted for a new attempt, when P_save with the module fits (R263, R377, R378). -/
def State.tryPower (slot : Nat) (s : State) : State :=
  if s.isSet (F.SLOT_STATUS_POWER_ON slot) ∨ 4 ≤ s.get (F.SLOT_STATUS_ATTEMPTS slot) ∨ s.mode = .save ∨ !s.mode.mainRails then s
  else if s.powerFits (s.slotSaveW slot) then
    (s.put (F.SLOT_STATUS_POWER_ON slot) 1 |>.put (F.SLOT_STATUS_FLT slot) 0
      |>.put (F.SLOT_STATUS_ATTEMPTS slot) (s.get (F.SLOT_STATUS_ATTEMPTS slot) + 1)).recomputeFreeboard
  else s

/-! Insertion. -/

/-- A slot REFUSED with a cause. -/
def State.refuseSlot (slot cause : Nat) (s : State) : State :=
  (s.put (F.SLOT_STATUS_STATE slot) 2 |>.put (F.SLOT_STATUS_CAUSE slot) cause).raise (Ev.MODULE_REFUSED slot) [cause]

/-- A PRESENT slot with a valid record goes on under Table 11.5 with a group: REFUSED, SPARE or IDLE. -/
def State.placeModule (slot : Nat) (s : State) : State :=
  if !s.isSet (F.SLOT_STATUS_ID_VALID slot) then s.refuseSlot slot 7
  else if !s.fl.formed then s
  else if recClass (s.record slot) ≠ s.fl.cls then s.refuseSlot slot 8
  else if (s.slotsIn 4).length < s.spareMax then ((s.enterSpare slot).takeSpares).groupState
  else s.put (F.SLOT_STATUS_STATE slot) 3

/-- The member of a position starts anew in the Berm's block and wear pools (R566, pools 6 and 12). -/
def State.freshMember (slot : Nat) (s : State) : State :=
  let s1 := { s with fl := { s.fl with sparesUsed := s.fl.sparesUsed.filter fun e => decide (e.1 / 32 ≠ slot)
                                       erases := s.fl.erases.filter fun e => decide (e.1 / 2 ^ 19 ≠ slot)
                                       uce := s.fl.uce.filter fun e => decide (e.1 ≠ slot) } }
  (s1.put (F.SLOT_BLOCKS_BAD slot) 0 |>.put (F.SLOT_BLOCKS_SPARE_MIN slot) s1.dieSpares
    |>.bermFound 6 slot s1.dieSpares s1.dieSpares true).bermFound 12 slot (recField (s1.record slot) 100 4)
      (recField (s1.record slot) 100 4) true

/-- DEEP_USABLE_GIB of the group (R250). -/
def State.deepUsable (s : State) : Nat := min 204800 (s.width * s.classField 98 2 * 10 ^ 9 / 2 ^ 30 * 86 / 100)

/-- The group formed from the valid modules of one class (R394): nothing when too few are present but NO_GROUP. -/
def State.formGroup (s : State) : State :=
  if s.fl.formed ∨ s.mode ≠ .bringup then s
  else
    let valid := (s.slotsIn 1).filter fun i => s.isSet (F.SLOT_STATUS_ID_VALID i)
    let m := s.get F.FL_CTRL_GROUP_WIDTH
    match valid with
    | [] => s.raise Ev.NO_GROUP []
    | lead :: _ =>
      let cls := recClass (s.record lead)
      let mine := valid.filter fun i => decide (recClass (s.record i) = cls)
      if mine.length < m + 2 then s.raise Ev.NO_GROUP []
      else
        let members := mine.take (m + 2)
        let id := s.draw 64
        let s1 := { id.2 with
          fl := { id.2.fl with formed := true, cls := cls, failedPos := [], badPages := [], labels := [], rbPos := [], rbNoted := ([], []),
                               serials := ((List.range (m + 2)).zip members).map fun (e : Nat × Nat) => (e.1, recSerial (s.record e.2)) }
          cul := { id.2.cul with blocks := [], spareArea := [], trans := [], tableAt := [], tableDirty := [], jpend := [], jblocks := [], durTrans := [], durTables := [] }
          deep := [], deepLines := [] }
        let s2 := s1.put F.FL_STATUS_WIDTH m |>.put F.FL_GROUP_ID_ID id.1 |>.put F.FL_CLASS_ID_ID (cls % 2 ^ 64)
        let s3 := s2.forEach ((List.range (m + 2)).zip members) fun e a =>
          (a.put (F.SLOT_STATUS_STATE e.2) 5 |>.put (F.SLOT_STATUS_POSITION e.2) e.1
            |>.put (F.FL_POSITION_SLOT e.1) e.2).freshMember e.2
        let s4 := s3.forEach (valid.filter fun i => decide (recClass (s.record i) ≠ cls)) fun i a => a.refuseSlot i 8
        let s5 := s4.forEach (mine.drop (m + 2)) fun i a => a.placeModule i
        (((s5.put F.CUL_DEEP_USABLE_GIB_GIB s5.deepUsable).raise Ev.GROUP_FORMED []).groupState).blockStatus

/-! The Berm at BRINGUP (R562, R567). -/

/-- The ledger as the newer of its slots has it, while nothing has been read of it since VAUX rose; true where neither slot is valid. -/
def State.bermLoad (s : State) : Bool × State :=
  if !s.berm.recs.isEmpty then (false, s)
  else
    let a := s.berm.a
    let b := s.berm.b
    let newer := b.ok && (!a.ok || decide (a.sgen < b.sgen))
    if !a.ok ∧ !b.ok then (true, s)
    else
      let k := if newer then b else a
      (false, ({ s with berm := { s.berm with recs := k.recs, active := flag newer } }).put F.BERM_COMMIT_SGEN k.sgen)

/-- The records of pools whose instances are always there, recomputed from the units they count. -/
def State.bermFixed (s : State) : State :=
  let held (pool inst total : Nat) : Nat := let r := s.bermRec (poolBase pool + inst); if r.valid then r.remaining else total
  let s1 := s.forEach (List.range 68) fun i a =>
    let t := if i < 66 then 24 else if i = 66 then 8 else 32
    a.bermFound 4 i t (held 4 i t) false
  let s2 := s1.forEach (List.range 13) fun k a =>
    let t := if k = 12 then 0 else 4
    a.bermFound 5 k t (t - Sparse.get 0 k s.rv.units.lanes) false
  let cores := ([s.get F.RV_CORES_C0, s.get F.RV_CORES_C1, s.get F.RV_CORES_C2].filter fun c => decide (c = 3)).length
  (((((s2.bermFound 7 0 s.spareMax (s.slotsIn 4).length false).bermFound 8 0 1 (1 - cores) false).bermFound 9 0 4
    (s.get F.LC_STATUS_SPARES_LEFT) false).bermFound 10 0 2
      ((List.range 66).filter fun p => decide (s.get (F.HA_SLICE_STATE p) = 0)).length false).bermFound 11 0 2
        (s.get F.FL_LDPC_STATUS_ENGINES_T0 - 10) false).bermFound 11 1 2 (s.get F.FL_LDPC_STATUS_ENGINES_T1 - 10) false
    |>.bermFound 13 0 131400 (held 13 0 131400) false

/-- The history of every record lost (R567). -/
def State.bermRebuilt (s : State) : State :=
  ({ s with berm := { s.berm with recs := s.berm.recs.map fun (e : Nat × BermRec) => (e.1, { e.2 with historyLost := true }) } }).raise
    Ev.BERM_REBUILT []

end Sys2Proof.Machine
end

