-- ==== Sys2Proof/Machine/Words.lean ====
section
/-! DEFINITION. The 32-bit words of the register space (R9 to R11): which fields a word holds, which of its bits may be written, and the
fields that a written value gives. -/

namespace Sys2Proof.Machine

open Sys2Proof

/-- A part of a field in a 32-bit word: its row, the offset of its register, the first bit of the field in the word, the first bit of the
part in the field, and how many bits. -/
structure WordPart where
  row : RegRow
  off : Nat
  bit : Nat
  lo : Nat
  n : Nat
  deriving DecidableEq, Repr

/-- The part of the field of a row that the low half (or the high half) of its register at `off` holds. -/
def partOf (r : RegRow) (off : Nat) (high : Bool) : Option WordPart :=
  if high then
    if r.lo + r.w ≤ 32 then none
    else some { row := r, off := off, bit := r.lo - 32, lo := 32 - r.lo, n := r.lo + r.w - max r.lo 32 }
  else if 32 ≤ r.lo then none
  else some { row := r, off := off, bit := r.lo, lo := 0, n := min (r.lo + r.w) 32 - r.lo }

/-- The parts of the word at an offset: those of the register there, or those of the high half of a 64-bit register. -/
def wordParts (off : Nat) : List WordPart :=
  (regTable.filter fun r => r.at off).filterMap (fun r => partOf r off false) ++
    (if 4 ≤ off then (regTable.filter fun r => r.wide && r.at (off - 4)).filterMap (fun r => partOf r (off - 4) true) else [])

/-- The field of a part. -/
def WordPart.fld (p : WordPart) : Fld := ⟨p.off, p.row.lo, p.row.w⟩

/-- A field may be written (Table 0.8). -/
def Access.writable : Access → Bool
  | .rw | .rwl | .wo | .w1c => true
  | .ro | .rc => false

/-- The bits of a word that may be written. -/
def writableMask (off : Nat) : Nat :=
  (wordParts off).foldl (fun m p => if p.row.acc.writable then m ||| ((2 ^ p.n - 1) * 2 ^ p.bit) else m) 0

/-- A field's value with a part of it replaced. -/
def WordPart.merge (p : WordPart) (old v : Nat) : Nat :=
  old % 2 ^ p.lo + bitsOf v p.bit p.n * 2 ^ p.lo + old / 2 ^ (p.lo + p.n) * 2 ^ (p.lo + p.n)

end Sys2Proof.Machine
end

