-- ==== Sys2Proof/Machine/Embedded.lean ====
section
/-! DEFINITION. The embedded flash and what the Reeve reads from it (R482 to R494): words, image slots and their validity, and the
configuration image. -/

namespace Sys2Proof.Machine

open Sys2Proof

/-- Words of 16 B in the embedded flash. -/
def flashWords : Nat := 2 ^ 22

/-- The value of a word: all ones when erased (R484). -/
def State.flashWord (w : Nat) (s : State) : Nat := (Sparse.get none w s.rv.words).getD (2 ^ 128 - 1)

/-- Words erased from `lo` up to but not including `hi`. -/
def State.eraseWords (lo hi : Nat) (s : State) : State := { s with rv := { s.rv with words := Sparse.clear lo hi s.rv.words } }

/-- Words programmed from `lo` on. -/
def State.programWords (lo : Nat) (vs : List Nat) (s : State) : State :=
  let r := vs.foldl (fun (t : Nat × Sparse (Option Nat)) v => (t.1 + 1, Sparse.set none t.1 (some (v % 2 ^ 128)) t.2)) (lo, s.rv.words)
  { s with rv := { s.rv with words := r.2 } }

/-- The 32 B of a record (Table 15.7): bytes 0 to 14 of every record; then, of an event or LOSS record, its class byte, counts and
details; of a SNAPSHOT record, FIRST_CHANNEL and SNAP_LATE, five 24-bit values and their RANGED flags. -/
def recBytes (r : EvRec) : List Nat :=
  leBytes 4 r.seq ++ leBytes 5 r.seconds ++ leBytes 4 r.cycles ++
    leBytes 2 (r.source % 2 ^ 11 + r.severity % 8 * 2 ^ 11 + r.kind % 4 * 2 ^ 14) ++
    (if r.kind = 1 then
      leBytes 1 (r.detB % 2 ^ 6) ++ ((List.range 5).map fun i => leBytes 3 (r.values.getD i 0)).flatten ++
        [(List.range 5).foldl (fun m i => m + bitsOf (r.values.getD i 0) 24 1 * 2 ^ i) 0]
    else
      [r.cls % 8 + r.taken % 8 * 2 ^ 3 + flag r.escalated * 2 ^ 6 + flag r.est * 2 ^ 7] ++ leBytes 2 r.suppressed ++ leBytes 2 r.repeats ++
        leBytes 8 r.detA ++ leBytes 4 r.detB)

/-! Image slots (Tables 14.2 and 14.7). -/

/-- The first word of a slot: 0 firmware A, 1 firmware B, 2 configuration A, 3 configuration B. -/
def slotWord (k : Nat) : Nat :=
  match k with
  | 0 => 0 | 1 => 0x100000 | 2 => 0x60000 | _ => 0x160000

/-- The words of a slot: 6 MiB or 1 MiB. -/
def slotLen (k : Nat) : Nat := if k < 2 then 0x60000 else 0x10000

/-- The header of a slot, 512 B. -/
def State.slotHeader (k : Nat) (s : State) : Nat :=
  (List.range 32).foldl (fun v i => v + s.flashWord (slotWord k + i) * 2 ^ (128 * i)) 0

/-- `n` bytes of a header from byte `at_`. -/
def hdr (h at_ n : Nat) : Nat := h / 2 ^ (8 * at_) % 2 ^ (8 * n)

/-- VERSION. -/
def hdrVersion (h : Nat) : Nat := hdr h 12 4
/-- SECURITY_VERSION. -/
def hdrSecurity (h : Nat) : Nat := hdr h 16 1
/-- TEMPER_MAX. -/
def hdrTemper (h : Nat) : Nat := hdr h 20 2

/-- The slot is valid but for its security version (R491, R494). -/
def State.slotSound (k : Nat) (s : State) : Bool :=
  let h := s.slotHeader k
  let c := Sparse.get {} k s.rv.checks
  decide (hdr h 0 4 = (if k < 2 then 0x57465652 else 0x46435652)) && decide (hdr h 4 2 = 1) && decide (hdr h 6 2 = 512) &&
    (if k < 2 then decide (1 ≤ hdr h 8 4) && decide (hdr h 8 4 ≤ 6290944) else decide (8 ≤ hdr h 8 4) && decide (hdr h 8 4 ≤ 1048064)) &&
    decide (hdr h 17 1 < 4) && !s.rv.part.revoked.testBit (hdr h 17 1) && c.sig && c.digest &&
    (decide (s.rv.part.ownerHash = 0) || (decide (hdr h 18 1 % 2 = 1) && c.owner))

/-- A slot is valid (R491): a firmware slot's security version is at least the number of anti-rollback fuses blown. -/
def State.slotValid (k : Nat) (s : State) : Bool :=
  s.slotSound k && (decide (2 ≤ k) || decide (s.get F.ID_FW_STATUS_SECURITY_COUNT ≤ hdrSecurity (s.slotHeader k)))

/-! Configuration images (R494). -/

/-- The entries of a configuration slot: offset and value. -/
def State.configEntries (k : Nat) (s : State) : List (Nat × Nat) :=
  let n := hdr (s.slotHeader k) 8 4 / 8
  (List.range n).map fun i =>
    let e := s.flashWord (slotWord k + 32 + i / 2) / 2 ^ (64 * (i % 2)) % 2 ^ 64
    (e % 2 ^ 32, e / 2 ^ 32)

/-- An entry that leaves its image valid: a register with a writable field, and no 1 outside its writable bits. -/
def entryOk (e : Nat × Nat) : Bool :=
  let m := writableMask e.1
  decide (e.1 % 4 = 0) && decide (e.1 < 0x2000000) && decide (m ≠ 0) && decide (e.2 &&& m = e.2)

/-- The field values that entries give, in their order; a written 1 of a W1C field has nothing to clear. -/
def entryFields (es : List (Nat × Nat)) : Sparse Nat :=
  es.foldl (fun t e => (wordParts e.1).foldl (fun u p =>
    if p.row.acc.writable ∧ p.row.acc ≠ .w1c then Sparse.set (resetValue p.off p.row.lo) p.fld.key
      (p.merge (Sparse.get (resetValue p.off p.row.lo) p.fld.key u) e.2) u else u) t) []

/-- The configuration slot the Reeve applies: the first of the two that is valid with its entries; CONFIG_REJECTED for one whose entries
make it invalid. With none, every field marked config holds 0. -/
def State.selectConfig (s : State) : State :=
  let a := s.rv.cfgFirst
  let b := 5 - a
  let usable (k : Nat) (t : State) : Bool := t.slotValid k && (t.configEntries k).all entryOk
  let reject (k : Nat) (t : State) : State :=
    t.when (t.slotValid k && !(t.configEntries k).all entryOk) (State.raise Ev.CONFIG_REJECTED [])
  let take (k : Nat) (t : State) : State :=
    { t with pw := { t.pw with config := entryFields (t.configEntries k), configOk := true }, rv := { t.rv with config := k } }
  if usable a s then take a s
  else
    let s1 := reject a s
    if usable b s1 then take b s1
    else
      let s2 := reject b s1
      { s2 with pw := { s2.pw with config := [], configOk := false }, rv := { s2.rv with config := 0 } }

/-- A field value of the image that its register takes: tenant 0's record ignores writes (R84), and only STATE 1 makes a tenant (R85). -/
def configTakes (e : Nat × Nat) : Bool :=
  let off := e.1 / 64
  if 0x60000 ≤ off ∧ off < 0x70000 then decide (0x60010 ≤ off) && (decide (off % 16 ≠ 0) || decide (e.1 % 64 ≠ 0) || decide (e.2 = 1)) else true

/-- The configuration image's values written into the fields of the blocks that satisfy `p`. -/
def State.loadConfig (p : Nat → Bool) (s : State) : State :=
  let es := s.pw.config.filter fun (e : Nat × Nat) => p (e.1 / 64) && configTakes e
  { s with regs := es.foldl (fun t (e : Nat × Nat) => Sparse.set (resetValue (e.1 / 64) (e.1 % 64)) e.1 e.2 t) s.regs }

/-! Readout levels (R487). -/

/-- The level the fuses give. -/
def State.readoutLevel (s : State) : Nat :=
  if s.rv.part.final then 2 else if s.get F.RDL_STATUS_LOWERS < s.get F.RDL_STATUS_RAISES then 1 else 0

/-- LEVEL computed after a fuse write, with READOUT_CHANGED at each change. -/
def State.syncReadout (s : State) : State :=
  let old := s.get F.RDL_STATUS_LEVEL
  let new := s.readoutLevel
  let s1 := s.put F.RDL_STATUS_LEVEL new |>.put F.ID_READOUT_LEVEL new
  if old = new then s1 else s1.raise Ev.READOUT_CHANGED [old, new]

/-- ARMED as the arm stands (R488, R502). -/
def State.setArm (a : Option (Nat × Nat)) (s : State) : State :=
  ({ s with rv := { s.rv with arm := a } }).put F.RDL_STATUS_ARMED (flag a.isSome)

end Sys2Proof.Machine
end

