-- ==== Sys2Proof/Machine/EthLinks.lean ====
section
/-! DEFINITION. The Ethernet links and the host locator table (R135 to R137, R153, R154), and the paths of the Causeway (R409): the operations
their commands, the reactions of the fault collector and the loss of a rail share. -/

namespace Sys2Proof.Machine

open Sys2Proof

/-! The host locator table. -/

/-- The entry of a GID. -/
def State.host? (gid : Nat) (s : State) : Option Locator := (s.eth.hosts.find? fun e => decide (e.1 = gid)).map (·.2)

/-- The entry of a GID set, or freed, with RDMA_HLT_STATUS. -/
def State.setHost (gid : Nat) (h : Option Locator) (s : State) : State :=
  let t := match h with
    | some l => Sparse.insert gid l s.eth.hosts
    | none => Sparse.erase gid s.eth.hosts
  ({ s with eth := { s.eth with hosts := t } }).put F.RDMA_HLT_STATUS_ENTRIES t.length

/-- A link is up. -/
def State.ethUp (l : Nat) (s : State) : Bool := s.isSet (F.RDMA_LINK_STATUS_UP l)

/-- A MAC address from its two registers. -/
def macOf (lo hi : Nat) : Nat := lo + hi * 2 ^ 32

/-- A frame leaves on a link, with the link's MAC address as its source, the gateway's as its destination and ECT(0) on every packet, counted
by its kind; on a link that is down it is discarded (R137, R141, R154, Table 4.8). -/
def State.frameOut (l : Nat) (f : EthOut) (s : State) : State :=
  if s.ethUp l then
    let s1 := match f.msg with
      | .nak _ _ _ => s.bump (F.RDMA_LINK_NAK_TX_COUNT l) 1
      | .cnp _ => s.bump (F.RDMA_LINK_CNP_TX_COUNT l) 1
      | _ => s
    (s1.bump (F.RDMA_LINK_TX_FRAMES_COUNT l) 1).emit
      (.ethFrame l (macOf (s.get (F.RDMA_LINK_MAC_LO_MAC l)) (s.get (F.RDMA_LINK_MAC_HI_MAC l)))
        (macOf (s.get (F.RDMA_LINK_GW_LO_GW_MAC l)) (s.get (F.RDMA_LINK_GW_HI_GW_MAC l)))
        (match f.msg with
          | .addressReply _ => 0
          | _ => 2) f)
  else s

/-- A frame to a host: on its entry's primary link, held while a move drains the old one, or on the link that carried the request
(R153, R154). -/
def State.sendHost (f : EthOut) (s : State) : State :=
  match s.host? f.gid with
  | none => s.frameOut f.via f
  | some h =>
    if h.old.isSome then s.setHost f.gid (some { h with held := h.held ++ [f] }) else s.frameOut h.primary f

/-- The frames a move held leave on the primary once nothing queued on the old one is left (R154). -/
def State.releaseHeld (gid : Nat) (s : State) : State :=
  match s.host? gid with
  | none => s
  | some h => (s.setHost gid (some { h with old := none, held := [] })).forEach h.held fun f a => a.frameOut h.primary f

/-- An entry moves to its alternate (R153 rules 3 and 4): new frames wait for those queued on the old primary, unless that is down; frames that
an earlier move still holds go on waiting for the link it named. -/
def State.moveHost (gid : Nat) (h : Locator) (s : State) : State :=
  match h.alternate with
  | none => s
  | some a =>
    let moves := (h.moves.filter fun t => decide (s.now < t + secFc 1)) ++ [s.now]
    let flaps := decide (8 < moves.length) && !h.flapping
    let h1 := { h with primary := a, alternate := none, heard := s.now, moves := moves, flapping := h.flapping || flaps,
                       old := match h.old with
                         | some o => if s.ethUp o then some o else none
                         | none => if s.ethUp h.primary then some h.primary else none }
    let s0 := s.setHost gid (some h1)
    let s1 := (if h1.old.isNone then s0.releaseHeld gid else s0).bump F.RDMA_HLT_MOVES_COUNT 1
    if flaps then (s1.bump F.RDMA_HLT_FLAP_COUNT_COUNT 1).raise Ev.HOST_FLAPPING [gid % 2 ^ 64] else s1

/-- A RoCE v2 packet or connection-manager MAD that passes its ICRC teaches or refreshes its source's entry (R153 rules 1 and 2). -/
def State.learnHost (gid l : Nat) (s : State) : State :=
  match s.host? gid with
  | none =>
    if s.eth.hosts.length < 65536 then
      s.setHost gid (some ⟨l, none, s.now, s.now, s.now, [], false, none, []⟩)
    else
      if s.eth.fullAt ≠ 0 ∧ s.now < s.eth.fullAt - 1 + secFc 60 then s
      else ({ s with eth := { s.eth with fullAt := s.now + 1 } }).raise Ev.LOCATOR_FULL []
  | some h =>
    if h.primary = l then s.setHost gid (some { h with heard := s.now, refreshed := s.now })
    else if h.created = s.now ∧ l < h.primary then
      s.setHost gid (some { h with primary := l, alternate := some h.primary, heard := s.now, refreshed := s.now })
    else s.setHost gid (some { h with alternate := some l, refreshed := s.now })

/-! Links. -/

/-- The lanes of each link of a split (Table 4.1); 0 for an index the split does not use. -/
def splitLanes (split k : Nat) : Nat :=
  match split with
  | 0 => if k = 0 then 8 else 0
  | 1 => if k % 4 = 0 then 4 else 0
  | 2 => if k % 2 = 0 then 2 else 0
  | _ => 1

/-- The lanes of a link under the split in effect. -/
def State.ethLanes (l : Nat) (s : State) : Nat := splitLanes (s.eth.splits.getD (l / 8) 0) (l % 8)

/-- A link's rate in Mb/s. -/
def State.ethRate (l : Nat) (s : State) : Nat := 100000 * s.ethLanes l

/-- RDMA_GLOBAL_STATUS LINK_UP as the links stand. -/
def State.syncEth (s : State) : State :=
  s.put F.RDMA_GLOBAL_STATUS_LINK_UP ((List.range 16).foldl (fun n l => if s.ethUp l then n + 2 ^ l else n) 0)

/-- A link is down: its frames are gone, and the entries whose primary it is move (R153). -/
def State.ethDrop (l : Nat) (s : State) : State :=
  let s1 := (s.put (F.RDMA_LINK_STATUS_UP l) 0 |>.put (F.RDMA_LINK_STATUS_FEC_LOCK l) 0).syncEth
  let s2 := s1.forEach (s1.eth.hosts.filter fun e => decide (e.2.primary = l)) fun e a => a.moveHost e.1 e.2
  s2.forEach (s2.eth.hosts.filter fun e => decide (e.2.old = some l)) fun e a => a.releaseHeld e.1

/-- A link leaves service (R136), with its cause. -/
def State.ethLeaves (l cause : Nat) (s : State) : State :=
  if s.get (F.RDMA_LINK_STATUS_SVC_STATE l) = 0 then s
  else ((s.ethDrop l).put (F.RDMA_LINK_STATUS_SVC_STATE l) 0 |>.put (F.RDMA_LINK_STATUS_OOS_CAUSE l) cause).raise
    (Ev.ETH_LINK_OUT_OF_SERVICE l) [cause]

/-- A link returns (R136): it trains after its self-test; its link-down history starts anew (log entry 137). -/
def State.ethReturns (l : Nat) (s : State) : State :=
  let s1 := { s with eth := { s.eth with downs := Sparse.set [] l [] s.eth.downs } }
  (s1.put (F.RDMA_LINK_STATUS_SVC_STATE l) 1 |>.put (F.RDMA_LINK_STATUS_OOS_CAUSE l) 0
    |>.put (F.RDMA_LINK_STATUS_LINK_DOWNS_60S l) 0).endCond (Ev.ETH_LINK_OUT_OF_SERVICE l)

/-! Causeway paths (Table 12.1). -/

/-- STATE of a path: 0 DOWN, 1 TRAINING, 2 UP, 3 OUT_OF_SERVICE. -/
def State.pathState (p : Nat) (s : State) : Nat := s.get (F.CW_PATH_STATUS_STATE p)

/-- A path's STATE set, with PATHS_UP. -/
def State.setPath (p st : Nat) (s : State) : State :=
  let s1 := s.put (F.CW_PATH_STATUS_STATE p) st
  s1.put F.CW_STATUS_PATHS_UP ((List.range 2).foldl (fun n k => if s1.pathState k = 2 then n + 2 ^ k else n) 0)

/-- What the model keeps of a path. -/
def State.cwPath (p : Nat) (s : State) : CwPath := Sparse.get {} p s.cw.paths
/-- What the model keeps of a path, set. -/
def State.setCwPath (p : Nat) (k : CwPath) (s : State) : State :=
  { s with cw := { s.cw with paths := Sparse.set {} p k s.cw.paths } }

/-- A path leaves service with its cause (R409). -/
def State.pathLeaves (p cause : Nat) (s : State) : State :=
  if s.pathState p = 3 then s
  else
    let s1 := if s.pathState p = 2 then s.raise (Ev.PATH_DOWN p) [] else s
    ((s1.setPath p 3).put (F.CW_PATH_STATUS_OOS_CAUSE p) cause).raise (Ev.PATH_OUT_OF_SERVICE p) [cause]

/-- A path enters DOWN: counted, and out of service past 16 entries in 60 s. `wait`: it waits 1 s before it trains again. -/
def State.pathDown (p : Nat) (wait : Bool) (s : State) : State :=
  let k := s.cwPath p
  let downs := (k.downs.filter fun t => decide (s.now < t + secFc 60)) ++ [s.now]
  let s1 := (s.setPath p 0).setCwPath p { k with downs := downs, retry := wait }
  if 16 < downs.length then s1.pathLeaves p 3 else s1

/-- A path returns to DOWN after its self-test. -/
def State.pathReturns (p : Nat) (s : State) : State :=
  (((s.setPath p 0).setCwPath p {}).put (F.CW_PATH_STATUS_OOS_CAUSE p) 0).endCond (Ev.PATH_OUT_OF_SERVICE p)

/-- A path that is DOWN trains as soon as the main rails are up and SERVICE is 1. -/
def State.trainPaths (s : State) : State :=
  if !s.mode.mainRails ∨ s.mode = .save then s
  else s.forEach (List.range 2) fun p a =>
    if a.pathState p = 0 ∧ a.isSet (F.CW_PATH_CTRL_SERVICE p) ∧ !(a.cwPath p).retry then a.setPath p 1 else a

/-! Every unit on the SerDes rails. -/

/-- A SerDes rail (4, 8), or PLL `p` of SerDes lanes as 16 + p, is lost: the lanes that PLL clocks do not run (Tables 16.1 to 16.3). -/
def State.serdesDown (p : Nat) (s : State) : Bool := s.pw.lost.any fun u => [4, 8, 16 + p].contains u

/-- The units that a lost rail 4 or 8 (`u`) supplies, every CXL port, Ethernet link and Causeway path, leave service with cause 1; those that
PLL 8, 9 or 10 clocks, for that PLL as 16 + p (Tables 16.2 and 16.3, R546). -/
def State.serdesLost (u : Nat) (s : State) : State :=
  let s1 := (s.forEach (List.range 4) fun p a => if u < 16 ∨ u = 24 then a.portLeaves p 1 else a)
  let s2 := s1.forEach (List.range 16) fun l a => if u < 16 ∨ u = 25 then a.ethLeaves l 1 else a
  s2.forEach (List.range 2) fun p a => if u < 16 ∨ u = 26 then a.pathLeaves p 1 else a

/-- The split of each port in effect, latched at a BRINGUP (R135). -/
def State.latchSplits (s : State) : State :=
  { s with eth := { s.eth with splits := [s.get F.RDMA_GLOBAL_CFG_SPLIT_P0, s.get F.RDMA_GLOBAL_CFG_SPLIT_P1] } }

/-- At a BRINGUP without a reset, the links whose lanes the split changes begin anew: those it no longer uses leave, the others train (R135). -/
def State.changeSplits (s : State) : State :=
  let s1 := s.latchSplits
  s1.forEach (List.range 16) fun l a =>
    if s.ethLanes l = a.ethLanes l then a
    else
      let b := a.ethDrop l
      if b.ethLanes l = 0 then b.put (F.RDMA_LINK_STATUS_SVC_STATE l) 0
      else if b.isSet (F.RDMA_LINK_CTRL_SERVICE l) ∧ b.get (F.RDMA_LINK_STATUS_OOS_CAUSE l) = 0 then b.put (F.RDMA_LINK_STATUS_SVC_STATE l) 1
      else b

/-- At BRINGUP the ranges of all links are checked (R105), and every CXL port and Ethernet link whose SERVICE is 1 begins to return to
service, under its configuration (R103, R135). -/
def State.startServices (s : State) : State :=
  let begins (p : Nat) : Bool := decide (s.get (F.CXL_PORT_STATUS_SVC_STATE p) = 0) && s.isSet (F.CXL_PORT_CTRL_SERVICE p) &&
    decide (s.get (F.CXL_PORT_STATUS_OOS_CAUSE p) = 0)
  let s0 := s.latchSplits.loadLinks ((List.range 16).filter fun l => decide (s.get (F.CXL_PORT_STATUS_SVC_STATE (l / 4)) = 0))
  let s1 := s0.forEach ((List.range 4).filter begins) fun p a =>
    (a.setPort p { a.port p with cfgLoaded := true, downs := [] }).put (F.CXL_PORT_STATUS_SVC_STATE p) 1
  s1.forEach (List.range 16) fun l a =>
    if a.get (F.RDMA_LINK_STATUS_SVC_STATE l) = 0 ∧ a.isSet (F.RDMA_LINK_CTRL_SERVICE l) ∧ a.get (F.RDMA_LINK_STATUS_OOS_CAUSE l) = 0 ∧
        a.ethLanes l ≠ 0 then a.put (F.RDMA_LINK_STATUS_SVC_STATE l) 1
    else a

end Sys2Proof.Machine
end

