-- ==== Sys2Proof/Machine/Guest.lean ====
section
/-! DEFINITION. The guest site (R445 to R477): grants and their revocation, GUEST operations, the guest's bring-up, its check and its
removal. -/

namespace Sys2Proof.Machine

open Sys2Proof

/-- STATE of KG_GUEST_STATUS: 0 ABSENT, 1 OFF, 2 RESET, 3 INIT, 4 CHECK, 5 IN_SERVICE, 6 OUT_OF_SERVICE. -/
def State.guestState (s : State) : Nat := s.get F.KG_GUEST_STATUS_STATE

/-- G_RST_N is deasserted. -/
def State.guestRuns (s : State) : Bool := decide (3 ≤ s.guestState) && decide (s.guestState ≤ 5)

/-- GUEST_PROTOCOL raised, at most once per 10 s. -/
def State.guestProtocol (s : State) : State := s.raiseLimited Ev.GUEST_PROTOCOL 0 []

/-! Grants (R455 to R458, R460). -/

/-- A revocation ended: by GRANT_ACK (0) or by the guest's reset (1). -/
def State.endRevocation (g how : Nat) (s : State) : State :=
  if s.isSet (F.KG_GRANT_W3_REVOKING g) then
    ({ s with kg := { s.kg with revokeSent := s.kg.revokeSent.filter fun x => decide (x ≠ g) } }).put (F.KG_GRANT_W3_REVOKING g) 0
      |>.raise Ev.GRANT_REVOKED [g, s.get (F.KG_GRANT_W0_TENANT g), how]
  else s

/-- Every revocation in progress ends with the guest's reset. -/
def State.endRevocations (s : State) : State := s.forEach (List.range 256) fun g a => a.endRevocation g 1

/-- A write of a word of a grant takes effect (R455, R475): words 0 to 2 of a VALID grant take only VALID 0, which revokes it, and a grant
whose revocation is in progress takes nothing. -/
def State.grantWrite (g word v : Nat) (s : State) : State :=
  if s.isSet (F.KG_GRANT_W3_REVOKING g) then s
  else if s.isSet (F.KG_GRANT_W0_VALID g) then
    if word = 0 ∧ bitsOf v 31 1 = 0 then ((s.revokeGrant g).updateGranted).guestTimeout else s
  else
    let s1 := match word with
      | 0 => s.put (F.KG_GRANT_W0_VALID g) (bitsOf v 31 1) |>.put (F.KG_GRANT_W0_READ g) (bitsOf v 30 1)
          |>.put (F.KG_GRANT_W0_WRITE g) (bitsOf v 29 1) |>.put (F.KG_GRANT_W0_AUTONOMOUS g) (bitsOf v 28 1)
          |>.put (F.KG_GRANT_W0_SIDE g) (bitsOf v 24 1) |>.put (F.KG_GRANT_W0_TENANT g) (bitsOf v 0 12)
      | 1 => s.put (F.KG_GRANT_W1_BASE_SLOT g) (bitsOf v 0 18)
      | 2 => s.put (F.KG_GRANT_W2_SPAN_M1 g) (bitsOf v 0 18)
      | _ => s
    s1.updateGranted.guestTimeout

/-! GUEST operations (R462 to R464). -/

/-- OPS_OUTSTANDING: the operations sent and not complete. -/
def State.countOps (s : State) : State := s.put F.KG_GUEST_STATUS_OPS_OUTSTANDING (s.kg.ops.filter fun o => o.sent).length

/-- An operation of a queue has completed: the ABORTs in QUEUE mode that wait for it count it when it completed ABORTED (R187). -/
def State.tellAborts (t seq : Nat) (aborted : Bool) (s : State) : State :=
  s.forEach (s.queues.map (·.1)) fun q a =>
    let k := a.queue q
    let note (o : OpRec) : OpRec :=
      if dOpcode o.desc = 9 ∧ targetKey o.desc = t ∧ o.awaits.contains seq then
        { o with awaits := o.awaits.filter fun x => decide (x ≠ seq), done := o.done + flag aborted }
      else o
    if k.ops.any fun o => o.awaits.contains seq then a.setQueue q { k with ops := k.ops.map note } else a

/-- A GUEST operation ended with a status and a DETAIL: its handle is live no longer. -/
def State.endGuestOp (o : GuestOp) (status detail ra rb : Nat) (s : State) : State :=
  let s1 := ({ s with kg := { s.kg with ops := s.kg.ops.filter fun (x : GuestOp) => decide ((x.q, x.seq) ≠ (o.q, o.seq)) } }).countOps
  match s1.op? o.q o.seq with
  | some p => (s1.completeOp o.q { p with mseq := max p.mseq o.mseq } status detail ra rb []).tellAborts o.q o.seq (decide (status = St.ABORTED))
  | none => s1

/-- The operations sent that satisfy `p` ended with GUEST_ERROR and a DETAIL of the hub's own (R464). -/
def State.endGuestOps (p : GuestOp → Bool) (detail : Nat) (s : State) : State :=
  s.forEach (s.kg.ops.filter fun o => o.sent && p o) fun o a => a.endGuestOp o St.GUEST_ERROR detail 0 0

/-- The operation a live handle names: sent, not aborted and not complete. -/
def State.liveHandle (h : Nat) (s : State) : Option GuestOp := s.kg.ops.find? fun o => o.sent && !o.aborted && decide (o.handle = h)

/-- The handle of the next GQ_SUBMIT: the lowest above the last one assigned that no operation holds, 0 excepted. -/
def State.nextHandle (s : State) : Nat :=
  ((List.range 2048).findSome? fun i =>
    let h := (s.kg.lastHandle + i) % 65535 + 1
    if s.kg.ops.any fun o => o.sent && decide (o.handle = h) then none else some h).getD 1

/-- The guest record as it is read (Table 13.14). -/
def State.guestRecord (s : State) : Nat :=
  (List.range 64).foldl (fun v j => v + s.get (F.KG_GUEST_ID_RECORD j) * 2 ^ (32 * j)) 0

/-- A waiting operation with its GUEST operation that has been dropped since is forgotten; one whose queue is gone ends. -/
def State.sweepGuestOps (s : State) : State :=
  let keep := s.kg.ops.filter fun o => o.sent || ((s.op? o.q o.seq).isSome && (s.queue o.q).live)
  let dead := s.kg.ops.filter fun o => !(o.sent || (s.queue o.q).live)
  ({ s with kg := { s.kg with ops := keep } }).forEach dead fun o a => a.endGuestOp o St.ABORTED 0 0 0

/-! What the hub still holds of the guest's requests. -/

/-- The requests of the modules that satisfy `p` discarded: those not accepted without an answer; accepted writes complete, and their
answers are dropped (R454, R470). -/
def State.dropGuestRequests (p : Nat → Bool) (s : State) : State :=
  let mine (x : Src) : Bool := match x with
    | .guest k _ => p k
    | _ => false
  let hub (x : Src) : Src := if mine x then .hub else x
  ({ s with
    reads := s.reads.filter fun r => !mine r.src
    ingress := s.ingress.filter fun w => !mine w.src
    writes := s.writes.map fun (w : WriteRec) => { w with src := hub w.src }
    merges := s.merges.map fun (m : MergeRec) => { m with src := hub m.src }
    failed := s.failed.filter fun (e : Src × Nat) => !mine e.1
    kg := { s.kg with held := s.kg.held.filter fun (h : Nat × KMsg) => !p h.1
                      credits := s.kg.credits.filter fun (e : Nat × Nat) => !p (e.1 / 4)
                      taken := s.kg.taken.filter fun (e : Nat × Nat) => !p (e.1 / 4) } }).dropReqs fun r => p r.port

/-- The links of the guest modules down with the guest's reset. -/
def State.guestLinksDown (s : State) : State :=
  s.forEach [10, 11] fun k a => a.put (F.KG_MOD_STATUS_STATE k) 0 |>.put (F.KG_MOD_STATUS_WIDTH k) 0

/-! Removal and return (R466, R467, R470). -/

/-- The guest leaves service: its operations end, what is not accepted is discarded, G_RST_N is asserted, and revocations end (R457,
R464, R470). -/
def State.guestLeave (cause : Nat) (s : State) : State :=
  let was := s.guestState
  let s1 := (s.endGuestOps (fun _ => true) 0xFC).dropGuestRequests fun _ => true
  let s2 := (s1.when s.guestRuns (State.emit (.guestReset true))).guestLinksDown.endRevocations
  let s3 := { s2 with kg := { s2.kg with step := 0, second := false, words := [], echoes := [], pattern := [], scratchWr := false,
                                         scratchRd := false } }
  let s4 := s3.put F.KG_GUEST_STATUS_CAUSE cause |>.put F.KG_GUEST_STATUS_STATE 2
  s4.when (decide (was = 5)) (State.raise Ev.GUEST_OUT_OF_SERVICE [cause])

/-- The guest's supplies switched off. -/
def State.guestOff (st : Nat) (s : State) : State :=
  (s.when (decide (s.guestState ≠ 1 ∧ s.guestState ≠ 6)) (State.emit (.guestSupplies false))).put F.KG_GUEST_STATUS_STATE st

/-- The first row of Table 13.11: the supplies switched on, G_RST_N asserted. -/
def State.guestPowerOn (second : Bool) (s : State) : State :=
  let off := decide (s.guestState = 1 ∨ s.guestState = 6)
  let s1 := { s with kg := { s.kg with step := 1, second := second, words := [], echoes := [], pattern := [], scratchWr := false, scratchRd := false } }
  (s1.when off (State.emit (.guestSupplies true))).put F.KG_GUEST_STATUS_STATE 2

/-- The guest is brought up where it is fitted and its rails are on; with SERVICE 0 it stays off (R467, R470). -/
def State.guestStart (s : State) : State :=
  if !s.guestFitted ∨ !s.mode.mainRails ∨ s.mode = .save then s
  else if s.isSet F.KG_GUEST_CTRL_SERVICE then s.guestPowerOn false
  else (s.guestOff 6).put F.KG_GUEST_STATUS_CAUSE 2

/-- The guest site as BRINGUP finds it: the grants of the configuration image count, and a guest that is not in service is started. -/
def State.guestBringup (s : State) : State :=
  let s1 := s.updateGranted.guestTimeout
  if s1.guestState = 1 ∨ s1.guestState = 6 then s1.guestStart else s1

/-- The guest restarted after a BLOCK reaction (1), a late revocation (7) or a write of RESET (8) (R470). -/
def State.guestRestart (cause : Nat) (s : State) : State :=
  if s.guestState = 0 then s
  else if s.guestState = 1 ∨ s.guestState = 6 then (if cause = 8 then s.guestStart else s)
  else (s.guestLeave cause).guestStart

/-- A write of SERVICE (R470). -/
def State.guestService (on : Bool) (s : State) : State :=
  let s1 := s.put F.KG_GUEST_CTRL_SERVICE (flag on)
  if s1.guestState = 0 then s1
  else if on then (if s1.guestState = 1 ∨ s1.guestState = 6 then s1.guestStart else s1)
  else if s1.guestState = 1 ∨ s1.guestState = 6 then s1
  else (s1.guestLeave 2).guestOff 6

/-- VG_CORE or G_REFCLK is lost: the guest leaves service, with no cause of Table 13.12 (Table 16.2). -/
def State.guestLost (s : State) : State :=
  if s.guestState = 0 ∨ s.guestState = 1 ∨ s.guestState = 6 then s else (s.guestLeave 0).guestOff 6

/-- The guest switched off at the entry to SAVE: its operations count as not started (R464, R466). -/
def State.guestSave (s : State) : State :=
  if s.guestState = 0 ∨ s.guestState = 1 ∨ s.guestState = 6 then s
  else (({ s with kg := { s.kg with ops := [] } }).countOps.guestLeave 0).guestOff 1

/-- A step of Table 13.11 fails: the sequence runs once more, or the guest is out of service with the step as CAUSE. -/
def State.guestStepFailed (cause : Nat) (s : State) : State :=
  let second := s.kg.second
  let s1 := (s.guestLeave cause).guestOff 1
  if second then (s1.put F.KG_GUEST_STATUS_STATE 6).raise Ev.GUEST_WAKE_FAILED [cause] else s1.guestPowerOn true

/-! The guest check (R467, R469, R472). -/

/-- The offsets the check reads: the record, then the serial. -/
def checkOffset (tag : Nat) : Nat := 4 * tag

/-- The CHECK step begins: record and serial are read on guest module 0. -/
def State.guestCheck (s : State) : State :=
  ({ s with kg := { s.kg with step := 4 } }).put F.KG_GUEST_STATUS_STATE 4
    |>.forEach (List.range 68) fun t a => a.kerupSend 0 (.regRd t (checkOffset t))

/-- A byte of the record that has been read. -/
def recByte (r i : Nat) : Nat := r / 2 ^ (8 * i) % 256
/-- Two bytes of it. -/
def recHalf (r i : Nat) : Nat := r / 2 ^ (8 * i) % 2 ^ 16

/-- Characters of the VENDOR and PART fields: ASCII. -/
def asciiBytes (r from_ n : Nat) : Bool := (List.range n).all fun i => decide (recByte r (from_ + i) < 128)

/-- A record is valid (R469, Table 13.14). -/
def recordValid (r : Nat) : Bool :=
  let within (v lo hi : Nat) : Bool := decide (lo ≤ v) && decide (v ≤ hi)
  decide (crc32c 252 r = r / 2 ^ 2016) && decide (recHalf r 0 = 1) && decide (recHalf r 2 = 256) && decide (recHalf r 52 = 1) &&
    asciiBytes r 4 16 && asciiBytes r 20 20 && decide (recByte r 55 < 2) && within (recHalf r 56) 1 1024 && within (recHalf r 58) 16 1024 &&
    within (recHalf r 60) 64 4096 && within (recHalf r 62) 64 1024 && within (recHalf r 64) 256 4096 && within (recByte r 66) 1 20 &&
    within (recByte r 67) 1 50 && within (recHalf r 68) 100 2000 && decide (r / 2 ^ 560 % 2 ^ 1456 = 0)

/-- The next ECHO of a module: a free pattern, one at a time. -/
def State.sendEcho (p : Nat) (s : State) : State :=
  let d := s.draw 64
  ({ d.2 with kg := { d.2.kg with pattern := Sparse.set none p (some d.1) d.2.kg.pattern } }).kerupSend p (.echo d.1)

/-- The record and the serial are read: the copies kept when the record is valid, and the ECHO step begun; otherwise the guest is out of
service with CAUSE identity (R469). -/
def State.guestIdentity (s : State) : State :=
  let word (t : Nat) : Nat := (Sparse.get none t s.kg.words).getD 0
  let r := (List.range 64).foldl (fun v t => v + word t * 2 ^ (32 * t)) 0
  if recordValid r then
    let s1 := s.forEach (List.range 64) fun t a => a.put (F.KG_GUEST_ID_RECORD t) (word t)
    let s2 := s1.forEach (List.range 4) fun t a => a.put (F.KG_GUEST_SERIAL_SERIAL t) (word (64 + t))
    ({ s2 with kg := { s2.kg with step := 5 } }.put F.KG_GUEST_STATUS_ID_VALID 1).sendEcho 0 |>.sendEcho 1
  else
    let s1 := (s.guestLeave 5).guestOff 6
    let s2 := s1.forEach (List.range 64) fun t a => a.put (F.KG_GUEST_ID_RECORD t) 0
    (s2.put F.KG_GUEST_STATUS_ID_VALID 0).raise Ev.GUEST_ID_INVALID []

/-- Every step passed: the guest is IN_SERVICE. -/
def State.guestPassed (s : State) : State :=
  if s.kg.step = 5 ∧ s.kg.scratchWr ∧ s.kg.scratchRd ∧ Sparse.get 0 0 s.kg.echoes = 4096 ∧ Sparse.get 0 1 s.kg.echoes = 4096 then
    ({ s with kg := { s.kg with step := 0, second := false } }).put F.KG_GUEST_STATUS_STATE 5 |>.put F.KG_GUEST_STATUS_CAUSE 0
  else s

/-- The own record, as R4 and R469 use it: 256 zero bytes when none is valid. -/
def State.ownGuestRecord (s : State) : Nat := if s.isSet F.KG_GUEST_STATUS_ID_VALID then s.guestRecord else 0

/-- The copy of the record written into this side's service region, with a mirror of it (R469). -/
def State.copyGuestRecord (s : State) : State :=
  if (s.region (recIdx s.side 0)).state ≠ 1 then s
  else if s.serviceRead s.side 0x8A000000 256 = s.ownGuestRecord then s
  else s.serviceWrite s.side 0x8A000000 256 s.ownGuestRecord

/-- The copy in a side's service region, at offset 0x8A00_0000 (R469). -/
def State.copiedGuestRecord (sd : Nat) (s : State) : Nat := s.serviceRead sd 0x8A000000 256

end Sys2Proof.Machine
end

