-- ==== Sys2Proof/Machine/KeyWaits.lean ====
section
/-! DEFINITION. What a key-store update in force ends (R333, R335 to R341), and the end of the operations that wait for it. -/

namespace Sys2Proof.Machine

open Sys2Proof

/-- A KEY_ROTATE whose regions have all started, or are gone, completes (R337): its payload lists the region indices and
generations. -/
def State.checkRotateOp (q : Nat) (o : OpRec) (s : State) : State :=
  let left := o.payload.filter fun x =>
    let r := s.region (x / 2 ^ 32)
    decide (r.state = 1) && decide (r.keyGen ≠ x % 2 ^ 32)
  if !left.isEmpty then s
  else match o.payload with
    | [x] =>
      let r := s.region (x / 2 ^ 32)
      if r.state = 1 then s.completeOp q o St.SUCCESS 0 0 (x % 2 ^ 32) []
      else s.completeOp q o St.OBJECT_GONE 5 0 0 []
    | _ => s.completeOp q o St.SUCCESS 0 0 0 []

/-- What waited for a key-store update goes on. -/
def State.resolveKey (w : KeyWait) (s : State) : State :=
  match w with
  | .op q seq => s.markOp q seq 2
  | .rotate q seq idx gen =>
    let r := s.region idx
    if r.state = 1 ∧ !r.rotating then
      (s.loadSlot (idx / 4096) gen r.tenant).changeRegion idx
        { r with prevGen := r.keyGen, keyGen := gen, rotating := true } (some (q, seq))
    else s
  | .provision q seq t =>
    let s1 := s.raise Ev.KEY_PROVISIONED [t, (s.keyBody.tenant t).floor]
    match s1.op? q seq with
    | some o => s1.completeOp q o St.SUCCESS 0 1 0 []
    | none => s1
  | .erased _ => s.raise Ev.CRYPTO_ERASED []
  | .rotated _ => (s.raise Ev.ROTATION_DONE []).dropStaleMasters
  | .tenantErased _ => s.raise Ev.CRYPTO_ERASED []
  | .twin seq => if s.cw.linkKey then (s.sendFrame (.keyCommitted seq)).2 else s

/-- An update in force ends its waits: those whose KEY frame the twin has still to report go on waiting in PAIRED and DRAIN. -/
def State.keyInForce (ws : List (Nat × KeyWait)) (s : State) : State :=
  let later := ws.filter fun w => decide (w.1 ≠ 0) && s.mode.twin && decide (s.ks.committed < w.1)
  let now_ := ws.filter fun w => !(decide (w.1 ≠ 0) && s.mode.twin && decide (s.ks.committed < w.1))
  ({ s with ks := { s.ks with twinWaits := s.ks.twinWaits ++ later } }).forEach now_ fun w a => a.resolveKey w.2

/-- The waits the twin's KEY_COMMITTED, or the end of PAIRED and DRAIN, releases. -/
def State.releaseKeyWaits (s : State) : State :=
  let go := s.ks.twinWaits.filter fun w => !s.mode.twin || decide (w.1 ≤ s.ks.committed)
  if go.isEmpty then s
  else ({ s with ks := { s.ks with twinWaits := s.ks.twinWaits.filter fun w => !(!s.mode.twin || decide (w.1 ≤ s.ks.committed)) } }).forEach
    go fun w a => a.resolveKey w.2

/-- KEY_ROTATE operations whose regions have started completed. -/
def State.checkRotateOps (s : State) : State :=
  s.forEach s.queues fun e a =>
    a.forEach (e.2.ops.filter fun o => decide (dOpcode o.desc = 0x19) && decide (o.phase = .running)) fun o b =>
      b.checkRotateOp e.1 o

end Sys2Proof.Machine
end

