-- ==== Sys2Proof/Machine/Pipes.lean ====
section
/-! DEFINITION. Home slices (Table 6.8) and crypto pipelines (Table 9.6): their states, remaps and switches (R214 to R217,
R324). -/

namespace Sys2Proof.Machine

open Sys2Proof

/-! The units of the persistent state (R216, R324, R387). -/

/-- The maps and the retired units recorded. -/
def State.noteUnits (s : State) : State :=
  { s with rv := { s.rv with units := { s.rv.units with
      haMap := (List.range 64).map fun l => s.get (F.HA_MAP_PHYS l)
      haRetired := (List.range 66).filter fun p => decide (s.get (F.HA_SLICE_STATE p) = 5)
      cpMap := (List.range 64).map fun l => s.get (F.CP_MAP_PHYS l)
      cpRetired := (List.range 68).filter fun p => decide (4 ≤ s.get (F.CP_PIPE_STATE p))
      ldpcRetired := (12 - s.get F.FL_LDPC_STATUS_ENGINES_T0, 12 - s.get F.FL_LDPC_STATUS_ENGINES_T1) } } }

/-- The units as the persistent state has them, when the blocks leave reset: serving, retired or spare. -/
def State.startUnits (s : State) : State :=
  let u := s.rv.units
  let s1 := s.forEach ((List.range 64).zip u.haMap) fun e a =>
    a.put (F.HA_MAP_PHYS e.1) e.2 |>.put (F.HA_SLICE_STATE e.2) 2 |>.put (F.HA_SLICE_LOGICAL e.2) e.1
  let s2 := (s1.forEach u.haRetired fun p a => a.put (F.HA_SLICE_STATE p) 5).forEach u.cpRetired fun p a => a.put (F.CP_PIPE_STATE p) 5
  let s3 := s2.forEach ((List.range 64).zip u.cpMap) fun e a =>
    a.put (F.CP_MAP_PHYS e.1) e.2 |>.put (F.CP_PIPE_STATE e.2) 2 |>.put (F.CP_PIPE_LOGICAL e.2) e.1
  s3.put F.FL_LDPC_STATUS_ENGINES_T0 (12 - u.ldpcRetired.1) |>.put F.FL_LDPC_STATUS_ENGINES_T1 (12 - u.ldpcRetired.2)
    |>.put F.LC_STATUS_SPARES_LEFT ((List.range 68).filter fun p => decide (s3.get (F.CP_PIPE_STATE p) = 0)).length

/-! Home slices. -/

/-- The FRONT_DIRTY lines of a logical home agent. -/
def State.frontDirtyOf (home : Nat) (s : State) : List Nat :=
  (s.front.filter fun e => e.2.valid && e.2.frontDirty && decide (homeOf e.1 = home)).map (·.1)

/-- A slice retired: recorded in the Berm when it was a spare (R215, pool 10). -/
def State.retireSlice (p : Nat) (s : State) : State :=
  let spare := decide (s.get (F.HA_SLICE_STATE p) ≤ 1)
  let s1 := (s.put (F.HA_SLICE_STATE p) 5).raise Ev.HA_SLICE_RETIRED []
  (s1.when spare (State.bermDraw 10 0 1)).noteUnits

/-- A remap of a logical home agent to a spare slice starts (R215). -/
def State.startSliceRemap (home p : Nat) (s : State) : State :=
  if [1, 2, 3].contains (s.get F.FP_REMAP_STATUS_STATE) ∨ s.get (F.HA_SLICE_STATE p) ≠ 0 ∨ 65 < p then s
  else
    let s1 := s.put F.FP_REMAP_STATUS_STATE 1 |>.put (F.HA_SLICE_STATE p) 1 |>.put F.FP_REMAP_REQ_LOGICAL home
      |>.put F.FP_REMAP_REQ_PHYS p
    { s1 with fp := { s1.fp with remapSource := s.get (F.HA_MAP_PHYS home), remapHome := home, remapTarget := p, remapReady := false } }

/-- A slice's BIST ends (Table 6.8). -/
def State.sliceBist (p : Nat) (pass : Bool) (s : State) : State :=
  if s.get (F.HA_SLICE_STATE p) ≠ 1 then s
  else if s.fp.afterService.contains p then
    let s1 := { s with fp := { s.fp with afterService := s.fp.afterService.filter fun x => decide (x ≠ p) } }
    if pass then (s1.put (F.HA_SLICE_STATE p) 0).bermReturn 10 0 1
    else ((s1.put (F.HA_SLICE_STATE p) 5).raise Ev.HA_SLICE_RETIRED []).noteUnits
  else if pass then
    let src := s.fp.remapSource
    let s1 := s.put (F.HA_SLICE_STATE p) 0 |>.put (F.HA_SLICE_STATE src) 4 |>.put F.FP_REMAP_STATUS_STATE 2
    ({ s1 with fp := { s1.fp with remapReady := true } }).forEach (s1.frontDirtyOf s1.fp.remapHome) fun l a => a.writeBack l
  else ((s.retireSlice p).put F.FP_REMAP_STATUS_STATE 5).raise Ev.HA_REMAP_FAILED []

/-- The switch of a slice remap at an epoch boundary, once DRAM has acknowledged every FRONT_DIRTY line (R216, Table 6.8): the source's clean
lines invalidated, HA_MAP moved. The queue's entries go with the logical home agent. -/
def State.sliceSwitch (s : State) : State :=
  let home := s.fp.remapHome
  if s.get F.FP_REMAP_STATUS_STATE = 2 ∧ s.fp.remapReady ∧ s.frontDirtyOf home = [] then
    let tgt := s.fp.remapTarget
    let src := s.fp.remapSource
    let s2 := { s with front := s.front.filter fun e => decide (homeOf e.1 ≠ home)
                       fp := { s.fp with remapReady := false, afterService := s.fp.afterService ++ [src] } }
    (s2.put (F.HA_MAP_PHYS home) tgt |>.put (F.HA_SLICE_STATE tgt) 2 |>.put (F.HA_SLICE_LOGICAL tgt) home
      |>.put (F.HA_SLICE_STATE src) 1 |>.put F.FP_REMAP_STATUS_STATE 4 |>.bermDraw 10 0 1).raise Ev.HA_REMAP_DONE
        [home, src, tgt] |>.noteUnits
  else s

/-- The Spillway starts: a slice remap that flushes stops, and its source serves on (R217). -/
def State.stopSliceRemap (s : State) : State :=
  if s.get F.FP_REMAP_STATUS_STATE = 2 ∨ s.get F.FP_REMAP_STATUS_STATE = 3 then
    let s1 := s.put (F.HA_SLICE_STATE s.fp.remapSource) 2 |>.put F.FP_REMAP_STATUS_STATE 0
    { s1 with fp := { s1.fp with remapReady := false } }
  else s

/-! Crypto pipelines. -/

/-- SPARES_LEFT of LC_STATUS: the pipelines in SPARE. -/
def State.countSpares (s : State) : State :=
  s.put F.LC_STATUS_SPARES_LEFT ((List.range 68).filter fun p => decide (s.get (F.CP_PIPE_STATE p) = 0)).length

/-- A remap of a logical pipeline to a spare starts (R324). -/
def State.startPipeRemap (home p : Nat) (s : State) : State :=
  if [1, 2, 3].contains (s.get F.CP_REMAP_STATUS_STATE) ∨ s.get (F.CP_PIPE_STATE p) ≠ 0 ∨ 67 < p then s
  else
    let s1 := s.put F.CP_REMAP_STATUS_STATE 1 |>.put (F.CP_PIPE_STATE p) 1 |>.put F.CP_REMAP_REQ_LOGICAL home
      |>.put F.CP_REMAP_REQ_PHYS p
    ({ s1 with cry := { s1.cry with remapSource := s.get (F.CP_MAP_PHYS home), remapHome := home, remapTarget := p, remapReady := false } }).countSpares

/-- The lowest spare pipeline taken for a logical pipeline; with none left it shares the pipeline of L ⊕ 32 from the next epoch
boundary on (R324). -/
def State.nextPipe (home : Nat) (s : State) : State :=
  match (List.range 68).find? fun p => decide (s.get (F.CP_PIPE_STATE p) = 0) with
  | some p => s.startPipeRemap home p
  | none => if s.cry.sharing.contains home then s else { s with cry := { s.cry with sharing := s.cry.sharing ++ [home] } }

/-- A pipeline fails (second disagreement, R322): its operations are held and a remap to a spare starts. -/
def State.failPipe (p : Nat) (s : State) : State :=
  if s.get (F.CP_PIPE_STATE p) = 2 ∨ s.get (F.CP_PIPE_STATE p) = 3 then
    ((s.put (F.CP_PIPE_STATE p) 4).raise Ev.CP_FAILED []).nextPipe (s.get (F.CP_PIPE_LOGICAL p))
  else s

/-- A pipeline's self-test ends (Table 9.6). -/
def State.pipeTest (p : Nat) (pass : Bool) (s : State) : State :=
  if s.get (F.CP_PIPE_STATE p) ≠ 1 then s
  else
    let bad (a : State) : State := ((a.put F.ST_STATUS_CRYPTO_FAIL 1).raise Ev.SELF_TEST_FAILED [3, p]).noteUnits
    if s.cry.afterService.contains p then
      let s1 := { s with cry := { s.cry with afterService := s.cry.afterService.filter fun x => decide (x ≠ p) } }
      if pass then ((s1.put (F.CP_PIPE_STATE p) 0).bermReturn 9 0 1).countSpares
      else bad (s1.put (F.CP_PIPE_STATE p) 5)
    else if pass then
      let src := s.cry.remapSource
      let s1 := s.put (F.CP_PIPE_STATE p) 0 |>.put F.CP_REMAP_STATUS_STATE 2
      let s2 := if s1.get (F.CP_PIPE_STATE src) = 2 then s1.put (F.CP_PIPE_STATE src) 3 else s1
      { s2 with cry := { s2.cry with remapReady := true } }.countSpares
    else
      let home := s.cry.remapHome
      let s1 := bad (((s.put (F.CP_PIPE_STATE p) 5).put F.CP_REMAP_STATUS_STATE 5).bermDraw 9 0 1)
      let spare := (List.range 68).any fun x => decide (s1.get (F.CP_PIPE_STATE x) = 0)
      if spare ∨ s1.get (F.CP_PIPE_STATE s1.cry.remapSource) = 4 then s1.nextPipe home else s1

/-- A pipeline's key cache cleared (R319, R324). -/
def State.clearCache (p : Nat) (s : State) : State :=
  { s with cry := { s.cry with caches := Sparse.erase p s.cry.caches } }

/-- The switch of a pipeline remap at an epoch boundary, and the sharing of a physical pipeline for want of a spare (R324). -/
def State.pipeSwitch (s : State) : State :=
  let s1 :=
    if s.get F.CP_REMAP_STATUS_STATE = 2 ∧ s.cry.remapReady then
      let home := s.cry.remapHome
      let tgt := s.cry.remapTarget
      let src := s.cry.remapSource
      let failed := decide (s.get (F.CP_PIPE_STATE src) = 4)
      let a := (s.clearCache src).clearCache tgt
      let b := { a with cry := { a.cry with remapReady := false,
                                            afterService := if failed then a.cry.afterService else a.cry.afterService ++ [src] } }
      ((b.put (F.CP_MAP_PHYS home) tgt |>.put (F.CP_PIPE_STATE tgt) 2 |>.put (F.CP_PIPE_LOGICAL tgt) home
        |>.put (F.CP_PIPE_STATE src) (if failed then 5 else 1) |>.put F.CP_REMAP_STATUS_STATE 4).bermDraw 9 0 1).raise
          Ev.CP_REMAP_DONE [] |>.countSpares |>.noteUnits
    else s
  let s2 := s1.forEach s1.cry.sharing fun home a =>
    let other := a.get (F.CP_MAP_PHYS (home ^^^ 32))
    if a.get (F.CP_MAP_PHYS home) = other then a
    else
      let src := a.get (F.CP_MAP_PHYS home)
      ((a.clearCache src).put (F.CP_MAP_PHYS home) other |>.put (F.CP_PIPE_STATE src) 5).raise Ev.CP_NO_SPARE []
  let s3 := { s2 with cry := { s2.cry with sharing := [] } }
  if s1.cry.sharing.isEmpty then s3 else s3.noteUnits

end Sys2Proof.Machine
end

