-- ==== Sys2Proof/Machine/Modes.lean ====
section
/-! DEFINITION. The modes (R6, R23, R52, R53, R549 to R553): what a change of mode does everywhere, the reset of the blocks, the
ramps (R537, R538), and the entries into SAVE, QUARANTINE, BRINGUP and WATCH. -/

namespace Sys2Proof.Machine

open Sys2Proof

/-! Durability (Tables 1.4 and 1.17). -/

/-- DUR_LEVEL of a mode: frozen in SAVE and QUARANTINE. -/
def State.durLevel (s : State) : Nat :=
  match s.mode with
  | .solo | .resync | .takeover => 1
  | .paired | .drain => 2
  | .save | .quarantine => s.get F.PLD_DUR_STATE_DUR_LEVEL
  | _ => 0

/-- HORIZON_FROZEN of a mode (R38, Table 1.4): horizons advance only in PAIRED and DRAIN; in the modes without main rails the block does not
hold the field. -/
def State.horizonFrozen (s : State) : Bool :=
  match s.mode with
  | .solo | .resync | .takeover | .quarantine | .bringup | .restore => true
  | .save => s.isSet F.PLD_DUR_STATE_HORIZON_FROZEN
  | _ => false

/-- TWIN_COMPLETE suspended: in SOLO, RESYNC and TAKEOVER, and while fenced in PAIRED or DRAIN (R24, R52). -/
def State.twinSuspended (s : State) : Bool :=
  match s.mode with
  | .solo | .resync | .takeover => true
  | .paired | .drain => s.fenced
  | _ => false

/-- PLD_DUR_STATE brought in line with the mode and the fence, with the events, records and notices of its changes (R24, Tables
1.21, 3.11 and 5.9). -/
def State.syncDur (s : State) : State :=
  let lvl := s.durLevel
  let frozen := s.horizonFrozen
  let susp := s.twinSuspended
  let wasFrozen := s.isSet F.PLD_DUR_STATE_HORIZON_FROZEN
  let wasSusp := s.isSet F.PLD_DUR_STATE_TWIN_COMPLETE_SUSPENDED
  let s1 := s.put F.PLD_DUR_STATE_DUR_LEVEL lvl |>.put F.PLD_DUR_STATE_HORIZON_FROZEN (flag frozen)
    |>.put F.PLD_DUR_STATE_TWIN_COMPLETE_SUSPENDED (flag susp)
  let s2 := s1.when (decide (frozen ≠ wasFrozen)) (State.raise Ev.HORIZON_FROZEN [flag frozen])
  if susp ∧ !wasSusp then
    ((s2.raise Ev.TWIN_DURABILITY_WITHDRAWN []).recordAll 0x10 Ev.TWIN_DURABILITY_WITHDRAWN lvl).notice none 7 lvl 0
  else if wasSusp ∧ !susp ∧ s.mode.twin then (s2.recordAll 0x11 Ev.TWIN_DURABILITY_WITHDRAWN lvl).notice none 8 lvl 0
  else s2

/-- The held images released, and the orderly-shutdown mark cleared: a serving mode is entered (R284, R551). -/
def State.releaseImages (s : State) : State :=
  ({ s with ssb := { s.ssb with imageA := none, imageB := none, orderly := false } }).put F.SPW_STATUS_IMAGE_HELD 0

/-- PLLs 8 to 10 stop with their lanes in SAVE, and run again when the controller leaves it with the rails up (Table 16.6). -/
def State.lanePlls (m : Mode) (s : State) : State :=
  let v := s.get F.CLK_STATUS_PLL_LOCK
  if m = .save then s.put F.CLK_STATUS_PLL_LOCK (v % 256 + v / 2048 * 2048)
  else if s.mode = .save ∧ m.mainRails then
    s.put F.CLK_STATUS_PLL_LOCK ([8, 9, 10].foldl (fun n p => if s.pw.unlocked.contains p then n else n + 2 ^ p) (v % 256 + v / 2048 * 2048))
  else s

/-- The mode changed: MODE_CHANGED with the old and the new number (R549), durability, Memory Active and media status,
unchanged in SAVE (R119), and DevLoad. -/
def State.setMode (m : Mode) (s : State) : State :=
  if s.mode = m then s
  else
    let old := if s.mode = .off then s.pw.from_ else s.mode.num
    let s0 := if m.serving ∧ !s.mode.serving then s.releaseImages else s
    let s0m := if m = .save then { s0 with ssb := { s0.ssb with mediaHeld := s.mediaStatus } } else s0
    let s1 := ({ (s0m.lanePlls m) with mode := m }).raise Ev.MODE_CHANGED [old, m.num]
    (s1.syncDur |>.when (decide (m ≠ .save)) State.setAllActive).noteLoad

/-! Reset of blocks (R14). -/

/-- The blocks that lie on the management tile: identity, the Reeve's, power and the Berm. They keep their state through a reset of
the other blocks. -/
def mgmtBlock (off : Nat) : Bool :=
  decide (off < 0x1000) || (decide (0x1100000 ≤ off) && decide (off < 0x1300000)) || decide (0x60000000 ≤ off)

/-- The row of the register table that holds the field at an offset and low bit. -/
def rowAt (off lo : Nat) : Option RegRow := regTable.find? fun r => decide (r.lo = lo) && r.at off

/-- A field keeps its value when its block is reset: fuses, straps, and what the controller keeps in the embedded flash (R14). -/
def kept (off lo : Nat) : Bool :=
  match rowAt off lo with
  | some r => decide (r.src = .fuse) || decide (r.src = .strap) || (decide (r.src = .config) && decide (r.acc = .ro))
  | none => false

/-- The registers after a reset of the blocks that satisfy `p`: kept fields; the configuration image's values come when the blocks leave
reset (R14). What the embedded flash keeps reads 0 until then (`State.unloaded`). -/
def State.resetRegs (p : Nat → Bool) (s : State) : State :=
  { s with regs := s.regs.filter fun e => !p (e.1 / 64) || kept (e.1 / 64) (e.1 % 64) }

/-- A stream number keeps no stream; a queue number keeps its incarnation. -/
def Queue.gone (k : Queue) : Queue := { incarnation := k.incarnation }

/-- Every block but those of the management tile reset (R513, R552): the Polder, the queues, the links and all work in progress are
gone; HORIZON_FROZEN falls with its event, in the change of mode that follows (R66). The deep tier, the region table, the key store, the pair and group records and the image areas stay. -/
def State.resetBlocks (s : State) : State :=
  let off0 := s.when (decide (2 ≤ s.guestState ∧ s.guestState ≤ 5)) fun a => (a.emit (.guestReset true)).emit (.guestSupplies false)
  let s0 := (off0.resetRegs fun off => !mgmtBlock off).put F.KG_GUEST_STATUS_STATE (flag s.guestFitted)
  let s1 := (s0.put F.CW_STATUS_FENCE_N (s.get F.CW_STATUS_FENCE_N)
      |>.put F.PLD_DUR_STATE_HORIZON_FROZEN (s.get F.PLD_DUR_STATE_HORIZON_FROZEN)).forEach (List.range 4) fun p a =>
    a.put (F.CXL_PORT_STATUS_PERST_ASSERTED p) (s.get (F.CXL_PORT_STATUS_PERST_ASSERTED p))
  { s1 with
    latches := [], mem := [], lines := [], front := [], victims := [], rotPtr := [], writes := [], reads := [], ingress := []
    lds := [], links := [], ports := [], poisonOverflow := false, loadHist := [], merges := [], failed := [], fp := {}
    cul := { s1.cul with xmc := [], pages := [], fills := [], extents := [], releases := 0, trans := [], jpend := [],
                         tableDirty := [], tableAt := [], evicting := false, captures := [], streams := [], hand := 0,
                         nextChannel := 0, pinRegions := [], lastStream := 0, unframed := [] }
    ks := { s1.ks with pendingChanges := [], pendingWaits := [], destroys := false, running := false, passes := 0, waits := [], current := [], twice := false,
                       twinWaits := [], committed := 0 }
    cry := {}
    queues := s1.queues.filterMap fun (e : Nat × Queue) => if e.2.incarnation = 0 then none else some (e.1, e.2.gone)
    scopes := []
    cw := { paired := s1.cw.paired, partnerSerial := s1.cw.partnerSerial, ownAuth := s1.cw.ownAuth, partnerAuth := s1.cw.partnerAuth,
            partnerMirror := s1.cw.partnerMirror, groupId := s1.cw.groupId, unsealed := s1.cw.unsealed, mapBase := s1.cw.mapBase,
            fences := if s1.isSet F.CW_STATUS_FENCE_N then [2] else [], mapSet := s1.cw.mapSet, allowNew := s1.cw.allowNew, allowReplace := s1.cw.allowReplace }
    wit := {}
    ssb := { s1.ssb with charged := [], history := [], drained := 0, drainHist := [], shares := [], limited := [], throttleMinute := 0,
                         lastD := 0, reported := false, dAssay := none, samples := [], charge := 0, repeat_ := false, claim := false,
                         claimSeq := 0, twinClaim := false, restoring := none, rstDamage := [], rstRefused := [], saveCause := 0, saveAt := 0 }
    dram := { serials := s1.dram.serials, dimmRanks := s1.dram.dimmRanks }
    eth := {}
    kg := { lastHandle := s1.kg.lastHandle, trained := s1.kg.trained }
    fl := { s1.fl with records := [], rbSince := 0, rbLeft := [], rbLater := [], rbStripe := 0, waiting := [], taken := [], repairs := [],
                       patrolLeft := [], patrolStripe := 0, tempFails := [], clocksStopped := [], labels := [], repairedLines := 0 }
    fc := { s1.fc with cond := [], repeats := [], limits := [], linePend := [], due := [],
                       latchOver := s1.fc.latch } }
    |>.put F.CW_STATUS_FENCE_CAUSE (flag (s1.isSet F.CW_STATUS_FENCE_N) * 2)

/-! Ramps (R537, R538). -/

/-- The rails a ramp takes: rail 5 may be absent (R536). -/
def State.railPresent (i : Nat) (s : State) : Bool := decide (i ≠ 5) || s.isSet (F.RAIL_CFG_PRESENT i)

/-- SAVE_NEEDED of a rail (Table 16.1), and of a PLL as 16 + p (R546). -/
def saveNeeded (u : Nat) : Bool :=
  if u < 16 then !([4, 5, 8].contains u) else !([24, 25, 26, 28].contains u)

/-- RAIL_STATUS STATE of a rail: 0 OFF, 1 ENABLING, 2 GOOD, 3 OUT_OF_WINDOW, 4 LOST, 5 DISABLING. -/
def State.railState (i : Nat) (s : State) : Nat := s.get (F.RAIL_STATUS_STATE i)

/-- RAIL_GOOD as the rails stand. -/
def State.railGood (s : State) : State :=
  let v := (List.range 12).foldl (fun n i => if s.railState i = 2 ∨ s.railState i = 3 then n + 2 ^ i else n) 0
  s.put F.PWR_STATUS_RAIL_GOOD v

/-- A rail's STATE set. -/
def State.setRail (i st : Nat) (s : State) : State := (s.put (F.RAIL_STATUS_STATE i) st).railGood

/-- The next present rail from `i` on, 12 when there is none. -/
def State.nextRail (i : Nat) (s : State) : Nat :=
  (((List.range 12).filter fun k => decide (i ≤ k) && s.railPresent k).head?).getD 12

/-- The ramp-up stands at rail `i`: PSEQ_EN asserted; at 12 the PLLs are started. -/
def State.enableRail (i : Nat) (s : State) : State :=
  let k := s.nextRail i
  let s1 := { s with pw := { s.pw with ramp := 1, rail := k, pg := false, inWindow := 0 } }
  if k < 12 then s1.setRail k 1 else s1

/-- What the Reeve sends to the regulator of a rail with an address for a margin of `k` % (R542): the voltage as VOUT_MARGIN_HIGH or
VOUT_MARGIN_LOW and OPERATION with that margin, or OPERATION On. -/
def State.sendMargin (i k : Nat) (s : State) : State :=
  s.when (decide (s.get (F.RAIL_PMBUS_ADDR i) ≠ 0)) (State.emit (if k = 0 then .railOn i
    else .railMargin i (decide (k < 8)) (s.get (F.RAIL_CFG_NOMINAL_MV i) * (if k < 8 then 100 + k else 84 + k))))

/-- A ramp-up begins (R537, R542): OPERATION On to every regulator, margins back to 0, one more attempt. -/
def State.startRampUp (s : State) : State :=
  let s1 := s.forEach (List.range 12) fun i a => (a.put (F.RAIL_MARGIN_STEPS i) 0 |>.put (F.RAIL_STATUS_MARGIN_APPLIED i) 0).sendMargin i 0
  let s2 := ({ s1 with pw := { s1.pw with lost := [], unlocked := [], moved := [], margins := [] } }).bump F.PWR_WAKE_STATUS_ATTEMPTS 1
    |>.put F.PWR_STATUS_GO_WAIT 0
  (s2.setMode .ramp).enableRail 0

/-- The rails that are on, highest first. -/
def State.railsOn (s : State) : List Nat := ((List.range 12).filter fun i => decide (s.railState i ≠ 0)).reverse

/-- The collector's state lost with the main rails (R518, R521). -/
def State.dropCollector (s : State) : State :=
  { s with fc := { s.fc with queue := [], depthCopy := s.fc.depthCopy + s.fc.queue.length } }

/-- THERM_LATCH set (R557, R558). -/
def State.setThermLatch (s : State) : State :=
  ({ s with pw := { s.pw with latchAt := s.get F.ID_OPERATING_S_SECONDS } }).put F.PWR_STATUS_THERM_LATCH 1

/-- DORMANT left for WATCH: the Reeve's clock starts (Table 16.7). -/
def State.wakeDormant (s : State) : State := if s.mode = .dormant then s.setMode .watch else s

/-- WATCH entered with the rails off. -/
def State.enterWatch (s : State) : State :=
  let s1 := ((s.dropCollector).resetBlocks).put F.PWR_STATUS_RETURNING 0 |>.put F.PWR_STATUS_STOPPING 0
  let s2 := { s1 with pw := { s1.pw with ramp := 0, lost := [], unlocked := [], quarantineHeld := false } }
  let s3 := s2.put F.CLK_STATUS_PLL_LOCK 0 |>.put F.PWR_STATUS_PSEQ_DONE 0
  s3.setMode .watch

/-- What a finished ramp-down leads to. -/
def State.endRampDown (s : State) : State :=
  match s.pw.down with
  | 1 =>
    let s1 := ((s.dropCollector).resetBlocks)
    { s1 with pw := { s1.pw with ramp := 3 } }
  | 2 =>
    let s1 := s.enterWatch
    let s2 := { s1 with fc := { s1.fc with wakeCause := true, latch := true } }
    (s2.put F.PWR_STATUS_WAKE_LOCK 1).raise Ev.WAKE_FAILED []
  | 3 => s.enterWatch.raise Ev.SHUTDOWN_DONE []
  | _ => s.enterWatch

/-- The next rail of a ramp-down switched off, or its end (R538). -/
def State.disableNext (s : State) : State :=
  match s.railsOn with
  | i :: _ => { s.setRail i 5 with pw := { (s.setRail i 5).pw with ramp := 2, rail := i } }
  | [] => s.endRampDown

/-- The guest switch opened, before rail 10 or 5 is switched off (R538). -/
def State.openGuestSwitch (s : State) : State :=
  if 2 ≤ s.guestState ∧ s.guestState ≤ 5 then
    (((s.emit (.guestReset true)).emit (.guestSupplies false))).put F.KG_GUEST_STATUS_STATE 1
  else s

/-- A ramp-down (R538): PSEQ_DONE deasserted, the PLLs stopped, the rails switched off from the highest on. -/
def State.rampDown (after : Nat) (s : State) : State :=
  let s1 := s.openGuestSwitch.put F.PWR_STATUS_PSEQ_DONE 0 |>.put F.CLK_STATUS_PLL_LOCK 0 |>.put F.PWR_STATUS_GO_WAIT 0
  (({ s1 with pw := { s1.pw with down := after } }).setMode .ramp).disableNext

/-- Every PSEQ_EN deasserted at once (R533, R558). -/
def State.railsDrop (s : State) : State :=
  (s.forEach (List.range 12) fun i a => a.put (F.RAIL_STATUS_STATE i) 0).railGood

/-- A wake step failure (R543): recorded, and a ramp-down before the second attempt, or before WATCH. -/
def State.wakeStepFailed (step idx : Nat) (s : State) : State :=
  let s1 := (s.put F.PWR_WAKE_STATUS_FAIL_STEP step |>.put F.PWR_WAKE_STATUS_FAIL_INDEX idx).raise Ev.WAKE_STEP_FAILED [step, idx]
  s1.rampDown (if s1.pw.second then 2 else 1)

/-! The changed-extent map, the link key and fences (R418, R424, R437). -/

/-- The lines a mirror frame carries. -/
def frameLineNumbers : CwBody → List Nat
  | .lines es => es.map fun e => e.line
  | .linesBg es => es.map fun e => e.line
  | _ => []

/-- The map started (R437): the bits of every extent in an unacknowledged frame, or in a change that waits to be sent, set; a map that is valid keeps its bits and its base. -/
def State.startMap (base : Nat) (s : State) : State :=
  let due := s.cw.mirrorDue ++ (s.cw.unacked.map fun (f : Nat × CwBody) => frameLineNumbers f.2).flatten
  let xs := (due.map fun l => extentOfPage (pageOfLine l)).eraseDups
  let old := if s.isSet F.CW_STATUS_MAP_VALID then s.cw.mapSet else []
  let b := if s.isSet F.CW_STATUS_MAP_VALID then s.cw.mapBase else base
  ({ s with cw := { s.cw with mapSet := old ++ xs.filter fun x => !old.contains x, mapBase := b } }).put F.CW_STATUS_MAP_VALID 1

/-- The map started with the recorded epoch as its base. -/
def State.beginMap (s : State) : State := s.startMap (s.get F.CW_PAIR_EPOCH_EPOCH)

/-- The map cleared: entry to PAIRED (Table 12.12). -/
def State.clearMap (s : State) : State :=
  ({ s with cw := { s.cw with mapSet := [] } }).put F.CW_STATUS_MAP_VALID 0

/-- What a queue holds of mirror SEQs no longer means anything once the link key has left force. -/
def Queue.unlink (k : Queue) : Queue :=
  { k with hFrames := [], hSent := k.horizon, scope := 0,
           doneSeqs := k.doneSeqs.map fun (e : Nat × Nat × Nat) => (e.1, e.2.1, 0),
           ops := k.ops.map fun o => { o with mseq := 0, wait := 0, cover := 0 } }

/-- The link key leaves force (R418): unacknowledged frames are discarded, their writes leave PENDING_LINES, their extents go into the map,
and the frames held and the records staged on this side are discarded. -/
def State.dropLinkKey (s : State) : State :=
  if !s.cw.linkKey then { s with cw := { s.cw with hello := false } }
  else
    let s1 := if s.cw.paired then s.beginMap else s
    { s1 with
      lines := s1.lines.filterMap fun (e : Nat × LineMeta) =>
        let m := { e.2 with pend := 0 }
        if m = LineMeta.fresh then none else some (e.1, m)
      writes := s1.writes.map fun w => { w with seq := 0 }
      queues := s1.queues.map fun (e : Nat × Queue) => (e.1, e.2.unlink)
      scopes := []
      cw := { s1.cw with unacked := [], sentUpTo := 0, sentLines := 0, creditLines := 0, linkKey := false, oldEpoch := false, key := 0, oldKey := 0, held := [],
                         rxStaged := [], nak := 0, hello := false, copySeqs := [], repairsDue := [], partnerReady := false, mirrorDue := [] } }

/-- FENCE_CAUSE as the standing causes have it: the highest number (log entry 36). -/
def State.showFence (s : State) : State := (s.put F.CW_STATUS_FENCE_CAUSE (s.cw.fences.foldl max 0)).syncDur

/-- The fence's event level of a cause: SELF_FENCED for SELF, FENCE_N_ASSERTED for FENCE_N and WITNESS_ORDER. -/
def fenceEvent (cause : Nat) : Option Nat :=
  match cause with
  | 1 => some Ev.SELF_FENCED
  | 2 => some Ev.FENCE_N_ASSERTED
  | 3 => some Ev.FENCE_N_ASSERTED
  | _ => none

/-- The controller fenced by a cause of Table 12.11 (1: SELF; 2: FENCE_N; 3: WITNESS_ORDER; 4: RELEASE; 5: TAKEN_OVER): the map started,
and the link key dropped for SELF (R418, R424, R437). -/
def State.setFence (cause : Nat) (s : State) : State :=
  if s.cw.fences.contains cause then s
  else
    let s1 := (s.when s.cw.paired State.beginMap).when (decide (cause = 1)) State.dropLinkKey
    let s2 := ({ s1 with cw := { s1.cw with fences := s1.cw.fences ++ [cause] } }).showFence
    match fenceEvent cause with
    | some n => s2.raise n []
    | none => s2

/-- A fence cause ends, with its event's condition once no other cause keeps it. -/
def State.endFence (cause : Nat) (s : State) : State :=
  if !s.cw.fences.contains cause then s
  else
    let s1 := ({ s with cw := { s.cw with fences := s.cw.fences.filter fun c => decide (c ≠ cause) } }).showFence
    match fenceEvent cause with
    | some n => if s1.cw.fences.any fun c => decide (fenceEvent c = some n) then s1 else s1.endCond n
    | none => s1

/-! Leaving and entering. -/

/-- The highest key generation the key store or the newest held image names (R80). -/
def State.highestGen (s : State) : Nat :=
  let held := match s.ssb.imageA, s.ssb.imageB with
    | some a, some b => if a.seq < b.seq then b.counters.getD 0 0 else a.counters.getD 0 0
    | some a, none => a.counters.getD 0 0
    | none, some b => b.counters.getD 0 0
    | none, none => 0
  s.keyBody.gens.foldl (fun m g => max m g.gen) held

/-- The persistent state read at a BRINGUP (R14, R80): with neither slot valid, the generation counter takes its derived value and no device
is marked. -/
def State.loadStored (s : State) : State :=
  if s.rv.units.valid then s
  else
    let s1 := { s with rv := { s.rv with units := { s.rv.units with valid := true } } }
    (s1.put F.ADR_GEN_NEXT_GEN (min 0xFFFFFFFF (s.highestGen + 16777216))).forEach (List.range 16) fun c a =>
      a.put (F.CH_DEV_MARK_MARK c) (2 ^ 64 - 1)

/-- What a configuration load finds wrong in the windows and the P_Key map it brought (R88, R108). -/
def State.checkConfig (s : State) : State :=
  let bad := (List.range 64).any fun n => s.isSet (F.CXL_LD_WIN_BASE_WIN_VALID n) && !s.winValid n
  let dup := ((List.range 4096).filter fun i => s.isSet (F.PKEY_MAP_VALID i)).any fun i => s.pkeyDuplicate i
  (s.when bad (State.raise Ev.CONFIG_INVALID [])).when dup (State.raise Ev.PKEY_DUPLICATE [])

/-- This controller's claim given up, with ASSAY_STATE 0 to the twin (R267). -/
def State.releaseClaim (s : State) : State :=
  if s.ssb.claim then
    let s1 := { s with ssb := { s.ssb with claim := false } }
    if s1.cw.linkKey then (s1.sendFrame (.assayState false)).2 else s1
  else s

/-- A running assay ended without a result (R271): BANK_TEST_EN deasserted. -/
def State.abandonAssay (s : State) : State :=
  let s1 := s.releaseClaim
  if s.get F.ASSAY_STATUS_STATE = 0 then s1
  else
    (({ s1 with ssb := { s1.ssb with dAssay := none, repeat_ := false } }).put F.ASSAY_STATUS_STATE 0).put F.ASSAY_STATUS_LAST_RESULT 7
      |>.when (decide (s.get F.ASSAY_STATUS_STATE = 2)) (State.emit (.bankTest false))

/-- BRINGUP entered with the rails up: blocks reset first when `reset` (R513, R552), as a returning controller when `returning`
(R425). Blocks that leave reset take the configuration image in force, and what the embedded flash keeps (R14, R494). -/
def State.enterBringup (reset returning : Bool) (s : State) : State :=
  let s0 := s.abandonAssay.when reset State.resetBlocks
  let leaves := decide (reset ∨ s.mode = .ramp)
  let s00 := s0.when leaves fun a => ((a.selectConfig.loadConfig fun off => !mgmtBlock off).loadStored).checkConfig
  let s1 := if reset then { s00 with pw := { s00.pw with firmware := false, chipHeld := false, quarantineHeld := false } } else s00
  let s1u := if leaves then s1.startUnits else s1.changeSplits
  let s2 := (s1u.put F.PWR_STATUS_RETURNING (flag returning) |>.put F.PWR_STATUS_STOPPING 0 |>.put F.RST_STATUS_PHASE 0)
  s2.setMode .bringup

/-- A save-needed rail or PLL is lost: no save can run (R541). -/
def State.railsLost (s : State) : Bool := s.pw.lost.any saveNeeded

/-- The save can run: SAVE_PATH_OK and every save-needed rail (R53, R541). -/
def State.canSave (s : State) : Bool := s.savePathOk && !s.railsLost

/-- A key-store update in progress stops (R333): what waited for it starts again after the restore. -/
def State.stopKeyStore (s : State) : State :=
  let k := s.ks
  { s with ks := { k with running := false, passes := 0, pendingChanges := [], pendingWaits := [], destroys := false, waits := [],
                          current := [], twice := false } }

/-- The unsealed image that a save begins in the area other than the one last written (R284, R286). -/
def State.beginImage (s : State) : State :=
  let a := 1 - s.ssb.area
  let im : Image := { seq := s.get F.SPW_IMAGE_SEQ_SEQ + 1, sealed := false, width := s.mEff, jseq := s.cul.jseq - 1,
                      freeboard := s.get F.FB_STATUS_FREEBOARD_GIB, psave := s.get F.FB_PSAVE_W, rsave := s.get F.FB_RSAVE_MBPS,
                      outOfRange := false, lines := [], pending := [], journal := [], queues := [], streams := [], rotations := [],
                      counters := [], ringRegs := [], qps := [], horizons := [], commit := {} }
  let s1 := { s with ssb := { s.ssb with area := a, erased := s.ssb.erased.filter fun x => decide (x ≠ a),
                                         imageA := if a = 0 then some im else s.ssb.imageA,
                                         imageB := if a = 0 then s.ssb.imageB else some im } }
  s1.put F.SPW_IMAGE_SEQ_SEQ im.seq |>.put F.SPW_STATUS_AREA a |>.put F.SPW_STATUS_LAST_SEALED 0

/-- The ranks that hold no dirty line enter self-refresh, and the others wake (R360). -/
def State.saveRanks (s : State) : State :=
  let busy := ((s.lines.filter fun e => e.2.dirty).map fun e => match s.lineLocation e.1 with
    | c :: r :: _ => c * 8 + r
    | _ => 128).eraseDups
  let on := (List.range 128).filter fun k => decide (s.get (F.CH_STATUS_STATE (k / 8)) = 2 ∨ s.get (F.CH_STATUS_STATE (k / 8)) = 3) &&
    decide (k % 8 < s.get (F.CH_STATUS_LOGICAL_RANKS (k / 8)))
  { s with dram := { s.dram with ranks := on.foldl (fun t k => Sparse.set 0 k (if busy.contains k then 0 else 2) t) s.dram.ranks } }

/-- The rebuild cursor recorded at SAVE (R400). -/
def State.noteCursor (s : State) : State := { s with fl := { s.fl with rbNoted := (s.fl.rbLeft, s.fl.rbLater), rbSince := 0 } }

/-- SAVE entered (Table 8.7): `cause` as in `Ssb.saveCause`. The links power down, sleeping slices and flash clocks run, a remap in
progress stops. -/
def State.enterSave (cause : Nat) (s : State) : State :=
  if s.mode = .save then s
  else
    let n := s.dirtyLines
    let s0 := (s.when s.cw.paired State.beginMap).noteCursor
    let s1 := (s0.abandonAssay.stopSliceRemap).stopKeyStore.guestSave.setMode .save
    let s2 := { s1 with
      ssb := { s1.ssb with saveCause := cause, saveAt := s1.now, outOfRange := false }
      ingress := []
      cry := { s1.cry with asleep := [] }
      fl := { s1.fl with clocksStopped := [] } }
    let s3 := s2.forEach (List.range 66) fun p a => if a.get (F.HA_SLICE_STATE p) = 3 then a.put (F.HA_SLICE_STATE p) 2 else a
    let s4 := s3.forEach (List.range 16) fun l a => (a.put (F.CXL_LINK_STATUS_RATE l) 0 |>.put (F.CXL_LINK_STATUS_WIDTH l) 0).ethDrop l
    let s5 := s4.forEach (List.range 2) fun p a => if a.pathState p = 3 then a else a.setPath p 0
    (s5.saveRanks.beginImage.put F.SPW_STATUS_PHASE 1).raise Ev.SAVE_STARTED [n]

/-- QUARANTINE entered (R53, R514). In SAVE it is held until the seal; in RAMP and with the rails off there is nothing to freeze. -/
def State.enterQuarantine (s : State) : State :=
  if s.mode = .save then { s with pw := { s.pw with quarantineHeld := true } }
  else if s.mode.mainRails ∧ s.mode ≠ .quarantine then
    ({ s with ssb := { s.ssb with restoring := none } }).put F.RST_STATUS_PHASE 0 |>.put F.PWR_STATUS_STOPPING 0 |>.setMode .quarantine
  else s

/-- No save although one is due: SAVE_SKIPPED and a ramp-down (R53). -/
def State.skipSave (s : State) : State := (s.abandonAssay.raise Ev.SAVE_SKIPPED []).rampDown 0

/-- A ramp-down between two attempts ends in WATCH (R543, R557). -/
def State.noRetry (s : State) : State := if s.pw.down = 1 then { s with pw := { s.pw with down := 0 } } else s

/-- PFAIL_N past its filter (Table 8.6). -/
def State.powerFail (s : State) : State :=
  match s.mode with
  | .dormant | .watch | .save | .off => s
  | .ramp => if s.pw.ramp = 1 ∨ s.pw.ramp = 3 then s.rampDown 0 else s.noRetry
  | .bringup | .restore => s.abandonAssay.rampDown 0
  | _ => if s.canSave then s.enterSave 1 else s.skipSave

/-- The shutdown temperature (R557). -/
def State.thermalShutdown (s : State) : State :=
  match s.mode with
  | .dormant | .watch | .off => s.setThermLatch
  | .save => s.setThermLatch
  | .ramp => if s.pw.ramp = 2 then s.setThermLatch.noRetry else s.setThermLatch.rampDown 0
  | .bringup | .restore => s.setThermLatch.abandonAssay.rampDown 0
  | _ => if s.canSave then s.setThermLatch.enterSave 4 else s.setThermLatch.skipSave

/-- A CHIP reaction (Table 15.3). -/
def State.chipReaction (s : State) : State :=
  match s.mode with
  | .bringup | .restore => s.enterBringup true false
  | .ramp => if s.pw.ramp = 1 then s.wakeStepFailed 0 0 else s
  | .solo | .paired | .resync | .takeover | .drain =>
    if s.canSave then (s.setFence 1).enterSave 2 else s.enterQuarantine
  | .save => { s with pw := { s.pw with chipHeld := true } }
  | _ => s

/-- A rail or PLL is lost in service (Table 16.2): `u` is the rail, or 16 + p. -/
def State.unitLost (u : Nat) (s : State) : State :=
  let s1 := if s.pw.lost.contains u then s else { s with pw := { s.pw with lost := s.pw.lost ++ [u] } }
  if saveNeeded u then
    match s1.mode with
    | .ramp => if s1.pw.ramp = 1 then s1.wakeStepFailed (if u < 16 then 1 else 3) (u % 16) else s1
    | .bringup | .restore => s1.abandonAssay.rampDown 2
    | .solo | .paired | .resync | .takeover | .drain => s1.enterQuarantine
    | .save => if s1.get F.SPW_STATUS_PHASE = 5 then s1.rampDown 0 else s1
    | _ => s1
  else
    match s1.mode with
    | .ramp => if s1.pw.ramp = 1 then s1.wakeStepFailed (if u < 16 then 1 else 3) (u % 16) else s1
    | .save => s1
    | _ => if u = 5 ∨ u = 28 then s1.guestLost else s1.serdesLost u

end Sys2Proof.Machine
end

