-- ==== Sys2Proof/Machine/Assay.lean ====
section
/-! DEFINITION. The bank assay (R267 to R271): its claim in a pair, its states and its result. -/

namespace Sys2Proof.Machine

open Sys2Proof

/-! Conversions. -/

/-- The last `n` conversions of BANK_V (0) or BANK_I (1). -/
def State.lastSamples (chan n : Nat) (s : State) : List (Nat × Nat × Bool) :=
  let l := s.ssb.samples.filter fun e => decide (e.1 = chan)
  l.drop (l.length - n)

/-- The latest conversion of BANK_V (0) or BANK_I (1). -/
def State.latest (chan : Nat) (s : State) : Nat := (s.lastSamples chan 1).foldl (fun _ e => e.2.1) 0

/-- The mean of conversions: those with RANGED are excluded (R268). -/
def meanOf (l : List (Nat × Nat × Bool)) : Nat :=
  let g := l.filter fun e => !e.2.2
  if g.isEmpty then 0 else g.foldl (fun n e => n + e.2.1) 0 / g.length

/-- More than half of the conversions carried RANGED. -/
def mostlyRanged (l : List (Nat × Nat × Bool)) : Bool := decide (l.length < 2 * (l.filter fun e => e.2.2).length)

/-- I_TEST in mA. -/
def State.iTest (s : State) : Nat := s.bankField 40 4

/-! Starting. -/

/-- The twin can hear a claim. -/
def State.twinContact (s : State) : Bool := s.cw.linkKey

/-- The modes in which an assay that is due may start (R267). -/
def State.assayMode (s : State) : Bool :=
  match s.mode with
  | .solo | .paired | .resync | .takeover | .bringup => true
  | _ => false

/-- D_assay: D at 0.97 × the present voltage, or D before the first accepted assay (Table 8.3). -/
def State.assayD (s : State) : Nat :=
  if s.isSet F.FB_STATUS_ASSAYED then s.freeboardAt (min (97 * s.ssb.vNow / 100) s.vFull) else s.get F.FB_STATUS_FREEBOARD_GIB

/-- PREPARE entered. -/
def State.enterPrepare (s : State) : State :=
  ({ s with ssb := { s.ssb with assayDue := false, dAssay := some s.assayD, samples := [], charge := 0, measured := false,
                                rangedOver := false, noLoad := false } }).put F.ASSAY_STATUS_STATE 1 |>.sluice

/-- An assay that is due begins when the mode allows it and, in a pair, its claim is acknowledged and the twin has none (R267); the firmware makes it (R479). -/
def State.tryAssay (s : State) : State :=
  if !s.ssb.assayDue ∨ !s.pw.firmware ∨ !s.assayMode ∨ s.get F.ASSAY_STATUS_STATE ≠ 0 then s
  else if !s.twinContact then s.enterPrepare
  else if s.ssb.claim then (if s.ssb.claimSeq ≤ s.ackSeq then s.enterPrepare else s)
  else if s.ssb.twinClaim then s
  else
    let f := s.sendFrame (.assayState true)
    { f.2 with ssb := { f.2.ssb with claim := true, claimSeq := f.1 } }

/-- The twin's ASSAY_STATE (R267): when both claimed, the controller of side 1 gives way. -/
def State.twinAssay (claim : Bool) (s : State) : State :=
  let s1 := { s with ssb := { s.ssb with twinClaim := claim } }
  if claim ∧ s1.ssb.claim ∧ s1.get F.ASSAY_STATUS_STATE = 0 ∧ s1.side = 1 then s1.releaseClaim else s1.tryAssay

/-! Measuring. -/

/-- The discharge begins (Table 8.3): dirty bytes at or below D_assay − 1 GiB, and 64 conversions for V0. -/
def State.assayDischarge (s : State) : State :=
  let v := s.lastSamples 0 64
  match s.ssb.dAssay with
  | some d =>
    if s.get F.ASSAY_STATUS_STATE = 1 ∧ s.dirtyBytes ≤ (d - 1) * 2 ^ 30 ∧ v.length = 64 then
      ({ s with ssb := { s.ssb with v0 := meanOf v, rangedOver := mostlyRanged v, samples := [], charge := 0 } }).put
        F.ASSAY_STATUS_STATE 2 |>.emit (.bankTest true)
    else s
  | none => s

/-- A rejected result (R270): counted, with ASSAY_FAILED at the third in a row. -/
def State.rejectAssay (result : Nat) (s : State) : State :=
  let n := satAdd 8 (s.get F.ASSAY_STATUS_REJECTS) 1
  let s1 := ({ s with ssb := { s.ssb with repeat_ := false } }).put F.ASSAY_STATUS_LAST_RESULT result |>.put F.ASSAY_STATUS_REJECTS n
  if n = 3 then s1.raise Ev.ASSAY_FAILED [] else s1

/-- RELAX entered: BANK_TEST_EN deasserted. -/
def State.assayRelax (s : State) : State :=
  ({ s with ssb := { s.ssb with samples := [] } }).put F.ASSAY_STATUS_STATE 3 |>.emit (.bankTest false)

/-- A result accepted (R270): stored, with ASSAY_DONE and the freeboard it gives (R263). -/
def State.acceptAssay (c esr energy : Nat) (degraded : Bool) (s : State) : State :=
  let s1 := s.put F.ASSAY_C_UF_UF c |>.put F.ASSAY_ESR_UOHM_UOHM esr |>.put F.ASSAY_EBANK_J_J energy
    |>.put F.FB_STATUS_ASSAYED 1 |>.bump F.ASSAY_STATUS_COUNT 1 |>.put F.ASSAY_TIME_SECONDS (s.get F.ID_OPERATING_S_SECONDS)
    |>.put F.ASSAY_STATUS_REJECTS 0 |>.put F.ASSAY_STATUS_LAST_RESULT (if degraded then 2 else 1)
  let s2 := ({ s1 with ssb := { s1.ssb with repeat_ := false } }).raise Ev.ASSAY_DONE [c, esr, energy]
  (s2.when degraded (State.raise Ev.BANK_DEGRADED [])).recomputeFreeboard

/-- EVALUATE (R269, R270): C = Q ÷ (V0 − V2), the assayed energy at V_FULL, and the decision. -/
def State.evaluateAssay (s : State) : State :=
  let dv := s.ssb.v0 - s.ssb.v2
  let c := if dv = 0 then 0 else s.ssb.charge / dv
  let esr := s.ssb.esrUohm
  let t := s.put F.ASSAY_C_UF_UF c |>.put F.ASSAY_ESR_UOHM_UOHM esr
  let e := t.eBank s.vFull
  let energy := if e.2 = 0 then 0 else e.1 / e.2
  let old := s.get F.ASSAY_EBANK_J_J
  if dv = 0 ∨ 1500 * s.bankField 32 4 < c ∨ esr = 0 ∨ s.ssb.rangedOver then s.rejectAssay 5
  else
    let low := s.isSet F.FB_STATUS_ASSAYED && decide (10 * e.1 < 8 * old * e.2)
    if !low then s.acceptAssay c esr energy false
    else if s.ssb.repeat_ then s.acceptAssay c esr energy true
    else ({ s with ssb := { s.ssb with repeat_ := true } }).put F.ASSAY_STATUS_LAST_RESULT 3

/-- IDLE entered: D_assay no longer governs, the claim is given up. -/
def State.endAssay (s : State) : State :=
  ((({ s with ssb := { s.ssb with dAssay := none } }).put F.ASSAY_STATUS_STATE 0).releaseClaim).sluice

end Sys2Proof.Machine
end

