-- ==== Sys2Proof/Machine/Ramp.lean ====
section
/-! DEFINITION. The RAMP command and its conditions (R539, R550), supervision of rails (R540), and the thresholds of temperature (R555 to
R559), shared by the power, clock and thermal commands. -/

namespace Sys2Proof.Machine

open Sys2Proof

/-! Temperature. -/

/-- THROTTLE_C as it is treated (R557). -/
def State.throttleC (s : State) : Nat :=
  let v := s.get F.TH_CFG_THROTTLE_C
  if 90 ≤ v ∧ v ≤ 105 then v else 100

/-- WARN_C as it is treated (R557). -/
def State.warnC (s : State) : Nat :=
  let v := s.get F.TH_CFG_WARN_C
  min (if 80 ≤ v ∧ v ≤ 100 then v else 95) s.throttleC

/-- GRACE_MS as it is treated (Table 16.11). -/
def State.graceMs (s : State) : Nat :=
  let v := s.get F.TH_GRACE_GRACE_MS
  if 10 ≤ v ∧ v ≤ 10000 then v else 500

/-- A temperature in 0.25 °C steps, of 16 bits, as a number. -/
def quarters (v : Nat) : Int := if v < 2 ^ 15 then (v : Int) else (v : Int) - 2 ^ 16

/-- A number of 0.25 °C steps as a 16-bit field. -/
def ofQuarters (t : Int) : Nat := (if t < 0 then t + 2 ^ 16 else t).toNat % 2 ^ 16

/-- The junction sensors read in the present mode (Table 16.6): those that are not DISABLED; the management tile's alone in WATCH. -/
def State.sensorsRead (s : State) : List Nat :=
  ((List.range 16).filter fun c => !s.isSet (F.TH_SENSOR_DISABLED c)).filter fun c =>
    s.mode.mainRails || decide (s.mode = .ramp) || (decide (s.mode = .watch) && (decide (c = 12) || decide (c = 13)))

/-- The reading of a sensor, in 0.25 °C steps. -/
def State.sensor (c : Nat) (s : State) : Int := quarters (s.get (F.TH_SENSOR_READING c))

/-- The hottest of some sensors: its index and reading. -/
def State.hottestOf (cs : List Nat) (s : State) : Option (Nat × Int) :=
  cs.foldl (fun (m : Option (Nat × Int)) c => match m with
    | none => some (c, s.sensor c)
    | some x => if x.2 < s.sensor c then some (c, s.sensor c) else some x) none

/-- The readings of the failed sensors replaced (R556). -/
def State.replaceReadings (s : State) : State :=
  let cs := s.sensorsRead
  let ok := cs.filter fun c => !s.isSet (F.TH_SENSOR_FAILED c)
  let base : Int := 4 * s.throttleC
  let v := match s.hottestOf ok with
    | some x => max base (x.2 + 40)
    | none => base
  s.forEach (cs.filter fun c => s.isSet (F.TH_SENSOR_FAILED c)) fun c a => a.put (F.TH_SENSOR_READING c) (ofQuarters v)

/-- FAST (R555): the mode, a JTAG test mode, or a sensor near a threshold. -/
def State.fastSampling (s : State) : Bool :=
  decide (s.mode = .bringup) || decide (s.mode = .restore) || s.rv.testMode ||
    s.sensorsRead.any fun c => [4 * (s.warnC : Int), 4 * (s.throttleC : Int), 440].any fun t =>
      decide (t - 20 ≤ s.sensor c) && decide (s.sensor c ≤ t + 20)

/-- The throttle condition sets (R559 step 1): grace 0 with n raised at once while a cap is still stepping down. -/
def State.throttleSets (s : State) : State :=
  let again := s.isSet F.TH_STATUS_ENFORCING
  let g := if again then 0 else s.graceMs
  let s1 := s.put F.TH_STATUS_REQUESTED 1 |>.bump F.TH_THROTTLE_COUNT_COUNT 1
  let s2 := if again then s1.put F.SLU_STATUS_THERM_STEP (min 7 (s1.get F.SLU_STATUS_THERM_STEP + 1)) else s1
  (((s2.recordAll 0x12 Ev.THERMAL_THROTTLE g).notice none 2 g 0).raiseThreshold Ev.THERMAL_THROTTLE []).noteLoad

/-- The throttle condition clears (R559 step 3). -/
def State.throttleClears (s : State) : State :=
  (((s.put F.TH_STATUS_REQUESTED 0).recordAll 0x13 Ev.THERMAL_THROTTLE 0).notice none 3 0 0 |>.endCond Ev.THERMAL_THROTTLE).noteLoad

/-- The thresholds of Table 16.9 applied to the hottest reading. -/
def State.judgeThermal (s : State) : State :=
  match s.hottestOf s.sensorsRead with
  | none => s
  | some (c, t) =>
    let s1 := s.put F.TH_STATUS_HOTTEST (ofQuarters t) |>.put F.TH_STATUS_HOTTEST_CH (16 + c)
    let w : Int := 4 * s1.warnC
    let h : Int := 4 * s1.throttleC
    let s2 := if w ≤ t ∧ !s1.isSet F.TH_STATUS_WARNING then ((s1.put F.TH_STATUS_WARNING 1).raiseThreshold Ev.THERMAL_WARNING []).noteLoad
      else if t < w - 12 ∧ s1.isSet F.TH_STATUS_WARNING then ((s1.put F.TH_STATUS_WARNING 0).endCond Ev.THERMAL_WARNING).noteLoad
      else s1
    let s3 := if h ≤ t ∧ !s2.isSet F.TH_STATUS_REQUESTED then s2.throttleSets
      else if t < h - 12 ∧ s2.isSet F.TH_STATUS_REQUESTED then s2.throttleClears else s2
    if 440 ≤ t ∧ !s3.isSet F.TH_STATUS_SHUTDOWN then
      ((s3.put F.TH_STATUS_SHUTDOWN 1).raiseThreshold Ev.THERMAL_SHUTDOWN [16 + c]).thermalShutdown
    else if t < 428 ∧ s3.isSet F.TH_STATUS_SHUTDOWN then (s3.put F.TH_STATUS_SHUTDOWN 0).endCond Ev.THERMAL_SHUTDOWN
    else s3

/-! The RAMP command (R539, R550). -/

/-- A management sensor reads below −40 °C. -/
def State.tooCold (s : State) : Bool := decide (s.sensor 12 < -160) || decide (s.sensor 13 < -160)

/-- The conditions of R550 but for the cold. -/
def State.rampAllowed (s : State) : Bool :=
  s.pw.holdoff && s.pw.configOk &&
    (!s.isSet F.PWR_STATUS_THERM_LATCH ||
      (decide (s.pw.latchAt + 60 ≤ s.get F.ID_OPERATING_S_SECONDS) && decide (s.sensor 12 < 4 * (s.warnC : Int)) &&
        decide (s.sensor 13 < 4 * (s.warnC : Int))))

/-- A PWR_CMD command refused (R550). -/
def State.cmdRefused (cmd : Nat) (s : State) : State := (s.put F.PWR_STATUS_LAST_CMD 2).raise Ev.CMD_REFUSED [cmd, s.mode.num]

/-- RAMP accepted: WAKE_LOCK and THERM_LATCH clear, and a ramp-up begins, or waits for PSEQ_GO. -/
def State.rampAccepted (s : State) : State :=
  let s1 := s.put F.PWR_STATUS_LAST_CMD 1 |>.put F.PWR_STATUS_WAKE_LOCK 0 |>.put F.PWR_STATUS_THERM_LATCH 0
  let s2 := ({ s1 with pw := { s1.pw with coldWait := false, second := false }
                       fc := { s1.fc with wakeCause := false } }).endCond Ev.THERMAL_COLD |>.settleLatch
  if s2.isSet F.PWR_STATUS_PSEQ_GO then s2.startRampUp
  else if s2.isSet F.PWR_STATUS_GO_WAIT then s2
  else ({ s2 with pw := { s2.pw with goTold := false } }).put F.PWR_STATUS_GO_WAIT 1

/-- The RAMP command in WATCH: refused, waiting for −40 °C, or accepted. -/
def State.rampCommand (s : State) : State :=
  if !s.rampAllowed then ({ s with pw := { s.pw with coldWait := false } }).cmdRefused 1
  else if s.tooCold then
    if s.pw.coldWait then s else ({ s with pw := { s.pw with coldWait := true } }).raise Ev.THERMAL_COLD []
  else s.rampAccepted

/-- AUTO_RAMP: the firmware writes RAMP as soon as the conditions hold (R550). -/
def State.autoRamp (s : State) : State :=
  if s.mode = .watch ∧ s.pw.firmware ∧ s.isSet F.PWR_CTRL_AUTO_RAMP ∧ !s.isSet F.PWR_STATUS_WAKE_LOCK ∧ !s.isSet F.PWR_STATUS_THERM_LATCH ∧
      !s.isSet F.PWR_STATUS_GO_WAIT ∧ s.rampAllowed ∧ !s.tooCold then s.rampAccepted
  else s

/-! Rails (R540). -/

/-- The margin of a rail as a number: `k` in four bits, two's complement. -/
def marginSteps (k : Nat) : Int := if k < 8 then (k : Int) else (k : Int) - 16

/-- A reading of `uv` µV lies in the window of rail `i` at a margin (R540). -/
def State.inRailWindow (i k : Nat) (uv : Nat) (s : State) : Bool :=
  let t : Int := (s.get (F.RAIL_CFG_NOMINAL_MV i) : Int) * 10 * (100 + marginSteps k)
  let under := s.get (F.RAIL_WINDOW_UV_PERMIL i)
  let past := s.get (F.RAIL_WINDOW_OV_PERMIL i)
  let u : Int := if under = 0 then 30 else under
  let o : Int := if past = 0 then 30 else past
  decide (t * (1000 - u) ≤ 1000 * (uv : Int)) && decide (1000 * (uv : Int) ≤ t * (1000 + o))

/-- How often in a row something has held: the count kept under a key, raised or cleared. -/
def State.runOf (key : Nat) (holds : Bool) (s : State) : State :=
  { s with pw := { s.pw with runs := Sparse.set 0 key (if holds then min 3 (Sparse.get 0 key s.pw.runs + 1) else 0) s.pw.runs } }

/-- A conversion of rail `i`'s sense channel (R537, R540): a RANGED one counts neither way. -/
def State.railConversion (i uv : Nat) (ranged : Bool) (s : State) : State :=
  if ranged then s
  else
    let old := Sparse.get (0, 0) i s.pw.moved
    let inside := s.inRailWindow i (s.get (F.RAIL_STATUS_MARGIN_APPLIED i)) uv ||
      (decide (s.now < old.2) && s.inRailWindow i old.1 uv)
    if s.mode = .ramp ∧ s.pw.ramp = 1 ∧ s.pw.rail = i ∧ s.pw.pg then
      { s with pw := { s.pw with inWindow := if inside then s.pw.inWindow + 1 else if s.pw.inWindow < 2 then 0 else s.pw.inWindow } }
    else if s.railState i = 2 ∨ s.railState i = 3 then
      let s1 := (s.runOf (2 + i) (!inside)).runOf (66 + i) inside
      if s1.railState i = 2 ∧ Sparse.get 0 (2 + i) s1.pw.runs = 3 then (s1.setRail i 3).raiseThreshold (Ev.RAIL_WINDOW i) []
      else if s1.railState i = 3 ∧ Sparse.get 0 (66 + i) s1.pw.runs = 3 then (s1.setRail i 2).endCond (Ev.RAIL_WINDOW i)
      else s1
    else s

/-- A conversion of VAUX in mV (R535). -/
def State.vauxConversion (mv : Nat) (ranged : Bool) (s : State) : State :=
  if ranged then s
  else
    let s1 := (s.runOf 14 (decide (mv < 2800))).runOf 78 (decide (2850 ≤ mv))
    let low := decide (Sparse.get 0 Ev.VAUX_LOW s1.fc.cond ≠ 0)
    if Sparse.get 0 14 s1.pw.runs = 3 ∧ !low then s1.raise Ev.VAUX_LOW []
    else if Sparse.get 0 78 s1.pw.runs = 3 ∧ low then s1.endCond Ev.VAUX_LOW
    else s1

/-- A rail's power-good asserted again for 1 ms: it is no longer lost, and out of window as long as RAIL_WINDOW's condition holds (R540). -/
def State.railBack (i : Nat) (s : State) : State :=
  if s.railState i = 4 then
    ({ s with pw := { s.pw with lost := s.pw.lost.filter fun u => decide (u ≠ i) } }).setRail i
      (if Sparse.get 0 (Ev.RAIL_WINDOW i) s.fc.cond = 0 then 2 else 3) |>.endCond (Ev.RAIL_PG_LOST i)
  else s

end Sys2Proof.Machine
end

