-- ==== Sys2Proof/Machine/Qps.lean ====
section
/-! DEFINITION. Queue pairs (R138 to R160): contexts, the serving of request packets, the answers of a data queue pair, the completion
SENDs of a command queue pair, and what a takeover adopts and releases. -/

namespace Sys2Proof.Machine

open Sys2Proof

/-! Contexts. -/

/-- The context a QPN names: its SIDE and INDEX (Table 4.2). -/
def qpKeyOf (qpn : Nat) : Nat := qpn / 2 ^ 23 % 2 * 2 ^ 20 + qpn % 2 ^ 20

/-- The QPN of a context's occupant. -/
def qpnOf (key : Nat) (p : Qp) : Nat := key / 2 ^ 20 * 2 ^ 23 + p.incarnation * 2 ^ 20 + key % 2 ^ 20

/-- A context. -/
def State.qp (key : Nat) (s : State) : Qp := Sparse.get {} key s.eth.qps

/-- The contexts in use. -/
def State.qpsInUse (s : State) : List (Nat × Qp) := s.eth.qps.filter fun e => decide (e.2.state ≠ 0)

/-- A context, set, with QP_ACTIVE. -/
def State.setQp (key : Nat) (p : Qp) (s : State) : State :=
  let s1 := { s with eth := { s.eth with qps := Sparse.set {} key p s.eth.qps } }
  s1.put F.RDMA_QP_STATUS_QP_ACTIVE s1.qpsInUse.length

/-- The occupant a QPN matches. -/
def State.qpOf? (qpn : Nat) (s : State) : Option Qp :=
  let p := s.qp (qpKeyOf qpn)
  if p.state ≠ 0 ∧ p.incarnation = qpn / 2 ^ 20 % 8 then some p else none

/-- The addresses of a side are answered here (R137, Table 4.7). -/
def State.answersFor (sd : Nat) (s : State) : Bool :=
  if sd = s.side then !s.eth.handed else s.eth.adopted

/-- The mode answers queue pairs at all: the serving modes, and QUARANTINE and the modes before service for addresses only. -/
def State.ethAnswers (s : State) : Bool := s.mode.mainRails && decide (s.mode ≠ .save)

/-- A frame of a queue pair sent to its host. -/
def State.qpSend (p : Qp) (via : Nat) (m : RdmaMsg) (s : State) : State := s.sendHost ⟨p.gid, via, m⟩

/-- The records of a queue that go out of the queue's state with its destruction: a command queue pair's queue is gone once nothing of it
is in progress. -/
def State.reapQueues (s : State) : State :=
  let gone := (s.queues.filter fun e => decide (2 ^ 24 ≤ e.1) && decide (e.2.state = 4) && e.2.ops.isEmpty).map (·.1)
  s.forEach gone fun q a => { a with queues := Sparse.erase q a.queues }

/-- A queue pair gone: its context free, its work in the engine dropped; a command queue pair's queue destroyed (R173). -/
def State.freeQp (key : Nat) (s : State) : State :=
  let p := s.qp key
  let s1 := if p.cmd then (s.destroyQueue (cqpKey (qpnOf key p))).reapQueues else s
  let s2 := { s1 with eth := { s1.eth with cache := s1.eth.cache.filter fun k => decide (k ≠ key)
                                           fetching := s1.eth.fetching.filter fun e => decide (e.1 ≠ key) } }
  s2.setQp key { incarnation := p.incarnation }

/-- A NAK that moves the queue pair to error: nothing more is answered on it, and the queue of a command queue pair is destroyed (R173). -/
def State.qpError (key via psn code : Nat) (s : State) : State :=
  let p := s.qp key
  let s1 := if p.cmd then (s.destroyQueue (cqpKey (qpnOf key p))).reapQueues else s
  (s1.setQp key { p with state := 4, msg := none, answers := [], sent := [] }).qpSend p via (.nak (qpnOf key p) psn code)

/-! Completion SENDs (R151). -/

/-- The room a record takes in a SEND: itself and its extension blocks (R193). -/
def CompRec.room (r : CompRec) : Nat := 1 + r.ext.length

/-- The records that go into one SEND: as many as 32 blocks hold. -/
def takeRecords : Nat → List CompRec → List CompRec
  | _, [] => []
  | room, r :: t => if r.room ≤ room then r :: takeRecords (room - r.room) t else []

/-- One completion SEND of the records that are ready. -/
def State.sendRecords (key : Nat) (s : State) : State :=
  let p := s.qp key
  let q := cqpKey (qpnOf key p)
  let k := s.queue q
  let rs := takeRecords 32 k.out
  if rs.isEmpty ∨ p.rnr ∨ (p.state ≠ 2 ∧ p.state ≠ 3) then s
  else
    let s1 := s.setQueue q { k with out := k.out.drop rs.length }
    let s2 := s1.setQp key { p with txPsn := (p.txPsn + 1) % 2 ^ 24, sent := p.sent ++ [(p.txPsn, rs)] }
    s2.qpSend p p.via (.send (qpnOf key p) p.txPsn rs)

/-- The completion SENDs of every command queue pair that the host has not acknowledged, sent again under their PSNs (R54). -/
def State.resendSends (s : State) : State :=
  s.forEach (s.qpsInUse.filter fun e => e.2.cmd) fun e a => a.forEach e.2.sent fun f b => b.qpSend e.2 e.2.via (.send (qpnOf e.1 e.2) f.1 f.2)

/-- SENDs of the command queue pairs for which 32 records are ready. -/
def State.sendFull (s : State) : State :=
  s.forEach (s.qpsInUse.filter fun e => e.2.cmd) fun e a =>
    let k := a.queue (cqpKey (qpnOf e.1 e.2))
    if 32 ≤ k.out.foldl (fun n r => n + r.room) 0 then a.sendRecords e.1 else a

/-- Descriptors of a command queue pair outstanding: from their fetch until the host has acknowledged their records (R150), and those that
wait in the receive path. -/
def State.cqpOutstanding (key : Nat) (s : State) : Nat :=
  let p := s.qp key
  let k := s.queue (cqpKey (qpnOf key p))
  let count (rs : List CompRec) : Nat := rs.foldl (fun n r => if r.notice then n else n + r.parts) 0
  k.outstanding + k.behind.length + k.heldRecs.foldl (fun n e => n + e.1) 0 + count k.out + p.sent.foldl (fun n e => n + count e.2) 0

/-! The context cache (R147, R148). -/

/-- The set of a context: its index modulo 1,024 (log entry 34). -/
def cacheSet (key : Nat) : Nat := key % 1024

/-- A context used: the most recently used of its set (R147). -/
def State.touchQp (key : Nat) (s : State) : State :=
  { s with eth := { s.eth with cache := (s.eth.cache.filter fun k => decide (k ≠ key)) ++ [key] } }

/-- A context brought into the cache: a set of 16 gives up one that is not pinned, and not its most recently used one while it holds another;
which of them pseudo-LRU names is a free value (log entry 21). A set of pinned contexts has no room, and the context is used from the spill
store. -/
def State.cacheQp (key : Nat) (s : State) : State :=
  if s.eth.cache.contains key then s.touchQp key
  else
    let mine := s.eth.cache.filter fun k => decide (cacheSet k = cacheSet key)
    let loose := mine.filter fun k => !(s.qp k).cmd
    let old := if 1 < loose.length then loose.dropLast else loose
    if mine.length < 16 then s.touchQp key
    else if old.isEmpty then s
    else
      let d := s.draw 4
      let out := old.getD (d.1 % old.length) key
      { d.2 with eth := { d.2.eth with cache := d.2.eth.cache.filter fun k => decide (k ≠ out) } }.touchQp key

/-! Request packets (R141 to R145). -/

/-- The distance from PSN `a` up to `b`. -/
def psnDiff (a b : Nat) : Nat := (b + 2 ^ 24 - a) % 2 ^ 24

/-- The segments of a range that stay within one line: (address, length). -/
def lineSegments (a len : Nat) : List (Nat × Nat) :=
  if len = 0 then []
  else (List.range ((a + len - 1) / 256 - a / 256 + 1)).map fun i =>
    let lo := max a ((a / 256 + i) * 256)
    (lo, min (a + len) ((a / 256 + i + 1) * 256) - lo)

/-- The bytes of a segment of a packet's payload, placed in its line. -/
def segmentData (a : Nat) (bytes : List Byte) (seg : Nat × Nat) : LineData :=
  BitVec.ofNat 2048 ((List.range seg.2).foldl (fun n i =>
    n + (bytes.getD (seg.1 - a + i) 0).toNat * 2 ^ (8 * (seg.1 % 256 + i))) 0)

/-- The bytes of a line a segment writes. -/
def segmentMask (seg : Nat × Nat) : BitVec 256 := BitVec.ofNat 256 ((2 ^ seg.2 - 1) * 2 ^ (seg.1 % 256))

/-- A packet's payload presented to the home agents of its lines. -/
def State.writeBytes (key psn : Nat) (b : Binding) (a : Nat) (bytes : List Byte) (sram : List Nat) (s : State) : State :=
  s.forEach (lineSegments a bytes.length) fun seg x =>
    x.presentWrite { src := .rdma key psn, tenant := b.tenant, line := seg.1 / 256, mask := segmentMask seg,
                     data := segmentData a bytes seg, poison := false, readOnly := b.readOnly, entered := x.now,
                     sram := sram.contains (seg.1 / 256) }

/-- A request refused at a check of Table 2.8: NAK remote access error (Table 2.9). -/
def State.rdmaRefused (key via psn chk va : Nat) (s : State) : State :=
  let p := s.qp key
  (s.refuse .rdma chk p.tenant via va).qpError key via psn 2

/-- The packets that the responses to a READ of `len` bytes take. -/
def readPackets (mtu len : Nat) : Nat := max 1 (ceilDiv len mtu)

/-- A WRITE packet in sequence. -/
def State.rdmaWrite (p : Qp) (k : RdmaPkt) (first last : Bool) (va rkey len : Nat) (bytes : List Byte) (s : State) : State :=
  let key := qpKeyOf k.qpn
  let next (x : Nat) (a : State) : State := a.setQp key { a.qp key with psn := (x + 1) % 2 ^ 24, nakSent := false }
  let b := s.pkeyBinding p.pkey
  if first = p.msg.isSome then s.qpError key k.link k.psn 1
  else if s.fenced ∨ s.stopping then s.qpError key k.link k.psn 3
  else
    let start := match p.msg with
      | some m => m
      | none => (va, len, k.psn)
    let chk := if first then s.check b va len true (some rkey) else 0
    if chk ≠ 0 then s.rdmaRefused key k.link k.psn chk va
    else if start.2.1 < bytes.length ∨ (last ∧ bytes.length ≠ start.2.1) ∨ 2 ^ 31 < len then s.qpError key k.link k.psn 1
    else
      let ans : RdmaAns := { kind := 0, psn := start.2.2, last := k.psn, addr := start.1, len := start.2.1, open_ := !last, via := k.link }
      let q := s.qp key
      let answers := (q.answers.filter fun e => decide (e.psn ≠ start.2.2)) ++ [ans]
      let s1 := s.setQp key { q with answers := answers, wroteAt := s.now + 1,
                                     msg := if last then none else some (start.1 + bytes.length, start.2.1 - bytes.length, start.2.2) }
      let bind : Binding := b.getD ⟨p.tenant, false, false⟩
      next k.psn (s1.writeBytes key start.2.2 bind start.1 bytes k.sram)

/-- A READ in sequence (R144). -/
def State.rdmaRead (p : Qp) (k : RdmaPkt) (va rkey len : Nat) (s : State) : State :=
  let key := qpKeyOf k.qpn
  let chk := s.check (s.pkeyBinding p.pkey) va len false (some rkey)
  if 2 ^ 31 < len then s.qpError key k.link k.psn 1
  else if chk ≠ 0 then s.rdmaRefused key k.link k.psn chk va
  else
    let n := readPackets p.mtu len
    let ans : RdmaAns := { kind := 1, psn := k.psn, last := (k.psn + n - 1) % 2 ^ 24, addr := va, len := len, via := k.link }
    let q := s.qp key
    let s1 := s.setQp key { q with psn := (k.psn + n) % 2 ^ 24, nakSent := false, answers := q.answers ++ [ans] }
    s1.forEach (lineSegments va len) fun seg a =>
      a.presentRead { src := .rdma key k.psn, tenant := p.tenant, addr := seg.1, len := seg.2, entered := a.now,
                      sram := k.sram.contains (lineOf seg.1) }

/-- An atomic in sequence (R145): presented to its line's home agent, which reads and writes at its acceptance. -/
def State.rdmaAtomic (p : Qp) (k : RdmaPkt) (swap : Bool) (va rkey add compare : Nat) (s : State) : State :=
  let key := qpKeyOf k.qpn
  let b := s.pkeyBinding p.pkey
  let chk := s.check b va 8 true (some rkey)
  if va % 8 ≠ 0 then s.qpError key k.link k.psn 1
  else if s.fenced ∨ s.stopping then s.qpError key k.link k.psn 3
  else if chk ≠ 0 then s.rdmaRefused key k.link k.psn chk va
  else
    let q := s.qp key
    let ans : RdmaAns := { kind := 2, psn := k.psn, last := k.psn, addr := va, len := 8, via := k.link }
    let s1 := s.setQp key { q with psn := (k.psn + 1) % 2 ^ 24, nakSent := false, answers := q.answers ++ [ans], wroteAt := s.now + 1 }
    let bind : Binding := b.getD ⟨p.tenant, false, false⟩
    s1.presentWrite { src := .rdma key k.psn, tenant := bind.tenant, line := lineOf va, mask := segmentMask (va, 8), data := 0, poison := false,
                      readOnly := bind.readOnly, entered := s1.now, atomic := some (swap, add, compare, va),
                      sram := k.sram.contains (lineOf va) }

/-- A SEND in sequence on a command queue pair (R150, R193): its descriptors fetched in order, as far as a WAIT or a stop lets them. -/
def State.cqpSend (p : Qp) (k : RdmaPkt) (len : Nat) (ds : List (BitVec 512)) (s : State) : State :=
  let key := qpKeyOf k.qpn
  let q := cqpKey k.qpn
  if len = 0 ∨ len % 64 ≠ 0 ∨ 1024 < len ∨ ds.length * 64 ≠ len then s.qpError key k.link k.psn 1
  else if p.depth < s.cqpOutstanding key + ds.length then s.qpSend p k.link (.nak k.qpn k.psn 4)
  else
    let s1 := s.setQp key { p with psn := (k.psn + 1) % 2 ^ 24, nakSent := false }
    let u := s1.queue q
    let r := if u.behind.isEmpty then s1.fetchAll q ds else (s1, ds)
    let u1 := r.1.queue q
    (r.1.setQueue q { u1 with behind := u1.behind ++ r.2 }).qpSend p k.link (.ack k.qpn k.psn 0)

/-- An opcode that Table 4.5 does not list, on this kind of queue pair: a READ, WRITE or atomic on a command queue pair and a SEND on a data
queue pair are such (log entry 133). -/
def State.unsupported (k : RdmaPkt) (s : State) : State :=
  (s.qpError (qpKeyOf k.qpn) k.link k.psn 1).raiseLimited Ev.ETH_PROTOCOL_UNSUPPORTED k.link []

/-- A duplicate of a request already taken: a WRITE or SEND is acknowledged again, a READ read again, and an atomic answered from the
record of the last 16; an atomic that the record does not hold is dropped. -/
def State.duplicatePacket (p : Qp) (k : RdmaPkt) (s : State) : State :=
  match k.kind with
  | .read va rkey len =>
    let s1 := s.rdmaRead p k va rkey len
    s1.setQp (qpKeyOf k.qpn) { s1.qp (qpKeyOf k.qpn) with psn := p.psn }
  | .atomic _ _ _ _ _ =>
    match p.atomics.find? fun e => decide (e.1 = k.psn) with
    | some e => s.qpSend p k.link (.atomicResp k.qpn k.psn e.2 0)
    | none => s
  | _ => if p.answers.any fun a => decide (a.kind = 0) then s else s.qpSend p k.link (.ack k.qpn ((p.psn + 2 ^ 24 - 1) % 2 ^ 24) 0)

/-- The CNP that a packet marked CE asks for (R155). -/
def State.answerCe (k : RdmaPkt) (s : State) : State :=
  let key := qpKeyOf k.qpn
  let p := s.qp key
  let us := let v := s.get F.RDMA_CNP_CFG_CNP_INTERVAL_US; if v = 0 then 50 else v
  if !k.ce then s
  else
    let s1 := s.bump (F.RDMA_LINK_CE_RX_COUNT k.link) 1
    if p.cnpAt ≠ 0 ∧ s.now < p.cnpAt - 1 + usFc us then s1
    else (s1.setQp key { p with cnpAt := s.now + 1 }).qpSend p k.link (.cnp k.qpn)

/-- A request packet whose context is at hand, served (R141 to R145, R160); a queue pair between REP and RTU serves as well (log entry 134). -/
def State.servePacket (k : RdmaPkt) (s : State) : State :=
  let key := qpKeyOf k.qpn
  match s.qpOf? k.qpn with
  | none => s
  | some p0 =>
    if p0.state = 4 then s
    else
      let s1 := s.setQp key (if p0.state = 3 then { p0 with state := 2, psn := k.psn, via := k.link } else { p0 with via := k.link })
      let s2 := s1.answerCe k
      let p := s2.qp key
      let d := psnDiff p.psn k.psn
      if d ≠ 0 ∧ d < 2 ^ 23 then
        if p.nakSent then s2 else (s2.setQp key { p with nakSent := true }).qpSend p k.link (.nak k.qpn p.psn 0)
      else if d ≠ 0 then s2.duplicatePacket p k
      else match k.kind with
        | .read va rkey len => if p.cmd then s2.unsupported k else s2.rdmaRead p k va rkey len
        | .write f l va rkey len bytes => if p.cmd then s2.unsupported k else s2.rdmaWrite p k f l va rkey len bytes
        | .atomic sw va rkey a c => if p.cmd then s2.unsupported k else s2.rdmaAtomic p k sw va rkey a c
        | .send len ds => if p.cmd then s2.cqpSend p k len ds else s2.unsupported k
        | .unsupported => s2.unsupported k

/-- A fetch of a context is in flight for a packet of a port (R148). -/
def State.fetchesOn (port : Nat) (s : State) : Nat :=
  ((s.eth.fetching.foldl (fun (l : List (Nat × Nat)) e => if l.any fun x => decide (x.1 = e.1) then l else l ++ [(e.1, e.2.link / 8)]) []).filter
    fun x => decide (x.2 = port)).length

/-- A packet whose context is not in the cache: it waits for the fetch, which is one of at most 64 of its port, or for room among them
(R148). -/
def State.missQp (key : Nat) (k : RdmaPkt) (s : State) : State :=
  if (s.eth.behind.any fun e => decide (qpKeyOf e.qpn = key)) ∨
      (!(s.eth.fetching.any fun e => decide (e.1 = key)) ∧ 64 ≤ s.fetchesOn (k.link / 8)) then
    { s with eth := { s.eth with behind := s.eth.behind ++ [k] } }
  else { s with eth := { s.eth with fetching := s.eth.fetching ++ [(key, k)] } }

/-- The packets held for room among the fetches looked at again, in their order. -/
def State.retryMisses (s : State) : State :=
  ({ s with eth := { s.eth with behind := [] } }).forEach s.eth.behind fun k a =>
    let key := qpKeyOf k.qpn
    if a.eth.cache.contains key ∧ !(a.eth.fetching.any fun e => decide (e.1 = key)) ∧ !(a.eth.behind.any fun e => decide (qpKeyOf e.qpn = key))
    then a.servePacket k else a.missQp key k

/-- A request packet that arrived: dropped where the mode serves no queue pair (Table 4.7), refused for an unknown QPN of the partner
(R160), dropped for a wrong P_Key (R142), held while its context is fetched (R148), else served. -/
def State.takePacket (k : RdmaPkt) (s : State) : State :=
  let key := qpKeyOf k.qpn
  let sd := key / 2 ^ 20
  if !s.mode.serving ∨ !s.answersFor sd then s
  else if s.cw.withheld ∨ (s.cw.sideFence ∧ sd ≠ s.side) then { s with eth := { s.eth with parked := s.eth.parked ++ [k] } }
  else match s.qpOf? k.qpn with
    | none => if sd = s.side then s else s.sendHost ⟨k.gid, k.link, .nak k.qpn k.psn 1⟩
    | some p =>
      if k.pkey ≠ p.pkey then
        (s.bump (F.RDMA_LINK_PKEY_VIOLATIONS_COUNT k.link) 1).raiseLimited Ev.PKEY_VIOLATION k.link []
      else
        let s1 := { s with eth := { s.eth with lookups := s.eth.lookups + 1 } }
        let waiting := (s1.eth.fetching.any fun e => decide (e.1 = key)) || s1.eth.behind.any fun e => decide (qpKeyOf e.qpn = key)
        if s1.eth.cache.contains key ∧ !waiting then ((s1.bump F.RDMA_QP_HITS_COUNT 1).touchQp key).servePacket k
        else
          let s2 := (s1.bump F.RDMA_QP_MISSES_COUNT 1)
          { s2 with eth := { s2.eth with missed := s2.eth.missed + 1 } }.missQp key k

/-- The packets a cutover held, taken (R435). -/
def State.takeParked (s : State) : State :=
  ({ s with eth := { s.eth with parked := [] } }).forEach s.eth.parked fun k a => a.takePacket k

/-! Answers. -/

/-- A message's lines are all accepted, merged and complete. -/
def State.rdmaLinesDone (key psn : Nat) (s : State) : Bool :=
  let mine (x : Src) : Bool := decide (x = .rdma key psn)
  !(s.writes.any fun w => mine w.src) && !(s.merges.any fun m => mine m.src) && !(s.ingress.any fun (r : Request) => mine r.src)

/-- The DATA_PATH notice of R143 to the command queue pairs of the tenant from the queue pair's source GID. -/
def State.dataPathNotice (key psn status : Nat) (s : State) : State :=
  let p := s.qp key
  let qs := (s.queues.filter fun e => decide (2 ^ 24 ≤ e.1) && decide (e.2.gid = p.gid) && decide (e.2.tenant = p.tenant)).map (·.1)
  s.forEach qs fun q a => a.noticeTo q 6 status (qpnOf key p) psn

/-- An answer replaced by NAK remote operational error, or by NAK remote access error for a refusal at a home agent's check. -/
def State.answerNak (key psn status : Nat) (s : State) : State :=
  let data := [St.INTEGRITY, St.POISONED, St.STALL_CEILING].contains status
  let s1 := s.qpError key (((s.qp key).answers.headD { kind := 0, psn := 0, last := 0, addr := 0, len := 0 }).via) psn (if data ∨ status = St.FENCED then 3 else 2)
  if data then (s1.dataPathNotice key psn status).raise Ev.DATA_PATH_REFUSED [] else s1

/-- The status a message's lines left. -/
def State.rdmaFailed (key psn : Nat) (s : State) : Nat :=
  ((s.failed.find? fun e => decide (e.1 = Src.rdma key psn)).map (·.2)).getD 0

/-- What this step's reads gave moved into the answers they belong to. -/
def State.collectReads (s : State) : State :=
  let s1 := { s with eth := { s.eth with got := [] } }
  s1.forEach s.eth.got fun (e : Nat × Nat × Nat × Nat × LineData) a =>
    let p := a.qp e.1
    a.setQp e.1 { p with answers := p.answers.map fun x =>
      if x.kind = 1 ∧ x.psn = e.2.1 then { x with parts := x.parts ++ [(e.2.2.1, e.2.2.2.1, e.2.2.2.2)] } else x }

/-- Byte `i` of a READ's range, from its parts. -/
def RdmaAns.byteAt (x : RdmaAns) (a : Nat) : Byte :=
  match x.parts.find? fun e => decide (e.1 / 256 = a / 256) with
  | some e => e.2.2.extractLsb' (8 * (a - e.1)) 8
  | none => 0

/-- The status that the acknowledgement of a WRITE or an atomic's response carries (R24, R26, R52). -/
def State.answerStatus (x : RdmaAns) (s : State) : Nat := if s.fenced then St.FENCED else if x.local_ then St.LOCAL_ONLY else St.SUCCESS

/-- The responses of a READ's first `n` packets. -/
def State.readResponses (key : Nat) (p : Qp) (x : RdmaAns) (n : Nat) (s : State) : State :=
  s.forEach (List.range n) fun i a =>
    let lo := i * p.mtu
    let bytes := (List.range (min p.mtu (x.len - lo))).map fun j => x.byteAt (x.addr + lo + j)
    a.qpSend p x.via (.readResp (qpnOf key p) ((x.psn + i) % 2 ^ 24) bytes)

/-- The answers at the head of a queue pair sent, as far as they are ready; the acknowledgement of a WRITE is RDMA_WRITE_ACK's. -/
def State.sendAnswers (fuel key : Nat) (s : State) : State :=
  match fuel with
  | 0 => s
  | f + 1 =>
    let p := s.qp key
    match p.answers with
    | [] => s
    | x :: rest =>
      let pop (a : State) : State := a.setQp key { a.qp key with answers := rest }
      match x.kind with
      | 1 =>
        let segs := lineSegments x.addr x.len
        let status (seg : Nat × Nat) : Option Nat := (x.parts.find? fun e => decide (e.1 = seg.1)).map fun e => e.2.1
        let ready := segs.takeWhile fun g => decide (status g = some 0)
        match segs.drop ready.length with
        | [] => State.sendAnswers f key (pop (s.readResponses key p x (readPackets p.mtu x.len)))
        | g :: _ =>
          match status g with
          | none => s
          | some st =>
            let n := (g.1 - x.addr) / p.mtu
            (s.readResponses key p x n).answerNak key ((x.psn + n) % 2 ^ 24) st
      | 2 =>
        if x.status ≠ 0 then s.answerNak key x.psn x.status
        else if s.rdmaLinesDone key x.psn then
          let st := s.rdmaFailed key x.psn
          if st ≠ 0 then ({ s with failed := s.failed.filter fun e => decide (e.1 ≠ Src.rdma key x.psn) }).answerNak key x.psn st
          else State.sendAnswers f key ((pop s).qpSend p x.via (.atomicResp (qpnOf key p) x.psn x.value (s.answerStatus x)))
        else s
      | _ => s

/-- Every queue pair's answers that are ready, sent. -/
def State.rdmaAnswers (s : State) : State :=
  let s1 := s.collectReads
  s1.forEach (s1.qpsInUse.filter fun e => !e.2.answers.isEmpty) fun e a => a.sendAnswers e.2.answers.length e.1

/-! Takeover (R160). -/

/-- The partner's service addresses are answered here. -/
def State.adoptAddresses (s : State) : State :=
  ({ s with eth := { s.eth with adopted := true } }).raise Ev.ADDRESS_ADOPTED []

/-- A side's queue pairs released without a DREQ. -/
def State.releaseQps (sd : Nat) (s : State) : State :=
  s.forEach (s.qpsInUse.filter fun e => decide (e.1 / 2 ^ 20 = sd)) fun e a => a.freeQp e.1

/-- The partner's addresses released (R160). -/
def State.releaseAddresses (s : State) : State :=
  if s.eth.adopted then
    (({ s with eth := { s.eth with adopted := false } }).releaseQps (1 - s.side)).raise Ev.ADDRESS_RELEASED []
  else s

end Sys2Proof.Machine
end

