-- ==== Sys2Proof/Machine/Causeway.lean ====
section
/-! DEFINITION. The Causeway's shared operations (R408 to R418, R437, R438): paths, mirror frames as they are received and delivered,
the witness requests, and the copy of a catch-up. -/

namespace Sys2Proof.Machine

open Sys2Proof

/-! Frames out. -/

/-- The paths that are UP. -/
def State.pathsUp (s : State) : List Nat := (List.range 2).filter fun p => decide (s.pathState p = 2)

/-- A mirror frame sent again on every path that is UP (R414). -/
def State.resend (seq : Nat) (s : State) : State :=
  match s.cw.unacked.find? fun (f : Nat × CwBody) => decide (f.1 = seq ∧ seq ≤ s.cw.sentUpTo) with
  | some f => s.forEach s.pathsUp fun p a => (a.emit (.cwFrame f.1 f.2)).bump (F.CW_PATH_RETRANSMITS_COUNT p) 1
  | none => s

/-- This controller serves the partner's side (Table 12.6). -/
def State.servingPartner (s : State) : Bool := decide (s.mode = .takeover)

/-- A CONTROL frame on a path (Table 12.6). -/
def State.sendControl (p : Nat) (s : State) : State :=
  s.emit (.cwControl p (s.get F.CW_RX_SEQ_SEQ) s.cw.nak (s.cw.granted % 2 ^ 32) s.mode.num (s.isSet F.CW_STATUS_FENCE_CAUSE) s.servingPartner
    (s.isSet F.CW_STATUS_RELEASE_READY) s.mEff (s.get F.CW_PAIR_EPOCH_EPOCH))

/-- The controller's serial as one number. -/
def State.serial (s : State) : Nat := (List.range 4).foldl (fun n j => n + s.get (F.ID_SERIAL_SERIAL j) * 2 ^ (32 * j)) 0

/-- The HELLO this controller sends (Table 12.7); `echo` says that PEER_NONCE is filled in. -/
def State.helloOut (s : State) : Hello :=
  { sigOk := true, keyId := s.get F.ID_DEVICE_KEY_ID_ID, side := s.side, serial := s.serial, pairId := s.get F.CW_PAIR_ID_ID,
    epoch := s.get F.CW_PAIR_EPOCH_EPOCH, temper := s.get F.ID_TEMPER_TEMPER, temperMax := s.get F.ID_TEMPER_TEMPER_MAX,
    ownAuth := s.cw.ownAuth, mirrorValid := s.cw.partnerMirror, mapValid := s.isSet F.CW_STATUS_MAP_VALID, unsealed := s.cw.unsealed,
    serving := s.servingPartner, groupId := s.get F.FL_GROUP_ID_ID, echo := s.cw.helloHeard, nonce := s.cw.nonce,
    eph := (Config.p384Public s.cw.eph).toNat, mapBase := s.cw.mapBase, map := s.cw.mapSet }

/-- HELLO sent on each path that is UP (R418). -/
def State.sendHellos (s : State) : State := s.forEach s.pathsUp fun p a => a.emit (.cwHello p a.helloOut)

/-- A HELLO exchange begins, with a NONCE and an ephemeral key of its own (R418). -/
def State.startHello (s : State) : State :=
  if s.pathsUp.isEmpty then s
  else
    let n := s.drawWords 4
    let e := n.2.drawWords 6
    ({ e.2 with cw := { e.2.cw with hello := true, helloHeard := false, nonce := n.1, eph := e.1 } }).sendHellos

/-! The witness link (R420 to R423). -/

/-- CXL and Ethernet links that are up: HEALTH of a witness frame (Table 12.9). -/
def State.health (s : State) : Nat :=
  ((List.range 16).filter fun l => s.linkUp l).length + ((List.range 16).filter fun l => s.ethUp l).length

/-- The 24 B of a controller's witness frame that its MAC covers (Table 12.9). -/
def witnessBytes (typ flags side mode epoch session counter health mEff sinceTwin reason : Nat) : List Nat :=
  leBytes 24 (fieldAt 0 1 typ + fieldAt 1 1 (flags % 16) + fieldAt 2 1 side + fieldAt 3 1 mode + fieldAt 4 4 epoch + fieldAt 8 4 session +
    fieldAt 12 4 counter + fieldAt 16 1 health + fieldAt 17 1 mEff + fieldAt 18 2 sinceTwin + fieldAt 20 1 reason)

/-- A controller's witness frame with its MAC under `key` (R420). -/
def witOut (key typ flags side mode epoch session counter health mEff sinceTwin reason : Nat) : Output :=
  .witFrame typ flags side mode epoch session counter health mEff sinceTwin reason
    (witnessMac key (witnessBytes typ flags side mode epoch session counter health mEff sinceTwin reason))

/-- WITNESS_KEY, as CW_WIT_KEY holds it (R420). -/
def State.witnessKey (s : State) : Nat := (List.range 8).foldl (fun n j => n + s.get (F.CW_WIT_KEY_KEY j) * 2 ^ (32 * j)) 0

/-- A frame to the witness under the next COUNTER, a SESSION being drawn for the first (Table 12.9). -/
def State.witSend (typ reason : Nat) (s : State) : State :=
  let s1 := if s.wit.started then s
    else
      let d := s.draw 32
      { d.2 with wit := { d.2.wit with started := true, mySession := d.1, myCounter := 0, sent := [] } }
  let n := s1.wit.myCounter + 1
  let recent := s1.wit.sent.filter fun (e : Nat × Nat) => decide (s1.now ≤ e.2 + msFc 50)
  let fl := s1.get F.CW_STATUS_TWIN_CONTACT + flag (s1.isSet F.CW_STATUS_FENCE_CAUSE) * 2 + flag s1.servingPartner * 4 +
    s1.get F.CW_STATUS_RELEASE_READY * 8
  ({ s1 with wit := { s1.wit with myCounter := n, sent := recent ++ [(n, s1.now)],
                                  reqCounter := if typ = 2 then n else s1.wit.reqCounter } }).emit
    (witOut s1.witnessKey typ fl s1.side s1.mode.num (s1.get F.CW_PAIR_EPOCH_EPOCH) s1.wit.mySession n s1.health s1.mEff
      (min 65535 ((s1.now - s1.cw.twinAt) / msFc 1)) reason)

/-- A request that stands from now on (Table 12.10): REASON 1 TWIN_LOST, 2 RELEASE, 3 PARTNER_QUARANTINE. Its first frame is sent at once. -/
def State.request (reason : Nat) (s : State) : State :=
  if s.wit.reason = reason then s
  else
    let sd := if reason = 2 ∧ !s.mode.serving then s.side else 1 - s.side
    let s1 := ({ s with wit := { s.wit with reason := reason, reqSide := sd } }).put F.CW_WIT_STATUS_REQUESTING 1
    (s1.witSend 2 reason).raise Ev.TAKEOVER_REQUESTED [reason]

/-- The standing request of a REASON ends with its cause. -/
def State.endRequest (reason : Nat) (s : State) : State :=
  if reason = 0 ∨ s.wit.reason ≠ reason then s
  else ({ s with wit := { s.wit with reason := 0 } }).put F.CW_WIT_STATUS_REQUESTING 0

/-! Contact (R423). -/

/-- Twin contact is lost. A controller without a pair record has no twin to lose. -/
def State.twinGone (s : State) : Bool := s.cw.paired && !s.isSet F.CW_STATUS_TWIN_CONTACT

/-- A valid Causeway frame arrived (R423). -/
def State.twinHeard (s : State) : State :=
  let s0 := { s with cw := { s.cw with twinAt := s.now } }
  if s0.isSet F.CW_STATUS_TWIN_CONTACT then s0
  else
    let s1 := (({ s0 with cw := { s0.cw with twinHad := true } }).put F.CW_STATUS_TWIN_CONTACT 1).endRequest 1
    if s0.cw.twinHad then (s1.raise Ev.TWIN_CONTACT []).endCond Ev.TWIN_LOST else s1

/-- A copy in either direction, a drain and a handback given up: what stands of them when the twin is gone, or service changes hands. -/
def State.dropCopy (s : State) : State :=
  let st := s.get F.CW_CATCHUP_STATUS_STATE
  let s1 := { s with cw := { s.cw with copyLeft := [], copyDone := false, doneSeq := 0, copySeqs := [], receiving := false, partnerDone := false,
                                       partnerDrain := false, cutover := 0, withheld := false, sideFence := false, drainSeq := 0 } }
  let s2 := (s1.put F.CW_CATCHUP_STATUS_STATE (if 1 ≤ st ∧ st ≤ 3 then 4 else st) |>.put F.CW_CATCHUP_LEFT_EXTENTS 0).put
    F.CW_STATUS_RELEASE_READY 0
  s2.endFence 4

/-- PAIRED, RESYNC or DRAIN goes on alone (Table 12.12). -/
def State.goAlone (s : State) : State :=
  ((s.beginMap.setMode .solo).dropCopy.takeParked).request 1

/-- Twin contact is lost (R418, R423, Table 12.12). -/
def State.loseTwin (s : State) : State :=
  if !s.isSet F.CW_STATUS_TWIN_CONTACT then s
  else
    let s1 := ((s.put F.CW_STATUS_TWIN_CONTACT 0).raise Ev.TWIN_LOST []).dropLinkKey
    let wit := s1.isSet F.CW_STATUS_WITNESS_CONTACT
    match s1.mode with
    | .paired | .resync | .drain => if wit then s1.goAlone else s1.setFence 1
    | .takeover => (s1.dropCopy).when (!wit) (State.setFence 1)
    | .solo => s1.when (!wit) (State.setFence 1)
    | _ => { s1 with cw := { s1.cw with receiving := false } }

/-- A valid witness frame arrived (R423). -/
def State.witnessHeard (s : State) : State :=
  let s0 := { s with wit := { s.wit with heardAt := s.now } }
  if s0.isSet F.CW_STATUS_WITNESS_CONTACT then s0
  else
    let s1 := ({ s0 with wit := { s0.wit with had := true } }).put F.CW_STATUS_WITNESS_CONTACT 1
    if s0.wit.had then (s1.raise Ev.WITNESS_CONTACT []).endCond Ev.WITNESS_LOST else s1

/-- Witness contact is lost (R423, R424). -/
def State.loseWitness (s : State) : State :=
  if !s.isSet F.CW_STATUS_WITNESS_CONTACT then s
  else
    let s1 := (s.put F.CW_STATUS_WITNESS_CONTACT 0).raise Ev.WITNESS_LOST []
    s1.when (s1.mode.serving && s1.twinGone) (State.setFence 1)

/-! Frames in (R413 to R417). -/

/-- An authentication failure on a path (R409, R414): more than 16 within 1 s take it out of service. -/
def State.authFailed (p : Nat) (s : State) : State :=
  let k := s.cwPath p
  let ts := (k.auths.filter fun t => decide (s.now < t + secFc 1)) ++ [s.now]
  let s1 := ((s.setCwPath p { k with auths := ts }).bump (F.CW_PATH_AUTH_FAILS_COUNT p) 1).raiseLimited Ev.FRAME_AUTH_FAILED p []
  if 16 < ts.length then s1.pathLeaves p 4 else s1

/-- The key epoch before the present one. -/
def State.previousEpoch (s : State) : Nat := if s.cw.keyEpoch ≤ 1 then 255 else s.cw.keyEpoch - 1

/-- A frame's GCM tag holds under a link key that is accepted (R410, R418). -/
def State.frameAuth (m : MirrorRx) (s : State) : Bool :=
  s.cw.linkKey && m.tag && (decide (m.epoch = s.cw.keyEpoch) || (s.cw.oldEpoch && decide (m.epoch = s.previousEpoch)))

/-- One line entry applied (R413): its version decides for a background entry; on a side this controller serves it repairs a page
(R401), whose newer lines it leaves alone. -/
def State.applyEntry (bg : Bool) (ver : Nat) (e : LineEntry) (s : State) : State :=
  let m := s.lineMeta e.line
  let repair := bg && s.serves (sideOf (e.line * 256))
  if (bg ∧ !repair ∧ ver < m.ver) ∨ (repair ∧ m.dirty) then s
  else
    let n : LineMeta := { gen := e.gen, poison := e.poison, psrc := e.psrc, restored := decide (e.flags % 2 = 1),
                          repaired := repair || decide (e.flags / 2 % 2 = 1), rotated := decide (e.flags / 4 % 2 = 1), dirty := true,
                          pend := m.pend, ver := if repair then m.ver else max ver m.ver }
    let s1 := (((s.grant e.line (homeOf e.line % 4)).storeLine e.line fullMask e.data).setMeta e.line n).pageWrite e.line
    (({ s1 with front := Sparse.erase e.line s1.front, victims := s1.victims.filter fun l => decide (l ≠ e.line) }).mapNote e.line).notePeak.charge (accountAt 4096 0)

/-- The entries of a frame applied in their order. -/
def State.applyEntries (bg : Bool) (seq : Nat) (es : List LineEntry) (s : State) : State :=
  let s1 := s.forEach (es.zipIdx) fun (e : LineEntry × Nat) a => a.applyEntry bg (seq * 32 + e.2) e.1
  { s1 with cw := { s1.cw with inbound := s1.cw.inbound + es.length } }

/-- A page takes the UNMAP or LOST that a PAGE_MARK gives it (R438): journalled under R253. -/
def State.markPage (addr : Nat) (lost : Bool) (s : State) : State :=
  let p := addr / 16384
  let s1 := s.setTrans p (if lost then 3 else 2) 0
  let s2 := s1.forEach (pageLines p) fun l a =>
    if lost then (a.setMeta l { gen := a.writeGen l, poison := true, psrc := 2 }).mapNote l else ((a.setMeta l {}).zeroLine l).mapNote l
  { s2 with cul := { s2.cul with pages := Sparse.erase p s2.cul.pages, fills := s2.cul.fills.filter fun f => decide (f.page ≠ p) } }

/-- A region record that a catch-up brings: one that has moved gives up what it held first. -/
def State.copiedRegion (idx : Nat) (r : Region) (s : State) : State :=
  let o := s.region idx
  if o = { r with guestGranted := o.guestGranted } then s
  else if o.state ≠ 0 ∧ r.state ≠ 0 ∧ (o.baseSlot ≠ r.baseSlot ∨ o.sizeM1 ≠ r.sizeM1 ∨ o.tenant ≠ r.tenant) then
    (s.applyRegion idx {}).applyRegion idx r
  else s.applyRegion idx r

/-- The pair temper changed (R442): the record and the present temper. -/
def State.setTemper (t : Nat) (s : State) : State :=
  if s.get F.CW_PAIR_TEMPER_TEMPER = t ∧ s.get F.ID_TEMPER_TEMPER = t then s
  else (s.put F.CW_PAIR_TEMPER_TEMPER t |>.put F.ID_TEMPER_TEMPER t).raise Ev.TEMPER_ADOPTED []

/-- A temper change that TEMPER_SET accepted takes effect (R571). -/
def State.changeTemper (t : Nat) (s : State) : State :=
  let old := s.get F.ID_TEMPER_TEMPER
  let s1 := if s.cw.paired then s.put F.CW_PAIR_TEMPER_TEMPER t else s
  (s1.put F.ID_TEMPER_TEMPER t).raise Ev.TEMPER_CHANGED [old, t]

/-- UNPAIR carried out (R441): the pair record erased, every page of the partner's side journalled as UNMAP and its service region
released, SOLO entered; a controller without a pair record presents TEMPER_MAX (R570). -/
def State.unpair (s : State) : State :=
  let other := 1 - s.side
  let i := recIdx other 0
  let s1 := if (s.region i).state = 0 then s else ((s.releasePages i (s.region i)).setRegion i {}).raise Ev.REGION_DETACHED []
  let left := (s1.cul.trans.filter fun (e : Nat × Trans) => decide (e.2.st ≠ 0) && decide (sideOf (e.1 * 16384) = other)).map (·.1)
  let s2 := (s1.forEach left fun p a => a.setTrans p 2 0).dropLinkKey.dropCopy
  let s3 := { s2 with cw := { s2.cw with paired := false, partnerSerial := 0, ownAuth := false, partnerAuth := false, partnerMirror := false,
                                         groupId := 0, txStaged := [] } }
  let s4 := (s3.put F.CW_PAIR_ID_ID 0 |>.put F.CW_PARTNER_KEY_ID_ID 0 |>.put F.CW_PAIR_EPOCH_EPOCH 0 |>.put F.CW_PAIR_TEMPER_TEMPER 0
    |>.put F.ID_TEMPER_TEMPER (s3.get F.ID_TEMPER_TEMPER_MAX)).clearMap
  ((s4.setMode .solo).endRequest s4.wit.reason).raise Ev.UNPAIRED []

/-- What a COMMIT makes of a frame: on the receiver, or (`own`) on the sender that staged it (R417). -/
def State.commitFrame (own : Bool) (b : CwBody) (op : Option (Nat × Nat)) (s : State) : State :=
  match b with
  | .temperSet t => s.changeTemper t
  | .unpair => s.unpair
  | .record 1 idx ws =>
    if own then s.applyStaged b op
    else if s.cw.receiving then s.copiedRegion idx (regionOfWords ws) else s.applyRegion idx (regionOfWords ws)
  | .record 2 idx ws => if own then s.applyStaged b op else if s.cw.receiving then s.copiedTenant idx ws else s.applyTenant idx ws false
  | .record kind idx ws => if own then s.applyStaged b op else s.applyRecord kind idx ws false
  | _ => s

/-- The staged frames that a COMMIT names applied, in the order it names them. -/
def State.commitNamed (seqs : List Nat) (s : State) : State :=
  let named := seqs.filterMap fun q => s.cw.rxStaged.find? fun (e : Nat × CwBody) => decide (e.1 = q)
  let s1 := { s with cw := { s.cw with rxStaged := s.cw.rxStaged.filter fun (e : Nat × CwBody) => !seqs.contains e.1 } }
  s1.forEach named fun (e : Nat × CwBody) a => a.commitFrame false e.2 none

/-- REPAIR_DONE (R401, Table 12.5): the repair ends. STATUS 0: the lines have come, and the page enters its frame as DIRTY; 1: LOST; 2: UNMAPPED. -/
def State.repairDone (land : Nat → State → State) (id status : Nat) (s : State) : State :=
  match s.fl.repairs.find? fun (r : Nat × Nat × Nat) => decide (r.1 % 256 = id) with
  | none => s
  | some r =>
    let s1 := { s with fl := { s.fl with repairs := s.fl.repairs.filter fun (x : Nat × Nat × Nat) => decide (x.1 ≠ r.1) } }
    match status with
    | 0 => ((s1.bump F.FL_PAGES_REPAIRED_COUNT 1).raiseLimited Ev.PAGES_REPAIRED 0 []) |> land r.2.1
    | 1 => (s1.losePage r.2.1) |> land r.2.1
    | _ => (s1.forEach ((pageLines r.2.1).filter fun l => !(s1.lineMeta l).dirty) fun l a => (a.setMeta l {}).zeroLine l).setTrans r.2.1 2 0 |> land r.2.1

/-- One mirror frame delivered (R415, R417). -/
def State.deliverFrame (land : Nat → State → State) (seq : Nat) (b : CwBody) (s : State) : State :=
  match b with
  | .lines es => s.applyEntries false seq es
  | .linesBg es => s.applyEntries true seq es
  | .window w => s.keepWindow w
  | .pageMark es => s.forEach es fun (e : Nat × Bool) a => a.markPage e.1 e.2
  | .horizon es =>
    let h := es.foldl (fun t (e : Nat × Nat) => Sparse.set 0 e.1 (max e.2 (Sparse.get 0 e.1 t)) t) s.cw.rxHorizons
    { s with cw := { s.cw with rxHorizons := h } }
  | .record _ _ _ | .temperSet _ | .unpair => { s with cw := { s.cw with rxStaged := s.cw.rxStaged ++ [(seq, b)] } }
  | .commit seqs => s.commitNamed seqs
  | .keyGen .. | .keyMaster .. | .keyDestroyGen .. | .keyDestroyMaster .. =>
    match keyFrameChange b with
    | some c => s.stageKey seq c
    | none => s
  | .repairReq id page => { s with cw := { s.cw with repairsDue := s.cw.repairsDue ++ [(id, page / 16384)] } }
  | .assayState claim => s.twinAssay claim
  | .drainBegin => { s with cw := { s.cw with partnerDrain := true } }
  | .catchupBegin f0 f1 =>
    (({ s with cw := { s.cw with receiving := true, partnerDone := false } }).when f0 (State.put F.CW_CATCHUP_STATUS_FULL_SIDE0 1)
      |>.when f1 (State.put F.CW_CATCHUP_STATUS_FULL_SIDE1 1)).raise Ev.CATCHUP_STARTED []
  | .catchupDone => { s with cw := { s.cw with receiving := false, partnerDone := true } }
  | .repairDone id status => s.repairDone land id status
  | .keyCommitted n => { s with ks := { s.ks with committed := max s.ks.committed n } }

/-- The frames held delivered strictly in SEQ order (R414). -/
def State.deliver (land : Nat → State → State) : Nat → State → State
  | 0, s => s
  | n + 1, s =>
    let next := s.get F.CW_RX_SEQ_SEQ + 1
    match s.cw.held.find? fun (f : Nat × CwBody) => decide (f.1 = next) with
    | none => s
    | some f =>
      let s1 := ({ s with cw := { s.cw with held := s.cw.held.filter fun (g : Nat × CwBody) => decide (g.1 ≠ next),
                                            nak := if s.cw.nak ≤ next then 0 else s.cw.nak } }).put F.CW_RX_SEQ_SEQ next
      (s1.deliverFrame land f.1 f.2).deliver land n

/-- The codewords that a path's FEC corrected and could not correct, counted (Table 12.17). -/
def State.countFec (p : Nat) (f : Fec) (s : State) : State :=
  (s.bump (F.CW_PATH_FEC_CORR_COUNT p) f.corrected).bump (F.CW_PATH_FEC_UNCORR_COUNT p) f.uncorrectable

/-- A mirror frame received (R414). A TYPE that is none of Table 12.3 is discarded and counted as an authentication failure (R411). -/
def State.receive (land : Nat → State → State) (m : MirrorRx) (b : CwBody) (s0 : State) : State :=
  let p := m.path.val
  let s := s0.when (decide (s0.pathState p = 2)) (State.countFec p m.fec)
  if s.pathState p ≠ 2 then s
  else if !m.fchk then s.bump (F.CW_PATH_CRC_DISCARDS_COUNT p) 1
  else if !m.known then s.authFailed p
  else if m.seq ≤ s.get F.CW_RX_SEQ_SEQ ∨ (s.cw.held.any fun (f : Nat × CwBody) => decide (f.1 = m.seq)) then
    s.bump (F.CW_PATH_DUP_DISCARDS_COUNT p) 1
  else if !s.frameAuth m then s.authFailed p
  else
    let s1 := s.twinHeard
    let s2 := { s1 with cw := { s1.cw with held := s1.cw.held ++ [(m.seq, b)] } }
    s2.deliver land (s2.cw.held.length + 1)

/-! The server of a copy (R438). -/

/-- A side is copied in full to the receiver (R438). -/
def State.fullCopy (s : State) : Bool :=
  s.cw.peerFull || !s.cw.peerMapValid || decide (s.cw.peerMapBase < s.cw.mapBase) || s.cw.peerUnsealed || !s.isSet F.CW_STATUS_MAP_VALID

/-- The sides whose authoritative copy this controller serves. -/
def State.copySides (s : State) : List Nat := if s.mode = .takeover then [0, 1] else [s.side]

/-- The extents chosen of a side. -/
def State.chosenExtents (sd : Nat) (s : State) : List Nat :=
  if s.fullCopy then
    ((s.regions.filter fun (e : Nat × Region) => decide (e.2.state ≠ 0) && decide (e.1 / 4096 = sd)).map fun (e : Nat × Region) =>
      regionExtents e.1 e.2).flatten
  else ((s.cw.mapSet ++ s.cw.peerMap).eraseDups).filter fun x => decide (sideOf (x * 2 ^ 21) = sd)

/-- The RECORD frames of a catch-up: the region table and the tenant table of both sides, and the P_Key map. -/
def State.tableFrames (s : State) : List CwBody :=
  ((List.range 8192).map fun i => .record 1 i (regionWords i { s.region i with guestGranted := false })) ++
    ((List.range 4095).map fun t => .record 2 (t + 1) [s.tenantState (t + 1) + s.get (F.TENANT_W0_SLUICE_WEIGHT (t + 1)) * 2 ^ 8,
      s.get (F.TENANT_W1_MAX_REGIONS (t + 1)), s.get (F.TENANT_W2_MAX_GIB (t + 1))]) ++
    ((List.range 4096).map fun i => .record 3 i [s.pkeyWord i])

/-- The KEY frames of a catch-up: every tenant master, the older one first, and every generation entry. -/
def State.keyFrames (s : State) : List CwBody :=
  let b := s.keyBody
  let master (t : Nat) (k : TenantKeys) (i : Nat) : CwBody := .keyMaster t i k.floor (if i = 0 then k.master0 else k.master1)
  ((b.tenants.map fun (e : Nat × TenantKeys) =>
    if e.2.st = 0 then [] else if e.2.st = 1 then [master e.1 e.2 e.2.current]
    else [master e.1 e.2 (1 - e.2.current), master e.1 e.2 e.2.current]).flatten) ++
    (b.gens.map fun g => .keyGen g.side g.gen g.tenant g.midx g.salt)

/-- A copy begins (R438): CATCHUP_BEGIN, the tables, the windows' label storage areas and shutdown states (R127) and the keys; STATE
RECORDS. -/
def State.startCatchup (s : State) : State :=
  let sds := s.copySides
  let xs := (sds.map fun sd => s.chosenExtents sd).flatten
  let f0 := s.fullCopy && sds.contains 0
  let f1 := s.fullCopy && sds.contains 1
  let s1 := ((s.put F.CW_CATCHUP_STATUS_STATE 1 |>.put F.CW_CATCHUP_STATUS_FULL_SIDE0 (flag f0)).put F.CW_CATCHUP_STATUS_FULL_SIDE1 (flag f1)).put
    F.CW_CATCHUP_LEFT_EXTENTS xs.length
  let s2 := (s1.sendFrame (.catchupBegin f0 f1)).2
  let first := s2.get F.CW_TX_SEQ_SEQ + 1
  let tables := s2.tableFrames
  let s3 := (s2.sendFrames tables).2
  let s3w := (s3.sendFrames (s3.wins.map CwBody.window)).2
  let s4 := (s3w.sendFrames s3w.keyFrames).2
  ({ s4 with cw := { s4.cw with copyLeft := xs, copyDone := false, doneSeq := 0,
                                copySeqs := (List.range tables.length).map (first + ·) } }).raise Ev.CATCHUP_STARTED []

/-- A list cut into runs of at most `n`. -/
def chunks {α : Type} (n : Nat) : Nat → List α → List (List α)
  | 0, _ => []
  | f + 1, l => if l.isEmpty then [] else l.take n :: chunks n f (l.drop n)

/-- Lines sent as LINES_BG (R412): one generation and at most 32 lines a frame. -/
def State.sendLinesBg (ls : List Nat) (s : State) : State :=
  let es := ls.map fun l => s.lineEntry l
  let gens := (es.map fun e => e.gen).eraseDups
  let frames := (gens.map fun g => chunks 32 (ls.length + 1) (es.filter fun e => decide (e.gen = g))).flatten
  s.forEach frames fun f a => (a.sendFrame (.linesBg f)).2

/-- A page waits for nothing before it is copied: it is PRESENT, or ABSENT and not MAPPED. -/
def State.copyReady (p : Nat) (s : State) : Bool :=
  s.present p && !(s.merges.any fun m => decide (pageOfLine m.line = p)) || (decide ((s.page p).st = 0) && !s.pageMapped p)

/-- One page of the copy: its lines, or its mark. -/
def State.copyPage (p : Nat) (s : State) : State :=
  if s.present p then s.sendLinesBg (pageLines p)
  else (s.sendFrame (.pageMark [(p * 16384, decide ((s.transOf p).st = 2))])).2

/-- The pages of an extent that wait for a fill asked for at fill-ahead priority. -/
def State.fillForCopy (x : Nat) (s : State) : State :=
  s.forEach ((List.range 128).map (x * 128 + ·)) fun p a => if (a.page p).st = 0 ∧ a.pageMapped p then a.requestFill p 5 else a

/-- One chosen extent copied, page by page, once every page of it can be read. -/
def State.copyExtent (x : Nat) (s : State) : State :=
  if !s.cw.copyLeft.contains x ∨ s.get F.CW_CATCHUP_STATUS_STATE ≠ 2 then s
  else
    let ps := (List.range 128).map (x * 128 + ·)
    if !(ps.all fun p => s.copyReady p) then s.fillForCopy x
    else
      let s1 := s.forEach ps fun p a => a.copyPage p
      ({ s1 with cw := { s1.cw with copyLeft := s1.cw.copyLeft.filter fun y => decide (y ≠ x) } }).put F.CW_CATCHUP_LEFT_EXTENTS
        (s1.cw.copyLeft.length - 1)

/-- REPAIR_REQs served (R440): a page that is present is sent; one that is MAPPED is filled first, at the priority of fills for writes. -/
def State.serveRepairs (s : State) : State :=
  if !s.cw.linkKey then s
  else s.forEach s.cw.repairsDue fun (e : Nat × Nat) a =>
    let p := e.2
    let drop (b : State) : State := ({ b with cw := { b.cw with repairsDue := b.cw.repairsDue.filter fun (x : Nat × Nat) => decide (x ≠ e) } }).raiseLimited
      Ev.REPAIR_SERVED 0 []
    if a.present p then drop (((a.sendLinesBg (pageLines p)).sendFrame (.repairDone e.1 0)).2)
    else if (a.page p).st = 0 ∧ !a.pageMapped p then drop ((a.sendFrame (.repairDone e.1 (if (a.transOf p).st = 2 then 1 else 2))).2)
    else a.requestFill p 2

/-! PAIRED. -/

/-- The horizon of every queue set and sent to the twin (R38). -/
def State.announceHorizons (s : State) : State :=
  s.forEach (s.queues.filter fun (e : Nat × Queue) => e.2.live) fun (e : Nat × Queue) a =>
    let k := a.queue e.1
    let h := max k.horizon (a.horizonReach e.1)
    let f := a.sendFrame (.horizon [(a.queueId e.1, h)])
    f.2.setQueue e.1 { k with hSent := h, hFrames := [(f.1, h)], doneSeqs := k.doneSeqs.filter fun (d : Nat × Nat × Nat) => decide (h < d.1) }

/-- PAIRED entered (Table 12.12): the map cleared, the horizons set, PAIR_MIRRORING raised. -/
def State.enterPaired (s : State) : State :=
  let s1 := s.dropCopy.clearMap
  let s2 := { s1 with cw := { s1.cw with unsealed := false, partnerMirror := true, ownAuth := true, partnerAuth := false, peerFull := false,
                                         peerUnsealed := false } }
  let s3 := s2.put F.CW_CATCHUP_STATUS_STATE 0 |>.put F.CW_CATCHUP_STATUS_FULL_SIDE0 0 |>.put F.CW_CATCHUP_STATUS_FULL_SIDE1 0
  ((s3.setMode .paired).announceHorizons).raise Ev.PAIR_MIRRORING []

/-- RESYNC ends when both copies are done (Table 12.12). -/
def State.tryPaired (s : State) : State :=
  if s.mode = .resync ∧ s.cw.copyDone ∧ s.cw.partnerDone ∧ s.cw.unacked.isEmpty then s.enterPaired else s

/-! What each step may complete. -/

/-- The RECORD, TEMPER_SET and UNPAIR frames that the twin has acknowledged: each COMMIT is sent, and the change made here (R417). -/
def State.commitAcked (s : State) : State :=
  let go := s.cw.txStaged.filter fun (e : Nat × CwBody × Option (Nat × Nat)) => !s.cw.linkKey || decide (e.1 ≤ s.ackSeq)
  if go.isEmpty then s
  else
    let keep := s.cw.txStaged.filter fun (e : Nat × CwBody × Option (Nat × Nat)) => s.cw.linkKey && !decide (e.1 ≤ s.ackSeq)
    let s1 := { s with cw := { s.cw with txStaged := keep } }
    s1.forEach go fun (e : Nat × CwBody × Option (Nat × Nat)) a =>
      (if a.cw.linkKey then (a.sendFrame (.commit [e.1])).2 else a).commitFrame true e.2.1 e.2.2

/-- The tables of a copy committed once they are acknowledged, in COMMITs of at most 1,120 SEQs; then the copy begins. -/
def State.commitTables (s : State) : State :=
  if s.cw.copySeqs.isEmpty ∨ !(s.cw.copySeqs.all fun q => decide (q ≤ s.ackSeq)) then s
  else
    let s1 := s.forEach (chunks 1120 (s.cw.copySeqs.length + 1) s.cw.copySeqs) fun c a => (a.sendFrame (.commit c)).2
    ({ s1 with cw := { s1.cw with copySeqs := [] } }).put F.CW_CATCHUP_STATUS_STATE 2

/-- CATCHUP_DONE is acknowledged (Table 12.18). -/
def State.noteCopyDone (s : State) : State :=
  if s.cw.doneSeq ≠ 0 ∧ !s.cw.copyDone ∧ s.cw.doneSeq ≤ s.ackSeq then
    ({ s with cw := { s.cw with copyDone := true } }).raise Ev.CATCHUP_DONE []
  else s

/-- Credits granted for the entries that left the inbound buffers (R45, R416): at the mirror account's share while LIMITING or under a
thermal cap (R279), none while CLOSED. -/
def State.grantCredits (s : State) : State :=
  let n := match s.admitLimit with
    | none => s.cw.inbound
    | some _ => if s.get F.SLU_STATUS_STATE = 2 then 0
      else min s.cw.inbound (Sparse.get 0 (accountAt 4096 0) s.ssb.shares * (s.now - s.cw.creditAt) / 51200000)
  if n = 0 then (if s.get F.SLU_STATUS_STATE ≠ 2 ∧ s.cw.inbound ≠ 0 then s else { s with cw := { s.cw with creditAt := s.now } })
  else { s with cw := { s.cw with granted := s.cw.granted + n, inbound := s.cw.inbound - n, creditAt := s.now } }

/-- The DRAIN_BEGIN frame is acknowledged: the cutover begins (R435 step 2). -/
def State.beginCutover (s : State) : State :=
  if s.mode = .drain ∧ s.cw.drainSeq ≠ 0 ∧ s.cw.drainSeq ≤ s.ackSeq ∧ s.cw.cutover = 0 then
    { s with cw := { s.cw with withheld := true, cutover := 1 } }
  else s

/-- A controller whose side was taken over has written its dirty lines back, and enters BRINGUP as a returning controller (R425). With its
link key in force it begins a HELLO exchange, by which the server learns of its map. -/
def State.leaveService (s : State) : State :=
  if s.cw.leaving ∧ s.mode.serving ∧ s.dirtyLines = 0 then
    ({ s with cw := { s.cw with leaving := false } }).enterBringup false true |>.startHello
  else s

end Sys2Proof.Machine
end

