-- ==== Sys2Proof/Machine/Checkpoint.lean ====
section
/-! DEFINITION. The service-state checkpoint (R427 to R432): how it is written, and how a survivor or a returning controller resumes
queues, streams and rotations from it. -/

namespace Sys2Proof.Machine

open Sys2Proof

/-! Writing. -/

/-- A field of a record at byte `at_`. -/
def ckF (at_ v : Nat) : Nat := v * 2 ^ (8 * at_)

/-- KIND and LIVE of a record (R428). -/
def ckHead (kind : Nat) : Nat := kind + 2 ^ 8

/-- The sequence number an inexact record names as next to fetch, or, with everything of the queue complete, the next above the last
completed (R435). -/
def Queue.ckExpected (exact_ : Bool) (k : Queue) : Nat := if exact_ then k.prefix_ + 1 else k.expected

/-- The RING record of a queue (Table 12.15). -/
def State.ringRecord (exact_ : Bool) (q : Nat) (s : State) : Nat :=
  let k := s.queue q
  ckHead 1 + ckF 16 (s.queueId q) + ckF 24 (k.ckExpected exact_) + ckF 32 k.written + ckF 40 k.completions +
    ckF 48 (flag (s.orderedQueue q) + flag (decide (k.state = 3)) * 2 + k.stopCause % 16 * 4)

/-- The CMD_QP or DATA_QP record of a context (Table 12.15). -/
def State.qpRecord (exact_ : Bool) (key : Nat) (p : Qp) (s : State) : Nat :=
  let qpn := qpnOf key p
  let k := s.queue (cqpKey qpn)
  if p.cmd then
    ckHead 2 + ckF 16 (s.queueId (cqpKey qpn)) + ckF 24 p.gid + ckF 40 (k.ckExpected exact_) + ckF 48 k.completions + ckF 56 p.pkey +
      ckF 58 p.tenant + ckF 60 p.depth + ckF 62 (flag k.ordered) + ckF 63 p.resp
  else
    ckHead 3 + ckF 16 (qpn + key / 2 ^ 20 * 2 ^ 25 + p.incarnation * 2 ^ 32) + ckF 24 p.gid + ckF 40 p.pkey + ckF 42 p.tenant + ckF 44 p.resp

/-- The STREAM record of a stream (Table 12.15). -/
def State.streamRecord (j : Nat) (k : Stream) (s : State) : Nat :=
  let q := k.queue % 2 ^ 32
  ckHead 4 + ckF 16 (streamHandle j k.incarnation) + ckF 18 (k.st + k.cause * 8) + ckF 20 k.pos + ckF 24 k.window +
    ckF 26 (k.region % 4096) + ckF 28 (k.queue + s.queueSide q * 2 ^ 25) + ckF 36 k.seq + ckF 44 k.misses + ckF 52 (k.fallbacks % 2 ^ 32) +
    ckF 56 (k.laps % 2 ^ 32)

/-- The ROTATION record of a region (Table 12.15). -/
def State.rotationRecord (idx : Nat) (r : Region) (s : State) : Nat :=
  ckHead 5 + ckF 16 (idx % 4096) + ckF 20 r.prevGen + ckF 24 r.keyGen + ckF 28 (s.get (F.ROT_CURSOR_EXTENT idx))

/-- The records of a side, with their offsets in a slot (Table 12.14). -/
def State.ckptRecords (exact_ : Bool) (sd : Nat) (s : State) : List (Nat × Nat) :=
  ((s.queues.filter fun (e : Nat × Queue) => isRing e.1 && e.2.live && decide (s.queueSide e.1 = sd)).map fun (e : Nat × Queue) =>
      (0x1000 + 64 * e.1, s.ringRecord exact_ e.1)) ++
  ((s.cul.streams.filter fun (e : Nat × Stream) => decide (e.2.st ≠ 0) && decide (e.1 / 512 = sd)).map fun (e : Nat × Stream) =>
      (0x41000 + 64 * (e.1 % 512), s.streamRecord e.1 e.2)) ++
  ((s.regions.filter fun (e : Nat × Region) => e.2.rotating && decide (e.1 / 4096 = sd)).map fun (e : Nat × Region) =>
      (0x49000 + 64 * (e.1 % 4096), s.rotationRecord e.1 e.2)) ++
  ((s.qpsInUse.filter fun (e : Nat × Qp) => decide (e.1 / 2 ^ 20 = sd) && (decide (e.2.state = 2) || decide (e.2.state = 3))).map
    fun (e : Nat × Qp) => (0x100000 + 64 * (e.1 % 2 ^ 20), s.qpRecord exact_ e.1 e.2))

/-- The window table entry of a logical device (Table 12.14). -/
def State.windowEntry (n : Nat) (s : State) : Nat :=
  s.get (F.LD_MAP_TENANT n) + ckF 2 (flag (s.winValid n) + s.winSide n * 2 + s.get (F.LD_MAP_DORMANT n) * 4) +
    ckF 3 (s.get (F.CXL_LD_WIN_BASE_BASE_SLOT n)) + ckF 7 (s.get (F.CXL_LD_WIN_SPAN_SPAN_M1 n))

/-- The offset of a checkpoint slot in the service region (Table 12.13). -/
def ckSlot (n : Nat) : Nat := n % 2 * 0x40000000

/-- The offsets of a slot's records that carry LIVE. -/
def State.liveRecords (sd slot : Nat) (s : State) : List Nat :=
  let b := slotAddr sd ((s.region (recIdx sd 0)).baseSlot) + ckSlot slot
  (Sparse.slice (b + 0x1000) (b + 0x40000000) s.mem).filterMap fun (c : Nat × Byte) =>
    if (c.1 - b) % 64 = 1 ∧ c.2.toNat % 2 = 1 ∧ s.live (lineOf c.1) then some (c.1 - b - 1) else none

/-- A record without its CKPT_SEQ. -/
def ckBody (v : Nat) : Nat := v % 2 ^ 64 + v / 2 ^ 128 * 2 ^ 128

/-- One record of a slot written when it has changed (R430): the count of records written goes on. -/
def State.writeRecordAt (sd slot n off v : Nat) (r : Nat × State) : Nat × State :=
  if ckBody (r.2.serviceRead sd (ckSlot slot + off) 64) = v then r
  else (r.1 + 1, r.2.serviceWrite sd (ckSlot slot + off) 64 (v + n * 2 ^ 64))

/-- A record that no longer lives, written with LIVE 0. -/
def State.writeStale (sd n off : Nat) (r : Nat × State) : Nat × State :=
  State.writeRecordAt sd n n off (ckBody (r.2.serviceRead sd (ckSlot n + off) 64) - 2 ^ 8) r

/-- An entry of the window table, written when it has changed. -/
def State.writeWindow (sd n k : Nat) (s : State) : State :=
  if s.serviceRead sd (ckSlot n + 0x400 + 16 * k) 16 = s.windowEntry k then s
  else s.serviceWrite sd (ckSlot n + 0x400 + 16 * k) 16 (s.windowEntry k)

/-- The header of checkpoint `n`: the records written, the SEQ it starts at, its time, and its check. -/
def ckHeader (n written start us : Nat) : Nat :=
  let h := n + ckF 8 1 + ckF 10 written + ckF 14 start + ckF 22 us
  h + ckF 60 (crc32c 60 h)

/-- The records of checkpoint `n` written, those that have changed and those gone with LIVE 0: how many, and the state. -/
def State.writeRecords (recs : List (Nat × Nat)) (stale : List Nat) (sd n : Nat) (s : State) : Nat × State :=
  stale.foldl (fun (r : Nat × State) off => State.writeStale sd n off r)
    (recs.foldl (fun r (e : Nat × Nat) => State.writeRecordAt sd n n e.1 e.2 r) (0, s))

/-- The window table and the header of checkpoint `n` written. -/
def State.closeCheckpoint (sd n start us : Nat) (r : Nat × State) : State :=
  (r.2.forEach (List.range 64) fun k a => a.writeWindow sd n k).serviceWrite sd (ckSlot n) 64 (ckHeader n r.1 start us)

/-- Checkpoint `n` of a side (R430): the records that have changed, those gone written with LIVE 0, the window table, then the header. -/
def State.writeCheckpoint (exact_ : Bool) (sd n us : Nat) (s : State) : State :=
  let recs := s.ckptRecords exact_ sd
  let stale := (s.liveRecords sd n).filter fun off => !(recs.any fun (e : Nat × Nat) => decide (e.1 = off))
  State.closeCheckpoint sd n (s.get F.CW_TX_SEQ_SEQ) us (s.writeRecords recs stale sd n)

/-- A checkpoint of each of the given sides under the next CKPT_SEQ. -/
def State.checkpoint (exact_ : Bool) (sds : List Nat) (us : Nat) (s : State) : State :=
  let n := s.get F.CW_CKPT_SEQ_SEQ + 1
  (s.forEach sds fun sd a => a.writeCheckpoint exact_ sd n us).put F.CW_CKPT_SEQ_SEQ n |>.put F.CW_CKPT_LAST_US_US us

/-! Loading. -/

/-- The CKPT_SEQ of a slot whose header verifies. -/
def State.slotSeq (sd slot : Nat) (s : State) : Option Nat :=
  let h := s.serviceRead sd (ckSlot slot) 64
  if crc32c 60 h = bitsOf h 480 32 ∧ bitsOf h 64 16 = 1 then some (h % 2 ^ 64) else none

/-- The slot with the higher CKPT_SEQ of those that verify (R431). -/
def State.chosenSlot (sd : Nat) (s : State) : Option (Nat × Nat) :=
  match s.slotSeq sd 0, s.slotSeq sd 1 with
  | some a, some b => if a < b then some (1, b) else some (0, a)
  | some a, none => some (0, a)
  | none, some b => some (1, b)
  | none, none => none

/-- The logical device that takes the place of device `n` of a slot's window table (R432): same tenant, SIDE, BASE_SLOT and SPAN_M1, with
DORMANT `dormant`. -/
def State.counterpart (dormant : Bool) (sd slot n : Nat) (s : State) : Option Nat :=
  let w := s.serviceRead sd (ckSlot slot + 0x400 + 16 * n) 16
  let same (m : Nat) : Bool :=
    decide (s.get (F.LD_MAP_TENANT m) = bitsOf w 0 16) && decide (s.winSide m = bitsOf w 17 1) && s.winValid m && decide (bitsOf w 16 1 = 1) &&
      decide (s.get (F.CXL_LD_WIN_BASE_BASE_SLOT m) = bitsOf w 24 32) && decide (s.get (F.CXL_LD_WIN_SPAN_SPAN_M1 m) = bitsOf w 56 32) &&
      decide (s.isSet (F.LD_MAP_DORMANT m) = dormant)
  (List.range 64).find? same

/-- The horizon of R39 of a queue: the last one recorded from the partner, or what an exact checkpoint says. -/
def State.takenHorizon (exact_ : Bool) (qid expected : Nat) (s : State) : Nat :=
  if exact_ then expected - 1 else Sparse.get 0 qid s.cw.rxHorizons

/-- The side a takeover notice names (Table 5.9, R439). -/
def State.noticeSide (exact_ : Bool) (s : State) : Nat := if exact_ then s.side else 1 - s.side

/-- One RING record resumed (R432). `scans`: what the scan of a ring's completion ring passed: records, and those that are no notices. -/
def State.resumeRing (exact_ : Bool) (sd slot q v : Nat) (scans : List (Nat × Nat × Nat)) (s : State) : State :=
  let id := bitsOf v 128 64
  match s.counterpart (!exact_) sd slot (q / 64) with
  | none => s.raise Ev.CKPT_LOAD_FAILED [id]
  | some m =>
    let p := 64 * m + q % 64
    if !s.isSet (F.RING_CFG_ENABLE m (q % 64)) then s.raise Ev.CKPT_LOAD_FAILED [id]
    else
      let h := s.takenHorizon exact_ id (bitsOf v 192 64)
      let sc := ((scans.find? fun (e : Nat × Nat × Nat) => decide (e.1 = p)).map (·.2)).getD (0, 0)
      let w := bitsOf v 256 64 + sc.1
      let stopped := decide (bitsOf v 385 1 = 1)
      let k : Queue := { state := if stopped then 3 else 1, incarnation := id / 2 ^ 32, stopCause := bitsOf v 386 4,
                         tenant := s.get (F.LD_MAP_TENANT m), expected := h + 1, fetched := h, asked := h, sqTail := h,
                         cqHead := w - s.cqSize p, written := w, completions := bitsOf v 320 64 + sc.2, prefix_ := h, horizon := h, hSent := h,
                         recPrefix := h, takeover := some h, takeoverSide := s.noticeSide exact_, reissued := h, lastFetch := s.now }
      (s.setQueue p k).emit (.readControl p)

/-- A path MTU that the record does not give: a free value among 256 B to 4,096 B (log entry 38). -/
def State.drawMtu (s : State) : Nat × State := let d := s.draw 8; (256 * 2 ^ (d.1 % 5), d.2)

/-- One CMD_QP or DATA_QP record resumed in RESUMING (R160, R432). -/
def State.resumeQp (exact_ : Bool) (sd i v : Nat) (s : State) : State :=
  let key := sd * 2 ^ 20 + i
  let id := bitsOf v 128 64
  let cmd := decide (v % 256 = 2)
  let d := s.drawMtu
  let f (lo w : Nat) : Nat := bitsOf v (8 * lo) w
  let p : Qp := { state := 3, incarnation := id / 2 ^ 20 % 8, cmd := cmd, pkey := if cmd then f 56 16 else f 40 16,
                  tenant := if cmd then f 58 12 else f 42 12, gid := f 24 128, depth := if cmd then f 60 16 else 0,
                  resp := if cmd then f 63 8 else f 44 8, mtu := d.1, rate := 400000 }
  let s1 := d.2.setQp key p
  if !cmd then s1
  else
    let q := cqpKey (qpnOf key p)
    let h := s1.takenHorizon exact_ id (f 40 64)
    let k : Queue := { state := 1, incarnation := p.incarnation, tenant := p.tenant, ordered := decide (f 62 1 = 1), expected := h + 1, fetched := h,
                       asked := h, completions := f 48 64, prefix_ := h, horizon := h, hSent := h, recPrefix := h, takeover := some h,
                       takeoverSide := s1.noticeSide exact_, reissued := h, lastFetch := s1.now, pkey := p.pkey, gid := p.gid }
    ((s1.setQueue q k).cacheQp key).payTakeover q

/-- The valid items of a side's list store that carry a handle, in entry order: (entry, EXTENT, item) and the last item's value. -/
def State.listItems (sd handle : Nat) (s : State) : List (Nat × Nat × Nat × Nat) :=
  let b := slotAddr sd ((s.region (recIdx sd 0)).baseSlot) + 0x80000000
  let idx := (Sparse.slice b (b + 0x4000000) s.mem).filterMap fun (c : Nat × Byte) =>
    if (c.1 - b) % 16 = 10 ∧ c.2.toNat / 2 % 2 = 1 ∧ s.live (lineOf c.1) then some ((c.1 - b) / 16) else none
  let its := idx.map fun i => let v := s.serviceRead sd (0x80000000 + 16 * i) 16; (bitsOf v 32 32, bitsOf v 0 32, i, v)
  (its.filter fun (e : Nat × Nat × Nat × Nat) => decide (bitsOf e.2.2.2 64 16 = handle)).mergeSort fun a b => decide (a.1 ≤ b.1)

/-- One STREAM record resumed at its position in FILLING (R247); an ENDED stream stays ENDED. -/
def State.resumeStream (sd i v : Nat) (s : State) : State :=
  let f (lo w : Nat) : Nat := bitsOf v (8 * lo) w
  let hnd := f 16 16
  let its := s.listItems sd hnd
  let last := (its.head?.map fun (e : Nat × Nat × Nat × Nat) => e.2.2.2).getD 0
  let qid := f 28 64
  let ended := decide (f 18 3 = 4)
  let k : Stream := { st := if ended then 4 else 1, incarnation := hnd / 2 ^ 9 % 2 ^ 6, region := recIdx sd (f 26 12),
                      entries := its.map fun (e : Nat × Nat × Nat × Nat) => e.2.1, wrap := decide (bitsOf last 80 1 = 1), window := f 24 16,
                      pos := f 20 32, cause := if ended then bitsOf v (8 * 18 + 3) 4 else 0, misses := f 44 64, fallbacks := f 52 32, laps := f 56 32,
                      listAddr := bitsOf last 84 43 * 64, queue := qid - qid / 2 ^ 25 % 2 * 2 ^ 25, seq := f 36 64,
                      items := its.map fun (e : Nat × Nat × Nat × Nat) => e.2.2.1 }
  if (s.stream (streamIdx sd i)).st ≠ 0 then s else s.changeStream (streamIdx sd i) k

/-- A record of a slot, whose value is `v`, resumed by its type. -/
def State.resumeValue (exact_ : Bool) (sd slot off v : Nat) (scans : List (Nat × Nat × Nat)) (s : State) : State :=
  match v % 256 with
  | 1 => s.resumeRing exact_ sd slot ((off - 0x1000) / 64) v scans
  | 2 => s.resumeQp exact_ sd ((off - 0x100000) / 64) v
  | 3 => s.resumeQp exact_ sd ((off - 0x100000) / 64) v
  | 4 => s.resumeStream sd ((off - 0x41000) / 64) v
  | 5 =>
    let i := recIdx sd (bitsOf v 128 12)
    if (s.region i).rotating then s.put (F.ROT_CURSOR_ACTIVE i) 1 |>.put (F.ROT_CURSOR_EXTENT i) (bitsOf v 224 32) else s
  | _ => s

/-- One record of a slot resumed. -/
def State.resumeRecord (exact_ : Bool) (sd slot off : Nat) (scans : List (Nat × Nat × Nat)) (s : State) : State :=
  s.resumeValue exact_ sd slot off (s.serviceRead sd (ckSlot slot + off) 64) scans

/-- A side's checkpoint loaded from a slot of the service region, none where no slot holds a valid one. -/
def State.loadChosen (exact_ : Bool) (sd : Nat) (scans : List (Nat × Nat × Nat)) (o : Option (Nat × Nat)) (s : State) : State :=
  match o with
  | none => s.raise Ev.CKPT_LOAD_FAILED [0]
  | some (slot, n) =>
    (s.forEach (s.liveRecords sd slot) fun off a => a.resumeRecord exact_ sd slot off scans).put F.CW_CKPT_SEQ_SEQ
      (max n (s.get F.CW_CKPT_SEQ_SEQ))

/-- A side's checkpoint loaded (R431 steps 3 and 4). -/
def State.loadCheckpoint (exact_ : Bool) (sd : Nat) (scans : List (Nat × Nat × Nat)) (s : State) : State :=
  s.loadChosen exact_ sd scans (s.chosenSlot sd)

/-! Service changing hands. -/

/-- A dormant logical device activated (R122). -/
def State.activateLd (n : Nat) (s : State) : State :=
  ((((s.put (F.CXL_LD_STATUS_ACTIVATED n) 1).setActive n).placeRecord n 0x14 Ev.DORMANT_ACTIVATED 0 0 (1 - s.side) none [] false).raise
    Ev.DORMANT_ACTIVATED [n])

/-- An activated logical device deactivated (R123). -/
def State.deactivateLd (n : Nat) (s : State) : State :=
  ((((s.put (F.CXL_LD_STATUS_ACTIVATED n) 0).put (F.CXL_LD_STATUS_MEMORY_ACTIVE n) 0).placeRecord n 0x15 Ev.DORMANT_RESUMED 0 0 (1 - s.side) none []
    false).raise Ev.DORMANT_RESUMED [n])

/-- The logical devices a takeover activates (R122). -/
def State.dormantForPartner (s : State) : List Nat :=
  (List.range 64).filter fun n => s.isSet (F.LD_MAP_ENABLE n) && s.isSet (F.LD_MAP_DORMANT n) && s.winValid n && decide (s.winSide n ≠ s.side)

/-- A side's streams give up their frames: a controller that does not serve the side has no window of them (R247). -/
def State.streamsOff (sd : Nat) (s : State) : State :=
  s.forEach (s.cul.streams.filter fun (e : Nat × Stream) => decide (e.1 / 512 = sd) && decide (e.2.st ≠ 0)) fun (e : Nat × Stream) a =>
    (a.changeStream e.1 { incarnation := e.2.incarnation }).setStream e.1 { incarnation := e.2.incarnation }

/-- TAKEOVER entered on a grant of the partner's side (R431). -/
def State.takeOver (epoch : Nat) (scans : List (Nat × Nat × Nat)) (s : State) : State :=
  let prev := s.get F.CW_PAIR_EPOCH_EPOCH
  let s0 := (s.dropCopy.endRequest s.wit.reason).put F.CW_PAIR_EPOCH_EPOCH epoch
  let s1 := (({ s0 with cw := { s0.cw with partnerAuth := true } }).startMap prev).bump F.CW_TAKEOVER_COUNT_COUNT 1
  let s2 := (s1.raise Ev.TAKEOVER_GRANTED [epoch, 1 - s1.side]).put F.CW_CATCHUP_STATUS_STATE 0
  let s3 := s2.setMode .takeover
  let s4 := (s3.forEach s3.dormantForPartner fun n a => a.activateLd n).adoptAddresses
  s4.loadCheckpoint false (1 - s4.side) scans

/-- A grant of this controller's side to the partner learned (R425), with the drain's exception. Before service begins there is nothing to
leave; SAVE and QUARANTINE record it only. -/
def State.takenOver (epoch : Nat) (s : State) : State :=
  let drained := decide (s.mode = .drain) && s.isSet F.CW_STATUS_RELEASE_READY
  let s1 := (((s.setFence 5).dropCopy).endRequest s.wit.reason).put F.CW_PAIR_EPOCH_EPOCH epoch
  let s2 := { s1 with cw := { s1.cw with ownAuth := false, partnerMirror := s1.cw.partnerMirror && drained }, eth := { s1.eth with handed := true } }
  let s3 := s2.raise (if drained then Ev.DRAIN_DONE else Ev.TAKEN_OVER) []
  let s4 := ((s3.releaseQps s3.side).streamsOff 0).streamsOff 1
  if s4.mode.serving then
    let s5 := s4.releaseAddresses
    let s6 := (s5.forEach (List.range 64) fun n a => if a.isSet (F.CXL_LD_STATUS_ACTIVATED n) then a.deactivateLd n else a)
    ({ s6 with cw := { s6.cw with leaving := true, partnerAuth := false } }).leaveService
  else if s4.mode = .bringup then s4.put F.PWR_STATUS_RETURNING 1
  else s4

/-- The grant of a handback learned by the survivor (R439 steps 3 and 5). -/
def State.handedBack (epoch : Nat) (s : State) : State :=
  let s1 := s.put F.CW_PAIR_EPOCH_EPOCH epoch
  let s2 := s1.forEach (List.range 64) fun n a => if a.isSet (F.CXL_LD_STATUS_ACTIVATED n) then a.deactivateLd n else a
  ((s2.streamsOff (1 - s2.side)).releaseAddresses.raise Ev.HANDBACK_DONE []).enterPaired

/-- The grant of this side to a returning controller (R439 steps 4 and 5). -/
def State.returnToService (epoch : Nat) (scans : List (Nat × Nat × Nat)) (s : State) : State :=
  let s1 := (s.endRequest s.wit.reason).put F.CW_PAIR_EPOCH_EPOCH epoch |>.put F.PWR_STATUS_RETURNING 0
  let s2 := ({ s1 with eth := { s1.eth with handed := false }, cw := { s1.cw with ownAuth := true, leaving := false } }).endFence 5
  (s2.loadCheckpoint true s2.side scans).enterPaired.copyGuestRecord

/-- A grant to the partner learned from a STATUS or from the partner's PAIR_EPOCH (Table 12.11): `side` is that of the grant. -/
def State.learnGrant (epoch side : Nat) (s : State) : State :=
  if epoch ≤ s.get F.CW_PAIR_EPOCH_EPOCH then s
  else if s.mode = .takeover ∧ s.cw.cutover = 2 then s.handedBack epoch
  else if side = s.side ∨ s.isSet F.CW_STATUS_RELEASE_READY then s.takenOver epoch
  else s.put F.CW_PAIR_EPOCH_EPOCH epoch

/-! Quiescing (R435, R439). -/

/-- Nothing of the queues that satisfy `p` is in progress: every operation that was started has completed. -/
def State.queuesQuiet (p : Nat → Bool) (s : State) : Bool :=
  s.queues.all fun (e : Nat × Queue) => !p e.1 || e.2.ops.all fun o => decide (o.phase = .assembling ∨ o.phase = .ready ∨ o.phase = .held)

/-- Every accepted write is twin-durable and every operation that was started has completed (R435 step 2). -/
def State.drained (s : State) : Bool :=
  s.writes.isEmpty && s.merges.isEmpty && s.ingress.isEmpty && s.cw.unacked.isEmpty && s.queuesQuiet (fun _ => true)

/-- The same for the partner's side, which a handback quiesces (R439 step 1). -/
def State.partnerDrained (s : State) : Bool :=
  let other (l : Nat) : Bool := decide (sideOf (l * 256) ≠ s.side)
  !(s.writes.any fun w => other w.line) && !(s.merges.any fun m => other m.line) && !(s.ingress.any fun w => other w.line) &&
    s.cw.unacked.isEmpty && s.queuesQuiet (fun q => decide (s.queueSide q ≠ s.side))

/-- The exact checkpoint written, the fence of cause RELEASE and RELEASE_READY (R435 step 3). -/
def State.releaseSide (sd us : Nat) (s : State) : State :=
  let s1 := (s.checkpoint true [sd] us).setFence 4 |>.put F.CW_STATUS_RELEASE_READY 1
  { s1 with cw := { s1.cw with cutover := 2 } }

/-- A drain abandoned after its release (R435): PAIRED again, the requests that were held taken, fetching resumed. -/
def State.abandonDrain (s : State) : State :=
  let s1 := ((s.dropCopy.setMode .paired).raise Ev.DRAIN_ABANDONED []).takeParked
  s1.forEach (s1.queues.map fun (e : Nat × Queue) => e.1) fun q a => a.resumeFetch q

end Sys2Proof.Machine
end

