-- ==== Sys2Proof/Machine/ReeveOps.lean ====
section
/-! DEFINITION. What resets and boots the Reeve (R478 to R480, R492, R493), what a lowering of the readout level does (R489), and the group
reset (R502). -/

namespace Sys2Proof.Machine

open Sys2Proof

/-- A core's configuration: 0 LOCKSTEP, 1 SPARE, 2 SINGLE, 3 RETIRED. -/
def State.core (c : Nat) (s : State) : Nat :=
  match c with
  | 0 => s.get F.RV_CORES_C0
  | 1 => s.get F.RV_CORES_C1
  | _ => s.get F.RV_CORES_C2

/-- A core's configuration, set. -/
def State.setCore (c v : Nat) (s : State) : State :=
  match c with
  | 0 => s.put F.RV_CORES_C0 v
  | 1 => s.put F.RV_CORES_C1 v
  | _ => s.put F.RV_CORES_C2 v

/-- The BIST after a lockstep failure (R478): cores that fail are retired, the spare takes a place, and one core alone runs without
lockstep. -/
def State.coreBist (failed : List Nat) (s : State) : State :=
  let out := [0, 1, 2].filter fun c => failed.contains c && decide (s.core c ≠ 3)
  let s1 := s.forEach out fun c a =>
    let locked := decide (a.core c ≠ 1)
    ((a.setCore c 3).raise Ev.REEVE_CORE_RETIRED [c]).when locked (State.bermDraw 8 0 1)
  let good := [0, 1, 2].filter fun c => decide (s1.core c ≠ 3)
  let locked := good.filter fun c => decide (s1.core c ≠ 1)
  let order := locked ++ good.filter fun c => decide (s1.core c = 1)
  if good.length = 1 then
    ((s1.forEach good fun c a => a.setCore c 2).put F.RV_CORES_DEGRADED 1).raise Ev.REEVE_NO_SPARE []
  else s1.forEach (order.take 2) fun c a => a.setCore c 0

/-- The Reeve runs: its firmware, or the recovery loader. -/
def State.reeveUp (s : State) : Bool := s.pw.firmware || s.rv.recovery

/-- The key-store update in progress abandoned (R331, R479): what it was to do is done again once the firmware is up. -/
def State.requeueStore (s : State) : State :=
  if s.ks.running then
    let k := s.ks
    ({ s with ks := { k with running := false, passes := 0, content := {}, waits := [], current := [], twice := false,
                             pendingChanges := k.current ++ k.pendingChanges, pendingWaits := k.waits ++ k.pendingWaits,
                             destroys := k.destroys || k.twice } }).put F.KSTORE_STATUS_UPDATE_BUSY 0
  else s

/-- The Reeve reset (R479): the firmware and what only it holds are gone until the boot; the cores' configuration, the flash banks, the fuses
and the ADC stay. -/
def State.reeveReset (s : State) : State :=
  let s1 := s.requeueStore
  let s2 := { s1 with
    pw := { s1.pw with firmware := false }
    rv := { s1.rv with recovery := false, lowering := false, eid := 0, receiver := none, sensorsOff := [], events := [], update := {},
                       sessions := [] } }
  (s2.setArm none).put F.RV_CTRL_LOCK 0 |>.put F.RV_CTRL_WDT_MS 0 |>.put F.EFL_PROTECT_PROTECT 0 |>.put F.ID_FW_VERSION_VERSION 0

/-! The boot (R492, R493). -/

/-- The MiB of a firmware slot, as bits of EFL_PROTECT. -/
def slotMiB (k : Nat) : Nat := if k = 0 then 0x3F else 0x3F * 2 ^ 16

/-- A firmware slot started (R492). -/
def State.startFirmware (k : Nat) (fallback : Bool) (s : State) : State :=
  let h := s.slotHeader k
  let s1 := { s with pw := { s.pw with firmware := true }, rv := { s.rv with slot := k, kickAt := s.now } }
  let s2 := s1.put F.ID_FW_VERSION_VERSION (hdrVersion h) |>.put F.ID_FW_STATUS_ACTIVE_SLOT s1.rv.active |>.put F.ID_FW_STATUS_FALLBACK (flag fallback)
    |>.put F.ID_FW_STATUS_TRIAL (flag s1.rv.trial) |>.put F.ID_FW_STATUS_RECOVERY 0 |>.put F.ID_TEMPER_TEMPER_MAX (hdrTemper h)
    |>.put F.ID_DEVICE_KEY_ID_ID (keyIdOf s1.rv.part.deviceKey)
    |>.put F.EFL_PROTECT_PROTECT (s1.get F.EFL_PROTECT_PROTECT ||| slotMiB k)
  let s3 := s2.put F.ID_TEMPER_TEMPER (if s2.cw.paired then s2.get F.CW_PAIR_TEMPER_TEMPER else hdrTemper h)
  let s3a := { s3 with fc := { s3.fc with tokensUsed := [], lostRewrite := s3.fc.lostRewrite + s3.fc.rewriteMark, rewriteMark := 0 } }
  let s3b := s3a.when (decide (s3.fc.rewriteMark ≠ 0)) (State.raise Ev.LOG_REWRITE_LOST [])
  let s4 := s3b.raise Ev.FW_BOOTED [k, hdrVersion h] |>.when fallback (State.raise Ev.FW_SLOT_FALLBACK [])
  let s5 := if s4.rv.recovered then ({ s4 with rv := { s4.rv with recovered := false } }).raise Ev.RECOVERY_LOADER [] else s4
  let s6 := if s5.get F.AON_STATUS_AON_RETRIES ≠ 0 ∧ !s5.pw.retriesTold then
      ({ s5 with pw := { s5.pw with retriesTold := true } }).raise Ev.AON_START_FAILED [s5.get F.AON_STATUS_AON_RETRIES]
    else s5
  if s6.pw.configOk then s6 else s6.selectConfig.loadConfig mgmtBlock

/-- The slots tried after a trial: ACTIVE_SLOT, then the other; with neither valid the recovery loader runs. -/
def State.bootSlots (s : State) : State :=
  let a := s.rv.active
  if s.slotValid a then s.startFirmware a false
  else if s.slotValid (1 - a) then s.startFirmware (1 - a) true
  else
    let s1 := { s with rv := { s.rv with recovery := true, recovered := true } }
    s1.put F.ID_FW_STATUS_RECOVERY 1 |>.put F.ID_FW_VERSION_VERSION 0

/-- The mask ROM's choice (R492). -/
def State.reeveBoot (checks : List SlotCheck) (s : State) : State :=
  let cs := (List.range 4).zip checks
  let s0 := { s with rv := { s.rv with checks := cs.foldl (fun t (e : Nat × SlotCheck) => Sparse.set {} e.1 e.2 t) [] } }
  let k := s0.rv.trialSlot
  if s0.rv.trial ∧ !s0.rv.trialStarted ∧ s0.slotValid k then
    ({ s0 with rv := { s0.rv with trialStarted := true } }).startFirmware k false
  else if s0.rv.trial then
    (({ s0 with rv := { s0.rv with trial := false, trialStarted := false } }).raise Ev.FW_TRIAL_FAILED []).bootSlots
  else s0.bootSlots

/-! Lowering the readout level (R489). -/

/-- Everything the embedded flash holds is gone: images, configuration, key store, persistent state, the Berm's slots and the event log. -/
def State.eraseEmbedded (s : State) : State :=
  let s1 := { s with
    pw := { s.pw with config := [], configOk := false, stored := 0 }
    rv := { s.rv with words := [], checks := [], active := 0, trialSlot := 0, trial := false, trialStarted := false, slot := 0, config := 0,
                      cfgFirst := 2, flipWord := none, units := { valid := false } }
    ks := {}
    cw := { s.cw with paired := false, partnerSerial := 0, ownAuth := false, partnerAuth := false, partnerMirror := false, groupId := 0,
                      unsealed := false }
    fl := { s.fl with formed := false, cls := 0, serials := [], failedPos := [], sparesUsed := [], badPages := [], rbPos := [], rbNoted := ([], []), rbLeft := [], rbLater := [],
                      rbStripe := 0 }
    ssb := { s.ssb with imageA := none, imageB := none, orderly := false, bankSerial := 0 }
    berm := { s.berm with a := {}, b := {} }
    fc := { s.fc with records := [], slotsUsed := 0, freeSlots := [] } }
  let s2 := { s1 with ks := { s1.ks with a := {}, b := {} } }
  (s2.put F.ADR_GEN_NEXT_GEN 0).put F.CW_PAIR_ID_ID 0 |>.put F.CW_PARTNER_KEY_ID_ID 0 |>.put F.CW_PAIR_EPOCH_EPOCH 0 |>.put F.CW_PAIR_TEMPER_TEMPER 0

/-- The tenants of a lowering are gone from both key stores: QUARANTINE, one LOWER fuse, and the erase begins (R489 steps 2 to 4). -/
def State.lowerStep (s : State) : State :=
  let b := s.keyBody
  let held := b.tenants.any fun (e : Nat × TenantKeys) => decide (e.1 ≠ 0) && decide (e.2.st ≠ 0)
  let live := (List.range 4095).any fun t => decide (s.tenantState (t + 1) = 1)
  if !s.rv.lowering ∨ live ∨ held ∨ s.ks.running ∨ !s.ks.pendingChanges.isEmpty ∨ !s.ks.twinWaits.isEmpty ∨ !s.cw.txStaged.isEmpty then s
  else
    let s1 := ({ s with rv := { s.rv with lowering := false, erasing := true } }).enterQuarantine
    let s2 := (s1.put F.RDL_STATUS_LOWERS (s1.get F.RDL_STATUS_LOWERS + 1)).syncReadout
    s2.forEach (List.range 4) fun b a => a.put (F.EFL_BANK_STATUS_STATUS b) (2 ^ 31 + 3 * 2 ^ 28 + b * 2 ^ 22)

/-! The group reset (R502). -/

/-- The group record, the labels, the images and the deep tier gone, and BRINGUP entered again. -/
def State.groupReset (s : State) : State :=
  let s1 := s.releaseImages
  let s2 := { s1 with
    fl := { s1.fl with formed := false, cls := 0, serials := [], failedPos := [], labels := [], rbPos := [], rbNoted := ([], []), rbLeft := [], rbLater := [], rbStripe := 0 }
    cul := { s1.cul with blocks := [], spareArea := [], trans := [], tableAt := [], tableDirty := [], jpend := [], jblocks := [], durTrans := [], durTables := [] }
    deep := [], deepLines := [] }
  let fw := s.pw.firmware
  let s3 := (s2.put F.FL_GROUP_ID_ID 0).clearMap.raise Ev.GROUP_RESET [] |>.enterBringup true false
  { s3 with pw := { s3.pw with firmware := fw } }

end Sys2Proof.Machine
end

