-- ==== Sys2Proof/Machine/FlashOps.lean ====
section
/-! DEFINITION. What the commands of the flash members are built from (R376 to R405). -/

namespace Sys2Proof.Machine

open Sys2Proof

/-! Slots. -/

/-- A module inserted (Table 11.5): its record read and judged; a group is formed when there is none (R394). -/
def State.insertModule (slot record : Nat) (crcOk : Bool) (s : State) : State :=
  let ok := crcOk && recordRanges record
  let s1 := s.put (F.SLOT_STATUS_PRESENT slot) 1 |>.put (F.SLOT_STATUS_STATE slot) 1 |>.put (F.SLOT_STATUS_CAUSE slot) 0
    |>.put (F.SLOT_STATUS_ID_VALID slot) (flag ok) |>.put (F.SLOT_STATUS_POSITION slot) 31 |>.put (F.SLOT_STATUS_ATTEMPTS slot) 0
  let s2 := { s1 with fl := { s1.fl with records := Sparse.set 0 slot (if ok then record % 2 ^ 32768 else 0) s1.fl.records } }
  if !ok ∨ s2.fl.formed then s2.placeModule slot else s2.formGroup

/-- A module removed: the slot is EMPTY, and a position it held is FAILED with cause REMOVED. -/
def State.removeModule (slot : Nat) (s : State) : State :=
  let s1 := if s.holdsPosition slot then s.failSlot slot 0 1
    else ((s.slotOff slot).put (F.SLOT_STATUS_STATE slot) 0 |>.put (F.SLOT_STATUS_CAUSE slot) 0).recomputeFreeboard
  let s2 := s1.put (F.SLOT_STATUS_PRESENT slot) 0 |>.put (F.SLOT_STATUS_ID_VALID slot) 0 |>.put (F.SLOT_STATUS_FLT slot) 0
    |>.put (F.SLOT_STATUS_ATTEMPTS slot) 0
  ({ s2 with fl := { s2.fl with records := Sparse.erase slot s2.fl.records } }).promoteIdle.groupState

/-- The blocks of a slot's module that carry a factory bad-block mark remapped to spare blocks (R389). -/
def State.mapFactory (slot : Nat) (bad : List Nat) (s : State) : State := s.forEach bad fun sb a => a.useSpareBlock slot sb

/-- A slot joins the data as the member of its position: REBUILDING where the group record shows the position so (Table 11.5, R400). -/
def State.joinMember (slot : Nat) (s : State) : State :=
  let p := s.get (F.SLOT_STATUS_POSITION slot)
  let k := flag (s.fl.rbPos.contains p)
  let s1 := s.put (F.SLOT_STATUS_STATE slot) (6 + k) |>.put (F.FL_POSITION_STATE p) k |>.put (F.FL_POSITION_SLOT p) slot
    |>.put (F.SLOT_STATUS_TEMP_OK slot) 1
  (s1.groupState).recomputeFreeboard

/-- The slot holds a member (R395). -/
def State.isMember (slot : Nat) (s : State) : Bool :=
  decide (s.get (F.SLOT_STATUS_STATE slot) = 6) || decide (s.get (F.SLOT_STATUS_STATE slot) = 7)

/-- A write of FAIL_NOW (R396): ignored when the slot is not a member. -/
def State.failNow (slot : Nat) (s : State) : State := if s.isMember slot then s.failSlot slot 8 5 else s

/-! Erases. -/

/-- MAX_PE and AVG_PE of a member over the blocks in use (Table 11.8); a rise of AVG_PE is drawn from pool 12. -/
def State.wearStatus (slot : Nat) (s : State) : State :=
  let used := (s.cul.blocks.filter fun e => e.2.inUse).map fun e => Sparse.get 0 (slot * 2 ^ 19 + e.1) s.fl.erases
  let avg := if used.isEmpty then 0 else used.foldl (· + ·) 0 / used.length
  let old := s.get (F.SLOT_WEAR_AVG_PE slot)
  (s.put (F.SLOT_WEAR_MAX_PE slot) (used.foldl max 0) |>.put (F.SLOT_WEAR_AVG_PE slot) avg).when (decide (old < avg))
    (State.bermDraw 12 slot (avg - old))

/-- A stripe block erased on every position: free, its counts begun anew; an erase that fails on a position remaps the block there
(R389). -/
def State.eraseBlock (sb : Nat) (failed : List Nat) (s : State) : State :=
  let b := s.block sb
  let slots := s.slotsIn 6 ++ s.slotsIn 7
  let s0 := (s.wakeChannels sb).setBlock sb { erase := b.erase + 1 }
  let s1 := { s0 with deep := s0.deep.filter fun e => decide (sbOfDeep (e.1 / 16384) ≠ sb)
                      deepLines := s0.deepLines.filter fun e => decide (sbOfDeep (e.1 / 64) ≠ sb)
                      cul := { s0.cul with spareArea := s0.cul.spareArea.filter fun e => decide (sbOfDeep e.1 ≠ sb) } }
  let s2 := { s1 with fl := { s1.fl with
      erases := slots.foldl (fun e i => Sparse.set 0 (i * 2 ^ 19 + sb) (Sparse.get 0 (i * 2 ^ 19 + sb) e + 1) e) s1.fl.erases
      badPages := s1.fl.badPages.filter fun d => decide (sbOfDeep d ≠ sb)
      rbLeft := s1.fl.rbLeft.filter fun x => decide (x ≠ sb)
      rbLater := s1.fl.rbLater.filter fun x => decide (x ≠ sb)
      rbStripe := if s1.fl.rbLeft.head? = some sb then 0 else s1.fl.rbStripe
      patrolLeft := s1.fl.patrolLeft.filter fun x => decide (x ≠ sb)
      patrolStripe := if s1.fl.patrolLeft.head? = some sb then 0 else s1.fl.patrolStripe } }
  let s3 := s2.forEach failed fun p a =>
    (a.bump (F.SLOT_OP_FAILS_ERASE (a.slotOfPos p)) 1).useSpareBlock (a.slotOfPos p) sb
  ((s3.forEach slots fun i a => a.wearStatus i).rebuildStatus).blockStatus

/-- The image areas of a taken spare erased: it enters REBUILDING as the member of its position (Table 11.5, R400). -/
def State.joinSpare (slot : Nat) (s : State) : State :=
  let p := s.get (F.SLOT_STATUS_POSITION slot)
  if !s.fl.taken.contains slot ∨ !s.isSet (F.SLOT_STATUS_PG slot) then s
  else
    let s1 := { s with fl := { s.fl with
      taken := s.fl.taken.filter fun x => decide (x ≠ slot)
      failedPos := s.fl.failedPos.filter fun x => decide (x ≠ p)
      badPages := s.fl.badPages.filter fun d => decide (posOfDeep d ≠ p)
      serials := Sparse.set 0 p (recSerial (s.record slot)) s.fl.serials } }
    let s2 := s1.put (F.SLOT_STATUS_STATE slot) 7 |>.put (F.FL_POSITION_STATE p) 1 |>.put (F.FL_POSITION_SLOT p) slot
      |>.put (F.SLOT_STATUS_TEMP_OK slot) 1
    ((s2.startRebuild p).groupState).recomputeFreeboard

/-! Rebuild. -/

/-- Programs to the group are allowed now (R239, R405): the Spillway alone ignores the window. -/
def State.programsAllowed (s : State) : Bool := s.isSet F.FL_STATUS_PROG_ALLOWED && s.mode.mainRails && decide (s.mode ≠ .save)

/-- Stripes of a block that hold pages. -/
def State.usedStripes (sb : Nat) (s : State) : Nat := ceilDiv (s.block sb).next s.width

/-- A position's rebuild is complete: its member is ACTIVE. -/
def State.completePosition (p : Nat) (s : State) : State :=
  (s.put (F.FL_POSITION_STATE p) 0 |>.put (F.SLOT_STATUS_STATE (s.slotOfPos p)) 6).groupState

/-- The end of a pass of the rebuild (R400). -/
def State.endPass (s : State) : State :=
  let a := s.get F.FL_REBUILD_STATUS_POSITION_A
  let b := s.get F.FL_REBUILD_STATUS_POSITION_B
  let s1 := (s.completePosition a).put F.FL_REBUILD_STATUS_POSITION_A b |>.put F.FL_REBUILD_STATUS_POSITION_B 31
  if b = 31 then (s1.raise Ev.REBUILD_DONE []).rebuildStatus.noteRebuild
  else if s1.fl.rbLater.isEmpty then
    (((s1.completePosition b).put F.FL_REBUILD_STATUS_POSITION_A 31).raise Ev.REBUILD_DONE []).rebuildStatus.noteRebuild
  else ({ s1 with fl := { s1.fl with rbLeft := s1.fl.rbLater, rbLater := [], rbStripe := 0 } }).rebuildStatus.noteRebuild

/-- A stripe block of the rebuild is done: the cursor is recorded at every 256th (R400). -/
def State.blockRebuilt (s : State) : State :=
  if 256 ≤ s.fl.rbSince + 1 then s.noteRebuild else { s with fl := { s.fl with rbSince := s.fl.rbSince + 1 } }

/-- The rebuild rate in MB/s of main page bytes (R400). -/
def State.rebuildRate (s : State) : Nat :=
  let r := s.get F.FL_REBUILD_CFG_REBUILD_MBPS
  min (if r = 0 then 1500 else r) (3 * s.classField 122 2 / 4)

/-- R_fill in MB/s by the erasures per stripe and whether a rebuild runs (Table 11.7). -/
def State.fillRate (erased : Nat) (rebuilding : Bool) (s : State) : Nat :=
  let m := s.width
  match erased with
  | 0 => 6000 * m
  | 1 => if rebuilding then (6000 * m * (m + 1) - m * (m + 2) * s.rebuildRate) / (2 * m + 1) else 6000 * m * (m + 1) / (2 * m + 1)
  | _ => 2000 * m

/-- The bound of sustained write-back in MB/s (R402). -/
def State.writeBackBound (s : State) : Nat :=
  let r := if s.isSet F.FL_STATUS_REBUILD_ACTIVE then s.rebuildRate else 0
  (s.classField 122 2 - r) * (100 - s.get F.CUL_GC_STATUS_GC_SHARE_PCT) * s.width / 100

/-- A rate of a flash tile with the engines it has left (R387). -/
def engineRate (rate left : Nat) : Nat := if left < 10 then rate * left / 10 else rate

/-! Patrol. -/

/-- The patrol's next stripe: the block, the stripe, and the state moved past it; at the end of a pass FLASH_PATROL_DONE and a new
pass (R403). -/
def State.patrolNext (s : State) : State :=
  match s.fl.patrolLeft with
  | sb :: rest =>
    let st := s.fl.patrolStripe + 1
    let f := if s.usedStripes sb ≤ st then { s.fl with patrolLeft := rest, patrolStripe := 0 } else { s.fl with patrolStripe := st }
    let s1 := { s with fl := f }
    let used := (s1.cul.blocks.filter fun e => e.2.inUse).length
    let s2 := s1.put F.FL_PATROL_PCT (if used = 0 then 100 else (used - min used s1.fl.patrolLeft.length) * 100 / used)
    if s2.fl.patrolLeft.isEmpty then (s2.bump F.FL_PATROL_PASSES 1).raise Ev.FLASH_PATROL_DONE [] else s2
  | [] =>
    let used := (s.cul.blocks.filter fun e => e.2.inUse).map (·.1)
    ({ s with fl := { s.fl with patrolLeft := used, patrolStripe := 0, patrolAt := s.get F.ID_OPERATING_S_SECONDS } }).put
      F.FL_PATROL_PCT 0

/-- An LDPC engine of a tile retired (R387, Berm pool 11). -/
def State.retireEngine (tile : Nat) (s : State) : State :=
  let f := if tile = 0 then F.FL_LDPC_STATUS_ENGINES_T0 else F.FL_LDPC_STATUS_ENGINES_T1
  (((s.put f (s.get f - 1)).raise Ev.LDPC_ENGINE_RETIRED []).bermDraw 11 tile 1).noteUnits

/-! The program temperature window (R404, R405). -/

/-- A case temperature in 0.25 °C steps as a number. -/
def signed16 (v : Nat) : Int := if v < 32768 then (v : Int) else (v : Int) - 65536

/-- A slot's reading lies within its window, drawn in by `margin` °C on both sides. -/
def State.inWindow (slot : Nat) (margin : Int) (s : State) : Bool :=
  let r := s.record slot
  let t := signed16 (s.get (F.SLOT_TEMP_CASE slot))
  decide (4 * (signed8 (recField r 112 1) + margin) ≤ t) && decide (t ≤ 4 * (signed8 (recField r 113 1) - margin)) &&
    !s.isSet (F.SLOT_STATUS_SENSOR_FAIL slot)

/-- Programs paused or resumed (R239, R278, R405). -/
def State.setPause (paused : Bool) (s : State) : State :=
  if s.isSet F.CUL_STATUS_WB_PAUSED = paused then s
  else
    let s1 := (s.put F.CUL_STATUS_WB_PAUSED (flag paused) |>.put F.SLU_STATUS_MARK_RAISED (flag paused)).groupState
    (s1.raise Ev.WRITEBACK_PAUSED [flag paused]).recomputeFreeboard

end Sys2Proof.Machine
end

