-- ==== Sys2Proof/Machine/TierOps.lean ====
section
/-! DEFINITION. What the Culvert's commands are built from: frames, fills, eviction, the journal and relocation (R228 to R257). -/

namespace Sys2Proof.Machine

open Sys2Proof

/-! Fills. -/

/-- The cause with the largest share of a stall, the lower number on a tie (R232). -/
def stallCause (parts : List Nat) : Nat :=
  ((List.range 8).foldl (fun (m : Nat × Nat) c => if m.2 < parts.getD c 0 then (c, parts.getD c 0) else m) (0, 0)).1

/-- A stall's parts added to its causes, in µs (R232). -/
def State.countStall (parts : List Nat) (s : State) : State :=
  (s.forEach (List.range 8) fun c a => a.bump (F.CUL_STALL_US_US c) (parts.getD c 0)).bump (F.CUL_STALL_COUNT_COUNT (stallCause parts)) 1

/-- A fill waits for a frame (R236). -/
def State.frameWaiting (s : State) : Bool := s.cul.fills.any fun f => (s.extent (extentOfPage f.page)).frame.isNone

/-- Frames given to the pinned regions that still lack some, on either side, as they become free (R225). -/
def State.retryPins (s : State) : State :=
  s.forEach s.cul.unframed fun i a =>
    let r := a.region i
    let b := if r.state = 1 ∧ r.policy = 0 then a.pinRegion i r else a
    if r.state = 1 ∧ r.policy = 0 ∧ !b.allFramed i r then b
    else { b with cul := { b.cul with unframed := b.cul.unframed.filter fun x => decide (x ≠ i) } }

/-- Free frames given to the pinned regions and the fills that wait for one, in queue order; FRAME_WAIT ends when none waits. -/
def State.giveFrames (s : State) : State :=
  let s1 := s.retryPins.forEach s.cul.fills fun f a => a.assignFrame (extentOfPage f.page)
  if s1.frameWaiting then s1 else s1.endCond Ev.FRAME_WAIT

/-- The queued fill that is issued next (R230): of the highest class that has one with a frame, in queue order; streams take turns, one page
at a time. -/
def State.nextFill (s : State) : Option FillReq :=
  let ready := s.cul.fills.filter fun f => !f.issued && (s.extent (extentOfPage f.page)).frame.isSome
  let cls := ready.foldl (fun n f => min n f.prio) 5
  let mine := ready.filter fun f => decide (f.prio = cls)
  if cls ≠ 3 then mine.head?
  else
    let later := mine.filter fun f => decide (s.cul.lastStream < f.stream)
    let pool := if later.isEmpty then mine else later
    let next := pool.foldl (fun n f => min n f.stream) (2 ^ 16)
    pool.find? fun f => decide (f.stream = next)

/-- A fill issued to the deep tier: it keeps its place from now on (R228). -/
def State.issueFill (f : FillReq) (s : State) : State :=
  { s with cul := { s.cul with fills := s.cul.fills.map fun x => if x.page = f.page then { x with issued := true } else x
                               lastStream := if f.prio = 3 then f.stream else s.cul.lastStream } }

/-- The fill of a page that lands has been issued, and so have all that the Culvert serves before it (R230). -/
def State.issueUpTo (p : Nat) : Nat → State → State
  | 0, s => s
  | n + 1, s =>
    if s.cul.fills.any fun f => decide (f.page = p) && !f.issued then
      match s.nextFill with
      | some f => issueUpTo p n (s.issueFill f)
      | none => s
    else s

/-- The fill of an unwritten page of a pinned region is no stall (R226). -/
def State.zeroNoStall (p : Nat) (s : State) : Bool :=
  decide ((s.transOf p).st = 0) && (match s.regionOfLine (p * 64) with
    | some i => decide ((s.region i).policy = 0)
    | none => false)

/-- The lines of a landing page that nothing newer stands for. -/
def State.staleLines (p : Nat) (s : State) : List Nat := (pageLines p).filter fun l => !(s.lineMeta l).dirty

/-- The read of a MAPPED page (R229, R391, R401): the state after it, and whether the page can be entered into its frame. -/
def State.readDeep (p : Nat) (bad : List Nat) (ecc : DeepEcc) (s : State) : State × Bool :=
  let deep := (s.transOf p).deep
  let sb := sbOfDeep deep
  let stripe := stripeOfDeep deep
  let pos := posOfDeep deep
  let ps := bad.filter fun x => decide (x < s.width + 2)
  let er := s.erasures sb stripe ps
  let s1 := (s.forEach ps fun x a => a.noteUce (a.slotOfPos x) sb).countRead sb |>.wakeChannels sb
  let s2 := s1.noteLdpc sb ecc
  let fin (a : State) : State := a.forEach ps fun x b => b.checkUce (b.slotOfPos x)
  if er.contains pos ∧ 2 < er.length then
    let s3 := s2.loseStripe sb stripe er
    (fin s3, !(s3.fl.repairs.any fun r => decide (r.2.1 = p)))
  else
    let own := er.contains pos
    let s3 := if own then s2.reconstructed 1 else s2
    let s4 := s3.forEach (s3.staleLines p) fun l a =>
      let m := a.lineMeta l
      a.setMeta l { m with repaired := own || (Sparse.get {} (deep * 64 + l % 64) a.deepLines).repaired }
    (fin (s4.bump F.CUL_FILL_BYTES_COUNT 16384), true)

/-- A page enters its frame by 64 writes of its channel: PRESENT, with its fill gone and its extent's ACCESS bit set (Table 7.3, R235). -/
def State.landPage (p : Nat) (s : State) : State :=
  let g := s.page p
  let x := extentOfPage p
  let s1 := (s.setPage p { g with st := if g.wrote then 3 else 2, wrote := false }).setExtent x { s.extent x with access := true }
  ({ s1 with cul := { s1.cul with fills := s1.cul.fills.filter fun f => decide (f.page ≠ p) } }).forEach (pageLines p) fun l a => a.enqueue true l

/-- The zero fill of an unwritten page and the poisoned fill of a lost one (R229). -/
def State.fillOther (p : Nat) (s : State) : State :=
  s.forEach (s.staleLines p) fun l a =>
    if (a.transOf p).st = 2 then a.setMeta l { a.lineMeta l with poison := true, psrc := 2, gen := a.writeGen l }
    else (a.setMeta l {}).zeroLine l

/-- The lines of a page that a read or a partial write waits for. -/
def State.awaitedLines (p : Nat) (s : State) : List Nat :=
  (pageLines p).filter fun l => (s.reads.any fun r => r.missed && decide (lineOf r.addr = l)) ||
    (s.merges.any fun m => decide (m.line = l))

/-- Streams and pin fills looked at after pages became PRESENT (R245, R249). -/
def State.afterFill (s : State) : State :=
  (s.forEach (s.cul.streams.map (·.1)) fun j a => a.checkWindow j).checkPinFills

/-! Eviction. -/

/-- POLICY of the region that holds an extent. -/
def State.extentPolicy (x : Nat) (s : State) : Nat :=
  match s.regionOfLine (x * 8192) with
  | some i => (s.region i).policy
  | none => 0

/-- The eviction candidates of a class of R235: extents with a frame that are neither pinned nor held by a window. -/
def State.candidates (cls : Nat) (s : State) : List Nat :=
  (s.cul.extents.filter fun e => e.2.frame.isSome && !e.2.pin && decide (e.2.windows = 0) && (match cls with
    | 1 => decide (e.2.released ≠ 0)
    | 2 => decide (e.2.released = 0) && decide (s.extentPolicy e.1 = 2)
    | _ => decide (e.2.released = 0) && decide (s.extentPolicy e.1 = 1))).map (·.1)

/-- One turn of the clock over candidates in ascending order, from the hand on: the set ACCESS bits it clears, and the extent it takes
(R235). -/
def State.clock (xs : List Nat) (s : State) : Option Nat × State :=
  let order := xs.filter (fun x => decide (s.cul.hand ≤ x)) ++ xs.filter (fun x => decide (x < s.cul.hand))
  let passed := order.takeWhile fun x => (s.extent x).access
  let take := match order.drop passed.length with
    | x :: _ => some x
    | [] => order.head?
  let s1 := s.forEach passed fun x a => a.setExtent x { a.extent x with access := false }
  (take, { s1 with cul := { s1.cul with hand := match take with
    | some x => x + 1
    | none => s1.cul.hand } })

/-- The candidate R235 takes next. -/
def State.nextVictim (s : State) : Option Nat × State :=
  match s.candidates 1 with
  | x :: t => (some (t.foldl (fun m y => if (s.extent y).released < (s.extent m).released then y else m) x), s)
  | [] => match s.candidates 2 with
    | x :: t => s.clock (x :: t)
    | [] => s.clock (s.candidates 3)

/-- An extent may leave the extent map now: every page ABSENT or CLEAN, and nothing waits for a line of it (R227, R236). -/
def State.droppable (x : Nat) (s : State) : Bool :=
  ((List.range 128).all fun i => let st := (s.page (x * 128 + i)).st; decide (st = 0) || decide (st = 2)) &&
    !(s.reads.any fun r => r.missed && decide (lineOf r.addr / 8192 = x)) &&
    !(s.merges.any fun m => decide (m.line / 8192 = x)) && !(s.victims.any fun l => decide (l / 8192 = x))

/-- An extent a drain evicts: on a DRAINING channel, neither pinned nor held by a window (R368). -/
def State.drainEvicts (x : Nat) (s : State) : Bool :=
  let e := s.extent x
  !e.pin && decide (e.windows = 0) && (match e.frame with
    | some f => decide (s.get (F.CH_STATUS_STATE (f % 16)) = 3)
    | none => false)

/-- Chosen for eviction still: a write or a read since then passes an extent by that the clock had taken (R235). -/
def State.marked (x : Nat) (s : State) : Bool :=
  let e := s.extent x
  s.drainEvicts x || (e.evict && decide (e.windows = 0) && !e.pin && (decide (e.released ≠ 0) || !e.access))

/-- Eviction starts below EVICT_LOW_PERMIL of free frames and goes on to EVICT_HIGH_PERMIL (R235). -/
def State.evictState (s : State) : State :=
  let free := s.get F.CUL_FRAMES_FREE_COUNT * 1000
  let all := s.get F.CUL_FRAMES_COUNT
  let on := if free < s.get F.CUL_EVICT_CFG_EVICT_LOW_PERMIL * all then true
    else if s.get F.CUL_EVICT_CFG_EVICT_HIGH_PERMIL * all ≤ free then false else s.cul.evicting
  { s with cul := { s.cul with evicting := on } }

/-! Write-back. -/

/-- The DIRTY pages of extents chosen for eviction: the first class of R237. -/
def State.firstClass (p : Nat) (s : State) : Bool := s.marked (extentOfPage p)

/-- A DIRTY page may be captured now (R237). -/
def State.mayCapture (p : Nat) (s : State) : Bool :=
  let dirty := s.cul.pages.filter fun e => decide (e.2.st = 3)
  let open_ := decide (s.get F.SLU_STATUS_STATE = 0) && decide (2 * s.dirtyBytes < s.freeboard)
  let g := s.page p
  if s.firstClass p then true
  else if dirty.any fun e => s.firstClass e.1 then false
  else (dirty.all fun e => decide (g.oldest ≤ e.2.oldest)) &&
    (!open_ || decide (msFc (s.get F.CUL_WB_CFG_WB_MIN_AGE_MS) ≤ s.now - g.oldest))

/-- A line of a page that is captured: cleaned when the front cache holds it newer, then read from DRAM into staging (R207, R238). -/
def State.captureLine (line : Nat) (s : State) : State :=
  let s1 := s.when (s.frontLine line).frontDirty (State.writeBack line)
  ((s1.cleanLine line).enqueue false line).served false line

/-- What the spare area of a deep-tier page carries for a page's write (R252). -/
def State.noteSpare (p deep : Nat) (s : State) : State :=
  { s with cul := { s.cul with
      spareArea := Sparse.set (0, 0) deep (p * 16384, s.cul.jseq + s.cul.jpend.length / 252) s.cul.spareArea } }

/-- A captured page written to the deep tier: its copy, the lines it clears and the page's next state (R238, R252). -/
def State.endCapture (c : Capture) (deep : Nat) (s : State) : State :=
  let p := c.page
  let g := s.page p
  let gone := (pageLines p).filter fun l => (s.lineMeta l).dirty && !g.redirty.contains l
  let s1 := ((s.noteSpare p deep).setTrans p 1 deep).forEach gone fun l a => (a.grant l 6).setMeta l { a.lineMeta l with dirty := false }
  let s2 := s1.setPage p { g with st := if g.redirty.isEmpty then 2 else 3, redirty := [] }
  let clean := c.metas.map fun (e : Nat × LineMeta) => (e.1, { e.2 with dirty := false, pend := 0, ver := 0 })
  ({ s2 with
      deep := Sparse.setAll 0 (moved (p * 16384) (deep * 16384) c.cells) (Sparse.clear (deep * 16384) (deep * 16384 + 16384) s2.deep)
      deepLines := Sparse.setAll {} (moved (p * 64) (deep * 64) clean) (Sparse.clear (deep * 64) (deep * 64 + 64) s2.deepLines)
      cul := { s2.cul with captures := s2.cul.captures.filter fun x => decide (x.page ≠ p) }
      ssb := { s2.ssb with drained := s2.ssb.drained + gone.length } }).bump F.CUL_WB_BYTES_COUNT 16384

/-! The journal and the translation table. -/

/-- One journal entry replayed on the translation that the deep tier gives (R296). -/
def Culvert.replay (c : Culvert) (e : JEntry) : Culvert :=
  match e.kind with
  | 1 => { c with durTrans := Sparse.set {} (e.addr / 16384) { st := 1, deep := e.value % 2 ^ 35 } c.durTrans }
  | 2 => { c with durTrans := Sparse.set {} (e.addr / 16384) {} c.durTrans }
  | 3 => { c with durTrans := Sparse.set {} (e.addr / 16384) { st := 2 } c.durTrans }
  | _ => { c with durTables := Sparse.set 0 e.addr (e.value + 1) c.durTables }

/-- CUL_JOURNAL_FILL, and JOURNAL_PRESSURE at 75 % (R254). -/
def State.journalStatus (s : State) : State :=
  let pct := if Config.journalArea = 0 then 0 else min 100 (100 * s.cul.jblocks.length / Config.journalArea)
  let old := s.get F.CUL_JOURNAL_FILL_PCT
  let s1 := s.put F.CUL_JOURNAL_FILL_PCT pct
  if 75 ≤ pct ∧ old < 75 then s1.raise Ev.JOURNAL_PRESSURE []
  else if pct < 75 ∧ 75 ≤ old then s1.endCond Ev.JOURNAL_PRESSURE else s1

/-- A journal entry on the deep tier: what a replay gives of its page (R253, R296). -/
def State.makeDurable (e : JEntry) (s : State) : State :=
  { s with cul := s.cul.replay e }

/-- A written table page holds a journal entry's change. -/
def State.tableHolds (e : JEntry) (s : State) : Bool :=
  decide (e.kind = 4) ||
    (let m := Sparse.get 0 (e.addr / 16384 / 2048) s.cul.tableDirty
     decide (m = 0) || decide (e.at_ + 1 < m))

/-- The journal truncated behind the oldest change that no written table page holds (R254). -/
def State.truncateJournal (s : State) : State :=
  ({ s with cul := { s.cul with jblocks := s.cul.jblocks.dropWhile fun b => b.entries.all fun e => s.tableHolds e } }).journalStatus

/-- The number of a table page: 32 pages to a table slot (R250, R254). -/
def State.tablePageNumber (tp : Nat) (s : State) : Option Nat :=
  match Sparse.get 0 (tp / 32) s.cul.slots with
  | 0 => none
  | n + 1 => some (n * 32 + tp % 32)

/-- A table page placed at a deep-tier page, journalled (KIND 4). -/
def State.placeTable (tp n deep : Nat) (s : State) : State :=
  { s with cul := { s.cul with tableAt := Sparse.set 0 tp (deep + 1) s.cul.tableAt
                               jpend := s.cul.jpend ++ [⟨n, 4, deep, s.now⟩] } }

/-! Relocation. -/

/-- A valid page moved: its new entry is committed while it still names the old location (R255). -/
def State.moveData (p : Nat) (s : State) : State :=
  match s.takePage true with
  | none => s
  | some t =>
    let o := (t.2.transOf p).deep
    let d := t.1
    let s1 := { t.2 with
      deep := Sparse.setAll 0 (moved (o * 16384) (d * 16384) (Sparse.slice (o * 16384) (o * 16384 + 16384) t.2.deep))
        (Sparse.clear (d * 16384) (d * 16384 + 16384) t.2.deep)
      deepLines := Sparse.setAll {} (moved (o * 64) (d * 64) (Sparse.slice (o * 64) (o * 64 + 64) t.2.deepLines))
        (Sparse.clear (d * 64) (d * 64 + 64) t.2.deepLines) }
    ((s1.noteSpare p d).setTrans p 1 d).bump F.CUL_GC_BYTES_COUNT 16384

/-- A valid table page moved. -/
def State.moveTable (tp : Nat) (s : State) : State :=
  match s.takePage true with
  | none => s
  | some t => ((match t.2.tablePageNumber tp with
      | some n => t.2.placeTable tp n t.1
      | none => { t.2 with cul := { t.2.cul with tableAt := Sparse.set 0 tp 0 t.2.cul.tableAt } })).bump F.CUL_GC_BYTES_COUNT 16384

/-- The valid pages of a stripe block moved to the open block for collected data; once none is left the block waits to be erased. -/
def State.relocate (sb : Nat) (s : State) : State :=
  let s1 := s.forEach (s.validPages sb) fun p a => a.moveData p
  let s2 := s1.forEach (s1.validTables sb) fun t a => a.moveTable t
  if (s2.validPages sb).isEmpty && (s2.validTables sb).isEmpty then (s2.setBlock sb { s2.block sb with st := 6 }).blockStatus else s2

/-- The better victim of two blocks by (1 − u) × age ÷ (1 + u) (R255): a first block stays where the scores are equal. -/
def State.betterVictim (a b : Nat) (s : State) : Nat :=
  let c := s.sbPages
  let v (x : Nat) : Nat := (s.validPages x).length + (s.validTables x).length
  let age (x : Nat) : Nat := s.now - (s.block x).lastProgram
  if (c - v a) * age a * (c + v b) < (c - v b) * age b * (c + v a) then b else a

/-- The block collection takes (R255, R257): one queued for relocation, else at or below FREE_LOW_PERMIL the full block with the
highest score. -/
def State.gcVictim (s : State) : Option Nat :=
  match s.cul.blocks.find? fun e => decide (e.2.st = 4) with
  | some e => some e.1
  | none =>
    if s.get F.CUL_GC_CFG_FREE_LOW_PERMIL < s.get F.CUL_GC_STATUS_FREE_PERMIL then none
    else match (s.cul.blocks.filter fun e => decide (e.2.st = 3)).map (·.1) with
      | [] => none
      | x :: t => some (t.foldl (fun m y => s.betterVictim m y) x)

end Sys2Proof.Machine
end

