-- ==== Sys2Proof/Machine/SpillOps.lean ====
section
/-! DEFINITION. What the commands of the Spillway and of restore are built from (R280 to R300). -/

namespace Sys2Proof.Machine

open Sys2Proof

/-! The image (R283 to R293). -/

/-- The partial writes that wait for their lines and go into PENDING, in acceptance order. -/
def State.waitingWrites (s : State) : List MergeRec := s.merges.filter fun m => !m.replaced

/-- A dirty line goes into LINES: all but those that only a waiting partial write makes dirty. -/
def State.imageHolds (line : Nat) (s : State) : Bool :=
  match s.waitingWrites.find? fun m => decide (m.line = line) with
  | some m => m.dirty
  | none => true

/-- The save cannot read a line: its channel has failed (R370) and the front cache does not hold it (DESIGN CHOICE, log entry 43). -/
def State.imageLost (line : Nat) (s : State) : Bool :=
  decide (s.get (F.CH_STATUS_STATE (s.channelOf line)) = 5) && !s.resident line

/-- The LINES entries: every dirty line in ascending order; one the save cannot read is poisoned. -/
def State.imageLines (s : State) : List (Nat × LineMeta × LineData) :=
  (s.lines.filter fun e => e.2.dirty && s.imageHolds e.1).map fun e =>
    (e.1, { e.2 with pend := 0, ver := 0, poison := e.2.poison || s.imageLost e.1 }, s.lineData e.1)

/-- An operation as its queue is saved (R54): a COPY or ZERO with its progress, finished work without a mirror frame to wait for, and
everything else as not started. -/
def savedOp (o : OpRec) : OpRec :=
  let o1 := { o with cover := 0, mseq := 0, wait := 0, got := [], awaits := [] }
  match o.phase with
  | .assembling | .finishing => o1
  | .running => if [1, 2, 3, 8].contains (dOpcode o.desc) then o1 else { o1 with phase := .ready }
  | _ => { o1 with phase := .ready }

/-- A queue-pair context as the spill store holds it (R147): what the engine alone held of its messages and answers is gone (Table 1.2). -/
def savedQp (p : Qp) : Qp := { p with msg := none, answers := [], nakSent := false, rnr := false }

/-- A queue as the image holds it (Table 8.11): fetching resumes at its consumed position. -/
def savedQueue (k : Queue) : Queue :=
  { k with asked := k.expected - 1, ops := k.ops.map savedOp, hSent := k.horizon, hFrames := [], scope := 0,
           doneSeqs := k.doneSeqs.map fun (e : Nat × Nat × Nat) => (e.1, e.2.1, 0) }

/-- The register offsets of the ring blocks of the logical devices. -/
def ringBlock (off : Nat) : Bool := decide (0x100000 ≤ off) && decide (off < 0x200000)

/-- The regions that rotate, with PREV_GEN, KEY_GEN and the cursor. -/
def State.rotationItems (s : State) : List (Nat × Nat × Nat × Nat) :=
  (s.regions.filter fun e => e.2.rotating).map fun e => (e.1, e.2.prevGen, e.2.keyGen, s.get (F.ROT_CURSOR_EXTENT e.1))

/-- The mirror SEQ of the last HORIZON frame sent. -/
def State.lastHorizonSeq (s : State) : Nat :=
  s.queues.foldl (fun m e => e.2.hFrames.foldl (fun n f => max n f.1) m) 0

/-- The sealed image of the Polder as it stands. -/
def State.sealedImage (s : State) : Image :=
  { seq := s.get F.SPW_IMAGE_SEQ_SEQ, sealed := true, width := s.mEff, jseq := s.cul.jseq - 1,
    freeboard := s.get F.FB_STATUS_FREEBOARD_GIB, psave := s.get F.FB_PSAVE_W, rsave := s.get F.FB_RSAVE_MBPS,
    outOfRange := s.ssb.outOfRange, lines := s.imageLines,
    pending := s.waitingWrites.map fun m => ⟨m.line, m.mask, m.data⟩,
    journal := if s.cul.jpend.isEmpty then [] else [⟨s.cul.jseq, s.cul.jpend⟩],
    queues := (s.queues.filter fun e => e.2.live).map fun (e : Nat × Queue) => (e.1, savedQueue e.2),
    streams := s.cul.streams.filter fun e => decide (e.2.st ≠ 0), rotations := s.rotationItems,
    counters := [s.get F.ADR_GEN_NEXT_GEN, s.get F.CW_CKPT_SEQ_SEQ, s.lastHorizonSeq],
    ringRegs := s.regs.filter fun e => ringBlock (e.1 / 64),
    qps := (s.eth.qps.filter fun e => decide (e.2.state ≠ 0)).map fun (e : Nat × Qp) => (e.1, savedQp e.2), horizons := s.cw.rxHorizons, commit := {} }

/-- The most bytes of payload a PENDING or META record carries (R320), and the PENDING entries of 296 B that fit (R290). -/
def recordLimit : Nat := 2 ^ 24
/-- The PENDING entries one record carries. -/
def pendingPerRecord : Nat := recordLimit / 296

/-- `n` things split into groups of at most `k`: the sizes of the groups. -/
def splitSizes (n k : Nat) : List Nat := (List.range (ceilDiv n k)).map fun i => min k (n - i * k)

/-- The codewords of a sealed record of `n` bytes of payload: header, payload and GCM tag (R287). -/
def sealedCodewords (n : Nat) : Nat := ceilDiv (64 + n + 16) 4096

/-- The COMMIT of an image (Table 8.12): its records are IMAGE_HEADER, LINES of up to 160 lines, and PENDING and META split at 16 MiB (R289,
R320); the length of the META items, whose bodies the spec does not lay out, is a free value (log entry 147). -/
def Image.withCommit (im : Image) (meta_ us energy : Nat) : Image :=
  let ls := splitSizes im.lines.length 160
  let ps := splitSizes im.pending.length pendingPerRecord
  let ms := splitSizes meta_ recordLimit
  let sum (l : List Nat) : Nat := l.foldl (fun a b => a + b) 0
  { im with commit :=
      { records := 1 + ls.length + ps.length + ms.length
        codewords := 1 + sum (ls.map fun n => 1 + ceilDiv n 16) + sum (ps.map fun n => sealedCodewords (296 * n)) + sum (ms.map sealedCodewords)
        lines := im.lines.length, pending := im.pending.length, durationUs := us, energyJ := energy } }

/-- A member lies outside its program temperature window (R285). -/
def State.memberOut (s : State) : Bool := (s.slotsIn 6 ++ s.slotsIn 7).any fun i => !s.isSet (F.SLOT_STATUS_TEMP_OK i)

/-- The image sealed: the area's content, the pointer and the registers of the last save. -/
def State.sealImage (us energy : Nat) (s : State) : State :=
  let d := s.draw 32
  let s0 : State := { d.2 with ssb := { d.2.ssb with outOfRange := d.2.ssb.outOfRange || d.2.memberOut } }
  let im := s0.sealedImage.withCommit d.1 (min us (2 ^ 32 - 1)) (min energy (2 ^ 20 - 1))
  let s1 := if s0.ssb.area = 0 then { s0 with ssb := { s0.ssb with imageA := some im } }
    else { s0 with ssb := { s0.ssb with imageB := some im } }
  let s2 := s1.put F.SPW_STATUS_PHASE 5 |>.put F.SPW_STATUS_OUT_OF_RANGE (flag im.outOfRange) |>.put F.SPW_STATUS_LAST_SEALED 1
    |>.put F.SPW_STATUS_IMAGE_HELD 1 |>.put F.SPW_LAST_US_US (min us (2 ^ 32 - 1)) |>.put F.SPW_LAST_ENERGY_J_J (min energy (2 ^ 20 - 1))
    |>.put F.SPW_LAST_LINES_LINES im.lines.length |>.bump F.SPW_SEALED_COUNT_COUNT 1
  let s3 := if s2.pinUncleared then { s2 with fc := { s2.fc with latch := true } } else s2
  (s3.raise Ev.SAVE_SEALED []).when im.outOfRange (State.raise Ev.SAVE_OUT_OF_RANGE [])

/-- What follows the seal (R300): a ramp-down when a save-needed rail is lost, or after the shutdown temperature or SHUTDOWN unless
a CHIP reaction was held; otherwise the wait for PFAIL_N. -/
def State.afterSeal (s : State) : State :=
  if s.railsLost then s.rampDown 0
  else if 4 ≤ s.ssb.saveCause ∧ !s.pw.chipHeld then s.rampDown (if s.ssb.saveCause = 5 then 3 else 0)
  else s

/-! Restore (R294 to R298). -/

/-- The image to restore: of the areas not released, the one of the highest IMAGE_SEQ (R294). -/
def State.chosenImage (s : State) : Option Image :=
  match s.ssb.imageA, s.ssb.imageB with
  | some a, some b => some (if a.seq < b.seq then b else a)
  | some a, none => some a
  | none, b => b

/-- R298: a dirty shutdown, the image released, the orderly-shutdown mark set. -/
def State.unsealedRestore (s : State) : State :=
  let s1 := { s with ssb := { s.ssb with imageA := none, imageB := none, orderly := true, restoring := none,
                                         dirtyShutdowns := s.ssb.dirtyShutdowns + 1 } }
  let s2 := { s1 with cw := { s1.cw with unsealed := true, mapSet := [] } }
  (s2.put F.SPW_STATUS_IMAGE_HELD 0 |>.put F.CW_STATUS_MAP_VALID 0 |>.bump F.SPW_UNSEALED_COUNT_COUNT 1).raise Ev.SAVE_UNSEALED []

/-- A lost range of lines restored as poison, as far as a region holds them (R297). -/
def State.poisonRange (first count : Nat) (s : State) : State :=
  let ls := ((List.range count).map (first + ·)).filter fun l => (s.regionOfLine l).isSome
  let entry (l : Nat) : Nat × LineMeta × LineData := (l, { gen := s.writeGen l, poison := true, psrc := 2 }, 0)
  let cut (im : Image) : Image := { im with lines := (im.lines.filter fun e => !ls.contains e.1) ++ ls.map entry }
  let s1 := { s with ssb := { s.ssb with restoring := s.ssb.restoring.map cut } }
  (s1.put F.RST_STATUS_DAMAGED 1 |>.bump F.RST_LINES_POISONED_COUNT ls.length).raise Ev.RESTORE_DAMAGED [first * 256, count]

/-- SCAN ends (R294, R295): the image chosen, or R298. -/
def State.endScan (repaired ignored : Nat) (s : State) : State :=
  let s1 := match s.chosenImage with
    | some im =>
      if im.sealed then
        let a := { s with ssb := { s.ssb with restoring := some im } }
        let b := a.put F.RST_STATUS_REVERIFY (flag im.outOfRange) |>.bump F.RST_CW_REPAIRED_COUNT repaired
          |>.bump F.RST_SYNC_IGNORED_COUNT ignored
        b.when (decide (0 < repaired)) (State.raise Ev.RESTORE_CW_REPAIRED [])
      else s.unsealedRestore
    | none => if s.ssb.orderly then s else s.unsealedRestore
  s1.put F.RST_STATUS_PHASE 2

/-- A table page's place by its number: the page range of the slot that holds its table slot. -/
def State.tableOfNumber (n : Nat) (s : State) : Option Nat :=
  (s.cul.slots.find? fun e => decide (e.2 = n / 32 + 1)).map fun e => e.1 * 32 + n % 32

/-- The translation table rebuilt (R296): the deep tier's table pages and journal, then the image's journal blocks, whose entries wait
to be journalled again; the bytes and line states of the pages it maps. -/
def State.rebuildTable (s : State) : State :=
  let extra := match s.ssb.restoring with
    | some im => (im.journal.map fun b => b.entries).flatten
    | none => []
  let c := extra.foldl (fun c e => Culvert.replay c e) s.cul
  let tables := c.durTables.foldl (fun t (e : Nat × Nat) => match s.tableOfNumber e.1 with
    | some tp => Sparse.set 0 tp e.2 t
    | none => t) ([] : Sparse Nat)
  let open_ := ((s.cul.jblocks.map fun b => b.entries).flatten ++ extra).filter fun e => decide (e.kind ≠ 4)
  let dirty := open_.foldl (fun t e => if Sparse.get 0 (e.addr / 16384 / 2048) t = 0 then Sparse.set 0 (e.addr / 16384 / 2048) (e.at_ + 1) t else t)
    ([] : Sparse Nat)
  let mapped := c.durTrans.filter fun e => decide (e.2.st = 1)
  let mem := (mapped.map fun (e : Nat × Trans) => moved (e.2.deep * 16384) (e.1 * 16384)
    (Sparse.slice (e.2.deep * 16384) (e.2.deep * 16384 + 16384) s.deep)).flatten
  let metas := (c.durTrans.map fun (e : Nat × Trans) =>
    if e.2.st = 1 then moved (e.2.deep * 64) (e.1 * 64) (Sparse.slice (e.2.deep * 64) (e.2.deep * 64 + 64) s.deepLines)
    else (pageLines e.1).map fun l => (l, ({ gen := s.writeGen l, poison := true, psrc := 2 } : LineMeta))).flatten
  { s with mem := Sparse.setAll 0 mem [], lines := Sparse.setAll {} metas []
           cul := { s.cul with trans := c.durTrans, tableAt := tables, tableDirty := dirty, jpend := extra } }

/-- The distinct pages of line numbers in ascending order. -/
def pagesOf (ls : List Nat) : List Nat := (ls.map pageOfLine).eraseDups

/-- One saved line written as stored over its page (R296). -/
def State.restoreLine (e : Nat × LineMeta × LineData) (s : State) : State :=
  (s.storeLine e.1 fullMask e.2.2).setMeta e.1 { e.2.1 with dirty := true, restored := true }

/-- The LINES phase begins: the saved lines are dirty, their pages filled unless they are whole. -/
def State.startLines (s : State) : State :=
  match s.ssb.restoring with
  | none => s
  | some im =>
    let s1 := (s.forEach im.lines fun e a => a.restoreLine e).notePeak
    s1.forEach (pagesOf (im.lines.map fun e => e.1)) fun p a =>
      let whole := decide ((im.lines.filter fun e => decide (pageOfLine e.1 = p)).length = 64)
      if whole then
        let b := a.assignFrame (extentOfPage p)
        if (b.extent (extentOfPage p)).frame.isSome then b.setPage p { st := 3, oldest := b.now }
        else (b.requestFill p 1).setPage p { (b.requestFill p 1).page p with wrote := true, oldest := b.now }
      else
        let b := a.requestFill p 1
        b.setPage p { b.page p with wrote := true, oldest := b.now }

/-- The LINES phase has no page left to fill. -/
def State.linesDone (s : State) : Bool :=
  match s.ssb.restoring with
  | none => true
  | some im => (pagesOf (im.lines.map fun e => e.1)).all fun p => s.present p

/-- A PENDING entry presented to its home agent (R290, R296). -/
def State.restorePending (e : PendEntry) (s : State) : State :=
  s.acceptWrite { src := .hub, tenant := 0, line := e.line, mask := e.mask, data := e.data, poison := false, readOnly := false,
                  entered := s.now }

/-- The PENDING phase begins. -/
def State.startPending (s : State) : State :=
  match s.ssb.restoring with
  | none => s
  | some im => s.forEach im.pending fun e a => a.restorePending e

/-- The lines of PENDING entries that still wait, and whose pages are PRESENT. -/
def State.pendingArrivals (s : State) : List Nat :=
  ((s.merges.filter fun m => s.present (pageOfLine m.line)).map fun m => m.line).eraseDups

/-- A queue of the image put back (R54). -/
def State.restoreQueue (q : Nat) (k : Queue) (s : State) : State :=
  s.setQueue q { k with incarnation := max k.incarnation (s.queue q).incarnation }

/-- The queue-pair contexts of the image put back, those of command queue pairs into the cache, and the acknowledged horizons (R15, R39,
R147). -/
def State.restoreQps (im : Image) (s : State) : State :=
  let s1 := { s with cw := { s.cw with rxHorizons := im.horizons } }
  s1.forEach im.qps fun e a =>
    let b := a.setQp e.1 e.2
    if e.2.cmd then b.cacheQp e.1 else b

/-- SETTLE begins (R296): META applied, pinned regions given their frames and pin fills. -/
def State.startSettle (s : State) : State :=
  let s1 := match s.ssb.restoring with
    | none => s
    | some im =>
      let a := (s.restoreQps im).forEach im.queues fun e b => b.restoreQueue e.1 e.2
      let ring := im.ringRegs.foldl (fun t (e : Nat × Nat) => Sparse.insert e.1 e.2 t) a.regs
      let b := { a with regs := ring }
      let c := b.forEach im.streams fun e x => x.changeStream e.1 e.2
      let d := c.forEach im.rotations fun e x =>
        if (x.region e.1).rotating then x.put (F.ROT_CURSOR_ACTIVE e.1) 1 |>.put (F.ROT_CURSOR_EXTENT e.1) e.2.2.2 else x
      d.put F.ADR_GEN_NEXT_GEN (max (d.get F.ADR_GEN_NEXT_GEN) (im.counters.getD 0 0)) |>.put F.CW_CKPT_SEQ_SEQ (im.counters.getD 1 0)
  s1.forEach (s1.regions.filter fun e => decide (e.2.state = 1) && decide (e.2.policy = 0)) fun e a =>
    (a.pinRegion e.1 e.2).startPinFill e.1

end Sys2Proof.Machine
end

