-- ==== Sys2Proof/Machine/DramOps.lean ====
section
/-! DEFINITION. What the commands of the DRAM channels are built from: placement, drains, spares and ranks (R346 to R371). -/

namespace Sys2Proof.Machine

open Sys2Proof

/-! Placement (R351 to R353). -/

/-- A value the configuration leaves at 0 read as its default. -/
def orDefault (v d : Nat) : Nat := if v = 0 then d else v

/-- The channels IN_SERVICE. -/
def State.channelsIn (s : State) : List Nat := (List.range 16).filter fun c => decide (s.get (F.CH_STATUS_STATE c) = 2)

/-- `n` things handed out one at a time in order to places with room left, as (place, room). -/
def spread : Nat → Nat → List (Nat × Nat) → List (Nat × Nat)
  | 0, _, l => l.map fun e => (e.1, 0)
  | fuel + 1, n, l =>
    let open_ := l.filter fun e => decide (0 < e.2)
    if n = 0 ∨ open_.isEmpty then l.map fun e => (e.1, 0)
    else
      let q := n / open_.length
      let give (e : Nat × Nat) : Nat := if q = 0 then (if ((open_.take n).map fun x => x.1).contains e.1 then 1 else 0) else min q e.2
      let used := l.foldl (fun m e => m + give e) 0
      let rest := spread fuel (n - used) (l.map fun e => (e.1, e.2 - give e))
      l.map fun e => (e.1, give e + ((rest.find? fun x => decide (x.1 = e.1)).map (·.2)).getD 0)

/-- The reserved pages (Table 7.1): the translation table and 1 GiB. -/
def State.reservedPages (s : State) : Nat := s.get F.CUL_DEEP_USABLE_GIB_GIB * 32 + 65536

/-- The registers that sum over the channels (Table 10.6, R222, R349). -/
def State.dramStatus (s : State) : State :=
  let inn := s.channelsIn
  let frames := ((List.range 16).filter fun c => decide (s.get (F.CH_STATUS_STATE c) = 2) || decide (s.get (F.CH_STATUS_STATE c) = 3)).foldl
    (fun n c => n + s.get (F.CH_FRAMES_COUNT c)) 0
  (s.put F.DRC_STATUS_IN_SERVICE (inn.foldl (fun n c => n + 2 ^ c) 0)
    |>.put F.DRC_CAPACITY_GIB (inn.foldl (fun n c => n + s.get (F.CH_CAPACITY_GIB c)) 0)
    |>.put F.DRC_SAVE_W_W (s.dram.saveW.foldl (fun n e => n + e.2) 0)
    |>.put F.CUL_FRAMES_COUNT (frames - s.dram.reservedFrames.length)).syncFree

/-- The reserved pages placed on the channels IN_SERVICE (R353): one at a time in channel order, the last of them moved so that what is
left of each channel is whole frames (log entry 32). -/
def State.placeFrames (s : State) : State :=
  let cs := s.channelsIn
  let pages (c : Nat) : Nat := s.get (F.CH_CAPACITY_GIB c) * 65536
  let first := spread 40 s.reservedPages (cs.map fun c => (c, pages c))
  let loose := first.foldl (fun n e => n + e.2 % 128) 0
  let more := spread 40 (ceilDiv loose 128) (first.map fun e => (e.1, (pages e.1 - e.2 / 128 * 128) / 128))
  let s1 := s.forEach first fun e a =>
    let b := e.2 / 128 * 128 + 128 * ((more.find? fun x => decide (x.1 = e.1)).map (·.2)).getD 0
    ({ a with dram := { a.dram with base := Sparse.set 0 e.1 b a.dram.base } }).put (F.CH_FRAMES_COUNT e.1) ((pages e.1 - b) / 128)
  s1.dramStatus

/-- The frames of every pinned region of both sides, with the service regions of both (R77, R371). -/
def State.pinnedNeed (s : State) : Nat :=
  s.pinnedFrames + ([0, 1].filter fun sd => decide ((s.region (recIdx sd 0)).state = 0)).length * 2048

/-- The channels in service cannot hold the reserved areas, the pinned frames and DEMAND_FLOOR (R371). -/
def State.dramShort (s : State) : Bool :=
  let cs := s.channelsIn
  decide (cs.foldl (fun n c => n + s.get (F.CH_CAPACITY_GIB c) * 65536) 0 < s.reservedPages) ||
    decide (s.get F.CUL_FRAMES_COUNT < s.pinnedNeed + 8192)

/-! Discovery (R346 to R349). -/

/-- The save power of one RDIMM in W (R349). -/
def State.dimmWatts (d : Dimm) (s : State) : Nat :=
  let o := s.get F.DRC_TRAIN_CFG_SAVE_W_OVR
  if o ≠ 0 then o else ceilDiv (15 + d.ranks * (if d.x8 then 10 else 20)) 10

/-- The SPD of a module is accepted (R346, R348): its base block's CRC verifies and it describes a DDR5 RDIMM, and what it reports lies within
Table 10.1. -/
def dimmOk (d : Dimm) : Bool :=
  d.accepted && [1, 2].contains d.ranks && [1, 2, 4].contains d.stack && [16, 24, 32].contains d.density && decide (16 ≤ d.gib ∧ d.gib ≤ 256) &&
    [4800, 5200, 5600, 6000, 6400].contains d.rate1 && [0, 4800, 5200, 5600].contains d.rate2 && decide (d.ranks * d.stack ≤ 8)

/-- The logical ranks of a module. -/
def dimmLogical (d : Dimm) : Nat := d.ranks * max 1 d.stack

/-- The device marks and remap entries of a position discarded (R348): logical ranks `lo` up to `hi` of a channel. -/
def State.dropMarks (c lo hi : Nat) (s : State) : State :=
  let m := s.get (F.CH_DEV_MARK_MARK c)
  let keep := bitsOf m 0 (8 * lo) + (2 ^ (8 * (hi - lo)) - 1) * 2 ^ (8 * lo) + m / 2 ^ (8 * hi) * 2 ^ (8 * hi)
  (s.put (F.CH_DEV_MARK_MARK c) keep).forEach (List.range 256) fun j a =>
    let r := a.get (F.CH_REMAP_LRANK c j)
    if a.isSet (F.CH_REMAP_VALID c j) ∧ lo ≤ r ∧ r < hi then a.put (F.CH_REMAP_VALID c j) 0 |>.put (F.CH_REMAP_PPR_PENDING c j) 0 else a

/-- The module of a position noted: its serial, and what another serial discards. -/
def State.noteDimm (d : Dimm) (lo : Nat) (s : State) : State :=
  let k := 2 * d.chan.val + d.dimm.val
  let old := Sparse.get 0 k s.dram.serials
  let n := max (Sparse.get 0 k s.dram.dimmRanks) (dimmLogical d)
  let s1 := if old ≠ 0 ∧ old ≠ d.serial + 1 then s.dropMarks d.chan.val lo (lo + n) else s
  { s1 with dram := { s1.dram with serials := Sparse.set 0 k (d.serial + 1) s1.dram.serials
                                   dimmRanks := Sparse.set 0 k (dimmLogical d) s1.dram.dimmRanks } }

/-- The valid remap entries of a channel. -/
def State.remaps (c : Nat) (s : State) : List Nat := (List.range 256).filter fun j => s.isSet (F.CH_REMAP_VALID c j)

/-- A channel found at BRINGUP with its modules (Table 10.5, R347). -/
def State.findChannel (c : Nat) (ds : List Dimm) (s : State) : State :=
  let s1 := s.forEach ds fun d a =>
    let b := a.forEach ((List.range 256).zip d.words) fun e x => x.put (F.CH_SPD_BYTES c (256 * d.dimm.val + e.1)) e.2
    if dimmOk d then b else b.raise Ev.SPD_INVALID [c, d.dimm.val]
  let ok := ds.filter dimmOk
  let same (x y : Dimm) : Bool := decide (x.x8 = y.x8) && decide (x.density = y.density) && decide (x.stack = y.stack) && decide (x.ranks = y.ranks)
  match ok with
  | [] => s1.put (F.CH_STATUS_STATE c) 0
  | x :: t =>
    if !(t.all fun y => same x y) then
      (s1.put (F.CH_STATUS_STATE c) 6 |>.put (F.CH_STATUS_OOS_CAUSE c) 8).raise Ev.CONFIG_MISMATCH []
    else
      let r := ok.foldl (fun n d => n + (dimmLogical d)) 0
      let s2 := ok.foldl (fun (p : State × Nat) d => (p.1.noteDimm d p.2, p.2 + (dimmLogical d))) (s1, 0)
      let w := ok.foldl (fun n d => n + s2.1.dimmWatts d) 0
      let s3 := { s2.1 with dram := { s2.1.dram with saveW := Sparse.set 0 c w s2.1.dram.saveW, watts := Sparse.set 0 c w s2.1.dram.watts } }
      let s4 := s3.put (F.CH_STATUS_STATE c) 1 |>.put (F.CH_STATUS_OOS_CAUSE c) 0 |>.put (F.CH_STATUS_LOGICAL_RANKS c) (min 8 r)
        |>.put (F.CH_STATUS_DIMMS c) ok.length |>.put (F.CH_STATUS_WIDTH c) (flag x.x8)
        |>.put (F.CH_CAPACITY_GIB c) (ok.foldl (fun n d => n + d.gib) 0)
      let used := (s4.remaps c).length
      ((s4.bermFound 1 c 256 (256 - used) false).bermFound 2 c (4 * 32 * r) (4 * 32 * r - used) false).bermFound 3 c
        (ok.foldl (fun n d => n + d.ppr) 0) (ok.foldl (fun n d => n + d.ppr) 0) false

/-- The DRAM modules found at BRINGUP, and the one data rate (R347). -/
def State.discoverDimms (ds : List Dimm) (s : State) : State :=
  let s1 := s.forEach (List.range 16) fun c a => a.findChannel c (ds.filter fun d => decide (d.chan.val = c))
  let used := ds.filter fun d => dimmOk d && decide (s1.get (F.CH_STATUS_STATE d.chan.val) = 1)
  let rate (d : Dimm) : Nat := if s1.get (F.CH_STATUS_DIMMS d.chan.val) = 2 then d.rate2 else d.rate1
  match used.map rate with
  | [] => s1.dramStatus
  | r :: t => (s1.put F.DRC_STATUS_SPEED_MTS (t.foldl min r)).dramStatus

/-! Channels leaving service (R367, R368, R370). -/

/-- The extents whose frames lie on a channel and that a drain moves: pinned, or held by a window. -/
def State.movedExtents (c : Nat) (s : State) : List Nat :=
  (s.cul.extents.filter fun e => (match e.2.frame with
    | some f => decide (f % 16 = c)
    | none => false) && (e.2.pin || decide (0 < e.2.windows))).map (·.1)

/-- The free frames of the other channels IN_SERVICE. -/
def State.otherFree (c : Nat) (s : State) : Nat :=
  (s.channelsIn.filter fun d => decide (d ≠ c)).foldl (fun n d => n + (s.get (F.CH_FRAMES_COUNT d) - (s.usedFrames d).length)) 0

/-- The other channels lack the frames a drain needs beyond DEMAND_FLOOR (R368). -/
def State.noRoom (c : Nat) (s : State) : Bool :=
  let need := ((s.movedExtents c).filter fun x => !(s.dram.moving.any fun e => decide (e.1 = x))).length
  let reserved := ceilDiv (Sparse.get 0 c s.dram.reservedLeft) 128
  decide (s.otherFree c < need + reserved + 8192)

/-- DRAIN_LEFT of a draining channel. -/
def State.drainLeft (c : Nat) (s : State) : State :=
  s.put (F.CH_DRAIN_LEFT_FRAMES c) ((s.cul.extents.filter fun e => match e.2.frame with
    | some f => decide (f % 16 = c)
    | none => false)).length

/-- A drain ends early: the channel is IN_SERVICE again; what has moved stays moved. -/
def State.stopDrain (c : Nat) (s : State) : State :=
  ((s.put (F.CH_STATUS_STATE c) 2 |>.put (F.CH_STATUS_OOS_CAUSE c) 0).put (F.CH_DRAIN_LEFT_FRAMES c) 0).dramStatus

/-- A channel begins to drain (R367, R368). -/
def State.startDrain (c cause : Nat) (s : State) : State :=
  if s.get (F.CH_STATUS_STATE c) ≠ 2 then s
  else
    let s1 := { s with dram := { s.dram with reservedLeft := Sparse.set 0 c (Sparse.get 0 c s.dram.base) s.dram.reservedLeft } }
    if s1.noRoom c then s1.raise Ev.DRAIN_NO_ROOM []
    else ((s1.put (F.CH_STATUS_STATE c) 3 |>.put (F.CH_STATUS_OOS_CAUSE c) cause).drainLeft c).dramStatus

/-- The DRAINING channels on which nothing is left go OUT_OF_SERVICE (Table 10.5). -/
def State.checkDrains (s : State) : State :=
  s.forEach ((List.range 16).filter fun c => decide (s.get (F.CH_STATUS_STATE c) = 3)) fun c a =>
    let b := a.drainLeft c
    if b.get (F.CH_DRAIN_LEFT_FRAMES c) = 0 ∧ Sparse.get 0 c b.dram.reservedLeft = 0 then
      let b1 := { b with dram := { b.dram with base := Sparse.set 0 c 0 b.dram.base, saveW := Sparse.set 0 c 0 b.dram.saveW } }
      ((((b1.dropQueues c).put (F.CH_STATUS_STATE c) 4).put (F.CH_FRAMES_COUNT c) 0).raise (Ev.CHANNEL_OUT_OF_SERVICE c)
        [b1.get (F.CH_STATUS_OOS_CAUSE c)]).dramStatus.recomputeFreeboard
    else b

/-- A restore starts again from SCAN with the image held (R300, R370). -/
def State.restartRestore (s : State) : State :=
  let s1 := { s with
    mem := [], lines := [], front := [], victims := [], merges := [], reads := [], writes := []
    cul := { s.cul with pages := [], fills := [], extents := [], trans := [], tableAt := [], tableDirty := [], jpend := [], xmc := [],
                        captures := [], streams := [] }
    dram := { s.dram with moving := [], reservedFrames := [] }
    ssb := { s.ssb with restoring := none, rstDamage := [], rstRefused := [] } }
  (s1.put F.RST_STATUS_PHASE 1).placeFrames

/-- A channel fails (R370). -/
def State.failChannel (c cause : Nat) (s0 : State) : State :=
  let s := s0.dropQueues c
  let st := s.get (F.CH_STATUS_STATE c)
  if !(decide (st = 2) || decide (st = 3) || (decide (st = 1) && (decide (s.mode = .bringup) || decide (s.mode = .restore)))) then s
  else match s.mode with
    | .bringup => ((s.put (F.CH_STATUS_STATE c) 6 |>.put (F.CH_STATUS_OOS_CAUSE c) cause).put (F.CH_FRAMES_COUNT c) 0).placeFrames
    | .restore => ((s.put (F.CH_STATUS_STATE c) 6 |>.put (F.CH_STATUS_OOS_CAUSE c) cause).put (F.CH_FRAMES_COUNT c) 0).restartRestore
    | _ =>
      let s1 := (s.put (F.CH_STATUS_STATE c) 5 |>.put (F.CH_STATUS_OOS_CAUSE c) cause).dramStatus
      if s.mode.serving then s1.raise (Ev.CHANNEL_LOST c) [] else s1

/-! Device marks and row remap (R362, R365). -/

/-- A device marked failed: a second mark in its subchannel of the rank drains the channel instead. -/
def State.markDevice (c r sub d : Nat) (s : State) : State :=
  let m := s.get (F.CH_DEV_MARK_MARK c)
  let lo := 8 * r + 4 * sub
  let cur := bitsOf m lo 4
  if cur = d then s
  else if cur = 15 then
    (s.put (F.CH_DEV_MARK_MARK c) (m - 15 * 2 ^ lo + d * 2 ^ lo)).raise (Ev.DEVICE_MARKED c) [r, sub, d]
  else s.startDrain c 2

/-- The entries of a list of (key, operating second) not older than `span` seconds. -/
def recent (now span : Nat) (l : List (Nat × Nat)) : List (Nat × Nat) := l.filter fun e => decide (now ≤ e.2 + span)

/-- A row as one number: rank, bank group, bank and row. -/
def rowKey (c : Nat) (loc : List Nat) : Nat :=
  (((c * 8 + loc.getD 0 0) * 8 + loc.getD 1 0) * 4 + loc.getD 2 0) * 2 ^ 17 + loc.getD 3 0

/-- A row entered in the remap table with a spare row of its bank, or REMAP_EXHAUSTED once per channel in 24 h (R365). -/
def State.remapRow (c : Nat) (loc : List Nat) (s : State) : State :=
  let mine := s.remaps c
  let sameBank := mine.filter fun j => decide (s.get (F.CH_REMAP_LRANK c j) = loc.getD 0 0) && decide (s.get (F.CH_REMAP_BG c j) = loc.getD 1 0) &&
    decide (s.get (F.CH_REMAP_BA c j) = loc.getD 2 0)
  if sameBank.any fun j => decide (s.get (F.CH_REMAP_ROW c j) = loc.getD 3 0) then s
  else
    let spare := (List.range 4).find? fun k => !(sameBank.any fun j => decide (s.get (F.CH_REMAP_SPARE c j) = k))
    match (List.range 256).find? fun j => !mine.contains j, spare with
    | some j, some k =>
      let s1 := s.put (F.CH_REMAP_VALID c j) 1 |>.put (F.CH_REMAP_PPR_PENDING c j) 1 |>.put (F.CH_REMAP_LRANK c j) (loc.getD 0 0)
        |>.put (F.CH_REMAP_BG c j) (loc.getD 1 0) |>.put (F.CH_REMAP_BA c j) (loc.getD 2 0) |>.put (F.CH_REMAP_SPARE c j) k
        |>.put (F.CH_REMAP_ROW c j) (loc.getD 3 0)
      ((s1.raise (Ev.ROW_REMAPPED c) []).bermDraw 1 c 1).bermDraw 2 c 1
    | _, _ =>
      let now := s.get F.ID_OPERATING_S_SECONDS
      let last := Sparse.get 0 c s.dram.exhausted
      if last ≠ 0 ∧ now < last - 1 + 86400 then s
      else ({ s with dram := { s.dram with exhausted := Sparse.set 0 c (now + 1) s.dram.exhausted } }).raise Ev.REMAP_EXHAUSTED []

/-- A codeword was corrected (R362, R365): `loc` is its rank, bank group, bank and row. -/
def State.noteCorrected (c : Nat) (loc : List Nat) (sub : Nat) (devices : List Nat) (erased : Option Nat) (s : State) : State :=
  let now := s.get F.ID_OPERATING_S_SECONDS
  let r := loc.getD 0 0
  let row := rowKey c loc
  let dev (d : Nat) : Nat := ((c * 8 + r) * 2 + sub) * 16 + d
  let s1 := (s.bump (F.CH_CE_COUNT_COUNT c) 1).raiseLimited (Ev.DRAM_CORRECTED c) c []
  let x4 := decide (s1.get (F.CH_STATUS_WIDTH c) = 0)
  let devRows := (s1.dram.devRows.filter fun e => decide (now ≤ e.2.2 + 86400) && !(devices.any fun d => decide (e.1 = dev d ∧ e.2.1 = row))) ++
    devices.map fun d => (dev d, row, now)
  let hits := recent now 3600 s1.dram.erasedHits ++ (match erased with
    | some d => [(dev d, now)]
    | none => [])
  let rows := recent now 86400 s1.dram.rowCes ++ [(row, now)]
  let s2 := { s1 with dram := { s1.dram with devRows := devRows, erasedHits := hits, rowCes := rows } }
  let past := devices.filter fun d => decide (orDefault (s2.get F.DRC_LIMITS_DEV_ROW_LIMIT) 16 < (devRows.filter fun e => decide (e.1 = dev d)).length)
  let four := match erased with
    | some d => if 4 ≤ (hits.filter fun e => decide (e.1 = dev d)).length then [d] else []
    | none => []
  let s3 := if x4 then s2.forEach (past ++ four).eraseDups fun d a => a.markDevice c r sub d else s2
  if orDefault (s3.get F.DRC_LIMITS_ROW_CE_LIMIT) 8 ≤ (rows.filter fun e => decide (e.1 = row)).length then s3.remapRow c loc else s3

/-- A line that ECC corrected in a read counted for hosts (R128). -/
def State.countCorrected (es : List EccNote) (s : State) : State :=
  if es.all fun e => decide (e = .clean) then s else { s with dram := { s.dram with corrected := s.dram.corrected + 1 } }

/-- What the decoder reports of the codewords it read (R307, R308, R362). -/
def State.noteEcc (c : Nat) (loc : List Nat) (es : List EccNote) (s : State) : State :=
  s.forEach es fun e a => match e with
    | .clean => a
    | .corrected sub ds er => a.noteCorrected c loc sub.val (ds.map fun d => d.val) (er.map fun d => d.val)

/-- A codeword was uncorrectable (R365, R367). -/
def State.noteUncorrectable (c : Nat) (loc : List Nat) (s : State) : State :=
  let now := s.get F.ID_OPERATING_S_SECONDS
  let us := recent now 86400 s.dram.uces ++ [(c, now)]
  let s1 := ({ s with dram := { s.dram with uces := us } }).bump (F.CH_UCE_COUNT_COUNT c) 1
  let s2 := s1.remapRow c loc
  if orDefault (s2.get F.DRC_LIMITS_UCE_LIMIT) 4 < (us.filter fun e => decide (e.1 = c)).length then s2.startDrain c 3 else s2

/-! The commands. -/

/-- A reading in 0.25 °C steps as a number. -/
def quarterC (v : Nat) : Int := if v < 2 ^ 15 then (v : Int) else (v : Int) - 2 ^ 16

/-- DIMM_HOT_C as it is treated. -/
def State.dimmHotC (s : State) : Nat :=
  let v := s.get F.DRC_LIMITS_DIMM_HOT_C
  if 70 ≤ v ∧ v ≤ 105 then v else 90

/-- The decoder of a channel fails its self-test (Table 9.11, step 7 of Table 10.3). -/
def State.decoderFails (c : Nat) (s : State) : State := (s.put F.ST_STATUS_RS_FAIL 1).raise Ev.SELF_TEST_FAILED [0, c]

/-- A channel fails a training step (Table 10.5). -/
def State.trainingFails (c step : Nat) (s : State) : State :=
  let s1 := (s.put (F.CH_STATUS_STATE c) (if s.mode = .bringup then 6 else 4) |>.put (F.CH_STATUS_OOS_CAUSE c) 4).raise (Ev.TRAINING_FAILED c) [step]
  let s2 := { s1 with dram := { s1.dram with saveW := Sparse.set 0 c 0 s1.dram.saveW } }
  s2.dramStatus.recomputeFreeboard

/-- The lanes whose eyes are too narrow mark their devices (R355), the channel failing where that cannot be: the state, and the step that
failed (0: none). -/
def State.judgeLanes (c : Nat) (lanes : List (Nat × Nat × Nat × Nat × Nat)) (s : State) : State × Nat :=
  let eye := orDefault (s.get F.DRC_TRAIN_CFG_EYE_MIN) 16
  lanes.foldl (fun (p : State × Nat) l =>
    let step := if l.2.2.1 < eye then 5 else if l.2.2.2.2 < eye then 6 else 0
    if step = 0 ∨ p.2 ≠ 0 then p
    else
      let a := p.1
      let sub := l.1 / 10
      let m := a.get (F.CH_DEV_MARK_MARK c)
      let ranks := List.range (a.get (F.CH_STATUS_LOGICAL_RANKS c))
      if a.get (F.CH_STATUS_WIDTH c) = 0 ∧ (ranks.all fun r => decide (bitsOf m (8 * r + 4 * sub) 4 = 15)) then
        (a.forEach ranks fun r b => b.markDevice c r sub (l.1 % 10), 0)
      else (a, step)) (s, 0)

/-- The remap entries that a post-package repair replaced are free again (R366). -/
def State.applyPpr (c : Nat) (js : List Nat) (s : State) : State :=
  s.forEach (js.filter fun j => s.isSet (F.CH_REMAP_VALID c j) && s.isSet (F.CH_REMAP_PPR_PENDING c j)) fun j a =>
    ((((a.put (F.CH_REMAP_VALID c j) 0 |>.put (F.CH_REMAP_PPR_PENDING c j) 0).raise Ev.PPR_APPLIED []).bermReturn 1 c 1).bermReturn 2 c 1).bermDraw 3 c 1

/-- A rank of a channel that runs. -/
def State.rankRuns (c r : Nat) (s : State) : Bool :=
  (decide (s.get (F.CH_STATUS_STATE c) = 2) || decide (s.get (F.CH_STATUS_STATE c) = 3)) &&
    decide (r < s.get (F.CH_STATUS_LOGICAL_RANKS c)) && s.mode.mainRails

/-- The power state of a logical rank set. -/
def State.setRank (c r v : Nat) (s : State) : State := { s with dram := { s.dram with ranks := Sparse.set 0 (c * 8 + r) v s.dram.ranks } }

/-- A line that a write or the patrol cannot leave readable (R309, R361, R363): poisoned on a DIRTY or CAPTURING page, the page dropped
when it is CLEAN. `scrub`: SCRUB_POISONED goes to CXL hosts in place of DRAM_UNCORRECTABLE. -/
def State.spoilLine (line : Nat) (scrub : Bool) (s : State) : State :=
  let p := pageOfLine line
  let g := s.page p
  if g.st = 2 then
    let s1 := s.setPage p { g with st := 0, wrote := false }
    if (s1.extent (extentOfPage p)).pin then s1.requestFill p 1 else s1
  else if 3 ≤ g.st then
    let s1 := s.poisonLine line 2
    if scrub then s1.recordLine 0x08 (Ev.DRAM_UNCORRECTABLE (s.channelOf line)) line 0 false
    else s1.recordLine 2 (Ev.DRAM_UNCORRECTABLE (s.channelOf line)) line 0 true
  else s

/-- An uncorrectable codeword of a line that the patrol or the copy of a row remap meets (R363, R364, R365): counted; a line that the front
cache holds FRONT_DIRTY is left to its eviction. -/
def State.scrubBad (c line : Nat) (s : State) : State :=
  let at_ := (s.lineLocation line).drop 1
  let a := s.noteUncorrectable c at_
  if (a.frontLine line).frontDirty then a else (a.raise (Ev.DRAM_UNCORRECTABLE c) at_).spoilLine line true

/-- The lines of a row that the copy of its remap cannot correct (R365), when a row has been remapped since it held `before` entries. -/
def State.copyRow (c before line : Nat) (bad : List Nat) (s : State) : State :=
  if (s.remaps c).length = before then s
  else s.forEach (bad.filter fun l => decide (pageOfLine l = pageOfLine line) && decide (rowKey c ((s.lineLocation l).drop 1) = rowKey c ((s.lineLocation line).drop 1)))
    fun l a => a.scrubBad c l

/-- The channels that wait to return are trained once P_save with their modules fits (R263, R369). -/
def State.returnChannels (s : State) : State :=
  s.forEach s.dram.waiting fun c a =>
    let w := Sparse.get 0 c a.dram.watts
    if a.get (F.CH_STATUS_STATE c) = 4 ∧ a.powerFits w then
      (({ a with dram := { a.dram with waiting := a.dram.waiting.filter fun x => decide (x ≠ c)
                                       saveW := Sparse.set 0 c w a.dram.saveW } }).put (F.CH_STATUS_STATE c) 1).recomputeFreeboard
    else a

/-- A write of SERVICE acted on (Table 10.5). -/
def State.channelService (c : Nat) (service : Bool) (s : State) : State :=
  let s1 := s.put (F.CH_CTRL_SERVICE c) (flag service)
  if s.frozenMode ∨ !s.mode.mainRails then s1
  else match s1.get (F.CH_STATUS_STATE c), service with
    | 2, false => s1.startDrain c 1
    | 3, true => s1.stopDrain c
    | 4, true =>
      { s1 with dram := { s1.dram with waiting := (s1.dram.waiting.filter fun x => decide (x ≠ c)) ++ [c] } }.returnChannels
    | 4, false => { s1 with dram := { s1.dram with waiting := s1.dram.waiting.filter fun x => decide (x ≠ c) } }
    | _, _ => s1

/-- One page of a moved extent copied and switched (R368): its extent's frame committed once the last page has moved. -/
def State.moveDrainPage (c p : Nat) (s : State) : State :=
  let x := extentOfPage p
  if !(s.movedExtents c).contains x then s
  else
    let start : Option (Nat × List Nat) × State := match s.dram.moving.find? fun e => decide (e.1 = x) with
      | some m => (some m.2, s)
      | none => match s.nextFrame with
        | some f => (some (f, []), { s with cul := { s.cul with nextChannel := (f % 16 + 1) % 16 } })
        | none => (none, s)
    match start.1 with
    | none => s
    | some m =>
      let a := start.2
      let pages := if m.2.contains (p % 128) then m.2 else m.2 ++ [p % 128]
      if (List.range 128).all fun i => pages.contains i || decide ((a.page (x * 128 + i)).st < 2) then
        let b := { a with dram := { a.dram with moving := Sparse.erase x a.dram.moving } }
        (b.setExtent x { b.extent x with frame := some m.1 }).syncFree
      else ({ a with dram := { a.dram with moving := Sparse.insert x (m.1, pages) a.dram.moving } }).syncFree

/-- One reserved page copied to another channel (R368): a frame there is taken for each 128 of them. -/
def State.moveReserved (c : Nat) (s : State) : State :=
  let n := Sparse.get 0 c s.dram.reservedLeft
  if n = 0 then s
  else
    let s1 := { s with dram := { s.dram with reservedLeft := Sparse.set 0 c (n - 1) s.dram.reservedLeft } }
    if (Sparse.get 0 c s.dram.base - n) % 128 ≠ 0 then s1
    else match s1.nextFrame with
      | some f => ({ s1 with dram := { s1.dram with reservedFrames := s1.dram.reservedFrames ++ [f] }
                             cul := { s1.cul with nextChannel := (f % 16 + 1) % 16 } }).dramStatus
      | none => s

end Sys2Proof.Machine
end

