-- ==== Sys2Proof/Machine/EthOps.lean ====
section
/-! DEFINITION. What the commands of Ethernet and RDMA are built from (R134 to R155). -/

namespace Sys2Proof.Machine

open Sys2Proof

/-! Links. -/

/-- A write of SERVICE of a link (R136): a lost rail lets no link return (R541). -/
def State.ethService (l : Nat) (service : Bool) (s : State) : State :=
  let s1 := s.put (F.RDMA_LINK_CTRL_SERVICE l) (flag service)
  if !s.mode.mainRails then s1
  else if service then
    if s.get (F.RDMA_LINK_STATUS_SVC_STATE l) = 0 ∧ s.ethLanes l ≠ 0 ∧ !s.serdesDown 9 then s1.ethReturns l else s1
  else s1.ethLeaves l 2

/-! Frames. -/

/-- The PFC priority in use: 8 to 15 are treated as 3 (Table 4.8). -/
def State.pfcPrio (s : State) : Nat := let p := s.get F.RDMA_GLOBAL_CFG_PFC_PRIO; if p < 8 then p else 3

/-- Flow control of a port as its buffer fills (R157): XOFF at 75 % full, XON when it has fallen to 50 %, with FLOW_MODE 1. -/
def State.flowControl (port fill : Nat) (s : State) : State :=
  let send (on : Bool) (l : List Nat) (a : State) : State :=
    ({ a with eth := { a.eth with xoff := l } }).emit (.pfc port a.pfcPrio on)
  if !s.isSet F.RDMA_GLOBAL_CFG_FLOW_MODE then s
  else if s.eth.xoff.contains port then
    if fill ≤ 50 then send false (s.eth.xoff.filter fun p => decide (p ≠ port)) s else s
  else if 75 ≤ fill then send true (s.eth.xoff ++ [port]) s
  else s

/-- A packet of a port waits: for its context, for room among the fetches, or for a cutover. -/
def State.portWaits (port : Nat) (s : State) : Bool :=
  (s.eth.fetching.any fun e => decide (e.2.link / 8 = port)) || (s.eth.behind.any fun k => decide (k.link / 8 = port)) ||
    s.eth.parked.any fun k => decide (k.link / 8 = port)

/-- The receive buffers as time passes with no command waiting (R157): that of a port none of whose packets waits has drained, so XON goes to a
partner it had stopped (DESIGN CHOICE, log entry 120). -/
def State.drainBuffers (s : State) : State := s.forEach (s.eth.xoff.filter fun p => !s.portWaits p) fun p a => a.flowControl p 0

/-- A frame received (R153, R157, Table 4.8): counted, dropped with the buffer full or a bad ICRC, and its source learned. -/
def State.rxFrame (f : RxFrame) (s : State) : Bool × State :=
  let l := f.link.val
  if !s.ethUp l ∨ !s.ethAnswers then (false, s)
  else
    let s1 := ((s.bump (F.RDMA_LINK_RX_FRAMES_COUNT l) 1).bump (F.RDMA_LINK_FEC_CORR_COUNT l) f.corrected).flowControl (l / 8) f.fill
    if 100 < f.fill ∧ !s.isSet F.RDMA_GLOBAL_CFG_FLOW_MODE then
      (false, (s1.bump (F.RDMA_LINK_RX_DROPS_COUNT l) 1).raiseLimited Ev.RX_OVERFLOW 0 [])
    else if !f.icrc then (false, s1.bump (F.RDMA_LINK_RX_DROPS_COUNT l) 1)
    else (true, s1.learnHost f.gid l)

/-- The side of a service address in use. -/
def State.addressSide (addr : Nat) (s : State) : Option Nat :=
  ((List.range 16).find? fun a => s.isSet (F.RDMA_SVC_CTRL_VALID a) &&
    decide ((List.range 4).foldl (fun n j => n + s.get (F.RDMA_SVC_ADDR_ADDR a j) * 2 ^ (32 * j)) 0 = addr)).map
      fun a => s.get (F.RDMA_SVC_CTRL_SIDE a)

/-! Connection management (R138 to R140). -/

/-- A byte of a REQ's private data. -/
def privByte (p : List Byte) (i : Nat) : Nat := (p.getD i 0).toNat

/-- The private data is one the controller takes (Table 4.3, R193). -/
def privOk (p : List Byte) : Bool :=
  decide (p.length < 4) || (decide (privByte p 0 ≤ 1) && decide (privByte p 1 = 1) &&
    (decide (privByte p 0 = 0) || ((let d := privByte p 2 + 256 * privByte p 3
      decide (d = 0) || (decide (16 ≤ d) && decide (d ≤ 4096))) && decide (privByte p 4 < 2))))

/-- A REQ asks for a command queue pair. -/
def privCmd (p : List Byte) : Bool := decide (4 ≤ p.length) && decide (privByte p 0 = 1)

/-- The lowest free context of a side. -/
def State.freeContext (sd : Nat) (s : State) : Nat :=
  let used := (s.qpsInUse.filter fun e => decide (e.1 / 2 ^ 20 = sd)).map fun e => e.1 % 2 ^ 20
  ((List.range (used.length + 1)).find? fun i => !used.contains i).getD 0

/-- The code a REQ is rejected with, or the tenant and side it connects to (Table 4.4, log entry 35); while a shutdown is in progress it is
NOT_READY (log entry 136). -/
def State.reqVerdict (addr pkey mtu : Nat) (rc : Bool) (priv : List Byte) (s : State) : Sum Nat (Nat × Nat) :=
  let cmds := (s.qpsInUse.filter fun e => e.2.cmd).length
  if s.mode = .quarantine ∨ s.fenced then .inl 6
  else if !s.mode.serving ∨ s.stopping then .inl 1
  else if !([1024, 2048, 4096].contains mtu) ∨ !rc ∨ !privOk priv then .inl 5
  else match s.pkeyBinding pkey with
    | none => .inl 2
    | some b => match s.addressSide addr with
      | none => .inl 3
      | some sd =>
        if !s.answersFor sd ∨ !s.serves sd then .inl 3
        else if s.get F.RDMA_QP_LIMIT_LIMIT ≤ s.qpsInUse.length ∨ 2 ^ 20 ≤ s.freeContext sd ∨
            (privCmd priv ∧ min 2048 (s.get F.RDMA_CMD_QP_LIMIT_LIMIT) ≤ cmds) then .inl 4
        else .inr (b.tenant, sd)

/-- A REQ rejected at check 1 or 2 of Table 2.8 is a refusal (R94, R140). -/
def State.refuseReq (code link : Nat) (s : State) : State :=
  if code = 2 then s.refuse .rdma 2 0 link 0
  else if code = 1 ∨ (code = 6 ∧ !s.mode.serving) then s.refuse .rdma 1 0 link 0
  else s

/-- A queue pair created, with the queue of a command queue pair (R138, R140, R163, R193); its own SENDs start at PSN 0 (log entry 135). -/
def State.createQp (f : RxFrame) (sd tenant pkey mtu depth psn : Nat) (priv : List Byte) (s : State) : State :=
  let key := sd * 2 ^ 20 + s.freeContext sd
  let old := s.qp key
  let cmd := privCmd priv
  let cd := let d := privByte priv 2 + 256 * privByte priv 3; if d = 0 then 256 else d
  let p : Qp := { state := 1, incarnation := old.incarnation % 7 + 1, cmd := cmd, pkey := pkey, tenant := tenant, gid := f.gid,
                  depth := if cmd then cd else 0, resp := min depth 16, mtu := mtu, psn := psn % 2 ^ 24, rate := s.ethRate f.link.val, via := f.link.val }
  let qpn := qpnOf key p
  let s1 := (s.setQp key p).cacheQp key
  let s2 := if cmd then
      s1.setQueue (cqpKey qpn) { state := 1, incarnation := p.incarnation, tenant := tenant, ordered := decide (privByte priv 4 % 2 = 1),
                                 pkey := pkey, gid := f.gid, lastFetch := s.now }
    else s1
  s2.sendHost ⟨f.gid, f.link.val, .cmRep qpn⟩

/-! Requests. -/

/-- A request packet received and taken. -/
def State.rxPacket (f : RxFrame) (qpn pkey psn : Nat) (kind : PktKind) (sram : List Nat) (s : State) : State :=
  let r := s.rxFrame f
  if r.1 then r.2.takePacket ⟨f.link.val, f.gid, qpn % 2 ^ 24, pkey % 2 ^ 16, psn % 2 ^ 24, f.ce, kind, sram⟩ else r.2

/-! Congestion (R155, R156). -/

/-- The rate of a queue pair's host link in Mb/s. -/
def State.hostRate (p : Qp) (s : State) : Nat :=
  match s.host? p.gid with
  | some h => s.ethRate h.primary
  | none => p.rate

/-- QP_LIMIT raised once when QP_ACTIVE reaches RDMA_QP_LIMIT (R149). -/
def State.syncQpLimit (s : State) : State :=
  let v := s.mode.serving && decide (0 < s.qpsInUse.length) && decide (s.get F.RDMA_QP_LIMIT_LIMIT ≤ s.qpsInUse.length)
  ({ s with eth := { s.eth with atLimit := v } }).when (v && !s.eth.atLimit) fun a => a.raise Ev.QP_LIMIT []

end Sys2Proof.Machine
end

