-- ==== Sys2Proof/Machine/PairOps.lean ====
section
/-! DEFINITION. What the Causeway's commands are built from (R408 to R418). -/

namespace Sys2Proof.Machine

open Sys2Proof

/-! Paths (Table 12.1). -/

/-- SERVICE of a path written (Table 12.1): a lost rail lets no path return (R541). -/
def State.pathService (p : Nat) (service : Bool) (s : State) : State :=
  let s1 := s.put (F.CW_PATH_CTRL_SERVICE p) (flag service)
  if !service then s1.pathLeaves p 2 else if s1.pathState p = 3 ∧ !s.serdesDown 10 then s1.pathReturns p else s1

/-! Mirror frames (R414). -/

/-- A repaired page enters its frame, and the requests that waited for its lines are answered (R228, R401). -/
def State.landRepaired (p : Nat) (s : State) : State :=
  if (s.page p).st ≠ 1 then s
  else
    let s1 := s.assignFrame (extentOfPage p)
    if (s1.extent (extentOfPage p)).frame.isNone then s1
    else
      let s2 := s1.landPage p
      (s2.forEach (s2.awaitedLines p) fun l a => a.arriveLine l .good 0 0).afterFill

/-! The control streams (R415, R416). -/

/-- ACK_SEQ taken (R20, R415): the frames it covers leave the outbound buffers and their lines are no longer pending. -/
def State.takeAck (ack : Nat) (s : State) : State :=
  if ack ≤ s.ackSeq ∨ s.get F.CW_TX_SEQ_SEQ < ack then s
  else
    let s1 := s.put F.CW_ACK_SEQ_SEQ ack
    { s1 with
      lines := s1.lines.filterMap fun (e : Nat × LineMeta) =>
        let m := if e.2.pend ≤ ack then { e.2 with pend := 0 } else e.2
        if m = LineMeta.fresh then none else some (e.1, m)
      cw := { s1.cw with unacked := s1.cw.unacked.filter fun (f : Nat × CwBody) => decide (ack < f.1) } }

/-- CREDIT_LINES taken: it counts modulo 2^32 (R416). -/
def State.takeCredit (credit : Nat) (s : State) : State :=
  let d := (credit + 2 ^ 32 - s.cw.creditLines % 2 ^ 32) % 2 ^ 32
  if d = 0 ∨ 2 ^ 31 ≤ d then s else { s with cw := { s.cw with creditLines := s.cw.creditLines + d } }

/-- What the partner's state asks for (Tables 12.11 and 12.12, R440): the end of a SELF fence, and requests that begin or end. -/
def State.heedPartner (c : ControlRx) (s : State) : State :=
  let s1 := if s.cw.fences.contains 1 ∧ c.epoch = s.get F.CW_PAIR_EPOCH_EPOCH ∧ !c.serving then s.endFence 1 else s
  let s2 := if s1.mode = .paired ∧ c.mode = 11 then s1.request 3 else if c.mode = 11 then s1 else s1.endRequest 3
  let wants := c.ready && (match s2.mode with
    | .paired => s2.cw.partnerDrain || decide (c.mode = 9)
    | .solo | .resync => true
    | .bringup => s2.isSet F.PWR_STATUS_RETURNING && c.serving
    | _ => false)
  if wants then s2.request 2 else s2.endRequest 2

/-! HELLO (R418, R419, R442). -/

/-- Why a HELLO is refused (R419, R442): 1 SIGNATURE, 2 UNKNOWN_PARTNER, 3 SIDE_CONFLICT, 4 TEMPER; 0: it is accepted. A controller that
joins adopts the partner's temper; one that serves asks its own of the partner. -/
def State.helloRefusal (h : Hello) (s : State) : Nat :=
  let known := s.cw.paired && decide (h.keyId = s.get F.CW_PARTNER_KEY_ID_ID)
  let allowed := if s.cw.paired then known || s.cw.allowReplace else s.cw.allowNew
  let own := s.get F.CW_PAIR_TEMPER_TEMPER
  if !h.sigOk then 1
  else if !allowed then 2
  else if h.side = s.side then 3
  else if s.get F.ID_TEMPER_TEMPER_MAX < h.temper ∧ (!s.mode.serving ∨ (!s.cw.paired ∧ h.pairId ≠ 0)) then 4
  else if s.cw.paired ∧ h.temperMax < own then 4
  else 0

/-- The pair record as an accepted HELLO leaves it (R419, R442): PAIR_ID drawn by side 0 at first pairing, or taken from the partner; the
temper the lower of the two at first pairing, the partner's for a controller that joins. -/
def State.pairWith (h : Hello) (s : State) : State :=
  let full := s.cw.peerFull || (decide (s.cw.groupId ≠ 0) && decide (h.groupId ≠ s.cw.groupId)) ||
    (s.cw.paired && decide (h.pairId ≠ s.get F.CW_PAIR_ID_ID)) || !s.cw.paired
  let s1 := { s with cw := { s.cw with partnerSerial := h.serial, groupId := h.groupId, peerFull := full, peerUnsealed := h.unsealed,
                                       peerMapValid := h.mapValid, peerMapBase := h.mapBase, peerMap := h.map,
                                       partnerTemperMax := h.temperMax } }
  let s2 := s1.put F.CW_PARTNER_KEY_ID_ID h.keyId
  if s.cw.paired then (if s.mode.serving then s2 else s2.setTemper h.temper)
  else if h.pairId ≠ 0 then
    (({ s2 with cw := { s2.cw with paired := true, ownAuth := !h.serving, partnerMirror := false } }).put F.CW_PAIR_ID_ID h.pairId).setTemper h.temper
  else if s.side = 0 then
    let d := s2.draw 64
    (({ d.2 with cw := { d.2.cw with paired := true, ownAuth := true, partnerMirror := false } }).put F.CW_PAIR_ID_ID d.1).setTemper
      (min (s.get F.ID_TEMPER_TEMPER) h.temper)
  else s

/-- The link key of the present exchange with a partner's HELLO, for a KEY_EPOCH (R418). -/
def State.newLinkKey (h : Hello) (epoch : Nat) (s : State) : Nat :=
  let a := if s.side = 0 then s.cw.nonce else h.nonce
  let b := if s.side = 0 then h.nonce else s.cw.nonce
  linkKeyOf s.cw.eph h.eph a b (s.get F.CW_PAIR_ID_ID) epoch

/-- A link key that comes into force (R418): on a fresh link the SEQ series, the credits and the line versions start again; a rekey raises
KEY_EPOCH. -/
def State.formKey (h : Hello) (s : State) : State :=
  if s.cw.linkKey then
    ({ s with cw := { s.cw with keyEpoch := s.cw.keyEpoch % 255 + 1, oldEpoch := true, hello := false,
                                key := s.newLinkKey h (s.cw.keyEpoch % 255 + 1), oldKey := s.cw.key } }).raise Ev.REKEYED []
  else
    let s1 := { s with
      lines := s.lines.filterMap fun (e : Nat × LineMeta) =>
        let m := { e.2 with ver := 0 }
        if m = LineMeta.fresh then none else some (e.1, m)
      cw := { s.cw with linkKey := true, keyEpoch := 1, oldEpoch := false, key := s.newLinkKey h 1, oldKey := 0, hello := false, unacked := [], sentUpTo := 0, sentLines := 0,
                        creditLines := 0, granted := 262144, inbound := 0, creditAt := s.now, held := [], rxStaged := [], nak := 0 } }
    s1.put F.CW_TX_SEQ_SEQ 0 |>.put F.CW_ACK_SEQ_SEQ 0 |>.put F.CW_RX_SEQ_SEQ 0

/-- What a link key in force leads to (Table 12.12, R438, R440). `fresh`: none was in force before. -/
def State.linkFormed (fresh : Bool) (h : Hello) (s : State) : State :=
  if h.serving ∧ s.get F.CW_PAIR_EPOCH_EPOCH < h.epoch then s.learnGrant h.epoch s.side
  else
    let s1 := if s.get F.CW_PAIR_EPOCH_EPOCH < h.epoch then s.put F.CW_PAIR_EPOCH_EPOCH h.epoch else s
    match s1.mode with
    | .takeover => if h.ownAuth ∨ s1.catchingUp then s1 else s1.startCatchup
    | .solo => if !fresh ∨ (h.unsealed ∧ !s1.cw.unsealed) then s1 else (s1.setMode .resync).startCatchup
    | .paired | .drain | .resync => if fresh then ((s1.dropCopy).setMode .resync).startCatchup else s1
    | _ => s1

/-! Timers of the streams. -/

/-- A rekey begins while a link key is in force (R418). -/
def State.rekey (s : State) : State := if s.cw.linkKey then s.startHello else s

end Sys2Proof.Machine
end

