-- ==== Sys2Proof/Machine/CollectOps.lean ====
section
/-! DEFINITION. The fault collector (R508 to R518): error lines, the conditions of level sources, and the reactions BLOCK, CHIP and
quarantine. -/

namespace Sys2Proof.Machine

open Sys2Proof

/-! Error lines (R510, R511). -/

/-- The sources a pending word holds, raised in ascending number (R510, R516). -/
def State.raiseWord (line : Nat) (word : List (Nat × List Nat)) (s : State) : State :=
  s.forEach (List.range 32) fun b a =>
    a.forEach (word.filter fun (e : Nat × List Nat) => decide (e.1 = b)) fun (e : Nat × List Nat) c => c.raise (32 * line + b) e.2

/-- The Kerup link a line's block reports over is up. -/
def State.lineReadable (link : Option Nat) (s : State) : Bool :=
  match link with
  | some k => decide (2 ≤ s.get (F.KG_MOD_STATUS_STATE k))
  | none => true

/-- The pending word of an asserted line read, or left with the line asserted until the link comes back (R510). -/
def State.readLine (line : Nat) (link : Option Nat) (word : List (Nat × List Nat)) (s : State) : State :=
  if s.lineReadable link then s.raiseWord line word
  else { s with fc := { s.fc with linePend := s.fc.linePend ++ [(line, link.getD 0, word)] } }

/-- The pending words that waited for a link read. -/
def State.retryLines (k : Nat) (s : State) : State :=
  let mine := s.fc.linePend.filter fun (e : Nat × Nat × List (Nat × List Nat)) => decide (e.2.1 = k)
  let s1 := { s with fc := { s.fc with linePend := s.fc.linePend.filter fun (e : Nat × Nat × List (Nat × List Nat)) => decide (e.2.1 ≠ k) } }
  s1.forEach mine fun (e : Nat × Nat × List (Nat × List Nat)) a => a.raiseWord e.1 e.2.2

/-! Conditions of level sources (R508). -/

/-- A level source whose condition only the command SOURCE_CONDITION_END ends: the collector's own, those of Table 15.2 that others report,
the cache misses of R149, the record of R493, and the guest's pairs. -/
def endsFromOutside (n : Nat) : Bool :=
  [0, 8, 9, 519, 520, 755, 1012, 1013, 1070, 1345, 1346].contains n || (decide (18 ≤ n) && decide (n < 64))

/-- The condition of a level source holds, for the sources whose condition is a state the model holds and no operation ends by itself. -/
def State.condHolds (n : Nat) (s : State) : Bool :=
  if n = 856 then s.isSet F.PLD_DUR_STATE_MIRROR_WINDOW_FULL
  else if n = 859 then s.isSet F.PLD_DUR_STATE_TWIN_COMPLETE_SUSPENDED
  else if 192 ≤ n ∧ n < 208 then decide (s.get (F.CH_STATUS_STATE (n - 192)) = 4)
  else if 208 ≤ n ∧ n < 224 then decide (s.get (F.CH_STATUS_STATE (n - 208)) = 5)
  else if n = 336 then s.dramShort
  else if n = 338 then (List.range 16).any fun c => decide (s.get (F.CH_STATUS_STATE c) = 6)
  else if 384 ≤ n ∧ n < 404 then decide (s.get (F.SLOT_STATUS_STATE (n - 384)) = 8)
  else if 404 ≤ n ∧ n < 424 then decide (s.get (F.SLOT_STATUS_STATE (n - 404)) = 9)
  else if 424 ≤ n ∧ n < 444 then decide (s.get (F.SLOT_STATUS_STATE (n - 424)) = 2)
  else if n = 505 then
    ((List.range 18).any fun p => decide (s.get (F.FL_POSITION_STATE p) = 2)) && (s.slotsIn 4).isEmpty
  else if n = 514 then decide (s.get F.FL_STATUS_GROUP_STATE = 4)
  else if n = 515 then !s.fl.formed
  else if n = 761 then !s.eth.pausedAt.isEmpty
  else if n = 867 then (List.range 68).any fun p => decide (s.get (F.CP_PIPE_STATE p) = 4)
  else if n = 868 then (List.range 32).any fun l => decide (s.get (F.CP_MAP_PHYS l) = s.get (F.CP_MAP_PHYS (l + 32)))
  else if n = 877 then !s.ks.a.ok && !s.ks.b.ok
  else if n = 929 then s.cul.streams.any fun (e : Nat × Stream) => decide (e.2.st = 3)
  else if n = 1058 then s.isSet F.RV_CORES_DEGRADED
  else if n = 1156 then s.fc.wakeCause
  else if n = 1206 then !s.pw.unlocked.isEmpty
  else if n = 1347 then !s.isSet F.KG_GUEST_STATUS_ID_VALID
  else if n = 1349 then decide (s.get F.KG_GUEST_STATUS_STATE ≠ 5)
  else true

/-- The conditions that no longer hold ended. -/
def State.sweepConds (s : State) : State :=
  s.forEach (s.fc.cond.filter fun (e : Nat × Nat) => !endsFromOutside e.1) fun (e : Nat × Nat) a =>
    if a.condHolds e.1 then a else a.endCond e.1

/-! Reactions (Table 15.3). -/

/-- BLOCK: the unit of Table 15.1 reset or taken out of service; a source without a unit acts as PIN. -/
def State.blockReaction (n : Nat) (s : State) : State :=
  if n = 8 ∨ n = 9 ∨ (1344 ≤ n ∧ n < 1408) then s.guestRestart 1
  else if 192 ≤ n ∧ n < 336 then s.channelService (n % 16) false
  else if 576 ≤ n ∧ n < 640 then s.portLeaves (n % 16 / 4) 1
  else if 640 ≤ n ∧ n < 644 then s.portLeaves (n - 640) 1
  else if 704 ≤ n ∧ n < 752 then s.ethLeaves (n % 16) 1
  else if 800 ≤ n ∧ n < 804 then s.pathLeaves (n % 2) 1
  else if 1056 ≤ n ∧ n < 1152 then s.reeveReset
  else if 1248 ≤ n ∧ n < 1344 then
    let k := n % 16
    if k = 10 ∨ k = 11 then s.guestRestart 1
    else if k < 13 then s.put (F.KG_MOD_STATUS_STATE k) 1
    else s
  else s

/-- A quarantine source raised (R514): held in SAVE until the seal. -/
def State.quarantineReaction (s : State) : State :=
  if s.mode = .save then { s with pw := { s.pw with quarantineHeld := true } }
  else if s.mode = .bringup ∨ s.mode = .restore ∨ s.mode.serving then s.enterQuarantine
  else s

/-- One reaction carried out: 4 BLOCK, 5 CHIP, 6 the quarantine of R514. -/
def State.reactTo (e : Nat × Nat) (s : State) : State :=
  match e.2 with
  | 4 => s.blockReaction e.1
  | 5 => s.chipReaction
  | _ => s.quarantineReaction

/-- The reactions that raises left, in their order, with those that they leave in turn. -/
def State.react : Nat → State → State
  | 0, s => s
  | fuel + 1, s =>
    match s.fc.due with
    | [] => s
    | e :: t => State.react fuel (({ s with fc := { s.fc with due := t } }).reactTo e)

end Sys2Proof.Machine
end

