-- ==== Sys2Proof/Machine/CopyOps.lean ====
section
/-! DEFINITION. What the operations of chapter 5 are built from: COPY and ZERO, WAIT and ABORT (R181 to R187, R275). -/

namespace Sys2Proof.Machine

open Sys2Proof

/-! COPY and ZERO. -/

/-- Destination, source (none for ZERO) and length of a COPY or ZERO. -/
def copyOperands (d : BitVec 512) : Nat × Option Nat × Nat :=
  if dOpcode d = 2 then (dbits d 24 0 49, some (dbits d 16 0 49), dbits d 32 0 64)
  else (dbits d 16 0 49, none, dbits d 24 0 64)

/-- The bytes of the operation's next destination line. -/
def pieceLen (dst len off : Nat) : Nat := min (256 - (dst + off) % 256) (len - off)

/-- The lines that `n` bytes at `a` touch. -/
def spanLines (a n : Nat) : List Nat := if n = 0 then [] else (List.range ((a + n - 1) / 256 - a / 256 + 1)).map (a / 256 + ·)

/-- The value of `n` bytes at `a`, zeros of lines that are not live (R22, R82). -/
def State.copyBytes (a n : Nat) (s : State) : Nat :=
  (List.range n).foldl (fun v i => v + (if s.live (lineOf (a + i)) then (s.byte (a + i)).toNat else 0) * 2 ^ (8 * i)) 0

/-- The value of `n` bytes at `a` from source lines obtained. -/
def gotBytes (got : List (Nat × Nat × LineData)) (a n : Nat) : Nat :=
  (List.range n).foldl (fun v i =>
    v + (match got.find? fun e => decide (e.1 = (a + i) / 256) with
      | some e => (lineByte e.2.2 ((a + i) % 256)).toNat
      | none => 0) * 2 ^ (8 * i)) 0

/-- A request of an operation for a line is at ingress, or its read is not yet answered. -/
def State.copyReading (q seq line : Nat) (s : State) : Bool :=
  (s.reads.any fun r => decide (r.src = .op q seq) && decide (lineOf r.addr = line)) ||
    s.ingress.any fun r => decide (r.src = .op q seq) && decide (r.line = line)

/-- The source lines of the next piece, of `n` bytes at `a`, read through their home agents, those not yet asked for. -/
def State.copyAsk (q seq a n : Nat) (sram : List Nat) (s : State) : State :=
  s.forEach (spanLines a n) fun line x =>
    match x.op? q seq with
    | some o =>
      if (o.got.any fun e => decide (e.1 = line)) || x.copyReading q seq line then x
      else x.presentRead { src := .op q seq, tenant := (x.queue q).tenant, addr := line * 256, len := 256, entered := x.now,
                           sram := sram.contains line }
    | none => x

/-- What the source of the next piece gave: nothing yet, the first bad line's status, or the value. -/
def OpRec.source (o : OpRec) (a n : Nat) : Option (Nat × Nat) :=
  let lines := spanLines a n
  if lines.all fun l => o.got.any fun e => decide (e.1 = l) then
    some (((o.got.find? fun e => lines.contains e.1 && decide (e.2.1 ≠ 0)).map fun e => e.2.1).getD 0, gotBytes o.got a n)
  else none

/-- The partial writes of an operation that wait for their lines. -/
def State.opMerging (q seq : Nat) (s : State) : Bool := s.merges.any fun m => decide (m.src = .op q seq)

/-- The status a refused merge left for an operation. -/
def State.opFailed (q seq : Nat) (s : State) : Option Nat :=
  (s.failed.find? fun e => decide (e.1 = .op q seq)).map (·.2)

/-- What the operation has accepted, before the line whose merge was refused: that line is its first or its last. -/
def doneBefore (dst len done : Nat) : Nat :=
  if done ≤ pieceLen dst len 0 then 0 else (dst + len) / 256 * 256 - dst

/-- A write of the operation is held at ingress. -/
def State.opHeld (q seq : Nat) (s : State) : Bool := s.ingress.any fun r => r.isWrite && decide (r.src = .op q seq)

/-- The operation completes with its progress. -/
def State.endCopy (q : Nat) (o : OpRec) (status detail : Nat) (s : State) : State :=
  s.completeOp q o status detail 0 o.done []

/-- The operation completes because one of its ranges fails a check on the way: a refusal (R92, R94). -/
def State.refuseCopy (q : Nat) (o : OpRec) (chk a : Nat) (s : State) : State :=
  (s.refuse (queuePath q) chk (s.queue q).tenant (queueIngress q) a).endCopy q o (checkStatus chk) chk

/-- A destination line of the operation presented to its home agent. -/
def State.copyWrite (q seq a n v : Nat) (s : State) : State :=
  s.presentWrite { src := .op q seq, tenant := (s.queue q).tenant, line := lineOf a,
                   mask := BitVec.ofNat 256 ((2 ^ n - 1) * 2 ^ (a % 256)), data := BitVec.ofNat 2048 (v * 2 ^ (8 * (a % 256))),
                   poison := false, readOnly := false, entered := s.now }

/-- The lines of a COPY or ZERO in ascending order, at most `lines` of them: until its end, a line that must wait, for the Sluice too (R275), a refused
merge, a source line that ends it, or a range that is gone (R92, R181). -/
def State.copyLines (q seq : Nat) (sram : List Nat) : Nat → State → State
  | 0, s => s
  | lines + 1, s =>
    match s.op? q seq with
    | none => s
    | some o =>
      let (dst, src, len) := copyOperands o.desc
      if len ≤ o.done ∨ s.opMerging q seq ∨ s.opHeld q seq ∨ s.overShare (s.queue q).tenant (s.portOf (.op q seq)) then s
      else
        let n := pieceLen dst len o.done
        match s.opFailed q seq with
        | some st =>
          ({ s with failed := s.failed.filter fun e => decide (e.1 ≠ Src.op q seq) }).endCopy q
            { o with done := doneBefore dst len o.done } st 0
        | none =>
          let b := (s.queueBinding q).getD ⟨(s.queue q).tenant, false, false⟩
          let chk := s.rangeCheck b (dst + o.done) n true none
          let chkS := match src with
            | some p => s.rangeCheck b (p + o.done) n false none
            | none => 0
          if chkS ≠ 0 then s.refuseCopy q o chkS (src.getD 0 + o.done)
          else if chk ≠ 0 then s.refuseCopy q o chk (dst + o.done)
          else match src with
            | none => copyLines q seq sram lines (s.copyWrite q seq (dst + o.done) n 0)
            | some p =>
              let s1 := s.copyAsk q seq (p + o.done) n sram
              match ((s1.op? q seq).getD o).source (p + o.done) n with
              | none => s1
              | some (0, v) => copyLines q seq sram lines (s1.copyWrite q seq (dst + o.done) n v)
              | some (st, _) => s1.endCopy q o st 0

/-- The pieces a COPY or ZERO has at most. -/
def OpRec.pieces (o : OpRec) : Nat := (copyOperands o.desc).2.2 / 64 + 2

/-- A COPY or ZERO started: every range checked before any line is accepted (R92, R181); the source range is checked first (log entry 130). -/
def State.startCopy (q : Nat) (o : OpRec) (sram : List Nat) (s : State) : State :=
  let (dst, src, len) := copyOperands o.desc
  let b := s.queueBinding q
  let c1 := match src with
    | some p => (s.check b p len false none, p)
    | none => (0, 0)
  let c2 := (s.check b dst len true none, dst)
  let c := if c1.1 ≠ 0 then c1 else c2
  if c.1 ≠ 0 then (s.refuse (queuePath q) c.1 (s.queue q).tenant (queueIngress q) c.2).completeOp q o (checkStatus c.1) c.1 0 0 []
  else if s.hazard q o then s.setOp q { o with phase := .held }
  else (s.setOp q { o with phase := .running }).copyLines q o.seq sram o.pieces

/-- A COPY or ZERO in progress goes on. -/
def State.resumeCopy (q seq : Nat) (sram : List Nat) (s : State) : State :=
  match s.op? q seq with
  | none => s
  | some o =>
    if (dOpcode o.desc = 2 ∨ dOpcode o.desc = 3) ∧ o.phase = .running ∧ s.mode.serving ∧ !s.fenced then
      s.copyLines q seq sram o.pieces
    else s

/-! WAIT. -/

/-- The target exists on this controller (R184). -/
def State.targetExists (t : Nat) (s : State) : Bool := (s.queue t).live && (decide (t < 4096) || decide (2 ^ 24 ≤ t))

/-- The target's value, and whether HORIZON mode is met by PREFIX while horizons are frozen (R183, R184). -/
def State.waitValue (t mode : Nat) (s : State) : Nat × Bool :=
  let k := s.queue t
  match mode with
  | 0 => (k.completions, false)
  | 1 => (k.prefix_, false)
  | _ => if s.isSet F.PLD_DUR_STATE_HORIZON_FROZEN then (k.prefix_, true) else (k.horizon, false)

/-- A WAIT ended: its completion, and fetching resumed (R183). -/
def State.endWait (q : Nat) (o : OpRec) (status rb : Nat) (s : State) : State :=
  (s.completeOp q o status 0 0 rb []).resumeFetch q

/-- A WAIT completed when its condition holds. -/
def State.testWait (q : Nat) (o : OpRec) (s : State) : State :=
  let v := s.waitValue (targetKey o.desc) (dbits o.desc 24 0 2)
  if dbits o.desc 16 0 64 ≤ v.1 then s.endWait q o (if v.2 then St.LOCAL_ONLY else St.SUCCESS) v.1 else s

/-! ABORT. -/

/-- The operation may be aborted now (Table 5.4): a GUEST only until the guest takes it. -/
def OpRec.abortable (o : OpRec) : Bool :=
  [1, 2, 3, 8].contains (dOpcode o.desc) || (decide (dOpcode o.desc = 0x30) && decide (o.phase ≠ .relayed))

/-- An operation ended by an ABORT (Table 5.7): its progress for COPY and ZERO; a WAIT releases its queue. -/
def State.abortOp (t : Nat) (o : OpRec) (s : State) : State :=
  let rb := if dOpcode o.desc = 2 ∨ dOpcode o.desc = 3 then o.done else 0
  let s1 := { s with failed := s.failed.filter fun e => decide (e.1 ≠ Src.op t o.seq) }
  let s2 := s1.completeOp t o St.ABORTED 0 0 rb []
  if dOpcode o.desc = 8 then s2.resumeFetch t else s2

/-- The operation an ABORT ends: a GUEST operation sent to the guest gets GQ_ABORT, and completes when the guest has ended it (Table
13.9). -/
def State.abortTarget (t : Nat) (o : OpRec) (s : State) : State :=
  match s.kg.ops.find? fun g => decide ((g.q, g.seq) = (t, o.seq)) && g.sent with
  | some g =>
    if g.aborted then s
    else
      let mark (x : GuestOp) : GuestOp := if (x.q, x.seq) = (t, o.seq) then { x with aborted := true } else x
      ({ s with kg := { s.kg with ops := s.kg.ops.map mark } }).kerupSend (g.queue % 2) (.abort g.handle)
  | none => s.abortOp t o

/-- ABORT in OP mode (Table 5.7). -/
def State.abortOne (q : Nat) (o : OpRec) (t : Nat) (s : State) : State :=
  let x := dbits o.desc 16 0 64
  match s.op? t x with
  | some p =>
    if p.abortable then (s.abortTarget t p).completeOp q o St.SUCCESS 0 1 0 []
    else s.setOp q { o with phase := .running }
  | none =>
    let k := s.queue t
    if x < k.expected then s.completeOp q o St.ABORT_LATE 0 0 0 []
    else if 16 ≤ k.aborts.length then s.completeOp q o St.LIMIT 0 0 0 []
    else (s.setQueue t { k with aborts := k.aborts ++ [x] }).completeOp q o St.SUCCESS 0 1 0 []

/-- ABORT in QUEUE mode (R187): a STOPPED target resumes at its expected sequence number; the ABORT waits for the GUEST operations that the
guest has yet to end, and counts those that complete ABORTED. -/
def State.abortQueue (q : Nat) (o : OpRec) (t : Nat) (s : State) : State :=
  let hit := (s.queue t).ops.filter fun p => p.abortable
  let s1 := s.forEach hit fun p a => a.abortTarget t p
  let k := s1.queue t
  let s2 := if k.state = 3 then
      (s1.setQueue t { k with state := 1, stopCause := 0, asked := k.expected - 1, lastFetch := s1.now }).resumeFetch t
    else s1
  let left := (hit.filter fun p => (s1.op? t p.seq).isSome).map fun p => p.seq
  let n := hit.length - left.length
  if left.isEmpty then s2.completeOp q o St.SUCCESS 0 n 0 []
  else s2.setOp q { o with phase := .running, awaits := left, done := n }

end Sys2Proof.Machine
end

