-- ==== Sys2Proof/Machine/Settle.lean ====
section
/-! DEFINITION. What follows from a command inside the same step: reactions, completions, commits and releases that its change of state
makes due (R26, R29, R36, R52, R513). -/

namespace Sys2Proof.Machine

open Sys2Proof

/-! Writes and reads (R18, R22, R26, Table 1.10). -/

/-- Twin durability is not waited for: TWIN_COMPLETE is suspended, or no link key is in force. -/
def State.twinOff (s : State) : Bool := s.isSet F.PLD_DUR_STATE_TWIN_COMPLETE_SUSPENDED || !s.cw.linkKey || !s.mode.twin

/-- A completed write counted in a PERSIST scope: a logical device, or 64 + GID × 2^16 + P_Key of RDMA (Table 1.6). -/
def State.widenScope (key seq : Nat) (s : State) : State :=
  { s with scopes := Sparse.set 0 key (max (Sparse.get 0 key s.scopes) seq) s.scopes }

/-- An accepted write whose completion point is reached: its read-back and those of the earlier writes of its slice past (Table 6.5), its
merge where it waits for one, and twin durability where Table 1.3 asks for it. -/
def State.writeReady (w : WriteRec) (s : State) : Bool :=
  w.done20 && !w.verify && (!w.twin || decide (w.seq ≤ s.ackSeq) || s.twinOff) &&
    !(s.writes.any fun e => decide (e.id < w.id) && decide (homeOf e.line = homeOf w.line) && !e.done20)

/-- An RDMA write of a message has completed as a local-durable one: the message's answer carries LOCAL_ONLY (R24, R26). -/
def State.noteLocal (key psn : Nat) (s : State) : State :=
  let p := s.qp key
  { s with eth := { s.eth with qps := Sparse.set {} key { p with answers := p.answers.map fun x => if x.psn = psn then { x with local_ := true } else x }
                                        s.eth.qps } }

/-- The completion of a write returned on its path (Table 1.3, R26), with its stages for the tracer (Table 6.9). -/
def State.completeWrite (w : WriteRec) (s : State) : State :=
  let early := w.twin && !decide (w.seq ≤ s.ackSeq)
  let wait := if w.twin then s.now - w.accepted - 20 - 20 * w.repeats else 0
  let s1 := s.traceEnd w.sampled [w.wake, 4 + w.arb, w.hold + wait, 3, 0, 0, 0, 23 + 20 * w.repeats]
  match w.src with
  | .cxl l n tag => (s1.widenScope n w.seq).emit (.cxlCmp l n tag s.devLoad)
  | .rdma key psn =>
    let p := s.qp key
    (s1.widenScope (64 + p.gid * 2 ^ 16 + p.pkey % 2 ^ 15) w.seq).when (early || w.suspended) (State.noteLocal key psn)
  | .guest p tag => s1.kerupSend p (if early && s.fenced then .cmpErr tag 0x13 else .cmpOk tag (early || w.suspended))
  | _ => s1

/-- The writes that are ready completed. -/
def State.completeWrites (s : State) : State :=
  ({ s with writes := s.writes.filter fun w => !s.writeReady w }).forEach (s.writes.filter fun w => s.writeReady w) State.completeWrite

/-- The reads held under R22 whose line's newest value is twin-durable, or whose wait a suspension ends, answered. -/
def State.releaseReads (s : State) : State :=
  let go (r : ReadRec) : Bool := !r.missed && (decide (s.readWait (lineOf r.addr) = 0) || s.twinOff)
  ({ s with reads := s.reads.filter fun r => !go r }).forEach (s.reads.filter go) fun r a =>
    let v := a.readValue r.addr r.len
    (a.answerRead r (if v.1 then St.POISONED else 0) v.2).traceEnd r.sampled [r.wake, 4 + r.arb, s.now - r.taken, 3, 0, 0, 0, 17]

/-- Writes refused after acceptance or at a held presentation, for the sources that wait for nothing else: the guest's answer (R459), a stream's
status block (R246); the controller's own writes have none to tell. -/
def State.tellRefused (s : State) : State :=
  let mine (x : Src) : Bool := match x with
    | .guest _ _ | .hub => true
    | .op q _ => decide (2 ^ 25 ≤ q)
    | _ => false
  ({ s with failed := s.failed.filter fun (e : Src × Nat) => !mine e.1 }).forEach (s.failed.filter fun (e : Src × Nat) => mine e.1)
    fun (e : Src × Nat) a =>
      match e.1 with
      | .guest p tag =>
        ({ a with writes := a.writes.filter fun (w : WriteRec) => decide (w.src ≠ e.1) }).kerupSend p (.cmpErr tag (guestCode e.2))
      | .op _ _ => a.raise Ev.STREAM_STATUS_REFUSED []
      | _ => a

/-- What a fence does at once (Table 1.10): guest and RDMA writes not yet accepted are answered, CXL.mem writes stay in their hosts; COPY and
ZERO in execution stop. -/
def State.fenceStops (s : State) : State :=
  if !s.fenced then s
  else
    let mine (r : Request) : Bool := r.isWrite && match r.src with
      | .guest _ _ | .rdma _ _ | .cxl _ _ _ => true
      | .op q _ => decide (q < 2 ^ 25)
      | .hub => false
    let s1 := ({ s with ingress := s.ingress.filter fun (r : Request) => !mine r }).forEach
      (s.ingress.filter fun (r : Request) => mine r) fun (r : Request) a =>
        match r.src with
        | .guest p tag => a.kerupSend p (.cmpErr tag 0x13)
        | .rdma _ _ => { a with failed := a.failed ++ [(r.src, St.FENCED)] }
        | _ => a
    s1.forEach s1.queues fun e a =>
      a.forEach (e.2.ops.filter fun o => [2, 3].contains (dOpcode o.desc) && decide (o.phase = .running)) fun o b =>
        b.endCopy e.1 o St.FENCED 0

/-! Operations and horizons (R28, R29, R36, R184, R187). -/

/-- An operation whose record waits for its mirror frame, a PERSIST after the end of mirroring, an ABORT whose target has gone, and a WAIT
whose target queue has gone: completed. -/
def State.settleOp (q : Nat) (o : OpRec) (s : State) : State :=
  match o.phase, o.fin with
  | .finishing, some f =>
    let early := decide (s.ackSeq < o.wait)
    if !early ∨ s.twinOff then s.completeOp q { o with suspended := o.suspended || early } f.1 f.2.1 f.2.2.1 f.2.2.2 [] else s
  | .running, _ =>
    if dOpcode o.desc = 1 then (if s.mode.twin ∧ !s.fenced then s else s.completeOp q o St.LOCAL_ONLY 0 0 0 [])
    else if dOpcode o.desc = 8 then
      (if s.targetExists (targetKey o.desc) then s else (s.completeOp q o St.OBJECT_GONE 0 0 0 []).resumeFetch q)
    else if dOpcode o.desc = 9 ∧ dbits o.desc 24 0 1 = 1 then
      (if o.awaits.any fun x => (s.op? (targetKey o.desc) x).isSome then s else s.completeOp q o St.SUCCESS 0 o.done 0 [])
    else if dOpcode o.desc = 9 then
      (if (s.op? (targetKey o.desc) (dbits o.desc 16 0 64)).isSome then s else s.completeOp q o St.ABORT_LATE 0 0 0 [])
    else s
  | _, _ => s

/-- The operations of every queue, and the horizons. -/
def State.settleQueues (s : State) : State :=
  let s1 := s.forEach s.queues fun e a => a.forEach e.2.ops fun o b => if (b.op? e.1 o.seq).isSome then b.settleOp e.1 o else b
  s1.forEach s1.queues fun e a => a.advanceHorizon e.1

/-- Set LSA completes when its frame is acknowledged, or mirroring has ended (R127). -/
def State.settleLsa (s : State) : State :=
  s.forEach (s.lds.filter fun (e : Nat × LdState) => decide (e.2.lsaWait ≠ 0)) fun (e : Nat × LdState) a =>
    if e.2.lsaWait ≤ a.ackSeq ∨ a.twinOff then (a.setLd e.1 { a.ld e.1 with lsaWait := 0 }).emit (.mailbox e.1 .success []) else a

/-- COPY and ZERO operations in progress go on as far as nothing holds them. -/
def State.resumeCopies (s : State) : State :=
  s.forEach s.queues fun e a =>
    a.forEach (e.2.ops.filter fun o => [2, 3].contains (dOpcode o.desc) && decide (o.phase = .running)) fun o b => b.resumeCopy e.1 o.seq []

/-- Everything that answers a sender: nothing in SAVE and QUARANTINE (R53). -/
def State.answerAll (s : State) : State :=
  if s.frozenMode then s
  else (((((s.fenceStops.tellRefused).completeWrites).releaseReads).drainHeld.resumeCopies).settleQueues).settleLsa

/-! The rest. -/

/-- The tenants that are being removed. -/
def State.leavingTenants (s : State) : List Nat :=
  s.regs.filterMap fun (e : Nat × Nat) =>
    if e.1 % 64 = 0 ∧ 0x60000 ≤ e.1 / 64 ∧ e.1 / 64 < 0x70000 ∧ e.1 / 64 % 16 = 0 ∧ e.2 = 2 then some ((e.1 / 64 - 0x60000) / 16) else none

/-- The records of merges refused in a restore, sent once a bound logical device covers the line (R298). -/
def State.tellRestored (s : State) : State :=
  s.forEach s.ssb.rstRefused fun line a =>
    if a.boundLds.any fun n => (a.winDpa n line).isSome then
      ({ a with ssb := { a.ssb with rstRefused := a.ssb.rstRefused.filter fun l => decide (l ≠ line) } }).recordLine 4 Ev.MERGE_REFUSED line 0 true
    else a

/-- ActivateFirmware goes on once no key-store update runs (R497). -/
def State.tryActivate (s : State) : State := if s.rv.update.activate && !s.ks.running then s.reeveReset else s

/-- What the Causeway owes (R413 to R440). -/
def State.settleCauseway (s : State) : State :=
  ((((((s.commitAcked).commitTables).noteCopyDone).grantCredits).serveRepairs).tryPaired).beginCutover.leaveService

/-- What keys, tenants and tiers owe (R86, R233, R298, R333, R339). -/
def State.settleStore (s : State) : State :=
  let s1 := s.releaseKeyWaits.checkRotateOps
  let s2 := s1.forEach s1.leavingTenants State.checkTenantGone
  (s2.checkPinFills.tellRestored).giveFrames

/-- The reactions, completions, commits and releases a command leaves behind carried out, reactions first and last. -/
def State.settle (s : State) : State :=
  let s1 := (((s.react 16).sweepConds).answerAll.settleCauseway).settleStore
  let s2 := ((s1.checkDrains.returnChannels).trainPaths.tryAssay).sluice
  let s3 := ((((s2.rdmaAnswers).sendFull).reapQueues).sweepGuestOps.lowerStep).tryActivate
  ((((((s3.answerAll).react 16).pump).autoRamp).syncWindow.syncQpLimit.react 16).syncWindow).when (!s.frozenMode) State.returnCredits

/-- The outcome of a command: the state it leaves, settled. -/
def finish (s : State) : Host.Outcome State Fault Refusal := .next s.settle

end Sys2Proof.Machine
end

