-- ==== Sys2Proof/Machine/Adc.lean ====
section
/-! DEFINITION. The sensor ADC (R503, R504). -/

namespace Sys2Proof.Machine

open Sys2Proof

/-- Full scale of a range in µV: HIGH, MID and LOW. -/
def fullScale (range : Nat) : Int := if range = 0 then 2400000 else if range = 1 then 600000 else 150000

/-- A value in two's complement of 24 bits as a number. -/
def adcInt (v : Nat) : Int := if v < 2 ^ 23 then (v : Int) else (v : Int) - 2 ^ 24

/-- A channel is held in HIGH: LOCK_HIGH, or channel 1 from SAVE entry until the rails fall (R504). -/
def State.heldHigh (c : Nat) (s : State) : Bool := s.isSet (F.ADC_CH_CFG_LOCK_HIGH c) || (decide (c = 1) && decide (s.mode = .save))

/-- The range in which an input is converted, and whether the result follows a switch (R504): upwards in the cycle in which the input passes
95 % of the present full scale; downwards after four results in a row below 80 % of the next lower full scale. -/
def State.adcRange (c : Nat) (x peak : Int) (s : State) : Nat × Bool × Nat :=
  if 16 ≤ c then (3, false, 0)
  else if s.heldHigh c then (0, false, 0)
  else
    let r := s.get (F.ADC_RESULT_RANGE c)
    let r0 := if r = 3 then 0 else r
    if 0 < r0 ∧ 95 * fullScale r0 < 100 * peak then
      let r1 := r0 - 1
      (if 0 < r1 ∧ 95 * fullScale r1 < 100 * x then 0 else r1, true, 0)
    else if r0 < 2 ∧ 100 * x < 80 * fullScale (r0 + 1) then
      let n := Sparse.get 0 c s.rv.below + 1
      if n = 4 then (r0 + 1, true, 0) else (r0, false, n)
    else (r0, false, 0)

/-- A result placed: VALID, RANGED, RANGE and VALUE, and the trackers, which ignore a RANGED result (R504). -/
def State.adcResult (c range : Nat) (ranged : Bool) (v : Nat) (s : State) : State :=
  let s1 := s.put (F.ADC_RESULT_VALID c) 1 |>.put (F.ADC_RESULT_RANGED c) (flag ranged) |>.put (F.ADC_RESULT_RANGE c) range
    |>.put (F.ADC_RESULT_VALUE c) v
  if ranged then s1
  else
    let s2 := if adcInt v < adcInt (s1.get (F.ADC_MIN_VALUE c)) then s1.put (F.ADC_MIN_VALUE c) v else s1
    if adcInt (s2.get (F.ADC_MAX_VALUE c)) < adcInt v then s2.put (F.ADC_MAX_VALUE c) v else s2

/-- A conversion of BANK_V in µV at the bank (R268, R281): the assay's samples, the voltages of the last 1 ms, the present voltage. -/
def State.bankVoltage (uv : Nat) (ranged : Bool) (s : State) : State :=
  let mv := uv / 1000
  let keep := (s.ssb.volts.filter fun (e : Nat × Nat) => decide (s.now < e.1 + msFc 1)) ++ [(s.now, mv)]
  let mine := s.lastSamples 0 63 ++ [(0, uv, ranged)]
  { s with ssb := { s.ssb with volts := keep, vNow := mv, samples := (s.ssb.samples.filter fun e => decide (e.1 ≠ 0)) ++ mine } }

/-- A conversion of BANK_I in µA: the samples, the present current, and the charge of a discharge of 10 µs steps. -/
def State.bankCurrent (ua : Nat) (ranged : Bool) (s : State) : State :=
  let mine := s.lastSamples 1 63 ++ [(1, ua, ranged)]
  let more := if s.get F.ASSAY_STATUS_STATE = 2 then ua * 10 else 0
  { s with ssb := { s.ssb with iNow := ua / 1000, charge := s.ssb.charge + more,
                               samples := (s.ssb.samples.filter fun e => decide (e.1 ≠ 1)) ++ mine } }

/-- What a result means to the unit that reads the channel: the bank at its scale (Table 8.2), the rails, VAUX. -/
def State.adcUse (c uv : Nat) (ranged : Bool) (s : State) : State :=
  if c = 0 then s.bankVoltage (uv * s.bankField 44 4 / 1000) ranged
  else if c = 1 then s.bankCurrent (uv * s.bankField 48 4 / 1000) ranged
  else if c < 14 then s.railConversion (c - 2) uv ranged
  else if c = 14 then s.vauxConversion (uv * 4 / 1000) ranged
  else s

/-- ADC_CONVERSION (R503, R504). -/
def execAdcConversion (c : Fin 32) (reading peak : BitVec 24) (s : State) : Host.Outcome State Fault Refusal :=
  let n := c.val
  if s.mode = .off ∨ s.mode = .dormant ∨ !s.isSet (F.ADC_CH_CFG_EN n) then finish s
  else
    let x := adcInt reading.toNat
    let r := s.adcRange n x (adcInt peak.toNat)
    let s1 := s.adcResult n r.1 r.2.1 reading.toNat
    let k := if r.2.1 then Sparse.get 0 n s.rv.ranged + 1 else 0
    let s2 := { s1 with rv := { s1.rv with below := Sparse.set 0 n r.2.2 s1.rv.below, ranged := Sparse.set 0 n k s1.rv.ranged } }
    let s3 := s2.when (decide (16 ≤ k)) (State.raiseLimited Ev.ADC_RANGE_UNSTABLE n [n])
    finish (s3.adcUse n x.toNat r.2.1)

/-- A write of TRACK_CLEAR (R504): every tracker at its reset value. -/
def State.trackClear (s : State) : State :=
  s.forEach (List.range 32) fun c a => a.put (F.ADC_MIN_VALUE c) 0x7FFFFF |>.put (F.ADC_MAX_VALUE c) 0x800000

/-- ADC_TRACK_CLEAR (R504). -/
def execAdcTrackClear (s : State) : Host.Outcome State Fault Refusal := finish s.trackClear

end Sys2Proof.Machine
end

