-- ==== Sys2Proof/Machine/Bank.lean ====
section
/-! DEFINITION. The commands of freeboard, the Sluice, the thermal cap, the bank and its assay (R261 to R279). -/

namespace Sys2Proof.Machine

open Sys2Proof

/-- FREEBOARD_RECOMPUTE (R262). -/
def execFreeboardRecompute (s : State) : Host.Outcome State Fault Refusal := finish s.recomputeFreeboard

/-! Shares (R274, R277). -/

/-- The windows of the last 1 ms moved on by 100 µs. -/
def State.rollWindows (s : State) : State :=
  { s with ssb := { s.ssb with charged := [], drained := 0
                               history := (s.ssb.charged :: s.ssb.history).take 10
                               drainHist := (s.ssb.drained :: s.ssb.drainHist).take 10 } }

/-- The bytes a tenant's COPY and ZERO operations in progress have still to write, by ingress point. -/
def State.copyDemand (a : Nat) (s : State) : Nat :=
  s.queues.foldl (fun n e =>
    e.2.ops.foldl (fun m o => if [2, 3].contains (dOpcode o.desc) ∧ o.phase = .running ∧ accountAt e.2.tenant (s.portOf (.op e.1 o.seq)) = a then
      m + ((copyOperands o.desc).2.2 - o.done) else m) n) 0

/-- The demand of an account over the last 1 ms in bytes: its lines admitted, those of its writes that wait, and the rest of its COPY and ZERO
operations (log entry 150). -/
def State.demand (a : Nat) (s : State) : Nat :=
  256 * (s.ssb.history.foldl (fun n h => n + Sparse.get 0 a h) 0 +
    (s.ingress.filter fun r => r.isWrite && r.src.charged && decide (accountAt r.tenant (s.portOf r.src) = a)).length) + s.copyDemand a

/-- The demand of a tenant at all its ingress points. -/
def State.tenantDemand (t : Nat) (s : State) : Nat := (List.range 16).foldl (fun n p => n + s.demand (accountAt t p)) 0

/-- The accounts of R274: (number, weight, demand). The mirror account is 4096. -/
def State.accounts (s : State) : List (Nat × Nat × Nat) :=
  let ts := ((s.ssb.history.map fun h => h.map fun (e : Nat × Nat) => e.1 / 16).flatten ++ (s.ingress.filter Request.isWrite).map (fun r => r.tenant) ++
    (s.queues.filter fun e => e.2.ops.any fun o => [2, 3].contains (dOpcode o.desc) && decide (o.phase = .running)).map fun e =>
      e.2.tenant).eraseDups.filter fun t => decide (t ≠ 0) && decide (t ≠ 4096)
  (ts.map fun t => (t, max 1 (s.get (F.TENANT_W0_SLUICE_WEIGHT t)), s.tenantDemand t)) ++
    [(4096, max 1 (s.get F.SSB_CTRL_MIRROR_WEIGHT), s.demand (accountAt 4096 0))]

/-- A tenant's share in bytes per 1 ms divided among its ingress points in proportion to its demand at each, in bytes per 100 µs (R274). -/
def State.divideShare (e : Nat × Nat) (s : State) : List (Nat × Nat) :=
  if e.1 = 4096 then [(accountAt 4096 0, e.2 / 10)]
  else
    let all := s.tenantDemand e.1
    ((List.range 16).map fun p => (accountAt e.1 p, if all = 0 then 0 else e.2 * s.demand (accountAt e.1 p) / all / 10)).filter fun x => decide (x.2 ≠ 0)

/-- R_drain in MB/s: 0 while write-back is paused (R274, R278). -/
def State.drainRate (s : State) : Nat :=
  if s.isSet F.CUL_STATUS_WB_PAUSED then 0 else s.ssb.drainHist.foldl (· + ·) 0 * 256 / 1000

/-- SLUICE_START to the queues of a tenant: at most one a second to a queue, with the admitted rate (R189, R277). -/
def State.startLimit (t rate : Nat) (s : State) : State :=
  s.forEach ((s.queues.filter fun e => decide (e.2.tenant = t)).map (·.1)) fun q a =>
    let k := a.queue q
    if a.takesNotices q ∧ (k.limitAt = 0 ∨ k.limitAt - 1 + secFc 1 ≤ a.now) then
      (a.setQueue q { k with limitAt := a.now + 1 }).noticeTo q 4 St.SUCCESS 0 rate
    else a

/-- The shares recomputed, with the notices of the tenants whose limit begins or ends. -/
def State.recomputeShares (s : State) : State :=
  let s1 := s.rollWindows
  let s2 := s1.put F.SLU_DRAIN_MBPS_MBPS (min (2 ^ 20 - 1) s1.drainRate)
  let lim := s2.admitLimit
  let s3 := s2.put F.SLU_ADMIT_MBPS_MBPS (min (2 ^ 20 - 1) (lim.getD (2 ^ 20 - 1)))
  match lim with
  | none => ({ s3 with ssb := { s3.ssb with shares := [] } }).endLimits s3.ssb.limited
  | some l =>
    let accts := s3.accounts
    let sh := shares (accts.length + 1) (l * 1000) accts
    let share (t : Nat) : Nat := ((sh.find? fun e => decide (e.1 = t)).map (·.2)).getD 0
    let past := (accts.filter fun a => decide (a.1 ≠ 4096) && decide (share a.1 < a.2.2)).map (·.1)
    let begun := past.filter fun t => !s3.ssb.limited.contains t
    let ended := s3.ssb.limited.filter fun t => !past.contains t
    let s4 := ({ s3 with ssb := { s3.ssb with shares := (sh.flatMap fun e => s3.divideShare e).foldl (fun m (x : Nat × Nat) => Sparse.set 0 x.1 x.2 m) [] } }).endLimits ended
    let s5 := { s4 with ssb := { s4.ssb with limited := s4.ssb.limited ++ begun } }
    let s6 := s5.forEach begun fun t a => a.startLimit t (share t / 1000)
    s6.forEach past fun t a => a.bump (F.SLU_TENANT_THROTTLED_US_US t) 100

/-- SLUICE_SHARE_RECOMPUTE (R274, R277). -/
def execSluiceShareRecompute (s : State) : Host.Outcome State Fault Refusal :=
  if !s.mode.mainRails ∨ s.mode = .save then finish s else finish s.recomputeShares

/-- THERM_STEP_MS as it is treated. -/
def State.thermStepMs (s : State) : Nat := let v := s.get F.SLU_CFG_THERM_STEP_MS; if v < 10 then 100 else v

/-- THERMAL_CAP_STEP (R279, R559): n rises while the throttle condition persists and falls once it clears; at 0 the cap ends. -/
def execThermalCapStep (s : State) : Host.Outcome State Fault Refusal :=
  if !s.isSet F.SLU_STATUS_THERM_ENFORCE then finish s
  else
    let n := s.get F.SLU_STATUS_THERM_STEP
    let s1 := s.bump F.TH_ENFORCE_MS_MS s.thermStepMs
    if s.isSet F.TH_STATUS_REQUESTED then finish (s1.put F.SLU_STATUS_THERM_STEP (min 7 (n + 1)))
    else if n ≤ 1 then
      finish (s1.put F.SLU_STATUS_THERM_STEP 0 |>.put F.SLU_STATUS_THERM_ENFORCE 0 |>.put F.TH_STATUS_ENFORCING 0)
    else finish (s1.put F.SLU_STATUS_THERM_STEP (n - 1))

/-! The bank. -/

/-- A valid record taken over (R266): a new SERIAL discards the stored assay. -/
def State.takeBankId (record : Nat) (s : State) : State :=
  let s1 := s.forEach (List.range 64) fun j a => a.put (F.BANK_ID_RECORD j) (bitsOf record (32 * j) 32)
  let serial := bitsOf record 32 128
  let s2 := (s1.put F.FB_STATUS_BANK_ID_VALID 1).endCond Ev.BANK_ID_INVALID
  if serial = s2.ssb.bankSerial then s2
  else ({ s2 with ssb := { s2.ssb with bankSerial := serial, repeat_ := false } }).put F.FB_STATUS_ASSAYED 0

/-- BANK_ID_READ (R266): at BRINGUP and every 60 s in WATCH and the serving modes. -/
def execBankIdRead (record : BitVec 2048) (crcOk : Bool) (s : State) : Host.Outcome State Fault Refusal :=
  if s.mode ≠ .bringup ∧ s.mode ≠ .watch ∧ !s.mode.serving then finish s
  else if crcOk ∧ bitsOf record.toNat 0 16 = 1 then finish (s.takeBankId record.toNat).recomputeFreeboard
  else finish ((s.put F.FB_STATUS_BANK_ID_VALID 0).raise Ev.BANK_ID_INVALID []).recomputeFreeboard

/-! The assay. -/

/-- An assay is due (R267): it starts now, or waits for a claim or the next serving mode. -/
def State.requestAssay (s : State) : State :=
  if s.mode.mainRails then ({ s with ssb := { s.ssb with assayDue := true } }).tryAssay else s

/-- ASSAY_DUE (R267): in BRINGUP only for a charged bank without an accepted assay. -/
def execAssayDue (s : State) : Host.Outcome State Fault Refusal :=
  if s.mode = .bringup ∧ (s.isSet F.FB_STATUS_ASSAYED ∨ s.ssb.vNow < s.vReady ∨ !s.isSet F.FB_STATUS_BANK_ID_VALID) then finish s
  else finish s.requestAssay

/-- ASSAY_NOW (R267). -/
def execAssayNow (s : State) : Host.Outcome State Fault Refusal := finish s.requestAssay

/-- ASSAY_PREPARE_READY (Table 8.3). -/
def execAssayPrepareReady (s : State) : Host.Outcome State Fault Refusal := finish s.assayDischarge

/-- ASSAY_PREPARE_TIMEOUT (Table 8.3): POSTPONED. -/
def execAssayPrepareTimeout (s : State) : Host.Outcome State Fault Refusal :=
  if s.get F.ASSAY_STATUS_STATE = 1 then finish (s.put F.ASSAY_STATUS_LAST_RESULT 6).endAssay else finish s

/-- ASSAY_ESR_MEASURE (Table 8.3): ESR = (V0 − V1) ÷ I1, in µΩ. -/
def execAssayEsrMeasure (s : State) : Host.Outcome State Fault Refusal :=
  let v := s.lastSamples 0 8
  let i := s.lastSamples 1 8
  if s.get F.ASSAY_STATUS_STATE ≠ 2 ∨ s.ssb.measured ∨ v.length < 8 ∨ i.length < 8 then finish s
  else
    let v1 := meanOf v
    let i1 := meanOf i
    finish { s with ssb := { s.ssb with v1 := v1, i1 := i1, measured := true,
                                        esrUohm := if i1 = 0 then 0 else (s.ssb.v0 - v1) * 10 ^ 6 / i1 } }

/-- ASSAY_DISCHARGE_END (Table 8.3): BANK_V + ESR × BANK_I at or below 0.97 × V0. -/
def execAssayDischargeEnd (s : State) : Host.Outcome State Fault Refusal :=
  let v := s.latest 0
  let i := s.latest 1
  if s.get F.ASSAY_STATUS_STATE = 2 ∧ s.ssb.measured ∧ 100 * (v * 10 ^ 6 + s.ssb.esrUohm * i) ≤ 97 * 10 ^ 6 * s.ssb.v0 then
    finish s.assayRelax
  else finish s

/-- ASSAY_DISCHARGE_TIMEOUT (Table 8.3): REJECTED_NO_LOAD. -/
def execAssayDischargeTimeout (s : State) : Host.Outcome State Fault Refusal :=
  if s.get F.ASSAY_STATUS_STATE = 2 then
    let s1 := s.assayRelax
    finish (({ s1 with ssb := { s1.ssb with noLoad := true } }).rejectAssay 4)
  else finish s

/-- ASSAY_RELAX_END (Table 8.3): V2, the evaluation, and RECHARGE. -/
def execAssayRelaxEnd (s : State) : Host.Outcome State Fault Refusal :=
  let v := s.lastSamples 0 64
  if s.get F.ASSAY_STATUS_STATE ≠ 3 ∨ v.length < 64 then finish s
  else
    let s1 := { s with ssb := { s.ssb with v2 := meanOf v, rangedOver := s.ssb.rangedOver || mostlyRanged v } }
    finish ((if s1.ssb.noLoad then s1 else s1.evaluateAssay).put F.ASSAY_STATUS_STATE 5)

/-- ASSAY_RECHARGE_DONE (Table 8.3): BANK_V at or above V0 − 0.5 %. -/
def execAssayRechargeDone (s : State) : Host.Outcome State Fault Refusal :=
  if s.get F.ASSAY_STATUS_STATE = 5 ∧ 995 * s.ssb.v0 ≤ 1000 * s.latest 0 then
    finish s.endAssay
  else finish s

/-- ASSAY_RECHARGE_TIMEOUT (Table 8.3). -/
def execAssayRechargeTimeout (s : State) : Host.Outcome State Fault Refusal :=
  if s.get F.ASSAY_STATUS_STATE = 5 then finish (s.endAssay.raise Ev.BANK_NOT_READY []) else finish s

/-- ASSAY_RETRY_DUE (R268, R270): after a REPEAT, a rejection or a postponement. -/
def execAssayRetryDue (s : State) : Host.Outcome State Fault Refusal :=
  let r := s.get F.ASSAY_STATUS_LAST_RESULT
  if 3 ≤ r ∧ r ≤ 6 ∧ s.get F.ASSAY_STATUS_STATE = 0 then finish s.requestAssay else finish s

end Sys2Proof.Machine
end

