-- ==== Sys2Proof/Machine/Berm.lean ====
section
/-! DEFINITION. The commands of the Berm and of the seconds count (R520, R563 to R567), and the start of the witness link (R420). -/

namespace Sys2Proof.Machine

open Sys2Proof

/-! Equivalent hours (R564). -/

/-- e raised to `num ÷ den`, times 2^40, as the sum of the first 60 terms of its series, each rounded down (log entry 41). -/
def expFix (num den : Nat) : Nat :=
  ((List.range 60).foldl (fun (t : Nat × Nat) k => (t.1 + t.2, t.2 * num / (den * (k + 1)))) (0, 2 ^ 40)).1

/-- AF × 10^6 at a junction temperature in quarters of a degree Celsius (R564): the exponent is
8,123.5 × (1 ÷ 358.15 − 1 ÷ T), with T in hundredths of a kelvin. -/
def accelMicro (quarter : Int) : Nat :=
  let t := (27315 + 25 * quarter).toNat
  if 35815 ≤ t then 10 ^ 6 * expFix (812350 * (t - 35815)) (35815 * t) / 2 ^ 40
  else 10 ^ 6 * 2 ^ 40 / expFix (812350 * (35815 - t)) (35815 * max t 1)

/-- A second of the LIFE pool: whole hours are drawn as they complete (R564). -/
def State.lifeSecond (s : State) : State :=
  match s.hottestOf s.sensorsRead with
  | none => s
  | some h =>
    let acc := s.berm.lifeAcc + accelMicro h.2
    let hour := 3600 * 10 ^ 6
    let s1 := { s with berm := { s.berm with lifeAcc := acc % hour } }
    s1.when (decide (hour ≤ acc)) (State.bermDraw 13 0 (acc / hour))

/-- OPERATING_SECOND_TICK (R520, R564): the count advances, is stored every 3,600 s, and the LIFE pool draws while the main rails are up. -/
def execOperatingSecondTick (s : State) : Host.Outcome State Fault Refusal :=
  if s.mode = .off then finish s
  else
    let n := s.get F.ID_OPERATING_S_SECONDS + 1
    let s1 := s.put F.ID_OPERATING_S_SECONDS n
    let s2 := if n % 3600 = 0 ∧ s1.pw.firmware then { s1 with pw := { s1.pw with stored := n } } else s1
    if s2.mode.mainRails ∧ s2.pw.firmware then finish s2.lifeSecond else finish s2

/-- BERM_BUCKET_CLOSE (R566): the last nine complete buckets stay. -/
def execBermBucketClose (s : State) : Host.Outcome State Fault Refusal :=
  if !s.pw.firmware then finish s
  else
    let close (r : BermRec) : BermRec := { r with past := (r.now_ :: r.past).take 9, now_ := (0, 0) }
    let ns := (s.berm.recs.filter fun (e : Nat × BermRec) => e.2.valid).map fun (e : Nat × BermRec) => e.1
    let s1 := s.forEach ns fun n a => (a.setBermRec n (close (a.bermRec n))).recomputeBerm n
    finish s1.bermStatus

/-- BERM_COMMIT (R567): the older slot takes the ledger, and is in force. -/
def execBermCommit (s : State) : Host.Outcome State Fault Refusal :=
  if !s.pw.firmware then finish s
  else
    let a := s.berm.a
    let b := s.berm.b
    let toB := a.ok && (!b.ok || decide (b.sgen < a.sgen))
    let n := max (if a.ok then a.sgen else 0) (if b.ok then b.sgen else 0) + 1
    let k : BermSlot := { ok := true, sgen := n, recs := s.berm.recs }
    finish (({ s with berm := { s.berm with a := if toB then a else k, b := if toB then k else b, active := flag toB, dirty := false } }).put
      F.BERM_COMMIT_SGEN n)

/-- WITNESS_LINK_ALIGNED (R420): a new session is drawn, and COUNTER starts again. -/
def execWitnessLinkAligned (s : State) : Host.Outcome State Fault Refusal :=
  if !s.mode.mainRails then finish s
  else
    let d := s.draw 32
    finish (({ d.2 with wit := { d.2.wit with started := true, mySession := d.1, myCounter := 0, sent := [] } }).put F.CW_WIT_STATUS_LINK_UP 1)

end Sys2Proof.Machine
end

