-- ==== Sys2Proof/Machine/Collector.lean ====
section
/-! DEFINITION. The commands of the fault collector and of the event recorder (R508 to R530). -/

namespace Sys2Proof.Machine

open Sys2Proof

/-! Error lines (R510 to R512). -/

/-- ERROR_LINE_ASSERT (R510). -/
def execErrorLineAssert (line : Fin 48) (link : Option (Fin 13)) (word : List (Fin 32 × List Nat)) (s : State) :
    Host.Outcome State Fault Refusal :=
  if !s.collectorRuns then finish s
  else finish (s.readLine line.val (link.map fun k => k.val) (word.map fun e => (e.1.val, e.2)))

/-- WIRE_FAULT_DETECT (R511): the pair's wire-fault source; a faulty guest pair counts as asserted. A guest pair is not checked while the
guest's supplies are off (R465). -/
def execWireFaultDetect (pair : ErrPair) (s : State) : Host.Outcome State Fault Refusal :=
  if !s.collectorRuns then finish s
  else match pair with
    | .guestNf => if s.guestRuns then finish ((s.raise 8 []).raise Ev.GUEST_NONFATAL []) else finish s
    | .guestF => if s.guestRuns then finish ((s.raise 9 []).raise Ev.GUEST_FATAL []) else finish s
    | .line j => if 2 ≤ j.val then finish (s.raise (16 + j.val) []) else finish s

/-- WIRE_FAULT_POLL (R511): while the fault lasts. -/
def execWireFaultPoll (line : Fin 48) (link : Option (Fin 13)) (word : List (Fin 32 × List Nat)) (s : State) :
    Host.Outcome State Fault Refusal :=
  if s.collectorRuns ∧ Sparse.get 0 (16 + line.val) s.fc.cond ≠ 0 ∧ s.lineReadable (link.map fun k => k.val) then
    finish (s.raiseWord line.val (word.map fun e => (e.1.val, e.2)))
  else finish s

/-! Acknowledgement and clearing (R515, R518). -/

/-- SOURCE_CONDITION_END (R515): for a source whose condition others report; power-good asserted again ends RAIL_PG_LOST (R541). The
conditions that are states of this model end with them. -/
def execSourceConditionEnd (n : Fin 1536) (s : State) : Host.Outcome State Fault Refusal :=
  if 1172 ≤ n.val ∧ n.val < 1184 then finish (s.railBack (n.val - 1172))
  else if endsFromOutside n.val then finish (s.endCond n.val)
  else finish s

/-- FC_ACK_WRITE (R515). -/
def execFcAckWrite (n : BitVec 11) (s : State) : Host.Outcome State Fault Refusal :=
  if s.collectorRuns then finish (s.ackSource n.toNat) else finish s

/-- A write of FC_RAISE (R509): a firmware-defined source, with DETAIL_A from FC_RAISE_DETAIL. -/
def State.fcRaise (n : Nat) (s : State) : State :=
  if s.collectorRuns ∧ 1408 ≤ n ∧ n < 1536 then s.raise n [s.get F.FC_RAISE_DETAIL_DETAIL] else s

/-- FC_RAISE_WRITE (R509). -/
def execFcRaiseWrite (n : BitVec 11) (s : State) : Host.Outcome State Fault Refusal := finish (s.fcRaise n.toNat)

/-- A write of PIN_CLEAR (R518): no effect while a source taken at PIN is uncleared or an always-on cause remains. -/
def State.pinClear (s : State) : State :=
  if !s.collectorRuns ∨ s.pinUncleared ∨ s.fc.regulatorCause ∨ s.fc.wakeCause then s
  else { s with fc := { s.fc with latch := false, latchOver := false } }

/-- FC_PIN_CLEAR (R518). -/
def execFcPinClear (s : State) : Host.Outcome State Fault Refusal := finish s.pinClear

/-! The ring (R524 to R529). -/

/-- Slots of the ring (R526). -/
def ringSlots : Nat := 262144

/-- The SEQ after one (R524). -/
def nextRecSeq (n : Nat) : Nat := if n = 0xFFFFFFFE then 0 else n + 1

/-- Records with the snapshot records that follow each: the groups R527 takes as victims, oldest first. -/
def recGroups : List EvRec → List (List EvRec)
  | [] => []
  | r :: t =>
    match recGroups t with
    | [] => [[r]]
    | g :: gs => if (g.headD r).kind = 1 then (r :: g) :: gs else [r] :: g :: gs

/-- The oldest groups of severity `sev` or lower that provide `k` slots; none when there are too few (R527, R528). -/
def takeVictims (sev : Nat) : Nat → List (List EvRec) → Option (List EvRec)
  | 0, _ => some []
  | _ + 1, [] => none
  | k + 1, g :: gs =>
    if (g.headD ⟨0, 0, 0, 0, 0, 0, false, false, 0, 0, 0, 0, 0, 0, [], 0⟩).severity ≤ sev then
      (takeVictims sev (k + 1 - g.length) gs).map (g ++ ·)
    else takeVictims sev (k + 1) gs

/-- The slots for `k` records of a severity: empty ones first, then those of victims; with the sectors rewritten and what is left of the
records. -/
def State.makeRoom (sev k : Nat) (s : State) : Option (List Nat × List Nat × List EvRec) :=
  let fresh := (List.range (min k (ringSlots - s.fc.slotsUsed))).map (s.fc.slotsUsed + ·)
  let free := s.fc.freeSlots ++ fresh
  if k ≤ free.length then some (free, [], s.fc.records)
  else
    match takeVictims sev (k - free.length) (recGroups s.fc.records) with
    | none => none
    | some vs =>
      let slots := vs.map fun (r : EvRec) => r.slot
      some (sortAsc (free ++ slots), onceEach (slots.map (· / 128)),
        s.fc.records.filter fun (r : EvRec) => !slots.contains r.slot)

/-- Records written into the ring: SEQ and slots given in order; a rewrite waits for PFAIL_N to be deasserted (none then). -/
def State.writeRecs (rs : List EvRec) (s : State) : Option State :=
  match s.makeRoom (rs.headD ⟨0, 0, 0, 0, 0, 0, false, false, 0, 0, 0, 0, 0, 0, [], 0⟩).severity rs.length with
  | none => some s
  | some (slots, sectors, kept) =>
    if !sectors.isEmpty ∧ s.ssb.pfailOn then none
    else
      let r := (rs.zip slots).foldl (fun (t : List EvRec × Nat) (e : EvRec × Nat) =>
        (t.1 ++ [{ e.1 with seq := t.2, slot := e.2 }], nextRecSeq t.2)) ([], s.fc.nextSeq)
      some (({ s with fc := { s.fc with records := kept ++ r.1, nextSeq := r.2,
                                        slotsUsed := min ringSlots (s.fc.slotsUsed + (slots.filter fun x => decide (s.fc.slotsUsed ≤ x) &&
                                          (slots.take rs.length).contains x).length),
                                        freeSlots := (slots.drop rs.length).filter fun x => decide (x < s.fc.slotsUsed) } }).bump
        F.EV_REWRITES_COUNT sectors.length)

/-- The ring has room for `k` records of a severity. -/
def State.hasRoom (sev k : Nat) (s : State) : Bool := (s.makeRoom sev k).isSome

/-- The LOSS record that is due, written before the next event record (R524); without room it stays due. -/
def State.writeLoss (s : State) : Option State :=
  let entries := s.fc.lostEntries + s.fc.depthCopy
  if s.fc.lostRecords = 0 ∧ entries = 0 ∧ s.fc.lostRewrite = 0 then some s
  else
    let r : EvRec := { seq := 0, kind := 2, source := 3, severity := 2, cls := 4, taken := 1, escalated := false,
                       est := s.isSet F.AON_STATUS_ON_RC, seconds := s.get F.ID_OPERATING_S_SECONDS, cycles := s.get F.ID_POWER_CYCLES_COUNT,
                       suppressed := 0, repeats := 0, detA := min s.fc.lostRecords (2 ^ 32 - 1) + min entries (2 ^ 32 - 1) * 2 ^ 32,
                       detB := min s.fc.lostRewrite (2 ^ 32 - 1), values := [], slot := 0 }
    if s.hasRoom 2 1 then
      (s.writeRecs [r]).map fun a => { a with fc := { a.fc with lostRecords := 0, lostEntries := 0, depthCopy := 0, lostRewrite := 0 } }
    else some s

/-- The event record of an entry, with its seven snapshot records (R522, R524). -/
def State.entryRecs (e : EvEntry) (s : State) : List EvRec :=
  let r : EvRec := { seq := 0, kind := 0, source := e.source, severity := e.severity, cls := e.cls, taken := e.taken, escalated := e.escalated,
                     est := e.est, seconds := e.seconds, cycles := e.cycles, suppressed := Sparse.get 0 e.source s.fc.suppressed,
                     repeats := Sparse.get 0 e.source s.fc.repeats, detA := e.detA, detB := e.detB, values := [], slot := 0 }
  let snap (vals : List Nat) (late : Bool) : List EvRec := (List.range 7).map fun i =>
    { r with kind := 1, suppressed := 0, repeats := 0, detA := 0, detB := 5 * i + flag late * 2 ^ 5, values := (vals.drop (5 * i)).take 5 }
  match e.snap with
  | some vals => r :: snap vals false
  | none => if e.snapLate then r :: snap s.adcSnapshot true else [r]

/-- The oldest entry is done with: off its queue, and acknowledged where AUTO_ACK is in effect (R514, R521). COLLECTOR_QUEUE_FULL once the
queue has room again. -/
def State.entryDone (e : EvEntry) (s : State) : State :=
  let s1 := match s.fc.aon with
    | _ :: t => { s with fc := { s.fc with aon := t } }
    | [] => { s with fc := { s.fc with queue := s.fc.queue.drop 1 } }
  let s2 := if s1.autoAck e.source then s1.ackSource e.source else s1
  let n := s2.fc.dropsSinceRoom
  if n = 0 ∨ 1024 ≤ s2.fc.queue.length then s2 else ({ s2 with fc := { s2.fc with dropsSinceRoom := 0 } }).raise 1 [n]

/-- The oldest entry's record suppressed, dropped for want of room, or written (R523, R527, R528). -/
def State.recordEntry (e : EvEntry) (s : State) : State :=
  let fatal := decide (e.severity = 4)
  let used := Sparse.get 0 e.source s.fc.tokensUsed
  if !fatal ∧ 16 ≤ used then
    (({ s with fc := { s.fc with
        suppressed := Sparse.set 0 e.source (satAdd 16 (Sparse.get 0 e.source s.fc.suppressed) 1) s.fc.suppressed } }).bump
      F.EV_SUPPRESSED_COUNT 1).entryDone e
  else match s.writeLoss with
    | none => s
    | some s1 =>
      let rs := s1.entryRecs e
      if s1.hasRoom e.severity rs.length then
        match s1.writeRecs rs with
        | none => s1
        | some s2 =>
          let fc := s2.fc
          ({ s2 with fc := { fc with suppressed := Sparse.set 0 e.source 0 fc.suppressed, repeats := Sparse.set 0 e.source 0 fc.repeats,
                                     tokensUsed := if fatal then fc.tokensUsed else Sparse.set 0 e.source (used + 1) fc.tokensUsed } }).entryDone e
      else
        ((({ s1 with fc := { s1.fc with lostRecords := s1.fc.lostRecords + rs.length } }).bump F.EV_DROPPED_COUNT rs.length).raiseLimited 3 0
          []).entryDone e

/-- A write of records that is cut short: after the erase of its sectors their other records are lost, which the next boot finds (R529); the
entry stays queued, and a torn slot reads as empty (R521, R524). -/
def State.cutWrite (e : EvEntry) (s : State) : State :=
  let rs := s.entryRecs e
  match s.makeRoom e.severity rs.length with
  | some (_, _ :: _, _) =>
    match takeVictims e.severity (rs.length - s.fc.freeSlots.length - (ringSlots - s.fc.slotsUsed)) (recGroups s.fc.records) with
    | none => s
    | some vs =>
      if s.ssb.pfailOn then s
      else
        let sectors := onceEach (vs.map fun (r : EvRec) => r.slot / 128)
        let gone := s.fc.records.filter fun (r : EvRec) => sectors.contains (r.slot / 128)
        { s with fc := { s.fc with records := s.fc.records.filter fun (r : EvRec) => !sectors.contains (r.slot / 128),
                                   freeSlots := sortAsc (s.fc.freeSlots ++ gone.map fun (r : EvRec) => r.slot),
                                   rewriteMark := s.fc.rewriteMark + (gone.length - vs.length) } }
  | _ => s

/-- EVENT_RECORD_WRITE (R521 to R529): the always-on domain's entries first, then the collector's in queue order. -/
def execEventRecordWrite (cut : Bool) (s : State) : Host.Outcome State Fault Refusal :=
  if !s.pw.firmware then finish s
  else match s.fc.aon ++ s.fc.queue with
    | [] => finish s
    | e :: _ => if cut then finish (s.cutWrite e) else finish (s.recordEntry e)

/-- TOKEN_REFILL (R523). -/
def execTokenRefill (code : Fin 1536) (s : State) : Host.Outcome State Fault Refusal :=
  let used := Sparse.get 0 code.val s.fc.tokensUsed
  finish { s with fc := { s.fc with tokensUsed := Sparse.set 0 code.val (used - 1) s.fc.tokensUsed } }

end Sys2Proof.Machine
end

