-- ==== Sys2Proof/Machine/CxlLinks.lean ====
section
/-! DEFINITION. The CXL port, link and function commands: configuration requests, resets, links, service, IDE and HDM
decoders (R102, R110, R111, R116 to R120, R125, R126, R134). -/

namespace Sys2Proof.Machine

open Sys2Proof

/-- A link's bandwidth at its trained rate and width, in GB/s per direction: 16, 32 or 64 GT/s over 8 for each lane (R102;
the derivation of Table 0.6 gives 128 GB/s for a x16 link at 64 GT/s). -/
def State.linkGbPerS (l : Nat) (s : State) : Nat :=
  let perLane := match s.get (F.CXL_LINK_STATUS_RATE l) with
    | 1 => 2
    | 2 => 4
    | 3 => 8
    | _ => 0
  s.get (F.CXL_LINK_STATUS_WIDTH l) * perLane

/-- The features of Table 3.1 a capability structure reports as supported, and those declared absent or not supported. -/
def cxlSupported : List CxlFeature := [.cxlIo, .cxlMem, .flit256, .gpf, .linkIde]
/-- The features of Table 3.1 that are absent. -/
def cxlAbsent : List CxlFeature :=
  [.cxlCache, .flit68, .backInvalidate, .dynamicCapacity, .multiHeaded, .gfam, .portBasedRouting, .secondaryMailbox, .cxlReset, .memClear]

/-- What the function of logical device n on link l answers a configuration access with: its identity (R111; the subsystem identifiers, for
which no register stands, are a free value), its BARs, MSI-X vectors, DVSECs and DOE features (Table 3.3), its CXL capabilities (Table 3.1:
four HDM decoders, a mailbox payload of 4 KiB), a GPF phase 2 of 2 ms at 0 mW (R32), the IDE capability of R116, its CDAT over its whole
window (R102, R108), or the completion alone. -/
def State.cfgAnswer (n l : Nat) (ask : CfgAsk) (s : State) : CfgAnswer :=
  match ask with
  | .power _ => .done
  | .resources => .resources [(0, 65536), (2, 131072), (4, 8192)] 8 [.cxlDevice, .gpf, .flexBusPort, .registerLocator] [.cdat, .spdm, .ideKm]
  | .capabilities => .capabilities 4 4096 cxlSupported cxlAbsent
  | .gpf => .gpf 2000 0
  | .ide => .ide true 32 false
  | .msixMask _ _ => .done
  | .identity => .identity (s.get F.ID_DEVICE_VENDOR_ID) 0x7240 Config.subsystemIds.toNat 0x050210
  | .cdat =>
    .cdat (if s.isSet (F.CXL_LD_WIN_BASE_WIN_VALID n) then (s.get (F.CXL_LD_WIN_SPAN_SPAN_M1 n) + 1) * 2 ^ 30 else 0)
      true 100 100 (s.linkGbPerS l)
  | .other => .done

/-- The state a configuration access leaves: a write of the power state or of an MSI-X mask is taken (Table 3.3). -/
def State.cfgAccess (n : Nat) (ask : CfgAsk) (s : State) : State :=
  match ask with
  | .power d => s.setLd n { s.ld n with d3hot := d }
  | .msixMask v m => s.maskMsix n v.val m
  | .identity | .resources | .capabilities | .gpf | .ide | .cdat | .other => s

/-- CONFIG_REQUEST (R120): answered, with retry status until the port's configuration space is loaded. -/
def execConfigRequest (ld : Fin 64) (tag : Nat) (ask : CfgAsk) (s : State) : Host.Outcome State Fault Refusal :=
  let n := ld.val
  match s.linkOfLd n with
  | none => finish s
  | some l =>
    if !s.linkUp l ∨ s.mode = .save then finish s
    else if !(s.port (l / 4)).cfgLoaded then finish (s.emit (.cfgCompletion n tag .retry))
    else finish ((s.cfgAccess n ask).emit (.cfgCompletion n tag (s.cfgAnswer n l ask)))

/-- PERST_N_ASSERT (R104, R125): every link of the port reset; ignored in SAVE and by a port out of service. -/
def execPerstNAssert (p : Fin 4) (s : State) : Host.Outcome State Fault Refusal :=
  let s1 := s.put (F.CXL_PORT_STATUS_PERST_ASSERTED p.val) 1 |>.bump (F.CXL_PORT_PERST_COUNT_COUNT p.val) 1
  if s.mode = .save ∨ s.get (F.CXL_PORT_STATUS_SVC_STATE p.val) = 0 then finish s1
  else finish (s1.resetPort p.val (decide (s.mode = .quarantine)))

/-- PERST_N_DEASSERT (R120): the port's configuration space is loaded and its links may train. -/
def execPerstNDeassert (p : Fin 4) (s : State) : Host.Outcome State Fault Refusal :=
  let s1 := s.put (F.CXL_PORT_STATUS_PERST_ASSERTED p.val) 0
  if s.mode = .save ∨ s.get (F.CXL_PORT_STATUS_SVC_STATE p.val) = 0 then finish s1
  else finish (s1.setPort p.val { s1.port p.val with cfgLoaded := true })

/-- CXL_LINK_UP (R101, R106, R119, R126): a link of a powered port trains at a width of Table 3.13 within its lanes; narrower or slower than configured it is degraded;
without MLD operation only LD_BASE is reachable; bound logical devices set Memory Active in a serving mode. -/
def execCxlLinkUp (l : Fin 16) (width rate : Nat) (mld lopt : Bool) (s : State) : Host.Outcome State Fault Refusal :=
  let p := l.val / 4
  let k := s.link l.val
  if !s.mode.mainRails ∨ s.get (F.CXL_PORT_STATUS_SVC_STATE p) = 0 ∨ s.isSet (F.CXL_PORT_STATUS_PERST_ASSERTED p) ∨
      !k.present ∨ s.linkUp l.val ∨ rate = 0 ∨ 3 < rate ∨ !([1, 2, 4, 8, 16].contains width) ∨ k.lanes < width then finish s
  else
    let wanted := decide (2 ≤ k.ldCount)
    let s1 := s.put (F.CXL_LINK_STATUS_RATE l.val) rate |>.put (F.CXL_LINK_STATUS_WIDTH l.val) width
      |>.put (F.CXL_LINK_STATUS_MLD_ACTIVE l.val) (flag (wanted && mld)) |>.put (F.CXL_LINK_STATUS_LOPT_FLIT l.val) (flag lopt)
      |>.put (F.CXL_PORT_STATUS_SVC_STATE p) 2
    let s2 := (s1.setPort p { s1.port p with cfgLoaded := true }).endCond (Ev.CXL_LINK_DOWN l.val)
    let s3 := if width < k.lanes ∨ rate < 3 then s2.raise (Ev.CXL_LINK_DEGRADED l.val) []
      else s2.endCond (Ev.CXL_LINK_DEGRADED l.val)
    let s4 := if wanted ∧ !mld then s3.raise Ev.MLD_NOT_NEGOTIATED [] else s3
    finish (s4.forEach (s4.linkLds l.val) fun n a => a.setActive n)

/-- CXL_LINK_DOWN (R125, R126): a port reset, and out of service past 16 downs in 60 s. DEDUCED (log entry 141): R104 names a link down
among what resets a link individually, and R125 has it act on every link of the port; the model follows R125. -/
def execCxlLinkDown (l : Fin 16) (s : State) : Host.Outcome State Fault Refusal :=
  let p := l.val / 4
  if !s.linkUp l.val then finish s
  else
    let downs := ((s.port p).downs.filter fun t => decide (s.now < t + secFc 60)) ++ [s.now]
    let s1 := s.resetPort p (decide (s.mode = .save))
    let s2 := s1.setPort p { s1.port p with downs := downs }
    if 16 < downs.length then finish (s2.portLeaves p 3) else finish s2

/-- CXL_HOT_RESET (R125): the link's own reset. -/
def execCxlHotReset (l : Fin 16) (s : State) : Host.Outcome State Fault Refusal :=
  if !s.linkUp l.val ∨ s.mode = .save then finish s
  else finish (s.resetLink l.val false)

/-- FUNCTION_LEVEL_RESET (R125, last column of Table 3.7). -/
def execFunctionLevelReset (ld : Fin 64) (s : State) : Host.Outcome State Fault Refusal :=
  if s.mode = .save then finish s else finish (s.resetFunction ld.val)

/-- A write of a port's SERVICE (R126): a lost rail lets no port return (R541). -/
def State.portService (p : Nat) (service : Bool) (s : State) : State :=
  let s1 := s.put (F.CXL_PORT_CTRL_SERVICE p) (flag service)
  if !s.mode.mainRails then s1
  else if service then (if s.get (F.CXL_PORT_STATUS_SVC_STATE p) = 0 ∧ !s.serdesDown 8 then s1.portReturns p else s1)
  else s1.portLeaves p 2

/-- CXL_PORT_SERVICE_WRITE (R126). -/
def execCxlPortServiceWrite (p : Fin 4) (service : Bool) (s : State) : Host.Outcome State Fault Refusal :=
  finish (s.portService p.val service)

/-- A write of BIND_RESTORE (R126): ends the binding hold of an up link; ignored while the link is down. -/
def State.bindRestore (l : Nat) (s : State) : State :=
  if s.linkUp l then
    let s1 := s.put (F.CXL_LINK_STATUS_BIND_HOLD l) 0
    s1.forEach (s1.linkLds l) fun n a => a.setActive n
  else s

/-- CXL_BIND_RESTORE (R126). -/
def execCxlBindRestore (l : Fin 16) (s : State) : Host.Outcome State Fault Refusal := finish (s.bindRestore l.val)

/-- The SPDM session is open and secured, on the DOE mailbox of a link's LD_BASE (R116). -/
def State.ideSession (l id : Nat) (s : State) : Bool :=
  s.rv.sessions.any fun e => decide (e.id = id) && e.secured && (match e.transport with
    | .doe ld => decide (ld.val = (s.link l).ldBase)
    | .bmc => false)

/-- IDE_KM_EXCHANGE (R116 to R118): within an SPDM session, a key set brings the stream to secure or refreshes it; ending it
turns IDE off, which lets a link without IDE_REQUIRED resume. -/
def execIdeKmExchange (l : Fin 16) (session : Nat) (act : IdeAct) (s : State) : Host.Outcome State Fault Refusal :=
  if !s.linkUp l.val ∨ s.frozenMode then finish s
  else
    let k := s.link l.val
    let inSession := s.ideSession l.val session
    match act with
    | .program =>
      if inSession then
        finish ((s.setLink l.val { k with ideKeys := k.ideKeys + 1, epoch := [], epochNo := k.epochNo + 1 }).put (F.CXL_LINK_STATUS_IDE_STATE l.val) 1)
      else finish s
    | .refresh =>
      if inSession ∧ s.get (F.CXL_LINK_STATUS_IDE_STATE l.val) = 1
      then finish (s.setLink l.val { k with ideKeys := k.ideKeys + 1 }) else finish s
    | .disable => finish ((s.setLink l.val { k with epoch := [] }).put (F.CXL_LINK_STATUS_IDE_STATE l.val) 0)

/-- A request of a link's unverified MAC epoch that no home agent has accepted. -/
def Request.ofEpoch (l no : Nat) (r : Request) : Bool :=
  match r with
  | .write w => (match w.src with
    | .cxl k _ _ => decide (k = l) && decide (w.epoch = no)
    | _ => false)
  | .read _ => false

/-- IDE_MAC_FAILURE (R118): the link insecure, every line accepted in the failed epoch poisoned with its record to the logical
device that wrote it, the epoch's writes not yet accepted discarded (log entry 142), and IDE_FAILURE raised. -/
def execIdeMacFailure (l : Fin 16) (s : State) : Host.Outcome State Fault Refusal :=
  if s.get (F.CXL_LINK_STATUS_IDE_STATE l.val) ≠ 1 ∨ s.mode = .save then finish s
  else
    let k := s.link l.val
    let s0 := { s with ingress := s.ingress.filter fun r => !r.ofEpoch l.val k.epochNo }
    let s1 := (s0.setLink l.val { k with epoch := [], held := [], epochNo := k.epochNo + 1 }).put (F.CXL_LINK_STATUS_IDE_STATE l.val) 2
      |>.bump (F.CXL_LINK_IDE_FAILS_COUNT l.val) 1
    let s2 := s1.forEach k.epoch fun e a =>
      (a.poisonLine e.1 2).recordTo e.2 9 (Ev.IDE_FAILURE l.val) e.1 l.val true
    finish (s2.raise (Ev.IDE_FAILURE l.val) [])

/-- IDE_EPOCH_VERIFIED (R118): the tracked lines released, and the writes held for room presented, as writes of the epoch that follows. -/
def execIdeEpochVerified (l : Fin 16) (s : State) : Host.Outcome State Fault Refusal :=
  let k := s.link l.val
  if s.get (F.CXL_LINK_STATUS_IDE_STATE l.val) ≠ 1 then finish s
  else
    let s1 := s.setLink l.val { k with epoch := [], epochNo := k.epochNo + 1, held := if s.frozenMode then k.held else [] }
    finish (s1.forEach (if s.frozenMode then [] else k.held) fun w a => a.presentWrite { w with epoch := k.epochNo + 1 })

/-- Where a decoder's device-physical range begins: after the ranges and skips of the committed decoders below it (R110). -/
def hdmBase (idx : Nat) (hdm : Sparse Hdm) : Nat :=
  hdm.foldl (fun n e => if e.1 < idx ∧ e.2.committed then n + e.2.skip + e.2.size / max 1 e.2.ways else n) 0

/-- HDM_DECODER_COMMIT (R110): error-not-committed for a device-physical range that extends past the span, or for ways or granularity the
decoders do not support; a locked decoder does not change. -/
def execHdmDecoderCommit (ld : Fin 64) (idx : Fin 4) (base size skip ways gran : Nat) (lockOnCommit : Bool) (s : State) :
    Host.Outcome State Fault Refusal :=
  let n := ld.val
  let d := s.ld n
  match s.linkOfLd n with
  | none => finish s
  | some l =>
    if !s.linkUp l ∨ s.mode = .save then finish s
    else if (Sparse.get {} idx.val d.hdm).locked then finish s
    else
      let ok := decide (hdmBase idx.val d.hdm + skip + size / max 1 ways ≤ s.winBytes n) && [1, 2, 4, 8, 16].contains ways &&
        [256, 512, 1024, 2048, 4096, 8192, 16384].contains gran && decide (size ≠ 0)
      let h : Hdm := { base := base, size := size, skip := skip, ways := ways, gran := gran, committed := ok,
                       locked := ok && lockOnCommit, notCommitted := !ok }
      let hdm := Sparse.set {} idx.val h d.hdm
      finish ((s.setLd n { d with hdm := hdm }).put (F.CXL_LD_STATUS_HDM_COMMITTED n)
        (flag (hdm.any fun e => e.2.committed)))

/-- FLIT_REPLAY (R134): a replay sequence counted; more than 1,000 in 1 s raise LINK_REPLAY. -/
def execFlitReplay (l : Fin 16) (s : State) : Host.Outcome State Fault Refusal :=
  if !s.linkUp l.val then finish s
  else
    let k := s.link l.val
    let ts := (k.replays.filter fun t => decide (s.now < t + secFc 1)) ++ [s.now]
    let s1 := (s.setLink l.val { k with replays := ts }).bump (F.CXL_LINK_REPLAYS_COUNT l.val) 1
    if ts.length = 1001 then finish (s1.raise (Ev.LINK_REPLAY l.val) []) else finish s1

end Sys2Proof.Machine
end

