-- ==== Sys2Proof/Machine/CxlMem.lean ====
section
/-! DEFINITION. The CXL.mem messages of Table 3.4 (R112 to R115). -/

namespace Sys2Proof.Machine

open Sys2Proof

/-- The logical device a CXL.mem message of a link reaches: the link up, its port in service and its IDE stream not insecure
(R105, R106, R118, R126). -/
def State.cxlTarget (l ldid : Nat) (s : State) : Option Nat :=
  if s.linkUp l ∧ s.portInService (l / 4) ∧ s.get (F.CXL_LINK_STATUS_IDE_STATE l) ≠ 2 then (s.linkLds l)[ldid]? else none

/-- The pair address of a device physical address, and the check of a CXL.mem request: a device physical address at or above
the span fails at ADDRESS (R108). -/
def State.cxlCheck (n dpa : Nat) (write : Bool) (s : State) : Nat × Nat :=
  let a := s.winBase n + dpa / 64 * 64
  let b := s.cxlBinding n
  let c := s.check b a 64 write none
  (a, if decide (s.winBytes n ≤ dpa) && decide (4 ≤ c ∨ c = 0) then 4 else c)

/-- CXL_MEMRD (R112): a granule read, refused, served, or left waiting for its line. -/
def execCxlMemrd (l : Fin 16) (ldid tag dpa : Nat) (sramBad : Bool) (s : State) : Host.Outcome State Fault Refusal :=
  match s.cxlTarget l.val ldid with
  | none => finish s
  | some n =>
    if s.ldWithheld n then finish s
    else
      let c := s.cxlCheck n dpa false
      if c.2 = 0 then
        finish (s.presentRead { src := .cxl l.val n tag, tenant := s.get (F.LD_MAP_TENANT n), addr := c.1, len := 64, entered := s.now,
                                sram := sramBad })
      else finish (s.refuseCxlRead l.val n tag c.1 c.2)

/-- A CXL.mem write taken by its port: held while 128 lines of the link's unverified MAC epoch are tracked (R118), or presented to its home
agent as a write of that epoch. -/
def State.takeCxlWrite (l : Nat) (w : WriteReq) (s : State) : State :=
  let k := s.link l
  if s.get (F.CXL_LINK_STATUS_IDE_STATE l) ≠ 1 then s.presentWrite w
  else if 128 ≤ k.epoch.length then s.setLink l { k with held := k.held ++ [w] }
  else s.presentWrite { w with epoch := k.epochNo }

/-- A CXL.mem write as its port takes it, or as the withheld credits keep it in the host (R52, R112, R115). -/
def State.cxlWrite (l ldid tag dpa : Nat) (data : Granule) (enables : BitVec 64) (poison sramBad : Bool) (s : State) : State :=
  match s.cxlTarget l ldid with
  | none => s
  | some n =>
    if s.ldWithheld n then s
    else if enables = 0 ∧ !poison then s.emit (.cxlCmp l n tag s.devLoad)
    else
      let c := s.cxlCheck n dpa true
      let g := c.1 / 64 % 4
      if c.2 = 0 then
        s.takeCxlWrite l
          { src := .cxl l n tag, tenant := s.get (F.LD_MAP_TENANT n), line := lineOf c.1,
            mask := (enables.setWidth 256) <<< (64 * g), data := (data.setWidth 2048) <<< (512 * g), poison := poison,
            readOnly := s.isSet (F.LD_MAP_READ_ONLY n), entered := s.now, sram := sramBad }
      else s.refuseCxlWrite l n tag c.1 c.2

/-- CXL_MEMWR (R112). -/
def execCxlMemwr (l : Fin 16) (ldid tag dpa : Nat) (data : Granule) (poison sramBad : Bool) (s : State) :
    Host.Outcome State Fault Refusal :=
  finish (s.cxlWrite l.val ldid tag dpa data (BitVec.allOnes 64) poison sramBad)

/-- CXL_MEMWRPTL (R112): no enable set completes with no effect. -/
def execCxlMemwrptl (l : Fin 16) (ldid tag dpa : Nat) (data : Granule) (enables : BitVec 64) (poison sramBad : Bool) (s : State) :
    Host.Outcome State Fault Refusal :=
  finish (s.cxlWrite l.val ldid tag dpa data enables poison sramBad)

/-- CXL_MEMSPECRD (R112): the slice and pipeline woken and a front-cache fill started, with no response and no check failure
reported. -/
def execCxlMemspecrd (l : Fin 16) (ldid dpa : Nat) (s : State) : Host.Outcome State Fault Refusal :=
  match s.cxlTarget l.val ldid with
  | none => finish s
  | some n =>
    let c := s.cxlCheck n dpa false
    if c.2 ≠ 0 ∨ s.ldWithheld n then finish s
    else finish (s.specRead (l.val / 4) (lineOf c.1))

/-- CXL_MEMINV (R112): answered, with no effect on data. -/
def execCxlMeminv (l : Fin 16) (ldid tag : Nat) (s : State) : Host.Outcome State Fault Refusal :=
  match s.cxlTarget l.val ldid with
  | none => finish s
  | some n => if s.ldWithheld n then finish s else finish (s.emit (.cxlCmp l.val n tag s.devLoad))

/-- CXL_UNSUPPORTED_M2S (R112): poison for a read-class request, a counted discard for a write-class one, and
PROTOCOL_UNSUPPORTED at most once per 10 s per link. DEDUCED (log entry 143): the discarded one is answered with Cmp. -/
def execCxlUnsupportedM2s (l : Fin 16) (ldid tag : Nat) (read : Bool) (s : State) : Host.Outcome State Fault Refusal :=
  match s.cxlTarget l.val ldid with
  | none => finish s
  | some n =>
    if s.ldWithheld n then finish s
    else
      let s1 := if read
        then (s.emit (.cxlData l.val n tag true 0 s.devLoad)).bump (F.CXL_LINK_POISON_READS_COUNT l.val) 1
        else (s.bump (F.CXL_LINK_DISCARDS_COUNT l.val) 1).emit (.cxlCmp l.val n tag s.devLoad)
      finish (s1.raiseLimited Ev.CXL_PROTOCOL_UNSUPPORTED l.val [])

end Sys2Proof.Machine
end

