-- ==== Sys2Proof/Machine/Dram.lean ====
section
/-! DEFINITION. The commands of the DRAM channels (R346 to R371), and the arrival of a line from DRAM (R313, R322, R365). -/

namespace Sys2Proof.Machine

open Sys2Proof

/-! The commands. -/

/-- DIMM_TEMP_READ (R350): `reading` in 0.25 °C steps, none when the read fails. -/
def execDimmTempRead (c : Fin 16) (d : Fin 2) (reading : Option (BitVec 16)) (s : State) : Host.Outcome State Fault Refusal :=
  let k := 2 * c.val + d.val
  if !s.mode.mainRails ∨ s.mode = .save then finish s
  else
    let fails := match reading with
      | some _ => 0
      | none => min 3 (Sparse.get 0 k s.dram.tempFails + 1)
    let s0 := { s with dram := { s.dram with tempFails := Sparse.set 0 k fails s.dram.tempFails } }
    let f := if d.val = 0 then F.CH_TEMP_DIMM0 c.val else F.CH_TEMP_DIMM1 c.val
    let s1 := match reading with
      | some v => s0.put f v.toNat
      | none => s0
    let hot := 4 * (s1.dimmHotC : Int)
    let temp (i : Nat) : Int :=
      if Sparse.get 0 (2 * c.val + i) s1.dram.tempFails = 3 then hot
      else quarterC (s1.get (if i = 0 then F.CH_TEMP_DIMM0 c.val else F.CH_TEMP_DIMM1 c.val))
    let t := if s1.get (F.CH_STATUS_DIMMS c.val) = 2 then max (temp 0) (temp 1) else temp d.val
    let others := s1.dram.doubled.filter fun x => decide (x ≠ c.val)
    let s2 := { s1 with dram := { s1.dram with doubled := if 340 ≤ t then others ++ [c.val] else others } }
    let limited := s2.dram.limited.contains c.val
    if hot ≤ t ∧ !limited then
      finish (({ s2 with dram := { s2.dram with limited := s2.dram.limited ++ [c.val] } }).raise (Ev.DIMM_HOT c.val) [])
    else if decide (t ≤ hot - 12) && limited then
      finish (({ s2 with dram := { s2.dram with limited := s2.dram.limited.filter fun x => decide (x ≠ c.val) } }).endCond (Ev.DIMM_HOT c.val))
    else finish s2

/-- CHANNEL_TRAINING_DONE (R342, R354, R355, R366): the trained delays and eyes, as (lane, read centre, read width, write centre, write width),
the pending remap entries that a repair replaced, and whether the decoder passed its self-test. -/
def execChannelTrainingDone (c : Fin 16) (lanes : List (Nat × Nat × Nat × Nat × Nat)) (ppr : List Nat) (decoderOk : Bool) (s : State) :
    Host.Outcome State Fault Refusal :=
  if s.get (F.CH_STATUS_STATE c.val) ≠ 1 ∨ !s.mode.mainRails then finish s
  else
    let s0 := if s.mode = .bringup then s.applyPpr c.val ppr else s
    let mine := lanes.filter fun l => decide (l.1 < 20) && (decide (s0.get (F.CH_STATUS_WIDTH c.val) = 0) || decide (l.1 % 10 < 5))
    let s1 := s0.forEach mine fun l a =>
      a.put (F.CH_TRAIN_RD_CENTRE c.val l.1) l.2.1 |>.put (F.CH_TRAIN_RD_WIDTH c.val l.1) l.2.2.1
        |>.put (F.CH_TRAIN_WR_CENTRE c.val l.1) l.2.2.2.1 |>.put (F.CH_TRAIN_WR_WIDTH c.val l.1) l.2.2.2.2
    let j := s1.judgeLanes c.val mine
    if j.2 ≠ 0 then finish (j.1.trainingFails c.val j.2)
    else if !decoderOk then finish ((j.1.decoderFails c.val).trainingFails c.val 7)
    else
      let s2 := j.1.put (F.CH_STATUS_STATE c.val) 2 |>.put (F.CH_STATUS_OOS_CAUSE c.val) 0
      if s.mode = .bringup then finish s2.placeFrames
      else
        let s3 := ({ s2 with dram := { s2.dram with base := Sparse.set 0 c.val 0 s2.dram.base } }).put (F.CH_FRAMES_COUNT c.val)
          (s2.get (F.CH_CAPACITY_GIB c.val) * 512)
        finish s3.dramStatus.giveFrames

/-- CHANNEL_TRAINING_TIMEOUT (R354). -/
def execChannelTrainingTimeout (c : Fin 16) (step : Fin 8) (s : State) : Host.Outcome State Fault Refusal :=
  if s.get (F.CH_STATUS_STATE c.val) ≠ 1 ∨ !s.mode.mainRails then finish s else finish (s.trainingFails c.val (step.val + 1))

/-- ZQ_CALIBRATION (R356): in a refresh window, with no effect on any register or request. -/
def execZqCalibration (_ : Fin 16) (_ : Fin 8) (s : State) : Host.Outcome State Fault Refusal := finish s

/-- DQS_DRIFT_TRACK (R356): each lane's delays moved by the measured drift, as (lane, steps). -/
def execDqsDriftTrack (c : Fin 16) (drift : List (Fin 20 × Int)) (s : State) : Host.Outcome State Fault Refusal :=
  if !s.rankRuns c.val 0 then finish s
  else
    let move (f : Fld) (d : Int) (a : State) : State := a.put f (min 255 ((a.get f : Int) + d).toNat)
    finish (s.forEach drift fun e a => (move (F.CH_TRAIN_RD_CENTRE c.val e.1.val) e.2 a) |> move (F.CH_TRAIN_WR_CENTRE c.val e.1.val) e.2)

/-- REFRESH_DUE (R357, R359): an all-bank refresh, which closes the rank's rows; a rank in power-down returns to it afterwards. -/
def execRefreshDue (c : Fin 16) (r : Fin 8) (s : State) : Host.Outcome State Fault Refusal := finish (s.closeRows c.val r.val)

/-- RANK_POWER_DOWN_ENTRY (R360). -/
def execRankPowerDownEntry (c : Fin 16) (r : Fin 8) (s : State) : Host.Outcome State Fault Refusal :=
  if s.rankRuns c.val r.val ∧ s.get F.DRC_CFG_PD_IDLE_US ≠ 0 ∧ Sparse.get 0 (c.val * 8 + r.val) s.dram.ranks = 0 then
    finish ((s.setRank c.val r.val 1).closeRows c.val r.val)
  else finish s

/-- RANK_SELF_REFRESH_ENTRY (R360). -/
def execRankSelfRefreshEntry (c : Fin 16) (r : Fin 8) (s : State) : Host.Outcome State Fault Refusal :=
  if s.rankRuns c.val r.val ∧ s.get F.DRC_CFG_SR_IDLE_MS ≠ 0 then finish ((s.setRank c.val r.val 2).closeRows c.val r.val) else finish s

/-- DRAM_ALERT (R361): `replays` were made, `ok` whether the last succeeded; the lines whose reads and writes the replay covers. -/
def execDramAlert (c : Fin 16) (replays : Fin 4) (ok : Bool) (reads writes : List Nat) (s : State) : Host.Outcome State Fault Refusal :=
  if !s.rankRuns c.val 0 then finish s
  else
    let s1 := (s.bump (F.CH_REPLAY_COUNT_COUNT c.val) replays.val).when (decide (replays.val ≠ 0)) (State.raiseLimited (Ev.CA_REPLAY c.val) c.val [])
    if ok then finish s1
    else
      let mine (l : Nat) : Bool := decide (s1.channelOf l = c.val) && (s1.frameOf l).isSome
      let s2 := s1.forEach (reads.filter mine) fun l a => (a.refuseMerges l 1 St.POISONED).answerReads l true 0 0
      let s3 := s2.forEach (writes.filter mine) fun l a => a.spoilLine l false
      finish (s3.failChannel c.val 5)

/-- DRAM_PATROL_READ (R357, R363, R364), at the lowest priority, when the channel has selected all else: the codewords of a line, or of a reserved page at `loc` (rank, bank group, bank, row); what the
decoder gave; the progress of the pass, and whether this read ends the channel's pass. -/
def execDramPatrolRead (c : Fin 16) (line : Option Nat) (loc : List Nat) (bad : Bool) (es : List EccNote) (copyBad : List Nat) (pct : Fin 101) (done : Bool) (s : State) :
    Host.Outcome State Fault Refusal :=
  if s.get (F.CH_STATUS_STATE c.val) ≠ 2 ∨ !s.mode.mainRails ∨ s.frozenMode then finish s
  else
    let s0 := (s.selectAll c.val 128).put (F.CH_PATROL_PCT c.val) pct.val
    let s1 := match line with
      | some l =>
        if s0.channelOf l ≠ c.val ∨ (s0.frameOf l).isNone ∨ (s0.page (pageOfLine l)).st < 2 then s0
        else
          let fixed := !(es.all fun e => decide (e = .clean))
          let a := if bad then s0.scrubBad c.val l
            else ((s0.countCorrected es).noteEcc c.val ((s0.lineLocation l).drop 1) es).when fixed (State.enqueue true l)
          a.copyRow c.val (s0.remaps c.val).length l copyBad
      | none =>
        if bad then ((s0.bump (F.CH_UCE_COUNT_COUNT c.val) 1).raise (Ev.DRAM_UNCORRECTABLE c.val) loc).failChannel c.val 7
        else s0.noteEcc c.val loc es
    if !done then finish s1
    else
      let s2 := (s1.bump (F.CH_PATROL_PASSES c.val) 1).put (F.CH_PATROL_PCT c.val) 0
      let ds := if s2.dram.patrolDone.contains c.val then s2.dram.patrolDone else s2.dram.patrolDone ++ [c.val]
      if s2.channelsIn.all fun x => ds.contains x then
        finish (({ s2 with dram := { s2.dram with patrolDone := [] } }).raise Ev.PATROL_PASS_DONE [])
      else finish { s2 with dram := { s2.dram with patrolDone := ds } }

/-- CHANNEL_SERVICE_WRITE (R367). -/
def execChannelServiceWrite (c : Fin 16) (service : Bool) (s : State) : Host.Outcome State Fault Refusal :=
  finish (s.channelService c.val service)

/-- CHANNEL_DRAIN_PAGE_COPY (R368): a page of a pinned or window extent, or a reserved page. -/
def execChannelDrainPageCopy (c : Fin 16) (page : Option Nat) (s : State) : Host.Outcome State Fault Refusal :=
  if s.get (F.CH_STATUS_STATE c.val) ≠ 3 ∨ s.frozenMode ∨ !s.mode.mainRails then finish s
  else if s.noRoom c.val then finish ((s.stopDrain c.val).raise Ev.DRAIN_NO_ROOM [])
  else match page with
    | some p => finish (s.moveDrainPage c.val p).checkDrains
    | none => finish (s.moveReserved c.val).checkDrains

/-- CHANNEL_FAULT (R370): its RCD or PHY reports a fault that a retrain cannot clear. -/
def execChannelFault (c : Fin 16) (s : State) : Host.Outcome State Fault Refusal :=
  if s.mode.mainRails then finish (s.failChannel c.val 6) else finish s

/-- LINE_DATA_ARRIVAL (R313, R315, R322, R365): a line that reads or partial writes wait for comes from DRAM. `lanes`: 0 when the lanes of
its pipeline agree, 1 when they disagree once, 2 when they disagree again; `ecc` what the decoder reports; `memory` and `crypto` the
cycles of a sampled read; `copyBad` the lines of the row that the copy of a row remap cannot correct. -/
def execLineDataArrival (line : Nat) (v : LineVerdict) (lanes : Fin 3) (ecc : List EccNote) (copyBad : List Nat) (memory crypto : Nat) (s : State) :
    Host.Outcome State Fault Refusal :=
  let waiting := (s.reads.any fun r => r.missed && decide (lineOf r.addr = line)) || (s.merges.any fun m => decide (m.line = line))
  if !waiting ∨ !s.present (pageOfLine line) ∨ !s.mode.mainRails ∨ s.mode = .quarantine then finish s
  else
    let c := s.channelOf line
    let loc := (s.lineLocation line).drop 1
    let p := s.get (F.CP_MAP_PHYS (homeOf line))
    let s := s.served false line
    if v = .uncorrectable then finish (((s.noteUncorrectable c loc).copyRow c (s.remaps c).length line copyBad).arriveLine line v memory crypto)
    else
      let s1 := ((s.countCorrected ecc).noteEcc c loc ecc).copyRow c (s.remaps c).length line copyBad
      let decrypts := s1.live line && !(s1.lineMeta line).poison
      match decrypts, lanes.val with
      | true, 2 => finish (s1.failPipe p)
      | true, 1 => finish (((s1.bump F.LC_DUP_MISMATCH_COUNT 1).raiseLimited Ev.CP_DUP_MISMATCH p [p]).arriveLine line v memory crypto)
      | _, _ => finish (s1.arriveLine line v memory crypto)

end Sys2Proof.Machine
end

