-- ==== Sys2Proof/Machine/Flash.lean ====
section
/-! DEFINITION. The commands of the flash members (R376 to R405). -/

namespace Sys2Proof.Machine

open Sys2Proof

/-! Slots. -/

/-- SLOT_PRESENCE_FILTERED (R376, R395): the slots' state machine runs while the main rails are up. -/
def execSlotPresenceFiltered (slot : Fin 20) (present : Bool) (record : Nat) (crcOk : Bool) (s : State) :
    Host.Outcome State Fault Refusal :=
  if !s.mode.mainRails ∨ s.isSet (F.SLOT_STATUS_PRESENT slot.val) = present then finish s
  else
    let s1 := s.raise (Ev.MODULE_PRESENCE slot.val) [flag present]
    finish (if present then s1.insertModule slot.val record crcOk else s1.removeModule slot.val)

/-- SLOT_POWER_ATTEMPT (R263, R377): the first attempt of a slot that powers up. -/
def execSlotPowerAttempt (slot : Fin 20) (s : State) : Host.Outcome State Fault Refusal :=
  if s.get (F.SLOT_STATUS_STATE slot.val) = 5 ∧ s.get (F.SLOT_STATUS_ATTEMPTS slot.val) = 0 then finish (s.tryPower slot.val)
  else finish s

/-- SLOT_PG_ASSERT (R377). -/
def execSlotPgAssert (slot : Fin 20) (s : State) : Host.Outcome State Fault Refusal :=
  if s.isSet (F.SLOT_STATUS_POWER_ON slot.val) then finish (s.put (F.SLOT_STATUS_PG slot.val) 1) else finish s

/-- SLOT_PG_TIMEOUT (R377): 20 ms without SLOT_PG. -/
def execSlotPgTimeout (slot : Fin 20) (s : State) : Host.Outcome State Fault Refusal :=
  if s.isSet (F.SLOT_STATUS_POWER_ON slot.val) ∧ !s.isSet (F.SLOT_STATUS_PG slot.val) then finish (s.failAttempt slot.val)
  else finish s

/-- SLOT_FAULT (R377): SLOT_FLT_N asserted while SLOT_EN is. -/
def execSlotFault (slot : Fin 20) (s : State) : Host.Outcome State Fault Refusal :=
  if s.isSet (F.SLOT_STATUS_POWER_ON slot.val) then finish ((s.put (F.SLOT_STATUS_FLT slot.val) 1).failAttempt slot.val) else finish s

/-- SLOT_POWER_RETRY (R377): 500 ms after a failed attempt. -/
def execSlotPowerRetry (slot : Fin 20) (s : State) : Host.Outcome State Fault Refusal :=
  let st := s.get (F.SLOT_STATUS_STATE slot.val)
  if (st = 5 ∨ st = 6 ∨ st = 7) ∧ 1 ≤ s.get (F.SLOT_STATUS_ATTEMPTS slot.val) then finish (s.tryPower slot.val) else finish s

/-- SLOT_SETTLE_DONE (R384, R389): the interface is identified and trained; `geometry`: the parameter pages agree with the record; `factoryBad`:
the blocks with a factory bad-block mark. A taken spare has its image areas erased before it joins. -/
def execSlotSettleDone (slot : Fin 20) (geometry : Bool) (factoryBad : List Nat) (s : State) : Host.Outcome State Fault Refusal :=
  let n := slot.val
  if !s.isSet (F.SLOT_STATUS_PG n) ∨ s.get (F.SLOT_STATUS_STATE n) ≠ 5 then finish s
  else if !geometry then
    let p := s.get (F.SLOT_STATUS_POSITION n)
    let s1 := ((s.slotOff n).put (F.SLOT_STATUS_POSITION n) 31).refuseSlot n 9
    let s2 := { s1 with fl := { s1.fl with taken := s1.fl.taken.filter fun x => decide (x ≠ n)
                                           failedPos := if s1.fl.failedPos.contains p then s1.fl.failedPos else s1.fl.failedPos ++ [p] } }
    finish (((if p = 31 then s2 else s2.put (F.FL_POSITION_STATE p) 2).takeSpares).checkGroup.recomputeFreeboard)
  else if s.fl.taken.contains n then finish ((s.freshMember n).mapFactory n factoryBad)
  else finish ((s.mapFactory n factoryBad).joinMember n)

/-- A write of CLEAR_FAULT (R377): the module is treated as a new one. -/
def State.clearFault (n : Nat) (s : State) : State :=
  if s.get (F.SLOT_STATUS_STATE n) ≠ 9 then s
  else (s.put (F.SLOT_STATUS_STATE n) 1 |>.put (F.SLOT_STATUS_ATTEMPTS n) 0 |>.put (F.SLOT_STATUS_CAUSE n) 0
    |>.put (F.SLOT_STATUS_FLT n) 0).placeModule n

/-- SLOT_CLEAR_FAULT (R377). -/
def execSlotClearFault (slot : Fin 20) (s : State) : Host.Outcome State Fault Refusal := finish (s.clearFault slot.val)

/-- SLOT_FAIL_NOW (R396). -/
def execSlotFailNow (slot : Fin 20) (s : State) : Host.Outcome State Fault Refusal := finish (s.failNow slot.val)

/-- ONFI_READY_TIMEOUT (R383, R396): MISSING_READY fails the member. -/
def execOnfiReadyTimeout (slot : Fin 20) (s : State) : Host.Outcome State Fault Refusal :=
  if s.isMember slot.val then finish (s.failSlot slot.val 8 2) else finish s

/-! Erases. -/

/-- NAND_ERASE_DONE (R389): a relocated stripe block, a spare's image areas, or a released image area (R284, R299). Programs and
erases pause outside the program window (R405). -/
def execNandEraseDone (what : EraseWhat) (failed : List Nat) (s : State) : Host.Outcome State Fault Refusal :=
  if !s.isSet F.FL_STATUS_PROG_ALLOWED then finish s
  else match what with
    | .block sb => if (s.block sb).st = 6 then finish (s.eraseBlock sb failed) else finish s
    | .spareAreas slot => finish (s.joinSpare slot.val)
    | .imageArea a =>
      let held := if a.val = 0 then s.ssb.imageA.isSome else s.ssb.imageB.isSome
      if held ∨ s.ssb.erased.contains a.val then finish s
      else finish { s with ssb := { s.ssb with erased := s.ssb.erased ++ [a.val] } }

/-- NO_GROUP_RETRY (R394): every 60 s without a group. -/
def execNoGroupRetry (s : State) : Host.Outcome State Fault Refusal := finish s.formGroup

/-! Rebuild. -/

/-- REBUILD_STRIPE (R400, R401): `bad` are the positions whose page of the stripe is uncorrectable, `ecc` what the decoding of the others
reports, `progFail` a program of the spare that fails (R399). -/
def execRebuildStripe (bad : List Nat) (ecc : DeepEcc) (progFail : Bool) (s : State) : Host.Outcome State Fault Refusal :=
  let a := s.get F.FL_REBUILD_STATUS_POSITION_A
  if a = 31 ∨ !s.programsAllowed then finish s
  else match s.fl.rbLeft with
    | [] => finish s.endPass
    | sb :: rest =>
      let st := s.fl.rbStripe
      let er := s.erasures sb st bad
      let s1 := (s.forEach (bad.filter fun p => decide (p < s.width + 2)) fun p x => x.noteUce (x.slotOfPos p) sb).noteLdpc sb ecc
      let s2 := if 2 < er.length then s1.loseStripe sb st er
        else if progFail then
          let slot := s1.slotOfPos a
          (({ s1 with fl := { s1.fl with badPages := s1.fl.badPages ++ [a * 2 ^ 30 + sb * 2 ^ 11 + st] } }).bump
            (F.SLOT_OP_FAILS_PROGRAM slot) 1).useSpareBlock slot sb
        else s1
      let last := decide (s2.usedStripes sb ≤ st + 1)
      let s3 := (({ s2 with fl := if last then { s2.fl with rbLeft := rest, rbStripe := 0 } else { s2.fl with rbStripe := st + 1 } }).rebuildStatus).when
        last State.blockRebuilt
      let s4 : State := s3.forEach (bad.filter fun p => decide (p < s.width + 2)) fun p x => x.checkUce (x.slotOfPos p)
      finish (if s4.fl.rbLeft.isEmpty && decide (s4.get F.FL_REBUILD_STATUS_POSITION_A ≠ 31) then s4.endPass else s4)

/-- REPAIR_REPLY_TIMEOUT (R401): 10 s without the twin's reply. -/
def execRepairReplyTimeout (id : Nat) (s : State) : Host.Outcome State Fault Refusal :=
  match s.fl.repairs.find? fun r => decide (r.1 = id) with
  | some r =>
    finish (({ s with fl := { s.fl with repairs := s.fl.repairs.filter fun x => decide (x.1 ≠ id) } }).losePage r.2.1)
  | none => finish s

/-! Patrol. -/

/-- FLASH_PATROL_STRIPE (R403): the first case that applies: positions whose page is uncorrectable; P or Q disagreeing, with the
position the syndromes locate; a marginal codeword, or one that needed retries. `ecc`: what the decoding reports. `engine`: an LDPC engine disagreed with a second one on its tile (R387). -/
def execFlashPatrolStripe (bad : List Nat) (ecc : DeepEcc) (parity : Option (Option Nat)) (marginal : Bool) (engine : Option (Fin 2)) (s : State) :
    Host.Outcome State Fault Refusal :=
  if !s.mode.mainRails ∨ s.mode = .save ∨ !s.fl.formed then finish s
  else
    let s0 := match engine with
      | some t => s.retireEngine t.val
      | none => s
    match s0.fl.patrolLeft with
    | [] => finish s0.patrolNext
    | sb :: _ =>
      let st := s0.fl.patrolStripe
      let ps := bad.filter fun p => decide (p < s0.width + 2)
      let er := s0.erasures sb st ps
      let s1 := if !ps.isEmpty then
          let a := ((s0.forEach ps fun p x => x.noteUce (x.slotOfPos p) sb).queueBlock sb).noteLdpc sb ecc
          let b := if 2 < er.length then a.loseStripe sb st er else a.reconstructed ps.length
          b.forEach ps fun p x => x.checkUce (x.slotOfPos p)
        else match parity with
          | some loc =>
            let at_ := match loc with
              | some p => [p]
              | none => []
            let a := (((s0.bump F.FL_PARITY_MISMATCH_COUNT 1).raise Ev.PARITY_MISMATCH at_).queueBlock sb).noteLdpc sb ecc
            if loc.isSome then a.reconstructed 1 else a
          | none => (s0.when marginal (State.disturbBlock sb)).noteLdpc sb ecc
      finish s1.patrolNext

/-- FLASH_PATROL_RATE_UPDATE (R403): the bytes left in the pass by the time left in it, in MB/s, never below 50. -/
def execFlashPatrolRateUpdate (s : State) : Host.Outcome State Fault Refusal :=
  let days := let d := s.get F.FL_CTRL_PATROL_DAYS; if d = 0 ∨ 14 < d then 14 else d
  let done := s.get F.ID_OPERATING_S_SECONDS - s.fl.patrolAt
  let left := days * 86400 - done
  let stripes := s.fl.patrolLeft.foldl (fun n b => n + s.usedStripes b) 0 - s.fl.patrolStripe
  let bytes := stripes * (s.width + 2) * 16384
  finish (s.put F.FL_PATROL_MBPS_MBPS (min (2 ^ 20 - 1) (max 50 (if left = 0 then bytes / 1000000 else ceilDiv bytes (left * 1000000)))))

/-! The program temperature window (R404, R405). -/

/-- MODULE_TEMP_READ (R404, R405): `reading` is none when the read fails. -/
def execModuleTempRead (slot : Fin 20) (reading : Option (BitVec 16)) (s : State) : Host.Outcome State Fault Refusal :=
  let n := slot.val
  if !s.isSet (F.SLOT_STATUS_POWER_ON n) then finish s
  else
    let s1 := match reading with
      | some v =>
        let a := s.put (F.SLOT_TEMP_CASE n) v.toNat |>.put (F.SLOT_STATUS_SENSOR_FAIL n) 0
        { a with fl := { a.fl with tempFails := Sparse.set 0 n 0 a.fl.tempFails } }
      | none =>
        let k := Sparse.get 0 n s.fl.tempFails + 1
        let a := { s with fl := { s.fl with tempFails := Sparse.set 0 n k s.fl.tempFails } }
        if 3 ≤ k then a.put (F.SLOT_STATUS_SENSOR_FAIL n) 1 else a
    let ok := s1.inWindow n 0
    let s2 := if ok ∧ !s1.isSet (F.SLOT_STATUS_TEMP_OK n) then (s1.put (F.SLOT_STATUS_TEMP_OK n) 1).endCond (Ev.PROG_WINDOW n)
      else if !ok ∧ s1.isSet (F.SLOT_STATUS_TEMP_OK n) then
        (s1.put (F.SLOT_STATUS_TEMP_OK n) 0).raise (Ev.PROG_WINDOW n) []
      else s1
    let members := s2.slotsIn 6 ++ s2.slotsIn 7
    if members.any fun i => !s2.inWindow i 0 then finish (s2.setPause true)
    else if members.all fun i => s2.inWindow i 3 then finish (s2.setPause false) else finish s2

end Sys2Proof.Machine
end

