-- ==== Sys2Proof/Machine/FrontPath.lean ====
section
/-! DEFINITION. The commands of the front path (R206, R212 to R219). -/

namespace Sys2Proof.Machine

open Sys2Proof

/-- HA_SLICE_SLEEP (R212): an idle slice with empty queue and victim buffer, and with no request presented, is clock-gated; an idle setting of 15 disables
sleep. -/
def execHaSliceSleep (home : Fin 64) (s : State) : Host.Outcome State Fault Refusal :=
  let p := s.get (F.HA_MAP_PHYS home.val)
  if s.get (F.HA_SLICE_STATE p) = 2 ∧ s.get F.FP_CTRL_HA_IDLE_LOG2 ≠ 15 ∧ s.queueUsed home.val = 0 ∧ s.mode.mainRails ∧
      !(s.ingress.any fun r => decide (homeOf r.line = home.val)) then
    finish (s.put (F.HA_SLICE_STATE p) 3)
  else finish s

/-- VICTIM_WRITE_ACK (R206): the line leaves the victim buffer; a line that a FLUSHING slice cleans is then no longer FRONT_DIRTY
(Table 6.8). -/
def execVictimWriteAck (line : Nat) (s : State) : Host.Outcome State Fault Refusal :=
  let s1 := s.served true line
  if s1.victims.contains line then finish { s1 with victims := s1.victims.filter fun l => decide (l ≠ line) }
  else finish (s1.when (s1.flushing line) (State.cleanLine line))

/-- HA_REMAP_REQUEST (R215, R216): ignored while a remap is in progress. -/
def execHaRemapRequest (home : Fin 64) (phys : Fin 128) (s : State) : Host.Outcome State Fault Refusal :=
  if s.mode.mainRails ∧ !s.frozenMode then finish (s.startSliceRemap home.val phys.val) else finish s

/-- HA_SLICE_BIST_DONE (R215). -/
def execHaSliceBistDone (slice : Fin 66) (pass : Bool) (s : State) : Host.Outcome State Fault Refusal :=
  finish (s.sliceBist slice.val pass)

/-- HA_SLICE_BIST_TIMEOUT (R215): 5 ms without a pass. -/
def execHaSliceBistTimeout (slice : Fin 66) (s : State) : Host.Outcome State Fault Refusal :=
  finish (s.sliceBist slice.val false)

/-- EPOCH_BOUNDARY (R214, R216, R324). -/
def execEpochBoundary (s : State) : Host.Outcome State Fault Refusal :=
  if !s.mode.mainRails then finish s
  else
    let s1 := s.put F.FP_EPOCH_EPOCH (s.get F.FP_EPOCH_EPOCH + 1)
    if s1.mode = .save then finish s1 else finish (s1.sliceSwitch).pipeSwitch

/-- A write of CLEAR of FP_LAT_CTRL (R219). -/
def State.tracerClear (s : State) : State :=
  let s1 := s.put F.FP_LAT_SAMPLES_COUNT 0
  let s2 := s1.forEach (List.range 8) fun k a => (a.put (F.FP_LAT_SUM_FC k) 0).put (F.FP_LAT_MAX_FC k) 0
  s2.forEach (List.range 16) fun b a => a.put (F.FP_LAT_HIST_COUNT b) 0

/-- LATENCY_TRACER_CLEAR (R219). -/
def execLatencyTracerClear (s : State) : Host.Outcome State Fault Refusal := finish s.tracerClear

end Sys2Proof.Machine
end

