-- ==== Sys2Proof/Machine/GuestSite.lean ====
section
/-! DEFINITION. The commands of the guest site and of the Kerup links (R445 to R477). -/

namespace Sys2Proof.Machine

open Sys2Proof

/-! Guest memory requests (R450, R456, R459). -/

/-- Check 2 of Table 13.8: 0, or the CODE of GRANT or HANDLE. -/
def State.grantCheck (handle grant a len : Nat) (write : Bool) (s : State) : Nat :=
  let lo := slotAddr (s.get (F.KG_GRANT_W0_SIDE grant)) (s.get (F.KG_GRANT_W1_BASE_SLOT grant))
  let size := (s.get (F.KG_GRANT_W2_SPAN_M1 grant) + 1) * 2 ^ 30
  if !s.grantValid grant ∨ s.isSet (F.KG_GRANT_W3_REVOKING grant) ∨ a < lo ∨ lo + size < a + len ∨
      (!write ∧ !s.isSet (F.KG_GRANT_W0_READ grant)) ∨ (write ∧ !s.isSet (F.KG_GRANT_W0_WRITE grant)) ∨
      (handle = 0 ∧ !s.isSet (F.KG_GRANT_W0_AUTONOMOUS grant)) then 0x02
  else if handle ≠ 0 ∧ (s.liveHandle handle).isNone then 0x14
  else 0

/-- Checks 3 to 7 of Table 13.8, by the CHECK number of the table. -/
def State.guestRange (handle grant a len : Nat) (write : Bool) (s : State) : Nat :=
  let t := s.get (F.KG_GRANT_W0_TENANT grant)
  let c := s.rangeCheck ⟨t, false, false⟩ a len write none
  let other : Bool := match s.liveHandle handle with
    | some o => decide ((s.queue o.q).tenant ≠ t)
    | none => false
  if (c = 0 ∨ c = 8) ∧ other then 7 else c

/-- A message of the guest taken into the hub's buffers, unless its link is down or the hub answers nothing (R452, R459). -/
def State.guestMsg (p cls n : Nat) (s : State) : State :=
  s.when (decide (s.guestLink p = 2) && !s.frozenMode) (State.hubTakes p cls n)

/-- A request answered with CMP_ERR. -/
def State.guestErr (p tag code : Nat) (s : State) : State := s.kerupSend p (.cmpErr tag code)

/-- A memory request of the guest taken: a protocol error, a refusal at the checks of Table 13.8, or `act`. In SAVE and QUARANTINE the hub
answers nothing, and a fenced controller answers a write with FENCED (R450, R456, R459). -/
def State.guestRequest (p tag handle grant a len : Nat) (write : Bool) (act : State → State) (s0m : State) : State :=
  let s := s0m.guestMsg p (flag write) (if write ∧ len = 256 then 4 else 1)
  if s.guestLink p ≠ 2 ∨ s.frozenMode then s
  else if 1024 ≤ tag ∨ (s.guestReq p tag).isSome then s.guestProtocol
  else if a % len ≠ 0 ∨ 2 ^ 49 ≤ a ∨ 256 ≤ grant then
    ((s.addReq ⟨p, tag, none, 0⟩).guestErr p tag 0x15).guestProtocol
  else
    let s0 := s.addReq ⟨p, tag, none, 0⟩
    let t := s.get (F.KG_GRANT_W0_TENANT grant)
    if !s.mode.serving then (s0.refuse .guest 1 t 0 a).guestErr p tag 0x01
    else
      let g := s.grantCheck handle grant a len write
      if g ≠ 0 then ((s0.refuse .guest 2 t 0 a).bump F.KG_GRANT_REFUSALS_COUNT 1).guestErr p tag g
      else
        let s1 := (s.addReq ⟨p, tag, some grant, handle⟩)
        if write ∧ s.fenced then s1.guestErr p tag 0x13
        else
          let c := s.guestRange handle grant a len write
          if c = 0 then act s1 else (s1.refuse .guest c t 0 a).guestErr p tag c

/-- A read of `len` bytes (R451). -/
def State.guestRead (p tag handle grant a len : Nat) (sramBad : Bool) (s : State) : State :=
  s.guestRequest p tag handle grant a len false fun b =>
    b.presentRead { src := .guest p tag, tenant := b.get (F.KG_GRANT_W0_TENANT grant), addr := a, len := len, entered := b.now, sram := sramBad }

/-- A write of the enabled bytes of a granule, or of a line (R459). -/
def State.guestWrite (p tag handle grant a len : Nat) (mask : BitVec 256) (data : LineData) (sramBad : Bool) (s : State) : State :=
  s.guestRequest p tag handle grant a len true fun b => b.presentWrite
    { src := .guest p tag, tenant := b.get (F.KG_GRANT_W0_TENANT grant), line := lineOf a, mask := mask, data := data, poison := false,
      readOnly := false, entered := b.now, sram := sramBad }

/-- A granule write: its mask moved to the granule's place in the line. -/
def State.guestGranule (p tag handle grant a : Nat) (mask : BitVec 64) (data : Granule) (sramBad : Bool) (s : State) : State :=
  let g := a / 64 % 4
  s.guestWrite p tag handle grant a 64 ((mask.setWidth 256) <<< (64 * g)) ((data.setWidth 2048) <<< (512 * g)) sramBad

/-- GUEST_RD_GRAN (R451). -/
def execGuestRdGran (p : Fin 2) (tag handle grant addr : Nat) (sramBad : Bool) (s : State) : Host.Outcome State Fault Refusal :=
  finish (s.guestRead p.val tag handle grant addr 64 sramBad)

/-- GUEST_RD_LINE (R451). -/
def execGuestRdLine (p : Fin 2) (tag handle grant addr : Nat) (sramBad : Bool) (s : State) : Host.Outcome State Fault Refusal :=
  finish (s.guestRead p.val tag handle grant addr 256 sramBad)

/-- GUEST_RD_HINT (R450): as MemSpecRd under R112, without an answer and with no check failure reported. -/
def execGuestRdHint (p : Fin 2) (tag handle grant addr : Nat) (s0 : State) : Host.Outcome State Fault Refusal :=
  let s := s0.guestMsg p.val 0 1
  if s.guestLink p.val ≠ 2 ∨ s.frozenMode then finish s
  else if addr % 256 ≠ 0 ∨ 2 ^ 49 ≤ addr ∨ 256 ≤ grant ∨ 1024 ≤ tag then finish s.guestProtocol
  else if !s.mode.serving ∨ s.grantCheck handle grant addr 256 false ≠ 0 ∨ s.guestRange handle grant addr 256 false ≠ 0 then finish s
  else finish (s.specRead (4 + p.val) (lineOf addr))

/-- GUEST_WR_PTL (R459). -/
def execGuestWrPtl (p : Fin 2) (tag handle grant addr : Nat) (mask : BitVec 64) (data : Granule) (sramBad : Bool) (s : State) :
    Host.Outcome State Fault Refusal :=
  finish (s.guestGranule p.val tag handle grant addr mask data sramBad)

/-- GUEST_WR_GRAN (R459). -/
def execGuestWrGran (p : Fin 2) (tag handle grant addr : Nat) (data : Granule) (sramBad : Bool) (s : State) : Host.Outcome State Fault Refusal :=
  finish (s.guestGranule p.val tag handle grant addr (BitVec.allOnes 64) data sramBad)

/-- GUEST_WR_LINE (R316, R459). -/
def execGuestWrLine (p : Fin 2) (tag handle grant addr : Nat) (data : LineData) (s : State) : Host.Outcome State Fault Refusal :=
  finish (s.guestWrite p.val tag handle grant addr 256 fullMask data false)

/-! GUEST operations (R462 to R464). -/

/-- The guest kind a taken-over queue's operations need is in service (R4): a queue of the other side wants the kind of guest that side
has. -/
def State.guestServes (q : Nat) (s : State) : Bool :=
  decide (s.guestState = 5) &&
    (decide (s.queueSide q = s.side) || decide (s.guestRecord = s.copiedGuestRecord (s.queueSide q)))

/-- GUEST (R462 step 1): it waits for its dispatch, or completes with NO_TARGET or PARAM. -/
def execGuest (q seq : Nat) (s : State) : Host.Outcome State Fault Refusal :=
  finish (s.startOp q seq 0x30 fun o a =>
    let g := dbits o.desc 12 0 8
    if !a.guestServes q then a.completeOp q o St.NO_TARGET 0 0 0 []
    else if recByte a.guestRecord 54 < g then a.completeOp q o St.PARAM 0 0 0 []
    else
      let b := a.setOp q { o with phase := .running }
      { b with kg := { b.kg with ops := b.kg.ops ++ [{ q := q, seq := seq, queue := g }] } })

/-- GQ_SUBMIT sent for a waiting operation (R462 step 2). -/
def State.submitGuest (o : GuestOp) (s : State) : State :=
  match s.op? o.q o.seq with
  | none => s
  | some p =>
    let h := s.nextHandle
    let mark (x : GuestOp) : GuestOp := if (x.q, x.seq) = (o.q, o.seq) then { x with handle := h, sent := true } else x
    let s1 := ({ s with kg := { s.kg with ops := s.kg.ops.map mark, lastHandle := h } }).countOps.bump F.KG_GQ_SENT_COUNT 1
    s1.kerupSend (o.queue % 2) (.submit h (s1.queue o.q).tenant (s1.queueSide o.q) o.queue p.desc)

/-- GQ_SUBMIT_DISPATCH (R462): fewer than GQ_OPS operations are outstanding. -/
def execGqSubmitDispatch (q : Nat) (s : State) : Host.Outcome State Fault Refusal :=
  match s.kg.ops.find? fun o => decide (o.q = q) && !o.sent with
  | none => finish s
  | some o =>
    if s.guestState = 5 ∧ 2 ≤ s.guestLink (o.queue % 2) ∧ (s.kg.ops.filter fun x => x.sent).length < recHalf s.guestRecord 56 ∧
        !s.frozenMode
    then finish (s.submitGuest o) else finish s

/-- GQ_TAKEN_RX (R462, R463): one that crosses a GQ_ABORT is ignored. -/
def execGqTakenRx (p : Fin 2) (handle : Nat) (s0 : State) : Host.Outcome State Fault Refusal :=
  let s := s0.guestMsg p.val 2 1
  match s.liveHandle handle with
  | none => finish s
  | some o =>
    if s.guestLink p.val ≠ 2 ∨ o.queue % 2 ≠ p.val ∨ s.frozenMode then finish s
    else
      let mark (x : GuestOp) : GuestOp := if x.sent ∧ x.handle = handle then { x with taken := true } else x
      let s1 := { s with kg := { s.kg with ops := s.kg.ops.map mark } }
      match s1.op? o.q o.seq with
      | some r => finish (s1.setOp o.q { r with phase := .relayed })
      | none => finish s1

/-- GQ_DONE_RX (R462 step 5, R463). -/
def execGqDoneRx (p : Fin 2) (handle code ra rb : Nat) (s0 : State) : Host.Outcome State Fault Refusal :=
  let s := s0.guestMsg p.val 2 1
  match s.kg.ops.find? fun o => o.sent && decide (o.handle = handle) with
  | none => finish s
  | some o =>
    if s.guestLink p.val ≠ 2 ∨ o.queue % 2 ≠ p.val ∨ s.frozenMode then finish s
    else if o.aborted then finish (s.endGuestOp o St.ABORTED 0 0 0)
    else if code = 0 then finish (s.endGuestOp o St.SUCCESS 0 (ra % 16) (rb % 256))
    else if code < 0xF0 then finish (s.endGuestOp o St.GUEST_ERROR code (ra % 16) (rb % 256))
    else finish ((s.endGuestOp o St.GUEST_ERROR 0xFD (ra % 16) (rb % 256)).guestProtocol)

/-- GQ_TIMEOUT (R464). -/
def execGqTimeout (handle : Nat) (s : State) : Host.Outcome State Fault Refusal :=
  match s.kg.ops.find? fun o => o.sent && decide (o.handle = handle) with
  | none => finish s
  | some o =>
    if s.frozenMode then finish s
    else finish (((s.endGuestOp o St.GUEST_ERROR 0xFF 0 0).bump F.KG_GQ_TIMEOUTS_COUNT 1).raiseLimited Ev.GUEST_OP_TIMEOUT 0 [])

/-! Grants (R455, R457). -/

/-- KG_GRANT_WRITE (R455). -/
def execKgGrantWrite (grant : Fin 256) (word : Fin 3) (value : BitVec 32) (s : State) : Host.Outcome State Fault Refusal :=
  finish (s.grantWrite grant.val word.val value.toNat)

/-- GRANT_REVOKE (R457 step 1). -/
def execGrantRevoke (grant : Fin 256) (s : State) : Host.Outcome State Fault Refusal :=
  if s.isSet (F.KG_GRANT_W0_VALID grant.val) then finish (s.grantWrite grant.val 0 0) else finish s

/-- The guest module that carries what may go on either: module 0 while its link is up. -/
def State.guestPort (s : State) : Nat := if s.guestLink 0 = 0 ∨ s.guestLink 0 = 1 then 1 else 0

/-- GRANT_REVOKED_SEND (R457 step 3). -/
def execGrantRevokedSend (grant : Fin 256) (s : State) : Host.Outcome State Fault Refusal :=
  let g := grant.val
  if s.isSet (F.KG_GRANT_W3_REVOKING g) ∧ s.get (F.KG_GRANT_W3_OUTSTANDING g) = 0 ∧ !s.kg.revokeSent.contains g ∧ !s.frozenMode ∧
      2 ≤ s.guestLink s.guestPort then
    finish (({ s with kg := { s.kg with revokeSent := s.kg.revokeSent ++ [g] } }).kerupSend s.guestPort (.revoked g))
  else finish s

/-- GRANT_ACK_RX (R457 step 5). -/
def execGrantAckRx (p : Fin 2) (grant : Fin 256) (s0 : State) : Host.Outcome State Fault Refusal :=
  let s := s0.guestMsg p.val 2 1
  if s.guestLink p.val = 2 ∧ s.kg.revokeSent.contains grant.val ∧ !s.frozenMode then finish (s.endRevocation grant.val 0) else finish s

/-- GRANT_ACK_TIMEOUT (R457): the guest is reset. -/
def execGrantAckTimeout (grant : Fin 256) (s : State) : Host.Outcome State Fault Refusal :=
  if s.kg.revokeSent.contains grant.val ∧ !s.frozenMode then finish ((s.raise Ev.GUEST_REVOKE_LATE []).guestRestart 7) else finish s

/-! Links (R445, R452, R454, R468, R471). -/

/-- The full width of a link. -/
def fullWidth (k : Nat) : Nat := if k = 12 then 16 else 64

/-- The mode is one in which link `k` runs; a guest module needs a guest whose G_READY has come. -/
def State.linkRuns (k : Nat) (s : State) : Bool :=
  s.mode.mainRails && (!(k = 10 || k = 11) || (s.guestRuns && decide (s.kg.step = 0 ∨ 3 ≤ s.kg.step)))

/-- Both guest modules are up: the guest check begins (Table 13.11). -/
def State.guestTrained (s : State) : State :=
  if s.kg.step = 3 ∧ s.guestLink 0 = 2 ∧ s.guestLink 1 = 2 then s.guestCheck else s

/-- KERUP_LINK_UP (R452, R454, R471): lanes repaired, those that no training before found recorded, the width, credits and tags afresh. -/
def execKerupLinkUp (k : Fin 13) (width repaired spares : Nat) (s : State) : Host.Outcome State Fault Refusal :=
  let n := k.val
  if !s.linkRuns n then finish s
  else
    let known := Sparse.get 0 n s.rv.units.lanes
    let more := repaired - known
    let s1 := s.put (F.KG_MOD_STATUS_STATE n) 2 |>.put (F.KG_MOD_STATUS_WIDTH n) width |>.put (F.KG_MOD_STATUS_REPAIRED n) repaired
      |>.put (F.KG_MOD_STATUS_SPARES_LEFT n) spares
    let s2 := if s.kg.trained.contains n then s1.bump (F.KG_MOD_RETRAINS_COUNT n) 1
      else { s1 with kg := { s1.kg with trained := s1.kg.trained ++ [n] } }
    let s2l := { s2 with rv := { s2.rv with units := { s2.rv.units with lanes := Sparse.set 0 n (max known repaired) s2.rv.units.lanes } } }
    let s3 := s2l.forEach (List.range more) fun _ a => (a.raise (Ev.KERUP_LANE_REPAIRED n) []).bermDraw 5 n 1
    let s4 := (if width < fullWidth n then s3.raise (Ev.KERUP_WIDTH_DEGRADED n) [] else s3.endCond (Ev.KERUP_WIDTH_DEGRADED n)).endCond
      (Ev.KERUP_LINK_DOWN n) |>.retryLines n
    if n = 10 ∨ n = 11 then
      let p := n - 10
      finish (((({ s4 with kg := { s4.kg with
          credits := s4.kg.credits.filter fun (e : Nat × Nat) => decide (e.1 / 4 ≠ p) } }).dropReqs fun r => decide (r.port = p)).hubGrants
            p).guestTrained)
    else finish s4

/-- KERUP_LINK_DOWN (R454). -/
def execKerupLinkDown (k : Fin 13) (s : State) : Host.Outcome State Fault Refusal :=
  let n := k.val
  if s.get (F.KG_MOD_STATUS_STATE n) < 2 then finish s
  else
    let s1 := (s.put (F.KG_MOD_STATUS_STATE n) 0 |>.put (F.KG_MOD_STATUS_WIDTH n) 0).raise (Ev.KERUP_LINK_DOWN n) []
    if n = 10 ∨ n = 11 then
      let p := n - 10
      finish ((s1.dropGuestRequests fun x => decide (x = p)).endGuestOps (fun o => decide (o.queue % 2 = p)) 0xFE)
    else finish s1

/-- KERUP_L1_ENTRY (R468): never with L1_IDLE_US 0. -/
def execKerupL1Entry (p : Fin 2) (s : State) : Host.Outcome State Fault Refusal :=
  if s.guestLink p.val = 2 ∧ s.get F.KG_CTRL_L1_IDLE_US ≠ 0 ∧ !(s.kg.held.any fun (h : Nat × KMsg) => decide (h.1 = p.val)) then
    finish (s.put (F.KG_MOD_STATUS_STATE (10 + p.val)) 3)
  else finish s

/-- KERUP_L1_EXIT (R468). -/
def execKerupL1Exit (p : Fin 2) (s : State) : Host.Outcome State Fault Refusal :=
  if s.guestLink p.val = 3 then finish ((s.put (F.KG_MOD_STATUS_STATE (10 + p.val)) 2).kerupPump p.val) else finish s

/-- KERUP_FLIT_REPLAY (R477): KERUP_REPLAY at the 1,001st replay within any 1 s. -/
def execKerupFlitReplay (k : Fin 13) (s : State) : Host.Outcome State Fault Refusal :=
  let n := k.val
  if s.get (F.KG_MOD_STATUS_STATE n) < 2 then finish s
  else
    let ts := ((Sparse.get [] n s.kg.replays).filter fun t => decide (s.now < t + secFc 1)) ++ [s.now]
    let s1 := (s.bump (F.KG_MOD_CRC_ERRORS_COUNT n) 1).bump (F.KG_MOD_REPLAYS_COUNT n) 1
    let s2 := { s1 with kg := { s1.kg with replays := Sparse.set [] n ts s1.kg.replays } }
    finish (s2.when (decide (ts.length = 1001)) (State.raise (Ev.KERUP_REPLAY n) []))

/-- Messages of an OPCODE or a length that Table 13.6 does not give the guest: protocol errors, each answered where its tag is free (R450). -/
def State.badMessages (p : Nat) (bad : List Nat) (s : State) : State :=
  s.forEach bad fun tag a =>
    (if 1024 ≤ tag ∨ (a.guestReq p tag).isSome ∨ a.frozenMode then a else (a.addReq ⟨p, tag, none, 0⟩).guestErr p tag 0x15).guestProtocol

/-- KERUP_CREDIT_RETURN (R448, R450, R452): the credits of a flit's header; a flit that is not IDLE counts. -/
def execKerupCreditReturn (p : Fin 2) (idle : Bool) (req wdat cmp rdat : Nat) (bad : List Nat) (s : State) : Host.Outcome State Fault Refusal :=
  if s.guestLink p.val ≠ 2 then finish s
  else
    let s1 := s.when (!idle) (State.bump (F.KG_MOD_FLITS_COUNT (10 + p.val)) 1)
    let s2 := s1.forEach [(0, req), (1, wdat), (2, cmp), (3, rdat)] fun (e : Nat × Nat) a =>
      let k := p.val * 4 + e.1
      { a with kg := { a.kg with credits := Sparse.set 0 k (Sparse.get 0 k a.kg.credits + e.2) a.kg.credits } }
    finish ((s2.kerupPump p.val).badMessages p.val bad)

/-! Bring-up, removal and errors (R465, R467, R470). -/

/-- GUEST_REFCLK_STABLE (Table 13.11): G_RST_N deasserted. -/
def execGuestRefclkStable (s : State) : Host.Outcome State Fault Refusal :=
  if s.kg.step = 1 ∧ s.guestState = 2 ∧ !s.pw.lost.contains 5 ∧ !s.pw.lost.contains 28 then
    finish ((({ s with kg := { s.kg with step := 2 } }).emit (.guestReset false)).put F.KG_GUEST_STATUS_STATE 3)
  else finish s

/-- G_READY_ASSERT (Table 13.11): the guest modules train. -/
def execGReadyAssert (s : State) : Host.Outcome State Fault Refusal :=
  if s.kg.step = 2 ∧ s.guestState = 3 then
    finish (({ s with kg := { s.kg with step := 3 } }).forEach [10, 11] fun k a => a.put (F.KG_MOD_STATUS_STATE k) 1)
  else finish s

/-- The CAUSE of the step under way (Table 13.12): the READY time-out stands for the steps before it. -/
def State.stepCause (s : State) : Nat := if s.kg.step ≤ 2 then 3 else if s.kg.step = 3 then 4 else if s.kg.step = 4 then 5 else 6

/-- GUEST_BRINGUP_TIMEOUT (R467). -/
def execGuestBringupTimeout (s : State) : Host.Outcome State Fault Refusal :=
  if s.kg.step = 0 ∨ s.frozenMode then finish s else finish (s.guestStepFailed s.stepCause)

/-- GUEST_RESET (R470). -/
def execGuestReset (s : State) : Host.Outcome State Fault Refusal := if s.frozenMode then finish s else finish (s.guestRestart 8)

/-- GUEST_SERVICE_WRITE (R470). -/
def execGuestServiceWrite (service : Bool) (s : State) : Host.Outcome State Fault Refusal :=
  if s.frozenMode then finish s else finish (s.guestService service)

/-- G_ERR_NF_ASSERT (R465): ignored while the guest is held in reset or off. -/
def execGErrNfAssert (s : State) : Host.Outcome State Fault Refusal :=
  if s.guestRuns then finish (s.raise Ev.GUEST_NONFATAL []) else finish s

/-- G_ERR_F_ASSERT (R465). -/
def execGErrFAssert (s : State) : Host.Outcome State Fault Refusal :=
  if s.guestRuns then finish (s.raise Ev.GUEST_FATAL []) else finish s

/-- ECHO_RSP_RX (R467): 4,096 ECHO messages per module, each answered unchanged. -/
def execEchoRspRx (p : Fin 2) (pattern : BitVec 64) (s0 : State) : Host.Outcome State Fault Refusal :=
  let s := s0.guestMsg p.val 2 1
  match Sparse.get none p.val s.kg.pattern with
  | none => finish s
  | some v =>
    if s.kg.step ≠ 5 ∨ s.guestLink p.val ≠ 2 then finish s
    else if v ≠ pattern.toNat then finish (s.guestStepFailed 6)
    else
      let n := Sparse.get 0 p.val s.kg.echoes + 1
      let s1 := { s with kg := { s.kg with echoes := Sparse.set 0 p.val n s.kg.echoes, pattern := Sparse.set none p.val none s.kg.pattern } }
      if n < 4096 then finish (s1.sendEcho p.val) else finish s1.guestPassed

/-! The guest's register space (R449, R467, R473, R475). -/

/-- The access of KG_GREG with a tag, on guest module 0. -/
def State.gregAccess (tag : Nat) (s : State) : Option GuestAccess := s.kg.accesses.find? fun a => decide (a.tag = tag)

/-- An access of KG_GREG ended: a read returns its value, to the agent or as the response of a REG_READ message. -/
def State.endAccess (x : GuestAccess) (v : Nat) (s : State) : State :=
  let s1 := { s with kg := { s.kg with accesses := s.kg.accesses.filter fun a => decide (a.tag ≠ x.tag) } }
  if x.write then s1 else if x.mgmt then s1.emit (.mgmt St.SUCCESS (leBytes 4 v)) else s1.emit (.regData x.agent x.off v)

/-- An access of KG_GREG (R475): REG_RD or REG_WR on guest module 0, with the lowest tag that neither the check nor another access uses. -/
def State.gregStart (off : Nat) (write : Bool) (value : Nat) (mgmt : Bool) (s : State) : State :=
  let tag := ((List.range 1024).find? fun t => decide (68 ≤ t) && (s.gregAccess t).isNone).getD 1023
  let o := off % 0x10000 / 4 * 4
  let s1 := { s with kg := { s.kg with accesses := s.kg.accesses ++ [({ agent := .reeve, off := o, write := write, tag := tag, mgmt := mgmt } : GuestAccess)] } }
  s1.kerupSend 0 (if write then .regWr tag o value else .regRd tag o)

/-- KG_GREG_ACCESS (R475). -/
def execKgGregAccess (off : Nat) (write : Bool) (value : BitVec 32) (s : State) : Host.Outcome State Fault Refusal :=
  finish (s.gregStart off write value.toNat false)

/-- KG_GREG_TIMEOUT (R475): a read gives all ones. -/
def execKgGregTimeout (off : Nat) (s : State) : Host.Outcome State Fault Refusal :=
  match s.kg.accesses.find? fun a => decide (a.off = off % 0x10000 / 4 * 4) with
  | none => finish s
  | some x => finish ((s.endAccess x 0xFFFFFFFF).guestProtocol)

/-- GUEST_REG_DATA_RX (R449): a word of the identity record or serial during the guest check, or the answer to an access of KG_GREG. -/
def execGuestRegDataRx (p : Fin 2) (tag : Nat) (value : BitVec 32) (s0 : State) : Host.Outcome State Fault Refusal :=
  let s := s0.guestMsg p.val 2 1
  if s.guestLink p.val ≠ 2 ∨ p.val ≠ 0 then finish s
  else if tag < 68 then
    if s.kg.step ≠ 4 then finish s
    else
      let s1 := { s with kg := { s.kg with words := Sparse.set none tag (some value.toNat) s.kg.words } }
      if s1.kg.words.length = 68 then finish s1.guestIdentity else finish s1
  else match s.gregAccess tag with
    | some x => if x.write then finish s else finish (s.endAccess x value.toNat)
    | none => finish s

/-- GUEST_CMP_OK_RX (R449): the answer to a REG_WR. -/
def execGuestCmpOkRx (p : Fin 2) (tag : Nat) (s0 : State) : Host.Outcome State Fault Refusal :=
  let s := s0.guestMsg p.val 2 1
  match s.gregAccess tag with
  | some x => if s.guestLink p.val = 2 ∧ p.val = 0 ∧ x.write then finish (s.endAccess x 0) else finish s
  | none => finish s

/-- GUEST_CMP_ERR_RX (R449): a word the guest does not give fails the check; a read of KG_GREG answered with an error gives a value the spec
does not name. -/
def execGuestCmpErrRx (p : Fin 2) (tag code : Nat) (s0 : State) : Host.Outcome State Fault Refusal :=
  let s := s0.guestMsg p.val 2 1
  if s.guestLink p.val ≠ 2 ∨ p.val ≠ 0 ∨ code = 0 then finish s
  else if tag < 68 then (if s.kg.step = 4 then finish (s.guestStepFailed 5) else finish s)
  else match s.gregAccess tag with
    | some x => let d := s.draw 32
                finish (d.2.endAccess x d.1)
    | none => finish s

end Sys2Proof.Machine
end

