-- ==== Sys2Proof/Machine/KeyCmds.lean ====
section
/-! DEFINITION. Keys: provisioning (R334 to R336), rotation (R337 to R340), the key-slot commands (R326, R327), the key-store
update (R331, R333), the pipeline commands (R319, R324) and the flip masks (R343). -/

namespace Sys2Proof.Machine

open Sys2Proof

/-! Provisioning. -/

/-- `n` bytes of the blob a KEY_PROVISION carries in its parts, from byte `lo` (Table 9.9). -/
def OpRec.blob (o : OpRec) (lo n : Nat) : Nat :=
  (List.range n).foldl (fun v i => v + bitsOf (o.payload.getD ((lo + i) / 48) 0) (8 * ((lo + i) % 48)) 8 * 2 ^ (8 * i)) 0

/-- The first check of R335 that rejects a blob before it is unwrapped, from 1 in the rule's order (0: none). -/
def State.blobCheck (q : Nat) (o : OpRec) (s : State) : Nat :=
  let t := (s.queue q).tenant
  if o.blob 0 1 ≠ 1 ∨ o.blob 1 1 ≠ 1 ∨ dbits o.desc 16 0 16 ≠ 177 then 1
  else if o.blob 2 2 ≠ t then 2
  else if o.blob 4 8 ≠ s.get F.ID_DEVICE_KEY_ID_ID then 3
  else if o.blob 12 8 ≤ (s.keyBody.tenant t).floor then 4
  else 0

/-- A request outside the limits of Table 9.5 refused before any output (R320). -/
def State.cipherRefused (s : State) : State := (s.bump F.LC_LENGTH_REFUSED_COUNT 1).raise Ev.CRYPTO_LENGTH []

/-- A blob unwrapped by the Reeve's GCM engine: whether it gives plaintext. An IV equal to the last one used with the same wrapping key, which
the ephemeral key determines, is refused (Table 9.5); a tag that fails releases nothing (R321). -/
def State.unwrap (o : OpRec) (tagOk : Bool) (s : State) : Bool × State :=
  let key := o.blob 20 97
  let iv := o.blob 117 12
  if s.ks.lastIvs.contains (key, iv) then (false, s.cipherRefused)
  else (tagOk, { s with ks := { s.ks with lastIvs := (s.ks.lastIvs.filter fun e => decide (e.1 ≠ key)) ++ [(key, iv)] } })

/-- Every wait for a key-store update not in force on both controllers yet. -/
def State.allKeyWaits (s : State) : List KeyWait := (s.ks.pendingWaits ++ s.ks.waits ++ s.ks.twinWaits).map (·.2)

/-- The master of a wrapped key set (R334, Table 9.9). -/
def OpRec.master (o : OpRec) : Nat := unwrapMaster (o.blob 20 97) (o.blob 4 8) (o.blob 2 2) (o.blob 117 12) (o.blob 129 32)

/-- KEY_PROVISION (R335): RESULT_A is KEYS_VALID after the operation. -/
def execKeyProvision (q seq : Nat) (tagOk : Bool) (s : State) : Host.Outcome State Fault Refusal :=
  finish (s.startOp q seq 0x18 fun o a0 =>
    let t := (a0.queue q).tenant
    let k := a0.keyBody.tenant t
    let c0 := a0.blobCheck q o
    let u := if c0 ≠ 0 then (false, a0) else a0.unwrap o tagOk
    let a := u.2
    let c := if c0 ≠ 0 then c0 else if u.1 then 0 else 5
    let valid := a.get (F.TENANT_W0_KEYS_VALID t)
    let busy := decide (k.st = 2) || a.allKeyWaits.any fun w => match w with
      | .provision _ _ x => decide (x = t)
      | _ => false
    if c ≠ 0 then (a.raise Ev.KEY_REJECTED [t, c]).completeOp q o St.KEY_REJECTED 0 valid 0 []
    else if busy then a.completeOp q o St.BUSY 0 valid 0 []
    else
      let midx := if k.st = 0 then 0 else 1 - k.current
      (a.setOp q { o with phase := .running }).postKey [.setMaster t midx (o.blob 12 8) o.master]
        [.provision q seq t])

/-! Rotation. -/

/-- A rotation of a region waits for its generation to be in force, or has been sent (R337). -/
def State.rotationPending (idx : Nat) (s : State) : Bool :=
  s.allKeyWaits.any fun w => match w with
    | .rotate _ _ i _ => decide (i = idx)
    | _ => false

/-- The regions a KEY_ROTATE of every region of a tenant starts (R337). -/
def State.rotatable (t : Nat) (s : State) : List Nat :=
  (s.regionsNext.filter fun e => decide (e.2.state = 1) && decide (e.2.tenant = t) && !e.2.rotating &&
    decide (e.1 % 4096 ≠ 0) && s.serves (e.1 / 4096) && !s.rotationPending e.1).map (·.1)

/-- Steps 1 and 2 of R337 for each region: a generation and a salt drawn, the entries added to the key store. -/
def State.startRotations (q : Nat) (o : OpRec) (rs : List Nat) (s : State) : State :=
  let r := rs.foldl (fun (acc : List (Nat × KeyChange) × State) idx =>
    let g := acc.2.drawGen
    let salt := g.2.drawSalt
    let t := (salt.2.region idx).tenant
    (acc.1 ++ [(idx * 2 ^ 32 + g.1, .addGen ⟨idx / 4096, g.1, t, (salt.2.keyBody.tenant t).current, salt.1⟩)], salt.2)) ([], s)
  (r.2.setOp q { o with phase := .running, payload := r.1.map (·.1) }).postKey (r.1.map (·.2))
    (r.1.map fun e => .rotate q o.seq (e.1 / 2 ^ 32) (e.1 % 2 ^ 32))

/-- KEY_ROTATE (R337). -/
def execKeyRotate (q seq : Nat) (s : State) : Host.Outcome State Fault Refusal :=
  finish (s.startOp q seq 0x19 fun o a =>
    let num := dbits o.desc 12 0 12
    let sd := dbits o.desc 12 12 1
    let idx := recIdx sd num
    let r := Sparse.get {} idx a.regionsNext
    let t := (a.queue q).tenant
    if num = 0xFFF then
      let rs := a.rotatable t
      if rs.isEmpty then a.completeOp q o St.SUCCESS 0 0 0 []
      else if 0xFFFFFFFF - a.get F.ADR_GEN_NEXT_GEN < rs.length then a.completeOp q o St.SPACE 4 0 0 []
      else a.startRotations q o rs
    else if !a.serves sd then a.completeOp q o St.WRONG_OWNER 3 0 0 []
    else if r.state ≠ 1 then a.completeOp q o St.OBJECT_GONE 5 0 0 []
    else if num = 0 ∨ r.tenant ≠ t then a.completeOp q o St.DENIED 7 0 0 []
    else if r.rotating ∨ a.rotationPending idx then a.completeOp q o St.BUSY 0 0 0 []
    else if a.genExhausted then a.completeOp q o St.SPACE 4 0 0 []
    else a.startRotations q o [idx])

/-- A line of the sweep at its acceptance (R338): rewritten under KEY_GEN when it still carries PREV_GEN, poison kept; poisoned
when its tag fails; otherwise left alone. -/
def State.sweepLine (r : Region) (line : Nat) (v : LineVerdict) (s : State) : State :=
  let m := s.lineMeta line
  if m.gen ≠ r.prevGen then s
  else
    let s1 := (s.grant line 7).extentLookup (extentOfPage (pageOfLine line))
    let hit := s1.resident line
    let s2 := s1.bump (if hit then F.FP_FC_HITS_COUNT else F.FP_FC_MISSES_COUNT) 1
    if !hit ∧ v = .uncorrectable then s2.uncorrectable line 0 0
    else if !hit ∧ v = .tagFails ∧ !m.poison then s2.tagFailed line
    else (s2.commitLine line { m with gen := r.keyGen, rotated := true, repaired := false, restored := false }).allocLine
      line (if hit then 0 else 1) true

/-- The lines of an extent swept in ascending order, up to one that must wait: true when none had to. -/
def State.sweepLines (r : Region) (bad : List (Nat × LineVerdict)) : List Nat → State → Bool × State
  | [], s => (true, s)
  | l :: t, s =>
    if (s.lineMeta l).gen = r.prevGen ∧ (s.holds l ∨ !s.present (pageOfLine l)) then (false, s)
    else sweepLines r bad t (s.sweepLine r l (((bad.find? fun e => decide (e.1 = l)).map (·.2)).getD .good))

/-- The pages of an extent the sweep must wait for: MAPPED and not PRESENT. -/
def State.sweepAbsent (x : Nat) (s : State) : List Nat :=
  ((List.range 128).map (x * 128 + ·)).filter fun p => decide ((s.page p).st < 2) && (s.pageMapped p || decide ((s.page p).st = 1))

/-- A rotation whose cursor passed the last extent ends (R339). -/
def State.endRotation (idx : Nat) (s : State) : State :=
  let r := Sparse.get {} idx s.regionsNext
  if r.state = 1 ∧ r.rotating then s.changeRegion idx { r with prevGen := r.keyGen, rotating := false } none else s

/-- ROTATION_SWEEP_EXTENT (R338, R339): the sweep pauses while the Sluice is not OPEN. -/
def execRotationSweepExtent (idx : Fin 8192) (bad : List (Nat × LineVerdict)) (s : State) :
    Host.Outcome State Fault Refusal :=
  let r := s.region idx.val
  let cur := s.get (F.ROT_CURSOR_EXTENT idx.val)
  let n := (r.sizeM1 + 1) * 512
  if r.state ≠ 1 ∨ !r.rotating ∨ s.get F.SLU_STATUS_STATE ≠ 0 ∨ !s.mode.serving ∨ s.fenced ∨ !s.serves (idx.val / 4096) then
    finish s
  else if n ≤ cur then finish (s.endRotation idx.val)
  else
    let x := regionBase idx.val r / 2 ^ 21 + cur
    let wait := s.sweepAbsent x
    if !wait.isEmpty then finish (s.forEach wait fun p a => a.requestFill p 5)
    else
      let res := s.sweepLines r bad ((List.range 8192).map (x * 8192 + ·))
      if !res.1 then finish res.2
      else
        let s1 := res.2.put (F.ROT_CURSOR_EXTENT idx.val) (cur + 1)
        finish (if n ≤ cur + 1 then s1.endRotation idx.val else s1)

/-! Key slots. -/

/-- Bits set in a value of at most 72 bits. -/
def popcount (v : Nat) : Nat := ((List.range 160).filter fun i => v.testBit i).length

/-- The data and check bits of a flip-mask set's word (Table 9.12). -/
def flipWidths (f : Nat) : Nat × Nat :=
  match f with
  | 0 => (64, 8) | 1 => (32, 7) | 2 => (64, 9) | _ => (64, 32)

/-- The next write in the scope of a set corrupted: ARM clears, and the word keeps how many bits were flipped (R343). -/
def State.flipWrite (f : Nat) (s : State) : State :=
  if s.isSet (F.FM_CTRL_ARM f) then
    let w := flipWidths f
    let n := popcount (s.get (F.FM_DATA_MASK f) % 2 ^ w.1) + popcount (s.get (F.FM_CHECK_MASK f) % 2 ^ w.2)
    let s1 := s.put (F.FM_CTRL_ARM f) 0
    { s1 with cry := { s1.cry with flipped := Sparse.set 0 f (n + 1) s1.cry.flipped } }
  else s

/-- The next read of the corrupted word records RESULT (R343): one bit is CORRECTED and two are UNCORRECTABLE; what a code of
this strength makes of more is a free value, and a checker that fails gives NOT_DETECTED. -/
def State.flipRead (f : Nat) (works : Bool) (s : State) : State :=
  let n := Sparse.get 0 f s.cry.flipped
  if n = 0 then s
  else
    let s1 := { s with cry := { s.cry with flipped := Sparse.set 0 f 0 s.cry.flipped } }
    let d := s1.draw 16
    let res := if f = 3 then 4 else if n = 1 then 0 else if !works then 3 else if n = 2 then 1 else if n = 3 then 2 else d.1 % 3 + 1
    let s2 := (if f = 3 ∨ n ≤ 3 ∨ !works then s1 else d.2).put (F.FM_CTRL_RESULT f) res |>.put (F.FM_CTRL_DONE f) 1
    let s3 := s2.raise Ev.FLIP_TEST_DONE [f, res]
    if f ≠ 3 ∧ res = 3 then s3.raise Ev.SELF_TEST_FAILED [4, f] else s3

/-- FLIP_MASK_ARM (R343): an ARM written while ARM is 1 changes nothing. -/
def execFlipMaskArm (f : Fin 4) (read : Option Bool) (s : State) : Host.Outcome State Fault Refusal :=
  let s1 := s.put (F.FM_CTRL_ARM f.val) 1
  match read with
  | none => finish s1
  | some works => finish ((s1.flipWrite f.val).flipRead f.val works)

/-- Every command clears KS_DATA (R326). -/
def State.clearKsData (s : State) : State := s.forEach (List.range 24) fun i a => a.put (F.KS_DATA_KEY i) 0

/-- The key material in KS_DATA, K1 in the low 256 bits. -/
def State.ksData (s : State) : Nat :=
  (List.range 24).foldl (fun v i => v + s.get (F.KS_DATA_KEY i) * 2 ^ (32 * i)) 0

/-- A LOAD is refused with LAST_ERROR (R326), or 0. -/
def State.loadError (s : State) : Nat :=
  let k := s.get F.KS_SEL_SLOT
  let d := s.ksData
  if s.isSet (F.KS_SLOT_INFO_VALID k) then 1
  else if d % 2 ^ 256 = d / 2 ^ 256 % 2 ^ 256 then 2
  else if k < 16384 ∧ (s.keySlotOf (s.get F.KS_BIND_SIDE) (s.get F.KS_BIND_GEN_KEY_GEN)).isSome then 1 else 0

/-- The selected slot loaded or the LOAD refused (R326); the test slot is never bound to a generation (R325). -/
def State.ksLoad (s : State) : State :=
  let k := s.get F.KS_SEL_SLOT
  let e := s.loadError
  if e ≠ 0 then (s.clearKsData).put F.KS_STATUS_LAST_ERROR e
  else
    let s1 := { (s.putKeys k s.ksData) with cry := { (s.putKeys k s.ksData).cry with ksLoading := some k } }
    let s2 := if k < 16384 then
        (s1.put (F.KS_SLOT_INFO_SIDE k) (s.get F.KS_BIND_SIDE)).put (F.KS_SLOT_INFO_TENANT k) (s.get F.KS_BIND_TENANT)
          |>.put (F.KS_SLOT_INFO_KEY_GEN k) (s.get F.KS_BIND_GEN_KEY_GEN)
      else s1.flipWrite 0
    (s2.clearKsData).put F.KS_STATUS_LAST_ERROR 0 |>.put F.KS_STATUS_BUSY 1

/-- The selected slot destroyed (R327). -/
def State.ksDestroy (s : State) : State :=
  let k := s.get F.KS_SEL_SLOT
  if s.isSet (F.KS_SLOT_INFO_VALID k) then
    ((s.clearSlot k).clearKsData).put F.KS_STATUS_LAST_ERROR 0 |>.put F.KS_STATUS_BUSY 1
  else (s.clearKsData).put F.KS_STATUS_LAST_ERROR 3

/-- KS_LOAD (R326). -/
def execKsLoad (s : State) : Host.Outcome State Fault Refusal := finish s.ksLoad

/-- KS_DESTROY (R327). -/
def execKsDestroy (s : State) : Host.Outcome State Fault Refusal := finish s.ksDestroy

/-- KS_COMMAND_DONE (R326, R327): BUSY clears, and a LOAD takes effect; the word of the test slot is read back. -/
def execKsCommandDone (s : State) : Host.Outcome State Fault Refusal :=
  let s1 := s.put F.KS_STATUS_BUSY 0
  let s2 := { s1 with cry := { s1.cry with ksLoading := none } }
  match s.cry.ksLoading with
  | some k =>
    let s3 := s2.put (F.KS_SLOT_INFO_VALID k) 1
    finish (if k = 16384 then s3.flipRead 0 true else s3)
  | none => finish s2

/-! The key store. -/

/-- KEY_STORE_UPDATE (R331): the changes collected start an update of the older slot. -/
def execKeyStoreUpdate (s : State) : Host.Outcome State Fault Refusal :=
  if s.ks.running ∨ s.ks.pendingChanges.isEmpty ∨ !s.pw.firmware ∨ s.mode = .save then finish s
  else
    let body := s.ks.pendingChanges.foldl KeyBody.apply s.keyBody
    let k := s.ks
    finish (({ s with ks := { k with pendingChanges := [], pendingWaits := [], destroys := false, running := true,
                                     content := body, passes := if k.destroys then 2 else 1, waits := k.pendingWaits,
                                     current := k.pendingChanges, twice := k.destroys } }).put
      F.KSTORE_STATUS_UPDATE_BUSY 1)

/-- The slot an update writes: the one whose commit is invalid or whose SGEN is lower (R331): true for B. -/
def State.olderIsB (s : State) : Bool := s.ks.a.ok && (!s.ks.b.ok || decide (s.ks.b.sgen < s.ks.a.sgen))

/-- An update's content in force in a slot, with the NONCE drawn for it (R331). -/
def State.commitStore (s : State) : State :=
  let b := s.olderIsB
  let n := s.get F.KSTORE_SGEN_SGEN + 1
  let d := s.draw 64
  let slot : KeySlot := { ok := true, sgen := n, body := s.ks.content, nonce := d.1 }
  ({ d.2 with ks := if b then { s.ks with b := slot } else { s.ks with a := slot } }).put F.KSTORE_STATUS_ACTIVE_SLOT (flag b)
    |>.put F.KSTORE_SGEN_SGEN n

/-- KEY_STORE_UPDATE_DONE (R331, R333, R336): the second pass of an update that destroys a key follows the first. -/
def execKeyStoreUpdateDone (s : State) : Host.Outcome State Fault Refusal :=
  if !s.ks.running then finish s
  else
    let s1 := (s.commitStore).syncKeysValid
    if 1 < s1.ks.passes then finish { s1 with ks := { s1.ks with passes := s1.ks.passes - 1 } }
    else
      let ws := s1.ks.waits
      let s2 := ({ s1 with ks := { s1.ks with running := false, passes := 0, waits := [], content := {}, current := [], twice := false } }).put
        F.KSTORE_STATUS_UPDATE_BUSY 0
      finish ((s2.keyInForce ws).dropStaleMasters)

/-! Pipelines. -/

/-- CP_IDLE_SLEEP (R319): CP_IDLE_LOG2 15 disables sleep. -/
def execCpIdleSleep (home : Fin 64) (s : State) : Host.Outcome State Fault Refusal :=
  let p := s.get (F.CP_MAP_PHYS home.val)
  if s.get (F.CP_PIPE_STATE p) = 2 ∧ s.get F.LC_CTRL_CP_IDLE_LOG2 ≠ 15 ∧ s.mode.mainRails ∧ !s.cry.asleep.contains p then
    finish { s with cry := { s.cry with asleep := s.cry.asleep ++ [p] } }
  else finish s

/-- CP_REMAP_REQUEST (R324): ignored while a remap is in progress. -/
def execCpRemapRequest (home : Fin 64) (phys : Fin 128) (s : State) : Host.Outcome State Fault Refusal :=
  if s.mode.mainRails then finish (s.startPipeRemap home.val phys.val) else finish s

/-- CP_SELF_TEST_DONE (R324). -/
def execCpSelfTestDone (pipe : Fin 68) (pass : Bool) (s : State) : Host.Outcome State Fault Refusal :=
  finish (s.pipeTest pipe.val pass)

/-- CP_SELF_TEST_TIMEOUT (R324): 2 ms without a pass. -/
def execCpSelfTestTimeout (pipe : Fin 68) (s : State) : Host.Outcome State Fault Refusal :=
  finish (s.pipeTest pipe.val false)

end Sys2Proof.Machine
end

