-- ==== Sys2Proof/Machine/Mailbox.lean ====
section
/-! DEFINITION. The mailbox commands of Table 3.8 (R127 to R129) and the FM API commands of the FM-owned logical device
(R107). -/

namespace Sys2Proof.Machine

open Sys2Proof

/-- A mailbox command of a logical device: no response without its link or in SAVE; Busy for a command that is not of the
status class outside the serving modes; Unsupported for a command that needs ADMIN without it (R127, Table 3.6). -/
def State.mailbox (n : Nat) (status admin : Bool) (f : State → State) (s : State) : State :=
  match s.linkOfLd n with
  | none => s
  | some l =>
    if !s.linkUp l ∨ s.mode = .save then s
    else if !status ∧ !s.mode.serving then s.emit (.mailbox n .busy [])
    else if admin ∧ !s.isSet (F.LD_MAP_ADMIN n) then s.emit (.mailbox n .unsupported [])
    else f s

/-- A response with the success code. -/
def State.mboxOk (n : Nat) (payload : List Nat) (s : State) : State := s.emit (.mailbox n .success payload)

/-- Memory Event Type of a cause (Table 3.11): 0 ECC Error, 1 Invalid Address, 2 Data Path Error, by the codes of CXL 3.1
(log entry 144). -/
def memEventType (cause : Nat) : Nat := if cause = 1 ∨ cause = 2 ∨ cause = 7 ∨ cause = 8 then 0 else if cause = 6 then 1 else 2

/-- Transaction Type of a record (Table 3.11): 0 Unknown, 1 Host Read, 2 Host Write, 5 Internal Media Scrub, 6 Internal Media
Management, by the codes of CXL 3.1 (log entry 144); a DRAM record names the host's read or write. -/
def transType (cause : Nat) (onWrite : Bool) : Nat :=
  if cause = 2 then (if onWrite then 2 else 1)
  else if cause = 1 ∨ cause = 3 ∨ cause = 5 ∨ cause = 6 then 1
  else if cause = 4 ∨ cause = 9 then 2
  else if cause = 7 then 6
  else if cause = 8 then 5
  else 0

/-- The 16 bytes of the Component Identifier (Table 3.10), as one number: CAUSE, FORMAT 1, SOURCE, REGION, TENANT and VALUE. -/
def componentId (r : HostRec) : Nat :=
  r.cause % 256 + 1 * 2 ^ 8 + r.source % 2 ^ 16 * 2 ^ 16 + r.region % 2 ^ 16 * 2 ^ 32 + r.tenant % 2 ^ 16 * 2 ^ 48 + r.value % 2 ^ 64 * 2 ^ 64

/-- The values of a host event record as a response carries them (R130): handle, stamp, whether it is a DRAM record, Component Identifier,
whether the device physical address is valid and the address, Memory Event Type, Transaction Type, and for a DRAM record the validity of
its six location fields and the fields. -/
def recPayload (r : HostRec) : List Nat :=
  [r.handle, r.stamp, flag (decide (r.cause = 2)), componentId r, flag r.dpa.isSome, r.dpa.getD 0, memEventType r.cause,
   transType r.cause r.onWrite] ++ (if r.cause = 2 then flag (!r.dram.isEmpty) :: r.dram else [])

/-- GET_EVENT_RECORDS (R127, R129). -/
def execGetEventRecords (ld : Fin 64) (log : Fin 4) (s : State) : Host.Outcome State Fault Refusal :=
  finish (s.mailbox ld.val true false fun a =>
    let g := (a.ld ld.val).logs.getD log.val {}
    a.mboxOk ld.val ([g.recs.length, g.overflow] ++ (g.recs.map recPayload).flatten))

/-- CLEAR_EVENT_RECORDS (R127): all records and the overflow count, or the records with the named handles. -/
def execClearEventRecords (ld : Fin 64) (log : Fin 4) (all : Bool) (handles : List Nat) (s : State) :
    Host.Outcome State Fault Refusal :=
  finish (s.mailbox ld.val true false fun a =>
    let d := a.ld ld.val
    let g := d.logs.getD log.val {}
    let g1 : HostLog := if all then {} else { g with recs := g.recs.filter fun r => !handles.contains r.handle }
    (a.setLd ld.val { d with logs := d.logs.set log.val g1 }).mboxOk ld.val [])

/-- GET_EVENT_INTERRUPT_POLICY (R127). -/
def execGetEventInterruptPolicy (ld : Fin 64) (s : State) : Host.Outcome State Fault Refusal :=
  finish (s.mailbox ld.val false false fun a => a.mboxOk ld.val [(a.ld ld.val).irqPolicy])

/-- SET_EVENT_INTERRUPT_POLICY (R127): MSI-X (mode 1) or none (mode 0) for each of the four logs. -/
def execSetEventInterruptPolicy (ld : Fin 64) (policy : Nat) (s : State) : Host.Outcome State Fault Refusal :=
  finish (s.mailbox ld.val false false fun a =>
    if (List.range 4).all fun k => decide (bitsOf policy (8 * k) 2 ≤ 1) then
      (a.setLd ld.val { a.ld ld.val with irqPolicy := policy % 2 ^ 32 }).mboxOk ld.val []
    else a.emit (.mailbox ld.val .invalidInput []))

/-- GET_FW_INFO (R127): two slots, the active slot and the revision that runs. -/
def execGetFwInfo (ld : Fin 64) (s : State) : Host.Outcome State Fault Refusal :=
  finish (s.mailbox ld.val true false fun a =>
    a.mboxOk ld.val [2, a.get F.ID_FW_STATUS_ACTIVE_SLOT, a.get F.ID_FW_VERSION_VERSION])

/-- The timestamp of a logical device now, in ns; 0 until it is set. -/
def State.ldStamp (n : Nat) (s : State) : Nat :=
  let d := s.ld n
  if d.stampSet then d.timestamp + (s.now - d.stampAt) / 2 else 0

/-- GET_TIMESTAMP (R127). -/
def execGetTimestamp (ld : Fin 64) (s : State) : Host.Outcome State Fault Refusal :=
  finish (s.mailbox ld.val true false fun a => a.mboxOk ld.val [a.ldStamp ld.val])

/-- SET_TIMESTAMP (R127). -/
def execSetTimestamp (ld : Fin 64) (t : Nat) (s : State) : Host.Outcome State Fault Refusal :=
  finish (s.mailbox ld.val false false fun a =>
    (a.setLd ld.val { a.ld ld.val with timestamp := t % 2 ^ 64, stampAt := a.now, stampSet := true }).mboxOk ld.val [])

/-- GET_SUPPORTED_LOGS (R127): the Command Effects Log only. -/
def execGetSupportedLogs (ld : Fin 64) (s : State) : Host.Outcome State Fault Refusal :=
  finish (s.mailbox ld.val true false fun a => a.mboxOk ld.val [1])

/-- The opcodes of Table 3.8: what the Command Effects Log lists. -/
def mailboxOpcodes : List Nat :=
  [0x0100, 0x0101, 0x0102, 0x0103, 0x0200, 0x0300, 0x0301, 0x0400, 0x0401, 0x4000, 0x4100, 0x4102, 0x4103, 0x4200, 0x4201,
   0x4203, 0x4204, 0x4300, 0x4301, 0x4302, 0x4303, 0x4304, 0x4305, 0xC000]

/-- GET_LOG (R127): the Command Effects Log, whose entries are the opcodes of Table 3.8; another log is invalid. -/
def execGetLog (ld : Fin 64) (cel : Bool) (s : State) : Host.Outcome State Fault Refusal :=
  finish (s.mailbox ld.val true false fun a =>
    if cel then a.mboxOk ld.val mailboxOpcodes else a.emit (.mailbox ld.val .invalidInput []))

/-- The span of a logical device's window in units of 256 MiB. -/
def State.spanUnits (n : Nat) (s : State) : Nat := (s.get (F.CXL_LD_WIN_SPAN_SPAN_M1 n) + 1) * 4

/-- IDENTIFY_MEMORY_DEVICE (R127): total, volatile and persistent capacity, partition alignment, LSA size, log sizes, poison
list limit, inject limit. -/
def execIdentifyMemoryDevice (ld : Fin 64) (s : State) : Host.Outcome State Fault Refusal :=
  finish (s.mailbox ld.val true false fun a =>
    a.mboxOk ld.val [a.spanUnits ld.val, 0, a.spanUnits ld.val, 0, 65536, 256, 256, 256, 256, 4096, 64])

/-- GET_PARTITION_INFO (R127): active volatile 0, active persistent the span. -/
def execGetPartitionInfo (ld : Fin 64) (s : State) : Host.Outcome State Fault Refusal :=
  finish (s.mailbox ld.val true false fun a => a.mboxOk ld.val [0, a.spanUnits ld.val])

/-! The label storage area and shutdown state of a window. -/

/-- The key of a logical device's window: tenant, side, base slot and span (R127). -/
def State.winKey (n : Nat) (s : State) : Nat × Nat × Nat × Nat :=
  (s.get (F.LD_MAP_TENANT n), s.winSide n, s.get (F.CXL_LD_WIN_BASE_BASE_SLOT n), s.get (F.CXL_LD_WIN_SPAN_SPAN_M1 n))

/-- The record of a window. -/
def State.winRec (n : Nat) (s : State) : WinRec :=
  let k := s.winKey n
  (s.wins.find? fun w => decide ((w.tenant, w.side, w.base, w.span) = k)).getD
    { tenant := k.1, side := k.2.1, base := k.2.2.1, span := k.2.2.2, lsa := [], shutdown := 0 }

/-- The record of a window set, and mirrored with the service region that holds it: the SEQ of its frame, 0 for none (R127). -/
def State.setWinRec (w : WinRec) (s : State) : Nat × State :=
  let s1 := s.keepWindow w
  if s1.mode.twin ∧ s1.cw.linkKey then s1.sendFrame (.window w) else (0, s1)

/-- GET_LSA (R127). -/
def execGetLsa (ld : Fin 64) (off len : Nat) (s : State) : Host.Outcome State Fault Refusal :=
  finish (s.mailbox ld.val false false fun a =>
    if off + len ≤ 65536 then
      a.mboxOk ld.val ((List.range len).map fun i => Sparse.get 0 (off + i) (a.winRec ld.val).lsa)
    else a.emit (.mailbox ld.val .invalidInput []))

/-- SET_LSA (R127): Media Disabled for a dormant device that is not activated; in PAIRED and DRAIN the response waits until
the mirrored data is twin-durable. -/
def execSetLsa (ld : Fin 64) (off : Nat) (data : List Byte) (s : State) : Host.Outcome State Fault Refusal :=
  finish (s.mailbox ld.val false false fun a =>
    let n := ld.val
    if a.isSet (F.LD_MAP_DORMANT n) ∧ !a.isSet (F.CXL_LD_STATUS_ACTIVATED n) then a.emit (.mailbox n .mediaDisabled [])
    else if 65536 < off + data.length then a.emit (.mailbox n .invalidInput [])
    else
      let w := a.winRec n
      let lsa := (List.range data.length).foldl
        (fun t i => Sparse.set 0 (off + i) ((data.getD i 0).toNat) t) w.lsa
      let f := a.setWinRec { w with lsa := lsa }
      if f.1 = 0 then f.2.mboxOk n [] else f.2.setLd n { f.2.ld n with lsaWait := f.1 })

/-- GET_HEALTH_INFO (Table 3.9): health status, media status, life used, temperature in °C (two's complement in 16 bits),
dirty shutdowns, corrected volatile and persistent errors, which saturate in the 32 bits CXL 3.1 gives them. -/
def execGetHealthInfo (ld : Fin 64) (s : State) : Host.Outcome State Fault Refusal :=
  finish (s.mailbox ld.val true false fun a =>
    let hot := a.get F.TH_STATUS_HOTTEST
    let deg := if hot < 2 ^ 15 then hot / 4 else 2 ^ 16 - (2 ^ 16 - hot + 3) / 4
    a.mboxOk ld.val [flag (decide (a.get F.BERM_STATUS_LOW ≠ 0) || decide (a.get F.BERM_STATUS_EXHAUSTED ≠ 0)),
      a.mediaStatus, a.get F.BERM_STATUS_LIFE_USED_PCT, deg, a.ssb.dirtyShutdowns,
      min a.dram.corrected (2 ^ 32 - 1), min a.fl.repairedLines (2 ^ 32 - 1)])

/-- GET_ALERT_CONFIGURATION (R127): no alert supported. -/
def execGetAlertConfiguration (ld : Fin 64) (s : State) : Host.Outcome State Fault Refusal :=
  finish (s.mailbox ld.val true false fun a => a.mboxOk ld.val [0])

/-- GET_SHUTDOWN_STATE (R127). -/
def execGetShutdownState (ld : Fin 64) (s : State) : Host.Outcome State Fault Refusal :=
  finish (s.mailbox ld.val true false fun a => a.mboxOk ld.val [(a.winRec ld.val).shutdown])

/-- SET_SHUTDOWN_STATE (R127). -/
def execSetShutdownState (ld : Fin 64) (v : Nat) (s : State) : Host.Outcome State Fault Refusal :=
  finish (s.mailbox ld.val false false fun a =>
    (a.setWinRec { a.winRec ld.val with shutdown := v % 256 }).2.mboxOk ld.val [])

/-! Poison and scans. -/

/-- The lines of a window's range that belong to its tenant, `len` in 64 B units. -/
def State.inRange (n dpa len line : Nat) (s : State) : Bool :=
  match s.winDpa n line, s.regionOfLine line with
  | some d, some i => decide (dpa < d + 256) && decide (d < dpa + 64 * len) &&
      decide ((s.region i).tenant = s.get (F.LD_MAP_TENANT n))
  | _, _ => false

/-- GET_POISON_LIST (R127): the overflow flag, then the device physical address and source of each poisoned line. -/
def execGetPoisonList (ld : Fin 64) (dpa len : Nat) (s : State) : Host.Outcome State Fault Refusal :=
  finish (s.mailbox ld.val true false fun a =>
    let hits := a.lines.filter fun e => e.2.poison && a.live e.1 && a.inRange ld.val dpa len e.1
    a.mboxOk ld.val ([flag a.poisonOverflow] ++
      (hits.map fun e => [(a.winDpa ld.val e.1).getD 0, 4, e.2.psrc]).flatten))

/-- The checks 2 to 8 of a mailbox command's address: the pair address, and whether they pass (R127). -/
def State.mboxAddress (n dpa : Nat) (s : State) : Option Nat :=
  let a := s.winBase n + dpa / 64 * 64
  if dpa < s.winBytes n ∧ s.check (s.cxlBinding n) a 64 true none = 0 then some a else none

/-- INJECT_POISON (R127): the whole line poisoned with POISON_SRC Injected, as a change of a whole line that the front cache takes
(R203, R205); at most 64 injected lines at a time (CXL 3.1). -/
def execInjectPoison (ld : Fin 64) (dpa : Nat) (s : State) : Host.Outcome State Fault Refusal :=
  finish (s.mailbox ld.val false true fun a =>
    match a.mboxAddress ld.val dpa with
    | none => a.emit (.mailbox ld.val .invalidPhysical [])
    | some p =>
      if 64 ≤ (a.lines.filter fun e => e.2.poison && decide (e.2.psrc = 1)).length then
        a.emit (.mailbox ld.val .injectLimit [])
      else if a.fenced then a.emit (.mailbox ld.val .busy [])
      else (((a.grant (lineOf p) 7).poisonLine (lineOf p) 1).allocLine (lineOf p) 1 true).mboxOk ld.val [])

/-- CLEAR_POISON (R127): the granule and zeros written as one full-line write. -/
def execClearPoison (ld : Fin 64) (dpa : Nat) (data : Granule) (s : State) : Host.Outcome State Fault Refusal :=
  finish (s.mailbox ld.val false true fun a =>
    match a.mboxAddress ld.val dpa with
    | none => a.emit (.mailbox ld.val .invalidPhysical [])
    | some p =>
      if a.fenced then a.emit (.mailbox ld.val .busy [])
      else
        let w : WriteReq := { src := .hub, tenant := a.get (F.LD_MAP_TENANT ld.val), line := lineOf p, mask := fullMask,
                              data := (data.setWidth 2048) <<< (512 * (p / 64 % 4)), poison := false, readOnly := false,
                              entered := a.now }
        (a.presentWrite w).mboxOk ld.val [])

/-- SCAN_MEDIA (R127): a background command; one at a time. -/
def execScanMedia (ld : Fin 64) (dpa len : Nat) (s : State) : Host.Outcome State Fault Refusal :=
  finish (s.mailbox ld.val false false fun a =>
    let d := a.ld ld.val
    if d.scan.isSome then a.emit (.mailbox ld.val .busy [])
    else if len = 0 ∨ a.winBytes ld.val < dpa + 64 * len then a.emit (.mailbox ld.val .invalidInput [])
    else (a.setLd ld.val { d with scan := some (dpa, len), scanDone := false }).emit (.mailbox ld.val .background []))

/-- GET_SCAN_MEDIA_CAPABILITIES (R127): the estimate in ms at 4 GB/s. -/
def execGetScanMediaCapabilities (ld : Fin 64) (dpa len : Nat) (s : State) : Host.Outcome State Fault Refusal :=
  finish (s.mailbox ld.val false false fun a =>
    if a.winBytes ld.val < dpa + 64 * len then a.emit (.mailbox ld.val .invalidInput [])
    else a.mboxOk ld.val [ceilDiv (64 * len) 4000000])

/-- GET_SCAN_MEDIA_RESULTS (R127). -/
def execGetScanMediaResults (ld : Fin 64) (s : State) : Host.Outcome State Fault Refusal :=
  finish (s.mailbox ld.val false false fun a =>
    let d := a.ld ld.val
    a.mboxOk ld.val ([flag d.scanDone] ++ d.scanResults))

/-- SCAN_MEDIA_DONE (R127): the range verified; the lines found bad are its results, and an overflow of the poison list that
the range covers is cleared. -/
def execScanMediaDone (ld : Fin 64) (bad : List Nat) (s : State) : Host.Outcome State Fault Refusal :=
  let n := ld.val
  let d := s.ld n
  match d.scan with
  | none => finish s
  | some (dpa, len) =>
    if s.frozenMode then finish s
    else
      let hits := bad.filter fun line => s.inRange n dpa len line
      let s1 := s.setLd n { d with scan := none, scanDone := true,
                                   scanResults := hits.filterMap fun line => s.winDpa n line }
      let past := (s.lines.filter fun e => e.2.poison).drop 65536
      let covered := past.all fun e => s.inRange n dpa len e.1
      finish (if covered then { s1 with poisonOverflow := false } else s1)

/-- MAILBOX_UNSUPPORTED (R127): any other command. -/
def execMailboxUnsupported (ld : Fin 64) (_opcode : Nat) (s : State) : Host.Outcome State Fault Refusal :=
  finish (s.mailbox ld.val false false fun a => a.emit (.mailbox ld.val .unsupported []))

/-! The FM API (R107). -/

/-- An FM API command reaches the FM-owned logical device: the link is up with MLD operation. -/
def State.fmReach (l : Nat) (f : State → State) (s : State) : State :=
  if s.linkUp l ∧ s.isSet (F.CXL_LINK_STATUS_MLD_ACTIVE l) ∧ s.mode ≠ .save then f s else s

/-- GET_LD_INFO (R107). -/
def execGetLdInfo (l : Fin 16) (s : State) : Host.Outcome State Fault Refusal :=
  finish (s.fmReach l.val fun a => a.emit (.fmApi l.val true [(a.link l.val).ldCount]))

/-- GET_LD_ALLOCATIONS (R107): 1 GiB granularity and each logical device's window span. -/
def execGetLdAllocations (l : Fin 16) (s : State) : Host.Outcome State Fault Refusal :=
  finish (s.fmReach l.val fun a => a.emit (.fmApi l.val true
    ([1] ++ (a.linkLds l.val).map fun n => if a.winValid n then a.get (F.CXL_LD_WIN_SPAN_SPAN_M1 n) + 1 else 0)))

/-- GET_QOS_STATUS (R107): the link's DevLoad averaged over the last 1 ms. -/
def execGetQosStatus (l : Fin 16) (s : State) : Host.Outcome State Fault Refusal :=
  finish (s.fmReach l.val fun a => a.emit (.fmApi l.val true [a.devLoadAverage]))

/-- FM_API_UNSUPPORTED (R107). -/
def execFmApiUnsupported (l : Fin 16) (_opcode : Nat) (s : State) : Host.Outcome State Fault Refusal :=
  finish (s.fmReach l.val fun a => a.emit (.fmApi l.val false []))

end Sys2Proof.Machine
end

