-- ==== Sys2Proof/Machine/Power.lean ====
section
/-! DEFINITION. The commands of power, clocks, modes and temperature (R532 to R559). -/

namespace Sys2Proof.Machine

open Sys2Proof

/-! VAUX and the always-on domain (R532 to R535). -/

/-- Everything that VAUX supplies lost: what the embedded flash, the fuses, the flash members and the bank's own memory hold stays (R532,
R14). -/
def State.loseSupplies (s : State) : State :=
  let s0 := { s with pw := { s.pw with config := [] } }
  let s1 := ((s0.resetBlocks).resetRegs mgmtBlock).put F.ID_OPERATING_S_SECONDS s.pw.stored
  { s1 with
    mode := .off
    fc := { records := s1.fc.records, nextSeq := s1.fc.nextSeq, slotsUsed := s1.fc.slotsUsed, freeSlots := s1.fc.freeSlots,
            rewriteMark := s1.fc.rewriteMark }
    rv := { part := s1.rv.part, words := s1.rv.words, active := s1.rv.active, trialSlot := s1.rv.trialSlot, trial := s1.rv.trial,
            trialStarted := s1.rv.trialStarted, recovered := s1.rv.recovered, cfgFirst := s1.rv.cfgFirst, units := s1.rv.units, erasing := s1.rv.erasing }
    ssb := { s1.ssb with volts := [], vNow := 0, iNow := 0, pfailAt := 0, pfailOn := false }
    berm := { a := s1.berm.a, b := s1.berm.b, active := s1.berm.active }
    pw := { first := s.pw.first, fused := s.pw.fused, stored := s.pw.stored } }

/-- Nominal voltages of the rails in mV (Table 16.1). -/
def railNominal : List Nat := [750, 750, 850, 750, 800, 800, 1100, 1200, 1200, 1800, 1800, 3300]

/-- The fuse map loaded (R14): the fields marked fuse, by register key; VENDOR_ID, the same on every part (Table 14.12a); and
Table 16.1. -/
def State.loadFuses (fuses : List (Nat × Nat)) (s : State) : State :=
  let s1 := s.forEach fuses fun e a => match rowAt (e.1 / 64) (e.1 % 64) with
    | some r => if r.src = .fuse then a.put ⟨e.1 / 64, e.1 % 64, r.w⟩ e.2 else a
    | none => a
  let s2 := (s1.put F.ID_DEVICE_VENDOR_ID 0x1F4C).forEach (List.range 12) fun i a => a.put (F.RAIL_CFG_NOMINAL_MV i) (railNominal.getD i 0)
    |>.put (F.RAIL_CFG_SAVE_NEEDED i) (flag (saveNeeded i))
  ({ s2 with pw := { s2.pw with fused := true } }).put F.KG_GUEST_STATUS_STATE (flag s2.guestFitted)

/-- What the part brings beside the fuses registers show: its embedded flash, with the generation counter at 1 (R80) and no device marked. -/
def State.loadPart (part : Part) (s : State) : State :=
  let words := part.flash.foldl (fun (t : Sparse (Option Nat)) (e : Nat × Nat) => Sparse.set none (e.1 % flashWords) (some (e.2 % 2 ^ 128)) t) []
  let s1 := { s with rv := { s.rv with part := { part with flash := [] }, words := words } }
  let s2 := (s1.put F.ADR_GEN_NEXT_GEN 1).forEach (List.range 16) fun c a => a.put (F.CH_DEV_MARK_MARK c) (2 ^ 64 - 1)
  s2.put F.RDL_STATUS_LEVEL s1.readoutLevel |>.put F.ID_READOUT_LEVEL s1.readoutLevel

/-- VAUX_RISE (R532, R533): straps sampled, fuses loaded the first time, the regulator started. -/
def execVauxRise (side : Fin 2) (autowake : Bool) (i3cAddr : Fin 4) (fuses : List (Nat × Nat)) (part : Part) (s : State) :
    Host.Outcome State Fault Refusal :=
  if s.mode ≠ .off ∨ s.pw.vaux then finish s
  else
    let s1 := if s.pw.fused then s else (s.loadFuses fuses).loadPart part
    finish (({ s1 with pw := { s1.pw with vaux := true, starting := true, first := true, from_ := 15, autowake := autowake,
                                          i3cAddr := i3cAddr.val, retriesTold := false } }).put F.ADR_CTRL_SIDE side.val)

/-- VAUX_FALL (R532). -/
def execVauxFall (s : State) : Host.Outcome State Fault Refusal := finish s.loseSupplies

/-- AON_START_CHECK (R533): `ok`, the output lies within 0.85 V to 0.95 V. -/
def execAonStartCheck (ok : Bool) (s : State) : Host.Outcome State Fault Refusal :=
  if s.mode ≠ .off ∨ !s.pw.vaux ∨ !s.pw.starting then finish s
  else if ok then
    let first := s.pw.first
    let s1 := { s with pw := { s.pw with starting := false, first := false }, fc := { s.fc with regulatorCause := false } }
    let s2 := (s1.settleLatch.when first (State.bump F.ID_POWER_CYCLES_COUNT 1)).setMode .dormant
    finish (s2.when (first && s2.pw.autowake) State.wakeDormant)
  else
    finish (({ s with pw := { s.pw with starting := false }
                      fc := { s.fc with regulatorCause := true, latch := true } }).bump F.AON_STATUS_AON_RETRIES 1)

/-- AON_START_RETRY (R533). -/
def execAonStartRetry (s : State) : Host.Outcome State Fault Refusal :=
  if s.mode = .off ∧ s.pw.vaux ∧ !s.pw.starting then finish { s with pw := { s.pw with starting := true } } else finish s

/-- AON_REGULATOR_DIP (R533): every PSEQ_EN deasserted, the domain in reset, no save; AON_RETRIES stays. -/
def execAonRegulatorDip (s : State) : Host.Outcome State Fault Refusal :=
  if s.mode = .off then finish s
  else
    let n := s.get F.AON_STATUS_AON_RETRIES
    let side := s.side
    let s1 := (s.railsDrop.loseSupplies.put F.AON_STATUS_AON_RETRIES n).put F.ADR_CTRL_SIDE side
    finish { s1 with pw := { s1.pw with vaux := true, starting := true, first := false, from_ := s.mode.num, autowake := s.pw.autowake,
                                        i3cAddr := s.pw.i3cAddr, retriesTold := s.pw.retriesTold } }

/-! Commands of PWR_CMD (R549 to R552). -/

/-- A command of PWR_CMD (Table 16.11): other values have no effect. -/
def State.powerCommand (cmd : Nat) (s : State) : State :=
  if s.mode = .off then s
  else match cmd with
    | 1 => if s.mode = .watch then s.rampCommand else s.cmdRefused 1
    | 2 =>
      if s.mode = .watch then
        let s1 := s.put F.PWR_STATUS_LAST_CMD 1 |>.put F.PWR_STATUS_GO_WAIT 0
        (({ s1 with pw := { s1.pw with firmware := false, coldWait := false } }).endCond Ev.THERMAL_COLD).setMode .dormant
      else s.cmdRefused 2
    | 3 =>
      let ok := s.put F.PWR_STATUS_LAST_CMD 1
      match s.mode with
      | .solo => (ok.put F.PWR_STATUS_STOPPING 1).setAllActive
      | .bringup => ok.abandonAssay.rampDown 3
      | .quarantine => if s.canSave then ok.enterSave 5 else ok.rampDown 3
      | _ => s.cmdRefused 3
    | 4 =>
      let ok := s.put F.PWR_STATUS_LAST_CMD 1
      if s.mode = .quarantine then (if s.canSave then ok.enterSave 3 else ok.enterBringup true false) else s.cmdRefused 4
    | _ => s

/-- PWR_RAMP (R550). -/
def execPwrRamp (s : State) : Host.Outcome State Fault Refusal := finish (s.powerCommand 1)
/-- PWR_SLEEP (R549). -/
def execPwrSleep (s : State) : Host.Outcome State Fault Refusal := finish (s.powerCommand 2)
/-- PWR_SHUTDOWN (R551). -/
def execPwrShutdown (s : State) : Host.Outcome State Fault Refusal := finish (s.powerCommand 3)
/-- PWR_RESTART (R552). -/
def execPwrRestart (s : State) : Host.Outcome State Fault Refusal := finish (s.powerCommand 4)

/-- SHUTDOWN_WRITEBACK_DONE (R551 steps 2 to 4): no dirty line, journal entry or table page is left. -/
def execShutdownWritebackDone (s : State) : Host.Outcome State Fault Refusal :=
  if s.mode ≠ .solo ∨ !s.stopping ∨ s.dirtyLines ≠ 0 ∨ !s.cul.jpend.isEmpty ∨ !s.cul.tableDirty.isEmpty then finish s
  else
    let s1 := ({ s with ssb := { s.ssb with imageA := none, imageB := none, orderly := true } }).put F.SPW_STATUS_IMAGE_HELD 0
    finish (s1.abandonAssay.rampDown 3)

/-! Ramp-up and ramp-down (R537 to R539, R543). -/

/-- PSEQ_GO_ASSERT (R539). -/
def execPseqGoAssert (s : State) : Host.Outcome State Fault Refusal :=
  if s.mode = .off then finish s
  else
    let s1 := s.put F.PWR_STATUS_PSEQ_GO 1
    if s1.mode = .watch ∧ s1.isSet F.PWR_STATUS_GO_WAIT then finish s1.startRampUp else finish s1

/-- GO_WAIT_TIMEOUT (R539): once only. -/
def execGoWaitTimeout (s : State) : Host.Outcome State Fault Refusal :=
  if s.mode = .watch ∧ s.isSet F.PWR_STATUS_GO_WAIT ∧ !s.pw.goTold then
    finish (({ s with pw := { s.pw with goTold := true } }).raise Ev.GO_WAIT [])
  else finish s

/-- The ramp-up stands at rail `i`. -/
def State.rampingUp (i : Nat) (s : State) : Bool := decide (s.mode = .ramp) && decide (s.pw.ramp = 1) && decide (s.pw.rail = i)

/-- RAIL_PG_ASSERT (R537 step 2). -/
def execRailPgAssert (rail : Fin 12) (s : State) : Host.Outcome State Fault Refusal :=
  if s.rampingUp rail.val ∧ s.railState rail.val = 1 then finish { s with pw := { s.pw with pg := true } } else finish s

/-- RAIL_PG_TIMEOUT (R537 step 2). -/
def execRailPgTimeout (rail : Fin 12) (s : State) : Host.Outcome State Fault Refusal :=
  if s.rampingUp rail.val ∧ !s.pw.pg then finish (s.wakeStepFailed 1 rail.val) else finish s

/-- RAIL_WINDOW_TIMEOUT (R537 step 3). -/
def execRailWindowTimeout (rail : Fin 12) (s : State) : Host.Outcome State Fault Refusal :=
  if s.rampingUp rail.val ∧ s.pw.pg ∧ s.pw.inWindow < 2 then finish (s.wakeStepFailed 2 rail.val) else finish s

/-- STEP_DELAY_EXPIRY (R537 step 4). -/
def execStepDelayExpiry (rail : Fin 12) (s : State) : Host.Outcome State Fault Refusal :=
  if s.rampingUp rail.val ∧ s.pw.pg ∧ 2 ≤ s.pw.inWindow then finish ((s.setRail rail.val 2).enableRail (rail.val + 1)) else finish s

/-- PLL_LOCKED (R537): the last of them asserts PSEQ_DONE and enters BRINGUP. -/
def execPllLocked (pll : Fin 13) (s : State) : Host.Outcome State Fault Refusal :=
  if !s.rampingUp 12 then finish s
  else
    let v := s.get F.CLK_STATUS_PLL_LOCK
    let v1 := if bitsOf v pll.val 1 = 1 then v else v + 2 ^ pll.val
    let s1 := s.put F.CLK_STATUS_PLL_LOCK v1
    if v1 = 2 ^ 13 - 1 then
      finish ((({ s1 with pw := { s1.pw with ramp := 0, second := false } }).put F.PWR_STATUS_PSEQ_DONE 1).enterBringup false false)
    else finish s1

/-- PLL_LOCK_TIMEOUT (R537). -/
def execPllLockTimeout (pll : Fin 13) (s : State) : Host.Outcome State Fault Refusal :=
  if s.rampingUp 12 ∧ bitsOf (s.get F.CLK_STATUS_PLL_LOCK) pll.val 1 = 0 then finish (s.wakeStepFailed 3 pll.val) else finish s

/-- RAMPDOWN_RAIL_OFF (R538). -/
def execRampdownRailOff (rail : Fin 12) (s : State) : Host.Outcome State Fault Refusal :=
  if s.mode = .ramp ∧ s.pw.ramp = 2 ∧ s.pw.rail = rail.val ∧ s.railState rail.val = 5 then
    finish ((s.setRail rail.val 0).disableNext)
  else finish s

/-- WAKE_RETRY_DELAY (R543). -/
def execWakeRetryDelay (s : State) : Host.Outcome State Fault Refusal :=
  if s.mode = .ramp ∧ s.pw.ramp = 3 then finish ({ s with pw := { s.pw with second := true } }).startRampUp else finish s

/-- HOLDOFF_EXPIRY (R550). -/
def execHoldoffExpiry (s : State) : Host.Outcome State Fault Refusal :=
  if s.mode = .off ∨ s.isSet F.PWR_STATUS_PFAIL then finish s else finish { s with pw := { s.pw with holdoff := true } }

/-! BRINGUP (R539, R549). -/

/-- A module found at BRINGUP (R393, Table 11.5): the member of its label's position when the label, the serial and the group record
agree. -/
def State.discoverModule (m : Module) (s : State) : State :=
  let n := m.slot.val
  let ok := m.crcOk && recordRanges m.record
  let s1 := s.put (F.SLOT_STATUS_PRESENT n) 1 |>.put (F.SLOT_STATUS_STATE n) 1 |>.put (F.SLOT_STATUS_CAUSE n) 0
    |>.put (F.SLOT_STATUS_ID_VALID n) (flag ok) |>.put (F.SLOT_STATUS_POSITION n) 31 |>.put (F.SLOT_STATUS_ATTEMPTS n) 0
  let s2 := { s1 with fl := { s1.fl with records := Sparse.set 0 n (if ok then m.record % 2 ^ 32768 else 0) s1.fl.records
                                         labels := match m.label with
                                           | some l => Sparse.set 0 n (l.2 + 1) s1.fl.labels
                                           | none => s1.fl.labels } }
  match m.label with
  | some (g, p) =>
    if ok ∧ s2.fl.formed ∧ g = s2.get F.FL_GROUP_ID_ID ∧ p < s2.width + 2 ∧ Sparse.get 0 p s2.fl.serials = recSerial m.record ∧
        !s2.fl.failedPos.contains p then
      s2.put (F.SLOT_STATUS_STATE n) 5 |>.put (F.SLOT_STATUS_POSITION n) p |>.put (F.FL_POSITION_STATE p) (flag (s2.fl.rbPos.contains p)) |>.put (F.FL_POSITION_SLOT p) n
        |>.bermFound 6 n s2.dieSpares (s2.dieSpares - (List.range 32).foldl (fun m d => max m (Sparse.get 0 (n * 32 + d) s2.fl.sparesUsed)) 0) false
    else s2
  | none => s2

/-- The positions whose member is not found are FAILED (R393). -/
def State.absentPositions (s : State) : State :=
  let gone := (List.range (s.width + 2)).filter fun p => !((List.range 20).any fun i => decide (s.get (F.SLOT_STATUS_POSITION i) = p))
  let s1 := s.forEach gone fun p a => (a.put (F.FL_POSITION_STATE p) 2).dropRebuild p
  { s1 with fl := { s1.fl with failedPos := s1.fl.failedPos ++ gone.filter fun p => !s1.fl.failedPos.contains p } }

/-- The spare rows and columns of an SRAM array (Table 17.1, pool 4). -/
def sramSpares (a : Nat) : Nat := if a < 66 then 24 else if a = 66 then 8 else 32

/-- A slice whose array has no spare left is retired (Table 17.1, Table 9.11): a home agent it serves goes to the first spare slice. -/
def State.retireAtBringup (p : Nat) (s : State) : State :=
  let home := if [2, 3, 4].contains (s.get (F.HA_SLICE_STATE p)) then some (s.get (F.HA_SLICE_LOGICAL p)) else none
  let s1 := ((s.put F.ST_STATUS_SRAM_FAIL 1).raise Ev.SELF_TEST_FAILED [2, p]).retireSlice p
  match home, (List.range 66).find? fun x => decide (s1.get (F.HA_SLICE_STATE x) = 0) with
  | some l, some x =>
    ((s1.put (F.HA_MAP_PHYS l) x |>.put (F.HA_SLICE_STATE x) 2 |>.put (F.HA_SLICE_LOGICAL x) l).bermDraw 10 0 1).noteUnits
  | _, _ => s1

/-- A fault the bring-up BIST found in an SRAM array (R563): a spare is switched in and the repair recorded, when the array has one left. A
fault repaired before is not found again: its repair is applied before the BIST. -/
def State.repairSram (f : SramRepair) (s : State) : State :=
  let done := s.rv.units.sramRepairs
  if done.contains f ∨ (f.array.val < 66 ∧ s.get (F.HA_SLICE_STATE f.array.val) = 5) then s
  else if (done.filter fun r => decide (r.array = f.array)).length < sramSpares f.array.val then
    ({ s with rv := { s.rv with units := { s.rv.units with sramRepairs := done ++ [f] } } }).bermDraw 4 f.array.val 1
  else if f.array.val < 66 then s.retireAtBringup f.array.val
  else
    ({ s with pw := { s.pw with bistOk := false } }).raise Ev.SELF_TEST_FAILED [2, f.array.val]

/-- A crypto pipeline that fails its self-test at BRINGUP is retired (Tables 9.6, 9.11): the logical pipeline it serves goes to the first spare, or
shares the pipeline of L ⊕ 32. -/
def State.retirePipe (p : Nat) (s : State) : State :=
  if s.get (F.CP_PIPE_STATE p) = 5 ∨ 67 < p then s
  else
    let home := if [2, 3, 4].contains (s.get (F.CP_PIPE_STATE p)) then some (s.get (F.CP_PIPE_LOGICAL p)) else none
    let s1 := ((s.put (F.CP_PIPE_STATE p) 5).put F.ST_STATUS_CRYPTO_FAIL 1).raise Ev.SELF_TEST_FAILED [3, p]
    let s2 := match home, (List.range 68).find? fun x => decide (s1.get (F.CP_PIPE_STATE x) = 0) with
      | some l, some x => (s1.put (F.CP_MAP_PHYS l) x |>.put (F.CP_PIPE_STATE x) 2 |>.put (F.CP_PIPE_LOGICAL x) l).bermDraw 9 0 1
      | some l, none => (s1.put (F.CP_MAP_PHYS l) (s1.get (F.CP_MAP_PHYS (l ^^^ 32)))).raise Ev.CP_NO_SPARE []
      | none, _ => s1.bermDraw 9 0 1
    s2.countSpares.noteUnits

/-- A checker that fails its self-test at BRINGUP (R342, Table 9.11): its unit is out of service. -/
def State.checkerFails (k : Checker) (unit : Nat) (s : State) : State :=
  match k with
  | .ldpc => ((s.put F.ST_STATUS_LDPC_FAIL 1).raise Ev.SELF_TEST_FAILED [1, unit]).retireEngine unit
  | .slice => if s.get (F.HA_SLICE_STATE unit) = 5 ∨ 65 < unit then s else s.retireAtBringup unit
  | .pipeline => s.retirePipe unit

/-- The SRAM arrays at BRINGUP, before their self-test (R563): the repairs of the persistent state stand, and the spares they took are gone. -/
def State.repairArrays (faults : List SramRepair) (s : State) : State :=
  let s1 := ({ s with pw := { s.pw with bistOk := true } }).forEach (List.range 68) fun a x =>
    x.bermFound 4 a (sramSpares a) (sramSpares a - (x.rv.units.sramRepairs.filter fun (r : SramRepair) => decide (r.array.val = a)).length) false
  s1.forEach faults State.repairSram

/-- MODULE_DISCOVERY_START (R342, R348, R393, R394, R512, R539, R563): the modules that stand in the slots, the DIMMs that answer, what the BIST of the
SRAM arrays found, and the checkers and the error lines that fail their self-test. -/
def execModuleDiscoveryStart (modules : List Module) (dimms : List Dimm) (faults : List SramRepair) (checkers : List (Checker × Nat))
    (errorLines : List (Fin 48)) (s : State) : Host.Outcome State Fault Refusal :=
  if s.mode ≠ .bringup then finish s
  else
    let load := (s.forEach errorLines fun j a => a.raise Ev.COLLECTOR_SELF_TEST [j.val]).bermLoad
    let tested := ((load.2.repairArrays faults).forEach checkers fun c a => a.checkerFails c.1 c.2).put F.ST_STATUS_DONE 1
    let s1 := tested.guestBringup.startServices.discoverDimms dimms
    let s2 := s1.forEach modules fun m a => a.discoverModule m
    let waiting := (s2.slotsIn 1)
    let s5 :=
      if s2.fl.formed then
        let s3 := s2.resumeRebuild.absentPositions
        let s4 := s3.forEach waiting fun i a => a.placeModule i
        (s4.takeSpares).checkGroup
      else
        let s3 := s2.forEach (waiting.filter fun i => !s2.isSet (F.SLOT_STATUS_ID_VALID i)) fun i a => a.placeModule i
        s3.formGroup
    finish (s5.bermFixed.when load.1 State.bermRebuilt)

/-- The key store chosen (R332), with the keys of every region's generations loaded. -/
def State.selectStore (s : State) : State :=
  let a := s.ks.a
  let b := s.ks.b
  if !a.ok ∧ !b.ok then s.raise Ev.KEY_STORE_LOST []
  else
    let useB := b.ok && (!a.ok || decide (a.sgen < b.sgen))
    let fallback := (useB && !a.ok && decide (b.sgen < a.sgen)) || (!useB && !b.ok && decide (a.sgen < b.sgen))
    let s1 := s.put F.KSTORE_STATUS_ACTIVE_SLOT (flag useB) |>.put F.KSTORE_STATUS_FALLBACK (flag fallback)
      |>.put F.KSTORE_SGEN_SGEN (if useB then b.sgen else a.sgen)
    let s2 := s1.when fallback (State.raise Ev.KEY_STORE_FALLBACK [])
    let s3 := s2.forEach (s2.regions.filter fun e => decide (e.2.state = 1)) fun e x =>
      x.forEach e.2.gens fun g y => y.loadSlot (e.1 / 4096) g e.2.tenant
    s3.syncKeysValid

/-- Region 0 of this side made, and tenant 0's master drawn, at the first BRINGUP (R77, R330). -/
def State.createServiceRegion (s : State) : State :=
  let idx := recIdx s.side 0
  if (s.region idx).state ≠ 0 then s
  else
    let master := s.drawSalt
    let g := master.2.drawGen
    let nonce := g.2.draw 19
    let salt := nonce.2.drawSalt
    let fresh := decide ((salt.2.keyBody.tenant 0).st = 0)
    let cs := (if fresh then [KeyChange.setMaster 0 0 0 master.1] else []) ++ [.addGen ⟨s.side, g.1, 0, 0, salt.1⟩]
    let s1 := (salt.2.postKey cs []).put (F.TENANT_W0_KEYS_VALID 0) 1
    s1.applyRegion idx { state := 1, sizeM1 := 3, keyGen := g.1, prevGen := g.1, nonce := nonce.1, stallCeil := 2 }

/-- BRINGUP_COMPLETE (R332, R371, R549): the controller enters RESTORE, or QUARANTINE when it has too little DRAM or no key store. -/
def execBringupComplete (s : State) : Host.Outcome State Fault Refusal :=
  if s.mode ≠ .bringup ∨ !s.pw.configOk ∨ !s.pw.bistOk ∨ s.isSet F.PWR_STATUS_RETURNING ∨ !s.fl.formed ∨
      (List.range 16).any (fun c => decide (s.get (F.CH_STATUS_STATE c) = 1)) then finish s
  else
    let s1 := s.placeFrames
    if s1.dramShort then finish (s1.raise Ev.DRAM_CAPACITY_SHORT [])
    else
      let s2 := s1.selectStore
      if !s2.ks.a.ok ∧ !s2.ks.b.ok then finish s2
      else
        let s3 := s2.createServiceRegion
        let s4 := s3.when (decide (0xFFFFFFFF - s3.get F.ADR_GEN_NEXT_GEN < 1048576)) (State.raise Ev.KEY_GEN_LOW [])
        finish ((s4.setMode .restore).put F.RST_STATUS_PHASE 1)

/-! Supervision and margining (R540 to R542). -/

/-- RAIL_PG_LOSS (R540, R541). -/
def execRailPgLoss (rail : Fin 12) (s : State) : Host.Outcome State Fault Refusal :=
  let i := rail.val
  let watched := (s.mode.mainRails || (decide (s.mode = .ramp) && decide (s.pw.ramp = 1))) &&
    (decide (s.railState i = 2) || decide (s.railState i = 3))
  if !watched then finish s
  else finish (((s.setRail i 4).bump (F.RAIL_STATUS_PG_LOSSES i) 1).raise (Ev.RAIL_PG_LOST i) [] |>.unitLost i)

/-- PMBUS_POLL (R542): `ok`, the transactions succeeded; `bad`, STATUS_WORD shows a fault; the readings. -/
def execPmbusPoll (rail : Fin 12) (ok bad : Bool) (mv tenMa : Nat) (temp : BitVec 16) (s : State) : Host.Outcome State Fault Refusal :=
  let i := rail.val
  if s.mode = .off ∨ s.mode = .dormant ∨ s.get (F.RAIL_PMBUS_ADDR i) = 0 then finish s
  else if ok then
    let s1 := s.put (F.RAIL_VOUT_VOUT_MV i) mv |>.put (F.RAIL_VOUT_IOUT_10MA i) tenMa |>.put (F.RAIL_TEMP_CASE i) temp.toNat
      |>.put (F.RAIL_STATUS_PMBUS_OK i) 1
    finish (({ s1 with pw := { s1.pw with pmFails := Sparse.set 0 i 0 s1.pw.pmFails } }).when bad (State.raiseLimited (Ev.RAIL_REG_FAULT i) i []))
  else
    let n := Sparse.get 0 i s.pw.pmFails + 1
    let s1 := { s with pw := { s.pw with pmFails := Sparse.set 0 i (n % 3) s.pw.pmFails } }
    if n = 3 then finish ((s1.put (F.RAIL_STATUS_PMBUS_OK i) 0).raise Ev.PMBUS_ERROR [i]) else finish s1

/-- A write of RAIL_MARGIN (R542). -/
def State.writeMargin (i k : Nat) (s : State) : State :=
  if [Mode.off, .dormant, .watch, .ramp, .save].contains s.mode ∨ s.get (F.RAIL_PMBUS_ADDR i) = 0 ∨
      marginSteps k < -5 ∨ 5 < marginSteps k then s
  else (({ s with pw := { s.pw with margins := Sparse.set 0 i (k + 1) s.pw.margins } }).put (F.RAIL_MARGIN_STEPS i) k).sendMargin i k

/-- RAIL_MARGIN_WRITE (R542). -/
def execRailMarginWrite (rail : Fin 12) (steps : BitVec 4) (s : State) : Host.Outcome State Fault Refusal :=
  finish (s.writeMargin rail.val steps.toNat)

/-- PMBUS_MARGIN_ACK (R542): the regulator acknowledges the margin, or PMBus fails. -/
def execPmbusMarginAck (rail : Fin 12) (ok : Bool) (s : State) : Host.Outcome State Fault Refusal :=
  let i := rail.val
  match Sparse.get 0 i s.pw.margins with
  | 0 => finish s
  | k + 1 =>
    let old := s.get (F.RAIL_STATUS_MARGIN_APPLIED i)
    let s1 := { s with pw := { s.pw with margins := Sparse.set 0 i 0 s.pw.margins } }
    if ok then
      let s2 := { s1 with pw := { s1.pw with moved := Sparse.set (0, 0) i (old, s1.now + msFc 10) s1.pw.moved } }
      finish ((s2.put (F.RAIL_STATUS_MARGIN_APPLIED i) k).raise Ev.MARGIN_SET [i, k])
    else finish (s1.raise Ev.MARGIN_FAILED [])

/-! Clocks (R544 to R547). -/

/-- XTAL_STABLE (R544). -/
def execXtalStable (s : State) : Host.Outcome State Fault Refusal :=
  if s.mode = .off then finish s
  else finish ((s.put F.AON_STATUS_ON_RC 0 |>.put F.CLK_STATUS_XTAL_OK 1).endCond Ev.XTAL_FAILED)

/-- XTAL_FAIL (R544). -/
def execXtalFail (s : State) : Host.Outcome State Fault Refusal :=
  if s.mode = .off then finish s
  else finish ((s.put F.AON_STATUS_ON_RC 1 |>.put F.CLK_STATUS_XTAL_OK 0).raise Ev.XTAL_FAILED [])

/-- PLL_LOCK_LOSS (R546): its units are gated and their links withhold credits. -/
def execPllLockLoss (pll : Fin 13) (s : State) : Host.Outcome State Fault Refusal :=
  let v := s.get F.CLK_STATUS_PLL_LOCK
  if !s.mode.mainRails ∨ bitsOf v pll.val 1 = 0 then finish s
  else finish (({ s with pw := { s.pw with unlocked := s.pw.unlocked ++ [pll.val] } }).put F.CLK_STATUS_PLL_LOCK (v - 2 ^ pll.val))

/-- PLL_RELOCK (R546). -/
def execPllRelock (pll : Fin 13) (s : State) : Host.Outcome State Fault Refusal :=
  if !s.pw.unlocked.contains pll.val then finish s
  else
    let v := s.get F.CLK_STATUS_PLL_LOCK
    let s1 := ({ s with pw := { s.pw with unlocked := s.pw.unlocked.filter fun p => decide (p ≠ pll.val)
                                          lost := s.pw.lost.filter fun u => decide (u ≠ 16 + pll.val) } }).put F.CLK_STATUS_PLL_LOCK (v + 2 ^ pll.val)
    finish ((s1.bump F.CLK_RELOCKS_COUNT 1).raiseLimited Ev.PLL_RELOCKED 0 [pll.val])

/-- PLL_RELOCK_TIMEOUT (R546). -/
def execPllRelockTimeout (pll : Fin 13) (s : State) : Host.Outcome State Fault Refusal :=
  if !s.pw.unlocked.contains pll.val ∨ s.pw.lost.contains (16 + pll.val) then finish s
  else finish ((s.raise Ev.PLL_FAILED [pll.val]).unitLost (16 + pll.val))

/-- FLASH_CLOCK_IDLE_STOP (R547): the clock of an ONFI channel, two for each slot. -/
def execFlashClockIdleStop (channel : Fin 40) (s : State) : Host.Outcome State Fault Refusal :=
  if s.get F.CLK_CFG_FLASH_CLK_IDLE_US = 0 ∨ !s.mode.mainRails ∨ s.mode = .save ∨ !s.isSet (F.SLOT_STATUS_POWER_ON (channel.val / 2)) ∨
      s.fl.clocksStopped.contains channel.val then finish s
  else finish { s with fl := { s.fl with clocksStopped := s.fl.clocksStopped ++ [channel.val] } }

/-- AON_ALARM_EXPIRY (R549). -/
def execAonAlarmExpiry (s : State) : Host.Outcome State Fault Refusal :=
  if s.get F.AON_ALARM_SECONDS = 0 then finish s else finish s.wakeDormant

/-! Temperature (R554 to R559). -/

/-- JUNCTION_SENSOR_READ (R555 to R557): a reading of channel 16 + c in 0.25 °C steps, and the CAUSE with which the sensor is failed by
R556 (0: it works). -/
def execJunctionSensorRead (c : Fin 16) (reading : BitVec 16) (cause : Fin 4) (s : State) : Host.Outcome State Fault Refusal :=
  let n := c.val
  if !s.sensorsRead.contains n then finish s
  else
    let was := s.isSet (F.TH_SENSOR_FAILED n)
    let s1 := s.put (F.TH_SENSOR_FAILED n) (flag (decide (cause.val ≠ 0))) |>.put (F.TH_SENSOR_CAUSE n) cause.val
    let s2 := if cause.val = 0 then s1.put (F.TH_SENSOR_READING n) reading.toNat else s1
    let s3 := if cause.val ≠ 0 ∧ !was then s2.raise (Ev.SENSOR_FAILED n) [cause.val]
      else if cause.val = 0 ∧ was then s2.endCond (Ev.SENSOR_FAILED n) else s2
    let s4 := (s3.replaceReadings.judgeThermal)
    if s4.mode = .watch ∧ s4.pw.coldWait then finish s4.rampCommand else finish s4

/-- THERMAL_TRIP (R558): a physical sensor at 120 °C. -/
def execThermalTrip (c : Fin 16) (s : State) : Host.Outcome State Fault Refusal :=
  match s.mode with
  | .off => finish s
  | .dormant | .watch => finish (s.setThermLatch.raiseThreshold Ev.THERMAL_TRIP [16 + c.val])
  | _ => finish ((s.abandonAssay.railsDrop.setThermLatch.enterWatch).raiseThreshold Ev.THERMAL_TRIP [16 + c.val])

/-- THROTTLE_GRACE_EXPIRY (R279, R559): the condition still holds, and the cap starts; `rate` is the admitted write rate of the last
100 ms in MB/s. -/
def execThrottleGraceExpiry (rate : Nat) (s : State) : Host.Outcome State Fault Refusal :=
  if !s.isSet F.TH_STATUS_REQUESTED ∨ s.isSet F.TH_STATUS_ENFORCING then finish s
  else
    let s1 := s.put F.SLU_THERM_REF_MBPS_MBPS (min (2 ^ 20 - 1) (max 1000 rate)) |>.put F.SLU_STATUS_THERM_STEP 1
      |>.put F.SLU_STATUS_THERM_ENFORCE 1 |>.put F.TH_STATUS_ENFORCING 1
    finish (s1.raise Ev.THERMAL_ENFORCE [])

end Sys2Proof.Machine
end

