-- ==== Sys2Proof/Machine/Layouts.lean ====
section
/-! DEFINITION. The byte layouts of what crosses the block's edges (R8): completion records (Table 5.8), Kerup flits (Tables 13.4 to 13.6),
Causeway and witness frames (R410, Tables 12.2 to 12.6, 12.9), save-image records (Tables 8.8 to 8.12), the key store (R330), and lines as the
DRAM and the flash store them (R303, R385). Every multi-byte value is little-endian. -/

namespace Sys2Proof.Machine

open Sys2Proof

/-- CRC-32C over bytes. -/
def crc32cBytes (bs : List Nat) : Nat := bs.foldl crcByte 0xFFFFFFFF ^^^ 0xFFFFFFFF

/-! Completion records (Table 5.8). -/

/-- The value of a completion record of 32 B; PHASE is 0 on a command queue pair (R170). -/
def CompRec.value (phase : Bool) (r : CompRec) : Nat :=
  fieldAt 0 8 r.seq + fieldAt 8 8 r.horizon + fieldAt 16 1 r.status + fieldAt 17 1 r.detail + fieldAt 18 1 r.opcode +
    fieldAt 19 1 (flag phase + 2 * flag r.notice + 4 * flag r.duplicate + 8 * flag r.lost + 16 * flag (!r.ext.isEmpty)) +
    fieldAt 20 4 r.resultA + fieldAt 24 8 r.resultB

/-- A completion record as it is written to the completion ring, or sent. -/
def CompRec.bytes (phase : Bool) (r : CompRec) : List Nat := leBytes 32 (r.value phase)

/-! Kerup messages (Tables 13.4 to 13.6). -/

/-- The flit header, slot 0 (Table 13.4): the credits returned of each class. -/
def flitHeader (idle : Bool) (req wdat cmp rdat : Nat) : List Nat :=
  leBytes 16 (fieldAt 0 1 1 + fieldAt 1 1 (flag idle) + fieldAt 2 2 req + fieldAt 4 2 wdat + fieldAt 6 2 cmp + fieldAt 8 2 rdat)

/-- OPCODE (Table 13.6). -/
def KMsg.opcode : KMsg → Nat
  | .cmpOk _ _ => 0x30
  | .cmpErr _ _ => 0x31
  | .regData _ _ => 0x32
  | .data _ line _ => if line then 0x39 else 0x38
  | .regRd _ _ => 0x10
  | .regWr _ _ _ => 0x11
  | .submit _ _ _ _ _ => 0x20
  | .abort _ => 0x21
  | .revoked _ => 0x22
  | .echo _ => 0x25

/-- OPERAND (Table 13.6). -/
def KMsg.operand : KMsg → Nat
  | .regData _ v => v % 2 ^ 32
  | .regRd _ off => off % 2 ^ 32
  | .regWr _ off v => off % 2 ^ 32 + v % 2 ^ 32 * 2 ^ 32
  | .submit _ t side q _ => t % 2 ^ 12 + side % 2 * 2 ^ 12 + q % 2 ^ 8 * 2 ^ 16
  | .revoked g => g % 2 ^ 8
  | .echo p => p % 2 ^ 64
  | _ => 0

/-- The data slots after the header: a line takes 16, a granule or a descriptor 4 (R449). -/
def KMsg.dataBytes : KMsg → List Nat
  | .data _ line v => leBytes (if line then 256 else 64) v.toNat
  | .submit _ _ _ _ d => leBytes 64 d.toNat
  | _ => []

/-- The message header (Table 13.5). -/
def KMsg.header (m : KMsg) : Nat :=
  let lo := match m with | .cmpOk _ b => flag b | _ => 0
  let tag := match m with | .cmpOk t _ | .cmpErr t _ | .regData t _ | .data t _ _ | .regRd t _ | .regWr t _ _ => t | _ => 0
  let handle := match m with | .submit h _ _ _ _ | .abort h => h | _ => 0
  let code := match m with | .cmpErr _ c => c | _ => 0
  fieldAt 0 1 m.opcode + fieldAt 1 1 lo + fieldAt 2 2 (tag % 2 ^ 12) + fieldAt 4 2 handle + fieldAt 7 1 code + fieldAt 8 8 m.operand

/-- A message as its slots of 16 B (R448, R449). -/
def KMsg.bytes (m : KMsg) : List Nat := leBytes 16 m.header ++ m.dataBytes

/-! Causeway frames (Tables 12.2 to 12.6). -/

/-- TYPE of a mirror frame (Table 12.3). -/
def cwType : CwBody → Nat
  | .lines _ | .window _ => 0x01
  | .linesBg _ => 0x02
  | .pageMark _ => 0x03
  | .horizon _ => 0x04
  | .record _ _ _ | .commit _ => 0x05
  | .keyGen _ _ _ _ _ | .keyMaster _ _ _ _ | .keyDestroyGen _ _ | .keyDestroyMaster _ _ => 0x06
  | .repairReq _ _ => 0x07
  | _ => 0x08

/-- KIND of a PAIR frame (Table 12.5); 0 for the other frames. -/
def cwPairKind : CwBody → Nat
  | .assayState _ => 1
  | .drainBegin => 2
  | .catchupBegin _ _ => 3
  | .catchupDone => 4
  | .temperSet _ => 5
  | .unpair => 6
  | .repairDone _ _ => 7
  | .keyCommitted _ => 8
  | _ => 0

/-- TYPE_FIELDS, bytes 16 to 31 of the header (Table 12.3), as their share of the header's value. `region`: the region number of a LINES frame,
with its side in bit 12. -/
def cwTypeFields (region : Nat) : CwBody → Nat
  | .lines es | .linesBg es =>
    fieldAt 16 4 (es.foldl (fun g e => if g = 0 then e.gen else g) 0) + fieldAt 20 2 region + fieldAt 22 1 es.length
  | .window _ => fieldAt 20 2 region + fieldAt 22 1 1
  | .pageMark es => fieldAt 22 1 es.length
  | .horizon es => fieldAt 22 1 es.length
  | .record kind idx _ => fieldAt 16 1 kind + fieldAt 20 4 idx
  | .commit _ => fieldAt 16 1 4
  | .keyGen _ _ _ _ _ => fieldAt 16 1 1
  | .keyMaster _ _ _ _ => fieldAt 16 1 2
  | .keyDestroyGen _ _ | .keyDestroyMaster _ _ => fieldAt 16 1 3
  | .repairReq id _ => fieldAt 16 8 id
  | b => fieldAt 16 1 (cwPairKind b)

/-- A line entry (Table 12.4), of a frame under KEY_GEN `gen`: the fields, then TAG and the ciphertext as stored. -/
def lineEntryBytes (gen tag : Nat) (cipher : LineData) (e : LineEntry) : List Nat :=
  leBytes 16 (fieldAt 0 6 (e.line % 2 ^ 41) +
    fieldAt 6 1 (flag e.poison + e.psrc % 4 * 2 + e.flags % 8 * 8 + flag (decide (e.gen = 0 ∧ gen ≠ 0)) * 64) + fieldAt 8 8 tag) ++
    leBytes 256 cipher.toNat

/-- A generation entry (Table 9.7). -/
def keyGenBytes (gen tenant side midx salt : Nat) (valid : Bool) : List Nat :=
  leBytes 48 (fieldAt 0 4 gen + fieldAt 4 2 (tenant % 2 ^ 12 + side % 2 * 2 ^ 12 + midx % 2 * 2 ^ 13 + flag valid * 2 ^ 15) +
    fieldAt 8 32 salt)

/-- The words of a RECORD frame: a region record of four 64-bit words, a tenant record of four 32-bit words, or a P_Key map entry. -/
def recordBytes (kind : Nat) (ws : List Nat) : List Nat :=
  match kind with
  | 1 => ws.flatMap (leBytes 8)
  | 2 => leBytes 4 (ws.getD 0 0) ++ leBytes 4 (ws.getD 1 0) ++ leBytes 4 (ws.getD 2 0) ++ leBytes 4 0
  | _ => leBytes 4 (ws.getD 0 0)

/-- The payload of a mirror frame in clear (Tables 12.3 and 12.5). `stored` gives a line's TAG and ciphertext, `win` the lines of the service region
that hold a window's record (log entry 138). -/
def cwPayload (stored : LineEntry → Nat × LineData) (win : WinRec → List Nat) : CwBody → List Nat
  | .lines es | .linesBg es =>
    let gen := es.foldl (fun g e => if g = 0 then e.gen else g) 0
    es.flatMap fun e => lineEntryBytes gen (stored e).1 (stored e).2 e
  | .window w => win w
  | .pageMark es => es.flatMap fun e => leBytes 8 (e.1 % 2 ^ 49 + (if e.2 then 3 else 2) * 2 ^ 56)
  | .horizon es => es.flatMap fun e => leBytes 8 e.1 ++ leBytes 8 e.2
  | .record kind _ ws => recordBytes kind ws
  | .commit seqs => seqs.flatMap (leBytes 8)
  | .keyGen side gen tenant midx salt => keyGenBytes gen tenant side midx salt true
  | .keyMaster tenant _ _ master => leBytes 2 tenant ++ leBytes 32 master
  | .keyDestroyGen side gen => keyGenBytes gen 0 side 0 0 false
  | .keyDestroyMaster tenant _ => leBytes 2 tenant ++ leBytes 32 0
  | .repairReq _ page => leBytes 8 (page % 2 ^ 49)
  | .assayState c => [flag c]
  | .catchupBegin f0 f1 => [flag f0 + 2 * flag f1]
  | .temperSet t => leBytes 2 t
  | .repairDone id st => [id % 2 ^ 8, st % 2 ^ 8]
  | .keyCommitted seq => leBytes 8 seq
  | .drainBegin | .catchupDone | .unpair => []

/-- The frame header (Table 12.2) of 32 B. -/
def frameHeader (typ side stream epoch len seq fields : Nat) : List Nat :=
  leBytes 32 (fieldAt 0 1 typ + fieldAt 2 1 (side % 2 + stream % 4 * 2) + fieldAt 3 1 epoch + fieldAt 4 4 len + fieldAt 8 8 seq + fields)

/-- A mirror frame in clear: its header and its payload. -/
def cwBytes (side epoch seq region : Nat) (stored : LineEntry → Nat × LineData) (win : WinRec → List Nat) (b : CwBody) : List Nat :=
  let p := cwPayload stored win b
  frameHeader (cwType b) side 0 epoch p.length seq (cwTypeFields region b) ++ p

/-- The CONTROL payload (Table 12.6). -/
def controlBytes (ack nak credit mode : Nat) (fenced serving ready : Bool) (mEff epoch : Nat) : List Nat :=
  leBytes 32 (fieldAt 0 8 ack + fieldAt 8 8 nak + fieldAt 16 4 credit +
    fieldAt 20 1 (mode % 16 + 16 * flag fenced + 32 * flag serving + 64 * flag ready) + fieldAt 21 1 mEff + fieldAt 22 4 epoch)

/-! Save-image records (Tables 8.8 to 8.12). -/

/-- SYNC (Table 8.8). -/
def recordSync : Nat := 0x4D1BE8A20F6CB397

/-- The 64 B header of a record (Table 8.8), with its HEADER_CRC. -/
def recordHeader (typ : Nat) (outOfRange encrypted : Bool) (imageSeq recordSeq lengthCw count payloadCrc : Nat) : List Nat :=
  let h := fieldAt 0 8 recordSync + fieldAt 8 2 1 + fieldAt 10 1 typ + fieldAt 11 1 (flag outOfRange + 2 * flag encrypted) +
    fieldAt 12 4 imageSeq + fieldAt 16 8 recordSeq + fieldAt 24 4 lengthCw + fieldAt 28 4 count + fieldAt 32 4 payloadCrc
  leBytes 64 (h + fieldAt 60 4 (crc32c 60 h))

/-- The IMAGE_HEADER payload (Table 8.9): m, side, the twin's serial, JSEQ, and D, P_save and R_save. -/
def Image.headerBytes (side twin : Nat) (im : Image) : List Nat :=
  leBytes 38 (fieldAt 0 1 im.width + fieldAt 1 1 side + fieldAt 2 16 twin + fieldAt 18 8 im.jseq + fieldAt 26 4 im.freeboard +
    fieldAt 30 4 im.psave + fieldAt 34 4 im.rsave)

/-- The line state word (Table 9.2). -/
def LineMeta.word (m : LineMeta) : Nat :=
  m.gen % 2 ^ 32 + flag m.poison * 2 ^ 32 + m.psrc % 4 * 2 ^ 33 + flag m.restored * 2 ^ 36 + flag m.repaired * 2 ^ 37 + flag m.rotated * 2 ^ 38

/-- A LINES entry (Table 8.10) of line number `line`. -/
def linesEntryBytes (line tag : Nat) (m : LineMeta) : List Nat :=
  leBytes 24 (fieldAt 0 8 (line * 256 % 2 ^ 49) + fieldAt 8 8 tag + fieldAt 16 8 m.word)

/-- A PENDING entry (R290) with POISON 0: the address word, the mask and the data. -/
def PendEntry.bytes (e : PendEntry) : List Nat :=
  leBytes 8 (e.line * 256 % 2 ^ 49) ++ leBytes 32 e.mask.toNat ++ leBytes 256 e.data.toNat

/-- A META item's header (R291). -/
def metaItemHeader (item length : Nat) : List Nat := leBytes 8 (fieldAt 0 2 item + fieldAt 2 4 length)

/-- Bytes 64 to 127 of the COMMIT record (Table 8.12). -/
def Commit.bytes (c : Commit) : List Nat :=
  leBytes 64 (fieldAt 0 8 c.records + fieldAt 8 8 c.codewords + fieldAt 16 8 c.lines + fieldAt 24 4 c.pending + fieldAt 28 4 c.durationUs +
    fieldAt 32 4 (c.energyJ % 2 ^ 20))

/-! The journal (Tables 7.10, 7.11). -/

/-- A journal entry of 16 B (Table 7.11). -/
def JEntry.bytes (e : JEntry) : List Nat := leBytes 8 (e.addr % 2 ^ 49 + e.kind % 16 * 2 ^ 56) ++ leBytes 8 e.value

/-- A journal block of 4 KiB (Table 7.10), its CRC computed with the field zero. -/
def JBlock.bytes (b : JBlock) : List Nat :=
  let head (crc : Nat) : List Nat := leBytes 64 (fieldAt 0 8 b.jseq + fieldAt 8 2 1 + fieldAt 10 2 b.entries.length + fieldAt 12 4 crc)
  let body := b.entries.flatMap JEntry.bytes ++ List.replicate (4032 - 16 * b.entries.length) 0
  head (crc32cBytes (head 0 ++ body)) ++ body

/-! Lines as they are stored (R303, R306, R310 to R312). -/

/-- TAG and ciphertext of a line value under a generation: a line of generation 0 is the zero line of a zero fill (R305). -/
def State.storedAs (line gen : Nat) (d : LineData) (s : State) : Nat × LineData :=
  if gen = 0 then (0, d)
  else
    let keys := ((s.keySlotOf (sideOf (line * 256)) gen).map fun k => s.slotKey k).getD 0
    let c := xtsLine keys line gen d
    (lineTag keys line gen c, c)

/-- TAG and ciphertext of a line as it stands. -/
def State.stored (line : Nat) (s : State) : Nat × LineData := s.storedAs line (s.lineMeta line).gen (s.lineData line)

/-- The two codewords of a line in DRAM (Table 9.1). -/
def State.dramCodewords (line : Nat) (s : State) : List Nat × List Nat :=
  let e := s.stored line
  let w := (s.lineMeta line).word
  (dramCodeword 0 e.2 e.1 w, dramCodeword 1 e.2 e.1 w)

/-- The four codewords of a page's 64 lines in flash (Table 11.4), under the JSEQ of its write. -/
def State.pageCodewords (page jseq : Nat) (s : State) : List (List Nat) :=
  (List.range 4).map fun c =>
    let ls := (List.range 16).map (page * 64 + 16 * c + ·)
    flashCodeword c 1 (page * 16384 % 2 ^ 49) jseq (ls.flatMap fun l => leBytes 256 (s.stored l).2.toNat)
      (ls.flatMap fun l => leBytes 8 (s.stored l).1 ++ leBytes 8 (s.lineMeta l).word)

/-! Sealed frames, payloads and bodies. -/

/-- A mirror frame as it goes out (R410): the header, the payload encrypted under the link key with the header as AAD, the tag and FCHK. -/
def State.sealedFrame (seq region : Nat) (win : WinRec → List Nat) (b : CwBody) (s : State) : List Nat :=
  let clear := cwBytes s.side s.cw.keyEpoch seq region (fun e => s.storedAs e.line e.gen e.data) win b
  let iv := [clear.getD 2 0, 0, 0, 0] ++ leBytes 8 seq
  let f := clear.take 32 ++ gcmSeal s.cw.key iv (clear.take 32) (clear.drop 32)
  f ++ leBytes 4 (crc32cBytes f)

/-- An ENCRYPTED payload of an image (R287): RECORD_SEQ in the 12 B of the nonce (log entry 156). -/
def sealedPayload (imageSeq recordSeq : Nat) (p : List Nat) : List Nat := gcmSeal (imageKey imageSeq) (leBytes 12 recordSeq) [] p

/-- An entry of the tenant area (Table 9.7). -/
def TenantKeys.bytes (k : TenantKeys) : List Nat :=
  [k.st % 256, k.current % 256] ++ List.replicate 6 0 ++ leBytes 8 k.floor ++ leBytes 32 k.master0 ++ leBytes 32 k.master1 ++ List.replicate 16 0

/-- The body of a key-store slot, 288 sectors (Table 9.7): its generations in the order in which they came (log entry 156). -/
def KeyBody.bytes (b : KeyBody) : List Nat :=
  (List.range 4096).flatMap (fun t => (b.tenant t).bytes) ++
    (b.gens.flatMap fun g => keyGenBytes g.gen g.tenant g.side g.midx g.salt true) ++ List.replicate (48 * (16384 - b.gens.length)) 0

/-- A key-store slot as it is programmed (R330, Tables 9.7 and 9.8): the sealed body, the reserved sectors, and the commit record. -/
def KeySlot.bytes (k : KeySlot) : List Nat :=
  let iv := leBytes 4 k.sgen ++ leBytes 8 k.nonce
  let c := gcmCrypt kek iv k.body.bytes
  let head := leBytes 16 (fieldAt 0 2 1 + fieldAt 4 4 k.sgen + fieldAt 8 4 288) ++ gcmTag kek iv [] c
  c ++ List.replicate (31 * 4096) 0 ++ head ++ gcmTag kek (leBytes 4 0xFFFFFFFF ++ leBytes 8 k.nonce) head [] ++ leBytes 8 k.nonce ++
    List.replicate (4096 - 56) 0xFF

/-- The HELLO payload (Table 12.7), in clear, but for DEVICE_PUB, PEER_NONCE and SIGNATURE, which `pub`, `peer` and `sig` give. -/
def Hello.bytes (pub peer sig : Nat) (h : Hello) : List Nat :=
  [1, h.side % 256] ++ leBytes 16 h.serial ++ leBytes 8 h.pairId ++ leBytes 4 h.epoch ++ leBytes 2 h.temper ++ leBytes 2 h.temperMax ++
    [flag h.ownAuth + 2 * flag h.mirrorValid + 4 * flag h.mapValid + 8 * flag h.unsealed + 16 * flag h.serving] ++ leBytes 8 h.groupId ++
    leBytes 97 pub ++ leBytes 97 h.eph ++ leBytes 32 h.nonce ++ leBytes 32 peer ++ leBytes 96 sig ++ List.replicate 115 0

/-! What goes out, as bytes. -/

/-- The bytes of an output this file lays out: a completion record in its slot, a Kerup message, the header of a flit that returns
credits, a CONTROL payload, a witness frame; none for the others, whose layouts stand with them or are a published standard's. -/
def Output.wire : Output → Option (List Nat)
  | .cqRecord _ _ phase r => some (r.bytes phase)
  | .kerup _ m => some m.bytes
  | .kerupCredit _ cls n =>
    some (flitHeader true (if cls = 0 then n else 0) (if cls = 1 then n else 0) (if cls = 2 then n else 0) (if cls = 3 then n else 0))
  | .cwControl _ ack nak credit mode fenced serving ready mEff epoch =>
    some (controlBytes ack nak credit mode fenced serving ready mEff epoch)
  | .witFrame typ flags side mode epoch session counter health mEff sinceTwin reason mac =>
    some (witnessBytes typ flags side mode epoch session counter health mEff sinceTwin reason ++ leBytes 8 mac)
  | _ => none

end Sys2Proof.Machine
end

