-- ==== Sys2Proof/Machine/Reeve.lean ====
section
/-! DEFINITION. The commands of the Reeve's cores, its boot and its embedded flash (R478 to R493), and JTAG. -/

namespace Sys2Proof.Machine

open Sys2Proof

/-! Cores, watchdog and SRAM (R478 to R480). -/

/-- REEVE_LOCKSTEP_FAIL (R478). -/
def execReeveLockstepFail (failed : List (Fin 3)) (s : State) : Host.Outcome State Fault Refusal :=
  if s.reeveUp ∧ s.mode ≠ .dormant ∧ !s.isSet F.RV_CORES_DEGRADED then
    finish ((s.raise Ev.REEVE_LOCKSTEP []).reeveReset.coreBist (failed.map fun c => c.val))
  else finish s

/-- REEVE_WATCHDOG_EXPIRY (R480). -/
def execReeveWatchdogExpiry (s : State) : Host.Outcome State Fault Refusal :=
  if s.pw.firmware then finish (s.raise Ev.REEVE_WATCHDOG []).reeveReset else finish s

/-- A write of RV_WDT_KICK (R480): any value restarts the watchdog. -/
def State.watchdogKick (s : State) : State := { s with rv := { s.rv with kickAt := s.now } }

/-- RV_WDT_KICK (R480). -/
def execRvWdtKick (_value : BitVec 32) (corrected : Nat) (s : State) : Host.Outcome State Fault Refusal :=
  finish (s.watchdogKick.bump F.RV_SRAM_CORR_COUNT corrected)

/-- REEVE_SRAM_UNCORRECTABLE (R480). -/
def execReeveSramUncorrectable (addr : Nat) (s : State) : Host.Outcome State Fault Refusal :=
  if s.reeveUp then finish ((s.emit (.busError addr)).raise Ev.REEVE_SRAM_UNCORRECTABLE []).reeveReset else finish s

/-! The boot (R492). -/

/-- REEVE_BOOT (R489, R492): an erase that a power failure cut short is completed first. -/
def execReeveBoot (checks : List SlotCheck) (s : State) : Host.Outcome State Fault Refusal :=
  if s.mode = .off ∨ s.mode = .dormant ∨ s.reeveUp ∨ s.rv.erasing ∨ ([0, 1, 2].all fun c => decide (s.core c = 3)) then finish s
  else finish (s.reeveBoot checks)

/-- A write of CONFIRM (R492): the anti-rollback fuses rise to the image's security version. -/
def State.confirmTrial (s : State) : State :=
  if !s.pw.firmware ∨ !s.rv.trial ∨ !s.rv.trialStarted then s
  else
    let k := s.rv.trialSlot
    let n := max (s.get F.ID_FW_STATUS_SECURITY_COUNT) (hdrSecurity (s.slotHeader k))
    let s1 := { s with rv := { s.rv with active := k, trial := false, trialStarted := false } }
    (s1.put F.ID_FW_STATUS_SECURITY_COUNT n |>.put F.ID_FW_STATUS_ACTIVE_SLOT k |>.put F.ID_FW_STATUS_TRIAL 0).raise
      Ev.FW_UPDATE_DONE []

/-- FW_TRIAL_CONFIRM (R492). -/
def execFwTrialConfirm (s : State) : Host.Outcome State Fault Refusal := finish s.confirmTrial

/-- FW_TRIAL_TIMEOUT (R492). -/
def execFwTrialTimeout (s : State) : Host.Outcome State Fault Refusal :=
  if s.pw.firmware ∧ s.rv.trial ∧ s.rv.trialStarted then finish s.reeveReset else finish s

/-! The command sequence of a bank (R483, R484). -/

/-- A bank of the embedded flash. -/
def State.flashBank (b : Nat) (s : State) : FlashBank := Sparse.get {} b s.rv.banks
/-- A bank, set. -/
def State.setBank (b : Nat) (k : FlashBank) (s : State) : State := { s with rv := { s.rv with banks := Sparse.set {} b k s.rv.banks } }

/-- The bank is programming or erasing, for a command or for a lowering. -/
def State.bankBusy (b : Nat) (s : State) : Bool := (s.flashBank b).busy.isSome || s.rv.erasing

/-- A bit of a bank's status word set (Table 14.4). -/
def State.flashErr (b bit : Nat) (s : State) : State :=
  let v := s.get (F.EFL_BANK_STATUS_STATUS b)
  let s1 := s.put (F.EFL_BANK_STATUS_STATUS b) (v ||| 2 ^ bit ||| b * 2 ^ 22)
  if bit = 25 ∨ bit = 24 then s1.raiseLimited Ev.EFL_SEQUENCE 0 [] else s1

/-- A sequence broken: read mode, and ERR_SEQUENCE. -/
def State.breakSequence (b : Nat) (s : State) : State := (s.setBank b { s.flashBank b with step := 0, operands := [] }).flashErr b 25

/-- CLEAR_STATUS: the error bits cleared. -/
def State.clearErrors (b : Nat) (s : State) : State :=
  let v := s.get (F.EFL_BANK_STATUS_STATUS b)
  s.put (F.EFL_BANK_STATUS_STATUS b) (v % 2 ^ 24 + v / 2 ^ 28 * 2 ^ 28)

/-- A byte write at an offset of a bank: the next step of the sequence, or a break of it. RESET abandons a sequence at any step, and a busy
bank takes no command (R483). -/
def State.flashByte (b off value : Nat) (s : State) : State :=
  let k := s.flashBank b
  if s.bankBusy b then s.flashErr b 25
  else if k.step = 0 ∧ off = 0xA54 ∧ value = 0x4B then s.setBank b { k with step := 1 }
  else if k.step = 1 ∧ off = 0x5AB ∧ value = 0xB4 then s.setBank b { k with step := 2 }
  else if off = 0xA54 ∧ value = 0xF0 ∧ k.step ≠ 0 then s.setBank b { k with step := 0, operands := [] }
  else if k.step = 2 ∧ off = 0xA54 then
    if value = 0xA0 ∨ value = 0xA5 ∨ value = 0x20 ∨ value = 0x28 then s.setBank b { k with step := 3, cmd := value, operands := [] }
    else if value = 0x50 then (s.setBank b { k with step := 0 }).clearErrors b
    else s.breakSequence b
  else s.breakSequence b

/-- The MiB of a word is protected, or the word lies in the manufacturing record (R485). -/
def State.wordProtected (w : Nat) (s : State) : Bool :=
  (s.get F.EFL_PROTECT_PROTECT).testBit (w / 65536) || (decide (0x300000 ≤ w) && decide (w < 0x301000))

/-- A program or an erase of `n` words begins (R484, R485). -/
def State.startFlashOp (b op first n : Nat) (vals : Option (List Nat)) (s : State) : State :=
  let s1 := s.setBank b { s.flashBank b with step := 0, operands := [] }
  if s.wordProtected first then s1.flashErr b 27
  else
    let twice := vals.isSome && (List.range n).any fun i => (Sparse.get none (first + i) s.rv.words).isSome
    let fresh := (List.range n).any fun i => (Sparse.get none (first + i) s.rv.words).isNone
    let s2 := s1.when twice (State.flashErr b 24)
    if vals.isSome ∧ !fresh then s2
    else
      let v := s2.get (F.EFL_BANK_STATUS_STATUS b)
      (s2.setBank b { step := 0, cmd := 0, operands := [], busy := some (first, n, vals) }).put (F.EFL_BANK_STATUS_STATUS b)
        (2 ^ 31 + op * 2 ^ 28 + v / 2 ^ 24 % 16 * 2 ^ 24 + b * 2 ^ 22 + first % 2 ^ 20)

/-- The words that 32-bit operand writes spell, oldest first. -/
def operandWords (n : Nat) (vs : List Nat) : List Nat :=
  (List.range n).map fun i => vs.getD (4 * i) 0 + vs.getD (4 * i + 1) 0 * 2 ^ 32 + vs.getD (4 * i + 2) 0 * 2 ^ 64 + vs.getD (4 * i + 3) 0 * 2 ^ 96

/-- An operand write of a command (Table 14.3): out of place it breaks the sequence; the last one starts the operation. -/
def State.flashOperand (cmd addr value : Nat) (s : State) : State :=
  let a := addr % 2 ^ 26
  let b := a / 2 ^ 24
  let k := s.flashBank b
  if s.bankBusy b then s.flashErr b 25
  else if k.step ≠ 3 ∨ k.cmd ≠ cmd ∨ a % 4 ≠ 0 then s.breakSequence b
  else if cmd = 0x20 ∨ cmd = 0x28 then
    if value ≠ cmd then s.breakSequence b
    else
      let words := if cmd = 0x20 then 256 else 4096
      s.startFlashOp b 3 (a / 16 / words * words) words none
  else
    let writes := if cmd = 0xA0 then 4 else 128
    let ok := match k.operands.getLast? with
      | none => decide (a % (4 * writes) = 0)
      | some e => decide (a = e.1 + 4)
    if !ok then s.breakSequence b
    else
      let ops := k.operands ++ [(a, value)]
      if ops.length < writes then s.setBank b { k with operands := ops }
      else
        let first := (ops.headD (0, 0)).1 / 16
        s.startFlashOp b (if cmd = 0xA0 then 1 else 2) first (writes / 4) (some (operandWords (writes / 4) (ops.map fun e => e.2)))

/-- FLASH_UNLOCK_WRITE (R483). -/
def execFlashUnlockWrite (bank : Fin 4) (off : Nat) (value : Byte) (s : State) : Host.Outcome State Fault Refusal :=
  finish (s.flashByte bank.val off value.toNat)

/-- PROGRAM_WORD (R483). -/
def execProgramWord (addr : Nat) (value : BitVec 32) (s : State) : Host.Outcome State Fault Refusal :=
  finish (s.flashOperand 0xA0 addr value.toNat)

/-- PROGRAM_ROW (R483). -/
def execProgramRow (addr : Nat) (value : BitVec 32) (s : State) : Host.Outcome State Fault Refusal :=
  finish (s.flashOperand 0xA5 addr value.toNat)

/-- ERASE_SECTOR (R483). -/
def execEraseSector (addr : Nat) (value : BitVec 32) (s : State) : Host.Outcome State Fault Refusal :=
  finish (s.flashOperand 0x20 addr value.toNat)

/-- ERASE_BLOCK (R483). -/
def execEraseBlock (addr : Nat) (value : BitVec 32) (s : State) : Host.Outcome State Fault Refusal :=
  finish (s.flashOperand 0x28 addr value.toNat)

/-- FLASH_CLEAR_STATUS (R483): the command byte of CLEAR_STATUS. -/
def execFlashClearStatus (bank : Fin 4) (s : State) : Host.Outcome State Fault Refusal := finish (s.flashByte bank.val 0xA54 0x50)

/-- FLASH_RESET (R483): the command byte of RESET; it has no effect on a busy bank. -/
def execFlashReset (bank : Fin 4) (s : State) : Host.Outcome State Fault Refusal :=
  if s.bankBusy bank.val then finish s else finish (s.flashByte bank.val 0xA54 0xF0)

/-- The words of an operation take what they are programmed with, and `n` words nobody names take free values where it failed. -/
def State.freeWords (ws : List Nat) (s : State) : State :=
  s.forEach ws fun w a =>
    let x := a.draw 64
    let y := x.2.draw 64
    y.2.programWords w [x.1 * 2 ^ 64 + y.1]

/-- The slots that words touch are no longer known to verify. -/
def State.touchSlots (lo n : Nat) (s : State) : State :=
  { s with rv := { s.rv with checks := s.rv.checks.filter fun (e : Nat × SlotCheck) =>
      !(decide (lo < slotWord e.1 + slotLen e.1) && decide (slotWord e.1 < lo + n)) } }

/-- Words lie in the test sector of flip-mask set 2 (Table 14.2). -/
def inTestSector (w : Nat) : Bool := decide (0xFFF00 ≤ w) && decide (w < 0x100000)

/-- FLASH_OP_DONE (R484, R486): an operation that fails its verify leaves free values behind; a word programmed before keeps its value. -/
def execFlashOpDone (bank : Fin 4) (ok : Bool) (s : State) : Host.Outcome State Fault Refusal :=
  let b := bank.val
  match (s.flashBank b).busy with
  | none => finish s
  | some (first, n, vals) =>
    let s1 := (s.setBank b { s.flashBank b with busy := none }).touchSlots first n
    let s2 := match vals with
      | none => if ok then s1.eraseWords first (first + n) else s1.freeWords ((List.range n).map (first + ·))
      | some vs =>
        let fresh := ((List.range n).zip vs).filter fun (e : Nat × Nat) => (Sparse.get none (first + e.1) s1.rv.words).isNone
        if ok then s1.forEach fresh fun (e : Nat × Nat) a => a.programWords (first + e.1) [e.2]
        else s1.freeWords (fresh.map fun (e : Nat × Nat) => first + e.1)
    let v := s2.get (F.EFL_BANK_STATUS_STATUS b)
    let s3 := s2.put (F.EFL_BANK_STATUS_STATUS b) (v % 2 ^ 28 ||| (if ok then 0 else 2 ^ 26))
    let s4 := s3.when (!ok) fun a => a.raise Ev.EFL_OP_FAILED [a.get (F.EFL_BANK_STATUS_STATUS b)]
    if vals.isSome ∧ inTestSector first ∧ s4.isSet (F.FM_CTRL_ARM 2) then
      finish (({ s4 with rv := { s4.rv with flipWord := some first } }).flipWrite 2)
    else finish s4

/-- A word of the flash as a read shows it (Table 14.2): the records of the event log and the key-store slots, which the model keeps by their
content, as they are laid out (R524, R526, R330); the other words as they stand. -/
def State.shownWord (w : Nat) (s : State) : Nat :=
  let half (bs : List Nat) (i : Nat) : Nat := ofLe ((bs.drop (16 * i)).take 16)
  let k := if w < 0x100000 then s.ks.a else s.ks.b
  if 0x200000 ≤ w ∧ w < 0x280000 then
    match s.fc.records.find? fun (r : EvRec) => decide (r.slot = (w - 0x200000) / 2) with
    | some r => half (recBytes r) (w % 2)
    | none => s.flashWord w
  else if 0x70000 ≤ w % 0x100000 ∧ w % 0x100000 < 0x84000 ∧ w < 0x200000 ∧ k.ok ∧ k.sgen ≠ 0 then half k.bytes (w % 0x100000 - 0x70000)
  else s.flashWord w

/-- A read of the flash window by the Reeve or by JTAG (R484, R486): the status word of a busy bank; a read between the steps of a sequence
breaks it. -/
def State.flashRead (addr : Nat) (ecc : EccVerdict) (s : State) : State :=
  let a := addr % 2 ^ 26 / 4 * 4
  let b := a / 2 ^ 24
  if s.bankBusy b then s.emit (.flashWord a (s.get (F.EFL_BANK_STATUS_STATUS b)))
  else
    let s1 := if (s.flashBank b).step = 0 then s else s.breakSequence b
    let w := a / 16
    let s2 := if s1.rv.flipWord = some w then
        ({ s1 with rv := { s1.rv with flipWord := none } }).flipRead 2 (decide (ecc ≠ EccVerdict.ok))
      else s1
    let v := s2.shownWord w / 2 ^ (8 * (a % 16)) % 2 ^ 32
    match ecc with
    | .ok => s2.emit (.flashWord a v)
    | .corrected => (s2.bump F.EFL_ECC_CORR_COUNT 1).emit (.flashWord a v)
    | .uncorrectable =>
      (((s2.bump F.EFL_ECC_UNCORR_COUNT 1).put F.EFL_LAST_ERR_ADDR (w * 16)).emit (.busError a)).raise Ev.EFL_UNCORRECTABLE [w * 16]

/-- FLASH_WINDOW_READ (R484). -/
def execFlashWindowRead (addr : Nat) (ecc : EccVerdict) (s : State) : Host.Outcome State Fault Refusal := finish (s.flashRead addr ecc)

/-! Readout levels (R488, R489). -/

/-- One RAISE fuse blown (R488). -/
def State.blowRaise (s : State) : State := (s.put F.RDL_STATUS_RAISES (s.get F.RDL_STATUS_RAISES + 1)).syncReadout

/-- ARM_EXPIRY (R488, R502). -/
def execArmExpiry (s : State) : Host.Outcome State Fault Refusal := finish (s.setArm none)

/-- READOUT_ERASE_DONE (R489 steps 4 and 5). -/
def execReadoutEraseDone (s : State) : Host.Outcome State Fault Refusal :=
  if !s.rv.erasing then finish s
  else
    let s1 := ({ s with rv := { s.rv with erasing := false, banks := [] } }).eraseEmbedded
    let s2 := s1.forEach (List.range 4) fun b a => a.put (F.EFL_BANK_STATUS_STATUS b) (b * 2 ^ 22)
    finish (s2.raise Ev.READOUT_ERASE_DONE []).reeveReset

/-- JTAG_ACCESS (Table 14.6): full access at level 0 only. -/
def execJtagAccess (act : JtagAct) (s : State) : Host.Outcome State Fault Refusal :=
  if s.get F.RDL_STATUS_LEVEL ≠ 0 ∨ s.mode = .off then finish s
  else match act with
    | .read addr ecc => finish (s.flashRead addr ecc)
    | .testMode on => finish { s with rv := { s.rv with testMode := on } }
    | .raise_ => if s.get F.RDL_STATUS_RAISES < 8 then finish s.blowRaise else finish s

end Sys2Proof.Machine
end

