-- ==== Sys2Proof/Machine/RegView.lean ====
section
/-! DEFINITION. What a read of a register shows: the stored fields, and those the block computes from its state (dirty counts, ring
status, the collector's maps, the windows of records). -/

namespace Sys2Proof.Machine

open Sys2Proof

/-- A word of one bit per index below `n` for which `p` holds. -/
def bitMap (n : Nat) (p : Nat → Bool) : Nat := (List.range n).foldl (fun v i => v + flag (p i) * 2 ^ i) 0

/-- PAIR_STATE of CW_STATUS (Table 12.17). -/
def State.pairState (s : State) : Nat :=
  if !s.cw.paired then (if s.cw.hello then 1 else 0)
  else if s.mode = .drain then 7
  else if s.isSet F.PWR_STATUS_RETURNING then 6
  else if s.mode = .paired then 2
  else if s.cw.receiving then 4
  else if s.catchingUp then 3
  else if s.cw.hello then 1 else 5

/-- ALERT_N is asserted (R519). -/
def State.alertLevel (s : State) : Bool :=
  if s.collectorRuns then s.activeSources.any fun n => s.alertOn n else !s.fc.aon.isEmpty

/-- Logical home agent `l` is awake: its slice is AWAKE, or FLUSHING, which serves as well (Table 6.8). -/
def State.sliceAwake (l : Nat) (s : State) : Bool := [2, 4].contains (s.get (F.HA_SLICE_STATE (s.get (F.HA_MAP_PHYS l))))

/-- Logical pipeline `l` is awake. -/
def State.pipeAwake (l : Nat) (s : State) : Bool :=
  let p := s.get (F.CP_MAP_PHYS l)
  decide (s.get (F.CP_PIPE_STATE p) = 2) && !s.cry.asleep.contains p

/-- The identity, Polder status and address control fields that follow from the state (Tables 1.12 to 1.17, 2.12 and 14.12a). -/
def State.viewAddress (f : Fld) (s : State) : Option Nat :=
  if f = F.ID_MODE_MODE ∨ f = F.PWR_STATUS_MODE ∨ f = F.GST_STATUS_MODE then some s.mode.num
  else if f = F.PLD_DIRTY_LINES_LINES then some s.dirtyLines
  else if f = F.PLD_DIRTY_MIRROR_LINES_LINES then some s.dirtyMirrorLines
  else if f = F.PLD_DIRTY_FRONT_LINES_LINES then some s.dirtyFrontLines
  else if f = F.PLD_MIRROR_PENDING_PENDING_LINES then some s.pendingLines
  else if f = F.PLD_DUR_STATE_SAVE_PATH_OK then some (flag s.savePathOk)
  else if f = F.PLD_DUR_STATE_FENCED ∨ f = F.GST_STATUS_FENCED then some (flag s.fenced)
  else if f = F.GST_STATUS_DUR_LEVEL then some (s.get F.PLD_DUR_STATE_DUR_LEVEL)
  else if f = F.ADR_STATUS_REGIONS_OWN then some (s.regions.filter fun e => decide (e.1 / 4096 = s.side) && decide (e.2.state ≠ 0)).length
  else if f = F.ADR_STATUS_REGIONS_PARTNER then
    some (s.regions.filter fun e => decide (e.1 / 4096 ≠ s.side) && decide (e.2.state ≠ 0)).length
  else if f = F.ADR_COMMITTED_GIB_GIB then some (gibWhere (fun _ _ => true) s.regions)
  else if f = F.ADR_PINNED_GIB_GIB then some (gibWhere (fun _ r => decide (r.policy = 0)) s.regions)
  else none

/-- The tenant table's fields that follow from the state (Table 2.6, R84). -/
def State.viewTenant (f : Fld) (s : State) : Option Nat :=
  let t := (f.off - 0x60000) / 0x10
  if f = F.TENANT_W0_STATE t then some (s.tenantState t)
  else if f = F.TENANT_W1_REGION_COUNT t then some (countWhere (fun _ r => decide (r.tenant = t)) s.regions)
  else if f = F.TENANT_W3_COMMITTED_GIB t then some (gibWhere (fun _ r => decide (r.tenant = t)) s.regions)
  else none

/-- The ring fields that follow from the queues (Table 5.11). -/
def State.viewRing (f : Fld) (s : State) : Option Nat :=
  let n := (f.off - 0x100000) / 0x4000
  let r := (f.off - 0x101000) % 0x4000 / 0x40
  let k := s.queue (64 * n + r)
  if f = F.RING_FN_ENABLED_ENABLED n then some (bitMap 64 fun i => decide ((s.queue (64 * n + i)).state ≠ 0))
  else if f = F.RING_FN_STOPPED_STOPPED n then some (bitMap 64 fun i => decide ((s.queue (64 * n + i)).state = 3))
  else if f = F.RING_STATUS_OUTSTANDING n r then some k.outstanding
  else if f = F.RING_STATUS_STOP_CAUSE n r then some k.stopCause
  else if f = F.RING_STATUS_WAIT_HELD n r then some (flag k.waitHeld)
  else if f = F.RING_STATUS_STATE n r then some k.state
  else if f = F.RING_COMPLETIONS_COUNT n r then some k.completions
  else if f = F.RING_HORIZON_HORIZON n r then some k.horizon
  else if f = F.RING_FETCHED_SEQ n r then some k.fetched
  else none

/-- The events of a list of times in the last 60 s, as a field of `w` bits shows them (R126, R136, R411). -/
def State.inMinute (w : Nat) (ts : List Nat) (s : State) : Nat :=
  min (2 ^ w - 1) (ts.filter fun t => decide (s.now < t + secFc 60)).length

/-- PHASE of SPW_STATUS (Table 8.7): QUIESCE for the first 5 ms of a save, LINES while the dirty bytes take R_save, META for 192 ms, then SEAL
until the seal (log entry 151). -/
def State.savePhase (s : State) : Nat :=
  let st := s.get F.SPW_STATUS_PHASE
  if s.mode ≠ .save ∨ st ≠ 1 then st
  else
    let us := (s.now - s.ssb.saveAt) / 2000
    let r := s.get F.FB_RSAVE_MBPS
    let linesEnd := 5000 + s.dirtyBytes / r
    if us < 5000 then 1 else if r = 0 ∨ us < linesEnd then 2 else if us < linesEnd + 192000 then 3 else 4

/-- The data-path fields that follow from the state (Tables 3.13, 6.10, 7.12 and 9.13). -/
def State.viewPath (f : Fld) (s : State) : Option Nat :=
  let ld := (f.off - 0x202008) / 0x20
  let sl := (f.off - 0x400200) / 4
  let xp := (f.off - 0x200104) / 0x20
  let el := (f.off - 0x301004) / 0x80
  let sj := (f.off - 0x501008) / 0x10
  if f = F.SPW_STATUS_PHASE then some s.savePhase
  else if f = F.CUL_STREAM_WINDOW_RESIDENT_AHEAD sj then some (if (s.stream sj).st = 0 then 0 else s.residentAhead (s.stream sj))
  else if f = F.CXL_PORT_STATUS_LINK_DOWNS_60S xp then some (s.inMinute f.w (s.port xp).downs)
  else if f = F.RDMA_LINK_STATUS_LINK_DOWNS_60S el then some (s.inMinute f.w (Sparse.get [] el s.eth.downs))
  else if f = F.CXL_GLOBAL_STATUS_LINK_UP then some (bitMap 16 fun l => s.linkUp l)
  else if f = F.CXL_LD_STATUS_MEDIA_STATUS ld then some s.mediaStatus
  else if f = F.FP_REMAP_STATUS_FRONT_DIRTY then
    some (if s.get F.FP_REMAP_STATUS_STATE = 2 then
      (s.front.filter fun e => e.2.frontDirty && decide (s.get (F.HA_MAP_PHYS (homeOf e.1)) = s.fp.remapSource)).length else 0)
  else if f = F.FP_HA_AWAKE_AWAKE then some (bitMap 64 fun l => s.sliceAwake l)
  else if f = F.HA_SLICE_QUEUE_USED sl then
    some (match (List.range 64).find? fun l => decide (s.get (F.HA_MAP_PHYS l) = sl) with
      | some l => s.queueUsed l
      | none => 0)
  else if f = F.CUL_FRAMES_PINNED_COUNT then some s.pinnedFrames
  else if f = F.CUL_FRAMES_WINDOW_COUNT then some s.windowFrames
  else if f = F.LC_STATUS_ROTATING then some (s.regions.filter fun e => e.2.rotating).length
  else if f = F.CP_AWAKE_AWAKE then some (bitMap 64 fun l => s.pipeAwake l)
  else if f = F.KSTORE_COUNTS_GENERATIONS then some s.keyBody.gens.length
  else if f = F.KSTORE_COUNTS_MASTERS then some (s.keyBody.tenants.foldl (fun n e => n + e.2.st) 0)
  else none

/-- The pair and guest fields that follow from the state (Tables 12.17 and 13.13). -/
def State.viewPair (f : Fld) (s : State) : Option Nat :=
  let cp := (f.off - 0xE00104) / 0x40
  if f = F.CW_PATH_STATUS_DOWNS_60S cp then some (s.inMinute f.w (s.cwPath cp).downs)
  else if f = F.CW_STATUS_PAIR_STATE then some s.pairState
  else if f = F.CW_STATUS_SERVING_PARTNER then some (flag s.servingPartner)
  else if f = F.CW_RX_CREDIT_FREE_LINES then some (262144 - s.cw.inbound)
  else if f = F.CW_MAP_BITS_EXTENTS then some s.cw.mapSet.length
  else if f = F.CW_WIT_STATUS_LAST_HEARD_MS then some (min 255 ((s.now - s.wit.heardAt) / msFc 1))
  else if f = F.GST_TMO_MIN_MS then some (s.get F.KG_TMO_MIN_MS)
  else if f = F.GST_GQ_TMO_MS then some (s.get F.KG_CTRL_GQ_TMO_MS)
  else none

/-- The collector's and the recorder's fields that follow from the state (Table 15.9). -/
def State.viewCollector (f : Fld) (s : State) : Option Nat :=
  let n := (f.off - 0x1010000) / 4
  let a := (f.off - 0x1000100) / 4
  let u := (f.off - 0x1000200) / 4
  let j := (f.off - 0x1000300) / 4
  if f = F.FC_STATUS_FAULT_LEVEL then some (flag s.fc.latch)
  else if f = F.FC_STATUS_ALERT_LEVEL then some (flag s.alertLevel)
  else if f = F.FC_STATUS_LATCH_HELD then some (flag (s.fc.latch && !s.pinUncleared))
  else if f = F.FC_STATUS_UNCLEARED then some s.unclearedSources.length
  else if f = F.FC_STATUS_ACTIVE then some s.activeSources.length
  else if f = F.FC_QUEUE_DEPTH then some s.fc.queue.length
  else if f = F.EV_HEAD_SEQ_SEQ then some ((s.fc.records.getLast?.map fun r => r.seq).getD 0)
  else if f = F.EV_TAIL_SEQ_SEQ then some ((s.fc.records.head?.map fun r => r.seq).getD 0)
  else if f = F.EV_STATUS_FULL then some (flag (decide (s.fc.slotsUsed = 262144)))
  else if f = F.EV_STATUS_RECORDS then some s.fc.records.length
  else if f = F.FC_ACTIVE_MAP_ACTIVE a then some (bitMap 32 fun b => decide (s.srcState (32 * a + b) = 1))
  else if f = F.FC_UNCLEARED_MAP_UNCLEARED u then some (bitMap 32 fun b => s.uncleared (32 * u + b))
  else if f = F.FC_LINE_STATUS_WIRE_FAULT j then some (flag (decide (Sparse.get 0 (16 + j) s.fc.cond ≠ 0)))
  else if f = F.FC_LINE_STATUS_ASSERTED j then
    some (flag (decide (Sparse.get 0 (16 + j) s.fc.cond ≠ 0) || s.fc.linePend.any fun e => decide (e.1 = j)))
  else if f = F.FC_SRC_CFG_QUAR n then some (flag (quarSource n))
  else if f = F.FC_SRC_CFG_SAVE_PATH n then some (flag (savePathSources.contains n))
  else if f = F.FC_SRC_CFG_KIND n then some (flag (isLevel n))
  else if f = F.FC_SRC_CFG_CLASS n then some (s.srcClass n)
  else if f = F.FC_SRC_CFG_SEVERITY n then some (s.srcSeverity n)
  else if f = F.FC_SRC_CFG_MIN_REACTION n then some (s.minReaction n)
  else none

/-- The Berm's fields that follow from the state (Tables 17.2 and 17.4). -/
def State.viewBerm (f : Fld) (s : State) : Option Nat :=
  let n := (f.off - 0x1201000) / 0x20
  let j := (f.off - 0x1201000) % 0x20 / 4
  if f = F.BERM_TEMPER_TEMPER then some (s.get F.ID_TEMPER_TEMPER)
  else if f = F.BERM_TEMPER_ADOPTED then some (flag s.cw.paired)
  else if f = F.BERM_TEMPER_HIDING then some (flag (decide (s.get F.ID_TEMPER_TEMPER < s.get F.ID_TEMPER_TEMPER_MAX)))
  else if f = F.BERM_RECORD_RECORD n j then some ((bermWords n (s.bermRec n)).getD j 0)
  else none

/-- A field marked config in a block that is held in reset, which the image or the embedded flash has not loaded (R14). -/
def State.unloaded (f : Fld) (s : State) : Bool :=
  !s.mode.mainRails && !mgmtBlock f.off && (match rowAt f.off f.lo with
    | some r => decide (r.src = .config)
    | none => false)

/-- The value of a field as a read shows it, before its access type: a field marked config holds 0 until it is loaded (R14). -/
def State.view (f : Fld) (s : State) : Nat :=
  if s.unloaded f then 0 else
  let o := f.off
  let special :=
    if o < 0x60000 ∨ (0x70000 ≤ o ∧ o < 0x100000) then s.viewAddress f
    else if o < 0x70000 then s.viewTenant f
    else if o < 0x200000 then s.viewRing f
    else if o < 0xE00000 then s.viewPath f
    else if o < 0xF80000 then s.viewPair f
    else if o < 0x1000000 then (s.viewPair f).orElse fun _ => s.viewAddress f
    else if o < 0x1100000 then s.viewCollector f
    else if f = F.TH_STATUS_FAST then some (flag s.fastSampling)
    else if o < 0x1200000 then s.viewAddress f
    else s.viewBerm f
  (special.getD (s.get f)) % 2 ^ f.w

/-- The bits of a word that its register table gives (Table 0.8: a WO field reads zero). -/
def State.viewFields (off : Nat) (s : State) : Nat :=
  (wordParts off).foldl (fun v p => if p.row.acc = .wo then v else v + bitsOf (s.view p.fld) p.lo p.n * 2 ^ p.bit) 0

/-- The 32-bit word at an offset of the set-up window as a read shows it: a record window (R72, Tables 11.8 and 13.13), or register
fields; an unassigned offset reads as zero (R10). -/
def State.viewWord (off : Nat) (s : State) : Nat :=
  if 0x20000 ≤ off ∧ off < 0x60000 then
    let i := (off - 0x20000) / 32
    bitsOf ((regionWords i (s.region i)).getD ((off - 0x20000) % 32 / 8) 0) (8 * ((off - 0x20000) % 8)) 32
  else if 0xD00000 ≤ off ∧ off < 0xD14000 then
    bitsOf (Sparse.get 0 ((off - 0xD00000) / 0x1000) s.fl.records) (8 * ((off - 0xD00000) % 0x1000)) 32
  else if 0xF81000 ≤ off ∧ off < 0xF82000 then s.viewFields (off - 0xF81000 + 0xF01000)
  else if 0xF8F000 ≤ off ∧ off < 0xF90000 then s.viewFields (off - 0xF8F000)
  else s.viewFields off

/-- A 64-bit register begins at an offset: its table says so, in the guest block's copy of the identity block too, or it is a word of a
region record. -/
def wideAt (off : Nat) : Bool :=
  let o := if 0xF8F000 ≤ off ∧ off < 0xF90000 then off - 0xF8F000 else off
  (decide (0x20000 ≤ o) && decide (o < 0x60000) && decide (o % 8 = 0)) || regTable.any fun r => r.wide && r.at o

end Sys2Proof.Machine
end

