-- ==== Sys2Proof/Machine/RegionCmds.lean ====
section
/-! DEFINITION. The region operations (R73 to R79, R179, R594), the tenant commands (R85, R86) and binding writes (R99). -/

namespace Sys2Proof.Machine

open Sys2Proof

/-- The lowest base of a run of free slots of a side for a size (R71): slot 0, or the slot after a region. -/
def freeRun (rs : Sparse Region) (sd size : Nat) : Option Nat :=
  let mine := rs.filter fun e => decide (e.1 / 4096 = sd) && decide (e.2.state ≠ 0)
  let ends := 0 :: mine.map fun e => e.2.baseSlot + e.2.sizeM1 + 1
  let fits (b : Nat) : Bool := decide (b + size ≤ 262144) &&
    mine.all fun e => decide (e.2.baseSlot + e.2.sizeM1 < b) || decide (b + size ≤ e.2.baseSlot)
  (ends.filter fits).foldl (fun m b => match m with
    | none => some b
    | some x => some (min x b)) none

/-- The operands of a REGION_ATTACH as a region record under construction. -/
def attachRegion (d : BitVec 512) (t : Nat) : Region :=
  let ceil := dbits d 21 0 5
  { state := 1, readOnly := decide (dbits d 20 3 1 = 1), twinComplete := decide (dbits d 20 2 1 = 1),
    policy := dbits d 20 0 2, sizeM1 := dbits d 16 0 32 - 1, tenant := t, stallCeil := if ceil = 0 then 2 else ceil,
    label := dbits d 24 0 64 }

/-- R225 leaves too few frames for a pinned region of a size. -/
def State.framesShort (size : Nat) (s : State) : Bool :=
  decide (s.get F.CUL_FRAMES_COUNT - s.pinnedFrames - s.windowFrames < size * 512 + 8192)

/-- The checks of Table 2.14 from row 3 on for a new region: the status and detail of the first that fails. -/
def State.attachNewCheck (t size pol : Nat) (s : State) : Option (Nat × Nat) :=
  let rs := s.regionsNext
  let maxR := s.get (F.TENANT_W1_MAX_REGIONS t)
  let maxG := s.get (F.TENANT_W2_MAX_GIB t)
  let gibs := gibWhere (fun _ r => decide (r.tenant = t)) rs
  if s.get (F.TENANT_W0_KEYS_VALID t) = 0 then some (St.NO_KEY, 0)
  else if ((List.range 4096).find? fun n => decide (n ≠ 0) && decide ((Sparse.get {} (recIdx s.side n) rs).state = 0)).isNone ∨
      (maxR ≠ 0 ∧ maxR ≤ 8190 ∧ maxR ≤ countWhere (fun _ r => decide (r.tenant = t)) rs) ∨
      (maxG ≠ 0 ∧ maxG < gibs + size) then some (St.LIMIT, 0)
  else if s.genExhausted then some (St.SPACE, 4)
  else if s.get F.ADR_USABLE_GIB_GIB < gibWhere (fun _ _ => true) rs + size then some (St.SPACE, 1)
  else if pol = 0 ∧ (s.get F.ADR_PIN_LIMIT_GIB_GIB < gibWhere (fun _ r => decide (r.policy = 0)) rs + size ∨ s.framesShort size)
    then some (St.SPACE, 3)
  else if (freeRun rs s.side size).isNone then some (St.SPACE, 2)
  else none

/-- The checks of Table 2.14 from row 3 on for a re-attach of a region. -/
def State.attachAgainCheck (idx t size pol : Nat) (s : State) : Option (Nat × Nat) :=
  let rs := s.regionsNext
  let r := Sparse.get {} idx rs
  if idx % 4096 = 0 ∨ (r.state ≠ 0 ∧ r.tenant ≠ t) then some (St.DENIED, 7)
  else if r.state ≠ 1 then some (St.OBJECT_GONE, 5)
  else if size ≠ r.sizeM1 + 1 then some (St.PARAM, 0)
  else if pol = 0 ∧ r.policy ≠ 0 ∧
      (s.get F.ADR_PIN_LIMIT_GIB_GIB < gibWhere (fun _ r => decide (r.policy = 0)) rs + size ∨ s.framesShort size)
    then some (St.SPACE, 3)
  else none

/-- A new region: number, base, generation, nonce (R73), the generation's entry added to the key store (R331). -/
def State.attachNew (q : Nat) (o : OpRec) (r0 : Region) (s : State) : State :=
  let rs := s.regionsNext
  let n := ((List.range 4096).find? fun n => decide (n ≠ 0) && decide ((Sparse.get {} (recIdx s.side n) rs).state = 0)).getD 0
  let idx := recIdx s.side n
  let base := (freeRun rs s.side (r0.sizeM1 + 1)).getD 0
  let g := s.drawGen
  let nonce := g.2.draw 19
  let salt := nonce.2.drawSalt
  let r : Region := { r0 with baseSlot := base, keyGen := g.1, prevGen := g.1, nonce := nonce.1 }
  let rkey := nonce.1 * 2 ^ 13 + idx
  let s1 := salt.2.setOp q { o with phase := .running, cover := idx, done := 0,
                                    fin := some (St.SUCCESS, 0, rkey, base + g.1 * 2 ^ 32) }
  let cur := (s1.keyBody.tenant r.tenant).current
  (s1.postKey [.addGen ⟨s1.side, g.1, r.tenant, cur, salt.1⟩] [.op q o.seq]).changeRegion idx r none

/-- A removal of the tenant has reached its serialisation point and waits for the twin (R85, R86). -/
def State.tenantLeaving (t : Nat) (s : State) : Bool :=
  s.cw.txStaged.any fun e => match e.2.1 with
    | .record 2 i ws => decide (i = t) && decide (bitsOf (ws.getD 0 0) 0 2 = 2)
    | _ => false

/-- REGION_ATTACH (R73, R76, R86, Table 2.14). -/
def execRegionAttach (q seq : Nat) (s : State) : Host.Outcome State Fault Refusal :=
  finish (s.startOp q seq 0x10 fun o a =>
    let d := o.desc
    let t := (a.queue q).tenant
    let num := dbits d 12 0 12
    let size := dbits d 16 0 32
    let r := attachRegion d t
    let idx := recIdx a.side num
    if a.tenantLeaving t then a.completeOp q o St.OBJECT_GONE 5 0 0 []
    else if size = 0 ∨ 65536 < size ∨ r.policy = 3 ∨ 20 < dbits d 21 0 5 then a.completeOp q o St.PARAM 0 0 0 []
    else if num = 0xFFF then
      match a.attachNewCheck t size r.policy with
      | some (st, det) => a.completeOp q o st det 0 0 []
      | none => a.attachNew q o r
    else match a.attachAgainCheck idx t size r.policy with
      | some (st, det) => a.completeOp q o st det 0 0 []
      | none =>
        let old := Sparse.get {} idx a.regionsNext
        (a.setOp q { o with phase := .running, cover := idx,
                            fin := some (St.SUCCESS, 0, old.nonce * 2 ^ 13 + idx, old.baseSlot + old.keyGen * 2 ^ 32) }).changeRegion
          idx { old with readOnly := r.readOnly, twinComplete := r.twinComplete, policy := r.policy, stallCeil := r.stallCeil,
                         label := r.label } (some (q, seq)))

/-- REGION_ATTACH_COMPLETE (R73, R225, R333): the record in force on both controllers, the generation in the key store, and
every frame of a pinned region assigned. -/
def execRegionAttachComplete (q seq : Nat) (s : State) : Host.Outcome State Fault Refusal :=
  match s.op? q seq with
  | none => finish s
  | some o =>
    let r := s.region o.cover
    let again := decide (dbits o.desc 12 0 12 ≠ 0xFFF)
    if dOpcode o.desc ≠ 0x10 ∨ o.phase ≠ .running ∨ s.frozenMode ∨ r.state = 0 ∨ o.done < (if again then 1 else 2) then finish s
    else
      let s1 := s.when (decide (r.policy = 0)) (State.pinRegion o.cover r)
      if r.policy = 0 ∧ !s1.allFramed o.cover r then finish s1
      else match o.fin with
        | some f => finish (s1.completeOp q o f.1 f.2.1 f.2.2.1 f.2.2.2 [])
        | none => finish s1

/-- REGION_DETACH (R78, R594, Table 2.15). -/
def execRegionDetach (q seq : Nat) (s : State) : Host.Outcome State Fault Refusal :=
  finish (s.startOp q seq 0x11 fun o a =>
    let sd := dbits o.desc 12 12 1
    let idx := recIdx sd (dbits o.desc 12 0 12)
    let r := Sparse.get {} idx a.regionsNext
    if !a.serves sd then a.completeOp q o St.WRONG_OWNER 3 0 0 []
    else if r.state ≠ 1 then a.completeOp q o St.OBJECT_GONE 5 0 0 []
    else if idx % 4096 = 0 ∨ r.tenant ≠ (a.queue q).tenant then a.completeOp q o St.DENIED 7 0 0 []
    else (a.setOp q { o with phase := .running, cover := idx, done := 0 }).changeRegion idx { r with state := 2 } (some (q, seq)))

/-- A revocation of a grant that overlaps a region is still under way (R458). -/
def State.revoking (idx : Nat) (r : Region) (s : State) : Bool :=
  (List.range 256).any fun g => s.isSet (F.KG_GRANT_W3_REVOKING g) && decide (s.get (F.KG_GRANT_W0_SIDE g) = idx / 4096) &&
    decide (s.get (F.KG_GRANT_W1_BASE_SLOT g) ≤ r.baseSlot + r.sizeM1) &&
    decide (r.baseSlot ≤ s.get (F.KG_GRANT_W1_BASE_SLOT g) + s.get (F.KG_GRANT_W2_SPAN_M1 g))

/-- REGION_DETACH_COMPLETE (step 5 of Table 2.5, R333, R458). -/
def execRegionDetachComplete (q seq : Nat) (s : State) : Host.Outcome State Fault Refusal :=
  match s.op? q seq with
  | none => finish s
  | some o =>
    if dOpcode o.desc ≠ 0x11 ∨ o.phase ≠ .running ∨ s.frozenMode ∨ o.done < 2 ∨ s.revoking o.cover (s.region o.cover) then finish s
    else finish (s.completeOp q o St.SUCCESS 0 0 0 [])

/-- The wrapped keys of a detached region are not erased yet (step 4 of Table 2.5). -/
def State.erasing (idx : Nat) (s : State) : Bool :=
  (s.ks.pendingWaits ++ s.ks.waits ++ s.ks.twinWaits).any fun e => decide (e.2 = .erased idx)

/-- A REGION_DETACH of a region has not completed yet (step 5 of Table 2.5). -/
def State.detachOpen (idx : Nat) (s : State) : Bool :=
  s.queues.any fun e => e.2.ops.any fun o => decide (dOpcode o.desc = 0x11) && decide (o.phase = .running) && decide (o.cover = idx)

/-- REGION_RELEASE (steps 6 and 7 of Table 2.5): a DETACHING region whose keys are erased, whose REGION_DETACH has completed and that has no
dirty line becomes FREE. -/
def execRegionRelease (idx : Fin 8192) (s : State) : Host.Outcome State Fault Refusal :=
  let r := s.region idx.val
  let dirty := s.lines.any fun e => e.2.dirty && inRegion idx.val r 256 e.1
  let staged := s.cw.txStaged.any fun e => match e.2.1 with
    | .record 1 i _ => decide (i = idx.val)
    | _ => false
  if r.state ≠ 2 ∨ dirty ∨ staged ∨ s.erasing idx.val ∨ s.detachOpen idx.val ∨ !s.serves (idx.val / 4096) ∨ s.fenced then finish s
  else finish (s.changeRegion idx.val {} none)

/-- REGION_INFO RESULT_A (Table 5.6). -/
def State.infoResult (s : State) : Nat :=
  s.mode.num + s.get F.PLD_DUR_STATE_DUR_LEVEL * 2 ^ 4 + flag s.fenced * 2 ^ 6 + s.get F.PLD_DUR_STATE_HORIZON_FROZEN * 2 ^ 7

/-- The 32 bytes of a region's record. -/
def State.infoBytes (idx : Nat) (s : State) : List Nat :=
  ((regionWords idx (s.region idx)).map fun w => (List.range 8).map fun i => bitsOf w (8 * i) 8).flatten

/-- REGION_INFO (R179): the record unchanged, or the status summary alone. -/
def execRegionInfo (q seq : Nat) (s : State) : Host.Outcome State Fault Refusal :=
  match s.op? q seq with
  | none => finish s
  | some o =>
    if dOpcode o.desc ≠ 0x12 ∨ o.phase ≠ .ready ∨ s.frozenMode ∨ !s.pw.firmware then finish s
    else
      let sd := dbits o.desc 12 12 1
      let idx := recIdx sd (dbits o.desc 12 0 12)
      let r := s.region idx
      if dbits o.desc 12 31 1 = 1 then finish (s.completeOp q o St.SUCCESS 0 s.infoResult 0 [])
      else if !s.mode.serving then finish (s.completeOp q o St.NOT_READY s.mode.num 0 0 [])
      else if r.state = 0 then finish (s.completeOp q o St.OBJECT_GONE 5 0 0 [])
      else if idx % 4096 = 0 ∨ r.tenant ≠ (s.queue q).tenant then finish (s.completeOp q o St.DENIED 7 0 0 [])
      else
        let bytes := s.infoBytes idx
        if isRing q then
          finish ((s.emit (.respData q (dbits o.desc 16 0 64) bytes)).completeOp q o St.SUCCESS 0 s.infoResult 0 [])
        else finish (s.completeOp q o St.SUCCESS 0 s.infoResult 0 [bytes.foldr (fun b v => b + v * 256) 0])

/-! Tenants and bindings. -/

/-- The words of a tenant's record with a STATE. -/
def State.tenantWords (t st : Nat) (s : State) : List Nat :=
  [st + s.get (F.TENANT_W0_SLUICE_WEIGHT t) * 2 ^ 8, s.get (F.TENANT_W1_MAX_REGIONS t), s.get (F.TENANT_W2_MAX_GIB t)]

/-- TENANT_CREATE (R85): a write of STATE 1; ignored unless the record is FREE. -/
def execTenantCreate (t : Fin 4096) (s : State) : Host.Outcome State Fault Refusal :=
  if t.val = 0 ∨ s.tenantState t.val ≠ 0 then finish s
  else finish (s.sequencePoint (.record 2 t.val (s.tenantWords t.val 1)) none)

/-- TENANT_REMOVE (R86): a write of STATE 2; ignored unless the tenant is ACTIVE. -/
def execTenantRemove (t : Fin 4096) (s : State) : Host.Outcome State Fault Refusal :=
  if t.val = 0 ∨ s.tenantState t.val ≠ 1 then finish s
  else finish (s.sequencePoint (.record 2 t.val (s.tenantWords t.val 2)) none)

/-- LD_MAP entry `n` written (R99): Memory Active follows the binding. -/
def State.writeLdMap (n v : Nat) (s : State) : State :=
  let s1 := s.put (F.LD_MAP_READ_ONLY n) (bitsOf v 15 1) |>.put (F.LD_MAP_DORMANT n) (bitsOf v 14 1)
    |>.put (F.LD_MAP_ADMIN n) (bitsOf v 13 1) |>.put (F.LD_MAP_ENABLE n) (bitsOf v 12 1) |>.put (F.LD_MAP_TENANT n) (bitsOf v 0 12)
  (((s1.raise Ev.TENANT_CHANGED []).dropUnbound).recomputeTimeouts)

/-- A logical device's window was written (R108, R119, R131): CONFIG_INVALID for one that reaches past the slots, Memory Active cleared with the
binding, and the time-outs recomputed. -/
def State.windowWritten (n : Nat) (s : State) : State :=
  let bad := s.isSet (F.CXL_LD_WIN_BASE_WIN_VALID n) && !s.winValid n
  ((s.when bad (State.raise Ev.CONFIG_INVALID [])).dropUnbound).recomputeTimeouts

/-- BINDING_WRITE (R85, R99): LD_MAP is this controller's own; a P_Key map entry changes at a sequence point. -/
def execBindingWrite (pkeyMap : Bool) (i : Nat) (v : Nat) (s : State) : Host.Outcome State Fault Refusal :=
  if pkeyMap then
    if i < 4096 then finish (s.sequencePoint (.record 3 i [v]) none) else finish s
  else if i < 64 then finish (s.writeLdMap i v) else finish s

end Sys2Proof.Machine
end

