-- ==== Sys2Proof/Machine/Rings.lean ====
section
/-! DEFINITION. The ring pairs: creation, polling, fetching, sleep and destruction (R163 to R174, R194). -/

namespace Sys2Proof.Machine

open Sys2Proof

/-- The global queue number of ring `r` of logical device `n`. -/
def ringKey (n r : Nat) : Nat := 64 * n + r

/-- The fields of RING_CFG other than ENABLE written with a word (Table 5.11). -/
def State.writeRingCfg (n r v : Nat) (s : State) : State :=
  s.put (F.RING_CFG_ORDERED n r) (bitsOf v 30 1) |>.put (F.RING_CFG_NOTICE_EN n r) (bitsOf v 29 1)
    |>.put (F.RING_CFG_IRQ_EN n r) (bitsOf v 28 1) |>.put (F.RING_CFG_COAL_US n r) (bitsOf v 24 4)
    |>.put (F.RING_CFG_CQ_LOG2 n r) (bitsOf v 19 5) |>.put (F.RING_CFG_IDLE n r) (bitsOf v 16 3)
    |>.put (F.RING_CFG_POLL n r) (bitsOf v 12 3) |>.put (F.RING_CFG_FETCH_LOG2 n r) (bitsOf v 8 4)
    |>.put (F.RING_CFG_SQ_LOG2 n r) (bitsOf v 0 4)

/-- The ring's configuration is valid (R165): alignment holds by the widths of the address fields. -/
def State.ringCfgValid (n r : Nat) (s : State) : Bool :=
  let sq := s.get (F.RING_CFG_SQ_LOG2 n r)
  let cq := s.get (F.RING_CFG_CQ_LOG2 n r)
  decide (4 ≤ sq) && decide (sq ≤ 15) && decide (sq + 1 ≤ cq) && decide (cq ≤ 16) &&
    decide (s.get (F.RING_SQ_BASE_ADDR n r) ≠ 0) && decide (s.get (F.RING_CQ_BASE_ADDR n r) ≠ 0) &&
    decide (s.get (F.RING_CTL_ADDR_ADDR n r) ≠ 0)

/-- A write of RING_CFG with ENABLE 1 (R165): ignored while the ring is enabled or DISABLING. -/
def State.enableRing (n r v : Nat) (s : State) : State :=
  let q := ringKey n r
  let k := s.queue q
  if k.state = 4 ∨ s.isSet (F.RING_CFG_ENABLE n r) then s
  else
    let s1 := s.writeRingCfg n r v
    if s1.ringCfgValid n r then
      (s1.put (F.RING_CFG_ENABLE n r) 1).setQueue q
        { state := 1, incarnation := k.incarnation + 1, tenant := s1.get (F.LD_MAP_TENANT n), lastFetch := s1.now }
    else s1.setQueue q { k with stopCause := 3 }

/-- RING_ENABLE (R163, R165). -/
def execRingEnable (ld r : Fin 64) (v : Nat) (s : State) : Host.Outcome State Fault Refusal :=
  finish (s.enableRing ld.val r.val v)

/-- RING_DISABLE (R173). -/
def execRingDisable (ld r : Fin 64) (s : State) : Host.Outcome State Fault Refusal :=
  finish (s.destroyQueue (ringKey ld.val r.val))

/-- RING_DISABLED (R173): nothing of the ring is in progress. -/
def execRingDisabled (ld r : Fin 64) (s : State) : Host.Outcome State Fault Refusal :=
  let q := ringKey ld.val r.val
  let k := s.queue q
  if k.state = 4 ∧ k.ops.isEmpty then finish (s.setQueue q { k with state := 0 }) else finish s

/-- The poller of a ring may act: its ring runs, the mode keeps rings alive and the logical device is not dormant (R174). -/
def State.pollerRuns (q : Nat) (s : State) : Bool :=
  decide ((s.queue q).state = 1) && s.mode.mainRails && !s.frozenMode && !s.dormantRing q && !s.queueHeld q

/-- POLLER_TICK (R166): the ring control record read once per poll interval. -/
def execPollerTick (ld r : Fin 64) (s : State) : Host.Outcome State Fault Refusal :=
  let q := ringKey ld.val r.val
  if s.pollerRuns q then finish (s.emit (.readControl q)) else finish s

/-- RING_FETCH_DATA (R34, R166, R183): the descriptors the outstanding read asked for, fetched in order up to one that stops
the ring or a WAIT that cuts the read; SQ_HEAD written, and the next read issued. -/
def execRingFetchData (ld r : Fin 64) (ds : List (BitVec 512)) (s : State) : Host.Outcome State Fault Refusal :=
  let q := ringKey ld.val r.val
  let k := s.queue q
  if k.state ≠ 1 ∨ k.asked < k.expected ∨ s.frozenMode then finish s
  else
    let s1 := (s.fetchAll q (ds.take (k.asked + 1 - k.expected))).1
    let k1 := s1.queue q
    finish (((s1.setQueue q { k1 with asked := k1.expected - 1 }).emit (.sqHead q k1.fetched)).pollFetch q)

/-- RING_CONTROL_RECORD_RETURN (R166, R168): SQ_TAIL and CQ_HEAD taken, a value of SQ_TAIL below the newest fetched ignored. -/
def execRingControlRecordReturn (ld r : Fin 64) (tail head : Nat) (s : State) : Host.Outcome State Fault Refusal :=
  let q := ringKey ld.val r.val
  let k := s.queue q
  if k.state = 0 ∨ k.state = 4 then finish s
  else
    let h := if k.cqHead ≤ head ∧ head ≤ k.written then head else k.cqHead
    let k1 := { k with sqTail := if k.fetched ≤ tail then tail else k.sqTail, cqHead := h,
                       fullRaised := k.fullRaised && decide (h = k.cqHead) }
    let s1 := (s.setQueue q k1).offerTakeover q
    finish (s1.when (s1.pollerRuns q) (State.pollFetch q))

/-- The completion ring is full (R167). -/
def State.cqFull (q : Nat) (s : State) : Bool :=
  let k := s.queue q
  k.live && decide (s.cqSize q ≤ k.usedSlots)

/-- CQ_HEAD_RECHECK (R167). -/
def execCqHeadRecheck (ld r : Fin 64) (s : State) : Host.Outcome State Fault Refusal :=
  let q := ringKey ld.val r.val
  if s.cqFull q ∧ s.mode.mainRails then finish (s.emit (.readControl q)) else finish s

/-- CQ_FULL_TIMEOUT (R167): once for each stall. -/
def execCqFullTimeout (ld r : Fin 64) (s : State) : Host.Outcome State Fault Refusal :=
  let q := ringKey ld.val r.val
  let k := s.queue q
  if s.cqFull q ∧ !k.fullRaised then finish ((s.setQueue q { k with fullRaised := true }).raise Ev.CQ_FULL [])
  else finish s

/-- RING_IDLE_SLEEP (R168): ASLEEP written, the ring control record read again, and ASLEEP taken back when SQ_TAIL shows
work. -/
def execRingIdleSleep (ld r : Fin 64) (tail : Nat) (s : State) : Host.Outcome State Fault Refusal :=
  let q := ringKey ld.val r.val
  let k := s.queue q
  if !s.pollerRuns q ∨ k.expected ≤ k.asked then finish s
  else
    let s1 := s.emit (.asleep q true)
    if k.fetched < tail then
      finish (((s1.setQueue q { k with sqTail := tail }).emit (.asleep q false)).pollFetch q)
    else finish (s1.setQueue q { k with state := 2 })

/-- A write of RING_WAKE (R168): a wake for a ring that is running or disabled has no effect. -/
def State.wakeRings (n mask : Nat) (s : State) : State :=
  s.forEach (List.range 64) fun r a =>
    let q := ringKey n r
    if mask.testBit r ∧ (a.queue q).state = 2 then a.resumeFetch q else a

/-- RING_WAKE (R168). -/
def execRingWake (ld : Fin 64) (mask : BitVec 64) (s : State) : Host.Outcome State Fault Refusal :=
  finish (s.wakeRings ld.val mask.toNat)

/-- RING_RESTART (R187, R194): a STOPPED ring resumes at its expected sequence number. -/
def State.restartQueue (q : Nat) (s : State) : State :=
  let k := s.queue q
  if k.state = 3 then
    (s.setQueue q { k with state := 1, stopCause := 0, asked := k.expected - 1, lastFetch := s.now }).resumeFetch q
  else s

/-- RING_RESTART (R187, R194). -/
def execRingRestart (ld r : Fin 64) (s : State) : Host.Outcome State Fault Refusal :=
  finish (s.restartQueue (ringKey ld.val r.val))

/-- IRQ_COALESCE_EXPIRY (R172): one message when further records were written meanwhile. -/
def execIrqCoalesceExpiry (ld r : Fin 64) (notice : Bool) (s : State) : Host.Outcome State Fault Refusal :=
  let q := ringKey ld.val r.val
  let k := s.queue q
  let until_ := s.now + usFc (s.get (F.RING_CFG_COAL_US ld.val r.val))
  let on := s.isSet (F.RING_CFG_IRQ_EN ld.val r.val)
  if notice then
    if k.more6 ∧ on then finish ((s.setQueue q { k with hold6 := until_, more6 := false }).msix ld.val 6)
    else finish (s.setQueue q { k with hold6 := 0, more6 := false })
  else
    if k.more5 ∧ on then finish ((s.setQueue q { k with hold5 := until_, more5 := false }).msix ld.val 5)
    else finish (s.setQueue q { k with hold5 := 0, more5 := false })

/-- RING_READ_COMPLETION_TIMEOUT (R194): HOST_MEMORY; outstanding operations complete and write their records. -/
def execRingReadCompletionTimeout (ld r : Fin 64) (s : State) : Host.Outcome State Fault Refusal :=
  let q := ringKey ld.val r.val
  let k := s.queue q
  if k.state = 1 ∨ k.state = 2 then
    finish ((s.setQueue q { k with asked := k.expected - 1 }).stopQueue q 2)
  else finish s

end Sys2Proof.Machine
end

