-- ==== Sys2Proof/Machine/Service.lean ====
section
/-! DEFINITION. The commands of the witness, the fences and the pair (R419 to R442), and the end of a restore (R299). -/

namespace Sys2Proof.Machine

open Sys2Proof

/-! The witness (R420 to R424). -/

/-- The witness link runs: its lands have power from BRINGUP on (R423). -/
def State.witnessOn (s : State) : Bool := s.mode.mainRails

/-- HEARTBEAT_TIMER (R423). -/
def execHeartbeatTimer (s : State) : Host.Outcome State Fault Refusal :=
  if s.witnessOn then finish (s.witSend 1 0) else finish s

/-- TAKEOVER_REQ_RESEND (R420). -/
def execTakeoverReqResend (s : State) : Host.Outcome State Fault Refusal :=
  if s.witnessOn ∧ s.wit.reason ≠ 0 then finish (s.witSend 2 s.wit.reason) else finish s

/-- A witness frame checked (R421): whether it is accepted, and the state with what its acceptance or refusal leaves. -/
def State.witAccept (typ : Nat) (f : WitFrame) (s : State) : Bool × State :=
  let next := s.wit.had && decide (f.session = s.wit.session) && decide (s.wit.counter < f.counter)
  let opens := (!s.wit.had || decide (f.session ≠ s.wit.session)) && decide (f.counter = 1)
  if !f.mac then
    (false, (s.bump F.CW_WIT_REJECTED_COUNT 1 |>.bump F.CW_WIT_AUTH_FAILS_COUNT 1).raiseLimited Ev.WITNESS_AUTH_FAILED 0 [])
  else if next || opens then
    (true, (({ s with wit := { s.wit with session := f.session, counter := f.counter } }).put F.CW_WIT_STATUS_LAST_TYPE typ).witnessHeard)
  else (false, s.bump F.CW_WIT_REJECTED_COUNT 1)

/-- The echo of an accepted frame names this session and a frame sent within the last 50 ms (R421). -/
def State.witEcho (f : WitFrame) (s : State) : Bool :=
  s.wit.started && decide (f.echoSession = s.wit.mySession) &&
    s.wit.sent.any fun (e : Nat × Nat) => decide (e.1 = f.echoCounter) && decide (s.now ≤ e.2 + msFc 50)

/-- A witness frame that passes R421 acted on. -/
def State.witFrame (typ : Nat) (f : WitFrame) (act : State → State) (s : State) : State :=
  if !s.witnessOn then s
  else
    let r := s.witAccept typ f
    if r.1 ∧ r.2.witEcho f then act r.2 else r.2

/-- What a STATUS shows (Tables 12.11 and 12.12): a grant to the partner, or the end of a fence. -/
def State.heedStatus (f : WitFrame) (s : State) : State :=
  let own := s.get F.CW_PAIR_EPOCH_EPOCH
  if own < f.epoch then (if f.grantValid then s.learnGrant f.epoch f.grantSide else s)
  else
    let s1 := if s.isSet F.CW_STATUS_FENCE_N then s else (s.endFence 2).endFence 3
    if s1.cw.fences.contains 1 ∧ f.epoch = own ∧ (s1.cw.ownAuth ∨ !s1.cw.paired) then
      let s2 := s1.endFence 1
      if !s2.twinGone then s2
      else match s2.mode with
        | .solo => s2.request 1
        | .paired | .resync | .drain => s2.goAlone
        | _ => s2
    else s1

/-- WITNESS_STATUS_RX (R421). -/
def execWitnessStatusRx (f : WitFrame) (s : State) : Host.Outcome State Fault Refusal :=
  finish (s.witFrame 0x81 f fun a => a.heedStatus f)

/-- A GRANT accepted (R421, Table 12.12): it names the latest TAKEOVER_REQ and the next epoch. -/
def State.heedGrant (f : WitFrame) (scans : List (Nat × Nat × Nat)) (s : State) : State :=
  if s.wit.reason = 0 ∨ f.echoCounter ≠ s.wit.reqCounter ∨ f.epoch ≠ s.get F.CW_PAIR_EPOCH_EPOCH + 1 then s
  else match s.mode with
    | .solo | .resync | .paired => s.takeOver f.epoch scans
    | .bringup => if s.isSet F.PWR_STATUS_RETURNING then s.returnToService f.epoch scans else s
    | _ => s

/-- WITNESS_GRANT_RX (R431). -/
def execWitnessGrantRx (f : WitFrame) (scans : List (Nat × Nat × Nat)) (s : State) : Host.Outcome State Fault Refusal :=
  finish (s.witFrame 0x82 f fun a => a.heedGrant f scans)

/-- WITNESS_DENY_RX (R421): the request goes on standing. -/
def execWitnessDenyRx (f : WitFrame) (s : State) : Host.Outcome State Fault Refusal :=
  finish (s.witFrame 0x83 f fun a => a.raise Ev.TAKEOVER_DENIED [f.reason])

/-- WITNESS_FENCE_RX (R424). -/
def execWitnessFenceRx (f : WitFrame) (s : State) : Host.Outcome State Fault Refusal :=
  finish (s.witFrame 0x84 f fun a => a.setFence 3)

/-- WITNESS_CONTACT_TIMEOUT (R423). -/
def execWitnessContactTimeout (s : State) : Host.Outcome State Fault Refusal := finish s.loseWitness

/-- TWIN_CONTACT_TIMEOUT (R423). -/
def execTwinContactTimeout (s : State) : Host.Outcome State Fault Refusal := finish s.loseTwin

/-- FENCE_N_ASSERT (R424). -/
def execFenceNAssert (s : State) : Host.Outcome State Fault Refusal :=
  if s.mode = .off then finish s else finish ((s.put F.CW_STATUS_FENCE_N 1).setFence 2)

/-- FENCE_N_DEASSERT (R424): the fence stands until a STATUS ends it. -/
def execFenceNDeassert (s : State) : Host.Outcome State Fault Refusal := finish (s.put F.CW_STATUS_FENCE_N 0)

/-! Checkpoints and the drain (R430, R435, R436). -/

/-- The sides of which a checkpoint is due: none outside the modes of R430, and none while fenced, when no write is accepted (R52). -/
def State.ckptSides (s : State) : List Nat :=
  if s.fenced then []
  else match s.mode with
    | .paired | .resync | .drain => [s.side]
    | .takeover => if s.catchingUp then [s.side, 1 - s.side] else []
    | _ => []

/-- A checkpoint is still being written: writes of the hub for itself wait at ingress (R21, R430). -/
def State.checkpointWaits (s : State) : Bool := s.ingress.any fun r => r.isWrite && decide (r.src = .hub)

/-- CHECKPOINT_DUE (R430). -/
def execCheckpointDue (late : Bool) (us : Nat) (s : State) : Host.Outcome State Fault Refusal :=
  if s.ckptSides.isEmpty then finish s
  else if late ∨ s.checkpointWaits then finish (s.raiseLimited Ev.CHECKPOINT_LATE 0 [])
  else finish (s.checkpoint false s.ckptSides us)

/-- DRAIN written (R435, R436). -/
def State.drain (s : State) : State :=
  if s.mode = .paired ∧ s.isSet F.CW_STATUS_TWIN_CONTACT ∧ s.isSet F.CW_STATUS_WITNESS_CONTACT then
    let f := (s.setMode .drain).sendFrame .drainBegin
    { f.2 with cw := { f.2.cw with drainSeq := f.1, cutover := 0, withheld := false } }
  else s.raise Ev.DRAIN_ABANDONED []

/-- CW_DRAIN (R435). -/
def execCwDrain (s : State) : Host.Outcome State Fault Refusal := finish s.drain

/-- DRAIN_CUTOVER_READY (R435 step 3): once every accepted write is twin-durable and every operation that was started has completed. -/
def execDrainCutoverReady (us : Nat) (s : State) : Host.Outcome State Fault Refusal :=
  if s.mode = .drain ∧ s.cw.cutover = 1 ∧ s.drained then finish (s.releaseSide s.side us) else finish s

/-- DRAIN_RELEASE_TIMEOUT (R435). -/
def execDrainReleaseTimeout (s : State) : Host.Outcome State Fault Refusal :=
  if s.mode = .drain ∧ s.cw.cutover = 2 then finish s.abandonDrain else finish s

/-! Pairing (R419, R441). -/

/-- UNPAIR written (R441). -/
def State.unpairCommand (s : State) : State :=
  let held := s.regions.any fun (e : Nat × Region) => decide (e.2.state ≠ 0) && decide (e.1 / 4096 ≠ s.side) && decide (e.1 % 4096 ≠ 0)
  if (s.mode ≠ .paired ∧ s.mode ≠ .solo) ∨ held then s.raise Ev.PAIRING_REFUSED [5]
  else if s.mode = .paired ∧ s.cw.linkKey then
    let f := s.sendFrame .unpair
    { f.2 with cw := { f.2.cw with txStaged := f.2.cw.txStaged ++ [(f.1, .unpair, none)] } }
  else s.unpair

/-- CW_UNPAIR (R441). -/
def execCwUnpair (s : State) : Host.Outcome State Fault Refusal := finish s.unpairCommand

/-- CW_REPLACE_ALLOW (R419). -/
def execCwReplaceAllow (s : State) : Host.Outcome State Fault Refusal := finish { s with cw := { s.cw with allowReplace := true } }

/-- CW_PAIR_ALLOW_NEW (R419). -/
def execCwPairAllowNew (s : State) : Host.Outcome State Fault Refusal := finish { s with cw := { s.cw with allowNew := true } }

/-- PAIR_ALLOW_EXPIRY (R419). -/
def execPairAllowExpiry (replace : Bool) (s : State) : Host.Outcome State Fault Refusal :=
  if replace then finish { s with cw := { s.cw with allowReplace := false } } else finish { s with cw := { s.cw with allowNew := false } }

/-! Catch-up and handback (R438, R439). -/

/-- CATCHUP_COPY_EXTENT (R438). -/
def execCatchupCopyExtent (x : Nat) (s : State) : Host.Outcome State Fault Refusal :=
  if s.cw.linkKey then finish (s.copyExtent x) else finish s

/-- CATCHUP_COMPLETE (R438). -/
def execCatchupComplete (s : State) : Host.Outcome State Fault Refusal :=
  if s.cw.linkKey ∧ s.get F.CW_CATCHUP_STATUS_STATE = 2 ∧ s.cw.copyLeft.isEmpty then
    let f := s.sendFrame .catchupDone
    finish (({ f.2 with cw := { f.2.cw with doneSeq := f.1 } }).put F.CW_CATCHUP_STATUS_STATE 3)
  else finish s

/-- HANDBACK_START (R439 step 1): the partner's side is held first; once everything of it that was started has completed, its exact
checkpoint is written and RELEASE_READY set. -/
def execHandbackStart (us : Nat) (s : State) : Host.Outcome State Fault Refusal :=
  if s.mode ≠ .takeover ∨ s.get F.CW_CATCHUP_STATUS_STATE ≠ 3 ∨ !s.cw.copyDone ∨ !s.cw.unacked.isEmpty ∨ s.cw.cutover = 2 then finish s
  else
    let s1 := { s with cw := { s.cw with sideFence := true, cutover := 1 } }
    if s1.partnerDrained then finish (s1.releaseSide (1 - s1.side) us) else finish s1

/-! The end of a restore (R299). -/

/-- The generation entries that no region record names (R332). -/
def State.orphanKeys (s : State) : List GenKeys :=
  s.keyBody.gens.filter fun g => !(s.regions.any fun (e : Nat × Region) =>
    decide (e.2.state ≠ 0) && decide (e.1 / 4096 = g.side) && e.2.gens.contains g.gen)

/-- Orphaned generation entries removed (R332). -/
def State.dropOrphans (s : State) : State :=
  let os := s.orphanKeys
  if os.isEmpty then s else (s.postKey (os.map fun g => .dropGen g.side g.gen) []).raise Ev.KEY_STORE_ORPHANS [os.length]

/-- What R299 asks for before RESTORE is left. -/
def State.restoreReady (s : State) : Bool :=
  decide (s.get F.RST_STATUS_PHASE = 5) && decide (s.dirtyBytes < s.admitMark) && !s.ssb.erased.isEmpty && s.merges.isEmpty &&
    (!s.isSet F.CUL_CTRL_PIN_FIRST || s.cul.pinRegions.isEmpty)

/-- RESTORE is left for service: the image released, orphaned keys removed, the guest record copied (R469), queues resumed (R54). -/
def State.endRestore (m : Mode) (s : State) : State :=
  let s1 := (({ s with ssb := { s.ssb with restoring := none } }).put F.RST_STATUS_PHASE 0).setMode m
  let s2 := (s1.raise Ev.RESTORE_DONE []).dropOrphans.copyGuestRecord
  (s2.resendSends).forEach ((s2.queues.filter fun (e : Nat × Queue) => e.2.live).map fun (e : Nat × Queue) => e.1) fun q a => a.resumeFetch q

/-- RESTORE_EXIT (R299, R425, R440, Table 16.7). A controller whose side the partner serves goes back to BRINGUP; one that found an
unsealed image holds its side for a partner that has a sealed one. -/
def execRestoreExit (s : State) : Host.Outcome State Fault Refusal :=
  if s.mode ≠ .restore ∨ !s.restoreReady then finish s
  else if s.cw.paired ∧ !s.cw.ownAuth then finish (s.enterBringup false true)
  else if s.cw.paired ∧ s.cw.unsealed ∧ s.cw.linkKey ∧ !s.cw.peerUnsealed then finish ((s.setFence 4).put F.CW_STATUS_RELEASE_READY 1)
  else if s.cw.linkKey then finish ((s.endRestore .resync).startCatchup)
  else
    let s1 := s.endRestore .solo
    let s2 := s1.when s1.cw.paired State.beginMap
    finish (s2.when (s2.twinGone && !s2.isSet F.CW_STATUS_WITNESS_CONTACT) (State.setFence 1))

end Sys2Proof.Machine
end

