-- ==== Sys2Proof/Machine/RegisterAccess.lean ====
section
/-! DEFINITION. Register accesses (R9 to R13, R96, R97, R461): who reaches which offset, what a write does, and what a read gives, latches
and clears. -/

namespace Sys2Proof.Machine

open Sys2Proof

/-! Who reaches what (Table 2.11, R97, R461). -/

/-- The offset of the set-up window that an agent's offset reaches; none where nothing is decoded on its path (R10). -/
def reachOf (a : Agent) (off : Nat) : Option Nat :=
  match a with
  | .reeve => some off
  | .host ld =>
    if off < 0x2000 then some off
    else if 0x4000 ≤ off ∧ off < 0x8000 then some (0x100000 + 0x4000 * ld.val + (off - 0x4000))
    else none
  | .guest => if off < 0x10000 then some (0xF80000 + off) else none

/-- An agent may write at an offset of the set-up window (Table 2.11): the identity and Polder status blocks are read-only to a host. -/
def mayWrite (a : Agent) (off : Nat) : Bool :=
  match a with
  | .host _ => decide (0x2000 ≤ off)
  | _ => true

/-- The number of an agent, under which its latches are kept. -/
def agentNum : Agent → Nat
  | .reeve => 0
  | .guest => 1
  | .host ld => 2 + ld.val

/-- The key of an agent's latch of the 64-bit register at an offset. -/
def latchKey (a : Agent) (off : Nat) : Nat := agentNum a * 2 ^ 32 + off

/-- A pending latch of an agent for the register at an offset discarded, whichever half the offset names (R9). -/
def State.dropLatch (a : Agent) (off : Nat) (s : State) : State :=
  { s with latches := Sparse.set 0 (latchKey a off) 0 (Sparse.set 0 (latchKey a (off - 4)) 0 s.latches) }

/-- The width and the alignment of an access are accepted (R9). -/
def accessOk (off : Nat) (target : Option Nat) (size : Nat) : Bool :=
  if size = 8 then decide (off % 8 = 0) && (match target with
    | some o => wideAt o
    | none => false)
  else decide (size = 4) && decide (off % 4 = 0)

/-! What a write of plain fields does (Table 0.8, R13). -/

/-- The part is a LOCK bit (R13). -/
def WordPart.isLock (p : WordPart) : Bool := decide (p.off = p.row.lock) && decide (p.row.lo = 31) && decide (p.row.lock ≠ 0)

/-- The LOCK of a part's block is set. -/
def State.locked (p : WordPart) (s : State) : Bool := decide (p.row.lock ≠ 0) && s.isSet ⟨p.row.lock, 31, 1⟩

/-- A part of a field written with its bits of a word; `s0` is the state the write found, whose LOCK bit decides for the fields it locks
(Table 0.8). -/
def State.writePart (s0 : State) (v : Nat) (s : State) (p : WordPart) : State :=
  let new := p.merge (s.get p.fld) v
  match p.row.acc with
  | .ro | .rc => s
  | .rw => if p.isLock ∧ s.isSet p.fld then s else s.put p.fld new
  | .wo => s.put p.fld new
  | .rwl => if s0.locked p then s else s.put p.fld new
  | .w1c => if bitsOf v p.bit p.n = 0 then s else s.put p.fld 0

/-- Every field of a word written by its access type. -/
def State.writeFields (off v : Nat) (s : State) : State := (wordParts off).foldl (State.writePart s v) s

/-! Writes that act. -/

/-- A write of a word of a tenant's record (R84, R85): it takes effect at a sequence point. The record it makes keeps its STATE where R85 has
the write of STATE ignored. -/
def State.writeTenant (t w v : Nat) (s : State) : State :=
  if t = 0 ∨ 3 ≤ w then s
  else
    let cur := s.tenantState t
    let want := bitsOf v 0 2
    let st := if w = 0 ∧ ((want = 1 ∧ cur = 0) ∨ (want = 2 ∧ cur = 1)) then want else cur
    let ws := s.tenantWords t st
    let new := if w = 0 then v / 4 * 4 + st else v
    s.sequencePoint (.record 2 t ((List.range 3).map fun i => if i = w then new else ws.getD i 0)) none

/-- A write of RING_CFG (R165, R173): ENABLE 1 creates the ring, ENABLE 0 destroys it, and a write with ENABLE 0 to a disabled ring sets the
other fields. -/
def State.writeRing (n r v : Nat) (s : State) : State :=
  let q := ringKey n r
  if (s.queue q).state = 4 then s
  else if bitsOf v 31 1 = 1 then s.enableRing n r v
  else if s.isSet (F.RING_CFG_ENABLE n r) then s.destroyQueue q else s.writeRingCfg n r v

/-- A write in a function's ring page (Table 5.11). -/
def State.writeRingPage (off v : Nat) (s : State) : State :=
  let n := (off - 0x100000) / 0x4000
  let e := off % 0x4000
  let r := (e - 0x1000) / 0x40
  let x := e % 0x40
  if e = 0 then s.wakeRings n v
  else if e = 4 then s.wakeRings n (v * 2 ^ 32)
  else if e < 0x1000 ∨ 0x2000 ≤ e then s
  else if x < 0x18 then
    (if s.isSet (F.RING_CFG_ENABLE n r) ∨ (s.queue (ringKey n r)).state = 4 then s else s.writeFields off v)
  else if x = 0x18 then s.writeRing n r v
  else if x = 0x38 then (if bitsOf v 0 1 = 1 then s.restartQueue (ringKey n r) else s)
  else s

/-- A write in the line-crypto block (Table 9.13, R324, R326, R343). -/
def State.writeCrypto (off v : Nat) (s : State) : State :=
  if off = 0x700008 then
    let go := bitsOf v 31 1 = 1 ∧ s.mode.mainRails
    if go ∧ [1, 2, 3].contains (s.get F.CP_REMAP_STATUS_STATE) then s
    else if go then (s.writeFields off v).startPipeRemap (bitsOf v 16 6) (bitsOf v 0 7) else s.writeFields off v
  else if off = 0x701000 then (if bitsOf v 0 15 ≤ 16384 then s.writeFields off v else s)
  else if off = 0x70100C then
    (if bitsOf v 0 2 = 1 then s.ksLoad else if bitsOf v 0 2 = 2 then s.ksDestroy else s)
  else s.writeFields off v

/-- A write of CW_CMD (Table 12.17): each bit that is 1 acts, from bit 0 up. -/
def State.writeCwCmd (v : Nat) (s : State) : State :=
  let on (b : Nat) : Bool := decide (bitsOf v b 1 = 1)
  let s1 := if on 0 then s.drain else s
  let s2 := if on 1 then { s1 with cw := { s1.cw with allowNew := true } } else s1
  let s3 := if on 2 then { s2 with cw := { s2.cw with allowReplace := true } } else s2
  let s4 := if on 3 then s3.unpairCommand else s3
  if on 4 then s4.rekey else s4

/-- A write in the Kerup and guest-site block and in the guest block (Tables 13.12 and 13.13). -/
def State.writeGuest (a : Agent) (off v : Nat) (s : State) : State :=
  if off = 0xF00004 then
    let s1 := if s.frozenMode ∨ bitsOf v 0 1 = s.get F.KG_GUEST_CTRL_SERVICE then s else s.guestService (decide (bitsOf v 0 1 = 1))
    if bitsOf v 1 1 = 1 ∧ !s1.frozenMode then s1.guestRestart 8 else s1
  else if 0xF01000 ≤ off ∧ off < 0xF02000 then
    (if off % 16 / 4 = 3 then s else s.grantWrite ((off - 0xF01000) / 16) (off % 16 / 4) v)
  else if 0xF40000 ≤ off ∧ off < 0xF50000 then s.gregStart (off - 0xF40000) true v false
  else if off = 0xF80008 then
    (if bitsOf v 16 6 < 48 then s.raise (Ev.GUEST_FIRMWARE_EVENT (bitsOf v 16 6)) [bitsOf v 0 16] else s)
  else if off = 0xF8000C then
    let s1 := s.writeFields off v
    if a = .guest ∧ s1.kg.step = 5 then { s1 with kg := { s1.kg with scratchWr := true } } else s1
  else s.writeFields off v

/-- A write of FC_SRC_CFG (Table 15.9): CLASS and SEVERITY of a firmware-defined source as well; a CLASS or a SEVERITY that the encoding does
not list is ignored. -/
def State.writeSrcCfg (n v : Nat) (s : State) : State :=
  let s1 := s.writeFields (0x1010000 + 4 * n) v
  if 1408 ≤ n ∧ n < 1536 then
    let s2 := if bitsOf v 26 3 = 7 then s1 else s1.put (F.FC_SRC_CFG_CLASS n) (bitsOf v 26 3)
    if 4 < bitsOf v 23 3 then s2 else s2.put (F.FC_SRC_CFG_SEVERITY n) (bitsOf v 23 3)
  else s1

/-- A write in the fault collector's block (Table 15.9). -/
def State.writeCollector (off v : Nat) (s : State) : State :=
  if off = 0x1000008 then (if s.collectorRuns then s.ackSource (bitsOf v 0 11) else s)
  else if off = 0x1000010 then s.fcRaise (bitsOf v 0 11)
  else if off = 0x1000014 then (if bitsOf v 0 1 = 1 then s.pinClear else s)
  else if 0x1010000 ≤ off ∧ off < 0x1010000 + 4 * 1536 then s.writeSrcCfg ((off - 0x1010000) / 4) v
  else s.writeFields off v

/-- A write in the blocks up to the Culvert (Table 2.11). -/
def State.writeFront (off v : Nat) (s : State) : State :=
  if 0x60000 ≤ off ∧ off < 0x70000 then s.writeTenant ((off - 0x60000) / 16) (off % 16 / 4) v
  else if 0x202000 ≤ off ∧ off < 0x202800 ∧ off % 0x20 ≤ 4 then (s.writeFields off v).windowWritten ((off - 0x202000) / 0x20)
  else if 0x70100 ≤ off ∧ off < 0x70200 then s.writeLdMap ((off - 0x70100) / 4) v
  else if 0x78000 ≤ off ∧ off < 0x7C000 then s.sequencePoint (.record 3 ((off - 0x78000) / 4) [v]) none
  else if 0x100000 ≤ off ∧ off < 0x200000 then s.writeRingPage off v
  else if 0x200100 ≤ off ∧ off < 0x200180 ∧ off % 0x20 = 0 then s.portService ((off - 0x200100) / 0x20) (decide (bitsOf v 0 1 = 1))
  else if 0x201000 ≤ off ∧ off < 0x201400 ∧ off % 0x40 = 4 then
    (if bitsOf v 0 1 = 1 then s.bindRestore ((off - 0x201000) / 0x40) else s)
  else if 0x301000 ≤ off ∧ off < 0x301800 ∧ off % 0x80 = 0 then s.ethService ((off - 0x301000) / 0x80) (decide (bitsOf v 0 1 = 1))
  else if off = 0x400008 then
    let go := bitsOf v 31 1 = 1 ∧ s.mode.mainRails ∧ !s.frozenMode
    if go ∧ [1, 2, 3].contains (s.get F.FP_REMAP_STATUS_STATE) then s
    else if go then (s.writeFields off v).startSliceRemap (bitsOf v 16 6) (bitsOf v 0 7) else s.writeFields off v
  else if off = 0x400800 then
    let s1 := s.writeFields off v
    if bitsOf v 30 1 = 1 then s1.tracerClear else s1
  else s.writeFields off v

/-- A write in the blocks from the Sluice to the Causeway (Table 2.11). -/
def State.writeTiers (off v : Nat) (s : State) : State :=
  if off = 0x600004 then (if bitsOf v 0 1 = 1 then s.requestAssay else s)
  else if 0x700000 ≤ off ∧ off < 0x800000 then s.writeCrypto off v
  else if 0x810000 ≤ off ∧ off < 0x910000 ∧ off % 0x10000 = 0 then s.channelService ((off - 0x810000) / 0x10000) (decide (bitsOf v 0 1 = 1))
  else if 0xC01000 ≤ off ∧ off < 0xC02400 ∧ off % 0x100 = 0 then
    let n := (off - 0xC01000) / 0x100
    let s1 := if bitsOf v 0 1 = 1 then s.failNow n else s
    if bitsOf v 1 1 = 1 then s1.clearFault n else s1
  else if off = 0xE00004 then s.writeCwCmd v
  else if (off = 0xE00100 ∨ off = 0xE00140) then s.pathService ((off - 0xE00100) / 0x40) (decide (bitsOf v 0 1 = 1))
  else s.writeFields off v

/-- A write in the power block and the Reeve's local block (Tables 14.12 and 16.11). -/
def State.writeSystem (off v : Nat) (s : State) : State :=
  if off = 0x1100004 then s.powerCommand (bitsOf v 0 3)
  else if 0x1100100 ≤ off ∧ off < 0x1100280 ∧ off % 0x20 = 0xC then s.writeMargin ((off - 0x1100100) / 0x20) (bitsOf v 0 4)
  else if off = 0x60000004 then s.watchdogKick
  else if off = 0x6000000C then (if bitsOf v 0 1 = 1 then s.confirmTrial else s)
  else if off = 0x60000100 then (if bitsOf v 0 1 = 1 then s.trackClear else s)
  else s.writeFields off v

/-- A 32-bit write at an offset of the set-up window. -/
def State.writeWord (a : Agent) (off v : Nat) (s : State) : State :=
  if off < 0x500000 then s.writeFront off v
  else if off < 0xF00000 then s.writeTiers off v
  else if off < 0x1000000 then s.writeGuest a off v
  else if off < 0x1100000 then s.writeCollector off v
  else s.writeSystem off v

/-- A register write of an agent (R9 to R11, Table 2.11): an access of a width other than 4 bytes, or 8 for a 64-bit register, or of a wrong alignment gets an error response and has no
effect, and one that is not decoded for the agent is ignored. -/
def State.regWrite (a : Agent) (off size v : Nat) (s : State) : State :=
  let target := reachOf a off
  if !accessOk off target size then s.emit (.regError a off)
  else match target with
    | none => s
    | some o =>
      let s1 := s.dropLatch a o
      if !mayWrite a o then s1
      else
        let s2 := s1.writeWord a o (v % 2 ^ 32)
        if size = 8 then s2.writeWord a (o + 4) (v / 2 ^ 32 % 2 ^ 32) else s2

/-! Reads. -/

/-- The RC fields of the register at an offset cleared by a read (Table 0.8); the peak of the dirty count clears to the present count
(Table 1.15). -/
def State.clearRc (off : Nat) (s : State) : State :=
  (regTable.filter fun r => decide (r.acc = .rc) && r.at off).foldl (fun t r =>
    if off = 0x1018 then t.put F.PLD_DIRTY_PEAK_LINES_LINES t.dirtyLines else t.put ⟨off, r.lo, r.w⟩ 0) s

/-- What a read gives, and the state it leaves (R9): a 32-bit read of the low half of a 64-bit register latches the high half, and the next
read of the high half by the same agent takes it. -/
def State.readReg (a : Agent) (o : Nat) (wide : Bool) (s : State) : Nat × State :=
  if wide then (s.viewWord o + s.viewWord (o + 4) * 2 ^ 32, (s.dropLatch a o).clearRc o)
  else if wideAt o then
    let s1 := s.dropLatch a o
    (s.viewWord o, ({ s1 with latches := Sparse.set 0 (latchKey a o) (s.viewWord (o + 4) + 1) s1.latches }).clearRc o)
  else if 4 ≤ o ∧ wideAt (o - 4) then
    match Sparse.get 0 (latchKey a (o - 4)) s.latches with
    | 0 => (s.viewWord o, s)
    | h + 1 => (h, s.dropLatch a o)
  else (s.viewWord o, s.clearRc o)

/-- The guest has read GST_SCRATCH back in its check (Table 13.11). -/
def State.noteScratch (a : Agent) (o : Nat) (s : State) : State :=
  if a = .guest ∧ o = 0xF8000C ∧ s.kg.step = 5 ∧ s.kg.scratchWr then
    ({ s with kg := { s.kg with scratchRd := true } }).guestPassed
  else s

/-- A register read of an agent: the value is returned, an unassigned offset reads as zero, and the guest's register space is read through
the guest (R475). -/
def State.regRead (a : Agent) (off size : Nat) (s : State) : State :=
  let target := reachOf a off
  if !accessOk off target size then s.emit (.regError a off)
  else match target with
    | none => s.emit (.regData a off 0)
    | some o =>
      if 0xF40000 ≤ o ∧ o < 0xF50000 then s.gregStart (o - 0xF40000) false 0 false
      else
        let r := s.readReg a o (decide (size = 8))
        (r.2.emit (.regData a off r.1)).noteScratch a o

/-- The block answers register accesses of an agent: it has power, and a host's link is up. -/
def State.answers (a : Agent) (s : State) : Bool :=
  decide (s.mode ≠ .off) && (match a with
    | .host ld => (match s.linkOfLd ld.val with
        | some l => s.linkUp l
        | none => false)
    | _ => true)

/-- A guest register access outside the guest block (R461): refused, and GUEST_REG_REFUSED at most once per 10 s. -/
def State.guestRegRefused (s : State) : State := s.raiseLimited Ev.GUEST_REG_REFUSED 0 []

/-- REGISTER_WRITE (R9 to R13). -/
def execRegisterWrite (agent : Agent) (off size v : Nat) (s : State) : Host.Outcome State Fault Refusal :=
  if !s.answers agent then finish s
  else if agent = .guest ∧ 0x10000 ≤ off then finish (s.emit (.regError agent off)).guestRegRefused
  else finish (s.regWrite agent off size v)

/-- REGISTER_READ_CLEAR (R9, R11, R12). -/
def execRegisterReadClear (agent : Agent) (off size : Nat) (s : State) : Host.Outcome State Fault Refusal :=
  if !s.answers agent then finish s
  else if agent = .guest ∧ 0x10000 ≤ off then finish (s.emit (.regError agent off)).guestRegRefused
  else finish (s.regRead agent off size)

/-- REGISTER_READ_LATCH_HIGH (R9). -/
def execRegisterReadLatchHigh (agent : Agent) (off : Nat) (s : State) : Host.Outcome State Fault Refusal :=
  if !s.answers agent then finish s
  else if agent = .guest ∧ 0x10000 ≤ off then finish (s.emit (.regError agent off)).guestRegRefused
  else finish (s.regRead agent off 4)

/-! The guest's accesses (R449, R461). -/

/-- A register request of the guest taken: a protocol error, a refusal by R461, or `act`. -/
def State.guestRegRequest (p tag off : Nat) (act : State → State) (s0 : State) : State :=
  let s := s0.guestMsg p 0 1
  if s.guestLink p ≠ 2 ∨ s.frozenMode then s
  else if 1024 ≤ tag ∨ (s.guestReq p tag).isSome then s.guestProtocol
  else
    let s1 := s.addReq ⟨p, tag, none, 0⟩
    if off % 4 ≠ 0 then (s1.guestErr p tag 0x15).guestProtocol
    else if 0x10000 ≤ off then (s1.guestErr p tag 0x16).guestRegRefused
    else act s1

/-- GUEST_REG_RD (R461): answered with REG_DATA. -/
def execGuestRegRd (p : Fin 2) (tag off : Nat) (s : State) : Host.Outcome State Fault Refusal :=
  finish (s.guestRegRequest p.val tag off fun a =>
    let r := a.readReg .guest (0xF80000 + off) false
    (r.2.kerupSend p.val (.regData tag r.1)).noteScratch .guest (0xF80000 + off))

/-- GUEST_REG_WR (R461): answered with CMP_OK, whether or not the field takes the write. -/
def execGuestRegWr (p : Fin 2) (tag off : Nat) (value : BitVec 32) (s : State) : Host.Outcome State Fault Refusal :=
  finish (s.guestRegRequest p.val tag off fun a =>
    (((a.dropLatch .guest (0xF80000 + off)).writeWord .guest (0xF80000 + off) value.toNat)).kerupSend p.val (.cmpOk tag false))

end Sys2Proof.Machine
end

