-- ==== Sys2Proof/Machine/Pldm.lean ====
section
/-! DEFINITION. The BMC port (R495): MCTP control, and the PLDM terminus with its sensors and its firmware update (R493, R496, R497). -/

namespace Sys2Proof.Machine

open Sys2Proof

/-- The BMC port answers: the Reeve runs, in every mode but OFF; in DORMANT it NACKs its address (R495). -/
def State.bmcPort (s : State) : Bool := s.reeveUp && decide (s.mode ≠ .off) && decide (s.mode ≠ .dormant)

/-- BMC_ADDRESS_MATCH (R495): in DORMANT the address match wakes the Reeve. -/
def execBmcAddressMatch (s : State) : Host.Outcome State Fault Refusal :=
  if s.mode = .dormant then finish s.wakeDormant else finish s

/-- MCTP_CONTROL_MSG (R495): Set Endpoint ID sets it; every control message is answered with the endpoint ID. -/
def execMctpControlMsg (setEid : Option Nat) (s : State) : Host.Outcome State Fault Refusal :=
  if !s.bmcPort then finish s
  else
    let s1 := match setEid with
      | some e => { s with rv := { s.rv with eid := e % 256 } }
      | none => s
    finish (s1.emit (.mctp [s1.rv.eid]))

/-! PLDM completion codes (log entry 40). -/

namespace Pldm

/-- SUCCESS. -/
def ok : Nat := 0x00
/-- ERROR_INVALID_DATA. -/
def invalidData : Nat := 0x02
/-- ERROR_UNSUPPORTED_PLDM_CMD. -/
def unsupported : Nat := 0x05
/-- Base: the type is not supported; platform: INVALID_SENSOR_ID is `first`. -/
def badType : Nat := 0x83
/-- The first code of a type: INVALID_SENSOR_ID, NOT_IN_UPDATE_MODE. -/
def first : Nat := 0x80
/-- ALREADY_IN_UPDATE_MODE. -/
def already : Nat := 0x81
/-- INVALID_RECORD_HANDLE. -/
def badRecord : Nat := 0x82
/-- INVALID_STATE_FOR_COMMAND. -/
def badState : Nat := 0x84
/-- RETRY_REQUEST_UPDATE. -/
def retry : Nat := 0x8A

end Pldm

/-- A PLDM command answered with what `f` gives: a completion code and values. The recovery loader knows types 0 and 5 (R493). -/
def State.pldm (typ cmd : Nat) (f : State → (Nat × List Nat) × State) (s : State) : State :=
  if !s.bmcPort then s
  else if s.rv.recovery ∧ typ = 2 then s.emit (.pldm typ cmd Pldm.unsupported [])
  else
    let r := f s
    r.2.emit (.pldm typ cmd r.1.1 r.1.2)

/-! Type 0 (Table 14.8). -/

/-- The types the terminus has. -/
def State.pldmTypes (s : State) : List Nat := if s.rv.recovery then [0, 5] else [0, 2, 5]

/-- The commands of a type that the terminus answers. -/
def pldmCommands (typ : Nat) : List Nat :=
  match typ with
  | 0 => [0x02, 0x03, 0x04, 0x05]
  | 2 => [0x04, 0x0A, 0x0B, 0x10, 0x11, 0x21, 0x50, 0x51]
  | 5 => [0x01, 0x02, 0x10, 0x13, 0x14, 0x15, 0x16, 0x17, 0x18, 0x1A, 0x1B, 0x1C, 0x1D]
  | _ => []

/-- GET_TID: no terminus ID has been assigned. -/
def execGetTid (s : State) : Host.Outcome State Fault Refusal := finish (s.pldm 0 0x02 fun a => ((Pldm.ok, [0]), a))

/-- GET_PLDM_VERSION: the spec names no version, so each type's is a free value (log entry 4). -/
def execGetPldmVersion (s : State) : Host.Outcome State Fault Refusal :=
  finish (s.pldm 0 0x03 fun a =>
    let d := a.draw 32
    ((Pldm.ok, [d.1]), d.2))

/-- GET_PLDM_TYPES. -/
def execGetPldmTypes (s : State) : Host.Outcome State Fault Refusal := finish (s.pldm 0 0x04 fun a => ((Pldm.ok, a.pldmTypes), a))

/-- GET_PLDM_COMMANDS. -/
def execGetPldmCommands (typ : Nat) (s : State) : Host.Outcome State Fault Refusal :=
  finish (s.pldm 0 0x05 fun a => (if a.pldmTypes.contains typ then (Pldm.ok, pldmCommands typ) else (Pldm.badType, []), a))

/-! Type 2: sensors and events. -/

/-- The numeric sensors in the order of Table 14.8: ADC channels 0 to 31, the DIMMs by channel, the modules by slot, freeboard, dirty data, m_eff
(log entry 40). -/
def numericSensors : Nat := 87

/-- The reading of a numeric sensor. -/
def State.sensorValue (n : Nat) (s : State) : Nat :=
  if n < 32 then s.get (F.ADC_RESULT_VALUE n)
  else if n < 64 then (if n % 2 = 0 then s.get (F.CH_TEMP_DIMM0 ((n - 32) / 2)) else s.get (F.CH_TEMP_DIMM1 ((n - 32) / 2)))
  else if n < 84 then s.get (F.SLOT_TEMP_CASE (n - 64))
  else if n = 84 then s.get F.FB_STATUS_FREEBOARD_GIB
  else if n = 85 then s.dirtyBytes / 2 ^ 30
  else s.get F.FB_STATUS_M_EFF

/-- The state sensors: mode, pair state, group state. -/
def State.stateSensor (n : Nat) (s : State) : Nat :=
  match n with
  | 0 => s.mode.num
  | 1 => s.pairState
  | _ => s.get F.FL_STATUS_GROUP_STATE

/-- GET_PDR_REPOSITORY_INFO: one record for each sensor. -/
def execGetPdrRepositoryInfo (s : State) : Host.Outcome State Fault Refusal :=
  finish (s.pldm 2 0x50 fun a => ((Pldm.ok, [numericSensors + 3]), a))

/-- GET_PDR: the record of a sensor, 0 for a numeric one and 1 for a state sensor, with its number. -/
def execGetPdr (n : Nat) (s : State) : Host.Outcome State Fault Refusal :=
  finish (s.pldm 2 0x51 fun a =>
    (if n < numericSensors then (Pldm.ok, [0, n]) else if n < numericSensors + 3 then (Pldm.ok, [1, n - numericSensors])
     else (Pldm.badRecord, []), a))

/-- GET_SENSOR_READING: enabled or disabled, and the reading. -/
def execGetSensorReading (sensor : Nat) (s : State) : Host.Outcome State Fault Refusal :=
  finish (s.pldm 2 0x11 fun a =>
    (if sensor < numericSensors then (Pldm.ok, [flag (a.rv.sensorsOff.contains sensor), a.sensorValue sensor]) else (Pldm.first, []), a))

/-- GET_STATE_SENSOR_READINGS. -/
def execGetStateSensorReadings (sensor : Fin 3) (s : State) : Host.Outcome State Fault Refusal :=
  finish (s.pldm 2 0x21 fun a => ((Pldm.ok, [a.stateSensor sensor.val]), a))

/-- SET_NUMERIC_SENSOR_ENABLE. -/
def execSetNumericSensorEnable (sensor : Nat) (on : Bool) (s : State) : Host.Outcome State Fault Refusal :=
  finish (s.pldm 2 0x10 fun a =>
    if sensor < numericSensors then
      let rest := a.rv.sensorsOff.filter fun x => decide (x ≠ sensor)
      ((Pldm.ok, []), { a with rv := { a.rv with sensorsOff := if on then rest else insertAsc sensor rest } })
    else ((Pldm.first, []), a))

/-- SET_EVENT_RECEIVER: with none, no event is kept. -/
def execSetEventReceiver (eid : Option Nat) (s : State) : Host.Outcome State Fault Refusal :=
  finish (s.pldm 2 0x04 fun a =>
    ((Pldm.ok, []), { a with rv := { a.rv with receiver := eid, events := if eid.isNone then [] else a.rv.events } }))

/-- POLL_FOR_PLATFORM_EVENT_MESSAGE: the oldest event that waits, or none. -/
def execPollForPlatformEventMessage (s : State) : Host.Outcome State Fault Refusal :=
  finish (s.pldm 2 0x0B fun a => ((Pldm.ok, a.rv.events.take 1), { a with rv := { a.rv with events := a.rv.events.drop 1 } }))

/-! Type 5: the firmware update (R493, R497). -/

/-- The update, set. -/
def State.setUpdate (u : Update) (s : State) : State := { s with rv := { s.rv with update := u } }

/-- The slot an update of a component writes: the one not in use; slot A in the recovery loader (R493). -/
def State.updateSlot (comp : Nat) (s : State) : Nat :=
  if comp = 1 then (if s.rv.recovery then 0 else 1 - s.rv.slot) else (if s.rv.config = 2 then 3 else 2)

/-- The unprotected words of a slot erased, a MiB at a time (R485, R497). -/
def State.eraseSlot (k : Nat) (s : State) : State :=
  let s1 := s.forEach (List.range (slotLen k / 65536)) fun i a =>
    let lo := slotWord k + 65536 * i
    if a.wordProtected lo then a else a.eraseWords lo (lo + 65536)
  s1.touchSlots (slotWord k) (slotLen k)

/-- Bytes as words of 16 B. -/
def bytesWords (bytes : List Byte) : List Nat :=
  (List.range ((bytes.length + 15) / 16)).map fun i =>
    ((bytes.drop (16 * i)).take 16).reverse.foldl (fun v b => v * 256 + b.toNat) 0

/-- A chunk programmed into a slot, unless its MiB is protected (R485). -/
def State.programChunk (k off : Nat) (bytes : List Byte) (s : State) : State :=
  let lo := slotWord k + off / 16
  if s.wordProtected lo then s else s.programWords lo (bytesWords bytes)

/-- The temper the controller presents, 0 while no firmware runs in an unpaired controller. -/
def State.presentTemper (s : State) : Nat :=
  if s.cw.paired then s.get F.CW_PAIR_TEMPER_TEMPER else if s.pw.firmware then s.get F.ID_TEMPER_TEMPER else 0

/-- QUERY_DEVICE_IDENTIFIERS (Table 14.8). -/
def execQueryDeviceIdentifiers (s : State) : Host.Outcome State Fault Refusal :=
  finish (s.pldm 5 0x01 fun a => ((Pldm.ok, [a.get F.ID_DEVICE_VENDOR_ID, a.get F.ID_DEVICE_DEVICE_ID, a.serial]), a))

/-- GET_FIRMWARE_PARAMETERS: the running version, that of the firmware slot not in use, and that of the configuration image applied; 0 where
there is none. -/
def execGetFirmwareParameters (s : State) : Host.Outcome State Fault Refusal :=
  finish (s.pldm 5 0x02 fun a =>
    let k := a.updateSlot 1
    let next := if a.slotValid k then hdrVersion (a.slotHeader k) else 0
    let conf := if a.rv.config = 0 then 0 else hdrVersion (a.slotHeader a.rv.config)
    ((Pldm.ok, [a.get F.ID_FW_VERSION_VERSION, next, conf]), a))

/-- REQUEST_UPDATE (R497). -/
def execRequestUpdate (s : State) : Host.Outcome State Fault Refusal :=
  finish (s.pldm 5 0x10 fun a =>
    if a.rv.update.st ≠ 0 then ((Pldm.already, []), a)
    else if a.rv.trial ∨ (a.rv.arm.any fun e => decide (e.1 ≠ 3)) ∨ a.mode = .save ∨ a.mode = .restore then ((Pldm.retry, []), a)
    else ((Pldm.ok, []), a.setUpdate { st := 1 }))

/-- PASS_COMPONENT_TABLE. -/
def execPassComponentTable (s : State) : Host.Outcome State Fault Refusal :=
  finish (s.pldm 5 0x13 fun a =>
    if a.rv.update.st = 0 then ((Pldm.first, []), a)
    else if a.rv.update.st ≠ 1 then ((Pldm.badState, []), a)
    else ((Pldm.ok, []), a.setUpdate { a.rv.update with st := 2 }))

/-- The next RequestFirmwareData, of at most 1,024 B, while bytes are missing. -/
def State.requestData (s : State) : State :=
  let u := s.rv.update
  if u.got < u.size then s.emit (.pldm 5 0x15 Pldm.ok [u.got, min 1024 (u.size - u.got)]) else s

/-- UPDATE_COMPONENT (R497): the whole slot is erased, and the first data requested. -/
def execUpdateComponent (comp : Fin 3) (size : Nat) (s : State) : Host.Outcome State Fault Refusal :=
  let s1 := s.pldm 5 0x14 fun a =>
    let u := a.rv.update
    let k := a.updateSlot comp.val
    if u.st = 0 then ((Pldm.first, []), a)
    else if u.st ≠ 2 ∧ u.st ≠ 5 then ((Pldm.badState, []), a)
    else if comp.val = 0 ∨ (comp.val = 2 ∧ a.rv.recovery) ∨ slotLen k * 16 < size then ((Pldm.invalidData, []), a)
    else ((Pldm.ok, []), (a.eraseSlot k).setUpdate { u with st := 3, comp := comp.val, size := size, got := 0, good := false })
  if s.bmcPort ∧ s.rv.update.st ≠ 3 ∧ s1.rv.update.st = 3 then finish s1.requestData else finish s1

/-- FIRMWARE_DATA_RX (R497): a chunk programmed, and the next requested. -/
def execFirmwareDataRx (off : Nat) (bytes : List Byte) (s : State) : Host.Outcome State Fault Refusal :=
  let u := s.rv.update
  if !s.bmcPort ∨ u.st ≠ 3 ∨ off ≠ u.got ∨ 1024 < bytes.length ∨ u.size < off + bytes.length ∨ bytes.isEmpty then finish s
  else finish ((s.programChunk (s.updateSlot u.comp) off bytes).setUpdate { u with got := off + bytes.length }).requestData

/-- The verification of a transferred image (R491, R497, R572): whether it passed, and what is raised. -/
def State.verifyImage (k : Nat) (s : State) : Bool × State :=
  let t := hdrTemper (s.slotHeader k)
  if !s.slotSound k then (false, s.raise Ev.FW_SIGNATURE_FAILED [])
  else if !s.slotValid k then (false, s.raise Ev.FW_ROLLBACK_REFUSED [])
  else if k < 2 ∧ t < s.presentTemper then (false, s.raise Ev.TEMPER_IMAGE_REFUSED [t])
  else (true, s)

/-- TRANSFER_COMPLETE (R497): the slot is verified; one that fails is left invalid. -/
def execTransferComplete (check : SlotCheck) (s : State) : Host.Outcome State Fault Refusal :=
  let u := s.rv.update
  if !s.bmcPort ∨ u.st ≠ 3 ∨ u.got < u.size then finish s
  else
    let k := s.updateSlot u.comp
    let s1 := { s with rv := { s.rv with checks := Sparse.set {} k check s.rv.checks } }
    let r := s1.verifyImage k
    let s2 := if r.1 then r.2 else { r.2 with rv := { r.2.rv with checks := Sparse.set {} k {} r.2.rv.checks } }
    finish ((s2.setUpdate { u with st := 4, good := r.1 }).emit (.pldm 5 0x16 Pldm.ok []))

/-- VERIFY_COMPLETE: the result reported (0: success); after a failure another transfer may begin. -/
def execVerifyComplete (s : State) : Host.Outcome State Fault Refusal :=
  let u := s.rv.update
  if !s.bmcPort ∨ u.st ≠ 4 then finish s
  else
    let s1 := s.emit (.pldm 5 0x17 Pldm.ok [flag (!u.good)])
    if u.good then finish s1 else finish (s1.setUpdate { u with st := 2 })

/-- APPLY_COMPLETE: a configuration image applies at the next BRINGUP, where its slot is tried first. -/
def execApplyComplete (s : State) : Host.Outcome State Fault Refusal :=
  let u := s.rv.update
  if !s.bmcPort ∨ u.st ≠ 4 ∨ !u.good then finish s
  else
    let s1 := if u.comp = 2 then { s with rv := { s.rv with cfgFirst := s.updateSlot 2 } } else s
    finish ((s1.setUpdate { u with st := 5, fw := u.fw || decide (u.comp = 1) }).emit (.pldm 5 0x18 Pldm.ok [0]))

/-- The update has ended (R485): the firmware slot in use is protected no longer. -/
def State.endUpdate (s : State) : State :=
  let v := s.get F.EFL_PROTECT_PROTECT
  (s.setUpdate {}).put F.EFL_PROTECT_PROTECT (if s.rv.recovery then v else v ^^^ (v &&& slotMiB s.rv.slot))

/-- ACTIVATE_FIRMWARE (R493, R497): TRIAL_SLOT and TRIAL set, or slot A made ACTIVE by the recovery loader; the Reeve resets once no key-store
update runs. The activation time is reported in s. -/
def execActivateFirmware (s : State) : Host.Outcome State Fault Refusal :=
  finish (s.pldm 5 0x1A fun a =>
    let u := a.rv.update
    if u.st = 0 then ((Pldm.first, []), a)
    else if u.st ≠ 5 then ((Pldm.badState, []), a)
    else if !u.fw then ((Pldm.ok, [0]), a.endUpdate)
    else
      let b := a.endUpdate
      let boot := if a.rv.recovery then { b with rv := { b.rv with active := 0, trial := false, trialStarted := false } }
        else { b with rv := { b.rv with trialSlot := a.updateSlot 1, trial := true, trialStarted := false } }
      ((Pldm.ok, [2]), boot.setUpdate { activate := true }))

/-- GET_STATUS: where the update stands, its component and the bytes received. -/
def execGetStatus (s : State) : Host.Outcome State Fault Refusal :=
  finish (s.pldm 5 0x1B fun a => ((Pldm.ok, [a.rv.update.st, a.rv.update.comp, a.rv.update.got]), a))

/-- CANCEL_UPDATE_COMPONENT: the slot written so far is left invalid. -/
def execCancelUpdateComponent (s : State) : Host.Outcome State Fault Refusal :=
  finish (s.pldm 5 0x1C fun a =>
    let u := a.rv.update
    if u.st = 0 then ((Pldm.first, []), a)
    else if u.st ≠ 3 ∧ u.st ≠ 4 then ((Pldm.badState, []), a)
    else
      let k := a.updateSlot u.comp
      ((Pldm.ok, []), ({ a with rv := { a.rv with checks := Sparse.set {} k {} a.rv.checks } }).setUpdate { u with st := 2, good := false }))

/-- CANCEL_UPDATE. -/
def execCancelUpdate (s : State) : Host.Outcome State Fault Refusal :=
  finish (s.pldm 5 0x1D fun a =>
    let u := a.rv.update
    if u.st = 0 then ((Pldm.first, []), a)
    else
      let b := if u.st = 3 ∨ u.st = 4 then
          { a with rv := { a.rv with checks := Sparse.set {} (a.updateSlot u.comp) {} a.rv.checks } }
        else a
      ((Pldm.ok, []), b.endUpdate))

/-- PLDM_UNSUPPORTED (R496). -/
def execPldmUnsupported (typ cmd : Nat) (s : State) : Host.Outcome State Fault Refusal :=
  if s.bmcPort then finish (s.emit (.pldm typ cmd Pldm.unsupported [])) else finish s

end Sys2Proof.Machine
end

