-- ==== Sys2Proof/Machine/Spdm.lean ====
section
/-! DEFINITION. The SPDM responder (R498) and its measurements (R499). -/

namespace Sys2Proof.Machine

open Sys2Proof

/-- The responder answers on a transport: the firmware runs, and the BMC port answers or the logical device's link is up. -/
def State.spdmUp (t : Transport) (s : State) : Bool :=
  s.pw.firmware && (match t with
    | .bmc => s.bmcPort
    | .doe ld => match s.linkOfLd ld.val with
      | some l => s.linkUp l
      | none => false)

/-- A request answered with what `f` gives. -/
def State.spdm (t : Transport) (f : State → SpdmReply × State) (s : State) : State :=
  if s.spdmUp t then (f s).2.emit (.spdm t (f s).1) else s

/-- The content of a measurement block of Table 14.9a. -/
def State.measurement (i : Nat) (s : State) : List Nat :=
  let h := s.slotHeader s.rv.slot
  match i with
  | 1 => [Config.romDigest.toNat]
  | 2 => [hdr h 32 48]
  | 3 => [hdrVersion h, hdrSecurity h, hdrTemper h]
  | 4 => [if s.rv.config = 0 then 0 else hdr (s.slotHeader s.rv.config) 32 48]
  | 5 => [s.get F.RDL_STATUS_LEVEL, s.get F.ID_FW_STATUS_SECURITY_COUNT, s.rv.part.revoked, s.rv.part.ownerHash]
  | 6 => [s.rv.part.deviceKey, keyIdOf s.rv.part.deviceKey]
  | 7 => [s.ownGuestRecord]
  | _ => [s.get F.CW_PAIR_ID_ID, s.get F.CW_PAIR_TEMPER_TEMPER]

/-- The blocks a GET_MEASUREMENTS asks for: their number, all of them, or one. -/
def State.measurements (i : Nat) (s : State) : SpdmReply :=
  if i = 0 then .measurements [(0, [8])]
  else if i = 255 then .measurements ((List.range 8).map fun k => (k + 1, s.measurement (k + 1)))
  else if i ≤ 8 then .measurements [(i, s.measurement i)] else .error

/-- The session is open. -/
def State.sessionOpen (id : Nat) (s : State) : Bool := s.rv.sessions.any fun e => decide (e.id = id)

/-- A session ended. -/
def State.endSession (id : Nat) (s : State) : State :=
  { s with rv := { s.rv with sessions := s.rv.sessions.filter fun e => decide (e.id ≠ id) } }

/-- A failed FINISH or MAC (R498): the session ends. -/
def State.spdmFailed (id : Nat) (s : State) : SpdmReply × State := (.error, (s.endSession id).raiseLimited Ev.SPDM_AUTH_FAILED 0 [])

/-- A request inside a session: an unknown session is an error, and one that fails its check ends it. -/
def State.inSession (id : Nat) (ok : Bool) (f : State → SpdmReply × State) (s : State) : SpdmReply × State :=
  if !s.sessionOpen id then (.error, s) else if ok then f s else s.spdmFailed id

/-- SPDM_GET_VERSION. -/
def execSpdmGetVersion (t : Transport) (s : State) : Host.Outcome State Fault Refusal :=
  finish (s.spdm t fun a => (.version [0x11, 0x12], a))

/-- SPDM_GET_CAPABILITIES: CERT, CHAL, MEAS with signature, KEY_EX, ENCRYPT, MAC and HBEAT. -/
def execSpdmGetCapabilities (t : Transport) (s : State) : Host.Outcome State Fault Refusal :=
  finish (s.spdm t fun a => (.capabilities, a))

/-- SPDM_NEGOTIATE_ALGORITHMS: ECDSA P-384, SHA-384, secp384r1 and AES-256-GCM. -/
def execSpdmNegotiateAlgorithms (t : Transport) (s : State) : Host.Outcome State Fault Refusal :=
  finish (s.spdm t fun a => (.algorithms, a))

/-- SPDM_GET_DIGESTS. -/
def execSpdmGetDigests (t : Transport) (s : State) : Host.Outcome State Fault Refusal :=
  finish (s.spdm t fun a => (.digests, a))

/-- SPDM_GET_CERTIFICATE: slot 0 holds the chain. -/
def execSpdmGetCertificate (t : Transport) (slot off len : Nat) (s : State) : Host.Outcome State Fault Refusal :=
  finish (s.spdm t fun a => (if slot = 0 then .certificate off len else .error, a))

/-- SPDM_CHALLENGE. -/
def execSpdmChallenge (t : Transport) (slot : Nat) (s : State) : Host.Outcome State Fault Refusal :=
  finish (s.spdm t fun a => (if slot = 0 then .challengeAuth else .error, a))

/-- SPDM_GET_MEASUREMENTS (R499). -/
def execSpdmGetMeasurements (t : Transport) (index : Nat) (s : State) : Host.Outcome State Fault Refusal :=
  finish (s.spdm t fun a => (a.measurements index, a))

/-- SPDM_KEY_EXCHANGE: at most 8 sessions over all transports. -/
def execSpdmKeyExchange (t : Transport) (s : State) : Host.Outcome State Fault Refusal :=
  finish (s.spdm t fun a =>
    if 8 ≤ a.rv.sessions.length then (.busy, a)
    else
      let id := a.rv.lastSession + 1
      (.keyExchange id, { a with rv := { a.rv with sessions := a.rv.sessions ++ [{ id := id, transport := t, secured := false }], lastSession := id } }))

/-- SPDM_FINISH. -/
def execSpdmFinish (t : Transport) (session : Nat) (ok : Bool) (s : State) : Host.Outcome State Fault Refusal :=
  finish (s.spdm t fun a => a.inSession session ok fun b =>
    (.finish session, { b with rv := { b.rv with
      sessions := b.rv.sessions.map fun e => if e.id = session then { e with secured := true } else e } }))

/-- SPDM_HEARTBEAT. -/
def execSpdmHeartbeat (t : Transport) (session : Nat) (ok : Bool) (s : State) : Host.Outcome State Fault Refusal :=
  finish (s.spdm t fun a => a.inSession session ok fun b => (.heartbeat session, b))

/-- SPDM_END_SESSION. -/
def execSpdmEndSession (t : Transport) (session : Nat) (ok : Bool) (s : State) : Host.Outcome State Fault Refusal :=
  finish (s.spdm t fun a => a.inSession session ok fun b => (.ended session, b.endSession session))

end Sys2Proof.Machine
end

