-- ==== Sys2Proof/Machine/Mgmt.lean ====
section
/-! DEFINITION. MGMT messages (R500 to R502, R530, R571, R488, R489): how a message reaches the Reeve, what each type does, and how its
response goes back. -/

namespace Sys2Proof.Machine

open Sys2Proof

/-! The paths (R500, R501). -/

/-- The message types of Table 14.11. -/
def mgmtTypes : List Nat :=
  [0x01, 0x02, 0x03, 0x04, 0x05, 0x06, 0x10, 0x11, 0x12, 0x13, 0x14, 0x20, 0x21, 0x22, 0x23, 0x30, 0x31, 0x32, 0x33, 0x34, 0x35, 0x36]

/-- A response: the 4 B header and the body. -/
def mgmtBytes (status : Nat) (body : List Nat) : List Nat := [status, 0] ++ leBytes 2 body.length ++ body

/-- The response data of a command queue pair: extension blocks of 32 B. -/
def extBlocks (bytes : List Nat) : List Nat :=
  (List.range (ceilDiv bytes.length 32)).map fun i => ((bytes.drop (32 * i)).take 32).foldr (fun b v => b + v * 256) 0

/-- The tenant and ADMIN of a host path. -/
def State.mgmtWho (p : MgmtPath) (s : State) : Option (Nat × Bool) :=
  match p with
  | .queue q _ => (s.queueBinding q).map fun b => ((s.queue q).tenant, b.admin)
  | .mailbox ld => some (s.get (F.LD_MAP_TENANT ld.val), s.isSet (F.LD_MAP_ADMIN ld.val))
  | .bmc => none

/-- A path may carry a type (Table 14.11): the BMC every one, a host those marked Host, and GRANT_SET with ADMIN. -/
def State.mgmtAllowed (p : MgmtPath) (typ : Nat) (s : State) : Bool :=
  match p with
  | .bmc => true
  | _ => decide (1 ≤ typ ∧ typ ≤ 5) || (decide (typ = 0x12) && (match s.mgmtWho p with
      | some w => w.2
      | none => false))

/-- The message waits at the Reeve: the operation handed to it, the mailbox command, or a message on the BMC port. `known`: its type is `typ`. -/
def State.mgmtWaits (p : MgmtPath) (typ : Nat) (s : State) : Bool :=
  s.pw.firmware && (match p with
    | .queue q seq => (match s.op? q seq with
        | some o => decide (dOpcode o.desc = 0x38) && decide (o.phase = .relayed) && decide (dbits o.desc 12 0 16 = typ)
        | none => false)
    | .mailbox ld => s.rv.mboxWait.contains (ld.val, typ)
    | .bmc => s.bmcPort)

/-- The path's number, under which MGMT_DENIED is limited. -/
def pathNum : MgmtPath → Nat
  | .queue _ _ => 0
  | .mailbox _ => 1
  | .bmc => 2

/-- The response sent on the path: on a queue the operation completes with the header's STATUS and the response length, its data before the
record; a response longer than RESP_MAX gives PARAM, with as much as fits on a ring
and at most 31 extension blocks on a command queue pair (R179, R193). -/
def State.mgmtSend (p : MgmtPath) (typ status : Nat) (body : List Nat) (s : State) : State :=
  let bytes := mgmtBytes status body
  match p with
  | .bmc => s.emit (.mgmt status body)
  | .mailbox ld =>
    ({ s with rv := { s.rv with mboxWait := s.rv.mboxWait.filter fun e => decide (e ≠ (ld.val, typ)) } }).mboxOk ld.val bytes
  | .queue q seq =>
    match s.op? q seq with
    | none => s
    | some o =>
      let room := dbits o.desc 24 0 16
      if isRing q then
        let s1 := if room = 0 then s else s.emit (.respData q (dbits o.desc 16 0 64) (bytes.take room))
        s1.completeOp q o (if room < bytes.length then St.PARAM else status) 0 bytes.length 0 []
      else s.completeOp q o (if room < bytes.length then St.PARAM else status) 0 bytes.length 0 ((extBlocks bytes).take 31)

/-- A message that is refused with DENIED (R501). -/
def State.mgmtDeny (p : MgmtPath) (typ : Nat) (s : State) : State :=
  (s.raiseLimited Ev.MGMT_DENIED (pathNum p) []).mgmtSend p typ St.DENIED []

/-- The types taken in BRINGUP beside the status types: the group reset, which R502 accepts there (DEDUCED: it is the more specific rule,
log entry 44). -/
def mgmtBringup (typ : Nat) : Bool := mgmtStatus typ || decide (typ = 0x30 ∨ typ = 0x31)

/-- A message handled (R500, R501): `f` gives its status and body. A disallowed path is DENIED, and a type that is not of the status class
gives NOT_READY in RESTORE and, but for the group reset, in BRINGUP. -/
def State.mgmt (p : MgmtPath) (typ : Nat) (f : State → (Nat × List Nat) × State) (s : State) : State :=
  if !s.mgmtWaits p typ then s
  else if !s.mgmtAllowed p typ then s.mgmtDeny p typ
  else if (s.mode = .bringup ∧ !mgmtBringup typ) ∨ (s.mode = .restore ∧ !mgmtStatus typ) then s.mgmtSend p typ St.NOT_READY []
  else
    let r := f s
    if r.1.1 = St.DENIED then r.2.mgmtDeny p typ else r.2.mgmtSend p typ r.1.1 r.1.2

/-- MGMT_OPERATION (R177, R500): a fetched operation handed to the Reeve once its firmware runs. -/
def execMgmtOperation (q seq : Nat) (s : State) : Host.Outcome State Fault Refusal :=
  match s.op? q seq with
  | none => finish s
  | some o =>
    let typ := dbits o.desc 12 0 16
    if dOpcode o.desc ≠ 0x38 ∨ o.phase ≠ .ready ∨ s.frozenMode then finish s
    else if (!s.mode.serving ∨ s.stopping) ∧ !mgmtStatus typ then finish (s.completeOp q o St.NOT_READY s.mode.num 0 0 [])
    else if s.fenced then finish (s.completeOp q o St.FENCED 0 0 0 [])
    else if s.mode.serving ∧ !s.tenantActive (s.queue q).tenant then finish (s.completeOp q o St.OBJECT_GONE 5 0 0 [])
    else if !s.pw.firmware then finish s
    else finish (s.setOp q { o with phase := .relayed })

/-- MAILBOX_MGMT_REQUEST (R500, Table 3.8): one message of a mailbox at a time. -/
def execMailboxMgmtRequest (ld : Fin 64) (typ : Nat) (s : State) : Host.Outcome State Fault Refusal :=
  finish (s.mailbox ld.val true false fun a =>
    if a.rv.mboxWait.any fun e => decide (e.1 = ld.val) then a.emit (.mailbox ld.val .busy [])
    else { a with rv := { a.rv with mboxWait := a.rv.mboxWait ++ [(ld.val, typ)] } })

/-- MGMT_UNKNOWN_TYPE (R500). -/
def execMgmtUnknownType (path : MgmtPath) (typ : Nat) (s : State) : Host.Outcome State Fault Refusal :=
  if !s.mgmtWaits path typ then finish s
  else if !mgmtTypes.contains typ then finish (s.mgmtSend path typ St.PARAM [])
  else if s.mgmtAllowed path typ then finish s else finish (s.mgmtDeny path typ)

/-! Status messages. -/

/-- The hottest junction in whole °C: 0.25 °C steps rounded down (log entry 42). -/
def State.hottestC (s : State) : Nat := ((BitVec.ofNat 16 (s.get F.TH_STATUS_HOTTEST)).sshiftRight 2).toNat

/-- The STATUS body (Table 14.11a). -/
def State.statusBody (s : State) : List Nat :=
  let b1 := s.get F.PLD_DUR_STATE_DUR_LEVEL + flag s.fenced * 4 + s.get F.PLD_DUR_STATE_HORIZON_FROZEN * 8 + s.get F.CW_STATUS_TWIN_CONTACT * 16 +
    s.get F.CW_STATUS_WITNESS_CONTACT * 32 + flag s.savePathOk * 64
  [s.mode.num, b1, s.get F.FB_STATUS_FREEBOARD_GIB, s.get F.FB_STATUS_M_EFF, s.get F.SLU_STATUS_STATE + s.get F.FL_STATUS_GROUP_STATE * 4,
   s.get F.RDL_STATUS_LEVEL] ++ leBytes 2 s.hottestC ++ leBytes 8 s.dirtyLines ++ leBytes 4 (s.get F.CW_PAIR_EPOCH_EPOCH) ++
    leBytes 4 (s.get F.ID_FW_VERSION_VERSION) ++ leBytes 2 (s.get F.ID_TEMPER_TEMPER) ++ leBytes 6 0

/-- MGMT_STATUS (Table 14.11a). -/
def execMgmtStatus (path : MgmtPath) (s : State) : Host.Outcome State Fault Refusal :=
  finish (s.mgmt path 0x01 fun a => ((St.SUCCESS, a.statusBody), a))

/-- MGMT_IDENTITY. -/
def execMgmtIdentity (path : MgmtPath) (s : State) : Host.Outcome State Fault Refusal :=
  finish (s.mgmt path 0x02 fun a => ((St.SUCCESS, ((List.range 16).map fun i => leBytes 4 (a.viewWord (4 * i))).flatten), a))

/-- MGMT_DEVICE_KEY. -/
def execMgmtDeviceKey (path : MgmtPath) (s : State) : Host.Outcome State Fault Refusal :=
  finish (s.mgmt path 0x03 fun a => ((St.SUCCESS, leBytes 97 a.rv.part.deviceKey ++ leBytes 8 (keyIdOf a.rv.part.deviceKey)), a))

/-- MGMT_SENSOR_READ: up to 32 channels. -/
def execMgmtSensorRead (path : MgmtPath) (channels : List (Fin 256)) (s : State) : Host.Outcome State Fault Refusal :=
  finish (s.mgmt path 0x04 fun a =>
    (if channels.length ≤ 32 ∧ channels.all (fun c => decide (c.val < 32)) then
      (St.SUCCESS, (channels.map fun c =>
        leBytes 4 (a.get (F.ADC_RESULT_VALUE c.val) + a.get (F.ADC_RESULT_RANGE c.val) * 2 ^ 28 + a.get (F.ADC_RESULT_RANGED c.val) * 2 ^ 30 +
          a.get (F.ADC_RESULT_VALID c.val) * 2 ^ 31)).flatten)
     else (St.PARAM, []), a))

/-- MGMT_BERM_READ (R565): `count` records from the first of pool `pool` on. -/
def execMgmtBermRead (path : MgmtPath) (pool count : Nat) (s : State) : Host.Outcome State Fault Refusal :=
  finish (s.mgmt path 0x05 fun a =>
    (if 1 ≤ pool ∧ pool ≤ 13 then
      (St.SUCCESS, ((List.range (min count (176 - poolBase pool))).map fun i =>
        ((bermWords (poolBase pool + i) (a.bermRec (poolBase pool + i))).map (leBytes 4)).flatten).flatten)
     else (St.PARAM, []), a))

/-- The records an EVENT_READ returns (R530): in SEQ order from START, or from the oldest when START is older than the tail. -/
def State.eventsFrom (start count : Nat) (s : State) : List EvRec :=
  let after (x y : Nat) : Bool := decide ((x + 2 ^ 32 - y) % 2 ^ 32 < 2 ^ 31)
  match s.fc.records.head? with
  | none => []
  | some t => (s.fc.records.filter fun r => !after start t.seq || after r.seq start).take count

/-- MGMT_EVENT_READ (R530). -/
def execMgmtEventRead (path : MgmtPath) (start count : Nat) (s : State) : Host.Outcome State Fault Refusal :=
  finish (s.mgmt path 0x06 fun a =>
    (if 1 ≤ count ∧ count ≤ 15 then (St.SUCCESS, ((a.eventsFrom start count).map recBytes).flatten) else (St.PARAM, []), a))

/-! Set-up messages. -/

/-- MGMT_TENANT_SET (R85). -/
def execMgmtTenantSet (path : MgmtPath) (tenant state weight regions gib : Nat) (s : State) : Host.Outcome State Fault Refusal :=
  finish (s.mgmt path 0x10 fun a =>
    if 4096 ≤ tenant then ((St.PARAM, []), a)
    else if tenant = 0 then ((St.SUCCESS, []), a)
    else ((St.SUCCESS, []), a.sequencePoint (.record 2 tenant [state % 4 + weight % 256 * 2 ^ 8, regions, gib]) none))

/-- MGMT_BINDING_SET (R85, R99). -/
def execMgmtBindingSet (path : MgmtPath) (pkeyMap : Bool) (i v : Nat) (s : State) : Host.Outcome State Fault Refusal :=
  finish (s.mgmt path 0x11 fun a =>
    if pkeyMap ∧ i < 4096 then ((St.SUCCESS, []), a.sequencePoint (.record 3 i [v]) none)
    else if !pkeyMap ∧ i < 64 then ((St.SUCCESS, []), a.writeLdMap i v)
    else ((St.PARAM, []), a))

/-- A host path may set a grant: its own tenant's, and not one in force for another (R501). -/
def State.grantOwn (p : MgmtPath) (grant w0 : Nat) (s : State) : Bool :=
  match s.mgmtWho p with
  | none => true
  | some w => decide (bitsOf w0 0 12 = w.1) &&
      (!s.isSet (F.KG_GRANT_W0_VALID grant) || decide (s.get (F.KG_GRANT_W0_TENANT grant) = w.1))

/-- MGMT_GRANT_SET (R455): words 1 and 2 before word 0, which makes the grant VALID or revokes it. -/
def execMgmtGrantSet (path : MgmtPath) (grant w0 w1 w2 : Nat) (s : State) : Host.Outcome State Fault Refusal :=
  finish (s.mgmt path 0x12 fun a =>
    if 256 ≤ grant then ((St.PARAM, []), a)
    else if !a.grantOwn path grant w0 then ((St.DENIED, []), a)
    else ((St.SUCCESS, []), ((a.grantWrite grant 1 w1).grantWrite grant 2 w2).grantWrite grant 0 w0))

/-- MGMT_REG_READ: the value as the Reeve reads it; a register of the guest is read through the guest, whose answer, or its absence, is the
response (R475). -/
def execMgmtRegRead (path : MgmtPath) (off : Nat) (s : State) : Host.Outcome State Fault Refusal :=
  if off % 4 = 0 ∧ 0xF40000 ≤ off ∧ off < 0xF50000 ∧ s.mgmtWaits path 0x13 ∧ s.mgmtAllowed path 0x13 then
    finish (s.gregStart (off - 0xF40000) false 0 true)
  else
    finish (s.mgmt path 0x13 fun a =>
      if off % 4 ≠ 0 ∨ 0x2000000 ≤ off then ((St.PARAM, []), a)
      else
        let r := a.readReg .reeve off false
        ((St.SUCCESS, leBytes 4 r.1), r.2))

/-- A word takes no write of REG_WRITE (R501): no field of it is writable, or those that are writable are locked; key-slot registers never
do. -/
def State.regDenied (off : Nat) (s : State) : Bool :=
  let ps := (wordParts off).filter fun p => p.row.acc.writable
  (decide (0x701000 ≤ off) && decide (off < 0x730000)) || ps.all fun p => decide (p.row.acc = .rwl) && s.locked p

/-- MGMT_REG_WRITE (R501). -/
def execMgmtRegWrite (path : MgmtPath) (off v : Nat) (s : State) : Host.Outcome State Fault Refusal :=
  finish (s.mgmt path 0x14 fun a =>
    if off % 4 ≠ 0 ∨ 0x2000000 ≤ off then ((St.PARAM, []), a)
    else if a.regDenied off then ((St.DENIED, []), a)
    else ((St.SUCCESS, []), (a.dropLatch .reeve off).writeWord .reeve off (v % 2 ^ 32)))

/-! Service messages. -/

/-- MGMT_ASSAY_NOW (R267). -/
def execMgmtAssayNow (path : MgmtPath) (s : State) : Host.Outcome State Fault Refusal :=
  finish (s.mgmt path 0x20 fun a => ((St.SUCCESS, []), a.requestAssay))

/-- MGMT_PAIR_CMD (Table 12.17): a bit of CW_CMD written. -/
def execMgmtPairCmd (path : MgmtPath) (bit : Nat) (s : State) : Host.Outcome State Fault Refusal :=
  finish (s.mgmt path 0x21 fun a => if bit < 5 then ((St.SUCCESS, []), a.writeCwCmd (2 ^ bit)) else ((St.PARAM, []), a))

/-- The fields SERVICE may write at an offset, as a mask: SERVICE, FAIL_NOW and RESET (Table 14.11). -/
def serviceMask (off : Nat) : Nat :=
  if 0x200100 ≤ off ∧ off < 0x200180 ∧ off % 0x20 = 0 then 1
  else if 0x301000 ≤ off ∧ off < 0x301800 ∧ off % 0x80 = 0 then 1
  else if 0x810000 ≤ off ∧ off < 0x910000 ∧ off % 0x10000 = 0 then 1
  else if 0xC01000 ≤ off ∧ off < 0xC02400 ∧ off % 0x100 = 0 then 1
  else if off = 0xE00100 ∨ off = 0xE00140 then 1
  else if off = 0xF00004 then 3
  else 0

/-- MGMT_SERVICE (Table 14.11). -/
def execMgmtService (path : MgmtPath) (off v : Nat) (s : State) : Host.Outcome State Fault Refusal :=
  finish (s.mgmt path 0x22 fun a =>
    let m := serviceMask off
    if m = 0 ∨ v &&& m ≠ v then ((St.PARAM, []), a) else ((St.SUCCESS, []), a.writeWord .reeve off v))

/-- TEMPER_SET decided (Table 17.5): in PAIRED the change waits for the COMMIT of its frame (R442). -/
def State.temperCommand (t : Nat) (s : State) : (Nat × List Nat) × State :=
  let top := if s.cw.paired then min (s.get F.ID_TEMPER_TEMPER_MAX) s.cw.partnerTemperMax else s.get F.ID_TEMPER_TEMPER_MAX
  if t ≤ s.get F.ID_TEMPER_TEMPER ∨ top < t then ((St.PARAM, []), s)
  else if s.mode = .paired then
    let f := s.sendFrame (.temperSet t)
    ((St.SUCCESS, leBytes 2 t), { f.2 with cw := { f.2.cw with txStaged := f.2.cw.txStaged ++ [(f.1, .temperSet t, none)] } })
  else if s.mode = .solo ∧ !s.cw.paired then ((St.SUCCESS, leBytes 2 t), s.changeTemper t)
  else ((St.NOT_READY, []), s)

/-- MGMT_TEMPER_SET (R571). -/
def execMgmtTemperSet (path : MgmtPath) (temper : Nat) (s : State) : Host.Outcome State Fault Refusal :=
  finish (s.mgmt path 0x23 fun a => a.temperCommand temper)

/-! Arms and confirms (R488, R489, R502). -/

/-- An arm of a kind: a challenge drawn and returned. -/
def State.armWith (kind : Nat) (s : State) : (Nat × List Nat) × State :=
  let d := s.draw 32
  ((St.SUCCESS, leBytes 4 d.1), d.2.setArm (some (kind, d.1)))

/-- A confirm: with a wrong or stale challenge PARAM, and the arm is cancelled (R501). -/
def State.confirm (kind challenge : Nat) (f : State → (Nat × List Nat) × State) (s : State) : (Nat × List Nat) × State :=
  if s.rv.arm = some (kind, challenge) then f s else ((St.PARAM, []), s.setArm none)

/-- GROUP_RESET_ARM (R502). -/
def execGroupResetArm (path : MgmtPath) (s : State) : Host.Outcome State Fault Refusal :=
  finish (s.mgmt path 0x30 fun a => a.armWith 3)

/-- A group reset is accepted (R502). -/
def State.groupResetReady (s : State) : Bool :=
  let lost := decide (s.get (F.FC_SRC_STATUS_COUNT Ev.GROUP_LOST) ≠ 0) || decide (s.get (F.FC_SRC_STATUS_COUNT Ev.JOURNAL_DAMAGED) ≠ 0)
  let none_ := !(s.regions.any fun e => decide (e.2.state = 1) && decide (e.1 % 4096 ≠ 0))
  (decide (s.mode = .quarantine) && lost) || ((decide (s.mode = .solo) || decide (s.mode = .bringup)) && none_)

/-- GROUP_RESET_CONFIRM (R502). -/
def execGroupResetConfirm (path : MgmtPath) (challenge : Nat) (s : State) : Host.Outcome State Fault Refusal :=
  let act (a : State) : (Nat × List Nat) × State :=
    a.confirm 3 challenge fun b => if b.groupResetReady then ((St.SUCCESS, []), (b.setArm none).groupReset) else ((St.NOT_READY, []), b)
  finish (s.mgmt path 0x31 act)

/-- READOUT_RAISE (R488): from level 0 only. -/
def execReadoutRaise (path : MgmtPath) (s : State) : Host.Outcome State Fault Refusal :=
  finish (s.mgmt path 0x32 fun a =>
    if 8 ≤ a.get F.RDL_STATUS_RAISES then ((St.LIMIT, []), a)
    else if a.get F.RDL_STATUS_LEVEL ≠ 0 then ((St.DENIED, []), a)
    else ((St.SUCCESS, []), a.blowRaise))

/-- READOUT_LOWER_ARM (R489): at level 1 (Table 14.6). -/
def execReadoutLowerArm (path : MgmtPath) (s : State) : Host.Outcome State Fault Refusal :=
  finish (s.mgmt path 0x33 fun a => if a.get F.RDL_STATUS_LEVEL ≠ 1 then ((St.DENIED, []), a) else a.armWith 1)

/-- The lowering begins (R489 step 1): every ACTIVE tenant removed at its sequence point. -/
def State.startLowering (s : State) : State :=
  let ts := (List.range 4096).filter fun t => s.tenantActive t
  let s1 := s.forEach ts fun t a => a.sequencePoint (.record 2 t (a.tenantWords t 2)) none
  { s1 with rv := { s1.rv with lowering := true } }

/-- READOUT_LOWER_CONFIRM (R489). -/
def execReadoutLowerConfirm (path : MgmtPath) (challenge : Nat) (s : State) : Host.Outcome State Fault Refusal :=
  finish (s.mgmt path 0x34 fun a => a.confirm 1 challenge fun b =>
    if b.mode = .paired ∨ !b.cw.paired then ((St.SUCCESS, []), (b.setArm none).startLowering) else ((St.NOT_READY, []), b))

/-- READOUT_FINAL_ARM (R488): at level 1 (Table 14.6). -/
def execReadoutFinalArm (path : MgmtPath) (s : State) : Host.Outcome State Fault Refusal :=
  finish (s.mgmt path 0x35 fun a => if a.get F.RDL_STATUS_LEVEL ≠ 1 then ((St.DENIED, []), a) else a.armWith 2)

/-- READOUT_FINAL_CONFIRM (R488): FINAL blown. -/
def execReadoutFinalConfirm (path : MgmtPath) (challenge : Nat) (s : State) : Host.Outcome State Fault Refusal :=
  finish (s.mgmt path 0x36 fun a => a.confirm 2 challenge fun b =>
    let c := b.setArm none
    ((St.SUCCESS, []), ({ c with rv := { c.rv with part := { c.rv.part with final := true } } }).syncReadout))

end Sys2Proof.Machine
end

