-- ==== Sys2Proof/Machine/Pair.lean ====
section
/-! DEFINITION. The Causeway's commands (R408 to R418): paths, mirror frames, CONTROL and HELLO frames, and their timers. -/

namespace Sys2Proof.Machine

open Sys2Proof

/-! Paths (Table 12.1). -/

/-- PATH_TRAINING_DONE (R409): HELLO is sent when no link key is in force. -/
def execPathTrainingDone (p : Fin 2) (s : State) : Host.Outcome State Fault Refusal :=
  if s.pathState p.val ≠ 1 then finish s
  else
    let s1 := (s.setPath p.val 2).endCond (Ev.PATH_DOWN p.val)
    finish (if s1.cw.linkKey then s1 else if s1.cw.hello then s1.emit (.cwHello p.val s1.helloOut) else s1.startHello)

/-- PATH_TRAINING_TIMEOUT (R409). -/
def execPathTrainingTimeout (p : Fin 2) (s : State) : Host.Outcome State Fault Refusal :=
  if s.pathState p.val = 1 then finish (s.pathDown p.val true) else finish s

/-- PATH_RETRAIN_DUE (R409). -/
def execPathRetrainDue (p : Fin 2) (s : State) : Host.Outcome State Fault Refusal :=
  finish (s.setCwPath p.val { s.cwPath p.val with retry := false })

/-- PATH_LINK_LOSS (R409). -/
def execPathLinkLoss (p : Fin 2) (fec : Fec) (s : State) : Host.Outcome State Fault Refusal :=
  if s.pathState p.val = 2 then finish (((s.countFec p.val fec).raise (Ev.PATH_DOWN p.val) []).pathDown p.val false) else finish s

/-- CW_PATH_SERVICE_WRITE (R409). -/
def execCwPathServiceWrite (p : Fin 2) (service : Bool) (s : State) : Host.Outcome State Fault Refusal := finish (s.pathService p.val service)

/-! Mirror frames (R414). -/

/-- LINES_FRAME_RX (R413). -/
def execLinesFrameRx (m : MirrorRx) (es : List LineEntry) (win : Option WinRec) (s : State) : Host.Outcome State Fault Refusal :=
  finish (s.receive State.landRepaired m (match win with
    | none => .lines es
    | some w => .window w))

/-- LINES_BG_FRAME_RX (R413). -/
def execLinesBgFrameRx (m : MirrorRx) (es : List LineEntry) (s : State) : Host.Outcome State Fault Refusal :=
  finish (s.receive State.landRepaired m (.linesBg es))

/-- PAGE_MARK_RX (R438). -/
def execPageMarkRx (m : MirrorRx) (es : List (Nat × Bool)) (s : State) : Host.Outcome State Fault Refusal :=
  finish (s.receive State.landRepaired m (.pageMark es))

/-- HORIZON_FRAME_RX (R36). -/
def execHorizonFrameRx (m : MirrorRx) (es : List (Nat × Nat)) (s : State) : Host.Outcome State Fault Refusal :=
  finish (s.receive State.landRepaired m (.horizon es))

/-- RECORD_FRAME_RX (R417). -/
def execRecordFrameRx (m : MirrorRx) (kind idx : Nat) (words : List Nat) (s : State) : Host.Outcome State Fault Refusal :=
  finish (s.receive State.landRepaired m (.record kind idx words))

/-- RECORD_COMMIT_RX (R417). -/
def execRecordCommitRx (m : MirrorRx) (seqs : List Nat) (s : State) : Host.Outcome State Fault Refusal :=
  finish (s.receive State.landRepaired m (.commit seqs))

/-- KEY_GEN_ENTRY_RX (R415). -/
def execKeyGenEntryRx (m : MirrorRx) (side gen tenant midx salt : Nat) (s : State) : Host.Outcome State Fault Refusal :=
  finish (s.receive State.landRepaired m (.keyGen side gen tenant midx salt))

/-- KEY_MASTER_RX (R415). -/
def execKeyMasterRx (m : MirrorRx) (tenant midx serial master : Nat) (s : State) : Host.Outcome State Fault Refusal :=
  finish (s.receive State.landRepaired m (.keyMaster tenant midx serial master))

/-- KEY_DESTROY_RX (R415). -/
def execKeyDestroyRx (m : MirrorRx) (tenantKey : Bool) (a b : Nat) (s : State) : Host.Outcome State Fault Refusal :=
  finish (s.receive State.landRepaired m (if tenantKey then .keyDestroyMaster a b else .keyDestroyGen a b))

/-- REPAIR_REQ_RX (R440). -/
def execRepairReqRx (m : MirrorRx) (id page : Nat) (s : State) : Host.Outcome State Fault Refusal :=
  finish (s.receive State.landRepaired m (.repairReq id page))

/-- ASSAY_STATE_RX (R267). -/
def execAssayStateRx (m : MirrorRx) (claim : Bool) (s : State) : Host.Outcome State Fault Refusal :=
  finish (s.receive State.landRepaired m (.assayState claim))

/-- DRAIN_BEGIN_RX (R435). -/
def execDrainBeginRx (m : MirrorRx) (s : State) : Host.Outcome State Fault Refusal := finish (s.receive State.landRepaired m .drainBegin)

/-- CATCHUP_BEGIN_RX (R438). -/
def execCatchupBeginRx (m : MirrorRx) (full0 full1 : Bool) (s : State) : Host.Outcome State Fault Refusal :=
  finish (s.receive State.landRepaired m (.catchupBegin full0 full1))

/-- CATCHUP_DONE_RX (R438). -/
def execCatchupDoneRx (m : MirrorRx) (s : State) : Host.Outcome State Fault Refusal := finish (s.receive State.landRepaired m .catchupDone)

/-- TEMPER_SET_RX (R442): staged until its COMMIT. -/
def execTemperSetRx (m : MirrorRx) (temper : Nat) (s : State) : Host.Outcome State Fault Refusal :=
  finish (s.receive State.landRepaired m (.temperSet temper))

/-- UNPAIR_RX (R441): staged until its COMMIT. -/
def execUnpairRx (m : MirrorRx) (s : State) : Host.Outcome State Fault Refusal := finish (s.receive State.landRepaired m .unpair)

/-- REPAIR_DONE_RX (R401). -/
def execRepairDoneRx (m : MirrorRx) (id status : Nat) (s : State) : Host.Outcome State Fault Refusal :=
  finish (s.receive State.landRepaired m (.repairDone id status))

/-- KEY_COMMITTED_RX (R333). -/
def execKeyCommittedRx (m : MirrorRx) (seq : Nat) (s : State) : Host.Outcome State Fault Refusal :=
  finish (s.receive State.landRepaired m (.keyCommitted seq))

/-! The control streams (R415, R416). -/

/-- CONTROL_FRAME_RX (R415). -/
def execControlFrameRx (c : ControlRx) (s0 : State) : Host.Outcome State Fault Refusal :=
  let p := c.path.val
  let s := s0.when (decide (s0.pathState p = 2)) (State.countFec p c.fec)
  if s.pathState p ≠ 2 then finish s
  else if !c.fchk then finish (s.bump (F.CW_PATH_CRC_DISCARDS_COUNT p) 1)
  else if !c.tag ∨ !s.cw.linkKey then finish (s.authFailed p)
  else
    let s1 := (s.twinHeard.takeAck c.ack).takeCredit c.credit |>.pump
    let s2 := if c.nak = 0 then s1 else s1.resend c.nak
    let s3 := { s2 with cw := { s2.cw with partnerMode := c.mode, partnerFenced := c.fenced, partnerServing := c.serving,
                                           partnerReady := c.ready, partnerMeff := c.mEff, partnerEpoch := c.epoch } }
    if s3.get F.CW_PAIR_EPOCH_EPOCH < c.epoch then finish (s3.learnGrant c.epoch (if c.serving then s3.side else 1 - s3.side))
    else finish (s3.heedPartner c)

/-! HELLO (R418, R419, R442). -/

/-- HELLO_RX (R418, R419). -/
def execHelloRx (p : Fin 2) (fchk : Bool) (fec : Fec) (h : Hello) (s0 : State) : Host.Outcome State Fault Refusal :=
  let s := s0.when (decide (s0.pathState p.val = 2)) (State.countFec p.val fec)
  if s.pathState p.val ≠ 2 then finish s
  else if !fchk then finish (s.bump (F.CW_PATH_CRC_DISCARDS_COUNT p.val) 1)
  else
    let why := s.helloRefusal h
    if why ≠ 0 then finish (s.raise Ev.PAIRING_REFUSED [why])
    else
      let s1 := s.twinHeard.pairWith h
      let s2 := if s1.cw.hello then s1 else s1.startHello
      let s3 := ({ s2 with cw := { s2.cw with helloHeard := true } })
      if h.echo ∧ s1.cw.hello ∧ s1.cw.paired ∧ s1.get F.CW_PAIR_ID_ID = h.pairId then
        finish ((s3.sendHellos.formKey h).linkFormed (!s.cw.linkKey) h)
      else finish s3

/-! Timers of the streams. -/

/-- NAK_TIMER (R414): the missing SEQ named on both paths. -/
def execNakTimer (s : State) : Host.Outcome State Fault Refusal :=
  let miss := s.get F.CW_RX_SEQ_SEQ + 1
  if s.cw.linkKey ∧ !s.cw.held.isEmpty ∧ !(s.cw.held.any fun (f : Nat × CwBody) => decide (f.1 = miss)) then
    let s1 := { s with cw := { s.cw with nak := miss } }
    finish (s1.forEach s1.pathsUp fun p a => a.sendControl p)
  else finish s

/-- RETRANSMIT_TIMER (R414). -/
def execRetransmitTimer (seq : Nat) (s : State) : Host.Outcome State Fault Refusal := finish (s.resend seq)

/-- CONTROL_SEND_TIMER (R415). -/
def execControlSendTimer (p : Fin 2) (s : State) : Host.Outcome State Fault Refusal :=
  if s.pathState p.val = 2 ∧ s.cw.linkKey then finish (s.sendControl p.val) else finish s

/-- HELLO_SEND_TIMER (R418). -/
def execHelloSendTimer (s : State) : Host.Outcome State Fault Refusal :=
  if s.cw.hello then finish s.sendHellos else finish s

/-- REKEY_DUE (R418). -/
def execRekeyDue (s : State) : Host.Outcome State Fault Refusal := finish s.rekey

/-- CW_REKEY (R418). -/
def execCwRekey (s : State) : Host.Outcome State Fault Refusal := finish s.rekey

/-- OLD_KEY_EPOCH_EXPIRY (R418). -/
def execOldKeyEpochExpiry (s : State) : Host.Outcome State Fault Refusal := finish { s with cw := { s.cw with oldEpoch := false, oldKey := 0 } }

end Sys2Proof.Machine
end

