-- ==== Sys2Proof/Machine/Polder.lean ====
section
/-! DEFINITION. The Polder's own commands: write completions, the mirror window, PERSIST and Global Persistent Flush
(R18 to R32, R210). -/

namespace Sys2Proof.Machine

open Sys2Proof

/-- WRITE_COMPLETION (R210): the read-back check of an accepted write. A failed check writes the entry again and delays the
completion; a passed one completes the write, or leaves it waiting for twin durability. -/
def execWriteCompletion (id : Nat) (readbackOk : Bool) (s : State) : Host.Outcome State Fault Refusal :=
  match s.writes.find? fun w => decide (w.id = id) with
  | none => finish s
  | some w =>
    if w.done20 ∨ s.mode = .save ∨ s.mode = .quarantine then finish s
    else if readbackOk then
      finish { s with writes := s.writes.map fun (x : WriteRec) => if x.id = id then { x with done20 := true } else x }
    else
      let slice := s.get (F.HA_MAP_PHYS (homeOf w.line))
      let s1 := { s with writes := s.writes.map fun (x : WriteRec) => if x.id = id then { x with repeats := x.repeats + 1 } else x }
      finish ((s1.bump F.FP_QUEUE_READBACK_COUNT 1).raiseLimited Ev.HA_QUEUE_READBACK slice [])

/-- MIRROR_WINDOW_DRAIN (R21, R201): with room in the window, the held writes are eligible again, and their home agents grant them by the
rotating priority as far as there is room. -/
def execMirrorWindowDrain (s : State) : Host.Outcome State Fault Refusal :=
  if s.frozenMode then finish s else finish s.drainHeld

/-- PERSIST (R28, R29): waits in PAIRED and DRAIN; in a LOCAL mode it completes at once with LOCAL_ONLY. -/
def execPersist (q seq : Nat) (s : State) : Host.Outcome State Fault Refusal :=
  finish (s.startOp q seq 1 (fun o a =>
    if a.mode.twin then a.setOp q { o with phase := .running }
    else a.completeOp q o St.LOCAL_ONLY 0 0 0 []))

/-- PERSIST_COMPLETE (R28): every write it covers twin-durable, the queue's horizon at its SEQ, and the horizon record
acknowledged, which is when the horizon carries it. -/
def execPersistComplete (q seq : Nat) (s : State) : Host.Outcome State Fault Refusal :=
  match s.op? q seq with
  | none => finish s
  | some o =>
    if dOpcode o.desc = 1 ∧ o.phase = .running ∧ s.mode.twin ∧ !s.fenced then
      if o.cover ≤ s.ackSeq ∧ seq ≤ (s.queue q).horizon then finish (s.completeOp q o St.SUCCESS 0 0 0 [])
      else finish s
    else finish s

/-- PERSIST_STALLED (R29): raised once for a PERSIST that has been pending for PERSIST_WATCH_MS; it goes on waiting. -/
def execPersistStalled (q seq : Nat) (s : State) : Host.Outcome State Fault Refusal :=
  match s.op? q seq with
  | none => finish s
  | some o =>
    if dOpcode o.desc = 1 ∧ o.phase = .running ∧ !o.stalled ∧ s.isSet F.PLD_CFG_PERSIST_WATCH_EN ∧
        s.get F.PLD_CFG_PERSIST_WATCH_MS ≠ 0 then
      finish ((s.setOp q { o with stalled := true }).raise Ev.PERSIST_STALLED [])
    else finish s

/-- GPF_PHASE1 (R31): no device action. -/
def execGpfPhase1 (ld : Fin 64) (s : State) : Host.Outcome State Fault Refusal :=
  match s.linkOfLd ld.val with
  | some l => if s.linkUp l ∧ !s.frozenMode then finish (s.emit (.gpfAck ld.val 1)) else finish s
  | none => finish s

/-- Phase 2 of a logical device ends with a LAST_RESULT (R62, R63). -/
def State.endGpf (n result us : Nat) (s : State) : State :=
  ((s.setLd n { s.ld n with gpf := none }).put F.PLD_GPF_STATUS_LAST_RESULT result
    |>.put F.PLD_GPF_LAST_US_DURATION_US (min us 16777215)).emit (.gpfAck n 2)

/-- GPF_PHASE2 (R31): counted; at once in the LOCAL modes, when fenced, and for a dormant device (R121), which records LOCAL with a duration
of 0 (log entry 48), as does one in BRINGUP or RESTORE, where Table 1.4 offers nothing (log entry 131); else it waits for every write
accepted so far. -/
def execGpfPhase2 (ld : Fin 64) (s : State) : Host.Outcome State Fault Refusal :=
  match s.linkOfLd ld.val with
  | none => finish s
  | some l =>
    if !s.linkUp l ∨ s.frozenMode then finish s
    else
      let n := ld.val
      let s1 := s.put F.PLD_GPF_STATUS_GPF_COUNT (s.get F.PLD_GPF_STATUS_GPF_COUNT + 1)
      if s1.isSet (F.LD_MAP_DORMANT n) ∧ !s1.isSet (F.CXL_LD_STATUS_ACTIVATED n) then finish (s1.endGpf n 2 0)
      else if s1.fenced then finish (s1.endGpf n 3 0)
      else if !s1.mode.twin then finish (s1.endGpf n 2 0)
      else finish (s1.setLd n { s1.ld n with gpf := some (s1.get F.CW_TX_SEQ_SEQ, s1.now) })

/-- GPF_PHASE2_DONE (R32): TWIN within 2 ms, LATE after that; a pending phase 2 ends as LOCAL or FENCED when the mode or a
fence ends mirroring. DURATION_US takes the whole microseconds (log entry 132). -/
def execGpfPhase2Done (ld : Fin 64) (s : State) : Host.Outcome State Fault Refusal :=
  match (s.ld ld.val).gpf with
  | none => finish s
  | some (seq, start) =>
    let us := (s.now - start) / 2000
    if s.frozenMode then finish s
    else if s.fenced then finish (s.endGpf ld.val 3 us)
    else if !s.mode.twin then finish (s.endGpf ld.val 2 us)
    else if seq ≤ s.ackSeq then finish (s.endGpf ld.val (if s.now - start ≤ msFc 2 then 1 else 4) us)
    else finish s

end Sys2Proof.Machine
end

