-- ==== Sys2Proof/Machine/QueueOps.lean ====
section
/-! DEFINITION. The operations chapter 5 owns: COPY and ZERO (R181, R275), WAIT (R183, R184), ABORT (R185 to R187), and the
assembly of multi-part operations (R176). -/

namespace Sys2Proof.Machine

open Sys2Proof

/-! COPY and ZERO. -/

/-- COPY (R181). -/
def execCopy (q seq : Nat) (sram : List Nat) (s : State) : Host.Outcome State Fault Refusal :=
  finish (s.startOp q seq 2 fun o a => a.startCopy q o sram)

/-- ZERO (R181). -/
def execZero (q seq : Nat) (s : State) : Host.Outcome State Fault Refusal :=
  finish (s.startOp q seq 3 fun o a => a.startCopy q o [])

/-- COPY_ZERO_RESUME (R275). -/
def execCopyZeroResume (q seq : Nat) (sram : List Nat) (s : State) : Host.Outcome State Fault Refusal :=
  finish (s.resumeCopy q seq sram)

/-- COPY_ZERO_DONE (R181): the last line accepted and merged and the read-back of its queue entries passed (R210), the operation completes,
at twin durability where Table 1.3 asks for it. -/
def execCopyZeroDone (q seq : Nat) (s : State) : Host.Outcome State Fault Refusal :=
  match s.op? q seq with
  | none => finish s
  | some o =>
    let (dst, _, len) := copyOperands o.desc
    if (dOpcode o.desc = 2 ∨ dOpcode o.desc = 3) ∧ o.phase = .running ∧ len ≤ o.done ∧ !s.opMerging q seq ∧
        !(s.writes.any fun w => decide (w.src = .op q seq) && !w.done20) ∧ !s.frozenMode then
      match s.opFailed q seq with
      | some st =>
        finish (({ s with failed := s.failed.filter fun e => decide (e.1 ≠ Src.op q seq) }).endCopy q
          { o with done := doneBefore dst len o.done } st 0)
      | none => finish (s.finishOp q o St.SUCCESS 0 0 o.done)
    else finish s

/-- HAZARD_HOLD_RELEASE (R180): a held operation starts once no earlier incomplete operation shares a line with it. -/
def execHazardHoldRelease (q seq : Nat) (sram : List Nat) (s : State) : Host.Outcome State Fault Refusal :=
  match s.op? q seq with
  | none => finish s
  | some o =>
    if o.phase = .held ∧ !s.hazard q o then finish (s.startOp q seq (dOpcode o.desc) fun p a => a.startCopy q p sram)
    else finish s

/-! WAIT. -/

/-- WAIT (R183, R184). -/
def execWait (q seq : Nat) (s : State) : Host.Outcome State Fault Refusal :=
  finish (s.startOp q seq 8 fun o a =>
    let t := targetKey o.desc
    if !a.targetExists t then a.endWait q o St.NO_TARGET 0
    else if (a.queue t).tenant ≠ (a.queue q).tenant then a.endWait q o St.DENIED 0
    else (a.setOp q { o with phase := .running }).testWait q { o with phase := .running })

/-- WAIT_SATISFIED (R183): tested at a change of the target's value. -/
def execWaitSatisfied (q seq : Nat) (s : State) : Host.Outcome State Fault Refusal :=
  match s.op? q seq with
  | none => finish s
  | some o =>
    if dOpcode o.desc = 8 ∧ o.phase = .running ∧ !s.frozenMode then finish (s.testWait q o) else finish s

/-- WAIT_TIMEOUT (R184): a TIMEOUT_US of 0 is no time-out. -/
def execWaitTimeout (q seq : Nat) (s : State) : Host.Outcome State Fault Refusal :=
  match s.op? q seq with
  | none => finish s
  | some o =>
    if dOpcode o.desc = 8 ∧ o.phase = .running ∧ dbits o.desc 28 0 32 ≠ 0 ∧ !s.frozenMode then
      finish (s.endWait q o St.TIMEOUT 0)
    else finish s

/-! ABORT. -/

/-- ABORT (R185 to R187). -/
def execAbort (q seq : Nat) (s : State) : Host.Outcome State Fault Refusal :=
  finish (s.startOp q seq 9 fun o a =>
    let t := targetKey o.desc
    if !a.targetExists t then a.completeOp q o St.NO_TARGET 0 0 0 []
    else if (a.queue t).tenant ≠ (a.queue q).tenant then a.completeOp q o St.DENIED 0 0 0 []
    else if dbits o.desc 24 0 1 = 1 then a.abortQueue q o t else a.abortOne q o t)

/-- MULTIPART_ASSEMBLED (R176): every part fetched, the operation may start, or completes with what its head or a part
decided. -/
def execMultipartAssembled (q seq : Nat) (s : State) : Host.Outcome State Fault Refusal :=
  match s.op? q seq with
  | none => finish s
  | some o =>
    if o.phase = .assembling ∧ o.payload.length + 1 = o.parts then
      match o.fin with
      | some f => finish (s.completeOp q o f.1 f.2.1 f.2.2.1 f.2.2.2 [])
      | none => finish (s.setOp q { o with phase := .ready })
    else finish s

end Sys2Proof.Machine
end

