-- ==== Sys2Proof/Machine/Rdma.lean ====
section
/-! DEFINITION. The Ethernet and RDMA commands (R135 to R162). -/

namespace Sys2Proof.Machine

open Sys2Proof

/-! Links. -/

/-- ETH_LINK_UP (R135, Table 4.7): a link of the split in effect, in service or returning. -/
def execEthLinkUp (link : Fin 16) (s : State) : Host.Outcome State Fault Refusal :=
  let l := link.val
  if !s.ethAnswers ∨ s.get (F.RDMA_LINK_STATUS_SVC_STATE l) = 0 ∨ s.ethLanes l = 0 ∨ s.ethUp l then finish s
  else
    let s1 := (s.put (F.RDMA_LINK_STATUS_UP l) 1 |>.put (F.RDMA_LINK_STATUS_FEC_LOCK l) 1 |>.put (F.RDMA_LINK_STATUS_SVC_STATE l) 2).syncEth
    finish ((s1.endCond (Ev.ETH_LINK_DOWN l)).endCond (Ev.ETH_LINK_DEGRADED l))

/-- ETH_LINK_DOWN (R136): counted; out of service past 16 in 60 s. -/
def execEthLinkDown (link : Fin 16) (s : State) : Host.Outcome State Fault Refusal :=
  let l := link.val
  if !s.ethUp l then finish s
  else
    let downs := ((Sparse.get [] l s.eth.downs).filter fun t => decide (s.now < t + secFc 60)) ++ [s.now]
    let s1 := s.ethDrop l
    let s2 := { s1 with eth := { s1.eth with downs := Sparse.set [] l downs s1.eth.downs } }
    let s3 := if s.mode.serving then s2.raise (Ev.ETH_LINK_DOWN l) [] else s2
    if 16 < downs.length then finish (s3.ethLeaves l 3) else finish s3

/-- ETH_LINK_SERVICE_WRITE (R136). -/
def execEthLinkServiceWrite (link : Fin 16) (service : Bool) (s : State) : Host.Outcome State Fault Refusal :=
  finish (s.ethService link.val service)

/-- FEC_CODEWORD_UNCORRECTABLE (R162): the eleventh within any 1 s raises LINK_DEGRADED. -/
def execFecCodewordUncorrectable (link : Fin 16) (s : State) : Host.Outcome State Fault Refusal :=
  let l := link.val
  if !s.ethUp l then finish s
  else
    let ts := ((Sparse.get [] l s.eth.fecAt).filter fun t => decide (s.now < t + secFc 1)) ++ [s.now]
    let s1 := ({ s with eth := { s.eth with fecAt := Sparse.set [] l ts s.eth.fecAt } }).bump (F.RDMA_LINK_FEC_UNCORR_COUNT l) 1
    if ts.length = 11 then finish (s1.raise (Ev.ETH_LINK_DEGRADED l) []) else finish s1

/-- PFC_FRAME_RX (R157): with FLOW_MODE 1. -/
def execPfcFrameRx (link : Fin 16) (pause : Bool) (s : State) : Host.Outcome State Fault Refusal :=
  let l := link.val
  let at_ := Sparse.get 0 l s.eth.pausedAt
  let set (v : Nat) (a : State) : State := { a with eth := { a.eth with pausedAt := Sparse.set 0 l v a.eth.pausedAt } }
  if !s.ethUp l ∨ !s.isSet F.RDMA_GLOBAL_CFG_FLOW_MODE then finish s
  else if pause then (if at_ = 0 then finish (set (s.now + 1) s) else finish s)
  else if at_ = 0 then finish s
  else finish ((set 0 s).bump (F.RDMA_LINK_PAUSE_US_US l) ((s.now - (at_ - 1)) / 2000))

/-- PFC_PAUSE_LONG (R157). -/
def execPfcPauseLong (link : Fin 16) (s : State) : Host.Outcome State Fault Refusal :=
  if Sparse.get 0 link.val s.eth.pausedAt = 0 then finish s else finish (s.raise Ev.PFC_PAUSE_LONG [])

/-! Frames. -/

/-- ARP_ND_REQUEST (R137, Table 4.7). -/
def execArpNdRequest (link : Fin 16) (addr : Nat) (s : State) : Host.Outcome State Fault Refusal :=
  if !s.ethUp link.val ∨ !s.ethAnswers then finish s
  else match s.addressSide addr with
    | some sd => if s.answersFor sd then finish (s.frameOut link.val ⟨0, link.val, .addressReply addr⟩) else finish s
    | none => finish s

/-! Connection management (R138 to R140). -/

/-- CM_REQ (R139, R140). -/
def execCmReq (f : RxFrame) (addr pkey mtu : Nat) (rc : Bool) (depth psn : Nat) (priv : List Byte) (s : State) :
    Host.Outcome State Fault Refusal :=
  let r := s.rxFrame f
  if !r.1 then finish r.2
  else match r.2.reqVerdict addr pkey mtu rc priv with
    | .inl code => finish ((r.2.refuseReq code f.link.val).sendHost ⟨f.gid, f.link.val, .cmRej code⟩)
    | .inr (t, sd) => finish (r.2.createQp f sd t pkey mtu depth psn priv)

/-- CM_RTU (R139). -/
def execCmRtu (f : RxFrame) (qpn : Nat) (s : State) : Host.Outcome State Fault Refusal :=
  let r := s.rxFrame f
  match r.1, r.2.qpOf? qpn with
  | true, some p => if p.state = 1 ∧ s.mode.serving then finish (r.2.setQp (qpKeyOf qpn) { p with state := 2 }) else finish r.2
  | _, _ => finish r.2

/-- CM_DREQ (R139): the queue pair is destroyed and DREP sent. -/
def execCmDreq (f : RxFrame) (qpn : Nat) (s : State) : Host.Outcome State Fault Refusal :=
  let r := s.rxFrame f
  match r.1, r.2.qpOf? qpn with
  | true, some _ =>
    if s.mode.serving then finish ((r.2.freeQp (qpKeyOf qpn)).sendHost ⟨f.gid, f.link.val, .cmDrep qpn⟩) else finish r.2
  | _, _ => finish r.2

/-- CM_REJ_RX (R139): a connection being formed is abandoned. -/
def execCmRejRx (f : RxFrame) (qpn : Nat) (s : State) : Host.Outcome State Fault Refusal :=
  let r := s.rxFrame f
  match r.1, r.2.qpOf? qpn with
  | true, some p => if p.state = 1 ∧ s.mode.serving then finish (r.2.freeQp (qpKeyOf qpn)) else finish r.2
  | _, _ => finish r.2

/-- CM_OTHER_MAD (R139): dropped and counted. -/
def execCmOtherMad (f : RxFrame) (s : State) : Host.Outcome State Fault Refusal :=
  let r := s.rxFrame f
  if r.1 then finish (r.2.bump (F.RDMA_LINK_RX_DROPS_COUNT f.link.val) 1) else finish r.2

/-! Requests. -/

/-- RDMA_READ_REQ (R142, R144). -/
def execRdmaReadReq (f : RxFrame) (qpn pkey psn va rkey len : Nat) (sram : List Nat) (s : State) : Host.Outcome State Fault Refusal :=
  finish (s.rxPacket f qpn pkey psn (.read va rkey len) sram)

/-- RDMA_WRITE_PACKET (R142, R143). -/
def execRdmaWritePacket (f : RxFrame) (qpn pkey psn : Nat) (first last : Bool) (va rkey len : Nat) (bytes : List Byte)
    (sram : List Nat) (s : State) :
    Host.Outcome State Fault Refusal :=
  finish (s.rxPacket f qpn pkey psn (.write first last va rkey len bytes) sram)

/-- RDMA_WRITE_ACK (R18, R143): the acknowledgement of the WRITE at the head once all its lines are complete, or the NAK that replaces it. -/
def execRdmaWriteAck (qpn : Nat) (s : State) : Host.Outcome State Fault Refusal :=
  let key := qpKeyOf qpn
  match s.qpOf? qpn with
  | none => finish s
  | some p =>
    match p.answers with
    | x :: rest =>
      if x.kind ≠ 0 ∨ x.open_ ∨ s.frozenMode ∨ !s.rdmaLinesDone key x.psn then finish s
      else
        let st := s.rdmaFailed key x.psn
        let s1 := { s with failed := s.failed.filter fun e => decide (e.1 ≠ Src.rdma key x.psn) }
        if st ≠ 0 then finish (s1.answerNak key x.last st)
        else finish ((s1.setQp key { p with answers := rest }).qpSend p x.via (.ack qpn x.last (s.answerStatus x)))
    | [] => finish s

/-- RDMA_ATOMIC (R142, R145). -/
def execRdmaAtomic (f : RxFrame) (qpn pkey psn : Nat) (swap : Bool) (va rkey add compare : Nat) (sram : List Nat) (s : State) :
    Host.Outcome State Fault Refusal :=
  finish (s.rxPacket f qpn pkey psn (.atomic swap va rkey add compare) sram)

/-- RDMA_UNSUPPORTED_OPCODE (R141). -/
def execRdmaUnsupportedOpcode (f : RxFrame) (qpn pkey psn : Nat) (s : State) : Host.Outcome State Fault Refusal :=
  finish (s.rxPacket f qpn pkey psn .unsupported [])

/-- CQP_SEND (R150, R193). -/
def execCqpSend (f : RxFrame) (qpn pkey psn len : Nat) (ds : List (BitVec 512)) (s : State) : Host.Outcome State Fault Refusal :=
  finish (s.rxPacket f qpn pkey psn (.send len ds) [])

/-! Completion SENDs (R150, R151). -/

/-- RDMA_ACK_RX (R141, R150): the SENDs up to a PSN are acknowledged; a NAK for a PSN acknowledges those before it, and the rest are sent
again from it. -/
def execRdmaAckRx (f : RxFrame) (qpn psn : Nat) (nak : Bool) (s : State) : Host.Outcome State Fault Refusal :=
  let r := s.rxFrame f
  match r.1, r.2.qpOf? qpn with
  | true, some p =>
    if s.mode.serving then
      let left := p.sent.filter fun e => decide (2 ^ 23 ≤ psnDiff e.1 psn) || (nak && decide (e.1 = psn))
      let s1 := r.2.setQp (qpKeyOf qpn) { p with sent := left }
      finish (if nak ∧ !p.rnr then s1.forEach left fun e a => a.qpSend p f.link.val (.send qpn e.1 e.2) else s1)
    else finish r.2
  | _, _ => finish r.2

/-- CQP_RNR_NAK_RX (R151): no later record is sent first. -/
def execCqpRnrNakRx (f : RxFrame) (qpn psn : Nat) (s : State) : Host.Outcome State Fault Refusal :=
  let r := s.rxFrame f
  match r.1, r.2.qpOf? qpn with
  | true, some p =>
    if s.mode.serving ∧ p.sent.any (fun e => decide (e.1 = psn)) then finish (r.2.setQp (qpKeyOf qpn) { p with rnr := true })
    else finish r.2
  | _, _ => finish r.2

/-- CQP_RNR_RETRY (R151): the held SENDs sent again, in order. -/
def execCqpRnrRetry (qpn : Nat) (s : State) : Host.Outcome State Fault Refusal :=
  match s.qpOf? qpn with
  | some p =>
    if p.rnr ∧ !s.frozenMode then
      let s1 := s.setQp (qpKeyOf qpn) { p with rnr := false }
      finish (s1.forEach p.sent fun e a => a.qpSend p p.via (.send qpn e.1 e.2))
    else finish s
  | none => finish s

/-- COMPLETION_SEND_FLUSH (R151). -/
def execCompletionSendFlush (qpn : Nat) (s : State) : Host.Outcome State Fault Refusal :=
  match s.qpOf? qpn with
  | some p => if p.cmd ∧ !s.frozenMode then finish (s.sendRecords (qpKeyOf qpn)) else finish s
  | none => finish s

/-! The context cache (R148, R149). -/

/-- QP_CONTEXT_FETCH_DONE (R148): the packets that waited proceed in their order. -/
def execQpContextFetchDone (qpn : Nat) (s : State) : Host.Outcome State Fault Refusal :=
  let key := qpKeyOf qpn
  let mine := (s.eth.fetching.filter fun e => decide (e.1 = key)).map (·.2)
  if mine.isEmpty ∨ s.frozenMode then finish s
  else
    let s1 := { s with eth := { s.eth with fetching := s.eth.fetching.filter fun e => decide (e.1 ≠ key) } }
    finish (((s1.cacheQp key).forEach mine fun k a => a.servePacket k).retryMisses)

/-- QP_CACHE_PRESSURE_CHECK (R149): at most once per minute. -/
def execQpCachePressureCheck (s : State) : Host.Outcome State Fault Refusal :=
  let past := decide (s.eth.lookups < 2 * s.eth.missed)
  let free := decide (s.eth.pressAt = 0) || decide (s.eth.pressAt - 1 + secFc 60 ≤ s.now)
  let s1 := { s with eth := { s.eth with lookups := 0, missed := 0, pressAt := if past && free then s.now + 1 else s.eth.pressAt } }
  if past ∧ free then finish (s1.raise Ev.QP_CACHE_PRESSURE []) else finish s1

/-! The host locator table (R153, R154). -/

/-- HLT_HOLDDOWN_EXPIRY (R153 rule 3): an entry without an alternate does not move. -/
def execHltHolddownExpiry (gid : Nat) (s : State) : Host.Outcome State Fault Refusal :=
  match s.host? gid with
  | some h => finish (s.moveHost gid h)
  | none => finish s

/-- HLT_MOVE_DRAIN_DONE (R154). -/
def execHltMoveDrainDone (gid : Nat) (s : State) : Host.Outcome State Fault Refusal :=
  match s.host? gid with
  | some h =>
    if h.old.isSome then finish (s.releaseHeld gid) else finish s
  | none => finish s

/-- HLT_FLAP_CLEAR (R153 rule 4). -/
def execHltFlapClear (gid : Nat) (s : State) : Host.Outcome State Fault Refusal :=
  match s.host? gid with
  | some h => finish (s.setHost gid (some { h with flapping := false }))
  | none => finish s

/-- HLT_ENTRY_AGE_OUT (R154): an entry that no context references. -/
def execHltEntryAgeOut (gid : Nat) (s : State) : Host.Outcome State Fault Refusal :=
  match s.host? gid with
  | some h =>
    if s.qpsInUse.any (fun e => decide (e.2.gid = gid)) ∨ h.old.isSome then finish s else finish (s.setHost gid none)
  | none => finish s

/-! Congestion (R155, R156). -/

/-- CNP_RX (R155): the rate cut to three quarters, at most once per 50 µs, and never below 100 Mb/s. -/
def execCnpRx (f : RxFrame) (qpn : Nat) (s : State) : Host.Outcome State Fault Refusal :=
  let r := s.rxFrame f
  match r.1, r.2.qpOf? qpn with
  | true, some p =>
    let s1 := r.2.bump (F.RDMA_LINK_CNP_RX_COUNT f.link.val) 1
    if p.cutAt ≠ 0 ∧ s.now < p.cutAt - 1 + usFc 50 then finish s1
    else finish (s1.setQp (qpKeyOf qpn) { p with rate := max 100 (p.rate * 3 / 4), cutAt := s.now + 1 })
  | _, _ => finish r.2

/-- CNP_RATE_RECOVERY (R155): up by 5 % of the link rate, to the link rate at most. -/
def execCnpRateRecovery (qpn : Nat) (s : State) : Host.Outcome State Fault Refusal :=
  match s.qpOf? qpn with
  | some p =>
    let top := s.hostRate p
    finish (s.setQp (qpKeyOf qpn) { p with rate := min top (p.rate + top / 20) })
  | none => finish s

/-- SLUICE_CNP_TIMER (R156): a CNP to each data queue pair of a limited tenant that has written within 1 ms. -/
def execSluiceCnpTimer (s : State) : Host.Outcome State Fault Refusal :=
  if !s.mode.serving then finish s
  else finish (s.forEach (s.qpsInUse.filter fun e => !e.2.cmd && decide (e.2.state ≠ 4) && s.ssb.limited.contains e.2.tenant &&
      decide (e.2.wroteAt ≠ 0) && decide (s.now < e.2.wroteAt + msFc 1)) fun e a =>
    (a.setQp e.1 { a.qp e.1 with cnpAt := a.now + 1 }).qpSend e.2 (((a.host? e.2.gid).map fun h => h.primary).getD 0)
      (.cnp (qpnOf e.1 e.2)))

end Sys2Proof.Machine
end

