-- ==== Sys2Proof/Machine/Spillway.lean ====
section
/-! DEFINITION. The commands of the Spillway and of restore (R280 to R300). -/

namespace Sys2Proof.Machine

open Sys2Proof

/-! PFAIL_N (R280). -/

/-- PFAIL_N_ASSERT (R280, R520): the filter starts; the operating seconds are stored. -/
def execPfailNAssert (s : State) : Host.Outcome State Fault Refusal :=
  if s.mode = .off then finish s
  else
    finish (({ s with ssb := { s.ssb with pfailAt := s.now + 1, pfailOn := false }
                      pw := { s.pw with holdoff := false, stored := s.get F.ID_OPERATING_S_SECONDS } }).put F.PWR_STATUS_PFAIL 1)

/-- PFAIL_N_DEASSERT (R280, Table 16.7): a glitch when the filter has not expired; DORMANT wakes with WAKE_ON_POWER 1. -/
def execPfailNDeassert (s : State) : Host.Outcome State Fault Refusal :=
  if s.mode = .off then finish s
  else
    let glitch := decide (s.ssb.pfailAt ≠ 0) && !s.ssb.pfailOn
    let s1 := ({ s with ssb := { s.ssb with pfailAt := 0, pfailOn := false } }).put F.PWR_STATUS_PFAIL 0
    let s2 := s1.when glitch (State.raiseLimited Ev.PFAIL_GLITCH 0 [])
    finish (s2.when (s2.isSet F.PWR_CTRL_WAKE_ON_POWER) State.wakeDormant)

/-- PFAIL_FILTER_EXPIRY (Table 8.6). -/
def execPfailFilterExpiry (s : State) : Host.Outcome State Fault Refusal :=
  if s.ssb.pfailAt = 0 ∨ s.ssb.pfailOn then finish s
  else finish ({ s with ssb := { s.ssb with pfailOn := true } }).powerFail

/-! The image (R283 to R293). -/

/-- SPILLWAY_SEAL (R282, R300). -/
def execSpillwaySeal (us energy : Nat) (s : State) : Host.Outcome State Fault Refusal :=
  if s.mode ≠ .save ∨ s.get F.SPW_STATUS_PHASE = 5 then finish s
  else finish (s.sealImage us energy).afterSeal

/-- SAVE_RESTART_WAIT_END (R300, R514). -/
def execSaveRestartWaitEnd (s : State) : Host.Outcome State Fault Refusal :=
  if s.mode ≠ .save ∨ s.get F.SPW_STATUS_PHASE ≠ 5 ∨ s.ssb.pfailAt ≠ 0 ∨ s.railsLost then finish s
  else
    let s1 := s.put F.SPW_STATUS_PHASE 0
    if s1.pw.quarantineHeld then
      finish (({ s1 with pw := { s1.pw with quarantineHeld := false, chipHeld := false } }).setMode .quarantine)
    else finish (s1.enterBringup true false)

/-! Restore (R294 to R298). -/

/-- RESTORE_PHASE_DONE (R295 to R298): each phase's work ends and the next begins. -/
def execRestorePhaseDone (repaired ignored : Nat) (damage : List (Nat × Nat)) (gap : Bool) (bad : List (Nat × LineVerdict)) (s : State) :
    Host.Outcome State Fault Refusal :=
  if s.mode ≠ .restore then finish s
  else
    let verdict (l : Nat) : LineVerdict := ((bad.find? fun e => decide (e.1 = l)).map (·.2)).getD .good
    match s.get F.RST_STATUS_PHASE with
    | 1 =>
      let s1 := s.endScan repaired ignored
      match s1.ssb.restoring with
      | some _ => finish { s1 with ssb := { s1.ssb with rstDamage := damage } }
      | none => finish s1
    | 2 =>
      if gap then finish (s.raise Ev.JOURNAL_DAMAGED [])
      else
        let s1 := s.rebuildTable
        let s2 := ({ s1 with ssb := { s1.ssb with rstDamage := [] } }).forEach s1.ssb.rstDamage fun r a => a.poisonRange r.1 r.2
        finish (s2.startLines.put F.RST_STATUS_PHASE 3)
    | 3 =>
      if !s.linesDone then finish s else finish (s.startPending.put F.RST_STATUS_PHASE 4)
    | 4 =>
      let s1 := s.forEach s.pendingArrivals fun l a => a.arriveLine l (verdict l) 0 0
      if s1.merges.isEmpty then finish (s1.startSettle.put F.RST_STATUS_PHASE 5) else finish s1
    | _ => finish s

end Sys2Proof.Machine
end

