-- ==== Sys2Proof/Machine/Streams.lean ====
section
/-! DEFINITION. The stream operations (R240 to R247). -/

namespace Sys2Proof.Machine

open Sys2Proof

/-- The operands of a STREAM_DECLARE: the region's record index, the list's address, ENTRIES and WINDOW. -/
def declareOperands (d : BitVec 512) : Nat × Nat × Nat × Nat :=
  (recIdx (dbits d 12 12 1) (dbits d 12 0 12), dbits d 16 0 49, dbits d 24 0 32, dbits d 28 0 16)

/-- The number by which a stream remembers its STREAM_DECLARE's queue. -/
def State.streamQueue (q : Nat) (s : State) : Nat := q + (s.queue q).incarnation % 2 ^ 32 * 2 ^ 32

/-- The live stream a queue and sequence number declared (R241). -/
def State.declaredStream (q seq : Nat) (s : State) : Option Nat :=
  (s.cul.streams.find? fun e => decide (e.2.st ≠ 0) && decide (e.2.queue = s.streamQueue q) && decide (e.2.seq = seq)).map (·.1)

/-- The live streams of a side. -/
def State.liveStreams (sd : Nat) (s : State) : Sparse Stream :=
  s.cul.streams.filter fun e => decide (e.2.st ≠ 0) && decide (e.1 / 512 = sd)

/-- The lowest free stream of a side. -/
def State.freeIndex (sd : Nat) (s : State) : Option Nat :=
  (List.range 512).find? fun i => decide ((s.stream (streamIdx sd i)).st = 0)

/-- The lowest free items of a side's list store. -/
def State.takeItems (sd n : Nat) (s : State) : List Nat :=
  let used := ((s.liveStreams sd).map fun e => e.2.items).flatten
  ((List.range (used.length + n)).filter fun i => !used.contains i).take n

/-- Step 4 of R241: the status of the first list line that cannot be read. -/
def State.listStatus (a len : Nat) (bad : List (Nat × Nat)) (s : State) : Option Nat :=
  ((List.range ((a + len - 1) / 256 - a / 256 + 1)).map (a / 256 + ·)).findSome? fun l =>
    match bad.find? fun e => decide (e.1 = l) with
    | some e => some e.2
    | none => if s.live l && (s.lineMeta l).poison then some St.POISONED else none

/-- The extent numbers of a list (Table 7.7). -/
def State.listEntries (a n : Nat) (s : State) : List Nat := (List.range n).map fun i => s.copyBytes (a + 128 + 8 * i) 8

/-- Step 5 of R241: FORMAT, the reserved fields and the extents of a list of a region. -/
def State.listFormat (a n : Nat) (r : Region) (s : State) : Bool :=
  let h := s.copyBytes a 64
  decide (bitsOf h 0 16 = 1) && decide (h / 2 ^ 17 = 0) &&
    (s.listEntries a n).all fun e => decide (e < (r.sizeM1 + 1) * 512)

/-- The first status of R241 that applies, with its DETAIL, after the list range's own check. -/
def State.declareStatus (o : OpRec) (t : Nat) (s : State) : Option (Nat × Nat) :=
  let (idx, _, n, w) := declareOperands o.desc
  let r := s.region idx
  if !s.serves (idx / 4096) then some (St.WRONG_OWNER, 3)
  else if r.state ≠ 1 then some (St.OBJECT_GONE, 5)
  else if r.tenant ≠ t ∨ idx % 4096 = 0 then some (St.DENIED, 7)
  else if r.policy ≠ 2 ∨ w = 0 ∨ 16384 < w ∨ n = 0 ∨ 1048576 < n then some (St.PARAM, 0)
  else none

/-- A stream created (R240 to R242, Table 7.8), its list copied into the list store. -/
def State.createStream (q : Nat) (o : OpRec) (i : Nat) (s : State) : State :=
  let (idx, a, n, w) := declareOperands o.desc
  let sd := idx / 4096
  let j := streamIdx sd i
  let inc := let v := (s.stream j).incarnation; if v = 63 then 1 else v + 1
  let k : Stream := { st := 1, incarnation := inc, region := idx, entries := s.listEntries a n,
                      wrap := decide (bitsOf (s.copyBytes a 64) 16 1 = 1), window := w, listAddr := a,
                      queue := s.streamQueue q, seq := o.seq, items := s.takeItems sd n }
  let s1 := if s.admits k then (s.changeStream j k).checkWindow j
    else (s.changeStream j { k with st := 3, cause := 1, fallbacks := 1 }).raise Ev.STREAM_FALLBACK [streamHandle j inc, 1]
  (s1.writeList j false).completeOp q o St.SUCCESS 0 (streamHandle j inc) 0 []

/-- STREAM_DECLARE (R241): `bad` are the list lines whose read fails, with the status each gives. -/
def execStreamDeclare (q seq : Nat) (bad : List (Nat × Nat)) (s : State) : Host.Outcome State Fault Refusal :=
  finish (s.startOp q seq 0x20 fun o x =>
    let (idx, a, n, _) := declareOperands o.desc
    let t := (x.queue q).tenant
    let len := 128 + 8 * n
    match x.declaredStream q seq with
    | some j => x.completeOp q o St.SUCCESS 0 (streamHandle j (x.stream j).incarnation) 0 []
    | none =>
      match x.declareStatus o t with
      | some (st, det) => x.completeOp q o st det 0 0 []
      | none =>
        let c := x.check (x.queueBinding q) a len false none
        if c ≠ 0 then (x.refuse (queuePath q) c t (queueIngress q) a).completeOp q o (checkStatus c) c 0 0 []
        else match x.listStatus a len bad with
          | some st => x.completeOp q o st 0 0 0 []
          | none =>
            if !x.listFormat a n (x.region idx) then x.completeOp q o St.PARAM 0 0 0 []
            else
              let held := (x.liveStreams (idx / 4096)).foldl (fun m e => m + e.2.entries.length) 0
              match x.freeIndex (idx / 4096) with
              | some i => if held + n ≤ 4194304 then x.createStream q o i else x.completeOp q o St.LIMIT 0 0 0 []
              | none => x.completeOp q o St.LIMIT 0 0 0 [])

/-- The live stream of a tenant that a handle names on a side this controller serves (R240). -/
def State.streamOfHandle (h t : Nat) (s : State) : Option Nat :=
  let j := streamIdx (h / 2 ^ 15 % 2) (h % 512)
  let k := s.stream j
  if k.st ≠ 0 ∧ k.incarnation = h / 2 ^ 9 % 64 ∧ (s.region k.region).tenant = t ∧ s.serves (h / 2 ^ 15 % 2) then some j else none

/-- A stream moved to position `v` (R243, R244, Table 7.8). -/
def State.advanceStream (j v : Nat) (s : State) : State :=
  let k := s.stream j
  let d := (v + 2 ^ 32 - k.pos) % 2 ^ 32
  let e := k.entries.length
  if d = 0 ∨ 2 ^ 31 ≤ d ∨ k.st = 4 then s
  else if !k.wrap ∧ e ≤ v then s.changeStream j { k with st := 4, cause := 0, pos := v }
  else
    let step := s.streamExtents k (k.entriesAt v (min d k.window))
    let miss := step.any fun x => !s.extentResident x
    let k1 := { k with pos := v, misses := if miss then k.misses + 1 else k.misses,
                       laps := if k.wrap then k.laps + ((k.pos + d) / e - k.pos / e) else k.laps }
    if k.st = 3 then
      let here := (s.streamExtents k1 (k1.entriesAt v 1)).all fun x => s.extentResident x
      let k2 := { k1 with residentRun := if here then k.residentRun + 1 else 0 }
      if s.admits k2 && (decide (k.cause = 1) || decide (16 ≤ k2.residentRun)) then
        ((s.changeStream j { k2 with st := 1, cause := 0, residentRun := 0, missRun := 0 }).raise Ev.STREAM_WINDOW_KEPT []).checkWindow j
      else s.changeStream j k2
    else
      let run := if miss then k.missRun + 1 else 0
      if 4 ≤ run then
        (s.changeStream j { k1 with st := 3, cause := 2, missRun := 0, residentRun := 0, fallbacks := k.fallbacks + 1 }).raise
          Ev.STREAM_FALLBACK [streamHandle j k.incarnation, 2]
      else (s.changeStream j { k1 with st := 1, missRun := run }).checkWindow j

/-- STREAM_ADVANCE (R243, R244). -/
def execStreamAdvance (q seq : Nat) (s : State) : Host.Outcome State Fault Refusal :=
  finish (s.startOp q seq 0x21 fun o x =>
    match x.streamOfHandle (dbits o.desc 12 0 16) (x.queue q).tenant with
    | none => x.completeOp q o St.OBJECT_GONE 0 0 0 []
    | some j => (x.advanceStream j (dbits o.desc 16 0 32)).completeOp q o St.SUCCESS 0 0 0 [])

/-- STREAM_RETIRE (R245). -/
def execStreamRetire (q seq : Nat) (s : State) : Host.Outcome State Fault Refusal :=
  finish (s.startOp q seq 0x22 fun o x =>
    match x.streamOfHandle (dbits o.desc 12 0 16) (x.queue q).tenant with
    | none => x.completeOp q o St.OBJECT_GONE 0 0 0 []
    | some j => (x.freeStream j 5).completeOp q o St.SUCCESS 0 0 0 [])

/-- STREAM_STATUS_WRITE (R246): the block is written when a field of it has changed; the partner's streams are not this
controller's to report. -/
def execStreamStatusWrite (j : Fin 1024) (s : State) : Host.Outcome State Fault Refusal :=
  let k := s.stream j.val
  if k.st = 0 ∨ !s.serves (j.val / 512) ∨
      (!k.changed ∧ s.residentAhead k = s.get (F.CUL_STREAM_WINDOW_RESIDENT_AHEAD j.val)) then finish s
  else finish (s.writeStreamStatus j.val k.st k.cause)

end Sys2Proof.Machine
end

