-- ==== Sys2Proof/Machine/Tiers.lean ====
section
/-! DEFINITION. The Culvert's commands: fills (R228 to R233), eviction (R235, R236), write-back (R237, R238), the journal and the
translation table (R253, R254), and relocation (R255 to R257). -/

namespace Sys2Proof.Machine

open Sys2Proof

/-! Fills. -/

/-- FILL_LANDED (R228): `bad` are the stripe's positions with an uncorrectable codeword, `ecc` what the decoding of the others
reports,
`verdicts` what the verification of its lines gives, `stalls` the parts in µs of the stall of each waiting read; `memory` and
`crypto` the cycles of a sampled read. -/
def execFillLanded (page : Nat) (bad : List Nat) (ecc : DeepEcc) (verdicts : List (Nat × LineVerdict))
    (stalls : List (Nat × List Nat)) (memory crypto : Nat) (s : State) : Host.Outcome State Fault Refusal :=
  let s0 := s.assignFrame (extentOfPage page)
  if (s0.page page).st ≠ 1 ∨ (s0.extent (extentOfPage page)).frame.isNone ∨ !s0.mode.mainRails then finish s0
  else
    let r := if s0.pageMapped page then s0.readDeep page bad ecc else (s0, true)
    if !r.2 then finish r.1
    else
      let s1 := if (r.1.transOf page).st = 1 then r.1 else r.1.fillOther page
      let waiting := s1.reads.filter fun x => x.missed && decide (x.src ≠ .hub) && decide (pageOfLine (lineOf x.addr) = page)
      let s2 := (s1.issueUpTo page s1.cul.fills.length).landPage page
      let s3 := if s1.zeroNoStall page then s2 else s2.forEach waiting fun x a =>
        match stalls.find? fun e => decide (e.1 = x.id) with
        | some e => a.countStall e.2
        | none => a.countStall []
      let s4 := s3.forEach (s3.awaitedLines page) fun l a =>
        let v := match verdicts.find? fun e => decide (e.1 = l) with
          | some e => e.2
          | none => .good
        (a.grant l 6).arriveLine l v memory crypto
      finish s4.afterFill

/-- STALL_CEIL_MS of the region of a line, in µs. -/
def State.ceilingUs (line : Nat) (s : State) : Nat :=
  match s.regionOfLine line with
  | some i => (s.region i).stallCeil * 1000
  | none => 0

/-- A stall of an access at an address counted at its ceiling (R231, R232). -/
def State.hitCeiling (addr : Nat) (parts : List Nat) (s : State) : State :=
  (s.countStall parts).bump F.CUL_CEILING_HITS_COUNT 1 |>.raise Ev.STALL_CEILING [addr, s.ceilingUs (lineOf addr), stallCause parts]

/-- A read whose stall reached the ceiling completed on its path (R129, R231); a speculative read has none to tell. -/
def State.ceilingRead (r : ReadRec) (parts : List Nat) (s : State) : State :=
  let line := lineOf r.addr
  let s1 := (({ s with reads := s.reads.filter fun x => decide (x.id ≠ r.id) }).hitCeiling r.addr parts).answerRead r St.STALL_CEILING 0
  match r.src with
  | .cxl _ _ _ => s1.recordLine 5 Ev.STALL_CEILING line (s.ceilingUs line) false
  | _ => s1

/-- An RDMA message whose partial write has waited for its page up to the ceiling waits no longer (R146): it fails with STALL_CEILING, and the
merge goes on without it (log entry 146). -/
def State.ceilingWrite (w : WriteRec) (parts : List Nat) (s : State) : State :=
  let s1 := s.hitCeiling (w.line * 256) parts
  { s1 with writes := s1.writes.filter fun x => decide (x.id ≠ w.id)
            merges := s1.merges.map fun m => if m.src = w.src ∧ m.line = w.line then { m with src := .hub } else m
            failed := s1.failed ++ [(w.src, St.STALL_CEILING)] }

/-- STALL_CEILING_EXPIRY (R146, R231): the stall of the read, or of the RDMA partial write, `id` reached its region's STALL_CEIL_MS; `parts`
are its parts in µs. -/
def execStallCeilingExpiry (id : Nat) (parts : List Nat) (s : State) : Host.Outcome State Fault Refusal :=
  match s.reads.find? fun r => decide (r.id = id) && r.missed && decide (r.src ≠ .hub) with
  | some r => if s.present (pageOfLine (lineOf r.addr)) then finish s else finish (s.ceilingRead r parts)
  | none =>
    match s.writes.find? fun w => decide (w.id = id) && w.verify && w.src.isRdma with
    | some w => if s.present (pageOfLine w.line) then finish s else finish (s.ceilingWrite w parts)
    | none => finish s

/-- FRAME_WAIT_TIMEOUT (R236): fills have waited for a frame for more than 1 ms. -/
def execFrameWaitTimeout (s : State) : Host.Outcome State Fault Refusal :=
  let s1 := s.giveFrames
  if s1.frameWaiting then finish (s1.raise Ev.FRAME_WAIT []) else finish s1

/-! Eviction. -/

/-- EXTENT_DROP (R235, R236): an extent chosen earlier whose pages are clean by now is dropped; else the next candidate is chosen,
and dropped at once or left to the first write-back class. -/
def execExtentDrop (s : State) : Host.Outcome State Fault Refusal :=
  let s1 := s.evictState
  if !s1.cul.evicting ∧ !(s1.cul.extents.any fun e => s1.drainEvicts e.1) then finish s1
  else match (s1.cul.extents.map (·.1)).find? fun x => s1.marked x && s1.droppable x with
    | some x => finish (s1.dropExtent x).giveFrames
    | none =>
      if !s1.cul.evicting then finish s1
      else
      let v := s1.nextVictim
      match v.1 with
      | none => finish v.2
      | some x =>
        if v.2.droppable x then finish (v.2.dropExtent x).giveFrames
        else finish (v.2.setExtent x { v.2.extent x with evict := true })

/-! Write-back. -/

/-- WRITEBACK_CAPTURE (R237, R238): the page marked CAPTURING, its front-cache lines cleaned, and the page read into staging, which
holds 32,640 pages (Table 7.1). -/
def execWritebackCapture (page : Nat) (s : State) : Host.Outcome State Fault Refusal :=
  let g := s.page page
  if g.st ≠ 3 ∨ !s.programsAllowed ∨ !s.fl.formed ∨ 32640 ≤ s.cul.captures.length ∨ !s.mayCapture page then finish s
  else
    let s1 := (s.setPage page { g with st := 4, redirty := [] }).forEach (pageLines page) fun l a => ((a.grant l 6).captureLine l)
    let c : Capture := { page := page, cells := Sparse.slice (page * 16384) (page * 16384 + 16384) s1.mem,
                         metas := Sparse.slice (page * 64) (page * 64 + 64) s1.lines }
    finish { s1 with cul := { s1.cul with captures := s1.cul.captures ++ [c] } }

/-- WRITEBACK_PROGRAM_DONE (R238, R252): the page's program and its delta complete. -/
def execWritebackProgramDone (page : Nat) (s : State) : Host.Outcome State Fault Refusal :=
  match s.cul.captures.find? fun c => decide (c.page = page) with
  | none => finish s
  | some c =>
    if !s.mode.mainRails ∨ s.mode = .save then finish s
    else match s.takePage false with
      | none => finish s
      | some t => finish ((t.2.endCapture c t.1).sluice)

/-- PROGRAM_FAILED (R399): the program of a captured page failed on its position; the page is DIRTY again and waits for another
location, the block is remapped and the stripe block queued. -/
def execProgramFailed (page : Nat) (s : State) : Host.Outcome State Fault Refusal :=
  match s.cul.captures.find? fun c => decide (c.page = page) with
  | none => finish s
  | some _ =>
    match s.takePage false with
    | none => finish s
    | some t =>
      let slot := t.2.slotOfPos (posOfDeep t.1)
      let g := t.2.page page
      let s1 := t.2.setPage page { g with st := 3, redirty := [] }
      let s2 := { s1 with cul := { s1.cul with captures := s1.cul.captures.filter fun x => decide (x.page ≠ page) }
                          fl := { s1.fl with badPages := s1.fl.badPages ++ [t.1] } }
      finish ((s2.bump (F.SLOT_OP_FAILS_PROGRAM slot) 1).useSpareBlock slot (sbOfDeep t.1) |>.queueBlock (sbOfDeep t.1))

/-! The journal and the translation table. -/

/-- JOURNAL_BLOCK_WRITE (R253): up to 252 of the entries that wait, under the next JSEQ. -/
def execJournalBlockWrite (s : State) : Host.Outcome State Fault Refusal :=
  if s.cul.jpend.isEmpty ∨ !s.programsAllowed then finish s
  else
    let b : JBlock := { jseq := s.cul.jseq, entries := s.cul.jpend.take 252 }
    let s1 := { s with cul := { s.cul with jpend := s.cul.jpend.drop 252, jseq := s.cul.jseq + 1,
                                           jblocks := s.cul.jblocks ++ [b] } }
    finish (s1.forEach b.entries fun e a => a.makeDurable e).journalStatus

/-- TABLE_PAGE_WRITE (R254): the table page that holds the entries of 2,048 pages from `tp` × 2,048 on, which holds a change. A page
of a slot whose table slot is free has nothing to write. -/
def execTablePageWrite (tp : Nat) (s : State) : Host.Outcome State Fault Refusal :=
  if Sparse.get 0 tp s.cul.tableDirty = 0 ∨ !s.programsAllowed then finish s
  else
    let clear (a : State) : State :=
      ({ a with cul := { a.cul with tableDirty := Sparse.set 0 tp 0 a.cul.tableDirty } }).truncateJournal
    match s.tablePageNumber tp with
    | none => finish (clear { s with cul := { s.cul with tableAt := Sparse.set 0 tp 0 s.cul.tableAt } })
    | some n => match s.takePage false with
      | none => finish s
      | some t => finish (clear (t.2.placeTable tp n t.1))

/-! Relocation. -/

/-- GC_VICTIM_RELOCATE (R255, R257). -/
def execGcVictimRelocate (s : State) : Host.Outcome State Fault Refusal :=
  if !s.programsAllowed ∨ !s.fl.formed then finish s
  else match s.blockStatus.gcVictim with
    | none => finish s.blockStatus
    | some sb => finish (s.blockStatus.relocate sb)

/-- WEAR_LEVEL_RELOCATE (R256): the least-worn block in use moved when the spread exceeds WL_SPREAD. -/
def execWearLevelRelocate (s : State) : Host.Outcome State Fault Refusal :=
  let s1 := s.blockStatus
  if !s1.programsAllowed ∨ s1.get F.CUL_ERASE_SPREAD_SPREAD ≤ s1.get F.CUL_GC_CFG_WL_SPREAD then finish s1
  else match (s1.cul.blocks.filter fun e => decide (e.2.st = 3) || decide (e.2.st = 4)).map (·.1) with
    | [] => finish s1
    | x :: t =>
      let sb := t.foldl (fun m y => if (s1.block y).erase < (s1.block m).erase then y else m) x
      finish (((s1.raise Ev.WEAR_RELOCATION []).bump F.CUL_WL_MOVES_COUNT 1).relocate sb)

end Sys2Proof.Machine
end

