-- ==== Sys2Proof/Machine/Dispatch.lean ====
section
/-! DEFINITION. One arm per command: what each command does, by name. -/

namespace Sys2Proof.Machine

/-- The effect of a command on everything but the queue of waiting commands. -/
def exec (i : Instr) (s : State) : Host.Outcome State Fault Refusal :=
  match i with
  | .registerWrite agent off size v => Sys2Proof.Machine.execRegisterWrite agent off size v s
  | .registerReadClear agent off size => Sys2Proof.Machine.execRegisterReadClear agent off size s
  | .registerReadLatchHigh agent off => Sys2Proof.Machine.execRegisterReadLatchHigh agent off s
  | .cxlMemrd link ldid tag dpa sramBad => Sys2Proof.Machine.execCxlMemrd link ldid tag dpa sramBad s
  | .cxlMemwr link ldid tag dpa data poison sramBad => Sys2Proof.Machine.execCxlMemwr link ldid tag dpa data poison sramBad s
  | .cxlMemwrptl link ldid tag dpa data enables poison sramBad => Sys2Proof.Machine.execCxlMemwrptl link ldid tag dpa data enables poison sramBad s
  | .cxlMemspecrd link ldid dpa => Sys2Proof.Machine.execCxlMemspecrd link ldid dpa s
  | .cxlMeminv link ldid tag => Sys2Proof.Machine.execCxlMeminv link ldid tag s
  | .cxlUnsupportedM2s link ldid tag read => Sys2Proof.Machine.execCxlUnsupportedM2s link ldid tag read s
  | .writeCompletion id readbackOk => Sys2Proof.Machine.execWriteCompletion id readbackOk s
  | .mirrorWindowDrain => Sys2Proof.Machine.execMirrorWindowDrain s
  | .persist q seq => Sys2Proof.Machine.execPersist q seq s
  | .persistComplete q seq => Sys2Proof.Machine.execPersistComplete q seq s
  | .persistStalled q seq => Sys2Proof.Machine.execPersistStalled q seq s
  | .gpfPhase1 ld => Sys2Proof.Machine.execGpfPhase1 ld s
  | .gpfPhase2 ld => Sys2Proof.Machine.execGpfPhase2 ld s
  | .gpfPhase2Done ld => Sys2Proof.Machine.execGpfPhase2Done ld s
  | .configRequest ld tag ask => Sys2Proof.Machine.execConfigRequest ld tag ask s
  | .perstNAssert p => Sys2Proof.Machine.execPerstNAssert p s
  | .perstNDeassert p => Sys2Proof.Machine.execPerstNDeassert p s
  | .cxlLinkUp link width rate mld lopt => Sys2Proof.Machine.execCxlLinkUp link width rate mld lopt s
  | .cxlLinkDown link => Sys2Proof.Machine.execCxlLinkDown link s
  | .cxlHotReset link => Sys2Proof.Machine.execCxlHotReset link s
  | .functionLevelReset ld => Sys2Proof.Machine.execFunctionLevelReset ld s
  | .cxlPortServiceWrite p service => Sys2Proof.Machine.execCxlPortServiceWrite p service s
  | .cxlBindRestore link => Sys2Proof.Machine.execCxlBindRestore link s
  | .ideKmExchange link session act => Sys2Proof.Machine.execIdeKmExchange link session act s
  | .ideMacFailure link => Sys2Proof.Machine.execIdeMacFailure link s
  | .ideEpochVerified link => Sys2Proof.Machine.execIdeEpochVerified link s
  | .hdmDecoderCommit ld idx base size skip ways gran lockOnCommit => Sys2Proof.Machine.execHdmDecoderCommit ld idx base size skip ways gran lockOnCommit s
  | .getEventRecords ld log => Sys2Proof.Machine.execGetEventRecords ld log s
  | .clearEventRecords ld log all handles => Sys2Proof.Machine.execClearEventRecords ld log all handles s
  | .getEventInterruptPolicy ld => Sys2Proof.Machine.execGetEventInterruptPolicy ld s
  | .setEventInterruptPolicy ld policy => Sys2Proof.Machine.execSetEventInterruptPolicy ld policy s
  | .getFwInfo ld => Sys2Proof.Machine.execGetFwInfo ld s
  | .getTimestamp ld => Sys2Proof.Machine.execGetTimestamp ld s
  | .setTimestamp ld t => Sys2Proof.Machine.execSetTimestamp ld t s
  | .getSupportedLogs ld => Sys2Proof.Machine.execGetSupportedLogs ld s
  | .getLog ld cel => Sys2Proof.Machine.execGetLog ld cel s
  | .identifyMemoryDevice ld => Sys2Proof.Machine.execIdentifyMemoryDevice ld s
  | .getPartitionInfo ld => Sys2Proof.Machine.execGetPartitionInfo ld s
  | .getLsa ld off len => Sys2Proof.Machine.execGetLsa ld off len s
  | .setLsa ld off data => Sys2Proof.Machine.execSetLsa ld off data s
  | .getHealthInfo ld => Sys2Proof.Machine.execGetHealthInfo ld s
  | .getAlertConfiguration ld => Sys2Proof.Machine.execGetAlertConfiguration ld s
  | .getShutdownState ld => Sys2Proof.Machine.execGetShutdownState ld s
  | .setShutdownState ld v => Sys2Proof.Machine.execSetShutdownState ld v s
  | .getPoisonList ld dpa len => Sys2Proof.Machine.execGetPoisonList ld dpa len s
  | .injectPoison ld dpa => Sys2Proof.Machine.execInjectPoison ld dpa s
  | .clearPoison ld dpa data => Sys2Proof.Machine.execClearPoison ld dpa data s
  | .scanMedia ld dpa len => Sys2Proof.Machine.execScanMedia ld dpa len s
  | .getScanMediaCapabilities ld dpa len => Sys2Proof.Machine.execGetScanMediaCapabilities ld dpa len s
  | .getScanMediaResults ld => Sys2Proof.Machine.execGetScanMediaResults ld s
  | .scanMediaDone ld bad => Sys2Proof.Machine.execScanMediaDone ld bad s
  | .mailboxMgmtRequest ld typ => Sys2Proof.Machine.execMailboxMgmtRequest ld typ s
  | .mailboxUnsupported ld opcode => Sys2Proof.Machine.execMailboxUnsupported ld opcode s
  | .getLdInfo link => Sys2Proof.Machine.execGetLdInfo link s
  | .getLdAllocations link => Sys2Proof.Machine.execGetLdAllocations link s
  | .getQosStatus link => Sys2Proof.Machine.execGetQosStatus link s
  | .fmApiUnsupported link opcode => Sys2Proof.Machine.execFmApiUnsupported link opcode s
  | .ethLinkUp link => Sys2Proof.Machine.execEthLinkUp link s
  | .ethLinkDown link => Sys2Proof.Machine.execEthLinkDown link s
  | .ethLinkServiceWrite link service => Sys2Proof.Machine.execEthLinkServiceWrite link service s
  | .arpNdRequest link addr => Sys2Proof.Machine.execArpNdRequest link addr s
  | .cmReq f addr pkey mtu rc depth psn priv => Sys2Proof.Machine.execCmReq f addr pkey mtu rc depth psn priv s
  | .cmRtu f qpn => Sys2Proof.Machine.execCmRtu f qpn s
  | .cmDreq f qpn => Sys2Proof.Machine.execCmDreq f qpn s
  | .cmRejRx f qpn => Sys2Proof.Machine.execCmRejRx f qpn s
  | .cmOtherMad f => Sys2Proof.Machine.execCmOtherMad f s
  | .rdmaReadReq f qpn pkey psn va rkey len sram => Sys2Proof.Machine.execRdmaReadReq f qpn pkey psn va rkey len sram s
  | .rdmaWritePacket f qpn pkey psn first last va rkey len bytes sram => Sys2Proof.Machine.execRdmaWritePacket f qpn pkey psn first last va rkey len bytes sram s
  | .rdmaWriteAck qpn => Sys2Proof.Machine.execRdmaWriteAck qpn s
  | .rdmaAtomic f qpn pkey psn swap va rkey add compare sram => Sys2Proof.Machine.execRdmaAtomic f qpn pkey psn swap va rkey add compare sram s
  | .rdmaUnsupportedOpcode f qpn pkey psn => Sys2Proof.Machine.execRdmaUnsupportedOpcode f qpn pkey psn s
  | .cqpSend f qpn pkey psn len ds => Sys2Proof.Machine.execCqpSend f qpn pkey psn len ds s
  | .rdmaAckRx f qpn psn nak => Sys2Proof.Machine.execRdmaAckRx f qpn psn nak s
  | .cqpRnrNakRx f qpn psn => Sys2Proof.Machine.execCqpRnrNakRx f qpn psn s
  | .cqpRnrRetry qpn => Sys2Proof.Machine.execCqpRnrRetry qpn s
  | .completionSendFlush qpn => Sys2Proof.Machine.execCompletionSendFlush qpn s
  | .qpContextFetchDone qpn => Sys2Proof.Machine.execQpContextFetchDone qpn s
  | .qpCachePressureCheck => Sys2Proof.Machine.execQpCachePressureCheck s
  | .hltHolddownExpiry gid => Sys2Proof.Machine.execHltHolddownExpiry gid s
  | .hltMoveDrainDone gid => Sys2Proof.Machine.execHltMoveDrainDone gid s
  | .hltFlapClear gid => Sys2Proof.Machine.execHltFlapClear gid s
  | .hltEntryAgeOut gid => Sys2Proof.Machine.execHltEntryAgeOut gid s
  | .cnpRx f qpn => Sys2Proof.Machine.execCnpRx f qpn s
  | .cnpRateRecovery qpn => Sys2Proof.Machine.execCnpRateRecovery qpn s
  | .sluiceCnpTimer => Sys2Proof.Machine.execSluiceCnpTimer s
  | .pfcFrameRx link pause => Sys2Proof.Machine.execPfcFrameRx link pause s
  | .pfcPauseLong link => Sys2Proof.Machine.execPfcPauseLong link s
  | .ringEnable ld r v => Sys2Proof.Machine.execRingEnable ld r v s
  | .ringDisable ld r => Sys2Proof.Machine.execRingDisable ld r s
  | .ringDisabled ld r => Sys2Proof.Machine.execRingDisabled ld r s
  | .pollerTick ld r => Sys2Proof.Machine.execPollerTick ld r s
  | .ringFetchData ld r ds => Sys2Proof.Machine.execRingFetchData ld r ds s
  | .multipartAssembled q seq => Sys2Proof.Machine.execMultipartAssembled q seq s
  | .cqHeadRecheck ld r => Sys2Proof.Machine.execCqHeadRecheck ld r s
  | .cqFullTimeout ld r => Sys2Proof.Machine.execCqFullTimeout ld r s
  | .ringIdleSleep ld r tail => Sys2Proof.Machine.execRingIdleSleep ld r tail s
  | .ringWake ld mask => Sys2Proof.Machine.execRingWake ld mask s
  | .ringRestart ld r => Sys2Proof.Machine.execRingRestart ld r s
  | .irqCoalesceExpiry ld r notice => Sys2Proof.Machine.execIrqCoalesceExpiry ld r notice s
  | .copy q seq sram => Sys2Proof.Machine.execCopy q seq sram s
  | .zero q seq => Sys2Proof.Machine.execZero q seq s
  | .copyZeroResume q seq sram => Sys2Proof.Machine.execCopyZeroResume q seq sram s
  | .copyZeroDone q seq => Sys2Proof.Machine.execCopyZeroDone q seq s
  | .hazardHoldRelease q seq sram => Sys2Proof.Machine.execHazardHoldRelease q seq sram s
  | .wait q seq => Sys2Proof.Machine.execWait q seq s
  | .waitSatisfied q seq => Sys2Proof.Machine.execWaitSatisfied q seq s
  | .waitTimeout q seq => Sys2Proof.Machine.execWaitTimeout q seq s
  | .abort q seq => Sys2Proof.Machine.execAbort q seq s
  | .regionAttach q seq => Sys2Proof.Machine.execRegionAttach q seq s
  | .regionAttachComplete q seq => Sys2Proof.Machine.execRegionAttachComplete q seq s
  | .regionDetach q seq => Sys2Proof.Machine.execRegionDetach q seq s
  | .regionDetachComplete q seq => Sys2Proof.Machine.execRegionDetachComplete q seq s
  | .regionRelease idx => Sys2Proof.Machine.execRegionRelease idx s
  | .regionInfo q seq => Sys2Proof.Machine.execRegionInfo q seq s
  | .keyProvision q seq tagOk => Sys2Proof.Machine.execKeyProvision q seq tagOk s
  | .keyRotate q seq => Sys2Proof.Machine.execKeyRotate q seq s
  | .streamDeclare q seq bad => Sys2Proof.Machine.execStreamDeclare q seq bad s
  | .streamAdvance q seq => Sys2Proof.Machine.execStreamAdvance q seq s
  | .streamRetire q seq => Sys2Proof.Machine.execStreamRetire q seq s
  | .guest q seq => Sys2Proof.Machine.execGuest q seq s
  | .mgmtOperation q seq => Sys2Proof.Machine.execMgmtOperation q seq s
  | .tenantCreate t => Sys2Proof.Machine.execTenantCreate t s
  | .tenantRemove t => Sys2Proof.Machine.execTenantRemove t s
  | .bindingWrite pkeyMap n v => Sys2Proof.Machine.execBindingWrite pkeyMap n v s
  | .haSliceSleep home => Sys2Proof.Machine.execHaSliceSleep home s
  | .victimWriteAck line => Sys2Proof.Machine.execVictimWriteAck line s
  | .haRemapRequest home phys => Sys2Proof.Machine.execHaRemapRequest home phys s
  | .haSliceBistDone slice pass => Sys2Proof.Machine.execHaSliceBistDone slice pass s
  | .haSliceBistTimeout slice => Sys2Proof.Machine.execHaSliceBistTimeout slice s
  | .epochBoundary => Sys2Proof.Machine.execEpochBoundary s
  | .latencyTracerClear => Sys2Proof.Machine.execLatencyTracerClear s
  | .fillLanded page bad ecc verdicts stalls memory crypto => Sys2Proof.Machine.execFillLanded page bad ecc verdicts stalls memory crypto s
  | .stallCeilingExpiry id parts => Sys2Proof.Machine.execStallCeilingExpiry id parts s
  | .extentDrop => Sys2Proof.Machine.execExtentDrop s
  | .frameWaitTimeout => Sys2Proof.Machine.execFrameWaitTimeout s
  | .writebackCapture page => Sys2Proof.Machine.execWritebackCapture page s
  | .writebackProgramDone page => Sys2Proof.Machine.execWritebackProgramDone page s
  | .programFailed page => Sys2Proof.Machine.execProgramFailed page s
  | .journalBlockWrite => Sys2Proof.Machine.execJournalBlockWrite s
  | .tablePageWrite tp => Sys2Proof.Machine.execTablePageWrite tp s
  | .gcVictimRelocate => Sys2Proof.Machine.execGcVictimRelocate s
  | .wearLevelRelocate => Sys2Proof.Machine.execWearLevelRelocate s
  | .streamStatusWrite j => Sys2Proof.Machine.execStreamStatusWrite j s
  | .freeboardRecompute => Sys2Proof.Machine.execFreeboardRecompute s
  | .sluiceShareRecompute => Sys2Proof.Machine.execSluiceShareRecompute s
  | .thermalCapStep => Sys2Proof.Machine.execThermalCapStep s
  | .bankIdRead record crcOk => Sys2Proof.Machine.execBankIdRead record crcOk s
  | .assayDue => Sys2Proof.Machine.execAssayDue s
  | .assayNow => Sys2Proof.Machine.execAssayNow s
  | .assayPrepareReady => Sys2Proof.Machine.execAssayPrepareReady s
  | .assayPrepareTimeout => Sys2Proof.Machine.execAssayPrepareTimeout s
  | .assayEsrMeasure => Sys2Proof.Machine.execAssayEsrMeasure s
  | .assayDischargeEnd => Sys2Proof.Machine.execAssayDischargeEnd s
  | .assayDischargeTimeout => Sys2Proof.Machine.execAssayDischargeTimeout s
  | .assayRelaxEnd => Sys2Proof.Machine.execAssayRelaxEnd s
  | .assayRechargeDone => Sys2Proof.Machine.execAssayRechargeDone s
  | .assayRechargeTimeout => Sys2Proof.Machine.execAssayRechargeTimeout s
  | .assayRetryDue => Sys2Proof.Machine.execAssayRetryDue s
  | .pfailNAssert => Sys2Proof.Machine.execPfailNAssert s
  | .pfailNDeassert => Sys2Proof.Machine.execPfailNDeassert s
  | .pfailFilterExpiry => Sys2Proof.Machine.execPfailFilterExpiry s
  | .spillwaySeal us energy => Sys2Proof.Machine.execSpillwaySeal us energy s
  | .saveRestartWaitEnd => Sys2Proof.Machine.execSaveRestartWaitEnd s
  | .restorePhaseDone repaired ignored damage gap bad => Sys2Proof.Machine.execRestorePhaseDone repaired ignored damage gap bad s
  | .restoreExit => Sys2Proof.Machine.execRestoreExit s
  | .lineDataArrival line verdict lanes ecc copyBad memory crypto => Sys2Proof.Machine.execLineDataArrival line verdict lanes ecc copyBad memory crypto s
  | .cpIdleSleep home => Sys2Proof.Machine.execCpIdleSleep home s
  | .cpRemapRequest home phys => Sys2Proof.Machine.execCpRemapRequest home phys s
  | .cpSelfTestDone pipe pass => Sys2Proof.Machine.execCpSelfTestDone pipe pass s
  | .cpSelfTestTimeout pipe => Sys2Proof.Machine.execCpSelfTestTimeout pipe s
  | .ksLoad => Sys2Proof.Machine.execKsLoad s
  | .ksDestroy => Sys2Proof.Machine.execKsDestroy s
  | .ksCommandDone => Sys2Proof.Machine.execKsCommandDone s
  | .keyStoreUpdate => Sys2Proof.Machine.execKeyStoreUpdate s
  | .keyStoreUpdateDone => Sys2Proof.Machine.execKeyStoreUpdateDone s
  | .rotationSweepExtent idx bad => Sys2Proof.Machine.execRotationSweepExtent idx bad s
  | .flipMaskArm f read => Sys2Proof.Machine.execFlipMaskArm f read s
  | .dimmTempRead c d reading => Sys2Proof.Machine.execDimmTempRead c d reading s
  | .channelTrainingDone c lanes ppr decoderOk => Sys2Proof.Machine.execChannelTrainingDone c lanes ppr decoderOk s
  | .channelTrainingTimeout c step => Sys2Proof.Machine.execChannelTrainingTimeout c step s
  | .zqCalibration c rank => Sys2Proof.Machine.execZqCalibration c rank s
  | .dqsDriftTrack c drift => Sys2Proof.Machine.execDqsDriftTrack c drift s
  | .refreshDue c rank => Sys2Proof.Machine.execRefreshDue c rank s
  | .rankPowerDownEntry c rank => Sys2Proof.Machine.execRankPowerDownEntry c rank s
  | .rankSelfRefreshEntry c rank => Sys2Proof.Machine.execRankSelfRefreshEntry c rank s
  | .dramAlert c replays ok reads writes => Sys2Proof.Machine.execDramAlert c replays ok reads writes s
  | .dramPatrolRead c line loc bad ecc copyBad pct done => Sys2Proof.Machine.execDramPatrolRead c line loc bad ecc copyBad pct done s
  | .channelServiceWrite c service => Sys2Proof.Machine.execChannelServiceWrite c service s
  | .channelDrainPageCopy c page => Sys2Proof.Machine.execChannelDrainPageCopy c page s
  | .channelFault c => Sys2Proof.Machine.execChannelFault c s
  | .slotPresenceFiltered slot present record crcOk => Sys2Proof.Machine.execSlotPresenceFiltered slot present record crcOk s
  | .slotPowerAttempt slot => Sys2Proof.Machine.execSlotPowerAttempt slot s
  | .slotPgTimeout slot => Sys2Proof.Machine.execSlotPgTimeout slot s
  | .slotFault slot => Sys2Proof.Machine.execSlotFault slot s
  | .slotPowerRetry slot => Sys2Proof.Machine.execSlotPowerRetry slot s
  | .slotSettleDone slot geometry factoryBad => Sys2Proof.Machine.execSlotSettleDone slot geometry factoryBad s
  | .slotClearFault slot => Sys2Proof.Machine.execSlotClearFault slot s
  | .slotFailNow slot => Sys2Proof.Machine.execSlotFailNow slot s
  | .onfiReadyTimeout slot => Sys2Proof.Machine.execOnfiReadyTimeout slot s
  | .nandEraseDone what failed => Sys2Proof.Machine.execNandEraseDone what failed s
  | .noGroupRetry => Sys2Proof.Machine.execNoGroupRetry s
  | .rebuildStripe bad ecc progFail => Sys2Proof.Machine.execRebuildStripe bad ecc progFail s
  | .repairReplyTimeout id => Sys2Proof.Machine.execRepairReplyTimeout id s
  | .flashPatrolStripe bad ecc parity marginal engine => Sys2Proof.Machine.execFlashPatrolStripe bad ecc parity marginal engine s
  | .flashPatrolRateUpdate => Sys2Proof.Machine.execFlashPatrolRateUpdate s
  | .moduleTempRead slot reading => Sys2Proof.Machine.execModuleTempRead slot reading s
  | .pathTrainingDone p => Sys2Proof.Machine.execPathTrainingDone p s
  | .pathTrainingTimeout p => Sys2Proof.Machine.execPathTrainingTimeout p s
  | .pathRetrainDue p => Sys2Proof.Machine.execPathRetrainDue p s
  | .pathLinkLoss p fec => Sys2Proof.Machine.execPathLinkLoss p fec s
  | .cwPathServiceWrite p service => Sys2Proof.Machine.execCwPathServiceWrite p service s
  | .linesFrameRx m es win => Sys2Proof.Machine.execLinesFrameRx m es win s
  | .linesBgFrameRx m es => Sys2Proof.Machine.execLinesBgFrameRx m es s
  | .pageMarkRx m es => Sys2Proof.Machine.execPageMarkRx m es s
  | .horizonFrameRx m es => Sys2Proof.Machine.execHorizonFrameRx m es s
  | .recordFrameRx m kind idx words => Sys2Proof.Machine.execRecordFrameRx m kind idx words s
  | .recordCommitRx m seqs => Sys2Proof.Machine.execRecordCommitRx m seqs s
  | .keyGenEntryRx m side gen tenant midx salt => Sys2Proof.Machine.execKeyGenEntryRx m side gen tenant midx salt s
  | .keyMasterRx m tenant midx serial master => Sys2Proof.Machine.execKeyMasterRx m tenant midx serial master s
  | .keyDestroyRx m tenantKey a b => Sys2Proof.Machine.execKeyDestroyRx m tenantKey a b s
  | .repairReqRx m id page => Sys2Proof.Machine.execRepairReqRx m id page s
  | .assayStateRx m claim => Sys2Proof.Machine.execAssayStateRx m claim s
  | .drainBeginRx m => Sys2Proof.Machine.execDrainBeginRx m s
  | .catchupBeginRx m full0 full1 => Sys2Proof.Machine.execCatchupBeginRx m full0 full1 s
  | .catchupDoneRx m => Sys2Proof.Machine.execCatchupDoneRx m s
  | .temperSetRx m temper => Sys2Proof.Machine.execTemperSetRx m temper s
  | .unpairRx m => Sys2Proof.Machine.execUnpairRx m s
  | .repairDoneRx m id status => Sys2Proof.Machine.execRepairDoneRx m id status s
  | .keyCommittedRx m seq => Sys2Proof.Machine.execKeyCommittedRx m seq s
  | .controlFrameRx c => Sys2Proof.Machine.execControlFrameRx c s
  | .helloRx p fchk fec h => Sys2Proof.Machine.execHelloRx p fchk fec h s
  | .nakTimer => Sys2Proof.Machine.execNakTimer s
  | .retransmitTimer seq => Sys2Proof.Machine.execRetransmitTimer seq s
  | .controlSendTimer p => Sys2Proof.Machine.execControlSendTimer p s
  | .helloSendTimer => Sys2Proof.Machine.execHelloSendTimer s
  | .rekeyDue => Sys2Proof.Machine.execRekeyDue s
  | .cwRekey => Sys2Proof.Machine.execCwRekey s
  | .oldKeyEpochExpiry => Sys2Proof.Machine.execOldKeyEpochExpiry s
  | .heartbeatTimer => Sys2Proof.Machine.execHeartbeatTimer s
  | .takeoverReqResend => Sys2Proof.Machine.execTakeoverReqResend s
  | .witnessStatusRx f => Sys2Proof.Machine.execWitnessStatusRx f s
  | .witnessGrantRx f scans => Sys2Proof.Machine.execWitnessGrantRx f scans s
  | .witnessDenyRx f => Sys2Proof.Machine.execWitnessDenyRx f s
  | .witnessFenceRx f => Sys2Proof.Machine.execWitnessFenceRx f s
  | .witnessContactTimeout => Sys2Proof.Machine.execWitnessContactTimeout s
  | .twinContactTimeout => Sys2Proof.Machine.execTwinContactTimeout s
  | .fenceNAssert => Sys2Proof.Machine.execFenceNAssert s
  | .fenceNDeassert => Sys2Proof.Machine.execFenceNDeassert s
  | .checkpointDue late us => Sys2Proof.Machine.execCheckpointDue late us s
  | .cwDrain => Sys2Proof.Machine.execCwDrain s
  | .drainCutoverReady us => Sys2Proof.Machine.execDrainCutoverReady us s
  | .drainReleaseTimeout => Sys2Proof.Machine.execDrainReleaseTimeout s
  | .cwUnpair => Sys2Proof.Machine.execCwUnpair s
  | .cwReplaceAllow => Sys2Proof.Machine.execCwReplaceAllow s
  | .cwPairAllowNew => Sys2Proof.Machine.execCwPairAllowNew s
  | .pairAllowExpiry replace => Sys2Proof.Machine.execPairAllowExpiry replace s
  | .catchupCopyExtent x => Sys2Proof.Machine.execCatchupCopyExtent x s
  | .catchupComplete => Sys2Proof.Machine.execCatchupComplete s
  | .handbackStart us => Sys2Proof.Machine.execHandbackStart us s
  | .kerupLinkUp k width repaired spares => Sys2Proof.Machine.execKerupLinkUp k width repaired spares s
  | .kerupLinkDown k => Sys2Proof.Machine.execKerupLinkDown k s
  | .guestRdGran p tag handle grant addr sramBad => Sys2Proof.Machine.execGuestRdGran p tag handle grant addr sramBad s
  | .guestRdLine p tag handle grant addr sramBad => Sys2Proof.Machine.execGuestRdLine p tag handle grant addr sramBad s
  | .guestRdHint p tag handle grant addr => Sys2Proof.Machine.execGuestRdHint p tag handle grant addr s
  | .guestWrPtl p tag handle grant addr mask data sramBad => Sys2Proof.Machine.execGuestWrPtl p tag handle grant addr mask data sramBad s
  | .guestWrGran p tag handle grant addr data sramBad => Sys2Proof.Machine.execGuestWrGran p tag handle grant addr data sramBad s
  | .guestWrLine p tag handle grant addr data => Sys2Proof.Machine.execGuestWrLine p tag handle grant addr data s
  | .guestRegRd p tag off => Sys2Proof.Machine.execGuestRegRd p tag off s
  | .guestRegWr p tag off value => Sys2Proof.Machine.execGuestRegWr p tag off value s
  | .gqTakenRx p handle => Sys2Proof.Machine.execGqTakenRx p handle s
  | .gqDoneRx p handle code ra rb => Sys2Proof.Machine.execGqDoneRx p handle code ra rb s
  | .grantAckRx p grant => Sys2Proof.Machine.execGrantAckRx p grant s
  | .echoRspRx p pattern => Sys2Proof.Machine.execEchoRspRx p pattern s
  | .guestCmpOkRx p tag => Sys2Proof.Machine.execGuestCmpOkRx p tag s
  | .guestCmpErrRx p tag code => Sys2Proof.Machine.execGuestCmpErrRx p tag code s
  | .guestRegDataRx p tag value => Sys2Proof.Machine.execGuestRegDataRx p tag value s
  | .gqSubmitDispatch q => Sys2Proof.Machine.execGqSubmitDispatch q s
  | .kgGrantWrite grant word value => Sys2Proof.Machine.execKgGrantWrite grant word value s
  | .grantRevoke grant => Sys2Proof.Machine.execGrantRevoke grant s
  | .grantRevokedSend grant => Sys2Proof.Machine.execGrantRevokedSend grant s
  | .grantAckTimeout grant => Sys2Proof.Machine.execGrantAckTimeout grant s
  | .gqTimeout handle => Sys2Proof.Machine.execGqTimeout handle s
  | .gErrNfAssert => Sys2Proof.Machine.execGErrNfAssert s
  | .gErrFAssert => Sys2Proof.Machine.execGErrFAssert s
  | .guestRefclkStable => Sys2Proof.Machine.execGuestRefclkStable s
  | .gReadyAssert => Sys2Proof.Machine.execGReadyAssert s
  | .guestBringupTimeout => Sys2Proof.Machine.execGuestBringupTimeout s
  | .guestReset => Sys2Proof.Machine.execGuestReset s
  | .guestServiceWrite service => Sys2Proof.Machine.execGuestServiceWrite service s
  | .kerupL1Entry p => Sys2Proof.Machine.execKerupL1Entry p s
  | .kerupL1Exit p => Sys2Proof.Machine.execKerupL1Exit p s
  | .kgGregAccess off write value => Sys2Proof.Machine.execKgGregAccess off write value s
  | .kgGregTimeout off => Sys2Proof.Machine.execKgGregTimeout off s
  | .reeveLockstepFail failed => Sys2Proof.Machine.execReeveLockstepFail failed s
  | .reeveWatchdogExpiry => Sys2Proof.Machine.execReeveWatchdogExpiry s
  | .rvWdtKick value corrected => Sys2Proof.Machine.execRvWdtKick value corrected s
  | .reeveSramUncorrectable addr => Sys2Proof.Machine.execReeveSramUncorrectable addr s
  | .reeveBoot checks => Sys2Proof.Machine.execReeveBoot checks s
  | .fwTrialConfirm => Sys2Proof.Machine.execFwTrialConfirm s
  | .fwTrialTimeout => Sys2Proof.Machine.execFwTrialTimeout s
  | .flashUnlockWrite bank off value => Sys2Proof.Machine.execFlashUnlockWrite bank off value s
  | .programWord addr value => Sys2Proof.Machine.execProgramWord addr value s
  | .programRow addr value => Sys2Proof.Machine.execProgramRow addr value s
  | .eraseSector addr value => Sys2Proof.Machine.execEraseSector addr value s
  | .eraseBlock addr value => Sys2Proof.Machine.execEraseBlock addr value s
  | .flashClearStatus bank => Sys2Proof.Machine.execFlashClearStatus bank s
  | .flashReset bank => Sys2Proof.Machine.execFlashReset bank s
  | .flashOpDone bank ok => Sys2Proof.Machine.execFlashOpDone bank ok s
  | .flashWindowRead addr ecc => Sys2Proof.Machine.execFlashWindowRead addr ecc s
  | .readoutRaise path => Sys2Proof.Machine.execReadoutRaise path s
  | .readoutLowerArm path => Sys2Proof.Machine.execReadoutLowerArm path s
  | .readoutLowerConfirm path challenge => Sys2Proof.Machine.execReadoutLowerConfirm path challenge s
  | .readoutFinalArm path => Sys2Proof.Machine.execReadoutFinalArm path s
  | .readoutFinalConfirm path challenge => Sys2Proof.Machine.execReadoutFinalConfirm path challenge s
  | .armExpiry => Sys2Proof.Machine.execArmExpiry s
  | .readoutEraseDone => Sys2Proof.Machine.execReadoutEraseDone s
  | .bmcAddressMatch => Sys2Proof.Machine.execBmcAddressMatch s
  | .mctpControlMsg setEid => Sys2Proof.Machine.execMctpControlMsg setEid s
  | .getTid => Sys2Proof.Machine.execGetTid s
  | .getPldmVersion => Sys2Proof.Machine.execGetPldmVersion s
  | .getPldmTypes => Sys2Proof.Machine.execGetPldmTypes s
  | .getPldmCommands typ => Sys2Proof.Machine.execGetPldmCommands typ s
  | .getPdrRepositoryInfo => Sys2Proof.Machine.execGetPdrRepositoryInfo s
  | .getPdr n => Sys2Proof.Machine.execGetPdr n s
  | .getSensorReading sensor => Sys2Proof.Machine.execGetSensorReading sensor s
  | .getStateSensorReadings sensor => Sys2Proof.Machine.execGetStateSensorReadings sensor s
  | .setNumericSensorEnable sensor on => Sys2Proof.Machine.execSetNumericSensorEnable sensor on s
  | .setEventReceiver eid => Sys2Proof.Machine.execSetEventReceiver eid s
  | .pollForPlatformEventMessage => Sys2Proof.Machine.execPollForPlatformEventMessage s
  | .queryDeviceIdentifiers => Sys2Proof.Machine.execQueryDeviceIdentifiers s
  | .getFirmwareParameters => Sys2Proof.Machine.execGetFirmwareParameters s
  | .requestUpdate => Sys2Proof.Machine.execRequestUpdate s
  | .passComponentTable => Sys2Proof.Machine.execPassComponentTable s
  | .updateComponent comp size => Sys2Proof.Machine.execUpdateComponent comp size s
  | .firmwareDataRx off bytes => Sys2Proof.Machine.execFirmwareDataRx off bytes s
  | .transferComplete check => Sys2Proof.Machine.execTransferComplete check s
  | .verifyComplete => Sys2Proof.Machine.execVerifyComplete s
  | .applyComplete => Sys2Proof.Machine.execApplyComplete s
  | .activateFirmware => Sys2Proof.Machine.execActivateFirmware s
  | .getStatus => Sys2Proof.Machine.execGetStatus s
  | .cancelUpdateComponent => Sys2Proof.Machine.execCancelUpdateComponent s
  | .cancelUpdate => Sys2Proof.Machine.execCancelUpdate s
  | .pldmUnsupported typ cmd => Sys2Proof.Machine.execPldmUnsupported typ cmd s
  | .spdmGetVersion t => Sys2Proof.Machine.execSpdmGetVersion t s
  | .spdmGetCapabilities t => Sys2Proof.Machine.execSpdmGetCapabilities t s
  | .spdmNegotiateAlgorithms t => Sys2Proof.Machine.execSpdmNegotiateAlgorithms t s
  | .spdmGetDigests t => Sys2Proof.Machine.execSpdmGetDigests t s
  | .spdmGetCertificate t slot off len => Sys2Proof.Machine.execSpdmGetCertificate t slot off len s
  | .spdmChallenge t slot => Sys2Proof.Machine.execSpdmChallenge t slot s
  | .spdmGetMeasurements t index => Sys2Proof.Machine.execSpdmGetMeasurements t index s
  | .spdmKeyExchange t => Sys2Proof.Machine.execSpdmKeyExchange t s
  | .spdmFinish t session ok => Sys2Proof.Machine.execSpdmFinish t session ok s
  | .spdmHeartbeat t session ok => Sys2Proof.Machine.execSpdmHeartbeat t session ok s
  | .spdmEndSession t session ok => Sys2Proof.Machine.execSpdmEndSession t session ok s
  | .mgmtStatus path => Sys2Proof.Machine.execMgmtStatus path s
  | .mgmtIdentity path => Sys2Proof.Machine.execMgmtIdentity path s
  | .mgmtDeviceKey path => Sys2Proof.Machine.execMgmtDeviceKey path s
  | .mgmtSensorRead path channels => Sys2Proof.Machine.execMgmtSensorRead path channels s
  | .mgmtBermRead path pool count => Sys2Proof.Machine.execMgmtBermRead path pool count s
  | .mgmtEventRead path start count => Sys2Proof.Machine.execMgmtEventRead path start count s
  | .mgmtTenantSet path tenant state weight regions gib => Sys2Proof.Machine.execMgmtTenantSet path tenant state weight regions gib s
  | .mgmtBindingSet path pkeyMap n v => Sys2Proof.Machine.execMgmtBindingSet path pkeyMap n v s
  | .mgmtGrantSet path grant w0 w1 w2 => Sys2Proof.Machine.execMgmtGrantSet path grant w0 w1 w2 s
  | .mgmtRegRead path off => Sys2Proof.Machine.execMgmtRegRead path off s
  | .mgmtRegWrite path off v => Sys2Proof.Machine.execMgmtRegWrite path off v s
  | .mgmtAssayNow path => Sys2Proof.Machine.execMgmtAssayNow path s
  | .mgmtPairCmd path bit => Sys2Proof.Machine.execMgmtPairCmd path bit s
  | .mgmtService path off v => Sys2Proof.Machine.execMgmtService path off v s
  | .mgmtTemperSet path temper => Sys2Proof.Machine.execMgmtTemperSet path temper s
  | .groupResetArm path => Sys2Proof.Machine.execGroupResetArm path s
  | .groupResetConfirm path challenge => Sys2Proof.Machine.execGroupResetConfirm path challenge s
  | .mgmtUnknownType path typ => Sys2Proof.Machine.execMgmtUnknownType path typ s
  | .adcConversion c reading peak => Sys2Proof.Machine.execAdcConversion c reading peak s
  | .adcTrackClear => Sys2Proof.Machine.execAdcTrackClear s
  | .errorLineAssert line link word => Sys2Proof.Machine.execErrorLineAssert line link word s
  | .wireFaultDetect pair => Sys2Proof.Machine.execWireFaultDetect pair s
  | .wireFaultPoll line link word => Sys2Proof.Machine.execWireFaultPoll line link word s
  | .sourceConditionEnd n => Sys2Proof.Machine.execSourceConditionEnd n s
  | .fcAckWrite n => Sys2Proof.Machine.execFcAckWrite n s
  | .fcRaiseWrite n => Sys2Proof.Machine.execFcRaiseWrite n s
  | .fcPinClear => Sys2Proof.Machine.execFcPinClear s
  | .eventRecordWrite cut => Sys2Proof.Machine.execEventRecordWrite cut s
  | .tokenRefill code => Sys2Proof.Machine.execTokenRefill code s
  | .vauxRise side autowake i3cAddr fuses part => Sys2Proof.Machine.execVauxRise side autowake i3cAddr fuses part s
  | .vauxFall => Sys2Proof.Machine.execVauxFall s
  | .aonStartCheck ok => Sys2Proof.Machine.execAonStartCheck ok s
  | .aonStartRetry => Sys2Proof.Machine.execAonStartRetry s
  | .aonRegulatorDip => Sys2Proof.Machine.execAonRegulatorDip s
  | .pwrRamp => Sys2Proof.Machine.execPwrRamp s
  | .pwrSleep => Sys2Proof.Machine.execPwrSleep s
  | .pwrShutdown => Sys2Proof.Machine.execPwrShutdown s
  | .pwrRestart => Sys2Proof.Machine.execPwrRestart s
  | .shutdownWritebackDone => Sys2Proof.Machine.execShutdownWritebackDone s
  | .pseqGoAssert => Sys2Proof.Machine.execPseqGoAssert s
  | .goWaitTimeout => Sys2Proof.Machine.execGoWaitTimeout s
  | .railPgAssert rail => Sys2Proof.Machine.execRailPgAssert rail s
  | .railPgTimeout rail => Sys2Proof.Machine.execRailPgTimeout rail s
  | .railWindowTimeout rail => Sys2Proof.Machine.execRailWindowTimeout rail s
  | .stepDelayExpiry rail => Sys2Proof.Machine.execStepDelayExpiry rail s
  | .pllLocked pll => Sys2Proof.Machine.execPllLocked pll s
  | .pllLockTimeout pll => Sys2Proof.Machine.execPllLockTimeout pll s
  | .rampdownRailOff rail => Sys2Proof.Machine.execRampdownRailOff rail s
  | .wakeRetryDelay => Sys2Proof.Machine.execWakeRetryDelay s
  | .moduleDiscoveryStart modules dimms faults checkers errorLines => Sys2Proof.Machine.execModuleDiscoveryStart modules dimms faults checkers errorLines s
  | .bringupComplete => Sys2Proof.Machine.execBringupComplete s
  | .railPgLoss rail => Sys2Proof.Machine.execRailPgLoss rail s
  | .pmbusPoll rail ok bad mv tenMa temp => Sys2Proof.Machine.execPmbusPoll rail ok bad mv tenMa temp s
  | .railMarginWrite rail steps => Sys2Proof.Machine.execRailMarginWrite rail steps s
  | .pmbusMarginAck rail ok => Sys2Proof.Machine.execPmbusMarginAck rail ok s
  | .xtalStable => Sys2Proof.Machine.execXtalStable s
  | .xtalFail => Sys2Proof.Machine.execXtalFail s
  | .pllLockLoss pll => Sys2Proof.Machine.execPllLockLoss pll s
  | .pllRelock pll => Sys2Proof.Machine.execPllRelock pll s
  | .pllRelockTimeout pll => Sys2Proof.Machine.execPllRelockTimeout pll s
  | .flashClockIdleStop channel => Sys2Proof.Machine.execFlashClockIdleStop channel s
  | .aonAlarmExpiry => Sys2Proof.Machine.execAonAlarmExpiry s
  | .junctionSensorRead c reading cause => Sys2Proof.Machine.execJunctionSensorRead c reading cause s
  | .thermalTrip c => Sys2Proof.Machine.execThermalTrip c s
  | .throttleGraceExpiry rate => Sys2Proof.Machine.execThrottleGraceExpiry rate s
  | .operatingSecondTick => Sys2Proof.Machine.execOperatingSecondTick s
  | .bermBucketClose => Sys2Proof.Machine.execBermBucketClose s
  | .bermCommit => Sys2Proof.Machine.execBermCommit s
  | .slotPgAssert slot => Sys2Proof.Machine.execSlotPgAssert slot s
  | .holdoffExpiry => Sys2Proof.Machine.execHoldoffExpiry s
  | .ringControlRecordReturn ld r tail head => Sys2Proof.Machine.execRingControlRecordReturn ld r tail head s
  | .ringReadCompletionTimeout ld r => Sys2Proof.Machine.execRingReadCompletionTimeout ld r s
  | .flitReplay link => Sys2Proof.Machine.execFlitReplay link s
  | .kerupFlitReplay k => Sys2Proof.Machine.execKerupFlitReplay k s
  | .fecCodewordUncorrectable link => Sys2Proof.Machine.execFecCodewordUncorrectable link s
  | .kerupCreditReturn p idle req wdat cmp rdat bad => Sys2Proof.Machine.execKerupCreditReturn p idle req wdat cmp rdat bad s
  | .jtagAccess act => Sys2Proof.Machine.execJtagAccess act s
  | .witnessLinkAligned => Sys2Proof.Machine.execWitnessLinkAligned s

end Sys2Proof.Machine
end

