-- ==== Sys2Proof/Machine/Step.lean ====
section
/-! DEFINITION. The step: the command at the front of the queue, or one fabric cycle. -/

namespace Sys2Proof.Machine

open Sys2Proof

/-- One fabric cycle passes with no command waiting (Table 0.6; DESIGN CHOICE, log entry 3), in which the receive buffers drain (R157). -/
def State.tick (s : State) : State := ({ s with now := s.now + 1 } : State).drainBuffers

/-- One step: the command at the front of the queue acts on the state with the rest of the queue; on an empty queue a fabric cycle passes. -/
def step (s : State) : Host.Outcome State Fault Refusal :=
  match s.pending with
  | [] => .next s.tick
  | c :: rest => exec c { s with pending := rest }

/-- A command put at the front of the queue. -/
def State.withFront (c : Instr) (s : State) : State := { s with pending := c :: s.pending }

/-- The state with the command a word spells at the front of its queue; unchanged where the word spells none. -/
def State.withFetchWord (s : State) (nbits w : Nat) : State :=
  match decodeTableWord nbits w with
  | some c => s.withFront c
  | none => s

end Sys2Proof.Machine
end

