-- ==== Sys2Proof/Safety.lean ====
section
/-! DEFINITION. What counts as a safe run, in the terms the statements use. -/

namespace Sys2Proof.Machine

open Sys2Proof

/-- The memory is in its canonical form: addresses strictly rising, and no listed byte equal to what an unlisted one reads as (0). -/
def Memory.wf (m : List Host.Cell) : Bool := Sparse.wf (fun _ => 0) m

/-- The tables of the state are in their canonical form: both memories, the line states of both, and the register file; and the
collector's queue and the always-on store hold no more than they have room for (R521). -/
structure State.Sound (s : State) : Prop where
  mem : Memory.wf s.mem = true
  deep : Memory.wf s.deep = true
  lines : Sparse.wf (fun _ => LineMeta.fresh) s.lines = true
  deepLines : Sparse.wf (fun _ => LineMeta.fresh) s.deepLines = true
  regs : s.regs.Pairwise fun (e f : Nat × Nat) => e.1 < f.1
  queue : s.fc.queue.length ≤ 1024
  aon : s.fc.aon.length ≤ 16

/-- An operation of queue `q` with sequence number `seq` and an opcode that may start: fetched and not started or held by a hazard, in a serving
mode that does not stop (R53), not fenced (R52), its tenant ACTIVE, and the Reeve's firmware running where the operation needs it. -/
def State.mayStart (q seq opcode : Nat) (s : State) : Option OpRec :=
  match s.op? q seq with
  | none => none
  | some o =>
    if dOpcode o.desc = opcode ∧ (o.phase = .ready ∨ o.phase = .held) ∧ s.mode.serving ∧ !s.stopping ∧ !s.fenced ∧
        s.tenantActive (s.queue q).tenant ∧ (!needsReeve opcode ∨ s.pw.firmware)
    then some o else none

/-- A mailbox command of a logical device is taken (R127, Table 3.6): its link is up, the mode is not SAVE, and, but for the status class, the
controller serves; a command that needs ADMIN has it. -/
def State.mailboxTakes (n : Nat) (status admin : Bool) (s : State) : Bool :=
  (match s.linkOfLd n with
   | none => false
   | some l => s.linkUp l) && decide (s.mode ≠ .save) && (status || s.mode.serving) && (!admin || s.isSet (F.LD_MAP_ADMIN n))

/-- A mirror frame is the next in order and authentic (R412, R414): its path is up, its check holds, its TYPE is known, it carries a key epoch
in force, no frame waits ahead of it, and its number is one above the last delivered; `a` is the state with its codewords counted and the
partner heard. -/
def State.frameNext (m : MirrorRx) (s a : State) : Bool :=
  let c := s.countFec m.path.val m.fec
  decide (s.pathState m.path.val = 2) && decide (c.pathState m.path.val = 2) && m.fchk && m.known && decide (c.get F.CW_RX_SEQ_SEQ < m.seq) &&
    c.cw.held.isEmpty && c.frameAuth m && decide (c.twinHeard = a) && a.cw.held.isEmpty && decide (a.get F.CW_RX_SEQ_SEQ + 1 = m.seq)

/-- Such a frame delivered: its number is the last delivered, a NAK for it ends, and its content takes effect. -/
def State.frameLands (m : MirrorRx) (b : CwBody) (s : State) : State :=
  let t := ({ s with cw := { s.cw with held := [], nak := if s.cw.nak ≤ m.seq then 0 else s.cw.nak } }).put F.CW_RX_SEQ_SEQ m.seq
  (t.deliverFrame State.landRepaired m.seq b).deliver State.landRepaired 1

/-- A MGMT message of a path and a type is handled (R500, R501): it waits on its path, the path may carry the type, and the mode takes it. -/
def State.mgmtTakes (p : MgmtPath) (typ : Nat) (s : State) : Bool :=
  s.mgmtWaits p typ && s.mgmtAllowed p typ && (!decide (s.mode = .bringup) || mgmtBringup typ) && (!decide (s.mode = .restore) || mgmtStatus typ)

/-- A PLDM request of a type is handled (R495, R498): the BMC port runs, and the recovery image does not take type 2. -/
def State.pldmTakes (typ : Nat) (s : State) : Bool := s.bmcPort && !(s.rv.recovery && decide (typ = 2))

end Sys2Proof.Machine
end

