-- ==== Sys2Proof/Certificates/Slice0/Obligations.lean ====
section
/-! DEFINITION. The statements for the provers. -/

open Sys2Proof Sys2Proof.Machine

/-- An aligned access by an agent that may reach the offset drops that agent's latch of the register; a write writes the word or words, a read returns the value and clears what a read clears, and the guest's own accesses are answered over Kerup. Where the spec leaves a point open, the effects follow the model's choices of log entries 7, 15 and 16. -/
def Obligations.RegisterAccessesComplete : Prop :=
  (∀ (agent : Agent) (off : Nat) (size : Nat) (v : Nat) (o : Nat) (s : State),
    s.answers agent = true ∧ (agent = .guest → off < 0x10000) ∧ reachOf agent off = some o ∧ mayWrite agent o = true ∧
      accessOk off (some o) size = true →
    exec (.registerWrite agent off size v) s =
      .next ((if size = 8 then (((s.dropLatch agent o).writeWord agent o (v % 2 ^ 32)).writeWord agent (o + 4) (v / 2 ^ 32 % 2 ^ 32)) else (s.dropLatch agent o).writeWord agent o (v % 2 ^ 32))).settle) ∧
  (∀ (agent : Agent) (off : Nat) (size : Nat) (o : Nat) (s : State),
    s.answers agent = true ∧ (agent = .guest → off < 0x10000) ∧ reachOf agent off = some o ∧ (o < 0xF40000 ∨ 0xF50000 ≤ o) ∧
      accessOk off (some o) size = true →
    exec (.registerReadClear agent off size) s =
      .next ((((s.readReg agent o (decide (size = 8))).2.emit (.regData agent off (s.readReg agent o (decide (size = 8))).1)).noteScratch agent o)).settle) ∧
  (∀ (agent : Agent) (off : Nat) (o : Nat) (s : State),
    s.answers agent = true ∧ (agent = .guest → off < 0x10000) ∧ reachOf agent off = some o ∧ (o < 0xF40000 ∨ 0xF50000 ≤ o) ∧
      off % 4 = 0 →
    exec (.registerReadLatchHigh agent off) s =
      .next ((((s.readReg agent o false).2.emit (.regData agent off (s.readReg agent o false).1)).noteScratch agent o)).settle) ∧
  (∀ (p : Fin 2) (tag : Nat) (off : Nat) (m : State) (s : State),
    m = s.guestMsg p.val 0 1 ∧ m.guestLink p.val = 2 ∧ m.frozenMode = false ∧ tag < 1024 ∧ m.guestReq p.val tag = none ∧ off % 4 = 0 ∧ off < 0x10000 →
    exec (.guestRegRd p tag off) s =
      .next (((((m.addReq ⟨p.val, tag, none, 0⟩).readReg .guest (0xF80000 + off) false).2.kerupSend p.val (.regData tag ((m.addReq ⟨p.val, tag, none, 0⟩).readReg .guest (0xF80000 + off) false).1)).noteScratch .guest (0xF80000 + off))).settle) ∧
  (∀ (p : Fin 2) (tag : Nat) (off : Nat) (value : BitVec 32) (m : State) (s : State),
    m = s.guestMsg p.val 0 1 ∧ m.guestLink p.val = 2 ∧ m.frozenMode = false ∧ tag < 1024 ∧ m.guestReq p.val tag = none ∧ off % 4 = 0 ∧ off < 0x10000 →
    exec (.guestRegWr p tag off value) s =
      .next (((((m.addReq ⟨p.val, tag, none, 0⟩).dropLatch .guest (0xF80000 + off)).writeWord .guest (0xF80000 + off) value.toNat).kerupSend p.val (.cmpOk tag false))).settle)

/-- A read that passes the checks of Table 2.8 is taken at its home agent, a write is presented to it, a hint wakes what it names, MemInv and unsupported messages are answered, in the state that the rules give, for every link, logical device, tag and address. Where the spec leaves a point open, the effects follow the model's choices of log entries 24, 45, 46 and 143. -/
def Obligations.CxlMemRequestsComplete : Prop :=
  (∀ (link : Fin 16) (ldid : Nat) (tag : Nat) (dpa : Nat) (sramBad : Bool) (n a : Nat) (s : State),
    s.cxlTarget link.val ldid = some n ∧ s.ldWithheld n = false ∧ s.cxlCheck n dpa false = (a, 0) →
    exec (.cxlMemrd link ldid tag dpa sramBad) s =
      .next ((s.presentRead { src := .cxl link.val n tag, tenant := s.get (F.LD_MAP_TENANT n), addr := a, len := 64, entered := s.now, sram := sramBad })).settle) ∧
  (∀ (link : Fin 16) (ldid : Nat) (tag : Nat) (dpa : Nat) (data : Granule) (poison : Bool) (sramBad : Bool) (n a : Nat) (s : State),
    s.cxlTarget link.val ldid = some n ∧ s.ldWithheld n = false ∧ s.cxlCheck n dpa true = (a, 0) →
    exec (.cxlMemwr link ldid tag dpa data poison sramBad) s =
      .next ((s.takeCxlWrite link.val { src := .cxl link.val n tag, tenant := s.get (F.LD_MAP_TENANT n), line := lineOf a, mask := ((BitVec.allOnes 64).setWidth 256) <<< (64 * (a / 64 % 4)), data := (data.setWidth 2048) <<< (512 * (a / 64 % 4)), poison := poison, readOnly := s.isSet (F.LD_MAP_READ_ONLY n), entered := s.now, sram := sramBad })).settle) ∧
  (∀ (link : Fin 16) (ldid : Nat) (tag : Nat) (dpa : Nat) (data : Granule) (enables : BitVec 64) (poison : Bool) (sramBad : Bool) (n a : Nat) (s : State),
    s.cxlTarget link.val ldid = some n ∧ s.ldWithheld n = false ∧ (enables ≠ 0 ∨ poison = true) ∧ s.cxlCheck n dpa true = (a, 0) →
    exec (.cxlMemwrptl link ldid tag dpa data enables poison sramBad) s =
      .next ((s.takeCxlWrite link.val { src := .cxl link.val n tag, tenant := s.get (F.LD_MAP_TENANT n), line := lineOf a, mask := (enables.setWidth 256) <<< (64 * (a / 64 % 4)), data := (data.setWidth 2048) <<< (512 * (a / 64 % 4)), poison := poison, readOnly := s.isSet (F.LD_MAP_READ_ONLY n), entered := s.now, sram := sramBad })).settle) ∧
  (∀ (link : Fin 16) (ldid : Nat) (dpa : Nat) (n a : Nat) (s : State),
    s.cxlTarget link.val ldid = some n ∧ s.ldWithheld n = false ∧ s.cxlCheck n dpa false = (a, 0) →
    exec (.cxlMemspecrd link ldid dpa) s =
      .next ((s.specRead (link.val / 4) (lineOf a))).settle) ∧
  (∀ (link : Fin 16) (ldid : Nat) (tag : Nat) (n : Nat) (s : State),
    s.cxlTarget link.val ldid = some n ∧ s.ldWithheld n = false →
    exec (.cxlMeminv link ldid tag) s =
      .next ((s.emit (.cxlCmp link.val n tag s.devLoad))).settle) ∧
  (∀ (link : Fin 16) (ldid : Nat) (tag : Nat) (read : Bool) (n : Nat) (s : State),
    s.cxlTarget link.val ldid = some n ∧ s.ldWithheld n = false →
    exec (.cxlUnsupportedM2s link ldid tag read) s =
      .next (((if read then (s.emit (.cxlData link.val n tag true 0 s.devLoad)).bump (F.CXL_LINK_POISON_READS_COUNT link.val) 1 else (s.bump (F.CXL_LINK_DISCARDS_COUNT link.val) 1).emit (.cxlCmp link.val n tag s.devLoad)).raiseLimited Ev.CXL_PROTOCOL_UNSUPPORTED link.val [])).settle)

/-- A write whose 20 fc have passed and whose read-back agrees is marked complete, the mirror window opens for the held writes, a PERSIST runs and completes once it is covered, a stalled PERSIST raises PERSIST_STALLED, GPF phase 1 is acknowledged, phase 2 takes the covered SEQ and ends with its result. Where the spec leaves a point open, the effects follow the model's choices of log entries 48, 131 and 132. -/
def Obligations.PolderCommandsComplete : Prop :=
  (∀ (id : Nat) (readbackOk : Bool) (w : WriteRec) (s : State),
    s.writes.find? (fun x => decide (x.id = id)) = some w ∧ w.done20 = false ∧ s.mode ≠ .save ∧ s.mode ≠ .quarantine ∧ readbackOk = true →
    exec (.writeCompletion id readbackOk) s =
      .next ({ s with writes := s.writes.map fun (x : WriteRec) => if x.id = id then { x with done20 := true } else x }).settle) ∧
  (∀ (s : State),
    s.frozenMode = false →
    exec .mirrorWindowDrain s =
      .next (s.drainHeld).settle) ∧
  (∀ (q : Nat) (seq : Nat) (o : OpRec) (s : State),
    s.mayStart q seq 1 = some o →
    exec (.persist q seq) s =
      .next ((if s.mode.twin then s.setOp q { o with phase := .running } else s.completeOp q o St.LOCAL_ONLY 0 0 0 [])).settle) ∧
  (∀ (q : Nat) (seq : Nat) (o : OpRec) (s : State),
    s.op? q seq = some o ∧ dOpcode o.desc = 1 ∧ o.phase = .running ∧ s.mode.twin = true ∧ s.fenced = false ∧ o.cover ≤ s.ackSeq ∧
      seq ≤ (s.queue q).horizon →
    exec (.persistComplete q seq) s =
      .next ((s.completeOp q o St.SUCCESS 0 0 0 [])).settle) ∧
  (∀ (q : Nat) (seq : Nat) (o : OpRec) (s : State),
    s.op? q seq = some o ∧ dOpcode o.desc = 1 ∧ o.phase = .running ∧ o.stalled = false ∧ s.isSet F.PLD_CFG_PERSIST_WATCH_EN = true ∧
      s.get F.PLD_CFG_PERSIST_WATCH_MS ≠ 0 →
    exec (.persistStalled q seq) s =
      .next (((s.setOp q { o with stalled := true }).raise Ev.PERSIST_STALLED [])).settle) ∧
  (∀ (ld : Fin 64) (l : Nat) (s : State),
    s.linkOfLd ld.val = some l ∧ s.linkUp l = true ∧ s.frozenMode = false →
    exec (.gpfPhase1 ld) s =
      .next ((s.emit (.gpfAck ld.val 1))).settle) ∧
  (∀ (ld : Fin 64) (l : Nat) (s : State),
    s.linkOfLd ld.val = some l ∧ s.linkUp l = true ∧ s.frozenMode = false ∧ s.isSet (F.LD_MAP_DORMANT ld.val) = false ∧ s.fenced = false ∧
      s.mode.twin = false →
    exec (.gpfPhase2 ld) s =
      .next (((s.put F.PLD_GPF_STATUS_GPF_COUNT (s.get F.PLD_GPF_STATUS_GPF_COUNT + 1)).endGpf ld.val 2 0)).settle) ∧
  (∀ (ld : Fin 64) (seq start : Nat) (s : State),
    (s.ld ld.val).gpf = some (seq, start) ∧ s.frozenMode = false ∧ s.fenced = false ∧ s.mode.twin = true ∧ seq ≤ s.ackSeq →
    exec (.gpfPhase2Done ld) s =
      .next ((s.endGpf ld.val (if s.now - start ≤ msFc 2 then 1 else 4) ((s.now - start) / 2000))).settle)

/-- Link up and down, PERST_N, hot reset, function reset, service, binding, IDE, HDM decoder commits, configuration requests and replays change the link, port and function as their rules say, for every link, port and logical device. Where the spec leaves a point open, the effects follow the model's choices of log entries 51, 129, 139, 140, 141, 142 and 165. -/
def Obligations.CxlLinkCommandsComplete : Prop :=
  (∀ (ld : Fin 64) (tag : Nat) (ask : CfgAsk) (l : Nat) (s : State),
    s.linkOfLd ld.val = some l ∧ s.linkUp l = true ∧ s.mode ≠ .save ∧ (s.port (l / 4)).cfgLoaded = true →
    exec (.configRequest ld tag ask) s =
      .next (((s.cfgAccess ld.val ask).emit (.cfgCompletion ld.val tag (s.cfgAnswer ld.val l ask)))).settle) ∧
  (∀ (p : Fin 4) (s : State),
    s.mode ≠ .save ∧ s.get (F.CXL_PORT_STATUS_SVC_STATE p.val) ≠ 0 →
    exec (.perstNAssert p) s =
      .next ((((s.put (F.CXL_PORT_STATUS_PERST_ASSERTED p.val) 1).bump (F.CXL_PORT_PERST_COUNT_COUNT p.val) 1).resetPort p.val (decide (s.mode = .quarantine)))).settle) ∧
  (∀ (p : Fin 4) (s : State),
    s.mode ≠ .save ∧ s.get (F.CXL_PORT_STATUS_SVC_STATE p.val) ≠ 0 →
    exec (.perstNDeassert p) s =
      .next (((s.put (F.CXL_PORT_STATUS_PERST_ASSERTED p.val) 0).setPort p.val { s.port p.val with cfgLoaded := true })).settle) ∧
  (∀ (link : Fin 16) (width : Nat) (rate : Nat) (mld : Bool) (lopt : Bool) (s : State),
    s.mode.mainRails = true ∧ s.get (F.CXL_PORT_STATUS_SVC_STATE (link.val / 4)) ≠ 0 ∧ s.isSet (F.CXL_PORT_STATUS_PERST_ASSERTED (link.val / 4)) = false ∧ (s.link link.val).present = true ∧ s.linkUp link.val = false ∧ rate = 3 ∧ (s.link link.val).ldCount < 2 ∧ width = (s.link link.val).lanes ∧ [1, 2, 4, 8, 16].contains width = true →
    exec (.cxlLinkUp link width rate mld lopt) s =
      .next ((let a := (((((s.put (F.CXL_LINK_STATUS_RATE link.val) rate).put (F.CXL_LINK_STATUS_WIDTH link.val) width).put (F.CXL_LINK_STATUS_MLD_ACTIVE link.val) 0).put (F.CXL_LINK_STATUS_LOPT_FLIT link.val) (flag lopt)).put (F.CXL_PORT_STATUS_SVC_STATE (link.val / 4)) 2); let b := ((a.setPort (link.val / 4) { a.port (link.val / 4) with cfgLoaded := true }).endCond (Ev.CXL_LINK_DOWN link.val)).endCond (Ev.CXL_LINK_DEGRADED link.val); b.forEach (b.linkLds link.val) fun n a => a.setActive n)).settle) ∧
  (∀ (link : Fin 16) (downs : List Nat) (s : State),
    s.linkUp link.val = true ∧ downs = ((s.port (link.val / 4)).downs.filter fun t => decide (s.now < t + secFc 60)) ++ [s.now] ∧ downs.length ≤ 16 →
    exec (.cxlLinkDown link) s =
      .next ((let a := s.resetPort (link.val / 4) (decide (s.mode = .save)); a.setPort (link.val / 4) { a.port (link.val / 4) with downs := downs })).settle) ∧
  (∀ (link : Fin 16) (s : State),
    s.linkUp link.val = true ∧ s.mode ≠ .save →
    exec (.cxlHotReset link) s =
      .next ((s.resetLink link.val false)).settle) ∧
  (∀ (ld : Fin 64) (s : State),
    s.mode ≠ .save →
    exec (.functionLevelReset ld) s =
      .next ((s.resetFunction ld.val)).settle) ∧
  (∀ (p : Fin 4) (service : Bool) (s : State),
    s.mode.mainRails = true ∧ service = false →
    exec (.cxlPortServiceWrite p service) s =
      .next (((s.put (F.CXL_PORT_CTRL_SERVICE p.val) 0).portLeaves p.val 2)).settle) ∧
  (∀ (link : Fin 16) (s : State),
    s.linkUp link.val = true →
    exec (.cxlBindRestore link) s =
      .next ((let a := s.put (F.CXL_LINK_STATUS_BIND_HOLD link.val) 0; a.forEach (a.linkLds link.val) fun n b => b.setActive n)).settle) ∧
  (∀ (link : Fin 16) (session : Nat) (act : IdeAct) (s : State),
    s.linkUp link.val = true ∧ s.frozenMode = false ∧ s.ideSession link.val session = true ∧ act = .program →
    exec (.ideKmExchange link session act) s =
      .next (((s.setLink link.val { s.link link.val with ideKeys := (s.link link.val).ideKeys + 1, epoch := [], epochNo := (s.link link.val).epochNo + 1 }).put (F.CXL_LINK_STATUS_IDE_STATE link.val) 1)).settle) ∧
  (∀ (link : Fin 16) (session : Nat) (act : IdeAct) (s : State),
    s.linkUp link.val = true ∧ s.frozenMode = false ∧ s.ideSession link.val session = true ∧ s.get (F.CXL_LINK_STATUS_IDE_STATE link.val) = 1 ∧ act = .refresh →
    exec (.ideKmExchange link session act) s =
      .next ((s.setLink link.val { s.link link.val with ideKeys := (s.link link.val).ideKeys + 1 })).settle) ∧
  (∀ (link : Fin 16) (session : Nat) (act : IdeAct) (s : State),
    s.linkUp link.val = true ∧ s.frozenMode = false ∧ act = .disable →
    exec (.ideKmExchange link session act) s =
      .next (((s.setLink link.val { s.link link.val with epoch := [] }).put (F.CXL_LINK_STATUS_IDE_STATE link.val) 0)).settle) ∧
  (∀ (link : Fin 16) (s : State),
    s.get (F.CXL_LINK_STATUS_IDE_STATE link.val) = 1 ∧ s.mode ≠ .save →
    exec (.ideMacFailure link) s =
      .next ((let k := s.link link.val; let a := { s with ingress := s.ingress.filter fun r => !r.ofEpoch link.val k.epochNo }; (((((a.setLink link.val { k with epoch := [], held := [], epochNo := k.epochNo + 1 }).put (F.CXL_LINK_STATUS_IDE_STATE link.val) 2).bump (F.CXL_LINK_IDE_FAILS_COUNT link.val) 1).forEach k.epoch fun e a => (a.poisonLine e.1 2).recordTo e.2 9 (Ev.IDE_FAILURE link.val) e.1 link.val true)).raise (Ev.IDE_FAILURE link.val) [])).settle) ∧
  (∀ (link : Fin 16) (s : State),
    s.get (F.CXL_LINK_STATUS_IDE_STATE link.val) = 1 ∧ s.frozenMode = false →
    exec (.ideEpochVerified link) s =
      .next (((s.setLink link.val { s.link link.val with epoch := [], epochNo := (s.link link.val).epochNo + 1, held := [] }).forEach (s.link link.val).held fun w a => a.presentWrite { w with epoch := (s.link link.val).epochNo + 1 })).settle) ∧
  (∀ (ld : Fin 64) (idx : Fin 4) (base : Nat) (size : Nat) (skip : Nat) (ways : Nat) (gran : Nat) (lockOnCommit : Bool) (l : Nat) (s : State),
    s.linkOfLd ld.val = some l ∧ s.linkUp l = true ∧ s.mode ≠ .save ∧ (Sparse.get {} idx.val (s.ld ld.val).hdm).locked = false ∧ hdmBase idx.val (s.ld ld.val).hdm + skip + size / max 1 ways ≤ s.winBytes ld.val ∧ ways ∈ [1, 2, 4, 8, 16] ∧ gran ∈ [256, 512, 1024, 2048, 4096, 8192, 16384] ∧ size ≠ 0 →
    exec (.hdmDecoderCommit ld idx base size skip ways gran lockOnCommit) s =
      .next ((let t := Sparse.set {} idx.val (⟨base, size, skip, ways, gran, true, lockOnCommit, false⟩ : Hdm) (s.ld ld.val).hdm; (s.setLd ld.val { s.ld ld.val with hdm := t }).put (F.CXL_LD_STATUS_HDM_COMMITTED ld.val) (flag (t.any fun e => e.2.committed)))).settle) ∧
  (∀ (link : Fin 16) (ts : List Nat) (s : State),
    s.linkUp link.val = true ∧ ts = ((s.link link.val).replays.filter fun t => decide (s.now < t + secFc 1)) ++ [s.now] ∧ ts.length ≠ 1001 →
    exec (.flitReplay link) s =
      .next (((s.setLink link.val { s.link link.val with replays := ts }).bump (F.CXL_LINK_REPLAYS_COUNT link.val) 1)).settle)

/-- A mailbox command that a logical device takes (its link up, the mode, class and ADMIN as the tables ask) changes what its rule names and answers Success with its payload, and an FM API command answers on its link. Where the spec leaves a point open, the effects follow the model's choices of log entries 49, 62, 138 and 144. -/
def Obligations.MailboxCommandsComplete : Prop :=
  (∀ (ld : Fin 64) (log : Fin 4) (s : State),
    s.mailboxTakes ld.val true false = true →
    exec (.getEventRecords ld log) s =
      .next ((s.mboxOk ld.val ([((s.ld ld.val).logs.getD log.val {}).recs.length, ((s.ld ld.val).logs.getD log.val {}).overflow] ++ (((s.ld ld.val).logs.getD log.val {}).recs.map recPayload).flatten))).settle) ∧
  (∀ (ld : Fin 64) (log : Fin 4) (all : Bool) (handles : List Nat) (s : State),
    s.mailboxTakes ld.val true false = true →
    exec (.clearEventRecords ld log all handles) s =
      .next (((s.setLd ld.val { s.ld ld.val with logs := (s.ld ld.val).logs.set log.val (let g := (s.ld ld.val).logs.getD log.val {}; if all then {} else { g with recs := g.recs.filter fun r => !handles.contains r.handle }) }).mboxOk ld.val [])).settle) ∧
  (∀ (ld : Fin 64) (s : State),
    s.mailboxTakes ld.val false false = true →
    exec (.getEventInterruptPolicy ld) s =
      .next ((s.mboxOk ld.val [(s.ld ld.val).irqPolicy])).settle) ∧
  (∀ (ld : Fin 64) (policy : Nat) (s : State),
    s.mailboxTakes ld.val false false = true ∧ (∀ k < 4, bitsOf policy (8 * k) 2 ≤ 1) →
    exec (.setEventInterruptPolicy ld policy) s =
      .next (((s.setLd ld.val { s.ld ld.val with irqPolicy := policy % 2 ^ 32 }).mboxOk ld.val [])).settle) ∧
  (∀ (ld : Fin 64) (s : State),
    s.mailboxTakes ld.val true false = true →
    exec (.getFwInfo ld) s =
      .next ((s.mboxOk ld.val [2, s.get F.ID_FW_STATUS_ACTIVE_SLOT, s.get F.ID_FW_VERSION_VERSION])).settle) ∧
  (∀ (ld : Fin 64) (s : State),
    s.mailboxTakes ld.val true false = true →
    exec (.getTimestamp ld) s =
      .next ((s.mboxOk ld.val [s.ldStamp ld.val])).settle) ∧
  (∀ (ld : Fin 64) (t : Nat) (s : State),
    s.mailboxTakes ld.val false false = true →
    exec (.setTimestamp ld t) s =
      .next (((s.setLd ld.val { s.ld ld.val with timestamp := t % 2 ^ 64, stampAt := s.now, stampSet := true }).mboxOk ld.val [])).settle) ∧
  (∀ (ld : Fin 64) (s : State),
    s.mailboxTakes ld.val true false = true →
    exec (.getSupportedLogs ld) s =
      .next ((s.mboxOk ld.val [1])).settle) ∧
  (∀ (ld : Fin 64) (cel : Bool) (s : State),
    s.mailboxTakes ld.val true false = true ∧ cel = true →
    exec (.getLog ld cel) s =
      .next ((s.mboxOk ld.val mailboxOpcodes)).settle) ∧
  (∀ (ld : Fin 64) (s : State),
    s.mailboxTakes ld.val true false = true →
    exec (.identifyMemoryDevice ld) s =
      .next ((s.mboxOk ld.val [s.spanUnits ld.val, 0, s.spanUnits ld.val, 0, 65536, 256, 256, 256, 256, 4096, 64])).settle) ∧
  (∀ (ld : Fin 64) (s : State),
    s.mailboxTakes ld.val true false = true →
    exec (.getPartitionInfo ld) s =
      .next ((s.mboxOk ld.val [0, s.spanUnits ld.val])).settle) ∧
  (∀ (ld : Fin 64) (off : Nat) (len : Nat) (s : State),
    s.mailboxTakes ld.val false false = true ∧ off + len ≤ 65536 →
    exec (.getLsa ld off len) s =
      .next ((s.mboxOk ld.val ((List.range len).map fun i => Sparse.get 0 (off + i) (s.winRec ld.val).lsa))).settle) ∧
  (∀ (ld : Fin 64) (off : Nat) (data : List Byte) (l : Sparse Nat) (f : Nat × State) (s : State),
    s.mailboxTakes ld.val false false = true ∧ (s.isSet (F.LD_MAP_DORMANT ld.val) = true → s.isSet (F.CXL_LD_STATUS_ACTIVATED ld.val) = true) ∧
      off + data.length ≤ 65536 ∧
      (List.range data.length).foldl (fun t i => Sparse.set 0 (off + i) ((data.getD i 0).toNat) t) (s.winRec ld.val).lsa = l ∧
      s.setWinRec { s.winRec ld.val with lsa := l } = f →
    exec (.setLsa ld off data) s =
      .next ((if f.1 = 0 then f.2.mboxOk ld.val [] else f.2.setLd ld.val { f.2.ld ld.val with lsaWait := f.1 })).settle) ∧
  (∀ (ld : Fin 64) (s : State),
    s.mailboxTakes ld.val true false = true →
    exec (.getHealthInfo ld) s =
      .next ((s.mboxOk ld.val [flag (decide (s.get F.BERM_STATUS_LOW ≠ 0) || decide (s.get F.BERM_STATUS_EXHAUSTED ≠ 0)), s.mediaStatus, s.get F.BERM_STATUS_LIFE_USED_PCT, (if s.get F.TH_STATUS_HOTTEST < 2 ^ 15 then s.get F.TH_STATUS_HOTTEST / 4 else 2 ^ 16 - (2 ^ 16 - s.get F.TH_STATUS_HOTTEST + 3) / 4), s.ssb.dirtyShutdowns, min s.dram.corrected (2 ^ 32 - 1), min s.fl.repairedLines (2 ^ 32 - 1)])).settle) ∧
  (∀ (ld : Fin 64) (s : State),
    s.mailboxTakes ld.val true false = true →
    exec (.getAlertConfiguration ld) s =
      .next ((s.mboxOk ld.val [0])).settle) ∧
  (∀ (ld : Fin 64) (s : State),
    s.mailboxTakes ld.val true false = true →
    exec (.getShutdownState ld) s =
      .next ((s.mboxOk ld.val [(s.winRec ld.val).shutdown])).settle) ∧
  (∀ (ld : Fin 64) (v : Nat) (s : State),
    s.mailboxTakes ld.val false false = true →
    exec (.setShutdownState ld v) s =
      .next (((s.setWinRec { s.winRec ld.val with shutdown := v % 256 }).2.mboxOk ld.val [])).settle) ∧
  (∀ (ld : Fin 64) (dpa : Nat) (len : Nat) (s : State),
    s.mailboxTakes ld.val true false = true →
    exec (.getPoisonList ld dpa len) s =
      .next ((s.mboxOk ld.val ([flag s.poisonOverflow] ++ ((s.lines.filter fun e => e.2.poison && s.live e.1 && s.inRange ld.val dpa len e.1).map fun e => [(s.winDpa ld.val e.1).getD 0, 4, e.2.psrc]).flatten))).settle) ∧
  (∀ (ld : Fin 64) (dpa : Nat) (p : Nat) (s : State),
    s.mailboxTakes ld.val false true = true ∧ s.mboxAddress ld.val dpa = some p ∧ s.fenced = false ∧
      (s.lines.filter fun e => e.2.poison && decide (e.2.psrc = 1)).length < 64 →
    exec (.injectPoison ld dpa) s =
      .next (((((s.grant (lineOf p) 7).poisonLine (lineOf p) 1).allocLine (lineOf p) 1 true).mboxOk ld.val [])).settle) ∧
  (∀ (ld : Fin 64) (dpa : Nat) (data : Granule) (p : Nat) (s : State),
    s.mailboxTakes ld.val false true = true ∧ s.mboxAddress ld.val dpa = some p ∧ s.fenced = false →
    exec (.clearPoison ld dpa data) s =
      .next (((s.presentWrite { src := .hub, tenant := s.get (F.LD_MAP_TENANT ld.val), line := lineOf p, mask := fullMask, data := (data.setWidth 2048) <<< (512 * (p / 64 % 4)), poison := false, readOnly := false, entered := s.now }).mboxOk ld.val [])).settle) ∧
  (∀ (ld : Fin 64) (dpa : Nat) (len : Nat) (s : State),
    s.mailboxTakes ld.val false false = true ∧ (s.ld ld.val).scan = none ∧ len ≠ 0 ∧ dpa + 64 * len ≤ s.winBytes ld.val →
    exec (.scanMedia ld dpa len) s =
      .next (((s.setLd ld.val { s.ld ld.val with scan := some (dpa, len), scanDone := false }).emit (.mailbox ld.val .background []))).settle) ∧
  (∀ (ld : Fin 64) (dpa : Nat) (len : Nat) (s : State),
    s.mailboxTakes ld.val false false = true ∧ dpa + 64 * len ≤ s.winBytes ld.val →
    exec (.getScanMediaCapabilities ld dpa len) s =
      .next ((s.mboxOk ld.val [ceilDiv (64 * len) 4000000])).settle) ∧
  (∀ (ld : Fin 64) (s : State),
    s.mailboxTakes ld.val false false = true →
    exec (.getScanMediaResults ld) s =
      .next ((s.mboxOk ld.val ([flag (s.ld ld.val).scanDone] ++ (s.ld ld.val).scanResults))).settle) ∧
  (∀ (ld : Fin 64) (bad : List Nat) (dpa len : Nat) (s : State),
    (s.ld ld.val).scan = some (dpa, len) ∧ s.frozenMode = false ∧ ((s.lines.filter fun e => e.2.poison).drop 65536) = [] →
    exec (.scanMediaDone ld bad) s =
      .next ({ (s.setLd ld.val { s.ld ld.val with scan := none, scanDone := true, scanResults := (bad.filter fun line => s.inRange ld.val dpa len line).filterMap fun line => s.winDpa ld.val line }) with poisonOverflow := false }).settle) ∧
  (∀ (ld : Fin 64) (opcode : Nat) (s : State),
    s.mailboxTakes ld.val false false = true →
    exec (.mailboxUnsupported ld opcode) s =
      .next ((s.emit (.mailbox ld.val .unsupported []))).settle) ∧
  (∀ (link : Fin 16) (s : State),
    s.linkUp link.val = true ∧ s.isSet (F.CXL_LINK_STATUS_MLD_ACTIVE link.val) = true ∧ s.mode ≠ .save →
    exec (.getLdInfo link) s =
      .next ((s.emit (.fmApi link.val true [(s.link link.val).ldCount]))).settle) ∧
  (∀ (link : Fin 16) (s : State),
    s.linkUp link.val = true ∧ s.isSet (F.CXL_LINK_STATUS_MLD_ACTIVE link.val) = true ∧ s.mode ≠ .save →
    exec (.getLdAllocations link) s =
      .next ((s.emit (.fmApi link.val true ([1] ++ (s.linkLds link.val).map fun n => if s.winValid n then s.get (F.CXL_LD_WIN_SPAN_SPAN_M1 n) + 1 else 0)))).settle) ∧
  (∀ (link : Fin 16) (s : State),
    s.linkUp link.val = true ∧ s.isSet (F.CXL_LINK_STATUS_MLD_ACTIVE link.val) = true ∧ s.mode ≠ .save →
    exec (.getQosStatus link) s =
      .next ((s.emit (.fmApi link.val true [s.devLoadAverage]))).settle) ∧
  (∀ (link : Fin 16) (opcode : Nat) (s : State),
    s.linkUp link.val = true ∧ s.isSet (F.CXL_LINK_STATUS_MLD_ACTIVE link.val) = true ∧ s.mode ≠ .save →
    exec (.fmApiUnsupported link opcode) s =
      .next ((s.emit (.fmApi link.val false []))).settle)

/-- Links, PFC, connection messages, request packets, acknowledgements, locator and congestion timers change the link, queue pair or locator entry as their rules say; a received frame counts, and a request packet of a good frame is taken by its queue pair. Where the spec leaves a point open, the effects follow the model's choices of log entries 21, 34, 35, 38, 120, 133, 134, 135, 136, 137, 164 and 180. -/
def Obligations.EthernetAndRdmaCommandsComplete : Prop :=
  (∀ (link : Fin 16) (s : State),
    s.ethAnswers = true ∧ s.get (F.RDMA_LINK_STATUS_SVC_STATE link.val) ≠ 0 ∧ s.ethLanes link.val ≠ 0 ∧ s.ethUp link.val = false →
    exec (.ethLinkUp link) s =
      .next ((((((s.put (F.RDMA_LINK_STATUS_UP link.val) 1).put (F.RDMA_LINK_STATUS_FEC_LOCK link.val) 1).put (F.RDMA_LINK_STATUS_SVC_STATE link.val) 2).syncEth.endCond (Ev.ETH_LINK_DOWN link.val)).endCond (Ev.ETH_LINK_DEGRADED link.val))).settle) ∧
  (∀ (link : Fin 16) (downs : List Nat) (s : State),
    s.ethUp link.val = true ∧ downs = ((Sparse.get [] link.val s.eth.downs).filter fun t => decide (s.now < t + secFc 60)) ++ [s.now] ∧ downs.length ≤ 16 →
    exec (.ethLinkDown link) s =
      .next ((let a := s.ethDrop link.val; let b := ({ a with eth := { a.eth with downs := Sparse.set [] link.val downs a.eth.downs } } : State); if s.mode.serving then b.raise (Ev.ETH_LINK_DOWN link.val) [] else b)).settle) ∧
  (∀ (link : Fin 16) (service : Bool) (s : State),
    s.mode.mainRails = true ∧ service = false →
    exec (.ethLinkServiceWrite link service) s =
      .next (((s.put (F.RDMA_LINK_CTRL_SERVICE link.val) 0).ethLeaves link.val 2)).settle) ∧
  (∀ (link : Fin 16) (ts : List Nat) (s : State),
    s.ethUp link.val = true ∧ ts = ((Sparse.get [] link.val s.eth.fecAt).filter fun t => decide (s.now < t + secFc 1)) ++ [s.now] ∧ ts.length ≠ 11 →
    exec (.fecCodewordUncorrectable link) s =
      .next ((({ s with eth := { s.eth with fecAt := Sparse.set [] link.val ts s.eth.fecAt } } : State).bump (F.RDMA_LINK_FEC_UNCORR_COUNT link.val) 1)).settle) ∧
  (∀ (link : Fin 16) (pause : Bool) (s : State),
    s.ethUp link.val = true ∧ s.isSet F.RDMA_GLOBAL_CFG_FLOW_MODE = true ∧ pause = true ∧ Sparse.get 0 link.val s.eth.pausedAt = 0 →
    exec (.pfcFrameRx link pause) s =
      .next ({ s with eth := { s.eth with pausedAt := Sparse.set 0 link.val (s.now + 1) s.eth.pausedAt } }).settle) ∧
  (∀ (link : Fin 16) (s : State),
    Sparse.get 0 link.val s.eth.pausedAt ≠ 0 →
    exec (.pfcPauseLong link) s =
      .next ((s.raise Ev.PFC_PAUSE_LONG [])).settle) ∧
  (∀ (link : Fin 16) (addr : Nat) (sd : Nat) (s : State),
    s.ethUp link.val = true ∧ s.ethAnswers = true ∧ s.addressSide addr = some sd ∧ s.answersFor sd = true →
    exec (.arpNdRequest link addr) s =
      .next ((s.frameOut link.val ⟨0, link.val, .addressReply addr⟩)).settle) ∧
  (∀ (f : RxFrame) (addr : Nat) (pkey : Nat) (mtu : Nat) (rc : Bool) (depth : Nat) (psn : Nat) (priv : List Byte) (a : State) (t sd : Nat) (s : State),
    s.rxFrame f = (true, a) ∧ a.reqVerdict addr pkey mtu rc priv = .inr (t, sd) →
    exec (.cmReq f addr pkey mtu rc depth psn priv) s =
      .next ((a.createQp f sd t pkey mtu depth psn priv)).settle) ∧
  (∀ (f : RxFrame) (qpn : Nat) (a : State) (p : Qp) (s : State),
    s.rxFrame f = (true, a) ∧ a.qpOf? qpn = some p ∧ p.state = 1 ∧ s.mode.serving = true →
    exec (.cmRtu f qpn) s =
      .next ((a.setQp (qpKeyOf qpn) { p with state := 2 })).settle) ∧
  (∀ (f : RxFrame) (qpn : Nat) (a : State) (p : Qp) (s : State),
    s.rxFrame f = (true, a) ∧ a.qpOf? qpn = some p ∧ s.mode.serving = true →
    exec (.cmDreq f qpn) s =
      .next (((a.freeQp (qpKeyOf qpn)).sendHost ⟨f.gid, f.link.val, .cmDrep qpn⟩)).settle) ∧
  (∀ (f : RxFrame) (qpn : Nat) (a : State) (p : Qp) (s : State),
    s.rxFrame f = (true, a) ∧ a.qpOf? qpn = some p ∧ p.state = 1 ∧ s.mode.serving = true →
    exec (.cmRejRx f qpn) s =
      .next ((a.freeQp (qpKeyOf qpn))).settle) ∧
  (∀ (f : RxFrame) (a : State) (s : State),
    s.rxFrame f = (true, a) →
    exec (.cmOtherMad f) s =
      .next ((a.bump (F.RDMA_LINK_RX_DROPS_COUNT f.link.val) 1)).settle) ∧
  (∀ (f : RxFrame) (qpn : Nat) (pkey : Nat) (psn : Nat) (va : Nat) (rkey : Nat) (len : Nat) (sram : List Nat) (a : State) (s : State),
    s.rxFrame f = (true, a) →
    exec (.rdmaReadReq f qpn pkey psn va rkey len sram) s =
      .next ((a.takePacket ⟨f.link.val, f.gid, qpn % 2 ^ 24, pkey % 2 ^ 16, psn % 2 ^ 24, f.ce, .read va rkey len, sram⟩)).settle) ∧
  (∀ (f : RxFrame) (qpn : Nat) (pkey : Nat) (psn : Nat) (first : Bool) (last : Bool) (va : Nat) (rkey : Nat) (len : Nat) (bytes : List Byte) (sram : List Nat) (a : State) (s : State),
    s.rxFrame f = (true, a) →
    exec (.rdmaWritePacket f qpn pkey psn first last va rkey len bytes sram) s =
      .next ((a.takePacket ⟨f.link.val, f.gid, qpn % 2 ^ 24, pkey % 2 ^ 16, psn % 2 ^ 24, f.ce, .write first last va rkey len bytes, sram⟩)).settle) ∧
  (∀ (qpn : Nat) (p : Qp) (x : RdmaAns) (rest : List RdmaAns) (s : State),
    s.qpOf? qpn = some p ∧ p.answers = x :: rest ∧ x.kind = 0 ∧ x.open_ = false ∧ s.frozenMode = false ∧ s.rdmaLinesDone (qpKeyOf qpn) x.psn = true ∧ s.rdmaFailed (qpKeyOf qpn) x.psn = 0 →
    exec (.rdmaWriteAck qpn) s =
      .next (((({ s with failed := s.failed.filter fun e => decide (e.1 ≠ Src.rdma (qpKeyOf qpn) x.psn) } : State).setQp (qpKeyOf qpn) { p with answers := rest }).qpSend p x.via (.ack qpn x.last (s.answerStatus x)))).settle) ∧
  (∀ (f : RxFrame) (qpn : Nat) (pkey : Nat) (psn : Nat) (swap : Bool) (va : Nat) (rkey : Nat) (add : Nat) (compare : Nat) (sram : List Nat) (a : State) (s : State),
    s.rxFrame f = (true, a) →
    exec (.rdmaAtomic f qpn pkey psn swap va rkey add compare sram) s =
      .next ((a.takePacket ⟨f.link.val, f.gid, qpn % 2 ^ 24, pkey % 2 ^ 16, psn % 2 ^ 24, f.ce, .atomic swap va rkey add compare, sram⟩)).settle) ∧
  (∀ (f : RxFrame) (qpn : Nat) (pkey : Nat) (psn : Nat) (a : State) (s : State),
    s.rxFrame f = (true, a) →
    exec (.rdmaUnsupportedOpcode f qpn pkey psn) s =
      .next ((a.takePacket ⟨f.link.val, f.gid, qpn % 2 ^ 24, pkey % 2 ^ 16, psn % 2 ^ 24, f.ce, .unsupported, []⟩)).settle) ∧
  (∀ (f : RxFrame) (qpn : Nat) (pkey : Nat) (psn : Nat) (len : Nat) (ds : List (BitVec 512)) (a : State) (s : State),
    s.rxFrame f = (true, a) →
    exec (.cqpSend f qpn pkey psn len ds) s =
      .next ((a.takePacket ⟨f.link.val, f.gid, qpn % 2 ^ 24, pkey % 2 ^ 16, psn % 2 ^ 24, f.ce, .send len ds, []⟩)).settle) ∧
  (∀ (f : RxFrame) (qpn : Nat) (psn : Nat) (nak : Bool) (a : State) (p : Qp) (left : List (Nat × List CompRec)) (s : State),
    s.rxFrame f = (true, a) ∧ a.qpOf? qpn = some p ∧ s.mode.serving = true ∧
      left = (p.sent.filter fun e => decide (2 ^ 23 ≤ psnDiff e.1 psn) || (nak && decide (e.1 = psn))) →
    exec (.rdmaAckRx f qpn psn nak) s =
      .next ((if nak = true ∧ p.rnr = false then (a.setQp (qpKeyOf qpn) { p with sent := left }).forEach left fun e b => b.qpSend p f.link.val (.send qpn e.1 e.2) else a.setQp (qpKeyOf qpn) { p with sent := left })).settle) ∧
  (∀ (f : RxFrame) (qpn : Nat) (psn : Nat) (a : State) (p : Qp) (s : State),
    s.rxFrame f = (true, a) ∧ a.qpOf? qpn = some p ∧ s.mode.serving = true ∧ p.sent.any (fun e => decide (e.1 = psn)) = true →
    exec (.cqpRnrNakRx f qpn psn) s =
      .next ((a.setQp (qpKeyOf qpn) { p with rnr := true })).settle) ∧
  (∀ (qpn : Nat) (p : Qp) (s : State),
    s.qpOf? qpn = some p ∧ p.rnr = true ∧ s.frozenMode = false →
    exec (.cqpRnrRetry qpn) s =
      .next (((s.setQp (qpKeyOf qpn) { p with rnr := false }).forEach p.sent fun e a => a.qpSend p p.via (.send qpn e.1 e.2))).settle) ∧
  (∀ (qpn : Nat) (p : Qp) (s : State),
    s.qpOf? qpn = some p ∧ p.cmd = true ∧ s.frozenMode = false →
    exec (.completionSendFlush qpn) s =
      .next ((s.sendRecords (qpKeyOf qpn))).settle) ∧
  (∀ (qpn : Nat) (mine : List RdmaPkt) (s : State),
    (s.eth.fetching.filter fun e => decide (e.1 = qpKeyOf qpn)).map (·.2) = mine ∧ mine ≠ [] ∧ s.frozenMode = false →
    exec (.qpContextFetchDone qpn) s =
      .next ((((({ s with eth := { s.eth with fetching := s.eth.fetching.filter fun e => decide (e.1 ≠ qpKeyOf qpn) } } : State).cacheQp (qpKeyOf qpn)).forEach mine fun k a => a.servePacket k).retryMisses)).settle) ∧
  (∀ (s : State),
    2 * s.eth.missed ≤ s.eth.lookups →
    exec .qpCachePressureCheck s =
      .next ({ s with eth := { s.eth with lookups := 0, missed := 0 } }).settle) ∧
  (∀ (gid : Nat) (h : Locator) (a : Nat) (s : State),
    s.host? gid = some h ∧ h.alternate = some a →
    exec (.hltHolddownExpiry gid) s =
      .next ((s.moveHost gid h)).settle) ∧
  (∀ (gid : Nat) (h : Locator) (s : State),
    s.host? gid = some h ∧ h.old.isSome = true →
    exec (.hltMoveDrainDone gid) s =
      .next ((s.releaseHeld gid)).settle) ∧
  (∀ (gid : Nat) (h : Locator) (s : State),
    s.host? gid = some h ∧ h.flapping = true →
    exec (.hltFlapClear gid) s =
      .next ((s.setHost gid (some { h with flapping := false }))).settle) ∧
  (∀ (gid : Nat) (h : Locator) (s : State),
    s.host? gid = some h ∧ h.old = none ∧ s.qpsInUse.any (fun e => decide (e.2.gid = gid)) = false →
    exec (.hltEntryAgeOut gid) s =
      .next ((s.setHost gid none)).settle) ∧
  (∀ (f : RxFrame) (qpn : Nat) (a : State) (p : Qp) (s : State),
    s.rxFrame f = (true, a) ∧ a.qpOf? qpn = some p ∧ (p.cutAt = 0 ∨ p.cutAt - 1 + usFc 50 ≤ s.now) →
    exec (.cnpRx f qpn) s =
      .next (((a.bump (F.RDMA_LINK_CNP_RX_COUNT f.link.val) 1).setQp (qpKeyOf qpn) { p with rate := max 100 (p.rate * 3 / 4), cutAt := s.now + 1 })).settle) ∧
  (∀ (qpn : Nat) (p : Qp) (s : State),
    s.qpOf? qpn = some p →
    exec (.cnpRateRecovery qpn) s =
      .next ((s.setQp (qpKeyOf qpn) { p with rate := min (s.hostRate p) (p.rate + s.hostRate p / 20) })).settle) ∧
  (∀ (s : State),
    s.mode.serving = true →
    exec .sluiceCnpTimer s =
      .next ((s.forEach (s.qpsInUse.filter fun e => !e.2.cmd && decide (e.2.state ≠ 4) && s.ssb.limited.contains e.2.tenant && decide (e.2.wroteAt ≠ 0) && decide (s.now < e.2.wroteAt + msFc 1)) fun e a => (a.setQp e.1 { a.qp e.1 with cnpAt := a.now + 1 }).qpSend e.2 (((a.host? e.2.gid).map fun h => h.primary).getD 0) (.cnp (qpnOf e.1 e.2)))).settle)

/-- An operation that may start runs its meaning; a COPY or ZERO that waits goes on and ends with its data, a held one starts when its hazard is gone, a WAIT is tested and times out, an ABORT acts on its target, a multi-part operation becomes ready with its last part. Where the spec leaves a point open, the effects follow the model's choices of log entries 53, 130 and 159. -/
def Obligations.QueueOperationsComplete : Prop :=
  (∀ (q : Nat) (seq : Nat) (sram : List Nat) (o : OpRec) (s : State),
    s.mayStart q seq 2 = some o →
    exec (.copy q seq sram) s =
      .next ((s.startCopy q o sram)).settle) ∧
  (∀ (q : Nat) (seq : Nat) (o : OpRec) (s : State),
    s.mayStart q seq 3 = some o →
    exec (.zero q seq) s =
      .next ((s.startCopy q o [])).settle) ∧
  (∀ (q : Nat) (seq : Nat) (sram : List Nat) (o : OpRec) (s : State),
    s.op? q seq = some o ∧ (dOpcode o.desc = 2 ∨ dOpcode o.desc = 3) ∧ o.phase = .running ∧ s.mode.serving = true ∧ s.fenced = false →
    exec (.copyZeroResume q seq sram) s =
      .next ((s.copyLines q seq sram o.pieces)).settle) ∧
  (∀ (q : Nat) (seq : Nat) (o : OpRec) (s : State),
    s.op? q seq = some o ∧ (dOpcode o.desc = 2 ∨ dOpcode o.desc = 3) ∧ o.phase = .running ∧ (copyOperands o.desc).2.2 ≤ o.done ∧ s.opMerging q seq = false ∧ s.frozenMode = false ∧ s.opFailed q seq = none ∧ s.writes.any (fun w => decide (w.src = .op q seq) && !w.done20) = false →
    exec (.copyZeroDone q seq) s =
      .next ((s.finishOp q o St.SUCCESS 0 0 o.done)).settle) ∧
  (∀ (q : Nat) (seq : Nat) (sram : List Nat) (o : OpRec) (s : State),
    s.mayStart q seq 2 = some o ∧ s.op? q seq = some o ∧ dOpcode o.desc = 2 ∧ o.phase = .held ∧ s.hazard q o = false →
    exec (.hazardHoldRelease q seq sram) s =
      .next ((s.startCopy q o sram)).settle) ∧
  (∀ (q : Nat) (seq : Nat) (o : OpRec) (s : State),
    s.mayStart q seq 8 = some o ∧ s.targetExists (targetKey o.desc) = true ∧ (s.queue (targetKey o.desc)).tenant = (s.queue q).tenant →
    exec (.wait q seq) s =
      .next (((s.setOp q { o with phase := .running }).testWait q { o with phase := .running })).settle) ∧
  (∀ (q : Nat) (seq : Nat) (o : OpRec) (s : State),
    s.op? q seq = some o ∧ dOpcode o.desc = 8 ∧ o.phase = .running ∧ s.frozenMode = false ∧ dbits o.desc 16 0 64 ≤ (s.waitValue (targetKey o.desc) (dbits o.desc 24 0 2)).1 →
    exec (.waitSatisfied q seq) s =
      .next ((s.endWait q o (if (s.waitValue (targetKey o.desc) (dbits o.desc 24 0 2)).2 then St.LOCAL_ONLY else St.SUCCESS) (s.waitValue (targetKey o.desc) (dbits o.desc 24 0 2)).1)).settle) ∧
  (∀ (q : Nat) (seq : Nat) (o : OpRec) (s : State),
    s.op? q seq = some o ∧ dOpcode o.desc = 8 ∧ o.phase = .running ∧ dbits o.desc 28 0 32 ≠ 0 ∧ s.frozenMode = false →
    exec (.waitTimeout q seq) s =
      .next ((s.endWait q o St.TIMEOUT 0)).settle) ∧
  (∀ (q : Nat) (seq : Nat) (o : OpRec) (s : State),
    s.mayStart q seq 9 = some o ∧ s.targetExists (targetKey o.desc) = true ∧ (s.queue (targetKey o.desc)).tenant = (s.queue q).tenant →
    exec (.abort q seq) s =
      .next ((if dbits o.desc 24 0 1 = 1 then s.abortQueue q o (targetKey o.desc) else s.abortOne q o (targetKey o.desc))).settle) ∧
  (∀ (q : Nat) (seq : Nat) (o : OpRec) (s : State),
    s.op? q seq = some o ∧ o.phase = .assembling ∧ o.payload.length + 1 = o.parts ∧ o.fin = none →
    exec (.multipartAssembled q seq) s =
      .next ((s.setOp q { o with phase := .ready })).settle)

/-- A valid configuration enables a ring; polling reads the control record and fetches what there is room for; a full completion ring, idleness, a restart, a disable and a read that times out change the ring's state as the rules give. Where the spec leaves a point open, the effects follow the model's choices of log entries 53, 55, 158 and 159. -/
def Obligations.RingCommandsComplete : Prop :=
  (∀ (ld : Fin 64) (r : Fin 64) (v : Nat) (s : State),
    (s.queue (ringKey ld.val r.val)).state ≠ 4 ∧ s.isSet (F.RING_CFG_ENABLE ld.val r.val) = false ∧ (s.writeRingCfg ld.val r.val v).ringCfgValid ld.val r.val = true →
    exec (.ringEnable ld r v) s =
      .next ((((s.writeRingCfg ld.val r.val v).put (F.RING_CFG_ENABLE ld.val r.val) 1).setQueue (ringKey ld.val r.val) { state := 1, incarnation := (s.queue (ringKey ld.val r.val)).incarnation + 1, tenant := (s.writeRingCfg ld.val r.val v).get (F.LD_MAP_TENANT ld.val), lastFetch := (s.writeRingCfg ld.val r.val v).now })).settle) ∧
  (∀ (ld : Fin 64) (r : Fin 64) (s : State),
    (s.queue (ringKey ld.val r.val)).live = true →
    exec (.ringDisable ld r) s =
      .next ((s.destroyQueue (ringKey ld.val r.val))).settle) ∧
  (∀ (ld : Fin 64) (r : Fin 64) (s : State),
    (s.queue (ringKey ld.val r.val)).state = 4 ∧ (s.queue (ringKey ld.val r.val)).ops = [] →
    exec (.ringDisabled ld r) s =
      .next ((s.setQueue (ringKey ld.val r.val) { s.queue (ringKey ld.val r.val) with state := 0 })).settle) ∧
  (∀ (ld : Fin 64) (r : Fin 64) (s : State),
    s.pollerRuns (ringKey ld.val r.val) = true →
    exec (.pollerTick ld r) s =
      .next ((s.emit (.readControl (ringKey ld.val r.val)))).settle) ∧
  (∀ (ld : Fin 64) (r : Fin 64) (ds : List (BitVec 512)) (a : State) (s : State),
    (s.queue (ringKey ld.val r.val)).state = 1 ∧ (s.queue (ringKey ld.val r.val)).expected ≤ (s.queue (ringKey ld.val r.val)).asked ∧ s.frozenMode = false ∧ (s.fetchAll (ringKey ld.val r.val) (ds.take ((s.queue (ringKey ld.val r.val)).asked + 1 - (s.queue (ringKey ld.val r.val)).expected))).1 = a →
    exec (.ringFetchData ld r ds) s =
      .next ((((a.setQueue (ringKey ld.val r.val) { a.queue (ringKey ld.val r.val) with asked := (a.queue (ringKey ld.val r.val)).expected - 1 }).emit (.sqHead (ringKey ld.val r.val) (a.queue (ringKey ld.val r.val)).fetched)).pollFetch (ringKey ld.val r.val))).settle) ∧
  (∀ (ld : Fin 64) (r : Fin 64) (tail : Nat) (head : Nat) (k1 : Queue) (s : State),
    (s.queue (ringKey ld.val r.val)).state ≠ 0 ∧ (s.queue (ringKey ld.val r.val)).state ≠ 4 ∧ (s.queue (ringKey ld.val r.val)).fetched ≤ tail ∧ (s.queue (ringKey ld.val r.val)).cqHead ≤ head ∧ head ≤ (s.queue (ringKey ld.val r.val)).written ∧ { s.queue (ringKey ld.val r.val) with sqTail := tail, cqHead := head, fullRaised := (s.queue (ringKey ld.val r.val)).fullRaised && decide (head = (s.queue (ringKey ld.val r.val)).cqHead) } = k1 →
    exec (.ringControlRecordReturn ld r tail head) s =
      .next ((let a := (s.setQueue (ringKey ld.val r.val) k1).offerTakeover (ringKey ld.val r.val); a.when (a.pollerRuns (ringKey ld.val r.val)) (State.pollFetch (ringKey ld.val r.val)))).settle) ∧
  (∀ (ld : Fin 64) (r : Fin 64) (s : State),
    s.cqFull (ringKey ld.val r.val) = true ∧ s.mode.mainRails = true →
    exec (.cqHeadRecheck ld r) s =
      .next ((s.emit (.readControl (ringKey ld.val r.val)))).settle) ∧
  (∀ (ld : Fin 64) (r : Fin 64) (s : State),
    s.cqFull (ringKey ld.val r.val) = true ∧ (s.queue (ringKey ld.val r.val)).fullRaised = false →
    exec (.cqFullTimeout ld r) s =
      .next (((s.setQueue (ringKey ld.val r.val) { s.queue (ringKey ld.val r.val) with fullRaised := true }).raise Ev.CQ_FULL [])).settle) ∧
  (∀ (ld : Fin 64) (r : Fin 64) (tail : Nat) (s : State),
    s.pollerRuns (ringKey ld.val r.val) = true ∧ (s.queue (ringKey ld.val r.val)).asked < (s.queue (ringKey ld.val r.val)).expected ∧ tail ≤ (s.queue (ringKey ld.val r.val)).fetched →
    exec (.ringIdleSleep ld r tail) s =
      .next (((s.emit (.asleep (ringKey ld.val r.val) true)).setQueue (ringKey ld.val r.val) { s.queue (ringKey ld.val r.val) with state := 2 })).settle) ∧
  (∀ (ld : Fin 64) (mask : BitVec 64) (s : State),
    (∃ r < 64, mask.toNat.testBit r = true ∧ (s.queue (ringKey ld.val r)).state = 2) →
    exec (.ringWake ld mask) s =
      .next ((s.forEach (List.range 64) fun r a => if mask.toNat.testBit r ∧ (a.queue (ringKey ld.val r)).state = 2 then a.resumeFetch (ringKey ld.val r) else a)).settle) ∧
  (∀ (ld : Fin 64) (r : Fin 64) (s : State),
    (s.queue (ringKey ld.val r.val)).state = 3 →
    exec (.ringRestart ld r) s =
      .next (((s.setQueue (ringKey ld.val r.val) { s.queue (ringKey ld.val r.val) with state := 1, stopCause := 0, asked := (s.queue (ringKey ld.val r.val)).expected - 1, lastFetch := s.now }).resumeFetch (ringKey ld.val r.val))).settle) ∧
  (∀ (ld : Fin 64) (r : Fin 64) (notice : Bool) (s : State),
    notice = false ∧ (s.queue (ringKey ld.val r.val)).more5 = true ∧ s.isSet (F.RING_CFG_IRQ_EN ld.val r.val) = true →
    exec (.irqCoalesceExpiry ld r notice) s =
      .next (((s.setQueue (ringKey ld.val r.val) { s.queue (ringKey ld.val r.val) with hold5 := s.now + usFc (s.get (F.RING_CFG_COAL_US ld.val r.val)), more5 := false }).msix ld.val 5)).settle) ∧
  (∀ (ld : Fin 64) (r : Fin 64) (s : State),
    (s.queue (ringKey ld.val r.val)).state = 1 ∨ (s.queue (ringKey ld.val r.val)).state = 2 →
    exec (.ringReadCompletionTimeout ld r) s =
      .next (((s.setQueue (ringKey ld.val r.val) { s.queue (ringKey ld.val r.val) with asked := (s.queue (ringKey ld.val r.val)).expected - 1 }).stopQueue (ringKey ld.val r.val) 2)).settle)

/-- REGION_ATTACH of a new region draws a generation, a nonce and a salt and writes the record, of an existing one writes what may change; both complete when their changes are in force; REGION_DETACH writes state DETACHED, and the region is freed later; REGION_INFO writes the record out; tenants are created and removed at a sequence point; LD_MAP and the P_Key map are written. Where the spec leaves a point open, the effects follow the model's choices of log entries 70 and 96. -/
def Obligations.RegionCommandsComplete : Prop :=
  (∀ (q : Nat) (seq : Nat) (o : OpRec) (s : State),
    s.mayStart q seq 0x10 = some o ∧ s.tenantLeaving (s.queue q).tenant = false ∧ 1 ≤ dbits o.desc 16 0 32 ∧ dbits o.desc 16 0 32 ≤ 65536 ∧ (attachRegion o.desc (s.queue q).tenant).policy ≠ 3 ∧ dbits o.desc 21 0 5 ≤ 20 ∧ dbits o.desc 12 0 12 = 0xFFF ∧ s.attachNewCheck (s.queue q).tenant (dbits o.desc 16 0 32) (attachRegion o.desc (s.queue q).tenant).policy = none →
    exec (.regionAttach q seq) s =
      .next ((s.attachNew q o (attachRegion o.desc (s.queue q).tenant))).settle) ∧
  (∀ (q : Nat) (seq : Nat) (o : OpRec) (s : State),
    s.mayStart q seq 0x10 = some o ∧ s.tenantLeaving (s.queue q).tenant = false ∧ 1 ≤ dbits o.desc 16 0 32 ∧ dbits o.desc 16 0 32 ≤ 65536 ∧ (attachRegion o.desc (s.queue q).tenant).policy ≠ 3 ∧ dbits o.desc 21 0 5 ≤ 20 ∧ dbits o.desc 12 0 12 ≠ 0xFFF ∧ s.attachAgainCheck (recIdx s.side (dbits o.desc 12 0 12)) (s.queue q).tenant (dbits o.desc 16 0 32) (attachRegion o.desc (s.queue q).tenant).policy = none →
    exec (.regionAttach q seq) s =
      .next ((let idx := recIdx s.side (dbits o.desc 12 0 12); let old := Sparse.get {} idx s.regionsNext; let r := attachRegion o.desc (s.queue q).tenant; (s.setOp q { o with phase := .running, cover := idx, fin := some (St.SUCCESS, 0, old.nonce * 2 ^ 13 + idx, old.baseSlot + old.keyGen * 2 ^ 32) }).changeRegion idx { old with readOnly := r.readOnly, twinComplete := r.twinComplete, policy := r.policy, stallCeil := r.stallCeil, label := r.label } (some (q, seq)))).settle) ∧
  (∀ (q : Nat) (seq : Nat) (o : OpRec) (v : Nat × Nat × Nat × Nat) (s : State),
    s.op? q seq = some o ∧ dOpcode o.desc = 0x10 ∧ o.phase = .running ∧ s.frozenMode = false ∧ (s.region o.cover).state ≠ 0 ∧ (if dbits o.desc 12 0 12 ≠ 0xFFF then 1 else 2) ≤ o.done ∧ (s.region o.cover).policy ≠ 0 ∧ o.fin = some v →
    exec (.regionAttachComplete q seq) s =
      .next ((s.completeOp q o v.1 v.2.1 v.2.2.1 v.2.2.2 [])).settle) ∧
  (∀ (q : Nat) (seq : Nat) (o : OpRec) (r : Region) (idx : Nat) (s : State),
    s.mayStart q seq 0x11 = some o ∧ recIdx (dbits o.desc 12 12 1) (dbits o.desc 12 0 12) = idx ∧ Sparse.get {} idx s.regionsNext = r ∧ s.serves (dbits o.desc 12 12 1) = true ∧ r.state = 1 ∧ idx % 4096 ≠ 0 ∧ r.tenant = (s.queue q).tenant →
    exec (.regionDetach q seq) s =
      .next (((s.setOp q { o with phase := .running, cover := idx, done := 0 }).changeRegion idx { r with state := 2 } (some (q, seq)))).settle) ∧
  (∀ (q : Nat) (seq : Nat) (o : OpRec) (s : State),
    s.op? q seq = some o ∧ dOpcode o.desc = 0x11 ∧ o.phase = .running ∧ s.frozenMode = false ∧ 2 ≤ o.done ∧ s.revoking o.cover (s.region o.cover) = false →
    exec (.regionDetachComplete q seq) s =
      .next ((s.completeOp q o St.SUCCESS 0 0 0 [])).settle) ∧
  (∀ (idx : Fin 8192) (s : State),
    (s.region idx.val).state = 2 ∧ s.lines = [] ∧ s.cw.txStaged = [] ∧ s.erasing idx.val = false ∧ s.detachOpen idx.val = false ∧ s.serves (idx.val / 4096) = true ∧ s.fenced = false →
    exec (.regionRelease idx) s =
      .next ((s.changeRegion idx.val {} none)).settle) ∧
  (∀ (q : Nat) (seq : Nat) (o : OpRec) (s : State),
    s.op? q seq = some o ∧ dOpcode o.desc = 0x12 ∧ o.phase = .ready ∧ s.frozenMode = false ∧ s.pw.firmware = true ∧ dbits o.desc 12 31 1 = 0 ∧ s.mode.serving = true ∧ (s.region (recIdx (dbits o.desc 12 12 1) (dbits o.desc 12 0 12))).state ≠ 0 ∧ (recIdx (dbits o.desc 12 12 1) (dbits o.desc 12 0 12)) % 4096 ≠ 0 ∧ (s.region (recIdx (dbits o.desc 12 12 1) (dbits o.desc 12 0 12))).tenant = (s.queue q).tenant →
    exec (.regionInfo q seq) s =
      .next ((let bytes := s.infoBytes (recIdx (dbits o.desc 12 12 1) (dbits o.desc 12 0 12)); if isRing q then (s.emit (.respData q (dbits o.desc 16 0 64) bytes)).completeOp q o St.SUCCESS 0 s.infoResult 0 [] else s.completeOp q o St.SUCCESS 0 s.infoResult 0 [bytes.foldr (fun b v => b + v * 256) 0])).settle) ∧
  (∀ (t : Fin 4096) (s : State),
    t.val ≠ 0 ∧ s.tenantState t.val = 0 →
    exec (.tenantCreate t) s =
      .next ((s.sequencePoint (.record 2 t.val (s.tenantWords t.val 1)) none)).settle) ∧
  (∀ (t : Fin 4096) (s : State),
    t.val ≠ 0 ∧ s.tenantState t.val = 1 →
    exec (.tenantRemove t) s =
      .next ((s.sequencePoint (.record 2 t.val (s.tenantWords t.val 2)) none)).settle) ∧
  (∀ (pkeyMap : Bool) (n : Nat) (v : Nat) (s : State),
    pkeyMap = true ∧ n < 4096 →
    exec (.bindingWrite pkeyMap n v) s =
      .next ((s.sequencePoint (.record 3 n [v]) none)).settle) ∧
  (∀ (pkeyMap : Bool) (n : Nat) (v : Nat) (s : State),
    pkeyMap = false ∧ n < 64 →
    exec (.bindingWrite pkeyMap n v) s =
      .next ((s.writeLdMap n v)).settle)

/-- A blob that passes the checks installs the other tenant key, a rotation draws generations and salts and sweeps extent by extent, key-slot commands run, key-store updates commit, and the cipher pipelines sleep, are tested and remapped. Where the spec leaves a point open, the effects follow the model's choices of log entries 71, 73, 106, 160 and 178. -/
def Obligations.KeyCommandsComplete : Prop :=
  (∀ (q : Nat) (seq : Nat) (tagOk : Bool) (o : OpRec) (a : State) (s : State),
    s.mayStart q seq 0x18 = some o ∧ s.blobCheck q o = 0 ∧ s.unwrap o tagOk = (true, a) ∧ (s.keyBody.tenant (s.queue q).tenant).st ≠ 2 ∧ a.allKeyWaits = [] →
    exec (.keyProvision q seq tagOk) s =
      .next ((let t := (s.queue q).tenant; let k := s.keyBody.tenant t; (a.setOp q { o with phase := .running }).postKey [.setMaster t (if k.st = 0 then 0 else 1 - k.current) (o.blob 12 8) o.master] [.provision q seq t])).settle) ∧
  (∀ (q : Nat) (seq : Nat) (o : OpRec) (s : State),
    s.mayStart q seq 0x19 = some o ∧ dbits o.desc 12 0 12 = 0xFFF ∧ s.rotatable (s.queue q).tenant ≠ [] ∧ (s.rotatable (s.queue q).tenant).length ≤ 0xFFFFFFFF - s.get F.ADR_GEN_NEXT_GEN →
    exec (.keyRotate q seq) s =
      .next ((s.startRotations q o (s.rotatable (s.queue q).tenant))).settle) ∧
  (∀ (idx : Fin 8192) (bad : List (Nat × LineVerdict)) (s : State),
    (s.region idx.val).state = 1 ∧ (s.region idx.val).rotating = true ∧ s.get F.SLU_STATUS_STATE = 0 ∧ s.mode.serving = true ∧ s.fenced = false ∧ s.serves (idx.val / 4096) = true ∧ s.get (F.ROT_CURSOR_EXTENT idx.val) < ((s.region idx.val).sizeM1 + 1) * 512 ∧ s.sweepAbsent (regionBase idx.val (s.region idx.val) / 2 ^ 21 + s.get (F.ROT_CURSOR_EXTENT idx.val)) = [] →
    exec (.rotationSweepExtent idx bad) s =
      .next ((let res := s.sweepLines (s.region idx.val) bad ((List.range 8192).map ((regionBase idx.val (s.region idx.val) / 2 ^ 21 + s.get (F.ROT_CURSOR_EXTENT idx.val)) * 8192 + ·)); if res.1 then (let a := res.2.put (F.ROT_CURSOR_EXTENT idx.val) (s.get (F.ROT_CURSOR_EXTENT idx.val) + 1); if ((s.region idx.val).sizeM1 + 1) * 512 ≤ s.get (F.ROT_CURSOR_EXTENT idx.val) + 1 then a.endRotation idx.val else a) else res.2)).settle) ∧
  (∀ (f : Fin 4) (read : Option Bool) (s : State),
    exec (.flipMaskArm f read) s =
      .next ((let a := s.put (F.FM_CTRL_ARM f.val) 1; match read with | none => a | some works => (a.flipWrite f.val).flipRead f.val works)).settle) ∧
  (∀ (s : State),
    exec .ksLoad s =
      .next ((s.ksLoad)).settle) ∧
  (∀ (s : State),
    exec .ksDestroy s =
      .next ((s.ksDestroy)).settle) ∧
  (∀ (k : Nat) (s : State),
    s.cry.ksLoading = some k ∧ k ≠ 16384 →
    exec .ksCommandDone s =
      .next ((let a := s.put F.KS_STATUS_BUSY 0; ({ a with cry := { a.cry with ksLoading := none } } : State).put (F.KS_SLOT_INFO_VALID k) 1)).settle) ∧
  (∀ (s : State),
    s.ks.running = false ∧ s.ks.pendingChanges ≠ [] ∧ s.pw.firmware = true ∧ s.mode ≠ .save →
    exec .keyStoreUpdate s =
      .next ((let k := s.ks; ({ s with ks := { k with pendingChanges := [], pendingWaits := [], destroys := false, running := true, content := k.pendingChanges.foldl KeyBody.apply s.keyBody, passes := if k.destroys then 2 else 1, waits := k.pendingWaits, current := k.pendingChanges, twice := k.destroys } } : State).put F.KSTORE_STATUS_UPDATE_BUSY 1)).settle) ∧
  (∀ (a : State) (s : State),
    s.ks.running = true ∧ s.commitStore.syncKeysValid = a ∧ a.ks.passes ≤ 1 →
    exec .keyStoreUpdateDone s =
      .next ((((({ a with ks := { a.ks with running := false, passes := 0, waits := [], content := {}, current := [], twice := false } } : State).put F.KSTORE_STATUS_UPDATE_BUSY 0).keyInForce a.ks.waits).dropStaleMasters)).settle) ∧
  (∀ (home : Fin 64) (s : State),
    s.get (F.CP_PIPE_STATE (s.get (F.CP_MAP_PHYS home.val))) = 2 ∧ s.get F.LC_CTRL_CP_IDLE_LOG2 ≠ 15 ∧ s.mode.mainRails = true ∧ s.cry.asleep.contains (s.get (F.CP_MAP_PHYS home.val)) = false →
    exec (.cpIdleSleep home) s =
      .next (({ s with cry := { s.cry with asleep := s.cry.asleep ++ [s.get (F.CP_MAP_PHYS home.val)] } })).settle) ∧
  (∀ (home : Fin 64) (phys : Fin 128) (s : State),
    s.mode.mainRails = true →
    exec (.cpRemapRequest home phys) s =
      .next ((s.startPipeRemap home.val phys.val)).settle) ∧
  (∀ (pipe : Fin 68) (pass : Bool) (s : State),
    exec (.cpSelfTestDone pipe pass) s =
      .next ((s.pipeTest pipe.val pass)).settle) ∧
  (∀ (pipe : Fin 68) (s : State),
    exec (.cpSelfTestTimeout pipe) s =
      .next ((s.pipeTest pipe.val false)).settle)

/-- A declaration whose checks pass creates a stream in the lowest free place with the list copied; an advance and a retire act on the live stream of the handle; the status block is written when a field of it changed. Where the spec leaves a point open, the effects follow the model's choices of log entries 26, 56 and 57. -/
def Obligations.StreamCommandsComplete : Prop :=
  (∀ (q : Nat) (seq : Nat) (bad : List (Nat × Nat)) (o : OpRec) (i : Nat) (s : State),
    s.mayStart q seq 0x20 = some o ∧ s.declaredStream q seq = none ∧ s.declareStatus o (s.queue q).tenant = none ∧ s.check (s.queueBinding q) (declareOperands o.desc).2.1 (128 + 8 * (declareOperands o.desc).2.2.1) false none = 0 ∧ s.listStatus (declareOperands o.desc).2.1 (128 + 8 * (declareOperands o.desc).2.2.1) bad = none ∧ s.listFormat (declareOperands o.desc).2.1 (declareOperands o.desc).2.2.1 (s.region (declareOperands o.desc).1) = true ∧ s.freeIndex ((declareOperands o.desc).1 / 4096) = some i ∧ (s.liveStreams ((declareOperands o.desc).1 / 4096)).foldl (fun m e => m + e.2.entries.length) 0 + (declareOperands o.desc).2.2.1 ≤ 4194304 →
    exec (.streamDeclare q seq bad) s =
      .next ((s.createStream q o i)).settle) ∧
  (∀ (q : Nat) (seq : Nat) (o : OpRec) (j : Nat) (s : State),
    s.mayStart q seq 0x21 = some o ∧ s.streamOfHandle (dbits o.desc 12 0 16) (s.queue q).tenant = some j →
    exec (.streamAdvance q seq) s =
      .next (((s.advanceStream j (dbits o.desc 16 0 32)).completeOp q o St.SUCCESS 0 0 0 [])).settle) ∧
  (∀ (q : Nat) (seq : Nat) (o : OpRec) (j : Nat) (s : State),
    s.mayStart q seq 0x22 = some o ∧ s.streamOfHandle (dbits o.desc 12 0 16) (s.queue q).tenant = some j →
    exec (.streamRetire q seq) s =
      .next (((s.freeStream j 5).completeOp q o St.SUCCESS 0 0 0 [])).settle) ∧
  (∀ (j : Fin 1024) (s : State),
    (s.stream j.val).st ≠ 0 ∧ s.serves (j.val / 512) = true ∧ (s.stream j.val).changed = true →
    exec (.streamStatusWrite j) s =
      .next ((s.writeStreamStatus j.val (s.stream j.val).st (s.stream j.val).cause)).settle)

/-- An idle slice sleeps, a victim's write is acknowledged, a remap starts and its self-test ends it, a boundary counts an epoch and carries out the remaps due, and CLEAR empties the tracer. Where the spec leaves a point open, the effects follow the model's choices of log entries 21, 27 and 74. -/
def Obligations.FrontPathCommandsComplete : Prop :=
  (∀ (home : Fin 64) (s : State),
    s.get (F.HA_SLICE_STATE (s.get (F.HA_MAP_PHYS home.val))) = 2 ∧ s.get F.FP_CTRL_HA_IDLE_LOG2 ≠ 15 ∧ s.queueUsed home.val = 0 ∧ s.mode.mainRails = true ∧ s.ingress.any (fun r => decide (homeOf r.line = home.val)) = false →
    exec (.haSliceSleep home) s =
      .next ((s.put (F.HA_SLICE_STATE (s.get (F.HA_MAP_PHYS home.val))) 3)).settle) ∧
  (∀ (line : Nat) (s : State),
    (s.served true line).victims.contains line = true →
    exec (.victimWriteAck line) s =
      .next (({ s.served true line with victims := (s.served true line).victims.filter fun l => decide (l ≠ line) })).settle) ∧
  (∀ (line : Nat) (s : State),
    (s.served true line).victims.contains line = false →
    exec (.victimWriteAck line) s =
      .next (((s.served true line).when ((s.served true line).flushing line) (State.cleanLine line))).settle) ∧
  (∀ (home : Fin 64) (phys : Fin 128) (s : State),
    s.mode.mainRails = true ∧ s.frozenMode = false →
    exec (.haRemapRequest home phys) s =
      .next ((s.startSliceRemap home.val phys.val)).settle) ∧
  (∀ (slice : Fin 66) (pass : Bool) (s : State),
    exec (.haSliceBistDone slice pass) s =
      .next ((s.sliceBist slice.val pass)).settle) ∧
  (∀ (slice : Fin 66) (s : State),
    exec (.haSliceBistTimeout slice) s =
      .next ((s.sliceBist slice.val false)).settle) ∧
  (∀ (s : State),
    s.mode.mainRails = true ∧ s.mode ≠ .save →
    exec .epochBoundary s =
      .next ((((s.put F.FP_EPOCH_EPOCH (s.get F.FP_EPOCH_EPOCH + 1)).sliceSwitch).pipeSwitch)).settle) ∧
  (∀ (s : State),
    exec .latencyTracerClear s =
      .next ((s.tracerClear)).settle)

/-- A fill lands and serves what waited for it, a read past its ceiling is answered, a frame wait is reported, extents are dropped, pages are captured and programmed, journal blocks and table pages are written, and blocks are relocated by collection and wear levelling. Where the spec leaves a point open, the effects follow the model's choices of log entries 30, 31, 58, 59, 60, 61, 146 and 166. -/
def Obligations.TierCommandsComplete : Prop :=
  (∀ (page : Nat) (bad : List Nat) (ecc : DeepEcc) (verdicts : List (Nat × LineVerdict)) (stalls : List (Nat × List Nat)) (memory : Nat) (crypto : Nat) (a b c : State) (s : State),
    s.assignFrame (extentOfPage page) = a ∧ (a.page page).st = 1 ∧ (a.extent (extentOfPage page)).frame ≠ none ∧ a.mode.mainRails = true ∧ a.pageMapped page = false ∧ (if (a.transOf page).st = 1 then a else a.fillOther page) = b ∧ (b.issueUpTo page b.cul.fills.length).landPage page = c ∧ b.zeroNoStall page = false →
    exec (.fillLanded page bad ecc verdicts stalls memory crypto) s =
      .next ((let waiting := b.reads.filter fun x => x.missed && decide (x.src ≠ .hub) && decide (pageOfLine (lineOf x.addr) = page); let d := c.forEach waiting fun x a => (match stalls.find? fun e => decide (e.1 = x.id) with | some e => a.countStall e.2 | none => a.countStall []); (d.forEach (d.awaitedLines page) fun l a => (a.grant l 6).arriveLine l (match verdicts.find? fun e => decide (e.1 = l) with | some e => e.2 | none => .good) memory crypto).afterFill)).settle) ∧
  (∀ (page : Nat) (bad : List Nat) (ecc : DeepEcc) (verdicts : List (Nat × LineVerdict)) (stalls : List (Nat × List Nat)) (memory : Nat) (crypto : Nat) (a b c : State) (s : State),
    s.assignFrame (extentOfPage page) = a ∧ (a.page page).st = 1 ∧ (a.extent (extentOfPage page)).frame ≠ none ∧ a.mode.mainRails = true ∧ a.pageMapped page = false ∧ (if (a.transOf page).st = 1 then a else a.fillOther page) = b ∧ (b.issueUpTo page b.cul.fills.length).landPage page = c ∧ b.zeroNoStall page = true →
    exec (.fillLanded page bad ecc verdicts stalls memory crypto) s =
      .next (((c.forEach (c.awaitedLines page) fun l a => (a.grant l 6).arriveLine l (match verdicts.find? fun e => decide (e.1 = l) with | some e => e.2 | none => .good) memory crypto).afterFill)).settle) ∧
  (∀ (id : Nat) (parts : List Nat) (r : ReadRec) (s : State),
    s.reads.find? (fun r => decide (r.id = id) && r.missed && decide (r.src ≠ .hub)) = some r ∧ s.present (pageOfLine (lineOf r.addr)) = false →
    exec (.stallCeilingExpiry id parts) s =
      .next ((s.ceilingRead r parts)).settle) ∧
  (∀ (id : Nat) (parts : List Nat) (w : WriteRec) (s : State),
    s.reads.find? (fun r => decide (r.id = id) && r.missed && decide (r.src ≠ .hub)) = none ∧ s.writes.find? (fun w => decide (w.id = id) && w.verify && w.src.isRdma) = some w ∧ s.present (pageOfLine w.line) = false →
    exec (.stallCeilingExpiry id parts) s =
      .next ((s.ceilingWrite w parts)).settle) ∧
  (∀ (s : State),
    exec .frameWaitTimeout s =
      .next ((if s.giveFrames.frameWaiting then s.giveFrames.raise Ev.FRAME_WAIT [] else s.giveFrames)).settle) ∧
  (∀ (a : State) (x : Nat) (s : State),
    s.evictState = a ∧ a.cul.evicting = true ∧ (a.cul.extents.map (·.1)).find? (fun x => a.marked x && a.droppable x) = some x →
    exec .extentDrop s =
      .next (((a.dropExtent x).giveFrames)).settle) ∧
  (∀ (page : Nat) (s : State),
    (s.page page).st = 3 ∧ s.programsAllowed = true ∧ s.fl.formed = true ∧ s.cul.captures.length < 32640 ∧ s.mayCapture page = true →
    exec (.writebackCapture page) s =
      .next ((let a := (s.setPage page { s.page page with st := 4, redirty := [] }).forEach (pageLines page) fun l a => (a.grant l 6).captureLine l; { a with cul := { a.cul with captures := a.cul.captures ++ [({ page := page, cells := Sparse.slice (page * 16384) (page * 16384 + 16384) a.mem, metas := Sparse.slice (page * 64) (page * 64 + 64) a.lines } : Capture)] } })).settle) ∧
  (∀ (page : Nat) (c : Capture) (deep : Nat) (a : State) (s : State),
    s.cul.captures.find? (fun c => decide (c.page = page)) = some c ∧ s.mode.mainRails = true ∧ s.mode ≠ .save ∧ s.takePage false = some (deep, a) →
    exec (.writebackProgramDone page) s =
      .next (((a.endCapture c deep).sluice)).settle) ∧
  (∀ (page : Nat) (c : Capture) (deep : Nat) (a : State) (s : State),
    s.cul.captures.find? (fun c => decide (c.page = page)) = some c ∧ s.takePage false = some (deep, a) →
    exec (.programFailed page) s =
      .next ((let slot := a.slotOfPos (posOfDeep deep); let b := a.setPage page { a.page page with st := 3, redirty := [] }; let k := { b with cul := { b.cul with captures := b.cul.captures.filter fun x => decide (x.page ≠ page) }, fl := { b.fl with badPages := b.fl.badPages ++ [deep] } }; (((k : State).bump (F.SLOT_OP_FAILS_PROGRAM slot) 1).useSpareBlock slot (sbOfDeep deep) |>.queueBlock (sbOfDeep deep)))).settle) ∧
  (∀ (s : State),
    s.cul.jpend ≠ [] ∧ s.programsAllowed = true →
    exec .journalBlockWrite s =
      .next ((let b : JBlock := { jseq := s.cul.jseq, entries := s.cul.jpend.take 252 }; ((({ s with cul := { s.cul with jpend := s.cul.jpend.drop 252, jseq := s.cul.jseq + 1, jblocks := s.cul.jblocks ++ [b] } } : State).forEach b.entries fun e a => a.makeDurable e).journalStatus))).settle) ∧
  (∀ (tp : Nat) (n deep : Nat) (a : State) (s : State),
    Sparse.get 0 tp s.cul.tableDirty ≠ 0 ∧ s.programsAllowed = true ∧ s.tablePageNumber tp = some n ∧ s.takePage false = some (deep, a) →
    exec (.tablePageWrite tp) s =
      .next ((let b := a.placeTable tp n deep; (({ b with cul := { b.cul with tableDirty := Sparse.set 0 tp 0 b.cul.tableDirty } } : State).truncateJournal))).settle) ∧
  (∀ (sb : Nat) (s : State),
    s.programsAllowed = true ∧ s.fl.formed = true ∧ s.blockStatus.gcVictim = some sb →
    exec .gcVictimRelocate s =
      .next ((s.blockStatus.relocate sb)).settle) ∧
  (∀ (a : State) (x : Nat) (s : State),
    s.blockStatus = a ∧ a.programsAllowed = true ∧ a.get F.CUL_GC_CFG_WL_SPREAD < a.get F.CUL_ERASE_SPREAD_SPREAD ∧ (a.cul.blocks.filter fun e => decide (e.2.st = 3) || decide (e.2.st = 4)).map (·.1) = [x] →
    exec .wearLevelRelocate s =
      .next ((((a.raise Ev.WEAR_RELOCATION []).bump F.CUL_WL_MOVES_COUNT 1).relocate x)).settle)

/-- Recomputation follows the rules, the thermal cap steps by one, a bank record is taken or refused, and the assay goes through its states with its measurements, its results and its retries. Where the spec leaves a point open, the effects follow the model's choices of log entries 65, 66, 67, 68, 69 and 150. -/
def Obligations.BankCommandsComplete : Prop :=
  (∀ (s : State),
    exec .freeboardRecompute s =
      .next ((s.recomputeFreeboard)).settle) ∧
  (∀ (s : State),
    s.mode.mainRails = true ∧ s.mode ≠ .save →
    exec .sluiceShareRecompute s =
      .next ((s.recomputeShares)).settle) ∧
  (∀ (s : State),
    s.isSet F.SLU_STATUS_THERM_ENFORCE = true →
    exec .thermalCapStep s =
      .next ((let a := s.bump F.TH_ENFORCE_MS_MS s.thermStepMs; let n := s.get F.SLU_STATUS_THERM_STEP; if s.isSet F.TH_STATUS_REQUESTED then a.put F.SLU_STATUS_THERM_STEP (min 7 (n + 1)) else if n ≤ 1 then ((a.put F.SLU_STATUS_THERM_STEP 0).put F.SLU_STATUS_THERM_ENFORCE 0).put F.TH_STATUS_ENFORCING 0 else a.put F.SLU_STATUS_THERM_STEP (n - 1))).settle) ∧
  (∀ (record : BitVec 2048) (crcOk : Bool) (s : State),
    (s.mode = .bringup ∨ s.mode = .watch ∨ s.mode.serving = true) ∧ crcOk = true ∧ bitsOf record.toNat 0 16 = 1 →
    exec (.bankIdRead record crcOk) s =
      .next (((s.takeBankId record.toNat).recomputeFreeboard)).settle) ∧
  (∀ (s : State),
    s.mode ≠ .bringup →
    exec .assayDue s =
      .next ((s.requestAssay)).settle) ∧
  (∀ (s : State),
    s.mode.mainRails = true →
    exec .assayNow s =
      .next ((({ s with ssb := { s.ssb with assayDue := true } }).tryAssay)).settle) ∧
  (∀ (s : State),
    exec .assayPrepareReady s =
      .next ((s.assayDischarge)).settle) ∧
  (∀ (s : State),
    s.get F.ASSAY_STATUS_STATE = 1 →
    exec .assayPrepareTimeout s =
      .next (((s.put F.ASSAY_STATUS_LAST_RESULT 6).endAssay)).settle) ∧
  (∀ (s : State),
    s.get F.ASSAY_STATUS_STATE = 2 ∧ s.ssb.measured = false ∧ 8 ≤ (s.lastSamples 0 8).length ∧ 8 ≤ (s.lastSamples 1 8).length →
    exec .assayEsrMeasure s =
      .next ((let v := meanOf (s.lastSamples 0 8); let i := meanOf (s.lastSamples 1 8); { s with ssb := { s.ssb with v1 := v, i1 := i, measured := true, esrUohm := if i = 0 then 0 else (s.ssb.v0 - v) * 10 ^ 6 / i } })).settle) ∧
  (∀ (s : State),
    s.get F.ASSAY_STATUS_STATE = 2 ∧ s.ssb.measured = true ∧ 100 * (s.latest 0 * 10 ^ 6 + s.ssb.esrUohm * s.latest 1) ≤ 97 * 10 ^ 6 * s.ssb.v0 →
    exec .assayDischargeEnd s =
      .next ((s.assayRelax)).settle) ∧
  (∀ (s : State),
    s.get F.ASSAY_STATUS_STATE = 2 →
    exec .assayDischargeTimeout s =
      .next ((let a := s.assayRelax; ({ a with ssb := { a.ssb with noLoad := true } } : State).rejectAssay 4)).settle) ∧
  (∀ (a : State) (s : State),
    s.get F.ASSAY_STATUS_STATE = 3 ∧ 64 ≤ (s.lastSamples 0 64).length ∧ ({ s with ssb := { s.ssb with v2 := meanOf (s.lastSamples 0 64), rangedOver := s.ssb.rangedOver || mostlyRanged (s.lastSamples 0 64) } } : State) = a →
    exec .assayRelaxEnd s =
      .next (((if a.ssb.noLoad then a else a.evaluateAssay).put F.ASSAY_STATUS_STATE 5)).settle) ∧
  (∀ (s : State),
    s.get F.ASSAY_STATUS_STATE = 5 ∧ 995 * s.ssb.v0 ≤ 1000 * s.latest 0 →
    exec .assayRechargeDone s =
      .next ((s.endAssay)).settle) ∧
  (∀ (s : State),
    s.get F.ASSAY_STATUS_STATE = 5 →
    exec .assayRechargeTimeout s =
      .next ((s.endAssay.raise Ev.BANK_NOT_READY [])).settle) ∧
  (∀ (s : State),
    3 ≤ s.get F.ASSAY_STATUS_LAST_RESULT ∧ s.get F.ASSAY_STATUS_LAST_RESULT ≤ 6 ∧ s.get F.ASSAY_STATUS_STATE = 0 →
    exec .assayRetryDue s =
      .next ((s.requestAssay)).settle)

/-- PFAIL_N latches and is filtered, the filter's expiry starts the reaction, an image is sealed, the chip restarts after the wait, the restore goes through its phases, and its exit enters the mode the pairing asks for. Where the spec leaves a point open, the effects follow the model's choices of log entries 19, 43, 84, 147, 151 and 162. -/
def Obligations.SaveCommandsComplete : Prop :=
  (∀ (s : State),
    s.mode ≠ .off →
    exec .pfailNAssert s =
      .next ((({ s with ssb := { s.ssb with pfailAt := s.now + 1, pfailOn := false }, pw := { s.pw with holdoff := false, stored := s.get F.ID_OPERATING_S_SECONDS } }).put F.PWR_STATUS_PFAIL 1)).settle) ∧
  (∀ (s : State),
    s.mode ≠ .off →
    exec .pfailNDeassert s =
      .next ((let a := ({ s with ssb := { s.ssb with pfailAt := 0, pfailOn := false } }).put F.PWR_STATUS_PFAIL 0; let b := a.when (decide (s.ssb.pfailAt ≠ 0) && !s.ssb.pfailOn) (State.raiseLimited Ev.PFAIL_GLITCH 0 []); b.when (b.isSet F.PWR_CTRL_WAKE_ON_POWER) State.wakeDormant)).settle) ∧
  (∀ (s : State),
    s.ssb.pfailAt ≠ 0 ∧ s.ssb.pfailOn = false →
    exec .pfailFilterExpiry s =
      .next ((({ s with ssb := { s.ssb with pfailOn := true } }).powerFail)).settle) ∧
  (∀ (us : Nat) (energy : Nat) (s : State),
    s.mode = .save ∧ s.get F.SPW_STATUS_PHASE ≠ 5 →
    exec (.spillwaySeal us energy) s =
      .next (((s.sealImage us energy).afterSeal)).settle) ∧
  (∀ (s : State),
    s.mode = .save ∧ s.get F.SPW_STATUS_PHASE = 5 ∧ s.ssb.pfailAt = 0 ∧ s.railsLost = false →
    exec .saveRestartWaitEnd s =
      .next ((let a := s.put F.SPW_STATUS_PHASE 0; if a.pw.quarantineHeld then ({ a with pw := { a.pw with quarantineHeld := false, chipHeld := false } }).setMode .quarantine else a.enterBringup true false)).settle) ∧
  (∀ (repaired : Nat) (ignored : Nat) (damage : List (Nat × Nat)) (gap : Bool) (bad : List (Nat × LineVerdict)) (im : Image) (s : State),
    s.mode = .restore ∧ s.get F.RST_STATUS_PHASE = 1 ∧ (s.endScan repaired ignored).ssb.restoring = some im →
    exec (.restorePhaseDone repaired ignored damage gap bad) s =
      .next ((let a := s.endScan repaired ignored; { a with ssb := { a.ssb with rstDamage := damage } })).settle) ∧
  (∀ (repaired : Nat) (ignored : Nat) (damage : List (Nat × Nat)) (gap : Bool) (bad : List (Nat × LineVerdict)) (s : State),
    s.mode = .restore ∧ s.get F.RST_STATUS_PHASE = 2 ∧ gap = false →
    exec (.restorePhaseDone repaired ignored damage gap bad) s =
      .next ((let a := s.rebuildTable; ((({ a with ssb := { a.ssb with rstDamage := [] } } : State).forEach a.ssb.rstDamage fun r a => a.poisonRange r.1 r.2).startLines).put F.RST_STATUS_PHASE 3)).settle) ∧
  (∀ (repaired : Nat) (ignored : Nat) (damage : List (Nat × Nat)) (gap : Bool) (bad : List (Nat × LineVerdict)) (s : State),
    s.mode = .restore ∧ s.get F.RST_STATUS_PHASE = 3 ∧ s.linesDone = true →
    exec (.restorePhaseDone repaired ignored damage gap bad) s =
      .next ((s.startPending.put F.RST_STATUS_PHASE 4)).settle) ∧
  (∀ (repaired : Nat) (ignored : Nat) (damage : List (Nat × Nat)) (gap : Bool) (bad : List (Nat × LineVerdict)) (s : State),
    s.mode = .restore ∧ s.get F.RST_STATUS_PHASE = 4 ∧ s.pendingArrivals = [] ∧ s.merges = [] →
    exec (.restorePhaseDone repaired ignored damage gap bad) s =
      .next ((s.startSettle.put F.RST_STATUS_PHASE 5)).settle) ∧
  (∀ (s : State),
    s.mode = .restore ∧ s.restoreReady = true ∧ s.cw.paired = false ∧ s.cw.linkKey = true →
    exec .restoreExit s =
      .next (((s.endRestore .resync).startCatchup)).settle) ∧
  (∀ (s : State),
    s.mode = .restore ∧ s.restoreReady = true ∧ s.cw.paired = true ∧ s.cw.ownAuth = false →
    exec .restoreExit s =
      .next ((s.enterBringup false true)).settle)

/-- Training done or timed out ends it, calibration and refresh change nothing the model holds, ranks sleep, an alert replays or fails its channel, the patrol goes on, a drain copies its pages, a fault takes the channel out, temperatures are read, and a line's data arrives. Where the spec leaves a point open, the effects follow the model's choices of log entries 23, 32, 33, 148, 167 and 168. -/
def Obligations.DramCommandsComplete : Prop :=
  (∀ (c : Fin 16) (d : Fin 2) (reading : Option (BitVec 16)) (v : BitVec 16) (a : State) (s : State),
    s.mode.mainRails = true ∧ s.mode ≠ .save ∧ reading = some v ∧ s.get (F.CH_STATUS_DIMMS c.val) ≠ 2 ∧ d.val = 0 ∧ (({ s with dram := { s.dram with tempFails := Sparse.set 0 (2 * c.val) 0 s.dram.tempFails } } : State).put (F.CH_TEMP_DIMM0 c.val) v.toNat) = a ∧ a.get (F.CH_STATUS_DIMMS c.val) ≠ 2 ∧ Sparse.get 0 (2 * c.val) a.dram.tempFails = 0 ∧ quarterC (a.get (F.CH_TEMP_DIMM0 c.val)) < 4 * (a.dimmHotC : Int) - 12 ∧ a.dram.limited = [] →
    exec (.dimmTempRead c d reading) s =
      .next ((let others := a.dram.doubled.filter fun x => decide (x ≠ c.val); { a with dram := { a.dram with doubled := if 340 ≤ quarterC (a.get (F.CH_TEMP_DIMM0 c.val)) then others ++ [c.val] else others } })).settle) ∧
  (∀ (c : Fin 16) (lanes : List (Nat × Nat × Nat × Nat × Nat)) (ppr : List Nat) (decoderOk : Bool) (a b : State) (s : State),
    s.get (F.CH_STATUS_STATE c.val) = 1 ∧ s.mode.mainRails = true ∧ s.mode ≠ .bringup ∧ s.judgeLanes c.val [] = (a, 0) ∧ lanes = [] ∧ decoderOk = true ∧ (a.put (F.CH_STATUS_STATE c.val) 2).put (F.CH_STATUS_OOS_CAUSE c.val) 0 = b →
    exec (.channelTrainingDone c lanes ppr decoderOk) s =
      .next (((({ b with dram := { b.dram with base := Sparse.set 0 c.val 0 b.dram.base } } : State).put (F.CH_FRAMES_COUNT c.val) (b.get (F.CH_CAPACITY_GIB c.val) * 512)).dramStatus.giveFrames)).settle) ∧
  (∀ (c : Fin 16) (step : Fin 8) (s : State),
    s.get (F.CH_STATUS_STATE c.val) = 1 ∧ s.mode.mainRails = true →
    exec (.channelTrainingTimeout c step) s =
      .next ((s.trainingFails c.val (step.val + 1))).settle) ∧
  (∀ (c : Fin 16) (rank : Fin 8) (s : State),
    exec (.zqCalibration c rank) s = .next s.settle) ∧
  (∀ (c : Fin 16) (drift : List (Fin 20 × Int)) (s : State),
    s.rankRuns c.val 0 = true →
    exec (.dqsDriftTrack c drift) s =
      .next ((s.forEach drift fun e a => (let b := a.put (F.CH_TRAIN_RD_CENTRE c.val e.1.val) (min 255 ((a.get (F.CH_TRAIN_RD_CENTRE c.val e.1.val) : Int) + e.2).toNat); b.put (F.CH_TRAIN_WR_CENTRE c.val e.1.val) (min 255 ((b.get (F.CH_TRAIN_WR_CENTRE c.val e.1.val) : Int) + e.2).toNat)))).settle) ∧
  (∀ (c : Fin 16) (rank : Fin 8) (s : State),
    exec (.refreshDue c rank) s =
      .next ((s.closeRows c.val rank.val)).settle) ∧
  (∀ (c : Fin 16) (rank : Fin 8) (s : State),
    s.rankRuns c.val rank.val = true ∧ s.get F.DRC_CFG_PD_IDLE_US ≠ 0 ∧ Sparse.get 0 (c.val * 8 + rank.val) s.dram.ranks = 0 →
    exec (.rankPowerDownEntry c rank) s =
      .next (((s.setRank c.val rank.val 1).closeRows c.val rank.val)).settle) ∧
  (∀ (c : Fin 16) (rank : Fin 8) (s : State),
    s.rankRuns c.val rank.val = true ∧ s.get F.DRC_CFG_SR_IDLE_MS ≠ 0 →
    exec (.rankSelfRefreshEntry c rank) s =
      .next (((s.setRank c.val rank.val 2).closeRows c.val rank.val)).settle) ∧
  (∀ (c : Fin 16) (replays : Fin 4) (ok : Bool) (reads : List Nat) (writes : List Nat) (s : State),
    s.rankRuns c.val 0 = true ∧ ok = true →
    exec (.dramAlert c replays ok reads writes) s =
      .next (((s.bump (F.CH_REPLAY_COUNT_COUNT c.val) replays.val).when (decide (replays.val ≠ 0)) (State.raiseLimited (Ev.CA_REPLAY c.val) c.val []))).settle) ∧
  (∀ (c : Fin 16) (replays : Fin 4) (ok : Bool) (reads : List Nat) (writes : List Nat) (s : State),
    s.rankRuns c.val 0 = true ∧ ok = false ∧ reads = [] ∧ writes = [] →
    exec (.dramAlert c replays ok reads writes) s =
      .next ((((s.bump (F.CH_REPLAY_COUNT_COUNT c.val) replays.val).when (decide (replays.val ≠ 0)) (State.raiseLimited (Ev.CA_REPLAY c.val) c.val [])).failChannel c.val 5)).settle) ∧
  (∀ (c : Fin 16) (line : Option Nat) (loc : List Nat) (bad : Bool) (ecc : List EccNote) (copyBad : List Nat) (pct : Fin 101) (done : Bool) (s : State),
    s.get (F.CH_STATUS_STATE c.val) = 2 ∧ s.mode.mainRails = true ∧ s.frozenMode = false ∧ line = none ∧ bad = false ∧ done = false →
    exec (.dramPatrolRead c line loc bad ecc copyBad pct done) s =
      .next ((((s.selectAll c.val 128).put (F.CH_PATROL_PCT c.val) pct.val).noteEcc c.val loc ecc)).settle) ∧
  (∀ (c : Fin 16) (line : Option Nat) (loc : List Nat) (bad : Bool) (ecc : List EccNote) (copyBad : List Nat) (pct : Fin 101) (done : Bool) (l : Nat) (a : State) (s : State),
    s.get (F.CH_STATUS_STATE c.val) = 2 ∧ s.mode.mainRails = true ∧ s.frozenMode = false ∧ line = some l ∧ bad = false ∧ done = false ∧ (s.selectAll c.val 128).put (F.CH_PATROL_PCT c.val) pct.val = a ∧ a.channelOf l = c.val ∧ a.frameOf l ≠ none ∧ 2 ≤ (a.page (pageOfLine l)).st →
    exec (.dramPatrolRead c line loc bad ecc copyBad pct done) s =
      .next (((((a.countCorrected ecc).noteEcc c.val ((a.lineLocation l).drop 1) ecc).when (!(ecc.all fun e => decide (e = .clean))) (State.enqueue true l)).copyRow c.val (a.remaps c.val).length l copyBad)).settle) ∧
  (∀ (c : Fin 16) (service : Bool) (s : State),
    exec (.channelServiceWrite c service) s =
      .next ((s.channelService c.val service)).settle) ∧
  (∀ (c : Fin 16) (page : Option Nat) (s : State),
    s.get (F.CH_STATUS_STATE c.val) = 3 ∧ s.frozenMode = false ∧ s.mode.mainRails = true ∧ s.noRoom c.val = false →
    exec (.channelDrainPageCopy c page) s =
      .next ((match page with | some p => (s.moveDrainPage c.val p).checkDrains | none => (s.moveReserved c.val).checkDrains)).settle) ∧
  (∀ (c : Fin 16) (s : State),
    s.mode.mainRails = true →
    exec (.channelFault c) s =
      .next ((s.failChannel c.val 6)).settle) ∧
  (∀ (line : Nat) (verdict : LineVerdict) (lanes : Fin 3) (ecc : List EccNote) (copyBad : List Nat) (memory : Nat) (crypto : Nat) (a b : State) (s : State),
    ((s.reads.any fun r => r.missed && decide (lineOf r.addr = line)) || (s.merges.any fun m => decide (m.line = line))) = true ∧ s.present (pageOfLine line) = true ∧ s.mode.mainRails = true ∧ s.mode ≠ .quarantine ∧ verdict ≠ .uncorrectable ∧ lanes.val = 0 ∧ s.served false line = a ∧ ((a.countCorrected ecc).noteEcc (s.channelOf line) ((s.lineLocation line).drop 1) ecc).copyRow (s.channelOf line) (a.remaps (s.channelOf line)).length line copyBad = b →
    exec (.lineDataArrival line verdict lanes ecc copyBad memory crypto) s =
      .next ((b.arriveLine line verdict memory crypto)).settle)

/-- A module's presence is filtered, its slot is powered, tried again, faulted and cleared, its member joins or fails, blocks are erased, the group is retried, stripes are rebuilt and patrolled, a repair request times out, and module temperatures are read. Where the spec leaves a point open, the effects follow the model's choices of log entries 79, 102 and 170. -/
def Obligations.FlashMemberCommandsComplete : Prop :=
  (∀ (slot : Fin 20) (present : Bool) (record : Nat) (crcOk : Bool) (s : State),
    s.mode.mainRails = true ∧ s.isSet (F.SLOT_STATUS_PRESENT slot.val) ≠ present →
    exec (.slotPresenceFiltered slot present record crcOk) s =
      .next ((let a := s.raise (Ev.MODULE_PRESENCE slot.val) [flag present]; if present then a.insertModule slot.val record crcOk else a.removeModule slot.val)).settle) ∧
  (∀ (slot : Fin 20) (s : State),
    s.get (F.SLOT_STATUS_STATE slot.val) = 5 ∧ s.get (F.SLOT_STATUS_ATTEMPTS slot.val) = 0 →
    exec (.slotPowerAttempt slot) s =
      .next ((s.tryPower slot.val)).settle) ∧
  (∀ (slot : Fin 20) (s : State),
    s.isSet (F.SLOT_STATUS_POWER_ON slot.val) = true →
    exec (.slotPgAssert slot) s =
      .next ((s.put (F.SLOT_STATUS_PG slot.val) 1)).settle) ∧
  (∀ (slot : Fin 20) (s : State),
    s.isSet (F.SLOT_STATUS_POWER_ON slot.val) = true ∧ s.isSet (F.SLOT_STATUS_PG slot.val) = false →
    exec (.slotPgTimeout slot) s =
      .next ((s.failAttempt slot.val)).settle) ∧
  (∀ (slot : Fin 20) (s : State),
    s.isSet (F.SLOT_STATUS_POWER_ON slot.val) = true →
    exec (.slotFault slot) s =
      .next (((s.put (F.SLOT_STATUS_FLT slot.val) 1).failAttempt slot.val)).settle) ∧
  (∀ (slot : Fin 20) (s : State),
    (s.get (F.SLOT_STATUS_STATE slot.val) = 5 ∨ s.get (F.SLOT_STATUS_STATE slot.val) = 6 ∨ s.get (F.SLOT_STATUS_STATE slot.val) = 7) ∧ 1 ≤ s.get (F.SLOT_STATUS_ATTEMPTS slot.val) →
    exec (.slotPowerRetry slot) s =
      .next ((s.tryPower slot.val)).settle) ∧
  (∀ (slot : Fin 20) (geometry : Bool) (factoryBad : List Nat) (s : State),
    s.isSet (F.SLOT_STATUS_PG slot.val) = true ∧ s.get (F.SLOT_STATUS_STATE slot.val) = 5 ∧ geometry = true ∧ s.fl.taken.contains slot.val = false →
    exec (.slotSettleDone slot geometry factoryBad) s =
      .next (((s.mapFactory slot.val factoryBad).joinMember slot.val)).settle) ∧
  (∀ (slot : Fin 20) (s : State),
    s.get (F.SLOT_STATUS_STATE slot.val) = 9 →
    exec (.slotClearFault slot) s =
      .next (((((((s.put (F.SLOT_STATUS_STATE slot.val) 1).put (F.SLOT_STATUS_ATTEMPTS slot.val) 0).put (F.SLOT_STATUS_CAUSE slot.val) 0).put (F.SLOT_STATUS_FLT slot.val) 0)).placeModule slot.val)).settle) ∧
  (∀ (slot : Fin 20) (s : State),
    s.isMember slot.val = true →
    exec (.slotFailNow slot) s =
      .next ((s.failSlot slot.val 8 5)).settle) ∧
  (∀ (slot : Fin 20) (s : State),
    s.isMember slot.val = true →
    exec (.onfiReadyTimeout slot) s =
      .next ((s.failSlot slot.val 8 2)).settle) ∧
  (∀ (what : EraseWhat) (failed : List Nat) (sb : Nat) (s : State),
    s.isSet F.FL_STATUS_PROG_ALLOWED = true ∧ what = .block sb ∧ (s.block sb).st = 6 →
    exec (.nandEraseDone what failed) s =
      .next ((s.eraseBlock sb failed)).settle) ∧
  (∀ (what : EraseWhat) (failed : List Nat) (slot : Fin 20) (s : State),
    s.isSet F.FL_STATUS_PROG_ALLOWED = true ∧ what = .spareAreas slot →
    exec (.nandEraseDone what failed) s =
      .next ((s.joinSpare slot.val)).settle) ∧
  (∀ (what : EraseWhat) (failed : List Nat) (s : State),
    s.isSet F.FL_STATUS_PROG_ALLOWED = true ∧ what = .imageArea 0 ∧ s.ssb.imageA = none ∧ s.ssb.erased.contains 0 = false →
    exec (.nandEraseDone what failed) s =
      .next (({ s with ssb := { s.ssb with erased := s.ssb.erased ++ [0] } })).settle) ∧
  (∀ (s : State),
    exec .noGroupRetry s =
      .next ((s.formGroup)).settle) ∧
  (∀ (bad : List Nat) (ecc : DeepEcc) (progFail : Bool) (s : State),
    s.get F.FL_REBUILD_STATUS_POSITION_A ≠ 31 ∧ s.programsAllowed = true ∧ s.fl.rbLeft = [] →
    exec (.rebuildStripe bad ecc progFail) s =
      .next ((s.endPass)).settle) ∧
  (∀ (bad : List Nat) (ecc : DeepEcc) (progFail : Bool) (sb : Nat) (rest : List Nat) (a : State) (s : State),
    s.get F.FL_REBUILD_STATUS_POSITION_A ≠ 31 ∧ s.programsAllowed = true ∧ s.fl.rbLeft = sb :: rest ∧ bad = [] ∧ progFail = false ∧ (s.erasures sb s.fl.rbStripe []).length ≤ 2 ∧ s.noteLdpc sb ecc = a →
    exec (.rebuildStripe bad ecc progFail) s =
      .next ((let b := (({ a with fl := if a.usedStripes sb ≤ s.fl.rbStripe + 1 then { a.fl with rbLeft := rest, rbStripe := 0 } else { a.fl with rbStripe := s.fl.rbStripe + 1 } } : State).rebuildStatus).when (decide (a.usedStripes sb ≤ s.fl.rbStripe + 1)) State.blockRebuilt; if b.fl.rbLeft.isEmpty && decide (b.get F.FL_REBUILD_STATUS_POSITION_A ≠ 31) then b.endPass else b)).settle) ∧
  (∀ (id : Nat) (r : Nat × Nat × Nat) (s : State),
    s.fl.repairs.find? (fun r => decide (r.1 = id)) = some r →
    exec (.repairReplyTimeout id) s =
      .next ((({ s with fl := { s.fl with repairs := s.fl.repairs.filter fun x => decide (x.1 ≠ id) } }).losePage r.2.1)).settle) ∧
  (∀ (bad : List Nat) (ecc : DeepEcc) (parity : Option (Option Nat)) (marginal : Bool) (engine : Option (Fin 2)) (sb : Nat) (rest : List Nat) (s : State),
    s.mode.mainRails = true ∧ s.mode ≠ .save ∧ s.fl.formed = true ∧ s.fl.patrolLeft = sb :: rest ∧ bad = [] ∧ parity = none ∧ marginal = false ∧ engine = none →
    exec (.flashPatrolStripe bad ecc parity marginal engine) s =
      .next (((s.noteLdpc sb ecc).patrolNext)).settle) ∧
  (∀ (days left : Nat) (s : State),
    (if s.get F.FL_CTRL_PATROL_DAYS = 0 ∨ 14 < s.get F.FL_CTRL_PATROL_DAYS then 14 else s.get F.FL_CTRL_PATROL_DAYS) = days ∧ days * 86400 - (s.get F.ID_OPERATING_S_SECONDS - s.fl.patrolAt) = left →
    exec .flashPatrolRateUpdate s =
      .next ((let bytes := (s.fl.patrolLeft.foldl (fun n b => n + s.usedStripes b) 0 - s.fl.patrolStripe) * (s.width + 2) * 16384; s.put F.FL_PATROL_MBPS_MBPS (min (2 ^ 20 - 1) (max 50 (if left = 0 then bytes / 1000000 else ceilDiv bytes (left * 1000000)))))).settle) ∧
  (∀ (slot : Fin 20) (reading : Option (BitVec 16)) (v : BitVec 16) (a b : State) (s : State),
    s.isSet (F.SLOT_STATUS_POWER_ON slot.val) = true ∧ reading = some v ∧ (s.put (F.SLOT_TEMP_CASE slot.val) v.toNat).put (F.SLOT_STATUS_SENSOR_FAIL slot.val) 0 = a ∧ ({ a with fl := { a.fl with tempFails := Sparse.set 0 slot.val 0 a.fl.tempFails } } : State) = b ∧ b.inWindow slot.val 0 = true ∧ b.isSet (F.SLOT_STATUS_TEMP_OK slot.val) = true ∧ b.slotsIn 6 = [slot.val] ∧ b.slotsIn 7 = [] ∧ b.inWindow slot.val 3 = true →
    exec (.moduleTempRead slot reading) s =
      .next ((b.setPause false)).settle)

/-- A path trains, fails and is serviced; a mirror frame that is authentic and next in order is delivered and acts by its type; an authentic CONTROL frame is taken in, a HELLO that passes the checks pairs and forms the key; the timers send what they are due to send. Where the spec leaves a point open, the effects follow the model's choices of log entries 37, 86, 88, 89, 91, 98, 137, 152 and 153. -/
def Obligations.CausewayCommandsComplete : Prop :=
  (∀ (p : Fin 2) (s : State),
    s.pathState p.val = 1 →
    exec (.pathTrainingDone p) s =
      .next ((let a := (s.setPath p.val 2).endCond (Ev.PATH_DOWN p.val); if a.cw.linkKey then a else if a.cw.hello then a.emit (.cwHello p.val a.helloOut) else a.startHello)).settle) ∧
  (∀ (p : Fin 2) (s : State),
    s.pathState p.val = 1 →
    exec (.pathTrainingTimeout p) s =
      .next ((s.pathDown p.val true)).settle) ∧
  (∀ (p : Fin 2) (s : State),
    exec (.pathRetrainDue p) s =
      .next ((s.setCwPath p.val { s.cwPath p.val with retry := false })).settle) ∧
  (∀ (p : Fin 2) (fec : Fec) (s : State),
    s.pathState p.val = 2 →
    exec (.pathLinkLoss p fec) s =
      .next ((((s.countFec p.val fec).raise (Ev.PATH_DOWN p.val) []).pathDown p.val false)).settle) ∧
  (∀ (p : Fin 2) (service : Bool) (s : State),
    exec (.cwPathServiceWrite p service) s =
      .next ((s.pathService p.val service)).settle) ∧
  (∀ (m : MirrorRx) (es : List LineEntry) (win : Option WinRec) (a : State) (s : State),
    s.frameNext m a = true ∧ win = none →
    exec (.linesFrameRx m es win) s =
      .next ((a.frameLands m (.lines es))).settle) ∧
  (∀ (m : MirrorRx) (es : List LineEntry) (win : Option WinRec) (a : State) (w : WinRec) (s : State),
    s.frameNext m a = true ∧ win = some w →
    exec (.linesFrameRx m es win) s =
      .next ((a.frameLands m (.window w))).settle) ∧
  (∀ (m : MirrorRx) (es : List LineEntry) (a : State) (s : State),
    s.frameNext m a = true →
    exec (.linesBgFrameRx m es) s =
      .next ((a.frameLands m (.linesBg es))).settle) ∧
  (∀ (m : MirrorRx) (es : List (Nat × Bool)) (a : State) (s : State),
    s.frameNext m a = true →
    exec (.pageMarkRx m es) s =
      .next ((a.frameLands m (.pageMark es))).settle) ∧
  (∀ (m : MirrorRx) (es : List (Nat × Nat)) (a : State) (s : State),
    s.frameNext m a = true →
    exec (.horizonFrameRx m es) s =
      .next ((a.frameLands m (.horizon es))).settle) ∧
  (∀ (m : MirrorRx) (kind : Nat) (idx : Nat) (words : List Nat) (a : State) (s : State),
    s.frameNext m a = true →
    exec (.recordFrameRx m kind idx words) s =
      .next ((a.frameLands m (.record kind idx words))).settle) ∧
  (∀ (m : MirrorRx) (seqs : List Nat) (a : State) (s : State),
    s.frameNext m a = true →
    exec (.recordCommitRx m seqs) s =
      .next ((a.frameLands m (.commit seqs))).settle) ∧
  (∀ (m : MirrorRx) (side : Nat) (gen : Nat) (tenant : Nat) (midx : Nat) (salt : Nat) (a : State) (s : State),
    s.frameNext m a = true →
    exec (.keyGenEntryRx m side gen tenant midx salt) s =
      .next ((a.frameLands m (.keyGen side gen tenant midx salt))).settle) ∧
  (∀ (m : MirrorRx) (tenant : Nat) (midx : Nat) (serial : Nat) (master : Nat) (a : State) (s : State),
    s.frameNext m a = true →
    exec (.keyMasterRx m tenant midx serial master) s =
      .next ((a.frameLands m (.keyMaster tenant midx serial master))).settle) ∧
  (∀ (m : MirrorRx) (tenantKey : Bool) (a : Nat) (b : Nat) (x : State) (s : State),
    s.frameNext m x = true →
    exec (.keyDestroyRx m tenantKey a b) s =
      .next ((x.frameLands m (if tenantKey then .keyDestroyMaster a b else .keyDestroyGen a b))).settle) ∧
  (∀ (m : MirrorRx) (id : Nat) (page : Nat) (a : State) (s : State),
    s.frameNext m a = true →
    exec (.repairReqRx m id page) s =
      .next ((a.frameLands m (.repairReq id page))).settle) ∧
  (∀ (m : MirrorRx) (claim : Bool) (a : State) (s : State),
    s.frameNext m a = true →
    exec (.assayStateRx m claim) s =
      .next ((a.frameLands m (.assayState claim))).settle) ∧
  (∀ (m : MirrorRx) (a : State) (s : State),
    s.frameNext m a = true →
    exec (.drainBeginRx m) s =
      .next ((a.frameLands m .drainBegin)).settle) ∧
  (∀ (m : MirrorRx) (full0 : Bool) (full1 : Bool) (a : State) (s : State),
    s.frameNext m a = true →
    exec (.catchupBeginRx m full0 full1) s =
      .next ((a.frameLands m (.catchupBegin full0 full1))).settle) ∧
  (∀ (m : MirrorRx) (a : State) (s : State),
    s.frameNext m a = true →
    exec (.catchupDoneRx m) s =
      .next ((a.frameLands m .catchupDone)).settle) ∧
  (∀ (m : MirrorRx) (temper : Nat) (a : State) (s : State),
    s.frameNext m a = true →
    exec (.temperSetRx m temper) s =
      .next ((a.frameLands m (.temperSet temper))).settle) ∧
  (∀ (m : MirrorRx) (a : State) (s : State),
    s.frameNext m a = true →
    exec (.unpairRx m) s =
      .next ((a.frameLands m .unpair)).settle) ∧
  (∀ (m : MirrorRx) (id : Nat) (status : Nat) (a : State) (s : State),
    s.frameNext m a = true →
    exec (.repairDoneRx m id status) s =
      .next ((a.frameLands m (.repairDone id status))).settle) ∧
  (∀ (m : MirrorRx) (seq : Nat) (a : State) (s : State),
    s.frameNext m a = true →
    exec (.keyCommittedRx m seq) s =
      .next ((a.frameLands m (.keyCommitted seq))).settle) ∧
  (∀ (c : ControlRx) (z a b : State) (s : State),
    s.pathState c.path.val = 2 ∧ s.countFec c.path.val c.fec = z ∧ z.pathState c.path.val = 2 ∧ c.fchk = true ∧ c.tag = true ∧ z.cw.linkKey = true ∧ c.nak = 0 ∧ ((z.twinHeard.takeAck c.ack).takeCredit c.credit).pump = a ∧ ({ a with cw := { a.cw with partnerMode := c.mode, partnerFenced := c.fenced, partnerServing := c.serving, partnerReady := c.ready, partnerMeff := c.mEff, partnerEpoch := c.epoch } } : State) = b ∧ c.epoch ≤ b.get F.CW_PAIR_EPOCH_EPOCH →
    exec (.controlFrameRx c) s =
      .next ((b.heedPartner c)).settle) ∧
  (∀ (p : Fin 2) (fchk : Bool) (fec : Fec) (h : Hello) (z a b : State) (s : State),
    s.pathState p.val = 2 ∧ fchk = true ∧ s.countFec p.val fec = z ∧ z.pathState p.val = 2 ∧ z.helloRefusal h = 0 ∧ z.twinHeard.pairWith h = a ∧ (if a.cw.hello then a else a.startHello) = b ∧ h.echo = false →
    exec (.helloRx p fchk fec h) s =
      .next (({ b with cw := { b.cw with helloHeard := true } })).settle) ∧
  (∀ (p : Fin 2) (fchk : Bool) (fec : Fec) (h : Hello) (z a b : State) (s : State),
    s.pathState p.val = 2 ∧ fchk = true ∧ s.countFec p.val fec = z ∧ z.pathState p.val = 2 ∧ z.helloRefusal h = 0 ∧ z.twinHeard.pairWith h = a ∧ h.echo = true ∧ a.cw.hello = true ∧ a.cw.paired = true ∧ a.get F.CW_PAIR_ID_ID = h.pairId ∧ ({ a with cw := { a.cw with helloHeard := true } } : State) = b →
    exec (.helloRx p fchk fec h) s =
      .next (((b.sendHellos.formKey h).linkFormed (!z.cw.linkKey) h)).settle) ∧
  (∀ (s : State),
    s.cw.linkKey = true ∧ s.cw.held ≠ [] ∧ (s.cw.held.any fun (f : Nat × CwBody) => decide (f.1 = s.get F.CW_RX_SEQ_SEQ + 1)) = false →
    exec .nakTimer s =
      .next ((let a := { s with cw := { s.cw with nak := s.get F.CW_RX_SEQ_SEQ + 1 } }; a.forEach a.pathsUp fun p b => b.sendControl p)).settle) ∧
  (∀ (seq : Nat) (s : State),
    exec (.retransmitTimer seq) s =
      .next ((s.resend seq)).settle) ∧
  (∀ (p : Fin 2) (s : State),
    s.pathState p.val = 2 ∧ s.cw.linkKey = true →
    exec (.controlSendTimer p) s =
      .next ((s.sendControl p.val)).settle) ∧
  (∀ (s : State),
    s.cw.hello = true →
    exec .helloSendTimer s =
      .next ((s.sendHellos)).settle) ∧
  (∀ (s : State),
    s.cw.linkKey = true →
    exec .rekeyDue s =
      .next ((s.startHello)).settle) ∧
  (∀ (s : State),
    s.cw.linkKey = true →
    exec .cwRekey s =
      .next ((s.startHello)).settle) ∧
  (∀ (s : State),
    exec .oldKeyEpochExpiry s =
      .next (({ s with cw := { s.cw with oldEpoch := false, oldKey := 0 } })).settle)

/-- Heartbeats and requests are sent, an authentic witness frame is heeded, contact time-outs and FENCE_N act, a checkpoint, a drain, its cutover and its time-out act, CW_CMD's bits act, extents are copied, a catch-up completes and a handback starts. Where the spec leaves a point open, the effects follow the model's choices of log entries 36, 90, 92, 93, 94, 95, 99, 122 and 124. -/
def Obligations.PairServiceCommandsComplete : Prop :=
  (∀ (s : State),
    s.witnessOn = true →
    exec .heartbeatTimer s =
      .next ((s.witSend 1 0)).settle) ∧
  (∀ (s : State),
    s.witnessOn = true ∧ s.wit.reason ≠ 0 →
    exec .takeoverReqResend s =
      .next ((s.witSend 2 s.wit.reason)).settle) ∧
  (∀ (f : WitFrame) (a : State) (s : State),
    s.witnessOn = true ∧ s.witAccept 0x81 f = (true, a) ∧ a.witEcho f = true →
    exec (.witnessStatusRx f) s =
      .next ((a.heedStatus f)).settle) ∧
  (∀ (f : WitFrame) (scans : List (Nat × Nat × Nat)) (a : State) (s : State),
    s.witnessOn = true ∧ s.witAccept 0x82 f = (true, a) ∧ a.witEcho f = true →
    exec (.witnessGrantRx f scans) s =
      .next ((a.heedGrant f scans)).settle) ∧
  (∀ (f : WitFrame) (a : State) (s : State),
    s.witnessOn = true ∧ s.witAccept 0x83 f = (true, a) ∧ a.witEcho f = true →
    exec (.witnessDenyRx f) s =
      .next ((a.raise Ev.TAKEOVER_DENIED [f.reason])).settle) ∧
  (∀ (f : WitFrame) (a : State) (s : State),
    s.witnessOn = true ∧ s.witAccept 0x84 f = (true, a) ∧ a.witEcho f = true →
    exec (.witnessFenceRx f) s =
      .next ((a.setFence 3)).settle) ∧
  (∀ (s : State),
    s.isSet F.CW_STATUS_WITNESS_CONTACT = true →
    exec .witnessContactTimeout s =
      .next ((let a := (s.put F.CW_STATUS_WITNESS_CONTACT 0).raise Ev.WITNESS_LOST []; a.when (a.mode.serving && a.twinGone) (State.setFence 1))).settle) ∧
  (∀ (s : State),
    s.isSet F.CW_STATUS_TWIN_CONTACT = true →
    exec .twinContactTimeout s =
      .next ((s.loseTwin)).settle) ∧
  (∀ (s : State),
    s.mode ≠ .off →
    exec .fenceNAssert s =
      .next (((s.put F.CW_STATUS_FENCE_N 1).setFence 2)).settle) ∧
  (∀ (s : State),
    exec .fenceNDeassert s =
      .next ((s.put F.CW_STATUS_FENCE_N 0)).settle) ∧
  (∀ (late : Bool) (us : Nat) (s : State),
    s.ckptSides ≠ [] ∧ late = false ∧ s.checkpointWaits = false →
    exec (.checkpointDue late us) s =
      .next ((s.checkpoint false s.ckptSides us)).settle) ∧
  (∀ (s : State),
    exec .cwDrain s =
      .next ((s.drain)).settle) ∧
  (∀ (us : Nat) (s : State),
    s.mode = .drain ∧ s.cw.cutover = 1 ∧ s.drained = true →
    exec (.drainCutoverReady us) s =
      .next ((s.releaseSide s.side us)).settle) ∧
  (∀ (s : State),
    s.mode = .drain ∧ s.cw.cutover = 2 →
    exec .drainReleaseTimeout s =
      .next ((s.abandonDrain)).settle) ∧
  (∀ (s : State),
    exec .cwUnpair s =
      .next ((s.unpairCommand)).settle) ∧
  (∀ (s : State),
    exec .cwReplaceAllow s =
      .next (({ s with cw := { s.cw with allowReplace := true } })).settle) ∧
  (∀ (s : State),
    exec .cwPairAllowNew s =
      .next (({ s with cw := { s.cw with allowNew := true } })).settle) ∧
  (∀ (replace : Bool) (s : State),
    exec (.pairAllowExpiry replace) s =
      .next ((if replace then { s with cw := { s.cw with allowReplace := false } } else { s with cw := { s.cw with allowNew := false } })).settle) ∧
  (∀ (x : Nat) (s : State),
    s.cw.linkKey = true →
    exec (.catchupCopyExtent x) s =
      .next ((s.copyExtent x)).settle) ∧
  (∀ (s : State),
    s.cw.linkKey = true ∧ s.get F.CW_CATCHUP_STATUS_STATE = 2 ∧ s.cw.copyLeft = [] →
    exec .catchupComplete s =
      .next ((let f := s.sendFrame .catchupDone; (({ f.2 with cw := { f.2.cw with doneSeq := f.1 } } : State).put F.CW_CATCHUP_STATUS_STATE 3))).settle) ∧
  (∀ (us : Nat) (s : State),
    s.mode = .takeover ∧ s.get F.CW_CATCHUP_STATUS_STATE = 3 ∧ s.cw.copyDone = true ∧ s.cw.unacked = [] ∧ s.cw.cutover ≠ 2 →
    exec (.handbackStart us) s =
      .next ((let a := { s with cw := { s.cw with sideFence := true, cutover := 1 } }; if a.partnerDrained then a.releaseSide (1 - a.side) us else a)).settle)

/-- A guest request whose checks pass is taken; grants are written, revoked and acknowledged; operations are sent, taken, done and timed out; the Kerup links train, fail, sleep, replay and take credit; the guest's bring-up goes through its steps; registers of the guest are read and written. Where the spec leaves a point open, the effects follow the model's choices of log entries 107, 108, 109, 110, 111, 112, 171, 172 and 173. -/
def Obligations.GuestCommandsComplete : Prop :=
  (∀ (p : Fin 2) (tag : Nat) (handle : Nat) (grant : Nat) (addr : Nat) (sramBad : Bool) (m : State) (s : State),
    m = s.guestMsg p.val 0 1 ∧ m.guestLink p.val = 2 ∧ m.frozenMode = false ∧ tag < 1024 ∧ m.guestReq p.val tag = none ∧ addr % 64 = 0 ∧ addr < 2 ^ 49 ∧ grant < 256 ∧ m.mode.serving = true ∧ m.grantCheck handle grant addr 64 false = 0 ∧ m.guestRange handle grant addr 64 false = 0 →
    exec (.guestRdGran p tag handle grant addr sramBad) s =
      .next (((m.addReq ⟨p.val, tag, some grant, handle⟩).presentRead { src := .guest p.val tag, tenant := (m.addReq ⟨p.val, tag, some grant, handle⟩).get (F.KG_GRANT_W0_TENANT grant), addr := addr, len := 64, entered := (m.addReq ⟨p.val, tag, some grant, handle⟩).now, sram := sramBad })).settle) ∧
  (∀ (p : Fin 2) (tag : Nat) (handle : Nat) (grant : Nat) (addr : Nat) (sramBad : Bool) (m : State) (s : State),
    m = s.guestMsg p.val 0 1 ∧ m.guestLink p.val = 2 ∧ m.frozenMode = false ∧ tag < 1024 ∧ m.guestReq p.val tag = none ∧ addr % 256 = 0 ∧ addr < 2 ^ 49 ∧ grant < 256 ∧ m.mode.serving = true ∧ m.grantCheck handle grant addr 256 false = 0 ∧ m.guestRange handle grant addr 256 false = 0 →
    exec (.guestRdLine p tag handle grant addr sramBad) s =
      .next (((m.addReq ⟨p.val, tag, some grant, handle⟩).presentRead { src := .guest p.val tag, tenant := (m.addReq ⟨p.val, tag, some grant, handle⟩).get (F.KG_GRANT_W0_TENANT grant), addr := addr, len := 256, entered := (m.addReq ⟨p.val, tag, some grant, handle⟩).now, sram := sramBad })).settle) ∧
  (∀ (p : Fin 2) (tag : Nat) (handle : Nat) (grant : Nat) (addr : Nat) (m : State) (s : State),
    m = s.guestMsg p.val 0 1 ∧ m.guestLink p.val = 2 ∧ m.frozenMode = false ∧ tag < 1024 ∧ addr % 256 = 0 ∧ addr < 2 ^ 49 ∧ grant < 256 ∧ m.mode.serving = true ∧ m.grantCheck handle grant addr 256 false = 0 ∧ m.guestRange handle grant addr 256 false = 0 →
    exec (.guestRdHint p tag handle grant addr) s =
      .next ((m.specRead (4 + p.val) (lineOf addr))).settle) ∧
  (∀ (p : Fin 2) (tag : Nat) (handle : Nat) (grant : Nat) (addr : Nat) (mask : BitVec 64) (data : Granule) (sramBad : Bool) (m : State) (b : State) (s : State),
    m = s.guestMsg p.val 1 1 ∧ m.guestLink p.val = 2 ∧ m.frozenMode = false ∧ tag < 1024 ∧ m.guestReq p.val tag = none ∧ addr % 64 = 0 ∧ addr < 2 ^ 49 ∧ grant < 256 ∧ m.mode.serving = true ∧ m.grantCheck handle grant addr 64 true = 0 ∧ m.fenced = false ∧ m.guestRange handle grant addr 64 true = 0 ∧ m.addReq ⟨p.val, tag, some grant, handle⟩ = b →
    exec (.guestWrPtl p tag handle grant addr mask data sramBad) s =
      .next ((b.presentWrite { src := .guest p.val tag, tenant := b.get (F.KG_GRANT_W0_TENANT grant), line := lineOf addr, mask := (mask.setWidth 256) <<< (64 * (addr / 64 % 4)), data := (data.setWidth 2048) <<< (512 * (addr / 64 % 4)), poison := false, readOnly := false, entered := b.now, sram := sramBad })).settle) ∧
  (∀ (p : Fin 2) (tag : Nat) (handle : Nat) (grant : Nat) (addr : Nat) (data : Granule) (sramBad : Bool) (m : State) (b : State) (s : State),
    m = s.guestMsg p.val 1 1 ∧ m.guestLink p.val = 2 ∧ m.frozenMode = false ∧ tag < 1024 ∧ m.guestReq p.val tag = none ∧ addr % 64 = 0 ∧ addr < 2 ^ 49 ∧ grant < 256 ∧ m.mode.serving = true ∧ m.grantCheck handle grant addr 64 true = 0 ∧ m.fenced = false ∧ m.guestRange handle grant addr 64 true = 0 ∧ m.addReq ⟨p.val, tag, some grant, handle⟩ = b →
    exec (.guestWrGran p tag handle grant addr data sramBad) s =
      .next ((b.presentWrite { src := .guest p.val tag, tenant := b.get (F.KG_GRANT_W0_TENANT grant), line := lineOf addr, mask := ((BitVec.allOnes 64).setWidth 256) <<< (64 * (addr / 64 % 4)), data := (data.setWidth 2048) <<< (512 * (addr / 64 % 4)), poison := false, readOnly := false, entered := b.now, sram := sramBad })).settle) ∧
  (∀ (p : Fin 2) (tag : Nat) (handle : Nat) (grant : Nat) (addr : Nat) (data : LineData) (m : State) (b : State) (s : State),
    m = s.guestMsg p.val 1 4 ∧ m.guestLink p.val = 2 ∧ m.frozenMode = false ∧ tag < 1024 ∧ m.guestReq p.val tag = none ∧ addr % 256 = 0 ∧ addr < 2 ^ 49 ∧ grant < 256 ∧ m.mode.serving = true ∧ m.grantCheck handle grant addr 256 true = 0 ∧ m.fenced = false ∧ m.guestRange handle grant addr 256 true = 0 ∧ m.addReq ⟨p.val, tag, some grant, handle⟩ = b →
    exec (.guestWrLine p tag handle grant addr data) s =
      .next ((b.presentWrite { src := .guest p.val tag, tenant := b.get (F.KG_GRANT_W0_TENANT grant), line := lineOf addr, mask := fullMask, data := data, poison := false, readOnly := false, entered := b.now })).settle) ∧
  (∀ (q : Nat) (seq : Nat) (o : OpRec) (s : State),
    s.mayStart q seq 0x30 = some o ∧ s.guestServes q = true ∧ dbits o.desc 12 0 8 ≤ recByte s.guestRecord 54 →
    exec (.guest q seq) s =
      .next ((let b := s.setOp q { o with phase := .running }; { b with kg := { b.kg with ops := b.kg.ops ++ [({ q := q, seq := seq, queue := dbits o.desc 12 0 8 } : GuestOp)] } })).settle) ∧
  (∀ (q : Nat) (o : GuestOp) (s : State),
    (s.kg.ops.find? fun o => decide (o.q = q) && !o.sent) = some o ∧ s.guestState = 5 ∧ 2 ≤ s.guestLink (o.queue % 2) ∧ (s.kg.ops.filter fun x => x.sent).length < recHalf s.guestRecord 56 ∧ s.frozenMode = false →
    exec (.gqSubmitDispatch q) s =
      .next ((s.submitGuest o)).settle) ∧
  (∀ (p : Fin 2) (handle : Nat) (m : State) (o : GuestOp) (r : OpRec) (s : State),
    m = s.guestMsg p.val 2 1 ∧ m.liveHandle handle = some o ∧ m.guestLink p.val = 2 ∧ o.queue % 2 = p.val ∧ m.frozenMode = false ∧ ({ m with kg := { m.kg with ops := m.kg.ops.map fun x => if x.sent ∧ x.handle = handle then { x with taken := true } else x } } : State).op? o.q o.seq = some r →
    exec (.gqTakenRx p handle) s =
      .next ((({ m with kg := { m.kg with ops := m.kg.ops.map fun x => if x.sent ∧ x.handle = handle then { x with taken := true } else x } } : State).setOp o.q { r with phase := .relayed })).settle) ∧
  (∀ (p : Fin 2) (handle : Nat) (code : Nat) (ra : Nat) (rb : Nat) (m : State) (o : GuestOp) (s : State),
    m = s.guestMsg p.val 2 1 ∧ (m.kg.ops.find? fun o => o.sent && decide (o.handle = handle)) = some o ∧ m.guestLink p.val = 2 ∧ o.queue % 2 = p.val ∧ m.frozenMode = false ∧ o.aborted = false ∧ code = 0 →
    exec (.gqDoneRx p handle code ra rb) s =
      .next ((m.endGuestOp o St.SUCCESS 0 (ra % 16) (rb % 256))).settle) ∧
  (∀ (handle : Nat) (o : GuestOp) (s : State),
    (s.kg.ops.find? fun o => o.sent && decide (o.handle = handle)) = some o ∧ s.frozenMode = false →
    exec (.gqTimeout handle) s =
      .next ((((s.endGuestOp o St.GUEST_ERROR 0xFF 0 0).bump F.KG_GQ_TIMEOUTS_COUNT 1).raiseLimited Ev.GUEST_OP_TIMEOUT 0 [])).settle) ∧
  (∀ (grant : Fin 256) (word : Fin 3) (value : BitVec 32) (s : State),
    exec (.kgGrantWrite grant word value) s =
      .next ((s.grantWrite grant.val word.val value.toNat)).settle) ∧
  (∀ (grant : Fin 256) (s : State),
    s.isSet (F.KG_GRANT_W0_VALID grant.val) = true →
    exec (.grantRevoke grant) s =
      .next ((s.grantWrite grant.val 0 0)).settle) ∧
  (∀ (grant : Fin 256) (s : State),
    s.isSet (F.KG_GRANT_W3_REVOKING grant.val) = true ∧ s.get (F.KG_GRANT_W3_OUTSTANDING grant.val) = 0 ∧ s.kg.revokeSent.contains grant.val = false ∧ s.frozenMode = false ∧ 2 ≤ s.guestLink s.guestPort →
    exec (.grantRevokedSend grant) s =
      .next ((({ s with kg := { s.kg with revokeSent := s.kg.revokeSent ++ [grant.val] } }).kerupSend s.guestPort (.revoked grant.val))).settle) ∧
  (∀ (p : Fin 2) (grant : Fin 256) (m : State) (s : State),
    m = s.guestMsg p.val 2 1 ∧ m.guestLink p.val = 2 ∧ m.kg.revokeSent.contains grant.val = true ∧ m.frozenMode = false →
    exec (.grantAckRx p grant) s =
      .next ((m.endRevocation grant.val 0)).settle) ∧
  (∀ (grant : Fin 256) (s : State),
    s.kg.revokeSent.contains grant.val = true ∧ s.frozenMode = false →
    exec (.grantAckTimeout grant) s =
      .next (((s.raise Ev.GUEST_REVOKE_LATE []).guestRestart 7)).settle) ∧
  (∀ (k : Fin 13) (width : Nat) (repaired : Nat) (spares : Nat) (a b : State) (s : State),
    s.linkRuns k.val = true ∧ k.val < 10 ∧ repaired ≤ Sparse.get 0 k.val s.rv.units.lanes ∧ fullWidth k.val ≤ width ∧ (((s.put (F.KG_MOD_STATUS_STATE k.val) 2).put (F.KG_MOD_STATUS_WIDTH k.val) width).put (F.KG_MOD_STATUS_REPAIRED k.val) repaired).put (F.KG_MOD_STATUS_SPARES_LEFT k.val) spares = a ∧ (if s.kg.trained.contains k.val then a.bump (F.KG_MOD_RETRAINS_COUNT k.val) 1 else { a with kg := { a.kg with trained := a.kg.trained ++ [k.val] } }) = b →
    exec (.kerupLinkUp k width repaired spares) s =
      .next ((let c := { b with rv := { b.rv with units := { b.rv.units with lanes := Sparse.set 0 k.val (max (Sparse.get 0 k.val s.rv.units.lanes) repaired) b.rv.units.lanes } } }; (((c : State).endCond (Ev.KERUP_WIDTH_DEGRADED k.val)).endCond (Ev.KERUP_LINK_DOWN k.val)).retryLines k.val)).settle) ∧
  (∀ (k : Fin 13) (s : State),
    2 ≤ s.get (F.KG_MOD_STATUS_STATE k.val) ∧ k.val ≠ 10 ∧ k.val ≠ 11 →
    exec (.kerupLinkDown k) s =
      .next ((((s.put (F.KG_MOD_STATUS_STATE k.val) 0).put (F.KG_MOD_STATUS_WIDTH k.val) 0).raise (Ev.KERUP_LINK_DOWN k.val) [])).settle) ∧
  (∀ (k : Fin 13) (s : State),
    2 ≤ s.get (F.KG_MOD_STATUS_STATE k.val) ∧ (k.val = 10 ∨ k.val = 11) →
    exec (.kerupLinkDown k) s =
      .next ((let a := ((s.put (F.KG_MOD_STATUS_STATE k.val) 0).put (F.KG_MOD_STATUS_WIDTH k.val) 0).raise (Ev.KERUP_LINK_DOWN k.val) []; (a.dropGuestRequests fun x => decide (x = k.val - 10)).endGuestOps (fun o => decide (o.queue % 2 = k.val - 10)) 0xFE)).settle) ∧
  (∀ (p : Fin 2) (s : State),
    s.guestLink p.val = 2 ∧ s.get F.KG_CTRL_L1_IDLE_US ≠ 0 ∧ s.kg.held = [] →
    exec (.kerupL1Entry p) s =
      .next ((s.put (F.KG_MOD_STATUS_STATE (10 + p.val)) 3)).settle) ∧
  (∀ (p : Fin 2) (s : State),
    s.guestLink p.val = 3 →
    exec (.kerupL1Exit p) s =
      .next (((s.put (F.KG_MOD_STATUS_STATE (10 + p.val)) 2).kerupPump p.val)).settle) ∧
  (∀ (k : Fin 13) (ts : List Nat) (s : State),
    2 ≤ s.get (F.KG_MOD_STATUS_STATE k.val) ∧ ((Sparse.get [] k.val s.kg.replays).filter fun t => decide (s.now < t + secFc 1)) ++ [s.now] = ts →
    exec (.kerupFlitReplay k) s =
      .next ((let a := (s.bump (F.KG_MOD_CRC_ERRORS_COUNT k.val) 1).bump (F.KG_MOD_REPLAYS_COUNT k.val) 1; let b := ({ a with kg := { a.kg with replays := Sparse.set [] k.val ts a.kg.replays } } : State); b.when (decide (ts.length = 1001)) (State.raise (Ev.KERUP_REPLAY k.val) []))).settle) ∧
  (∀ (p : Fin 2) (idle : Bool) (req : Nat) (wdat : Nat) (cmp : Nat) (rdat : Nat) (bad : List Nat) (s : State),
    s.guestLink p.val = 2 ∧ idle = true →
    exec (.kerupCreditReturn p idle req wdat cmp rdat bad) s =
      .next ((((s.forEach [(0, req), (1, wdat), (2, cmp), (3, rdat)] fun (e : Nat × Nat) a => { a with kg := { a.kg with credits := Sparse.set 0 (p.val * 4 + e.1) (Sparse.get 0 (p.val * 4 + e.1) a.kg.credits + e.2) a.kg.credits } }).kerupPump p.val).badMessages p.val bad)).settle) ∧
  (∀ (s : State),
    s.kg.step = 1 ∧ s.guestState = 2 ∧ s.pw.lost.contains 5 = false ∧ s.pw.lost.contains 28 = false →
    exec .guestRefclkStable s =
      .next (((({ s with kg := { s.kg with step := 2 } }).emit (.guestReset false)).put F.KG_GUEST_STATUS_STATE 3)).settle) ∧
  (∀ (s : State),
    s.kg.step = 2 ∧ s.guestState = 3 →
    exec .gReadyAssert s =
      .next ((({ s with kg := { s.kg with step := 3 } }).forEach [10, 11] fun k a => a.put (F.KG_MOD_STATUS_STATE k) 1)).settle) ∧
  (∀ (s : State),
    s.kg.step ≠ 0 ∧ s.frozenMode = false →
    exec .guestBringupTimeout s =
      .next ((s.guestStepFailed s.stepCause)).settle) ∧
  (∀ (s : State),
    s.frozenMode = false →
    exec .guestReset s =
      .next ((s.guestRestart 8)).settle) ∧
  (∀ (service : Bool) (s : State),
    s.frozenMode = false →
    exec (.guestServiceWrite service) s =
      .next ((s.guestService service)).settle) ∧
  (∀ (s : State),
    s.guestRuns = true →
    exec .gErrNfAssert s =
      .next ((s.raise Ev.GUEST_NONFATAL [])).settle) ∧
  (∀ (s : State),
    s.guestRuns = true →
    exec .gErrFAssert s =
      .next ((s.raise Ev.GUEST_FATAL [])).settle) ∧
  (∀ (p : Fin 2) (pattern : BitVec 64) (m : State) (s : State),
    m = s.guestMsg p.val 2 1 ∧ Sparse.get none p.val m.kg.pattern = some pattern.toNat ∧ m.kg.step = 5 ∧ m.guestLink p.val = 2 →
    exec (.echoRspRx p pattern) s =
      .next ((let n := Sparse.get 0 p.val m.kg.echoes + 1; let a := { m with kg := { m.kg with echoes := Sparse.set 0 p.val n m.kg.echoes, pattern := Sparse.set none p.val none m.kg.pattern } }; if n < 4096 then a.sendEcho p.val else a.guestPassed)).settle) ∧
  (∀ (off : Nat) (write : Bool) (value : BitVec 32) (s : State),
    exec (.kgGregAccess off write value) s =
      .next ((s.gregStart off write value.toNat false)).settle) ∧
  (∀ (off : Nat) (x : GuestAccess) (s : State),
    (s.kg.accesses.find? fun a => decide (a.off = off % 0x10000 / 4 * 4)) = some x →
    exec (.kgGregTimeout off) s =
      .next (((s.endAccess x 0xFFFFFFFF).guestProtocol)).settle) ∧
  (∀ (p : Fin 2) (tag : Nat) (value : BitVec 32) (m : State) (x : GuestAccess) (s : State),
    m = s.guestMsg p.val 2 1 ∧ m.guestLink p.val = 2 ∧ p.val = 0 ∧ 68 ≤ tag ∧ m.gregAccess tag = some x ∧ x.write = false →
    exec (.guestRegDataRx p tag value) s =
      .next ((m.endAccess x value.toNat)).settle) ∧
  (∀ (p : Fin 2) (tag : Nat) (value : BitVec 32) (m : State) (a : State) (s : State),
    m = s.guestMsg p.val 2 1 ∧ m.guestLink p.val = 2 ∧ p.val = 0 ∧ tag < 68 ∧ m.kg.step = 4 ∧ ({ m with kg := { m.kg with words := Sparse.set none tag (some value.toNat) m.kg.words } } : State) = a →
    exec (.guestRegDataRx p tag value) s =
      .next ((if a.kg.words.length = 68 then a.guestIdentity else a)).settle) ∧
  (∀ (p : Fin 2) (tag : Nat) (m : State) (x : GuestAccess) (s : State),
    m = s.guestMsg p.val 2 1 ∧ m.gregAccess tag = some x ∧ m.guestLink p.val = 2 ∧ p.val = 0 ∧ x.write = true →
    exec (.guestCmpOkRx p tag) s =
      .next ((m.endAccess x 0)).settle) ∧
  (∀ (p : Fin 2) (tag : Nat) (code : Nat) (m : State) (x : GuestAccess) (s : State),
    m = s.guestMsg p.val 2 1 ∧ m.guestLink p.val = 2 ∧ p.val = 0 ∧ code ≠ 0 ∧ 68 ≤ tag ∧ m.gregAccess tag = some x →
    exec (.guestCmpErrRx p tag code) s =
      .next ((let d := m.draw 32; d.2.endAccess x d.1)).settle)

/-- Core faults, the watchdog and uncorrectable SRAM words restart the Reeve, a boot selects its slot, a trial is confirmed or times out, the embedded flash takes its unlock bytes and operands and its operations end, a read answers, the readout erase ends, and JTAG acts at level 0. Where the spec leaves a point open, the effects follow the model's choices of log entries 113, 114, 115 and 123. -/
def Obligations.ReeveCommandsComplete : Prop :=
  (∀ (failed : List (Fin 3)) (s : State),
    s.reeveUp = true ∧ s.mode ≠ .dormant ∧ s.isSet F.RV_CORES_DEGRADED = false →
    exec (.reeveLockstepFail failed) s =
      .next (((s.raise Ev.REEVE_LOCKSTEP []).reeveReset.coreBist (failed.map fun c => c.val))).settle) ∧
  (∀ (s : State),
    s.pw.firmware = true →
    exec .reeveWatchdogExpiry s =
      .next (((s.raise Ev.REEVE_WATCHDOG []).reeveReset)).settle) ∧
  (∀ (value : BitVec 32) (corrected : Nat) (s : State),
    exec (.rvWdtKick value corrected) s =
      .next ((s.watchdogKick.bump F.RV_SRAM_CORR_COUNT corrected)).settle) ∧
  (∀ (addr : Nat) (s : State),
    s.reeveUp = true →
    exec (.reeveSramUncorrectable addr) s =
      .next ((((s.emit (.busError addr)).raise Ev.REEVE_SRAM_UNCORRECTABLE []).reeveReset)).settle) ∧
  (∀ (checks : List SlotCheck) (s : State),
    s.mode ≠ .off ∧ s.mode ≠ .dormant ∧ s.reeveUp = false ∧ s.rv.erasing = false ∧ ([0, 1, 2].all fun c => decide (s.core c = 3)) = false →
    exec (.reeveBoot checks) s =
      .next ((s.reeveBoot checks)).settle) ∧
  (∀ (s : State),
    s.pw.firmware = true ∧ s.rv.trial = true ∧ s.rv.trialStarted = true →
    exec .fwTrialConfirm s =
      .next ((let k := s.rv.trialSlot; let n := max (s.get F.ID_FW_STATUS_SECURITY_COUNT) (hdrSecurity (s.slotHeader k)); ((((({ s with rv := { s.rv with active := k, trial := false, trialStarted := false } } : State).put F.ID_FW_STATUS_SECURITY_COUNT n).put F.ID_FW_STATUS_ACTIVE_SLOT k).put F.ID_FW_STATUS_TRIAL 0).raise Ev.FW_UPDATE_DONE []))).settle) ∧
  (∀ (s : State),
    s.pw.firmware = true ∧ s.rv.trial = true ∧ s.rv.trialStarted = true →
    exec .fwTrialTimeout s =
      .next ((s.reeveReset)).settle) ∧
  (∀ (bank : Fin 4) (off : Nat) (value : Byte) (s : State),
    s.bankBusy bank.val = false ∧ (s.flashBank bank.val).step = 0 ∧ off = 0xA54 ∧ value = 0x4B →
    exec (.flashUnlockWrite bank off value) s =
      .next ((s.setBank bank.val { s.flashBank bank.val with step := 1 })).settle) ∧
  (∀ (bank : Fin 4) (off : Nat) (value : Byte) (s : State),
    s.bankBusy bank.val = false ∧ (s.flashBank bank.val).step = 1 ∧ off = 0x5AB ∧ value = 0xB4 →
    exec (.flashUnlockWrite bank off value) s =
      .next ((s.setBank bank.val { s.flashBank bank.val with step := 2 })).settle) ∧
  (∀ (addr : Nat) (value : BitVec 32) (s : State),
    s.bankBusy (addr % 2 ^ 26 / 2 ^ 24) = false ∧ (s.flashBank (addr % 2 ^ 26 / 2 ^ 24)).step = 3 ∧ (s.flashBank (addr % 2 ^ 26 / 2 ^ 24)).cmd = 0xA0 ∧ (s.flashBank (addr % 2 ^ 26 / 2 ^ 24)).operands = [] ∧ addr % 2 ^ 26 % 16 = 0 →
    exec (.programWord addr value) s =
      .next ((s.setBank (addr % 2 ^ 26 / 2 ^ 24) { s.flashBank (addr % 2 ^ 26 / 2 ^ 24) with operands := [(addr % 2 ^ 26, value.toNat)] })).settle) ∧
  (∀ (addr : Nat) (value : BitVec 32) (s : State),
    s.bankBusy (addr % 2 ^ 26 / 2 ^ 24) = false ∧ (s.flashBank (addr % 2 ^ 26 / 2 ^ 24)).step = 3 ∧ (s.flashBank (addr % 2 ^ 26 / 2 ^ 24)).cmd = 0xA5 ∧ (s.flashBank (addr % 2 ^ 26 / 2 ^ 24)).operands = [] ∧ addr % 2 ^ 26 % 512 = 0 →
    exec (.programRow addr value) s =
      .next ((s.setBank (addr % 2 ^ 26 / 2 ^ 24) { s.flashBank (addr % 2 ^ 26 / 2 ^ 24) with operands := [(addr % 2 ^ 26, value.toNat)] })).settle) ∧
  (∀ (addr : Nat) (value : BitVec 32) (s : State),
    s.bankBusy (addr % 2 ^ 26 / 2 ^ 24) = false ∧ (s.flashBank (addr % 2 ^ 26 / 2 ^ 24)).step = 3 ∧ (s.flashBank (addr % 2 ^ 26 / 2 ^ 24)).cmd = 0x20 ∧ addr % 2 ^ 26 % 4 = 0 ∧ value.toNat = 0x20 →
    exec (.eraseSector addr value) s =
      .next ((s.startFlashOp (addr % 2 ^ 26 / 2 ^ 24) 3 (addr % 2 ^ 26 / 16 / 256 * 256) 256 none)).settle) ∧
  (∀ (addr : Nat) (value : BitVec 32) (s : State),
    s.bankBusy (addr % 2 ^ 26 / 2 ^ 24) = false ∧ (s.flashBank (addr % 2 ^ 26 / 2 ^ 24)).step = 3 ∧ (s.flashBank (addr % 2 ^ 26 / 2 ^ 24)).cmd = 0x28 ∧ addr % 2 ^ 26 % 4 = 0 ∧ value.toNat = 0x28 →
    exec (.eraseBlock addr value) s =
      .next ((s.startFlashOp (addr % 2 ^ 26 / 2 ^ 24) 3 (addr % 2 ^ 26 / 16 / 4096 * 4096) 4096 none)).settle) ∧
  (∀ (bank : Fin 4) (s : State),
    s.bankBusy bank.val = false ∧ (s.flashBank bank.val).step = 2 →
    exec (.flashClearStatus bank) s =
      .next (((s.setBank bank.val { s.flashBank bank.val with step := 0 }).clearErrors bank.val)).settle) ∧
  (∀ (bank : Fin 4) (s : State),
    s.bankBusy bank.val = false ∧ (s.flashBank bank.val).step ≠ 0 →
    exec (.flashReset bank) s =
      .next ((s.setBank bank.val { s.flashBank bank.val with step := 0, operands := [] })).settle) ∧
  (∀ (bank : Fin 4) (ok : Bool) (first n : Nat) (b : State) (s : State),
    (s.flashBank bank.val).busy = some (first, n, none) ∧ ok = true ∧ ((s.setBank bank.val { s.flashBank bank.val with busy := none }).touchSlots first n).eraseWords first (first + n) = b →
    exec (.flashOpDone bank ok) s =
      .next ((b.put (F.EFL_BANK_STATUS_STATUS bank.val) (b.get (F.EFL_BANK_STATUS_STATUS bank.val) % 2 ^ 28 ||| 0))).settle) ∧
  (∀ (addr : Nat) (ecc : EccVerdict) (s : State),
    exec (.flashWindowRead addr ecc) s =
      .next ((s.flashRead addr ecc)).settle) ∧
  (∀ (s : State),
    exec .armExpiry s =
      .next ((s.setArm none)).settle) ∧
  (∀ (s : State),
    s.rv.erasing = true →
    exec .readoutEraseDone s =
      .next ((let a := ({ s with rv := { s.rv with erasing := false, banks := [] } } : State).eraseEmbedded; let b := a.forEach (List.range 4) fun b c => c.put (F.EFL_BANK_STATUS_STATUS b) (b * 2 ^ 22); (b.raise Ev.READOUT_ERASE_DONE []).reeveReset)).settle) ∧
  (∀ (act : JtagAct) (addr : Nat) (ecc : EccVerdict) (s : State),
    s.get F.RDL_STATUS_LEVEL = 0 ∧ s.mode ≠ .off ∧ act = .read addr ecc →
    exec (.jtagAccess act) s =
      .next ((s.flashRead addr ecc)).settle) ∧
  (∀ (act : JtagAct) (on : Bool) (s : State),
    s.get F.RDL_STATUS_LEVEL = 0 ∧ s.mode ≠ .off ∧ act = .testMode on →
    exec (.jtagAccess act) s =
      .next (({ s with rv := { s.rv with testMode := on } })).settle) ∧
  (∀ (act : JtagAct) (s : State),
    s.get F.RDL_STATUS_LEVEL = 0 ∧ s.mode ≠ .off ∧ act = .raise_ ∧ s.get F.RDL_STATUS_RAISES < 8 →
    exec (.jtagAccess act) s =
      .next ((s.blowRaise)).settle)

/-- MCTP and PLDM requests (R494 to R499) answer and act as the tables say; the answers' codes are the model's choice (PRESUMED, log entry 40), and the version is a free value. Where the spec leaves a point open, the effects follow the model's choices of log entries 40 and 102. -/
def Obligations.PldmCommandsComplete : Prop :=
  (∀ (s : State),
    s.mode = .dormant →
    exec .bmcAddressMatch s =
      .next ((s.wakeDormant)).settle) ∧
  (∀ (setEid : Option Nat) (s : State),
    s.bmcPort = true →
    exec (.mctpControlMsg setEid) s =
      .next ((let a : State := match setEid with | some e => { s with rv := { s.rv with eid := e % 256 } } | none => s; a.emit (.mctp [a.rv.eid]))).settle) ∧
  (∀ (s : State),
    s.pldmTakes 0 = true →
    exec .getTid s =
      .next ((s.emit (.pldm 0 0x02 Pldm.ok [0]))).settle) ∧
  (∀ (s : State),
    s.pldmTakes 0 = true →
    exec .getPldmVersion s =
      .next (((s.draw 32).2.emit (.pldm 0 0x03 Pldm.ok [(s.draw 32).1]))).settle) ∧
  (∀ (s : State),
    s.pldmTakes 0 = true →
    exec .getPldmTypes s =
      .next ((s.emit (.pldm 0 0x04 Pldm.ok s.pldmTypes))).settle) ∧
  (∀ (typ : Nat) (s : State),
    s.pldmTakes 0 = true ∧ s.pldmTypes.contains typ = true →
    exec (.getPldmCommands typ) s =
      .next ((s.emit (.pldm 0 0x05 Pldm.ok (pldmCommands typ)))).settle) ∧
  (∀ (s : State),
    s.pldmTakes 2 = true →
    exec .getPdrRepositoryInfo s =
      .next ((s.emit (.pldm 2 0x50 Pldm.ok [numericSensors + 3]))).settle) ∧
  (∀ (n : Nat) (s : State),
    s.pldmTakes 2 = true ∧ n < numericSensors + 3 →
    exec (.getPdr n) s =
      .next ((s.emit (.pldm 2 0x51 Pldm.ok (if n < numericSensors then [0, n] else [1, n - numericSensors])))).settle) ∧
  (∀ (sensor : Nat) (s : State),
    s.pldmTakes 2 = true ∧ sensor < numericSensors →
    exec (.getSensorReading sensor) s =
      .next ((s.emit (.pldm 2 0x11 Pldm.ok [flag (s.rv.sensorsOff.contains sensor), s.sensorValue sensor]))).settle) ∧
  (∀ (sensor : Fin 3) (s : State),
    s.pldmTakes 2 = true →
    exec (.getStateSensorReadings sensor) s =
      .next ((s.emit (.pldm 2 0x21 Pldm.ok [s.stateSensor sensor.val]))).settle) ∧
  (∀ (sensor : Nat) (on : Bool) (s : State),
    s.pldmTakes 2 = true ∧ sensor < numericSensors →
    exec (.setNumericSensorEnable sensor on) s =
      .next ((let rest := s.rv.sensorsOff.filter fun x => decide (x ≠ sensor); ({ s with rv := { s.rv with sensorsOff := if on then rest else insertAsc sensor rest } } : State).emit (.pldm 2 0x10 Pldm.ok []))).settle) ∧
  (∀ (eid : Option Nat) (s : State),
    s.pldmTakes 2 = true →
    exec (.setEventReceiver eid) s =
      .next ((({ s with rv := { s.rv with receiver := eid, events := if eid.isNone then [] else s.rv.events } } : State).emit (.pldm 2 0x04 Pldm.ok []))).settle) ∧
  (∀ (s : State),
    s.pldmTakes 2 = true →
    exec .pollForPlatformEventMessage s =
      .next ((({ s with rv := { s.rv with events := s.rv.events.drop 1 } } : State).emit (.pldm 2 0x0B Pldm.ok (s.rv.events.take 1)))).settle) ∧
  (∀ (s : State),
    s.pldmTakes 5 = true →
    exec .queryDeviceIdentifiers s =
      .next ((s.emit (.pldm 5 0x01 Pldm.ok [s.get F.ID_DEVICE_VENDOR_ID, s.get F.ID_DEVICE_DEVICE_ID, s.serial]))).settle) ∧
  (∀ (s : State),
    s.pldmTakes 5 = true →
    exec .getFirmwareParameters s =
      .next ((s.emit (.pldm 5 0x02 Pldm.ok [s.get F.ID_FW_VERSION_VERSION, if s.slotValid (s.updateSlot 1) then hdrVersion (s.slotHeader (s.updateSlot 1)) else 0, if s.rv.config = 0 then 0 else hdrVersion (s.slotHeader s.rv.config)]))).settle) ∧
  (∀ (s : State),
    s.pldmTakes 5 = true ∧ s.rv.update.st = 0 ∧ s.rv.trial = false ∧ s.rv.arm = none ∧ s.mode ≠ .save ∧ s.mode ≠ .restore →
    exec .requestUpdate s =
      .next (((s.setUpdate { st := 1 }).emit (.pldm 5 0x10 Pldm.ok []))).settle) ∧
  (∀ (s : State),
    s.pldmTakes 5 = true ∧ s.rv.update.st = 1 →
    exec .passComponentTable s =
      .next (((s.setUpdate { s.rv.update with st := 2 }).emit (.pldm 5 0x13 Pldm.ok []))).settle) ∧
  (∀ (comp : Fin 3) (size : Nat) (a : State) (s : State),
    s.pldmTakes 5 = true ∧ (s.rv.update.st = 2 ∨ s.rv.update.st = 5) ∧ comp.val = 1 ∧ size ≤ slotLen (s.updateSlot 1) * 16 ∧ (((s.eraseSlot (s.updateSlot 1)).setUpdate { s.rv.update with st := 3, comp := 1, size := size, got := 0, good := false }).emit (.pldm 5 0x14 Pldm.ok [])) = a →
    exec (.updateComponent comp size) s =
      .next ((a.requestData)).settle) ∧
  (∀ (off : Nat) (bytes : List Byte) (s : State),
    s.bmcPort = true ∧ s.rv.update.st = 3 ∧ off = s.rv.update.got ∧ 1 ≤ bytes.length ∧ bytes.length ≤ 1024 ∧ off + bytes.length ≤ s.rv.update.size →
    exec (.firmwareDataRx off bytes) s =
      .next (((((s.programChunk (s.updateSlot s.rv.update.comp) off bytes).setUpdate { s.rv.update with got := off + bytes.length })).requestData)).settle) ∧
  (∀ (check : SlotCheck) (r : Bool × State) (s : State),
    s.bmcPort = true ∧ s.rv.update.st = 3 ∧ s.rv.update.size ≤ s.rv.update.got ∧ ({ s with rv := { s.rv with checks := Sparse.set {} (s.updateSlot s.rv.update.comp) check s.rv.checks } } : State).verifyImage (s.updateSlot s.rv.update.comp) = r ∧ r.1 = true →
    exec (.transferComplete check) s =
      .next (((r.2.setUpdate { s.rv.update with st := 4, good := true }).emit (.pldm 5 0x16 Pldm.ok []))).settle) ∧
  (∀ (s : State),
    s.bmcPort = true ∧ s.rv.update.st = 4 →
    exec .verifyComplete s =
      .next ((let a := s.emit (.pldm 5 0x17 Pldm.ok [flag (!s.rv.update.good)]); if s.rv.update.good then a else a.setUpdate { s.rv.update with st := 2 })).settle) ∧
  (∀ (s : State),
    s.bmcPort = true ∧ s.rv.update.st = 4 ∧ s.rv.update.good = true →
    exec .applyComplete s =
      .next ((let a : State := if s.rv.update.comp = 2 then { s with rv := { s.rv with cfgFirst := s.updateSlot 2 } } else s; ((a.setUpdate { s.rv.update with st := 5, fw := s.rv.update.fw || decide (s.rv.update.comp = 1) }).emit (.pldm 5 0x18 Pldm.ok [0])))).settle) ∧
  (∀ (s : State),
    s.pldmTakes 5 = true ∧ s.rv.update.st = 5 ∧ s.rv.update.fw = false →
    exec .activateFirmware s =
      .next ((s.endUpdate.emit (.pldm 5 0x1A Pldm.ok [0]))).settle) ∧
  (∀ (b : State) (s : State),
    s.pldmTakes 5 = true ∧ s.rv.update.st = 5 ∧ s.rv.update.fw = true ∧ s.rv.recovery = false ∧ s.endUpdate = b →
    exec .activateFirmware s =
      .next (((({ b with rv := { b.rv with trialSlot := s.updateSlot 1, trial := true, trialStarted := false } } : State).setUpdate { activate := true }).emit (.pldm 5 0x1A Pldm.ok [2]))).settle) ∧
  (∀ (s : State),
    s.pldmTakes 5 = true →
    exec .getStatus s =
      .next ((s.emit (.pldm 5 0x1B Pldm.ok [s.rv.update.st, s.rv.update.comp, s.rv.update.got]))).settle) ∧
  (∀ (s : State),
    s.pldmTakes 5 = true ∧ (s.rv.update.st = 3 ∨ s.rv.update.st = 4) →
    exec .cancelUpdateComponent s =
      .next (((({ s with rv := { s.rv with checks := Sparse.set {} (s.updateSlot s.rv.update.comp) {} s.rv.checks } } : State).setUpdate { s.rv.update with st := 2, good := false }).emit (.pldm 5 0x1C Pldm.ok []))).settle) ∧
  (∀ (s : State),
    s.pldmTakes 5 = true ∧ s.rv.update.st ≠ 0 →
    exec .cancelUpdate s =
      .next (((State.endUpdate (if s.rv.update.st = 3 ∨ s.rv.update.st = 4 then { s with rv := { s.rv with checks := Sparse.set {} (s.updateSlot s.rv.update.comp) {} s.rv.checks } } else s)).emit (.pldm 5 0x1D Pldm.ok []))).settle) ∧
  (∀ (typ : Nat) (cmd : Nat) (s : State),
    s.bmcPort = true →
    exec (.pldmUnsupported typ cmd) s =
      .next ((s.emit (.pldm typ cmd Pldm.unsupported []))).settle)

/-- Where a transport is up, each request of Table 14.10 is answered, and sessions are opened, finished, kept and ended. Where the spec leaves a point open, the effects follow the model's choices of log entry 104. -/
def Obligations.SpdmCommandsComplete : Prop :=
  (∀ (t : Transport) (s : State),
    s.spdmUp t = true →
    exec (.spdmGetVersion t) s =
      .next ((s.emit (.spdm t (.version [0x11, 0x12])))).settle) ∧
  (∀ (t : Transport) (s : State),
    s.spdmUp t = true →
    exec (.spdmGetCapabilities t) s =
      .next ((s.emit (.spdm t .capabilities))).settle) ∧
  (∀ (t : Transport) (s : State),
    s.spdmUp t = true →
    exec (.spdmNegotiateAlgorithms t) s =
      .next ((s.emit (.spdm t .algorithms))).settle) ∧
  (∀ (t : Transport) (s : State),
    s.spdmUp t = true →
    exec (.spdmGetDigests t) s =
      .next ((s.emit (.spdm t .digests))).settle) ∧
  (∀ (t : Transport) (slot : Nat) (off : Nat) (len : Nat) (s : State),
    s.spdmUp t = true ∧ slot = 0 →
    exec (.spdmGetCertificate t slot off len) s =
      .next ((s.emit (.spdm t (.certificate off len)))).settle) ∧
  (∀ (t : Transport) (slot : Nat) (s : State),
    s.spdmUp t = true ∧ slot = 0 →
    exec (.spdmChallenge t slot) s =
      .next ((s.emit (.spdm t .challengeAuth))).settle) ∧
  (∀ (t : Transport) (index : Nat) (s : State),
    s.spdmUp t = true →
    exec (.spdmGetMeasurements t index) s =
      .next ((s.emit (.spdm t (s.measurements index)))).settle) ∧
  (∀ (t : Transport) (s : State),
    s.spdmUp t = true ∧ s.rv.sessions.length < 8 →
    exec (.spdmKeyExchange t) s =
      .next ((({ s with rv := { s.rv with sessions := s.rv.sessions ++ [{ id := s.rv.lastSession + 1, transport := t, secured := false }], lastSession := s.rv.lastSession + 1 } } : State).emit (.spdm t (.keyExchange (s.rv.lastSession + 1))))).settle) ∧
  (∀ (t : Transport) (session : Nat) (ok : Bool) (s : State),
    s.spdmUp t = true ∧ s.sessionOpen session = true ∧ ok = true →
    exec (.spdmFinish t session ok) s =
      .next ((({ s with rv := { s.rv with sessions := s.rv.sessions.map fun e => if e.id = session then { e with secured := true } else e } } : State).emit (.spdm t (.finish session)))).settle) ∧
  (∀ (t : Transport) (session : Nat) (ok : Bool) (s : State),
    s.spdmUp t = true ∧ s.sessionOpen session = true ∧ ok = true →
    exec (.spdmHeartbeat t session ok) s =
      .next ((s.emit (.spdm t (.heartbeat session)))).settle) ∧
  (∀ (t : Transport) (session : Nat) (ok : Bool) (s : State),
    s.spdmUp t = true ∧ s.sessionOpen session = true ∧ ok = true →
    exec (.spdmEndSession t session ok) s =
      .next (((s.endSession session).emit (.spdm t (.ended session)))).settle)

/-- A message that waits on its path, that the path may carry and that the mode takes gets its status and body and changes what its type changes; an operation and a mailbox request are handed to the Reeve; an unknown type is answered with PARAM. Where the spec leaves a point open, the effects follow the model's choices of log entries 17, 18, 44, 100, 101, 103 and 105. -/
def Obligations.MgmtCommandsComplete : Prop :=
  (∀ (q : Nat) (seq : Nat) (o : OpRec) (s : State),
    s.op? q seq = some o ∧ dOpcode o.desc = 0x38 ∧ o.phase = .ready ∧ s.mode.serving = true ∧ s.frozenMode = false ∧ s.stopping = false ∧ s.fenced = false ∧ s.tenantActive (s.queue q).tenant = true ∧ s.pw.firmware = true →
    exec (.mgmtOperation q seq) s =
      .next ((s.setOp q { o with phase := .relayed })).settle) ∧
  (∀ (ld : Fin 64) (typ : Nat) (s : State),
    s.mailboxTakes ld.val true false = true ∧ s.rv.mboxWait = [] →
    exec (.mailboxMgmtRequest ld typ) s =
      .next (({ s with rv := { s.rv with mboxWait := [(ld.val, typ)] } })).settle) ∧
  (∀ (path : MgmtPath) (typ : Nat) (s : State),
    s.mgmtWaits path typ = true ∧ mgmtTypes.contains typ = false →
    exec (.mgmtUnknownType path typ) s =
      .next ((s.mgmtSend path typ St.PARAM [])).settle) ∧
  (∀ (path : MgmtPath) (s : State),
    s.mgmtTakes path 0x01 = true →
    exec (.mgmtStatus path) s =
      .next ((s.mgmtSend path 0x01 St.SUCCESS s.statusBody)).settle) ∧
  (∀ (path : MgmtPath) (s : State),
    s.mgmtTakes path 0x02 = true →
    exec (.mgmtIdentity path) s =
      .next ((s.mgmtSend path 0x02 St.SUCCESS ((List.range 16).map fun i => leBytes 4 (s.viewWord (4 * i))).flatten)).settle) ∧
  (∀ (path : MgmtPath) (s : State),
    s.mgmtTakes path 0x03 = true →
    exec (.mgmtDeviceKey path) s =
      .next ((s.mgmtSend path 0x03 St.SUCCESS (leBytes 97 s.rv.part.deviceKey ++ leBytes 8 (keyIdOf s.rv.part.deviceKey)))).settle) ∧
  (∀ (path : MgmtPath) (channels : List (Fin 256)) (s : State),
    s.mgmtTakes path 0x04 = true ∧ channels.length ≤ 32 ∧ (channels.all fun c => decide (c.val < 32)) = true →
    exec (.mgmtSensorRead path channels) s =
      .next ((s.mgmtSend path 0x04 St.SUCCESS (channels.map fun c => leBytes 4 (s.get (F.ADC_RESULT_VALUE c.val) + s.get (F.ADC_RESULT_RANGE c.val) * 2 ^ 28 + s.get (F.ADC_RESULT_RANGED c.val) * 2 ^ 30 + s.get (F.ADC_RESULT_VALID c.val) * 2 ^ 31)).flatten)).settle) ∧
  (∀ (path : MgmtPath) (pool : Nat) (count : Nat) (s : State),
    s.mgmtTakes path 0x05 = true ∧ 1 ≤ pool ∧ pool ≤ 13 →
    exec (.mgmtBermRead path pool count) s =
      .next ((s.mgmtSend path 0x05 St.SUCCESS ((List.range (min count (176 - poolBase pool))).map fun i => ((bermWords (poolBase pool + i) (s.bermRec (poolBase pool + i))).map (leBytes 4)).flatten).flatten)).settle) ∧
  (∀ (path : MgmtPath) (start : Nat) (count : Nat) (s : State),
    s.mgmtTakes path 0x06 = true ∧ 1 ≤ count ∧ count ≤ 15 →
    exec (.mgmtEventRead path start count) s =
      .next ((s.mgmtSend path 0x06 St.SUCCESS ((s.eventsFrom start count).map recBytes).flatten)).settle) ∧
  (∀ (path : MgmtPath) (tenant : Nat) (state : Nat) (weight : Nat) (regions : Nat) (gib : Nat) (s : State),
    s.mgmtTakes path 0x10 = true ∧ tenant ≠ 0 ∧ tenant < 4096 →
    exec (.mgmtTenantSet path tenant state weight regions gib) s =
      .next (((s.sequencePoint (.record 2 tenant [state % 4 + weight % 256 * 2 ^ 8, regions, gib]) none).mgmtSend path 0x10 St.SUCCESS [])).settle) ∧
  (∀ (path : MgmtPath) (pkeyMap : Bool) (n : Nat) (v : Nat) (s : State),
    s.mgmtTakes path 0x11 = true ∧ pkeyMap = true ∧ n < 4096 →
    exec (.mgmtBindingSet path pkeyMap n v) s =
      .next (((s.sequencePoint (.record 3 n [v]) none).mgmtSend path 0x11 St.SUCCESS [])).settle) ∧
  (∀ (path : MgmtPath) (pkeyMap : Bool) (n : Nat) (v : Nat) (s : State),
    s.mgmtTakes path 0x11 = true ∧ pkeyMap = false ∧ n < 64 →
    exec (.mgmtBindingSet path pkeyMap n v) s =
      .next (((s.writeLdMap n v).mgmtSend path 0x11 St.SUCCESS [])).settle) ∧
  (∀ (path : MgmtPath) (grant : Nat) (w0 : Nat) (w1 : Nat) (w2 : Nat) (s : State),
    s.mgmtTakes path 0x12 = true ∧ grant < 256 ∧ s.grantOwn path grant w0 = true →
    exec (.mgmtGrantSet path grant w0 w1 w2) s =
      .next (((((s.grantWrite grant 1 w1).grantWrite grant 2 w2).grantWrite grant 0 w0).mgmtSend path 0x12 St.SUCCESS [])).settle) ∧
  (∀ (path : MgmtPath) (off : Nat) (s : State),
    s.mgmtTakes path 0x13 = true ∧ off % 4 = 0 ∧ off < 0x2000000 ∧ (off < 0xF40000 ∨ 0xF50000 ≤ off) →
    exec (.mgmtRegRead path off) s =
      .next (((s.readReg .reeve off false).2.mgmtSend path 0x13 St.SUCCESS (leBytes 4 (s.readReg .reeve off false).1))).settle) ∧
  (∀ (path : MgmtPath) (off : Nat) (s : State),
    s.mgmtWaits path 0x13 = true ∧ s.mgmtAllowed path 0x13 = true ∧ off % 4 = 0 ∧ 0xF40000 ≤ off ∧ off < 0xF50000 →
    exec (.mgmtRegRead path off) s =
      .next ((s.gregStart (off - 0xF40000) false 0 true)).settle) ∧
  (∀ (path : MgmtPath) (off : Nat) (v : Nat) (s : State),
    s.mgmtTakes path 0x14 = true ∧ off % 4 = 0 ∧ off < 0x2000000 ∧ s.regDenied off = false →
    exec (.mgmtRegWrite path off v) s =
      .next ((((s.dropLatch .reeve off).writeWord .reeve off (v % 2 ^ 32)).mgmtSend path 0x14 St.SUCCESS [])).settle) ∧
  (∀ (path : MgmtPath) (s : State),
    s.mgmtTakes path 0x20 = true →
    exec (.mgmtAssayNow path) s =
      .next ((s.requestAssay.mgmtSend path 0x20 St.SUCCESS [])).settle) ∧
  (∀ (path : MgmtPath) (bit : Nat) (s : State),
    s.mgmtTakes path 0x21 = true ∧ bit < 5 →
    exec (.mgmtPairCmd path bit) s =
      .next (((s.writeCwCmd (2 ^ bit)).mgmtSend path 0x21 St.SUCCESS [])).settle) ∧
  (∀ (path : MgmtPath) (off : Nat) (v : Nat) (s : State),
    s.mgmtTakes path 0x22 = true ∧ serviceMask off ≠ 0 ∧ v &&& serviceMask off = v →
    exec (.mgmtService path off v) s =
      .next (((s.writeWord .reeve off v).mgmtSend path 0x22 St.SUCCESS [])).settle) ∧
  (∀ (path : MgmtPath) (temper : Nat) (s : State),
    s.mgmtTakes path 0x23 = true ∧ s.get F.ID_TEMPER_TEMPER < temper ∧ temper ≤ s.get F.ID_TEMPER_TEMPER_MAX ∧ s.cw.paired = false ∧ s.mode = .solo →
    exec (.mgmtTemperSet path temper) s =
      .next (((s.changeTemper temper).mgmtSend path 0x23 St.SUCCESS (leBytes 2 temper))).settle) ∧
  (∀ (path : MgmtPath) (s : State),
    s.mgmtTakes path 0x30 = true →
    exec (.groupResetArm path) s =
      .next ((((s.draw 32).2.setArm (some (3, (s.draw 32).1))).mgmtSend path 0x30 St.SUCCESS (leBytes 4 (s.draw 32).1))).settle) ∧
  (∀ (path : MgmtPath) (challenge : Nat) (s : State),
    s.mgmtTakes path 0x31 = true ∧ s.rv.arm = some (3, challenge) ∧ s.groupResetReady = true →
    exec (.groupResetConfirm path challenge) s =
      .next ((((s.setArm none).groupReset).mgmtSend path 0x31 St.SUCCESS [])).settle) ∧
  (∀ (path : MgmtPath) (s : State),
    s.mgmtTakes path 0x32 = true ∧ s.get F.RDL_STATUS_RAISES < 8 ∧ s.get F.RDL_STATUS_LEVEL = 0 →
    exec (.readoutRaise path) s =
      .next ((s.blowRaise.mgmtSend path 0x32 St.SUCCESS [])).settle) ∧
  (∀ (path : MgmtPath) (s : State),
    s.mgmtTakes path 0x33 = true ∧ s.get F.RDL_STATUS_LEVEL = 1 →
    exec (.readoutLowerArm path) s =
      .next ((((s.draw 32).2.setArm (some (1, (s.draw 32).1))).mgmtSend path 0x33 St.SUCCESS (leBytes 4 (s.draw 32).1))).settle) ∧
  (∀ (path : MgmtPath) (challenge : Nat) (s : State),
    s.mgmtTakes path 0x34 = true ∧ s.rv.arm = some (1, challenge) ∧ (s.mode = .paired ∨ s.cw.paired = false) →
    exec (.readoutLowerConfirm path challenge) s =
      .next ((((s.setArm none).startLowering).mgmtSend path 0x34 St.SUCCESS [])).settle) ∧
  (∀ (path : MgmtPath) (s : State),
    s.mgmtTakes path 0x35 = true ∧ s.get F.RDL_STATUS_LEVEL = 1 →
    exec (.readoutFinalArm path) s =
      .next ((((s.draw 32).2.setArm (some (2, (s.draw 32).1))).mgmtSend path 0x35 St.SUCCESS (leBytes 4 (s.draw 32).1))).settle) ∧
  (∀ (path : MgmtPath) (challenge : Nat) (s : State),
    s.mgmtTakes path 0x36 = true ∧ s.rv.arm = some (2, challenge) →
    exec (.readoutFinalConfirm path challenge) s =
      .next ((let c := s.setArm none; (({ c with rv := { c.rv with part := { c.rv.part with final := true } } } : State).syncReadout).mgmtSend path 0x36 St.SUCCESS [])).settle)

/-- VAUX rises and falls, the always-on domain starts, the power commands are carried out where the mode allows them, rails and PLLs come up in their order and go down, and BRINGUP discovers its parts and completes. Where the spec leaves a point open, the effects follow the model's choices of log entries 75, 76, 77, 78, 81, 82, 174, 175, 176 and 177. -/
def Obligations.PowerCommandsComplete : Prop :=
  (∀ (side : Fin 2) (autowake : Bool) (i3cAddr : Fin 4) (fuses : List (Nat × Nat)) (part : Part) (s : State),
    s.mode = .off ∧ s.pw.vaux = false ∧ s.pw.fused = false →
    exec (.vauxRise side autowake i3cAddr fuses part) s =
      .next ((let a := (s.loadFuses fuses).loadPart part; (({ a with pw := { a.pw with vaux := true, starting := true, first := true, from_ := 15, autowake := autowake, i3cAddr := i3cAddr.val, retriesTold := false } } : State).put F.ADR_CTRL_SIDE side.val))).settle) ∧
  (∀ (s : State),
    exec .vauxFall s =
      .next ((s.loseSupplies)).settle) ∧
  (∀ (ok : Bool) (s : State),
    s.mode = .off ∧ s.pw.vaux = true ∧ s.pw.starting = true ∧ ok = true →
    exec (.aonStartCheck ok) s =
      .next ((let a := { s with pw := { s.pw with starting := false, first := false }, fc := { s.fc with regulatorCause := false } }; let b := (a.settleLatch.when s.pw.first (State.bump F.ID_POWER_CYCLES_COUNT 1)).setMode .dormant; b.when (s.pw.first && b.pw.autowake) State.wakeDormant)).settle) ∧
  (∀ (s : State),
    s.mode = .off ∧ s.pw.vaux = true ∧ s.pw.starting = false →
    exec .aonStartRetry s =
      .next (({ s with pw := { s.pw with starting := true } })).settle) ∧
  (∀ (s : State),
    s.mode ≠ .off →
    exec .aonRegulatorDip s =
      .next ((let a := (s.railsDrop.loseSupplies.put F.AON_STATUS_AON_RETRIES (s.get F.AON_STATUS_AON_RETRIES)).put F.ADR_CTRL_SIDE s.side; { a with pw := { a.pw with vaux := true, starting := true, first := false, from_ := s.mode.num, autowake := s.pw.autowake, i3cAddr := s.pw.i3cAddr, retriesTold := s.pw.retriesTold } })).settle) ∧
  (∀ (s : State),
    s.mode = .watch →
    exec .pwrRamp s =
      .next ((s.rampCommand)).settle) ∧
  (∀ (s : State),
    s.mode = .watch →
    exec .pwrSleep s =
      .next ((let a := (s.put F.PWR_STATUS_LAST_CMD 1).put F.PWR_STATUS_GO_WAIT 0; (({ a with pw := { a.pw with firmware := false, coldWait := false } } : State).endCond Ev.THERMAL_COLD).setMode .dormant)).settle) ∧
  (∀ (s : State),
    s.mode = .solo →
    exec .pwrShutdown s =
      .next ((((s.put F.PWR_STATUS_LAST_CMD 1).put F.PWR_STATUS_STOPPING 1).setAllActive)).settle) ∧
  (∀ (s : State),
    s.mode = .quarantine ∧ s.canSave = true →
    exec .pwrRestart s =
      .next (((s.put F.PWR_STATUS_LAST_CMD 1).enterSave 3)).settle) ∧
  (∀ (s : State),
    s.mode = .solo ∧ s.stopping = true ∧ s.dirtyLines = 0 ∧ s.cul.jpend = [] ∧ s.cul.tableDirty = [] →
    exec .shutdownWritebackDone s =
      .next (((({ s with ssb := { s.ssb with imageA := none, imageB := none, orderly := true } } : State).put F.SPW_STATUS_IMAGE_HELD 0).abandonAssay.rampDown 3)).settle) ∧
  (∀ (s : State),
    s.mode ≠ .off →
    exec .pseqGoAssert s =
      .next ((let a := s.put F.PWR_STATUS_PSEQ_GO 1; if a.mode = .watch ∧ a.isSet F.PWR_STATUS_GO_WAIT = true then a.startRampUp else a)).settle) ∧
  (∀ (s : State),
    s.mode = .watch ∧ s.isSet F.PWR_STATUS_GO_WAIT = true ∧ s.pw.goTold = false →
    exec .goWaitTimeout s =
      .next ((({ s with pw := { s.pw with goTold := true } }).raise Ev.GO_WAIT [])).settle) ∧
  (∀ (rail : Fin 12) (s : State),
    s.rampingUp rail.val = true ∧ s.railState rail.val = 1 →
    exec (.railPgAssert rail) s =
      .next (({ s with pw := { s.pw with pg := true } })).settle) ∧
  (∀ (rail : Fin 12) (s : State),
    s.rampingUp rail.val = true ∧ s.pw.pg = false →
    exec (.railPgTimeout rail) s =
      .next ((s.wakeStepFailed 1 rail.val)).settle) ∧
  (∀ (rail : Fin 12) (s : State),
    s.rampingUp rail.val = true ∧ s.pw.pg = true ∧ s.pw.inWindow < 2 →
    exec (.railWindowTimeout rail) s =
      .next ((s.wakeStepFailed 2 rail.val)).settle) ∧
  (∀ (rail : Fin 12) (s : State),
    s.rampingUp rail.val = true ∧ s.pw.pg = true ∧ 2 ≤ s.pw.inWindow →
    exec (.stepDelayExpiry rail) s =
      .next (((s.setRail rail.val 2).enableRail (rail.val + 1))).settle) ∧
  (∀ (pll : Fin 13) (v : Nat) (s : State),
    s.rampingUp 12 = true ∧ (if bitsOf (s.get F.CLK_STATUS_PLL_LOCK) pll.val 1 = 1 then s.get F.CLK_STATUS_PLL_LOCK else s.get F.CLK_STATUS_PLL_LOCK + 2 ^ pll.val) = v →
    exec (.pllLocked pll) s =
      .next ((let a := s.put F.CLK_STATUS_PLL_LOCK v; if v = 2 ^ 13 - 1 then (({ a with pw := { a.pw with ramp := 0, second := false } } : State).put F.PWR_STATUS_PSEQ_DONE 1).enterBringup false false else a)).settle) ∧
  (∀ (pll : Fin 13) (s : State),
    s.rampingUp 12 = true ∧ bitsOf (s.get F.CLK_STATUS_PLL_LOCK) pll.val 1 = 0 →
    exec (.pllLockTimeout pll) s =
      .next ((s.wakeStepFailed 3 pll.val)).settle) ∧
  (∀ (rail : Fin 12) (s : State),
    s.mode = .ramp ∧ s.pw.ramp = 2 ∧ s.pw.rail = rail.val ∧ s.railState rail.val = 5 →
    exec (.rampdownRailOff rail) s =
      .next (((s.setRail rail.val 0).disableNext)).settle) ∧
  (∀ (s : State),
    s.mode = .ramp ∧ s.pw.ramp = 3 →
    exec .wakeRetryDelay s =
      .next ((({ s with pw := { s.pw with second := true } }).startRampUp)).settle) ∧
  (∀ (s : State),
    s.mode ≠ .off ∧ s.isSet F.PWR_STATUS_PFAIL = false →
    exec .holdoffExpiry s =
      .next (({ s with pw := { s.pw with holdoff := true } })).settle) ∧
  (∀ (modules : List Module) (dimms : List Dimm) (faults : List SramRepair) (checkers : List (Checker × Nat)) (errorLines : List (Fin 48)) (load : Bool × State) (t a : State) (s : State),
    s.mode = .bringup ∧ (s.forEach errorLines fun j a => a.raise Ev.COLLECTOR_SELF_TEST [j.val]).bermLoad = load ∧ ((load.2.repairArrays faults).forEach checkers fun c a => a.checkerFails c.1 c.2).put F.ST_STATUS_DONE 1 = t ∧ modules.foldl (fun a m => a.discoverModule m) (t.guestBringup.startServices.discoverDimms dimms) = a ∧ a.fl.formed = true →
    exec (.moduleDiscoveryStart modules dimms faults checkers errorLines) s =
      .next (((((a.resumeRebuild.absentPositions.forEach (a.slotsIn 1) fun i b => b.placeModule i).takeSpares).checkGroup.bermFixed).when load.1 State.bermRebuilt)).settle) ∧
  (∀ (a b : State) (s : State),
    s.mode = .bringup ∧ s.pw.configOk = true ∧ s.pw.bistOk = true ∧ s.isSet F.PWR_STATUS_RETURNING = false ∧ s.fl.formed = true ∧ ((List.range 16).any fun c => decide (s.get (F.CH_STATUS_STATE c) = 1)) = false ∧ s.placeFrames = a ∧ a.dramShort = false ∧ a.selectStore = b ∧ b.ks.a.ok = true →
    exec .bringupComplete s =
      .next ((let c := b.createServiceRegion; ((c.when (decide (0xFFFFFFFF - c.get F.ADR_GEN_NEXT_GEN < 1048576)) (State.raise Ev.KEY_GEN_LOW [])).setMode .restore).put F.RST_STATUS_PHASE 1)).settle) ∧
  (∀ (rail : Fin 12) (s : State),
    s.mode.mainRails = true ∧ (s.railState rail.val = 2 ∨ s.railState rail.val = 3) →
    exec (.railPgLoss rail) s =
      .next (((((s.setRail rail.val 4).bump (F.RAIL_STATUS_PG_LOSSES rail.val) 1).raise (Ev.RAIL_PG_LOST rail.val) []).unitLost rail.val)).settle) ∧
  (∀ (rail : Fin 12) (ok : Bool) (bad : Bool) (mv : Nat) (tenMa : Nat) (temp : BitVec 16) (s : State),
    s.mode ≠ .off ∧ s.mode ≠ .dormant ∧ s.get (F.RAIL_PMBUS_ADDR rail.val) ≠ 0 ∧ ok = true →
    exec (.pmbusPoll rail ok bad mv tenMa temp) s =
      .next ((let a := (((s.put (F.RAIL_VOUT_VOUT_MV rail.val) mv).put (F.RAIL_VOUT_IOUT_10MA rail.val) tenMa).put (F.RAIL_TEMP_CASE rail.val) temp.toNat).put (F.RAIL_STATUS_PMBUS_OK rail.val) 1; ({ a with pw := { a.pw with pmFails := Sparse.set 0 rail.val 0 a.pw.pmFails } } : State).when bad (State.raiseLimited (Ev.RAIL_REG_FAULT rail.val) rail.val []))).settle) ∧
  (∀ (rail : Fin 12) (steps : BitVec 4) (s : State),
    exec (.railMarginWrite rail steps) s =
      .next ((s.writeMargin rail.val steps.toNat)).settle) ∧
  (∀ (rail : Fin 12) (ok : Bool) (k : Nat) (s : State),
    Sparse.get 0 rail.val s.pw.margins = k + 1 ∧ ok = true →
    exec (.pmbusMarginAck rail ok) s =
      .next (((({ s with pw := { s.pw with margins := Sparse.set 0 rail.val 0 s.pw.margins, moved := Sparse.set (0, 0) rail.val (s.get (F.RAIL_STATUS_MARGIN_APPLIED rail.val), s.now + msFc 10) s.pw.moved } } : State).put (F.RAIL_STATUS_MARGIN_APPLIED rail.val) k).raise Ev.MARGIN_SET [rail.val, k])).settle) ∧
  (∀ (s : State),
    s.mode ≠ .off →
    exec .xtalStable s =
      .next ((((s.put F.AON_STATUS_ON_RC 0).put F.CLK_STATUS_XTAL_OK 1).endCond Ev.XTAL_FAILED)).settle) ∧
  (∀ (s : State),
    s.mode ≠ .off →
    exec .xtalFail s =
      .next ((((s.put F.AON_STATUS_ON_RC 1).put F.CLK_STATUS_XTAL_OK 0).raise Ev.XTAL_FAILED [])).settle) ∧
  (∀ (pll : Fin 13) (s : State),
    s.mode.mainRails = true ∧ bitsOf (s.get F.CLK_STATUS_PLL_LOCK) pll.val 1 = 1 →
    exec (.pllLockLoss pll) s =
      .next ((({ s with pw := { s.pw with unlocked := s.pw.unlocked ++ [pll.val] } }).put F.CLK_STATUS_PLL_LOCK (s.get F.CLK_STATUS_PLL_LOCK - 2 ^ pll.val))).settle) ∧
  (∀ (pll : Fin 13) (s : State),
    s.pw.unlocked.contains pll.val = true →
    exec (.pllRelock pll) s =
      .next ((((({ s with pw := { s.pw with unlocked := s.pw.unlocked.filter fun p => decide (p ≠ pll.val), lost := s.pw.lost.filter fun u => decide (u ≠ 16 + pll.val) } } : State).put F.CLK_STATUS_PLL_LOCK (s.get F.CLK_STATUS_PLL_LOCK + 2 ^ pll.val)).bump F.CLK_RELOCKS_COUNT 1).raiseLimited Ev.PLL_RELOCKED 0 [pll.val])).settle) ∧
  (∀ (pll : Fin 13) (s : State),
    s.pw.unlocked.contains pll.val = true ∧ s.pw.lost.contains (16 + pll.val) = false →
    exec (.pllRelockTimeout pll) s =
      .next (((s.raise Ev.PLL_FAILED [pll.val]).unitLost (16 + pll.val))).settle) ∧
  (∀ (channel : Fin 40) (s : State),
    s.get F.CLK_CFG_FLASH_CLK_IDLE_US ≠ 0 ∧ s.mode.mainRails = true ∧ s.mode ≠ .save ∧ s.isSet (F.SLOT_STATUS_POWER_ON (channel.val / 2)) = true ∧ s.fl.clocksStopped.contains channel.val = false →
    exec (.flashClockIdleStop channel) s =
      .next (({ s with fl := { s.fl with clocksStopped := s.fl.clocksStopped ++ [channel.val] } })).settle) ∧
  (∀ (s : State),
    s.get F.AON_ALARM_SECONDS ≠ 0 ∧ s.mode = .dormant →
    exec .aonAlarmExpiry s =
      .next ((s.setMode .watch)).settle)

/-- A sensor is read and judged, a trip drops the rails, throttling is enforced after its grace, a conversion is ranged and used, seconds are counted, and the ledger's buckets close and are committed. Where the spec leaves a point open, the effects follow the model's choices of log entries 41, 42, 83, 116 and 118. -/
def Obligations.ThermalAndLifeCommandsComplete : Prop :=
  (∀ (c : Fin 16) (reading : BitVec 16) (cause : Fin 4) (a : State) (s : State),
    s.sensorsRead.contains c.val = true ∧ cause.val = 0 ∧ s.isSet (F.TH_SENSOR_FAILED c.val) = false ∧ ((((s.put (F.TH_SENSOR_FAILED c.val) 0).put (F.TH_SENSOR_CAUSE c.val) 0).put (F.TH_SENSOR_READING c.val) reading.toNat).replaceReadings.judgeThermal) = a ∧ a.mode ≠ .watch →
    exec (.junctionSensorRead c reading cause) s =
      .next ((a)).settle) ∧
  (∀ (c : Fin 16) (s : State),
    s.mode.mainRails = true →
    exec (.thermalTrip c) s =
      .next (((s.abandonAssay.railsDrop.setThermLatch.enterWatch).raiseThreshold Ev.THERMAL_TRIP [16 + c.val])).settle) ∧
  (∀ (rate : Nat) (s : State),
    s.isSet F.TH_STATUS_REQUESTED = true ∧ s.isSet F.TH_STATUS_ENFORCING = false →
    exec (.throttleGraceExpiry rate) s =
      .next ((((((s.put F.SLU_THERM_REF_MBPS_MBPS (min (2 ^ 20 - 1) (max 1000 rate))).put F.SLU_STATUS_THERM_STEP 1).put F.SLU_STATUS_THERM_ENFORCE 1).put F.TH_STATUS_ENFORCING 1).raise Ev.THERMAL_ENFORCE [])).settle) ∧
  (∀ (s : State),
    s.mode.mainRails = true ∧ s.pw.firmware = true ∧ (s.get F.ID_OPERATING_S_SECONDS + 1) % 3600 ≠ 0 →
    exec .operatingSecondTick s =
      .next (((s.put F.ID_OPERATING_S_SECONDS (s.get F.ID_OPERATING_S_SECONDS + 1)).lifeSecond)).settle) ∧
  (∀ (s : State),
    s.pw.firmware = true →
    exec .bermBucketClose s =
      .next (((s.forEach ((s.berm.recs.filter fun (e : Nat × BermRec) => e.2.valid).map fun (e : Nat × BermRec) => e.1) fun n a => (a.setBermRec n { a.bermRec n with past := ((a.bermRec n).now_ :: (a.bermRec n).past).take 9, now_ := (0, 0) }).recomputeBerm n).bermStatus)).settle) ∧
  (∀ (toB : Bool) (k : BermSlot) (s : State),
    s.pw.firmware = true ∧ (s.berm.a.ok && (!s.berm.b.ok || decide (s.berm.b.sgen < s.berm.a.sgen))) = toB ∧ ({ ok := true, sgen := max (if s.berm.a.ok then s.berm.a.sgen else 0) (if s.berm.b.ok then s.berm.b.sgen else 0) + 1, recs := s.berm.recs } : BermSlot) = k →
    exec .bermCommit s =
      .next ((({ s with berm := { s.berm with a := if toB then s.berm.a else k, b := if toB then k else s.berm.b, active := flag toB, dirty := false } }).put F.BERM_COMMIT_SGEN k.sgen)).settle) ∧
  (∀ (c : Fin 32) (reading : BitVec 24) (peak : BitVec 24) (r : Nat × Bool × Nat) (a : State) (s : State),
    s.mode ≠ .off ∧ s.mode ≠ .dormant ∧ s.isSet (F.ADC_CH_CFG_EN c.val) = true ∧ s.adcRange c.val (adcInt reading.toNat) (adcInt peak.toNat) = r ∧ r.2.1 = false ∧ s.adcResult c.val r.1 false reading.toNat = a →
    exec (.adcConversion c reading peak) s =
      .next ((({ a with rv := { a.rv with below := Sparse.set 0 c.val r.2.2 a.rv.below, ranged := Sparse.set 0 c.val 0 a.rv.ranged } } : State).adcUse c.val (adcInt reading.toNat).toNat false)).settle) ∧
  (∀ (s : State),
    exec .adcTrackClear s =
      .next ((s.trackClear)).settle) ∧
  (∀ (s : State),
    s.mode.mainRails = true →
    exec .witnessLinkAligned s =
      .next ((let d := s.draw 32; (({ d.2 with wit := { d.2.wit with started := true, mySession := d.1, myCounter := 0, sent := [] } } : State).put F.CW_WIT_STATUS_LINK_UP 1))).settle)

/-- An error line is read, a wire fault is raised, a condition ends, a source is acknowledged or raised by software, the pin is cleared, an entry is recorded, and a token comes back. Where the spec leaves a point open, the effects follow the model's choices of log entries 20, 28, 29 and 117. -/
def Obligations.CollectorCommandsComplete : Prop :=
  (∀ (line : Fin 48) (link : Option (Fin 13)) (word : List (Fin 32 × List Nat)) (s : State),
    s.collectorRuns = true →
    exec (.errorLineAssert line link word) s =
      .next ((s.readLine line.val (link.map fun k => k.val) (word.map fun e => (e.1.val, e.2)))).settle) ∧
  (∀ (pair : ErrPair) (j : Fin 48) (s : State),
    s.collectorRuns = true ∧ pair = .line j ∧ 2 ≤ j.val →
    exec (.wireFaultDetect pair) s =
      .next ((s.raise (16 + j.val) [])).settle) ∧
  (∀ (pair : ErrPair) (s : State),
    s.collectorRuns = true ∧ pair = .guestF ∧ s.guestRuns = true →
    exec (.wireFaultDetect pair) s =
      .next (((s.raise 9 []).raise Ev.GUEST_FATAL [])).settle) ∧
  (∀ (line : Fin 48) (link : Option (Fin 13)) (word : List (Fin 32 × List Nat)) (s : State),
    s.collectorRuns = true ∧ Sparse.get 0 (16 + line.val) s.fc.cond ≠ 0 ∧ s.lineReadable (link.map fun k => k.val) = true →
    exec (.wireFaultPoll line link word) s =
      .next ((s.raiseWord line.val (word.map fun e => (e.1.val, e.2)))).settle) ∧
  (∀ (n : Fin 1536) (s : State),
    (n.val < 1172 ∨ 1184 ≤ n.val) ∧ endsFromOutside n.val = true →
    exec (.sourceConditionEnd n) s =
      .next ((s.endCond n.val)).settle) ∧
  (∀ (n : BitVec 11) (s : State),
    s.collectorRuns = true ∧ s.srcState n.toNat = 1 →
    exec (.fcAckWrite n) s =
      .next (((s.put (F.FC_SRC_STATUS_STATE n.toNat) (if isLevel n.toNat = true ∧ Sparse.get 0 n.toNat s.fc.cond ≠ 0 then 2 else 0)).settleLatch)).settle) ∧
  (∀ (n : BitVec 11) (s : State),
    s.collectorRuns = true ∧ 1408 ≤ n.toNat ∧ n.toNat < 1536 →
    exec (.fcRaiseWrite n) s =
      .next ((s.raise n.toNat [s.get F.FC_RAISE_DETAIL_DETAIL])).settle) ∧
  (∀ (s : State),
    exec .fcPinClear s =
      .next ((s.pinClear)).settle) ∧
  (∀ (cut : Bool) (e : EvEntry) (l : List EvEntry) (s : State),
    s.pw.firmware = true ∧ s.fc.aon ++ s.fc.queue = e :: l ∧ cut = false →
    exec (.eventRecordWrite cut) s =
      .next ((s.recordEntry e)).settle) ∧
  (∀ (code : Fin 1536) (s : State),
    exec (.tokenRefill code) s =
      .next (({ s with fc := { s.fc with tokensUsed := Sparse.set 0 code.val (Sparse.get 0 code.val s.fc.tokensUsed - 1) s.fc.tokensUsed } })).settle)

/-- For every command c and every state with c at the front of its queue, a step is exec of c on the state with the queue's rest. -/
def Obligations.StepRunsTheFrontCommand : Prop :=
  ∀ (c : Instr) (rest : List Instr) (s : State), s.pending = c :: rest → step s = exec c { s with pending := rest }

/-- With no command waiting, a step advances the fabric-cycle counter by one and, with FLOW_MODE 1, sends XON on PFC_PRIO of every port that had sent XOFF and none of whose packets waits; it changes no byte, no register and no line, and where no port had sent XOFF it changes nothing but the counter. That time passes only then is the model's choice, log entry 3, and that a buffer drains then is log entry 120. -/
def Obligations.EmptyQueuePassesOneCycle : Prop :=
  ∀ s : State, s.pending = [] → ∃ t, step s = .next t ∧ t.now = s.now + 1 ∧ t.pending = [] ∧ t.mem = s.mem ∧ t.regs = s.regs ∧
    t.lines = s.lines ∧ (s.eth.xoff = [] → t = { s with now := s.now + 1 }) ∧
    (s.isSet F.RDMA_GLOBAL_CFG_FLOW_MODE = true → ∀ p ∈ s.eth.xoff, s.portWaits p = false → Output.pfc p s.pfcPrio false ∈ t.out)

/-- In every state a step answers a next state: every command of the table has an effect the machine carries out, in every mode. -/
def Obligations.EveryStepAnswersANextState : Prop :=
  ∀ s : State, ∃ t : State, step s = .next t

/-- From every state whose memories, line states and register file are in canonical form, whose collector queue holds at most 1,024 entries and whose always-on store holds at most 16, every step leads to a state of which the same holds. The canonical form is the model's own; the two bounds are those of R521. -/
def Obligations.EveryStepKeepsTheStateSound : Prop :=
  ∀ s t : State, s.Sound → step s = .next t → t.Sound

/-- In every next state of a step the queue is the old queue without its front command, no command is added behind or ahead of it, the clock moves only when no command was waiting, and no free value is drawn a second time. The queue and the clock are the model's (log entries 3 and 4). -/
def Obligations.EveryStepTakesOnlyTheFrontCommand : Prop :=
  ∀ s t : State, step s = .next t →
    t.pending = s.pending.tail ∧ t.now = (if s.pending = [] then s.now + 1 else s.now) ∧ s.draws ≤ t.draws

/-- The state after reset has canonical tables, stores within their room and no command waiting. -/
def Obligations.ResetStateIsSound : Prop :=
  State.reset.Sound ∧ State.reset.pending = [] ∧ State.reset.mem = [] ∧ State.reset.deep = []

/-- Before VAUX rises the controller is OFF; every configuration field reads its reset value until a configuration is loaded, so ADR_GEN_NEXT and a channel's DEV_MARK read 0; every rotation pointer is 0; no region exists; no source is raised and FAULT_N is not latched. -/
def Obligations.ResetValuesTheSpecGives : Prop :=
  State.reset.mode = .off ∧ State.reset.get F.ADR_GEN_NEXT_GEN = 0 ∧ (∀ k, State.reset.get (F.CH_DEV_MARK_MARK k) = 0) ∧
    (∀ h, Sparse.get 0 h State.reset.rotPtr = 0) ∧ (∀ i, State.reset.region i = {}) ∧
    State.reset.activeSources = [] ∧ State.reset.fc.latch = false ∧ State.reset.pw.vaux = false

/-- After a field is set, it reads as the value cut to its width; every field at another place in the register space reads as before; memory, line states, mode and the messages sent are unchanged. -/
def Obligations.RegisterFieldReadsBackWhatHardwarePut : Prop :=
  ∀ (s : State) (f g : Fld) (v : Nat), s.Sound →
    (s.put f v).get f = v % 2 ^ f.w ∧ (g.key ≠ f.key → (s.put f v).get g = s.get g) ∧
    s.put f v = { s with regs := (s.put f v).regs } ∧ (s.put f v).Sound

/-- A write of plain fields leaves every field that is not a writable part of the word as it was, and leaves everything but the register file unchanged. -/
def Obligations.RegisterWriteReachesOnlyItsWritableFields : Prop :=
  ∀ (s : State) (off v : Nat) (g : Fld), s.Sound →
    (∀ p ∈ wordParts off, p.row.acc.writable = true → p.fld.key ≠ g.key) →
    (s.writeFields off v).get g = s.get g ∧ s.writeFields off v = { s with regs := (s.writeFields off v).regs }

/-- A write of a register word, s0 being the state before it, leaves an RO or RC field; it leaves a set LOCK bit, and every field whose LOCK was set before the write; a W1C field is left by a zero and cleared by a one. -/
def Obligations.AccessTypesActAsTheirTableSays : Prop :=
  ∀ (s0 s : State) (p : WordPart) (v : Nat),
    (p.row.acc = .ro ∨ p.row.acc = .rc → s0.writePart v s p = s) ∧
    (p.row.acc = .rw → p.isLock = true → s.isSet p.fld = true → s0.writePart v s p = s) ∧
    (p.row.acc = .rwl → s0.locked p = true → s0.writePart v s p = s) ∧
    (p.row.acc = .w1c → s0.writePart v s p = if bitsOf v p.bit p.n = 0 then s else s.put p.fld 0)

/-- After a store to a line every enabled byte of the line reads as stored, every other byte of memory reads as before, and nothing but the memory changes. -/
def Obligations.StoredLineReadsBackAndNoOtherByteChanges : Prop :=
  ∀ (s : State) (line a : Nat) (mask : BitVec 256) (d : LineData), Memory.wf s.mem = true →
    (s.storeLine line mask d).byte a = (if a / 256 = line ∧ mask.getLsbD (a % 256) = true then lineByte d (a % 256) else s.byte a) ∧
    s.storeLine line mask d = { s with mem := (s.storeLine line mask d).mem } ∧ Memory.wf (s.storeLine line mask d).mem = true

/-- After a line is zeroed each of its bytes reads as zero, every other byte of memory reads as before, and nothing but the memory changes. -/
def Obligations.ZeroedLineReadsZeroAndNoOtherByteChanges : Prop :=
  ∀ (s : State) (line a : Nat), Memory.wf s.mem = true →
    (s.zeroLine line).byte a = (if a / 256 = line then 0 else s.byte a) ∧
    s.zeroLine line = { s with mem := (s.zeroLine line).mem } ∧ Memory.wf (s.zeroLine line).mem = true

/-- After the state of a line is set it reads back, every other line's state reads as before, and memory and everything else are unchanged. -/
def Obligations.LineStateReadsBackAndNoOtherLineChanges : Prop :=
  ∀ (s : State) (line k : Nat) (m : LineMeta), s.Sound →
    (s.setMeta line m).lineMeta k = (if k = line then m else s.lineMeta k) ∧
    s.setMeta line m = { s with lines := (s.setMeta line m).lines } ∧ (s.setMeta line m).Sound

/-- The home agent of a pair address is the exclusive OR of the address groups [13:8], [19:14], [25:20], [31:26], [37:32], [43:38] and [48:44]; bits [7:0] play no part, so the granules of a line share one home; no state enters it. -/
def Obligations.HomeOfALineIsTheExclusiveOrOfItsGroups : Prop :=
  (∀ a : Nat, a < 2 ^ 49 → homeOf (lineOf a) =
      ((((((a / 2 ^ 8 % 64 ^^^ a / 2 ^ 14 % 64) ^^^ a / 2 ^ 20 % 64) ^^^ a / 2 ^ 26 % 64) ^^^ a / 2 ^ 32 % 64) ^^^ a / 2 ^ 38 % 64) ^^^
        a / 2 ^ 44 % 32)) ∧
    (∀ a b : Nat, a / 256 = b / 256 → homeOf (lineOf a) = homeOf (lineOf b))

/-- Every home is one of the 64 home agents, and two lines of one 16 KiB page that have the same home are the same line. -/
def Obligations.LinesOfAPageLieInDistinctHomeAgents : Prop :=
  (∀ line : Nat, homeOf line < 64) ∧
    (∀ page i j : Nat, i < 64 → j < 64 → homeOf (64 * page + i) = homeOf (64 * page + j) → i = j)

/-- Data page n of a stripe block lies in stripe n / m on position (i + 2 + j) mod (m + 2), which is neither the position of P nor that of Q; the stripe block and the stripe are read back from the page's number, and two pages of a stripe block never have the same number. -/
def Obligations.DeepPagesLieOnDataPositionsAndNeverTwice : Prop :=
  ∀ (s : State) (sb n : Nat), 4 ≤ s.width → s.width ≤ 16 → sb < 2 ^ 19 → n / s.width < 2 ^ 11 →
    posOfDeep (s.deepOf sb n) = (n / s.width + 2 + n % s.width) % (s.width + 2) ∧ sbOfDeep (s.deepOf sb n) = sb ∧
    s.deepOf sb n % 2 ^ 11 = n / s.width ∧
    posOfDeep (s.deepOf sb n) ≠ n / s.width % (s.width + 2) ∧ posOfDeep (s.deepOf sb n) ≠ (n / s.width + 1) % (s.width + 2) ∧
    (∀ k : Nat, k / s.width < 2 ^ 11 → s.deepOf sb k = s.deepOf sb n → k = n)

/-- Bin 0 counts totals below 32 fc, bin b from 1 to 14 counts totals from 2^(b+4) up to but not including 2^(b+5), and bin 15 counts totals of 2^19 or more. -/
def Obligations.LatencyBinsHoldTheirRanges : Prop :=
  ∀ total : Nat, (histBin total = 0 ↔ total < 32) ∧
    (∀ b : Nat, 1 ≤ b → b ≤ 14 → (histBin total = b ↔ 2 ^ (b + 4) ≤ total ∧ total < 2 ^ (b + 5))) ∧
    (histBin total = 15 ↔ 2 ^ 19 ≤ total)

/-- Advancing a queue's horizon never lowers it, changes no line of memory, and does nothing in a mode without twin durability or on a fenced controller. -/
def Obligations.DurabilityHorizonNeverFallsAndFreezes : Prop :=
  ∀ (s : State) (q : Nat), (s.queues.Pairwise fun (e f : Nat × Queue) => e.1 < f.1) →
    (s.queue q).horizon ≤ ((s.advanceHorizon q).queue q).horizon ∧ (s.advanceHorizon q).mem = s.mem ∧
    (s.advanceHorizon q).lines = s.lines ∧ (s.mode.twin = false ∨ s.fenced = true → s.advanceHorizon q = s)

/-- Sending what waits never takes the count of line entries sent above the credit granted, never takes it back, and changes only the Causeway's counts and what is sent. -/
def Obligations.MirrorFramesStayWithinTheGrantedCredit : Prop :=
  ∀ (fs : List (Nat × CwBody)) (s : State), s.cw.sentLines ≤ s.cw.creditLines →
    (State.pumpFrames fs s).cw.sentLines ≤ s.cw.creditLines ∧ s.cw.sentLines ≤ (State.pumpFrames fs s).cw.sentLines ∧
    (State.pumpFrames fs s).cw.creditLines = s.cw.creditLines ∧
    State.pumpFrames fs s = { s with cw := (State.pumpFrames fs s).cw, out := (State.pumpFrames fs s).out } ∧
    s.out <+: (State.pumpFrames fs s).out

/-- While the collector runs, raising an idle source makes it ACTIVE and counts the raise; the reaction taken is at least the assigned and the least reaction and at most CHIP; a reaction of PIN or above latches FAULT_N; memory, line states, regions and the mode are unchanged. -/
def Obligations.RaiseOfAnIdleSourceTakesItsReaction : Prop :=
  ∀ (s : State) (n : Nat) (vals : List Nat), s.Sound → n < 1536 → (eventRow? n).isSome = true →
    ¬ (1344 ≤ n ∧ n ≤ 1407 ∧ s.get F.ID_VARIANT_ORDER_CODE ≠ 1) → s.collectorRuns = true → s.srcState n = 0 →
    (s.raise n vals).srcState n = 1 ∧
    (s.raise n vals).get (F.FC_SRC_STATUS_COUNT n) = satAdd 16 (s.get (F.FC_SRC_STATUS_COUNT n)) 1 ∧
    s.minReaction n ≤ (s.raise n vals).get (F.FC_SRC_STATUS_TAKEN n) ∧ s.assigned n ≤ (s.raise n vals).get (F.FC_SRC_STATUS_TAKEN n) ∧
    (s.raise n vals).get (F.FC_SRC_STATUS_TAKEN n) ≤ 5 ∧
    (3 ≤ (s.raise n vals).get (F.FC_SRC_STATUS_TAKEN n) → (s.raise n vals).fc.latch = true) ∧
    (s.raise n vals).mem = s.mem ∧ (s.raise n vals).lines = s.lines ∧ (s.raise n vals).regions = s.regions ∧ (s.raise n vals).mode = s.mode

/-- While the collector runs, a raise of a source that is ACTIVE or ACKED queues no entry and takes no reaction; it counts, and nothing outside the register file and the collector changes. -/
def Obligations.RaiseOfAnUnclearedSourceMerges : Prop :=
  ∀ (s : State) (n : Nat) (vals : List Nat), s.Sound → n < 1536 → (eventRow? n).isSome = true →
    ¬ (1344 ≤ n ∧ n ≤ 1407 ∧ s.get F.ID_VARIANT_ORDER_CODE ≠ 1) → s.collectorRuns = true → s.srcState n ≠ 0 →
    (s.raise n vals).fc.queue = s.fc.queue ∧ (s.raise n vals).fc.due = s.fc.due ∧ (s.raise n vals).srcState n = s.srcState n ∧
    (s.raise n vals).get (F.FC_SRC_STATUS_COUNT n) = satAdd 16 (s.get (F.FC_SRC_STATUS_COUNT n)) 1 ∧
    s.raise n vals = { s with regs := (s.raise n vals).regs, fc := (s.raise n vals).fc }

/-- A valid window maps a line to device physical address d exactly when the line's pair address is the window's base plus d and d lies within the window's span. -/
def Obligations.WindowOfALogicalDeviceMapsItsAddresses : Prop :=
  ∀ (s : State) (n line d : Nat), s.winDpa n line = some d ↔
    s.winValid n = true ∧ line * 256 = s.winBase n + d ∧ d < s.winBytes n

/-- Drawing a key generation gives the counter's value and leaves the counter one higher, so that the next draw gives another value; below the counter's end it is never 0 again. Memory, line states and regions are unchanged. -/
def Obligations.KeyGenerationsAreDrawnOnce : Prop :=
  ∀ s : State, s.Sound → s.get F.ADR_GEN_NEXT_GEN < 0xFFFFFFFF →
    s.drawGen.1 = s.get F.ADR_GEN_NEXT_GEN ∧ s.drawGen.2.get F.ADR_GEN_NEXT_GEN = s.get F.ADR_GEN_NEXT_GEN + 1 ∧
    s.drawGen.2.drawGen.1 ≠ s.drawGen.1 ∧ s.drawGen.2.drawGen.1 ≠ 0 ∧
    s.drawGen.2.mem = s.mem ∧ s.drawGen.2.lines = s.lines ∧ s.drawGen.2.regions = s.regions

/-- Take the lines a save of state s puts into its image and restore them into a state r. Every byte of every dirty line the image holds then reads as it did in s; the line is dirty and marked restored, with the generation and the other line state of s, poisoned where s had it poisoned or where its channel had failed; every other byte and every other line's state reads as it did in r. -/
def Obligations.RestoreGivesBackEverySavedLine : Prop :=
  ∀ s r : State, s.Sound → r.Sound →
    let t := r.forEach s.imageLines State.restoreLine
    (∀ a : Nat, t.byte a =
      if (s.lineMeta (lineOf a)).dirty = true ∧ s.imageHolds (lineOf a) = true then s.byte a else r.byte a) ∧
    (∀ line : Nat, t.lineMeta line =
      if (s.lineMeta line).dirty = true ∧ s.imageHolds line = true then
        { s.lineMeta line with pend := 0, ver := 0, poison := (s.lineMeta line).poison || s.imageLost line, dirty := true, restored := true }
      else r.lineMeta line) ∧
    t = { r with mem := t.mem, lines := t.lines } ∧ t.Sound

/-- A DRAIN written to CW_CMD in any mode other than PAIRED, or while either contact is lost, has no effect but the raise of DRAIN_ABANDONED and the register access's own. -/
def Obligations.DrainOutOfPlaceIsIgnoredAndReported : Prop :=
  ∀ s : State, s.mode ≠ .off →
    (s.mode ≠ .paired ∨ s.isSet F.CW_STATUS_TWIN_CONTACT = false ∨ s.isSet F.CW_STATUS_WITNESS_CONTACT = false) →
    exec (.registerWrite .reeve 0xE00004 4 1) s =
      .next ((s.dropLatch .reeve 0xE00004).raise Ev.DRAIN_ABANDONED []).settle

/-- While the queue holds fewer than 1,024 entries a new entry goes to its end and nothing else changes; with 1,024 it is dropped, the queue stays as it is and FC_QUEUE's DROPPED counts it. -/
def Obligations.FullCollectorQueueDropsAndCounts : Prop :=
  ∀ (s : State) (e : EvEntry), s.Sound →
    (s.fc.queue.length < 1024 → s.queueEntry e = { s with fc := { s.fc with queue := s.fc.queue ++ [e] } }) ∧
    (s.fc.queue.length = 1024 → (s.queueEntry e).fc.queue = s.fc.queue ∧
      (s.queueEntry e).get F.FC_QUEUE_DROPPED = satAdd 16 (s.get F.FC_QUEUE_DROPPED) 1 ∧
      (s.queueEntry e).fc.lostEntries = s.fc.lostEntries + 1)

/-- SAVE_PATH_OK is 1 from the end of BRINGUP exactly while no source of the save path is uncleared; a KERUP_LINK_DOWN of a flash tile counts only while its condition lasts. -/
def Obligations.SavePathIsOkWhileNoSavePathSourceStands : Prop :=
  ∀ s : State, s.savePathOk = true ↔
    (s.mode.serving = true ∨ s.mode = .restore ∨ s.mode = .save ∨ s.mode = .quarantine) ∧
    ∀ n ∈ savePathSources, s.uncleared n = true → (1252 ≤ n ∧ n ≤ 1253) ∧ Sparse.get 0 n s.fc.cond = 0

/-- The admission bound is D - 1 GiB, never below 0; without a raised mark the high mark is the smaller of 0.9 D and the admission bound; the release mark is the smaller of 0.85 D and 1 GiB below the high mark, never below 0, and is 0.85 D for every D of 20 GiB or more; no dirty count meets both the condition for LIMITING and the condition for OPEN. -/
def Obligations.SluiceMarksLieInOrder : Prop :=
  ∀ s : State, s.isSet F.SLU_STATUS_MARK_RAISED = false →
    s.admitMark = (s.sluiceD - 1) * 2 ^ 30 ∧ s.highMark10 = min (9 * (s.sluiceD * 2 ^ 30)) (10 * s.admitMark) ∧
    s.releaseMark20 ≤ 17 * (s.sluiceD * 2 ^ 30) ∧
    (20 ≤ s.sluiceD → s.releaseMark20 = 17 * (s.sluiceD * 2 ^ 30) ∧ s.highMark10 = 9 * (s.sluiceD * 2 ^ 30)) ∧
    s.releaseMark20 = min (17 * (s.sluiceD * 2 ^ 30)) (2 * s.highMark10 - 20 * 2 ^ 30) ∧
    (∀ b : Nat, ¬ (s.highMark10 ≤ 10 * b ∧ 20 * b < s.releaseMark20))

/-- When (v - p) mod 2^32 is 0, or 2^31 or more, an advance that may start changes nothing of the stream or of anything else but its own operation, which completes with SUCCESS. -/
def Obligations.ReissuedStreamAdvanceIsHarmless : Prop :=
  ∀ (q seq j : Nat) (o : OpRec) (s : State), s.mayStart q seq 0x21 = some o →
    s.streamOfHandle (dbits o.desc 12 0 16) (s.queue q).tenant = some j → (s.stream j).pos < 2 ^ 32 →
    (dbits o.desc 16 0 32 = (s.stream j).pos ∨ 2 ^ 31 ≤ (dbits o.desc 16 0 32 + 2 ^ 32 - (s.stream j).pos) % 2 ^ 32) →
    exec (.streamAdvance q seq) s = .next (s.completeOp q o St.SUCCESS 0 0 0 []).settle

/-- An accepted write leaves every byte outside its line as it was. A poisoned write changes no byte. A write of a whole line that is no atomic makes each byte of the line read as written. A write of part of a line makes each byte it enables read as the data, which for an atomic is its result and else the data carried, and leaves or zeroes each other byte, or, where it is refused, changes no byte. -/
def Obligations.AcceptedWriteTouchesOnlyItsLine : Prop :=
  ∀ (w : WriteReq) (s : State), Memory.wf s.mem = true →
    (∀ a : Nat, a / 256 ≠ w.line → (s.acceptWrite w).byte a = s.byte a) ∧
    (w.poison = true → (s.acceptWrite w).mem = s.mem) ∧
    (w.poison = false → w.atomic = none → w.mask = fullMask → ∀ a : Nat, a / 256 = w.line → (s.acceptWrite w).byte a = lineByte w.data (a % 256)) ∧
    (w.poison = false → ∃ d : LineData, (w.atomic = none → d = w.data) ∧ ((s.acceptWrite w).mem = s.mem ∨ ∀ a : Nat, a / 256 = w.line →
      (w.mask.getLsbD (a % 256) = true → (s.acceptWrite w).byte a = lineByte d (a % 256)) ∧
      (w.mask.getLsbD (a % 256) = false → (s.acceptWrite w).byte a = s.byte a ∨ (s.acceptWrite w).byte a = 0)))

/-- Brought in line with the mode, DUR_LEVEL reads TWIN in PAIRED and DRAIN, LOCAL in SOLO, RESYNC and TAKEOVER, its value before in SAVE and QUARANTINE, and NONE in every other mode; TWIN_COMPLETE is suspended in SOLO, RESYNC and TAKEOVER. -/
def Obligations.DurabilityLevelFollowsTheMode : Prop :=
  ∀ s : State, s.Sound →
    (s.mode = .paired ∨ s.mode = .drain → s.syncDur.get F.PLD_DUR_STATE_DUR_LEVEL = 2) ∧
    (s.mode = .solo ∨ s.mode = .resync ∨ s.mode = .takeover → s.syncDur.get F.PLD_DUR_STATE_DUR_LEVEL = 1 ∧
      s.syncDur.get F.PLD_DUR_STATE_TWIN_COMPLETE_SUSPENDED = 1) ∧
    (s.mode = .save ∨ s.mode = .quarantine → s.syncDur.get F.PLD_DUR_STATE_DUR_LEVEL = s.get F.PLD_DUR_STATE_DUR_LEVEL % 4) ∧
    (s.mode ≠ .paired → s.mode ≠ .drain → s.mode ≠ .solo → s.mode ≠ .resync → s.mode ≠ .takeover → s.mode ≠ .save → s.mode ≠ .quarantine →
      s.syncDur.get F.PLD_DUR_STATE_DUR_LEVEL = 0)

/-- A QUEUE_ID has the queue's number in bits 23 to 0, its kind in bit 24, the owner side in bit 25, zero in bits 31 to 26 and the incarnation, modulo 2^32, in bits 63 to 32. -/
def Obligations.QueueIdHoldsItsFields : Prop :=
  ∀ (s : State) (q : Nat), s.side ≤ 1 → q < 2 ^ 25 →
    s.queueId q % 2 ^ 24 = q % 2 ^ 24 ∧ s.queueId q / 2 ^ 24 % 2 = q / 2 ^ 24 ∧ s.queueId q / 2 ^ 25 % 2 = s.queueSide q ∧
    s.queueId q / 2 ^ 26 % 2 ^ 6 = 0 ∧ s.queueId q / 2 ^ 32 = (s.queue q).incarnation % 2 ^ 32

/-- Acknowledging an ACTIVE source makes it IDLE, or ACKED where it is a level source whose condition persists; a source in another state is left alone. When its condition ends, an ACKED source becomes IDLE and any other keeps its state. Nothing but the register file and the collector changes, no entry is queued, and FAULT_N's latch is never set. -/
def Obligations.AcknowledgementClearsOrHolds : Prop :=
  ∀ (s : State) (n : Nat), s.Sound →
    (s.srcState n = 1 → isLevel n = true → Sparse.get 0 n s.fc.cond ≠ 0 → (s.ackSource n).srcState n = 2) ∧
    (s.srcState n = 1 → isLevel n = false ∨ Sparse.get 0 n s.fc.cond = 0 → (s.ackSource n).srcState n = 0) ∧
    (s.srcState n ≠ 1 → s.ackSource n = s) ∧
    (s.srcState n = 2 → (s.endCond n).srcState n = 0) ∧ (s.srcState n ≠ 2 → (s.endCond n).srcState n = s.srcState n) ∧
    s.ackSource n = { s with regs := (s.ackSource n).regs, fc := { s.fc with latch := (s.ackSource n).fc.latch } } ∧
    ((s.ackSource n).fc.latch = true → s.fc.latch = true) ∧
    (s.endCond n).fc.queue = s.fc.queue ∧ ((s.endCond n).fc.latch = true → s.fc.latch = true)
end

