-- ==== Sys2Proof/Laws/Bytes.lean ====
section
/-! SUPPORT. The bytes of a line's data: the data of a line in memory gives back each of its bytes. -/

namespace Sys2Proof.Machine

open Sys2Proof

/-- Bytes put together at rising places stay below the next place, and each is read back from its own. -/
theorem foldl_bytes (f : Nat → Byte) (n : Nat) :
    (List.range n).foldl (fun m i => m + (f i).toNat * 2 ^ (8 * i)) 0 < 2 ^ (8 * n) ∧
    ∀ i, i < n → (List.range n).foldl (fun m i => m + (f i).toNat * 2 ^ (8 * i)) 0 / 2 ^ (8 * i) % 256 = (f i).toNat := by
  induction n with
  | zero => simp
  | succ n ih =>
    rw [List.range_succ, List.foldl_append]
    simp only [List.foldl_cons, List.foldl_nil]
    generalize (List.range n).foldl (fun m i => m + (f i).toNat * 2 ^ (8 * i)) 0 = t at ih
    have hb : (f n).toNat < 256 := (f n).isLt
    refine ⟨?_, fun i hi => ?_⟩
    · have : 2 ^ (8 * (n + 1)) = 2 ^ (8 * n) * 256 := by rw [Nat.mul_add, Nat.pow_add]
      nlinarith [ih.1]
    · rcases Nat.lt_succ_iff_lt_or_eq.1 hi with h | rfl
      · obtain ⟨k, hk⟩ : ∃ k, 8 * n = 8 * i + (8 + k) := ⟨8 * n - 8 * i - 8, by omega⟩
        have e : (f n).toNat * 2 ^ (8 * n) = 2 ^ (8 * i) * (256 * ((f n).toNat * 2 ^ k)) := by rw [hk, Nat.pow_add, Nat.pow_add]; ring
        rw [e, Nat.add_mul_div_left _ _ (Nat.pow_pos (by omega)), Nat.add_mul_mod_self_left]
        exact ih.2 i h
      · rw [Nat.add_mul_div_right _ _ (Nat.pow_pos (by omega)), Nat.div_eq_of_lt ih.1, Nat.zero_add, Nat.mod_eq_of_lt hb]

/-- Byte `i` of the data of a line is the byte of memory at its place. -/
@[simp] theorem lineByte_lineData (s : State) (line i : Nat) (hi : i < 256) : lineByte (s.lineData line) i = s.byte (line * 256 + i) := by
  obtain ⟨h1, h2⟩ := foldl_bytes (fun i => s.byte (line * 256 + i)) 256
  specialize h2 i hi
  unfold lineByte State.lineData
  generalize (List.range 256).foldl (fun m i => m + (s.byte (line * 256 + i)).toNat * 2 ^ (8 * i)) 0 = x at h1 h2
  rw [show 8 * 256 = 2048 from rfl] at h1
  apply BitVec.eq_of_toNat_eq
  rw [BitVec.extractLsb'_toNat, BitVec.toNat_ofNat, Nat.mod_eq_of_lt h1, Nat.shiftRight_eq_div_pow]
  exact h2

end Sys2Proof.Machine
end

