-- ==== Sys2Proof/Laws/Sparse.lean ====
section
/-! SUPPORT. What the sparse tables keep: a set, an insertion, an erasure and a clearing keep the keys rising and no entry at its default, and
what a key reads as after each. -/

namespace Sys2Proof.Sparse

variable {α : Type}

/-- The keys of a table are strictly rising. -/
abbrev Rising (t : Sparse α) : Prop := t.Pairwise fun (e f : Nat × α) => e.1 < f.1

theorem above_iff (b : Nat) (t : Sparse α) : above b t = true ↔ ∀ e ∈ t, b < e.1 := by
  induction t with
  | nil => simp [above]
  | cons e t ih => simp [above, ih]

theorem wf_iff [DecidableEq α] (d : Nat → α) (t : Sparse α) :
    wf d t = true ↔ Rising t ∧ ∀ e ∈ t, e.2 ≠ d e.1 := by
  induction t with
  | nil => simp [wf]
  | cons e t ih =>
    simp only [wf, Bool.and_eq_true, decide_eq_true_eq, ih, above_iff, List.pairwise_cons, List.forall_mem_cons]
    tauto

theorem mem_erase {k : Nat} {t : Sparse α} {e : Nat × α} (h : e ∈ erase k t) : e ∈ t := by
  induction t with
  | nil => simp [erase] at h
  | cons f t ih =>
    simp only [erase] at h
    split at h
    · exact List.mem_cons_of_mem _ h
    · split at h
      · exact h
      · rcases List.mem_cons.1 h with rfl | h
        · simp
        · exact List.mem_cons_of_mem _ (ih h)

theorem mem_insert {k : Nat} {v : α} {t : Sparse α} {e : Nat × α} (h : e ∈ insert k v t) : e = (k, v) ∨ e ∈ t := by
  induction t with
  | nil => simpa [insert] using h
  | cons f t ih =>
    simp only [insert] at h
    split at h
    · rcases List.mem_cons.1 h with rfl | h
      · simp
      · exact .inr (List.mem_cons_of_mem _ h)
    · split at h
      · rcases List.mem_cons.1 h with rfl | h
        · simp
        · exact .inr h
      · rcases List.mem_cons.1 h with rfl | h
        · simp
        · exact (ih h).imp_right (List.mem_cons_of_mem _)

theorem rising_erase {k : Nat} {t : Sparse α} (h : Rising t) : Rising (erase k t) := by
  induction t with
  | nil => simp [erase]
  | cons e t ih =>
    have h' := List.pairwise_cons.1 h
    simp only [erase]
    split
    · exact h'.2
    · split
      · exact h
      · exact List.pairwise_cons.2 ⟨fun f hf => h'.1 f (mem_erase hf), ih h'.2⟩

theorem rising_insert {k : Nat} {v : α} {t : Sparse α} (h : Rising t) : Rising (insert k v t) := by
  induction t with
  | nil => simp [insert]
  | cons e t ih =>
    have h' := List.pairwise_cons.1 h
    simp only [insert]
    split
    · rename_i hk
      exact List.pairwise_cons.2 ⟨fun f hf => hk ▸ h'.1 f hf, h'.2⟩
    · split
      · rename_i hk
        refine List.pairwise_cons.2 ⟨fun f hf => ?_, h⟩
        rcases List.mem_cons.1 hf with rfl | hf
        · exact hk
        · exact hk.trans (h'.1 f hf)
      · refine List.pairwise_cons.2 ⟨fun f hf => ?_, ih h'.2⟩
        rcases mem_insert hf with rfl | hf
        · show e.1 < k; omega
        · exact h'.1 f hf

theorem rising_set [DecidableEq α] {d : α} {k : Nat} {v : α} {t : Sparse α} (h : Rising t) : Rising (set d k v t) := by
  unfold set; split
  · exact rising_erase h
  · exact rising_insert h

theorem wf_set [DecidableEq α] {d : α} {k : Nat} {v : α} {t : Sparse α} (h : wf (fun _ => d) t = true) :
    wf (fun _ => d) (set d k v t) = true := by
  rw [wf_iff] at h ⊢
  refine ⟨rising_set h.1, fun e he => ?_⟩
  unfold set at he; split at he
  · exact h.2 e (mem_erase he)
  · rename_i hv
    rcases mem_insert he with rfl | he
    · exact hv
    · exact h.2 e he

theorem wf_setAll [DecidableEq α] {d : α} (es : List (Nat × α)) {t : Sparse α} (h : wf (fun _ => d) t = true) :
    wf (fun _ => d) (setAll d es t) = true := by
  induction es generalizing t with
  | nil => exact h
  | cons e es ih => exact ih (wf_set h)

theorem wf_filter [DecidableEq α] {d : Nat → α} (p : Nat × α → Bool) {t : Sparse α} (h : wf d t = true) :
    wf d (t.filter p) = true := by
  rw [wf_iff] at h ⊢
  exact ⟨h.1.filter p, fun e he => h.2 e (List.mem_of_mem_filter he)⟩

theorem wf_clear [DecidableEq α] {d : Nat → α} {lo hi : Nat} {t : Sparse α} (h : wf d t = true) : wf d (clear lo hi t) = true :=
  wf_filter _ h

/-- A table each of whose entries keeps its key, or goes where its new value is the default. -/
theorem wf_filterMap [DecidableEq α] {d : α} (g : α → α) {t : Sparse α} (h : wf (fun _ => d) t = true) :
    wf (fun _ => d) (t.filterMap fun e => if g e.2 = d then none else some (e.1, g e.2)) = true := by
  rw [wf_iff] at h ⊢
  refine ⟨?_, fun e he => ?_⟩
  · refine List.Pairwise.filterMap _ (fun a b hab x hx y hy => ?_) h.1
    simp only [Option.ite_none_left_eq_some, Option.some.injEq] at hx hy
    obtain ⟨_, rfl⟩ := hx
    obtain ⟨_, rfl⟩ := hy
    exact hab
  · obtain ⟨a, _, ha⟩ := List.mem_filterMap.1 he
    simp only [Option.ite_none_left_eq_some, Option.some.injEq] at ha
    obtain ⟨hv, rfl⟩ := ha
    exact hv

theorem get_of_lt {d : α} {k : Nat} {t : Sparse α} (h : ∀ e ∈ t, k < e.1) : get d k t = d := by
  cases t with
  | nil => rfl
  | cons e t =>
    have := h e (by simp)
    simp only [get]
    rw [if_neg (by omega), if_pos this]

theorem get_erase {d : α} {k j : Nat} {t : Sparse α} (h : Rising t) : get d j (erase k t) = if j = k then d else get d j t := by
  induction t with
  | nil => simp [erase, get]
  | cons e t ih =>
    have h' := List.pairwise_cons.1 h
    simp only [erase]
    split
    · rename_i hk
      split
      · rename_i hj
        exact get_of_lt fun f hf => by have := h'.1 f hf; omega
      · rename_i hj
        simp only [get]
        rw [if_neg (by omega)]
        split
        · exact get_of_lt fun f hf => by have := h'.1 f hf; omega
        · rfl
    · split
      · rename_i h1 h2
        split
        · simp only [get]; rw [if_neg (by omega), if_pos (by omega)]
        · rfl
      · rename_i h1 h2
        simp only [get, ih h'.2]
        split
        · rw [if_neg (by omega)]
        · split
          · split <;> rfl
          · rfl

theorem get_erase_ne {d : α} {k j : Nat} {t : Sparse α} (h : Rising t) (hj : j ≠ k) : get d j (erase k t) = get d j t := by
  rw [get_erase h, if_neg hj]

theorem get_insert {d : α} {k j : Nat} {v : α} {t : Sparse α} (h : Rising t) :
    get d j (insert k v t) = if j = k then v else get d j t := by
  induction t with
  | nil => simp only [insert, get]; split_ifs <;> first | rfl | (exfalso; omega)
  | cons e t ih =>
    have h' := List.pairwise_cons.1 h
    simp only [insert]
    split_ifs <;> simp only [get, ih h'.2] <;> split_ifs <;> first | rfl | (exfalso; omega)

/-- What a key reads as after a set: the value at its own key, and as before at every other. -/
theorem get_set [DecidableEq α] {d : α} {k j : Nat} {v : α} {t : Sparse α} (h : Rising t) :
    get d j (set d k v t) = if j = k then v else get d j t := by
  unfold set; split
  · rename_i hv; rw [get_erase h, hv]
  · exact get_insert h

theorem get_set_ne [DecidableEq α] {d d' : α} {k j : Nat} {v : α} {t : Sparse α} (h : Rising t) (hj : j ≠ k) :
    get d' j (set d k v t) = get d' j t := by
  unfold set; split
  · rw [get_erase_ne h hj]
  · rw [get_insert h, if_neg hj]

/-- What a key reads as after a range of keys is cleared. -/
theorem get_clear {d : α} {lo hi j : Nat} {t : Sparse α} (h : Rising t) :
    get d j (clear lo hi t) = if lo ≤ j ∧ j < hi then d else get d j t := by
  induction t with
  | nil => simp [clear, get]
  | cons e t ih =>
    have h' := List.pairwise_cons.1 h
    have ih := ih h'.2
    simp only [clear, List.filter_cons] at ih ⊢
    split
    · rename_i he
      simp only [get]
      split_ifs <;> first | rfl | (exfalso; simp at he; omega) | (rw [ih]; split_ifs; rfl)
    · rename_i he
      rw [ih]
      simp only [get]
      split_ifs <;> first | rfl | (exfalso; simp at he; omega) | skip
      exact get_of_lt fun f hf => by have := h'.1 f hf; omega

end Sys2Proof.Sparse
end

