-- ==== Sys2Proof/Laws/State.lean ====
section
/-! SUPPORT. What each update of the state leaves alone: one lemma for each field, true by unfolding the update. -/

namespace Sys2Proof.Machine

open Sys2Proof

set_option Elab.async false

@[simp] theorem State.put_pending (f : Fld) (v : Nat) (s : State) : (s.put f v).pending = s.pending := rfl
@[simp] theorem State.put_now (f : Fld) (v : Nat) (s : State) : (s.put f v).now = s.now := rfl
@[simp] theorem State.put_draws (f : Fld) (v : Nat) (s : State) : (s.put f v).draws = s.draws := rfl
@[simp] theorem State.put_mode (f : Fld) (v : Nat) (s : State) : (s.put f v).mode = s.mode := rfl
@[simp] theorem State.put_latches (f : Fld) (v : Nat) (s : State) : (s.put f v).latches = s.latches := rfl
@[simp] theorem State.put_mem (f : Fld) (v : Nat) (s : State) : (s.put f v).mem = s.mem := rfl
@[simp] theorem State.put_deep (f : Fld) (v : Nat) (s : State) : (s.put f v).deep = s.deep := rfl
@[simp] theorem State.put_lines (f : Fld) (v : Nat) (s : State) : (s.put f v).lines = s.lines := rfl
@[simp] theorem State.put_deepLines (f : Fld) (v : Nat) (s : State) : (s.put f v).deepLines = s.deepLines := rfl
@[simp] theorem State.put_out (f : Fld) (v : Nat) (s : State) : (s.put f v).out = s.out := rfl
@[simp] theorem State.put_fc (f : Fld) (v : Nat) (s : State) : (s.put f v).fc = s.fc := rfl
@[simp] theorem State.put_front (f : Fld) (v : Nat) (s : State) : (s.put f v).front = s.front := rfl
@[simp] theorem State.put_victims (f : Fld) (v : Nat) (s : State) : (s.put f v).victims = s.victims := rfl
@[simp] theorem State.put_rotPtr (f : Fld) (v : Nat) (s : State) : (s.put f v).rotPtr = s.rotPtr := rfl
@[simp] theorem State.put_writes (f : Fld) (v : Nat) (s : State) : (s.put f v).writes = s.writes := rfl
@[simp] theorem State.put_reads (f : Fld) (v : Nat) (s : State) : (s.put f v).reads = s.reads := rfl
@[simp] theorem State.put_ingress (f : Fld) (v : Nat) (s : State) : (s.put f v).ingress = s.ingress := rfl
@[simp] theorem State.put_nextId (f : Fld) (v : Nat) (s : State) : (s.put f v).nextId = s.nextId := rfl
@[simp] theorem State.put_regions (f : Fld) (v : Nat) (s : State) : (s.put f v).regions = s.regions := rfl
@[simp] theorem State.put_lds (f : Fld) (v : Nat) (s : State) : (s.put f v).lds = s.lds := rfl
@[simp] theorem State.put_wins (f : Fld) (v : Nat) (s : State) : (s.put f v).wins = s.wins := rfl
@[simp] theorem State.put_links (f : Fld) (v : Nat) (s : State) : (s.put f v).links = s.links := rfl
@[simp] theorem State.put_ports (f : Fld) (v : Nat) (s : State) : (s.put f v).ports = s.ports := rfl
@[simp] theorem State.put_poisonOverflow (f : Fld) (v : Nat) (s : State) : (s.put f v).poisonOverflow = s.poisonOverflow := rfl
@[simp] theorem State.put_loadHist (f : Fld) (v : Nat) (s : State) : (s.put f v).loadHist = s.loadHist := rfl
@[simp] theorem State.put_merges (f : Fld) (v : Nat) (s : State) : (s.put f v).merges = s.merges := rfl
@[simp] theorem State.put_failed (f : Fld) (v : Nat) (s : State) : (s.put f v).failed = s.failed := rfl
@[simp] theorem State.put_fp (f : Fld) (v : Nat) (s : State) : (s.put f v).fp = s.fp := rfl
@[simp] theorem State.put_cul (f : Fld) (v : Nat) (s : State) : (s.put f v).cul = s.cul := rfl
@[simp] theorem State.put_ks (f : Fld) (v : Nat) (s : State) : (s.put f v).ks = s.ks := rfl
@[simp] theorem State.put_cry (f : Fld) (v : Nat) (s : State) : (s.put f v).cry = s.cry := rfl
@[simp] theorem State.put_cw (f : Fld) (v : Nat) (s : State) : (s.put f v).cw = s.cw := rfl
@[simp] theorem State.put_wit (f : Fld) (v : Nat) (s : State) : (s.put f v).wit = s.wit := rfl
@[simp] theorem State.put_berm (f : Fld) (v : Nat) (s : State) : (s.put f v).berm = s.berm := rfl
@[simp] theorem State.put_queues (f : Fld) (v : Nat) (s : State) : (s.put f v).queues = s.queues := rfl
@[simp] theorem State.put_scopes (f : Fld) (v : Nat) (s : State) : (s.put f v).scopes = s.scopes := rfl
@[simp] theorem State.put_ssb (f : Fld) (v : Nat) (s : State) : (s.put f v).ssb = s.ssb := rfl
@[simp] theorem State.put_dram (f : Fld) (v : Nat) (s : State) : (s.put f v).dram = s.dram := rfl
@[simp] theorem State.put_fl (f : Fld) (v : Nat) (s : State) : (s.put f v).fl = s.fl := rfl
@[simp] theorem State.put_pw (f : Fld) (v : Nat) (s : State) : (s.put f v).pw = s.pw := rfl
@[simp] theorem State.put_eth (f : Fld) (v : Nat) (s : State) : (s.put f v).eth = s.eth := rfl
@[simp] theorem State.put_kg (f : Fld) (v : Nat) (s : State) : (s.put f v).kg = s.kg := rfl
@[simp] theorem State.put_rv (f : Fld) (v : Nat) (s : State) : (s.put f v).rv = s.rv := rfl

@[simp] theorem State.bump_pending (f : Fld) (n : Nat) (s : State) : (s.bump f n).pending = s.pending := rfl
@[simp] theorem State.bump_now (f : Fld) (n : Nat) (s : State) : (s.bump f n).now = s.now := rfl
@[simp] theorem State.bump_draws (f : Fld) (n : Nat) (s : State) : (s.bump f n).draws = s.draws := rfl
@[simp] theorem State.bump_mode (f : Fld) (n : Nat) (s : State) : (s.bump f n).mode = s.mode := rfl
@[simp] theorem State.bump_latches (f : Fld) (n : Nat) (s : State) : (s.bump f n).latches = s.latches := rfl
@[simp] theorem State.bump_mem (f : Fld) (n : Nat) (s : State) : (s.bump f n).mem = s.mem := rfl
@[simp] theorem State.bump_deep (f : Fld) (n : Nat) (s : State) : (s.bump f n).deep = s.deep := rfl
@[simp] theorem State.bump_lines (f : Fld) (n : Nat) (s : State) : (s.bump f n).lines = s.lines := rfl
@[simp] theorem State.bump_deepLines (f : Fld) (n : Nat) (s : State) : (s.bump f n).deepLines = s.deepLines := rfl
@[simp] theorem State.bump_out (f : Fld) (n : Nat) (s : State) : (s.bump f n).out = s.out := rfl
@[simp] theorem State.bump_fc (f : Fld) (n : Nat) (s : State) : (s.bump f n).fc = s.fc := rfl
@[simp] theorem State.bump_front (f : Fld) (n : Nat) (s : State) : (s.bump f n).front = s.front := rfl
@[simp] theorem State.bump_victims (f : Fld) (n : Nat) (s : State) : (s.bump f n).victims = s.victims := rfl
@[simp] theorem State.bump_rotPtr (f : Fld) (n : Nat) (s : State) : (s.bump f n).rotPtr = s.rotPtr := rfl
@[simp] theorem State.bump_writes (f : Fld) (n : Nat) (s : State) : (s.bump f n).writes = s.writes := rfl
@[simp] theorem State.bump_reads (f : Fld) (n : Nat) (s : State) : (s.bump f n).reads = s.reads := rfl
@[simp] theorem State.bump_ingress (f : Fld) (n : Nat) (s : State) : (s.bump f n).ingress = s.ingress := rfl
@[simp] theorem State.bump_nextId (f : Fld) (n : Nat) (s : State) : (s.bump f n).nextId = s.nextId := rfl
@[simp] theorem State.bump_regions (f : Fld) (n : Nat) (s : State) : (s.bump f n).regions = s.regions := rfl
@[simp] theorem State.bump_lds (f : Fld) (n : Nat) (s : State) : (s.bump f n).lds = s.lds := rfl
@[simp] theorem State.bump_wins (f : Fld) (n : Nat) (s : State) : (s.bump f n).wins = s.wins := rfl
@[simp] theorem State.bump_links (f : Fld) (n : Nat) (s : State) : (s.bump f n).links = s.links := rfl
@[simp] theorem State.bump_ports (f : Fld) (n : Nat) (s : State) : (s.bump f n).ports = s.ports := rfl
@[simp] theorem State.bump_poisonOverflow (f : Fld) (n : Nat) (s : State) : (s.bump f n).poisonOverflow = s.poisonOverflow := rfl
@[simp] theorem State.bump_loadHist (f : Fld) (n : Nat) (s : State) : (s.bump f n).loadHist = s.loadHist := rfl
@[simp] theorem State.bump_merges (f : Fld) (n : Nat) (s : State) : (s.bump f n).merges = s.merges := rfl
@[simp] theorem State.bump_failed (f : Fld) (n : Nat) (s : State) : (s.bump f n).failed = s.failed := rfl
@[simp] theorem State.bump_fp (f : Fld) (n : Nat) (s : State) : (s.bump f n).fp = s.fp := rfl
@[simp] theorem State.bump_cul (f : Fld) (n : Nat) (s : State) : (s.bump f n).cul = s.cul := rfl
@[simp] theorem State.bump_ks (f : Fld) (n : Nat) (s : State) : (s.bump f n).ks = s.ks := rfl
@[simp] theorem State.bump_cry (f : Fld) (n : Nat) (s : State) : (s.bump f n).cry = s.cry := rfl
@[simp] theorem State.bump_cw (f : Fld) (n : Nat) (s : State) : (s.bump f n).cw = s.cw := rfl
@[simp] theorem State.bump_wit (f : Fld) (n : Nat) (s : State) : (s.bump f n).wit = s.wit := rfl
@[simp] theorem State.bump_berm (f : Fld) (n : Nat) (s : State) : (s.bump f n).berm = s.berm := rfl
@[simp] theorem State.bump_queues (f : Fld) (n : Nat) (s : State) : (s.bump f n).queues = s.queues := rfl
@[simp] theorem State.bump_scopes (f : Fld) (n : Nat) (s : State) : (s.bump f n).scopes = s.scopes := rfl
@[simp] theorem State.bump_ssb (f : Fld) (n : Nat) (s : State) : (s.bump f n).ssb = s.ssb := rfl
@[simp] theorem State.bump_dram (f : Fld) (n : Nat) (s : State) : (s.bump f n).dram = s.dram := rfl
@[simp] theorem State.bump_fl (f : Fld) (n : Nat) (s : State) : (s.bump f n).fl = s.fl := rfl
@[simp] theorem State.bump_pw (f : Fld) (n : Nat) (s : State) : (s.bump f n).pw = s.pw := rfl
@[simp] theorem State.bump_eth (f : Fld) (n : Nat) (s : State) : (s.bump f n).eth = s.eth := rfl
@[simp] theorem State.bump_kg (f : Fld) (n : Nat) (s : State) : (s.bump f n).kg = s.kg := rfl
@[simp] theorem State.bump_rv (f : Fld) (n : Nat) (s : State) : (s.bump f n).rv = s.rv := rfl

@[simp] theorem State.emit_pending (o : Output) (s : State) : (s.emit o).pending = s.pending := rfl
@[simp] theorem State.emit_now (o : Output) (s : State) : (s.emit o).now = s.now := rfl
@[simp] theorem State.emit_draws (o : Output) (s : State) : (s.emit o).draws = s.draws := rfl
@[simp] theorem State.emit_mode (o : Output) (s : State) : (s.emit o).mode = s.mode := rfl
@[simp] theorem State.emit_regs (o : Output) (s : State) : (s.emit o).regs = s.regs := rfl
@[simp] theorem State.emit_latches (o : Output) (s : State) : (s.emit o).latches = s.latches := rfl
@[simp] theorem State.emit_mem (o : Output) (s : State) : (s.emit o).mem = s.mem := rfl
@[simp] theorem State.emit_deep (o : Output) (s : State) : (s.emit o).deep = s.deep := rfl
@[simp] theorem State.emit_lines (o : Output) (s : State) : (s.emit o).lines = s.lines := rfl
@[simp] theorem State.emit_deepLines (o : Output) (s : State) : (s.emit o).deepLines = s.deepLines := rfl
@[simp] theorem State.emit_fc (o : Output) (s : State) : (s.emit o).fc = s.fc := rfl
@[simp] theorem State.emit_front (o : Output) (s : State) : (s.emit o).front = s.front := rfl
@[simp] theorem State.emit_victims (o : Output) (s : State) : (s.emit o).victims = s.victims := rfl
@[simp] theorem State.emit_rotPtr (o : Output) (s : State) : (s.emit o).rotPtr = s.rotPtr := rfl
@[simp] theorem State.emit_writes (o : Output) (s : State) : (s.emit o).writes = s.writes := rfl
@[simp] theorem State.emit_reads (o : Output) (s : State) : (s.emit o).reads = s.reads := rfl
@[simp] theorem State.emit_ingress (o : Output) (s : State) : (s.emit o).ingress = s.ingress := rfl
@[simp] theorem State.emit_nextId (o : Output) (s : State) : (s.emit o).nextId = s.nextId := rfl
@[simp] theorem State.emit_regions (o : Output) (s : State) : (s.emit o).regions = s.regions := rfl
@[simp] theorem State.emit_lds (o : Output) (s : State) : (s.emit o).lds = s.lds := rfl
@[simp] theorem State.emit_wins (o : Output) (s : State) : (s.emit o).wins = s.wins := rfl
@[simp] theorem State.emit_links (o : Output) (s : State) : (s.emit o).links = s.links := rfl
@[simp] theorem State.emit_ports (o : Output) (s : State) : (s.emit o).ports = s.ports := rfl
@[simp] theorem State.emit_poisonOverflow (o : Output) (s : State) : (s.emit o).poisonOverflow = s.poisonOverflow := rfl
@[simp] theorem State.emit_loadHist (o : Output) (s : State) : (s.emit o).loadHist = s.loadHist := rfl
@[simp] theorem State.emit_merges (o : Output) (s : State) : (s.emit o).merges = s.merges := rfl
@[simp] theorem State.emit_failed (o : Output) (s : State) : (s.emit o).failed = s.failed := rfl
@[simp] theorem State.emit_fp (o : Output) (s : State) : (s.emit o).fp = s.fp := rfl
@[simp] theorem State.emit_cul (o : Output) (s : State) : (s.emit o).cul = s.cul := rfl
@[simp] theorem State.emit_ks (o : Output) (s : State) : (s.emit o).ks = s.ks := rfl
@[simp] theorem State.emit_cry (o : Output) (s : State) : (s.emit o).cry = s.cry := rfl
@[simp] theorem State.emit_cw (o : Output) (s : State) : (s.emit o).cw = s.cw := rfl
@[simp] theorem State.emit_wit (o : Output) (s : State) : (s.emit o).wit = s.wit := rfl
@[simp] theorem State.emit_berm (o : Output) (s : State) : (s.emit o).berm = s.berm := rfl
@[simp] theorem State.emit_queues (o : Output) (s : State) : (s.emit o).queues = s.queues := rfl
@[simp] theorem State.emit_scopes (o : Output) (s : State) : (s.emit o).scopes = s.scopes := rfl
@[simp] theorem State.emit_ssb (o : Output) (s : State) : (s.emit o).ssb = s.ssb := rfl
@[simp] theorem State.emit_dram (o : Output) (s : State) : (s.emit o).dram = s.dram := rfl
@[simp] theorem State.emit_fl (o : Output) (s : State) : (s.emit o).fl = s.fl := rfl
@[simp] theorem State.emit_pw (o : Output) (s : State) : (s.emit o).pw = s.pw := rfl
@[simp] theorem State.emit_eth (o : Output) (s : State) : (s.emit o).eth = s.eth := rfl
@[simp] theorem State.emit_kg (o : Output) (s : State) : (s.emit o).kg = s.kg := rfl
@[simp] theorem State.emit_rv (o : Output) (s : State) : (s.emit o).rv = s.rv := rfl

@[simp] theorem State.draw_pending (w : Nat) (s : State) : (s.draw w).2.pending = s.pending := rfl
@[simp] theorem State.draw_now (w : Nat) (s : State) : (s.draw w).2.now = s.now := rfl
@[simp] theorem State.draw_mode (w : Nat) (s : State) : (s.draw w).2.mode = s.mode := rfl
@[simp] theorem State.draw_regs (w : Nat) (s : State) : (s.draw w).2.regs = s.regs := rfl
@[simp] theorem State.draw_latches (w : Nat) (s : State) : (s.draw w).2.latches = s.latches := rfl
@[simp] theorem State.draw_mem (w : Nat) (s : State) : (s.draw w).2.mem = s.mem := rfl
@[simp] theorem State.draw_deep (w : Nat) (s : State) : (s.draw w).2.deep = s.deep := rfl
@[simp] theorem State.draw_lines (w : Nat) (s : State) : (s.draw w).2.lines = s.lines := rfl
@[simp] theorem State.draw_deepLines (w : Nat) (s : State) : (s.draw w).2.deepLines = s.deepLines := rfl
@[simp] theorem State.draw_out (w : Nat) (s : State) : (s.draw w).2.out = s.out := rfl
@[simp] theorem State.draw_fc (w : Nat) (s : State) : (s.draw w).2.fc = s.fc := rfl
@[simp] theorem State.draw_front (w : Nat) (s : State) : (s.draw w).2.front = s.front := rfl
@[simp] theorem State.draw_victims (w : Nat) (s : State) : (s.draw w).2.victims = s.victims := rfl
@[simp] theorem State.draw_rotPtr (w : Nat) (s : State) : (s.draw w).2.rotPtr = s.rotPtr := rfl
@[simp] theorem State.draw_writes (w : Nat) (s : State) : (s.draw w).2.writes = s.writes := rfl
@[simp] theorem State.draw_reads (w : Nat) (s : State) : (s.draw w).2.reads = s.reads := rfl
@[simp] theorem State.draw_ingress (w : Nat) (s : State) : (s.draw w).2.ingress = s.ingress := rfl
@[simp] theorem State.draw_nextId (w : Nat) (s : State) : (s.draw w).2.nextId = s.nextId := rfl
@[simp] theorem State.draw_regions (w : Nat) (s : State) : (s.draw w).2.regions = s.regions := rfl
@[simp] theorem State.draw_lds (w : Nat) (s : State) : (s.draw w).2.lds = s.lds := rfl
@[simp] theorem State.draw_wins (w : Nat) (s : State) : (s.draw w).2.wins = s.wins := rfl
@[simp] theorem State.draw_links (w : Nat) (s : State) : (s.draw w).2.links = s.links := rfl
@[simp] theorem State.draw_ports (w : Nat) (s : State) : (s.draw w).2.ports = s.ports := rfl
@[simp] theorem State.draw_poisonOverflow (w : Nat) (s : State) : (s.draw w).2.poisonOverflow = s.poisonOverflow := rfl
@[simp] theorem State.draw_loadHist (w : Nat) (s : State) : (s.draw w).2.loadHist = s.loadHist := rfl
@[simp] theorem State.draw_merges (w : Nat) (s : State) : (s.draw w).2.merges = s.merges := rfl
@[simp] theorem State.draw_failed (w : Nat) (s : State) : (s.draw w).2.failed = s.failed := rfl
@[simp] theorem State.draw_fp (w : Nat) (s : State) : (s.draw w).2.fp = s.fp := rfl
@[simp] theorem State.draw_cul (w : Nat) (s : State) : (s.draw w).2.cul = s.cul := rfl
@[simp] theorem State.draw_ks (w : Nat) (s : State) : (s.draw w).2.ks = s.ks := rfl
@[simp] theorem State.draw_cry (w : Nat) (s : State) : (s.draw w).2.cry = s.cry := rfl
@[simp] theorem State.draw_cw (w : Nat) (s : State) : (s.draw w).2.cw = s.cw := rfl
@[simp] theorem State.draw_wit (w : Nat) (s : State) : (s.draw w).2.wit = s.wit := rfl
@[simp] theorem State.draw_berm (w : Nat) (s : State) : (s.draw w).2.berm = s.berm := rfl
@[simp] theorem State.draw_queues (w : Nat) (s : State) : (s.draw w).2.queues = s.queues := rfl
@[simp] theorem State.draw_scopes (w : Nat) (s : State) : (s.draw w).2.scopes = s.scopes := rfl
@[simp] theorem State.draw_ssb (w : Nat) (s : State) : (s.draw w).2.ssb = s.ssb := rfl
@[simp] theorem State.draw_dram (w : Nat) (s : State) : (s.draw w).2.dram = s.dram := rfl
@[simp] theorem State.draw_fl (w : Nat) (s : State) : (s.draw w).2.fl = s.fl := rfl
@[simp] theorem State.draw_pw (w : Nat) (s : State) : (s.draw w).2.pw = s.pw := rfl
@[simp] theorem State.draw_eth (w : Nat) (s : State) : (s.draw w).2.eth = s.eth := rfl
@[simp] theorem State.draw_kg (w : Nat) (s : State) : (s.draw w).2.kg = s.kg := rfl
@[simp] theorem State.draw_rv (w : Nat) (s : State) : (s.draw w).2.rv = s.rv := rfl

@[simp] theorem State.storeLine_pending (l : Nat) (m : BitVec 256) (d : LineData) (s : State) : (s.storeLine l m d).pending = s.pending := by unfold State.storeLine; rfl
@[simp] theorem State.storeLine_now (l : Nat) (m : BitVec 256) (d : LineData) (s : State) : (s.storeLine l m d).now = s.now := by unfold State.storeLine; rfl
@[simp] theorem State.storeLine_draws (l : Nat) (m : BitVec 256) (d : LineData) (s : State) : (s.storeLine l m d).draws = s.draws := by unfold State.storeLine; rfl
@[simp] theorem State.storeLine_mode (l : Nat) (m : BitVec 256) (d : LineData) (s : State) : (s.storeLine l m d).mode = s.mode := by unfold State.storeLine; rfl
@[simp] theorem State.storeLine_regs (l : Nat) (m : BitVec 256) (d : LineData) (s : State) : (s.storeLine l m d).regs = s.regs := by unfold State.storeLine; rfl
@[simp] theorem State.storeLine_latches (l : Nat) (m : BitVec 256) (d : LineData) (s : State) : (s.storeLine l m d).latches = s.latches := by unfold State.storeLine; rfl
@[simp] theorem State.storeLine_deep (l : Nat) (m : BitVec 256) (d : LineData) (s : State) : (s.storeLine l m d).deep = s.deep := by unfold State.storeLine; rfl
@[simp] theorem State.storeLine_lines (l : Nat) (m : BitVec 256) (d : LineData) (s : State) : (s.storeLine l m d).lines = s.lines := by unfold State.storeLine; rfl
@[simp] theorem State.storeLine_deepLines (l : Nat) (m : BitVec 256) (d : LineData) (s : State) : (s.storeLine l m d).deepLines = s.deepLines := by unfold State.storeLine; rfl
@[simp] theorem State.storeLine_out (l : Nat) (m : BitVec 256) (d : LineData) (s : State) : (s.storeLine l m d).out = s.out := by unfold State.storeLine; rfl
@[simp] theorem State.storeLine_fc (l : Nat) (m : BitVec 256) (d : LineData) (s : State) : (s.storeLine l m d).fc = s.fc := by unfold State.storeLine; rfl
@[simp] theorem State.storeLine_front (l : Nat) (m : BitVec 256) (d : LineData) (s : State) : (s.storeLine l m d).front = s.front := by unfold State.storeLine; rfl
@[simp] theorem State.storeLine_victims (l : Nat) (m : BitVec 256) (d : LineData) (s : State) : (s.storeLine l m d).victims = s.victims := by unfold State.storeLine; rfl
@[simp] theorem State.storeLine_rotPtr (l : Nat) (m : BitVec 256) (d : LineData) (s : State) : (s.storeLine l m d).rotPtr = s.rotPtr := by unfold State.storeLine; rfl
@[simp] theorem State.storeLine_writes (l : Nat) (m : BitVec 256) (d : LineData) (s : State) : (s.storeLine l m d).writes = s.writes := by unfold State.storeLine; rfl
@[simp] theorem State.storeLine_reads (l : Nat) (m : BitVec 256) (d : LineData) (s : State) : (s.storeLine l m d).reads = s.reads := by unfold State.storeLine; rfl
@[simp] theorem State.storeLine_ingress (l : Nat) (m : BitVec 256) (d : LineData) (s : State) : (s.storeLine l m d).ingress = s.ingress := by unfold State.storeLine; rfl
@[simp] theorem State.storeLine_nextId (l : Nat) (m : BitVec 256) (d : LineData) (s : State) : (s.storeLine l m d).nextId = s.nextId := by unfold State.storeLine; rfl
@[simp] theorem State.storeLine_regions (l : Nat) (m : BitVec 256) (d : LineData) (s : State) : (s.storeLine l m d).regions = s.regions := by unfold State.storeLine; rfl
@[simp] theorem State.storeLine_lds (l : Nat) (m : BitVec 256) (d : LineData) (s : State) : (s.storeLine l m d).lds = s.lds := by unfold State.storeLine; rfl
@[simp] theorem State.storeLine_wins (l : Nat) (m : BitVec 256) (d : LineData) (s : State) : (s.storeLine l m d).wins = s.wins := by unfold State.storeLine; rfl
@[simp] theorem State.storeLine_links (l : Nat) (m : BitVec 256) (d : LineData) (s : State) : (s.storeLine l m d).links = s.links := by unfold State.storeLine; rfl
@[simp] theorem State.storeLine_ports (l : Nat) (m : BitVec 256) (d : LineData) (s : State) : (s.storeLine l m d).ports = s.ports := by unfold State.storeLine; rfl
@[simp] theorem State.storeLine_poisonOverflow (l : Nat) (m : BitVec 256) (d : LineData) (s : State) : (s.storeLine l m d).poisonOverflow = s.poisonOverflow := by unfold State.storeLine; rfl
@[simp] theorem State.storeLine_loadHist (l : Nat) (m : BitVec 256) (d : LineData) (s : State) : (s.storeLine l m d).loadHist = s.loadHist := by unfold State.storeLine; rfl
@[simp] theorem State.storeLine_merges (l : Nat) (m : BitVec 256) (d : LineData) (s : State) : (s.storeLine l m d).merges = s.merges := by unfold State.storeLine; rfl
@[simp] theorem State.storeLine_failed (l : Nat) (m : BitVec 256) (d : LineData) (s : State) : (s.storeLine l m d).failed = s.failed := by unfold State.storeLine; rfl
@[simp] theorem State.storeLine_fp (l : Nat) (m : BitVec 256) (d : LineData) (s : State) : (s.storeLine l m d).fp = s.fp := by unfold State.storeLine; rfl
@[simp] theorem State.storeLine_cul (l : Nat) (m : BitVec 256) (d : LineData) (s : State) : (s.storeLine l m d).cul = s.cul := by unfold State.storeLine; rfl
@[simp] theorem State.storeLine_ks (l : Nat) (m : BitVec 256) (d : LineData) (s : State) : (s.storeLine l m d).ks = s.ks := by unfold State.storeLine; rfl
@[simp] theorem State.storeLine_cry (l : Nat) (m : BitVec 256) (d : LineData) (s : State) : (s.storeLine l m d).cry = s.cry := by unfold State.storeLine; rfl
@[simp] theorem State.storeLine_cw (l : Nat) (m : BitVec 256) (d : LineData) (s : State) : (s.storeLine l m d).cw = s.cw := by unfold State.storeLine; rfl
@[simp] theorem State.storeLine_wit (l : Nat) (m : BitVec 256) (d : LineData) (s : State) : (s.storeLine l m d).wit = s.wit := by unfold State.storeLine; rfl
@[simp] theorem State.storeLine_berm (l : Nat) (m : BitVec 256) (d : LineData) (s : State) : (s.storeLine l m d).berm = s.berm := by unfold State.storeLine; rfl
@[simp] theorem State.storeLine_queues (l : Nat) (m : BitVec 256) (d : LineData) (s : State) : (s.storeLine l m d).queues = s.queues := by unfold State.storeLine; rfl
@[simp] theorem State.storeLine_scopes (l : Nat) (m : BitVec 256) (d : LineData) (s : State) : (s.storeLine l m d).scopes = s.scopes := by unfold State.storeLine; rfl
@[simp] theorem State.storeLine_ssb (l : Nat) (m : BitVec 256) (d : LineData) (s : State) : (s.storeLine l m d).ssb = s.ssb := by unfold State.storeLine; rfl
@[simp] theorem State.storeLine_dram (l : Nat) (m : BitVec 256) (d : LineData) (s : State) : (s.storeLine l m d).dram = s.dram := by unfold State.storeLine; rfl
@[simp] theorem State.storeLine_fl (l : Nat) (m : BitVec 256) (d : LineData) (s : State) : (s.storeLine l m d).fl = s.fl := by unfold State.storeLine; rfl
@[simp] theorem State.storeLine_pw (l : Nat) (m : BitVec 256) (d : LineData) (s : State) : (s.storeLine l m d).pw = s.pw := by unfold State.storeLine; rfl
@[simp] theorem State.storeLine_eth (l : Nat) (m : BitVec 256) (d : LineData) (s : State) : (s.storeLine l m d).eth = s.eth := by unfold State.storeLine; rfl
@[simp] theorem State.storeLine_kg (l : Nat) (m : BitVec 256) (d : LineData) (s : State) : (s.storeLine l m d).kg = s.kg := by unfold State.storeLine; rfl
@[simp] theorem State.storeLine_rv (l : Nat) (m : BitVec 256) (d : LineData) (s : State) : (s.storeLine l m d).rv = s.rv := by unfold State.storeLine; rfl

@[simp] theorem State.zeroLine_pending (l : Nat) (s : State) : (s.zeroLine l).pending = s.pending := rfl
@[simp] theorem State.zeroLine_now (l : Nat) (s : State) : (s.zeroLine l).now = s.now := rfl
@[simp] theorem State.zeroLine_draws (l : Nat) (s : State) : (s.zeroLine l).draws = s.draws := rfl
@[simp] theorem State.zeroLine_mode (l : Nat) (s : State) : (s.zeroLine l).mode = s.mode := rfl
@[simp] theorem State.zeroLine_regs (l : Nat) (s : State) : (s.zeroLine l).regs = s.regs := rfl
@[simp] theorem State.zeroLine_latches (l : Nat) (s : State) : (s.zeroLine l).latches = s.latches := rfl
@[simp] theorem State.zeroLine_deep (l : Nat) (s : State) : (s.zeroLine l).deep = s.deep := rfl
@[simp] theorem State.zeroLine_lines (l : Nat) (s : State) : (s.zeroLine l).lines = s.lines := rfl
@[simp] theorem State.zeroLine_deepLines (l : Nat) (s : State) : (s.zeroLine l).deepLines = s.deepLines := rfl
@[simp] theorem State.zeroLine_out (l : Nat) (s : State) : (s.zeroLine l).out = s.out := rfl
@[simp] theorem State.zeroLine_fc (l : Nat) (s : State) : (s.zeroLine l).fc = s.fc := rfl
@[simp] theorem State.zeroLine_front (l : Nat) (s : State) : (s.zeroLine l).front = s.front := rfl
@[simp] theorem State.zeroLine_victims (l : Nat) (s : State) : (s.zeroLine l).victims = s.victims := rfl
@[simp] theorem State.zeroLine_rotPtr (l : Nat) (s : State) : (s.zeroLine l).rotPtr = s.rotPtr := rfl
@[simp] theorem State.zeroLine_writes (l : Nat) (s : State) : (s.zeroLine l).writes = s.writes := rfl
@[simp] theorem State.zeroLine_reads (l : Nat) (s : State) : (s.zeroLine l).reads = s.reads := rfl
@[simp] theorem State.zeroLine_ingress (l : Nat) (s : State) : (s.zeroLine l).ingress = s.ingress := rfl
@[simp] theorem State.zeroLine_nextId (l : Nat) (s : State) : (s.zeroLine l).nextId = s.nextId := rfl
@[simp] theorem State.zeroLine_regions (l : Nat) (s : State) : (s.zeroLine l).regions = s.regions := rfl
@[simp] theorem State.zeroLine_lds (l : Nat) (s : State) : (s.zeroLine l).lds = s.lds := rfl
@[simp] theorem State.zeroLine_wins (l : Nat) (s : State) : (s.zeroLine l).wins = s.wins := rfl
@[simp] theorem State.zeroLine_links (l : Nat) (s : State) : (s.zeroLine l).links = s.links := rfl
@[simp] theorem State.zeroLine_ports (l : Nat) (s : State) : (s.zeroLine l).ports = s.ports := rfl
@[simp] theorem State.zeroLine_poisonOverflow (l : Nat) (s : State) : (s.zeroLine l).poisonOverflow = s.poisonOverflow := rfl
@[simp] theorem State.zeroLine_loadHist (l : Nat) (s : State) : (s.zeroLine l).loadHist = s.loadHist := rfl
@[simp] theorem State.zeroLine_merges (l : Nat) (s : State) : (s.zeroLine l).merges = s.merges := rfl
@[simp] theorem State.zeroLine_failed (l : Nat) (s : State) : (s.zeroLine l).failed = s.failed := rfl
@[simp] theorem State.zeroLine_fp (l : Nat) (s : State) : (s.zeroLine l).fp = s.fp := rfl
@[simp] theorem State.zeroLine_cul (l : Nat) (s : State) : (s.zeroLine l).cul = s.cul := rfl
@[simp] theorem State.zeroLine_ks (l : Nat) (s : State) : (s.zeroLine l).ks = s.ks := rfl
@[simp] theorem State.zeroLine_cry (l : Nat) (s : State) : (s.zeroLine l).cry = s.cry := rfl
@[simp] theorem State.zeroLine_cw (l : Nat) (s : State) : (s.zeroLine l).cw = s.cw := rfl
@[simp] theorem State.zeroLine_wit (l : Nat) (s : State) : (s.zeroLine l).wit = s.wit := rfl
@[simp] theorem State.zeroLine_berm (l : Nat) (s : State) : (s.zeroLine l).berm = s.berm := rfl
@[simp] theorem State.zeroLine_queues (l : Nat) (s : State) : (s.zeroLine l).queues = s.queues := rfl
@[simp] theorem State.zeroLine_scopes (l : Nat) (s : State) : (s.zeroLine l).scopes = s.scopes := rfl
@[simp] theorem State.zeroLine_ssb (l : Nat) (s : State) : (s.zeroLine l).ssb = s.ssb := rfl
@[simp] theorem State.zeroLine_dram (l : Nat) (s : State) : (s.zeroLine l).dram = s.dram := rfl
@[simp] theorem State.zeroLine_fl (l : Nat) (s : State) : (s.zeroLine l).fl = s.fl := rfl
@[simp] theorem State.zeroLine_pw (l : Nat) (s : State) : (s.zeroLine l).pw = s.pw := rfl
@[simp] theorem State.zeroLine_eth (l : Nat) (s : State) : (s.zeroLine l).eth = s.eth := rfl
@[simp] theorem State.zeroLine_kg (l : Nat) (s : State) : (s.zeroLine l).kg = s.kg := rfl
@[simp] theorem State.zeroLine_rv (l : Nat) (s : State) : (s.zeroLine l).rv = s.rv := rfl

@[simp] theorem State.setMeta_pending (l : Nat) (m : LineMeta) (s : State) : (s.setMeta l m).pending = s.pending := rfl
@[simp] theorem State.setMeta_now (l : Nat) (m : LineMeta) (s : State) : (s.setMeta l m).now = s.now := rfl
@[simp] theorem State.setMeta_draws (l : Nat) (m : LineMeta) (s : State) : (s.setMeta l m).draws = s.draws := rfl
@[simp] theorem State.setMeta_mode (l : Nat) (m : LineMeta) (s : State) : (s.setMeta l m).mode = s.mode := rfl
@[simp] theorem State.setMeta_regs (l : Nat) (m : LineMeta) (s : State) : (s.setMeta l m).regs = s.regs := rfl
@[simp] theorem State.setMeta_latches (l : Nat) (m : LineMeta) (s : State) : (s.setMeta l m).latches = s.latches := rfl
@[simp] theorem State.setMeta_mem (l : Nat) (m : LineMeta) (s : State) : (s.setMeta l m).mem = s.mem := rfl
@[simp] theorem State.setMeta_deep (l : Nat) (m : LineMeta) (s : State) : (s.setMeta l m).deep = s.deep := rfl
@[simp] theorem State.setMeta_deepLines (l : Nat) (m : LineMeta) (s : State) : (s.setMeta l m).deepLines = s.deepLines := rfl
@[simp] theorem State.setMeta_out (l : Nat) (m : LineMeta) (s : State) : (s.setMeta l m).out = s.out := rfl
@[simp] theorem State.setMeta_fc (l : Nat) (m : LineMeta) (s : State) : (s.setMeta l m).fc = s.fc := rfl
@[simp] theorem State.setMeta_front (l : Nat) (m : LineMeta) (s : State) : (s.setMeta l m).front = s.front := rfl
@[simp] theorem State.setMeta_victims (l : Nat) (m : LineMeta) (s : State) : (s.setMeta l m).victims = s.victims := rfl
@[simp] theorem State.setMeta_rotPtr (l : Nat) (m : LineMeta) (s : State) : (s.setMeta l m).rotPtr = s.rotPtr := rfl
@[simp] theorem State.setMeta_writes (l : Nat) (m : LineMeta) (s : State) : (s.setMeta l m).writes = s.writes := rfl
@[simp] theorem State.setMeta_reads (l : Nat) (m : LineMeta) (s : State) : (s.setMeta l m).reads = s.reads := rfl
@[simp] theorem State.setMeta_ingress (l : Nat) (m : LineMeta) (s : State) : (s.setMeta l m).ingress = s.ingress := rfl
@[simp] theorem State.setMeta_nextId (l : Nat) (m : LineMeta) (s : State) : (s.setMeta l m).nextId = s.nextId := rfl
@[simp] theorem State.setMeta_regions (l : Nat) (m : LineMeta) (s : State) : (s.setMeta l m).regions = s.regions := rfl
@[simp] theorem State.setMeta_lds (l : Nat) (m : LineMeta) (s : State) : (s.setMeta l m).lds = s.lds := rfl
@[simp] theorem State.setMeta_wins (l : Nat) (m : LineMeta) (s : State) : (s.setMeta l m).wins = s.wins := rfl
@[simp] theorem State.setMeta_links (l : Nat) (m : LineMeta) (s : State) : (s.setMeta l m).links = s.links := rfl
@[simp] theorem State.setMeta_ports (l : Nat) (m : LineMeta) (s : State) : (s.setMeta l m).ports = s.ports := rfl
@[simp] theorem State.setMeta_poisonOverflow (l : Nat) (m : LineMeta) (s : State) : (s.setMeta l m).poisonOverflow = s.poisonOverflow := rfl
@[simp] theorem State.setMeta_loadHist (l : Nat) (m : LineMeta) (s : State) : (s.setMeta l m).loadHist = s.loadHist := rfl
@[simp] theorem State.setMeta_merges (l : Nat) (m : LineMeta) (s : State) : (s.setMeta l m).merges = s.merges := rfl
@[simp] theorem State.setMeta_failed (l : Nat) (m : LineMeta) (s : State) : (s.setMeta l m).failed = s.failed := rfl
@[simp] theorem State.setMeta_fp (l : Nat) (m : LineMeta) (s : State) : (s.setMeta l m).fp = s.fp := rfl
@[simp] theorem State.setMeta_cul (l : Nat) (m : LineMeta) (s : State) : (s.setMeta l m).cul = s.cul := rfl
@[simp] theorem State.setMeta_ks (l : Nat) (m : LineMeta) (s : State) : (s.setMeta l m).ks = s.ks := rfl
@[simp] theorem State.setMeta_cry (l : Nat) (m : LineMeta) (s : State) : (s.setMeta l m).cry = s.cry := rfl
@[simp] theorem State.setMeta_cw (l : Nat) (m : LineMeta) (s : State) : (s.setMeta l m).cw = s.cw := rfl
@[simp] theorem State.setMeta_wit (l : Nat) (m : LineMeta) (s : State) : (s.setMeta l m).wit = s.wit := rfl
@[simp] theorem State.setMeta_berm (l : Nat) (m : LineMeta) (s : State) : (s.setMeta l m).berm = s.berm := rfl
@[simp] theorem State.setMeta_queues (l : Nat) (m : LineMeta) (s : State) : (s.setMeta l m).queues = s.queues := rfl
@[simp] theorem State.setMeta_scopes (l : Nat) (m : LineMeta) (s : State) : (s.setMeta l m).scopes = s.scopes := rfl
@[simp] theorem State.setMeta_ssb (l : Nat) (m : LineMeta) (s : State) : (s.setMeta l m).ssb = s.ssb := rfl
@[simp] theorem State.setMeta_dram (l : Nat) (m : LineMeta) (s : State) : (s.setMeta l m).dram = s.dram := rfl
@[simp] theorem State.setMeta_fl (l : Nat) (m : LineMeta) (s : State) : (s.setMeta l m).fl = s.fl := rfl
@[simp] theorem State.setMeta_pw (l : Nat) (m : LineMeta) (s : State) : (s.setMeta l m).pw = s.pw := rfl
@[simp] theorem State.setMeta_eth (l : Nat) (m : LineMeta) (s : State) : (s.setMeta l m).eth = s.eth := rfl
@[simp] theorem State.setMeta_kg (l : Nat) (m : LineMeta) (s : State) : (s.setMeta l m).kg = s.kg := rfl
@[simp] theorem State.setMeta_rv (l : Nat) (m : LineMeta) (s : State) : (s.setMeta l m).rv = s.rv := rfl

@[simp] theorem State.setPage_pending (p : Nat) (g : Page) (s : State) : (s.setPage p g).pending = s.pending := rfl
@[simp] theorem State.setPage_now (p : Nat) (g : Page) (s : State) : (s.setPage p g).now = s.now := rfl
@[simp] theorem State.setPage_draws (p : Nat) (g : Page) (s : State) : (s.setPage p g).draws = s.draws := rfl
@[simp] theorem State.setPage_mode (p : Nat) (g : Page) (s : State) : (s.setPage p g).mode = s.mode := rfl
@[simp] theorem State.setPage_regs (p : Nat) (g : Page) (s : State) : (s.setPage p g).regs = s.regs := rfl
@[simp] theorem State.setPage_latches (p : Nat) (g : Page) (s : State) : (s.setPage p g).latches = s.latches := rfl
@[simp] theorem State.setPage_mem (p : Nat) (g : Page) (s : State) : (s.setPage p g).mem = s.mem := rfl
@[simp] theorem State.setPage_deep (p : Nat) (g : Page) (s : State) : (s.setPage p g).deep = s.deep := rfl
@[simp] theorem State.setPage_lines (p : Nat) (g : Page) (s : State) : (s.setPage p g).lines = s.lines := rfl
@[simp] theorem State.setPage_deepLines (p : Nat) (g : Page) (s : State) : (s.setPage p g).deepLines = s.deepLines := rfl
@[simp] theorem State.setPage_out (p : Nat) (g : Page) (s : State) : (s.setPage p g).out = s.out := rfl
@[simp] theorem State.setPage_fc (p : Nat) (g : Page) (s : State) : (s.setPage p g).fc = s.fc := rfl
@[simp] theorem State.setPage_front (p : Nat) (g : Page) (s : State) : (s.setPage p g).front = s.front := rfl
@[simp] theorem State.setPage_victims (p : Nat) (g : Page) (s : State) : (s.setPage p g).victims = s.victims := rfl
@[simp] theorem State.setPage_rotPtr (p : Nat) (g : Page) (s : State) : (s.setPage p g).rotPtr = s.rotPtr := rfl
@[simp] theorem State.setPage_writes (p : Nat) (g : Page) (s : State) : (s.setPage p g).writes = s.writes := rfl
@[simp] theorem State.setPage_reads (p : Nat) (g : Page) (s : State) : (s.setPage p g).reads = s.reads := rfl
@[simp] theorem State.setPage_ingress (p : Nat) (g : Page) (s : State) : (s.setPage p g).ingress = s.ingress := rfl
@[simp] theorem State.setPage_nextId (p : Nat) (g : Page) (s : State) : (s.setPage p g).nextId = s.nextId := rfl
@[simp] theorem State.setPage_regions (p : Nat) (g : Page) (s : State) : (s.setPage p g).regions = s.regions := rfl
@[simp] theorem State.setPage_lds (p : Nat) (g : Page) (s : State) : (s.setPage p g).lds = s.lds := rfl
@[simp] theorem State.setPage_wins (p : Nat) (g : Page) (s : State) : (s.setPage p g).wins = s.wins := rfl
@[simp] theorem State.setPage_links (p : Nat) (g : Page) (s : State) : (s.setPage p g).links = s.links := rfl
@[simp] theorem State.setPage_ports (p : Nat) (g : Page) (s : State) : (s.setPage p g).ports = s.ports := rfl
@[simp] theorem State.setPage_poisonOverflow (p : Nat) (g : Page) (s : State) : (s.setPage p g).poisonOverflow = s.poisonOverflow := rfl
@[simp] theorem State.setPage_loadHist (p : Nat) (g : Page) (s : State) : (s.setPage p g).loadHist = s.loadHist := rfl
@[simp] theorem State.setPage_merges (p : Nat) (g : Page) (s : State) : (s.setPage p g).merges = s.merges := rfl
@[simp] theorem State.setPage_failed (p : Nat) (g : Page) (s : State) : (s.setPage p g).failed = s.failed := rfl
@[simp] theorem State.setPage_fp (p : Nat) (g : Page) (s : State) : (s.setPage p g).fp = s.fp := rfl
@[simp] theorem State.setPage_ks (p : Nat) (g : Page) (s : State) : (s.setPage p g).ks = s.ks := rfl
@[simp] theorem State.setPage_cry (p : Nat) (g : Page) (s : State) : (s.setPage p g).cry = s.cry := rfl
@[simp] theorem State.setPage_cw (p : Nat) (g : Page) (s : State) : (s.setPage p g).cw = s.cw := rfl
@[simp] theorem State.setPage_wit (p : Nat) (g : Page) (s : State) : (s.setPage p g).wit = s.wit := rfl
@[simp] theorem State.setPage_berm (p : Nat) (g : Page) (s : State) : (s.setPage p g).berm = s.berm := rfl
@[simp] theorem State.setPage_queues (p : Nat) (g : Page) (s : State) : (s.setPage p g).queues = s.queues := rfl
@[simp] theorem State.setPage_scopes (p : Nat) (g : Page) (s : State) : (s.setPage p g).scopes = s.scopes := rfl
@[simp] theorem State.setPage_ssb (p : Nat) (g : Page) (s : State) : (s.setPage p g).ssb = s.ssb := rfl
@[simp] theorem State.setPage_dram (p : Nat) (g : Page) (s : State) : (s.setPage p g).dram = s.dram := rfl
@[simp] theorem State.setPage_fl (p : Nat) (g : Page) (s : State) : (s.setPage p g).fl = s.fl := rfl
@[simp] theorem State.setPage_pw (p : Nat) (g : Page) (s : State) : (s.setPage p g).pw = s.pw := rfl
@[simp] theorem State.setPage_eth (p : Nat) (g : Page) (s : State) : (s.setPage p g).eth = s.eth := rfl
@[simp] theorem State.setPage_kg (p : Nat) (g : Page) (s : State) : (s.setPage p g).kg = s.kg := rfl
@[simp] theorem State.setPage_rv (p : Nat) (g : Page) (s : State) : (s.setPage p g).rv = s.rv := rfl

@[simp] theorem State.setExtent_pending (x : Nat) (e : Extent) (s : State) : (s.setExtent x e).pending = s.pending := rfl
@[simp] theorem State.setExtent_now (x : Nat) (e : Extent) (s : State) : (s.setExtent x e).now = s.now := rfl
@[simp] theorem State.setExtent_draws (x : Nat) (e : Extent) (s : State) : (s.setExtent x e).draws = s.draws := rfl
@[simp] theorem State.setExtent_mode (x : Nat) (e : Extent) (s : State) : (s.setExtent x e).mode = s.mode := rfl
@[simp] theorem State.setExtent_regs (x : Nat) (e : Extent) (s : State) : (s.setExtent x e).regs = s.regs := rfl
@[simp] theorem State.setExtent_latches (x : Nat) (e : Extent) (s : State) : (s.setExtent x e).latches = s.latches := rfl
@[simp] theorem State.setExtent_mem (x : Nat) (e : Extent) (s : State) : (s.setExtent x e).mem = s.mem := rfl
@[simp] theorem State.setExtent_deep (x : Nat) (e : Extent) (s : State) : (s.setExtent x e).deep = s.deep := rfl
@[simp] theorem State.setExtent_lines (x : Nat) (e : Extent) (s : State) : (s.setExtent x e).lines = s.lines := rfl
@[simp] theorem State.setExtent_deepLines (x : Nat) (e : Extent) (s : State) : (s.setExtent x e).deepLines = s.deepLines := rfl
@[simp] theorem State.setExtent_out (x : Nat) (e : Extent) (s : State) : (s.setExtent x e).out = s.out := rfl
@[simp] theorem State.setExtent_fc (x : Nat) (e : Extent) (s : State) : (s.setExtent x e).fc = s.fc := rfl
@[simp] theorem State.setExtent_front (x : Nat) (e : Extent) (s : State) : (s.setExtent x e).front = s.front := rfl
@[simp] theorem State.setExtent_victims (x : Nat) (e : Extent) (s : State) : (s.setExtent x e).victims = s.victims := rfl
@[simp] theorem State.setExtent_rotPtr (x : Nat) (e : Extent) (s : State) : (s.setExtent x e).rotPtr = s.rotPtr := rfl
@[simp] theorem State.setExtent_writes (x : Nat) (e : Extent) (s : State) : (s.setExtent x e).writes = s.writes := rfl
@[simp] theorem State.setExtent_reads (x : Nat) (e : Extent) (s : State) : (s.setExtent x e).reads = s.reads := rfl
@[simp] theorem State.setExtent_ingress (x : Nat) (e : Extent) (s : State) : (s.setExtent x e).ingress = s.ingress := rfl
@[simp] theorem State.setExtent_nextId (x : Nat) (e : Extent) (s : State) : (s.setExtent x e).nextId = s.nextId := rfl
@[simp] theorem State.setExtent_regions (x : Nat) (e : Extent) (s : State) : (s.setExtent x e).regions = s.regions := rfl
@[simp] theorem State.setExtent_lds (x : Nat) (e : Extent) (s : State) : (s.setExtent x e).lds = s.lds := rfl
@[simp] theorem State.setExtent_wins (x : Nat) (e : Extent) (s : State) : (s.setExtent x e).wins = s.wins := rfl
@[simp] theorem State.setExtent_links (x : Nat) (e : Extent) (s : State) : (s.setExtent x e).links = s.links := rfl
@[simp] theorem State.setExtent_ports (x : Nat) (e : Extent) (s : State) : (s.setExtent x e).ports = s.ports := rfl
@[simp] theorem State.setExtent_poisonOverflow (x : Nat) (e : Extent) (s : State) : (s.setExtent x e).poisonOverflow = s.poisonOverflow := rfl
@[simp] theorem State.setExtent_loadHist (x : Nat) (e : Extent) (s : State) : (s.setExtent x e).loadHist = s.loadHist := rfl
@[simp] theorem State.setExtent_merges (x : Nat) (e : Extent) (s : State) : (s.setExtent x e).merges = s.merges := rfl
@[simp] theorem State.setExtent_failed (x : Nat) (e : Extent) (s : State) : (s.setExtent x e).failed = s.failed := rfl
@[simp] theorem State.setExtent_fp (x : Nat) (e : Extent) (s : State) : (s.setExtent x e).fp = s.fp := rfl
@[simp] theorem State.setExtent_ks (x : Nat) (e : Extent) (s : State) : (s.setExtent x e).ks = s.ks := rfl
@[simp] theorem State.setExtent_cry (x : Nat) (e : Extent) (s : State) : (s.setExtent x e).cry = s.cry := rfl
@[simp] theorem State.setExtent_cw (x : Nat) (e : Extent) (s : State) : (s.setExtent x e).cw = s.cw := rfl
@[simp] theorem State.setExtent_wit (x : Nat) (e : Extent) (s : State) : (s.setExtent x e).wit = s.wit := rfl
@[simp] theorem State.setExtent_berm (x : Nat) (e : Extent) (s : State) : (s.setExtent x e).berm = s.berm := rfl
@[simp] theorem State.setExtent_queues (x : Nat) (e : Extent) (s : State) : (s.setExtent x e).queues = s.queues := rfl
@[simp] theorem State.setExtent_scopes (x : Nat) (e : Extent) (s : State) : (s.setExtent x e).scopes = s.scopes := rfl
@[simp] theorem State.setExtent_ssb (x : Nat) (e : Extent) (s : State) : (s.setExtent x e).ssb = s.ssb := rfl
@[simp] theorem State.setExtent_dram (x : Nat) (e : Extent) (s : State) : (s.setExtent x e).dram = s.dram := rfl
@[simp] theorem State.setExtent_fl (x : Nat) (e : Extent) (s : State) : (s.setExtent x e).fl = s.fl := rfl
@[simp] theorem State.setExtent_pw (x : Nat) (e : Extent) (s : State) : (s.setExtent x e).pw = s.pw := rfl
@[simp] theorem State.setExtent_eth (x : Nat) (e : Extent) (s : State) : (s.setExtent x e).eth = s.eth := rfl
@[simp] theorem State.setExtent_kg (x : Nat) (e : Extent) (s : State) : (s.setExtent x e).kg = s.kg := rfl
@[simp] theorem State.setExtent_rv (x : Nat) (e : Extent) (s : State) : (s.setExtent x e).rv = s.rv := rfl

@[simp] theorem State.setFront_pending (l : Nat) (f : FrontLine) (s : State) : (s.setFront l f).pending = s.pending := rfl
@[simp] theorem State.setFront_now (l : Nat) (f : FrontLine) (s : State) : (s.setFront l f).now = s.now := rfl
@[simp] theorem State.setFront_draws (l : Nat) (f : FrontLine) (s : State) : (s.setFront l f).draws = s.draws := rfl
@[simp] theorem State.setFront_mode (l : Nat) (f : FrontLine) (s : State) : (s.setFront l f).mode = s.mode := rfl
@[simp] theorem State.setFront_regs (l : Nat) (f : FrontLine) (s : State) : (s.setFront l f).regs = s.regs := rfl
@[simp] theorem State.setFront_latches (l : Nat) (f : FrontLine) (s : State) : (s.setFront l f).latches = s.latches := rfl
@[simp] theorem State.setFront_mem (l : Nat) (f : FrontLine) (s : State) : (s.setFront l f).mem = s.mem := rfl
@[simp] theorem State.setFront_deep (l : Nat) (f : FrontLine) (s : State) : (s.setFront l f).deep = s.deep := rfl
@[simp] theorem State.setFront_lines (l : Nat) (f : FrontLine) (s : State) : (s.setFront l f).lines = s.lines := rfl
@[simp] theorem State.setFront_deepLines (l : Nat) (f : FrontLine) (s : State) : (s.setFront l f).deepLines = s.deepLines := rfl
@[simp] theorem State.setFront_out (l : Nat) (f : FrontLine) (s : State) : (s.setFront l f).out = s.out := rfl
@[simp] theorem State.setFront_fc (l : Nat) (f : FrontLine) (s : State) : (s.setFront l f).fc = s.fc := rfl
@[simp] theorem State.setFront_victims (l : Nat) (f : FrontLine) (s : State) : (s.setFront l f).victims = s.victims := rfl
@[simp] theorem State.setFront_rotPtr (l : Nat) (f : FrontLine) (s : State) : (s.setFront l f).rotPtr = s.rotPtr := rfl
@[simp] theorem State.setFront_writes (l : Nat) (f : FrontLine) (s : State) : (s.setFront l f).writes = s.writes := rfl
@[simp] theorem State.setFront_reads (l : Nat) (f : FrontLine) (s : State) : (s.setFront l f).reads = s.reads := rfl
@[simp] theorem State.setFront_ingress (l : Nat) (f : FrontLine) (s : State) : (s.setFront l f).ingress = s.ingress := rfl
@[simp] theorem State.setFront_nextId (l : Nat) (f : FrontLine) (s : State) : (s.setFront l f).nextId = s.nextId := rfl
@[simp] theorem State.setFront_regions (l : Nat) (f : FrontLine) (s : State) : (s.setFront l f).regions = s.regions := rfl
@[simp] theorem State.setFront_lds (l : Nat) (f : FrontLine) (s : State) : (s.setFront l f).lds = s.lds := rfl
@[simp] theorem State.setFront_wins (l : Nat) (f : FrontLine) (s : State) : (s.setFront l f).wins = s.wins := rfl
@[simp] theorem State.setFront_links (l : Nat) (f : FrontLine) (s : State) : (s.setFront l f).links = s.links := rfl
@[simp] theorem State.setFront_ports (l : Nat) (f : FrontLine) (s : State) : (s.setFront l f).ports = s.ports := rfl
@[simp] theorem State.setFront_poisonOverflow (l : Nat) (f : FrontLine) (s : State) : (s.setFront l f).poisonOverflow = s.poisonOverflow := rfl
@[simp] theorem State.setFront_loadHist (l : Nat) (f : FrontLine) (s : State) : (s.setFront l f).loadHist = s.loadHist := rfl
@[simp] theorem State.setFront_merges (l : Nat) (f : FrontLine) (s : State) : (s.setFront l f).merges = s.merges := rfl
@[simp] theorem State.setFront_failed (l : Nat) (f : FrontLine) (s : State) : (s.setFront l f).failed = s.failed := rfl
@[simp] theorem State.setFront_fp (l : Nat) (f : FrontLine) (s : State) : (s.setFront l f).fp = s.fp := rfl
@[simp] theorem State.setFront_cul (l : Nat) (f : FrontLine) (s : State) : (s.setFront l f).cul = s.cul := rfl
@[simp] theorem State.setFront_ks (l : Nat) (f : FrontLine) (s : State) : (s.setFront l f).ks = s.ks := rfl
@[simp] theorem State.setFront_cry (l : Nat) (f : FrontLine) (s : State) : (s.setFront l f).cry = s.cry := rfl
@[simp] theorem State.setFront_cw (l : Nat) (f : FrontLine) (s : State) : (s.setFront l f).cw = s.cw := rfl
@[simp] theorem State.setFront_wit (l : Nat) (f : FrontLine) (s : State) : (s.setFront l f).wit = s.wit := rfl
@[simp] theorem State.setFront_berm (l : Nat) (f : FrontLine) (s : State) : (s.setFront l f).berm = s.berm := rfl
@[simp] theorem State.setFront_queues (l : Nat) (f : FrontLine) (s : State) : (s.setFront l f).queues = s.queues := rfl
@[simp] theorem State.setFront_scopes (l : Nat) (f : FrontLine) (s : State) : (s.setFront l f).scopes = s.scopes := rfl
@[simp] theorem State.setFront_ssb (l : Nat) (f : FrontLine) (s : State) : (s.setFront l f).ssb = s.ssb := rfl
@[simp] theorem State.setFront_dram (l : Nat) (f : FrontLine) (s : State) : (s.setFront l f).dram = s.dram := rfl
@[simp] theorem State.setFront_fl (l : Nat) (f : FrontLine) (s : State) : (s.setFront l f).fl = s.fl := rfl
@[simp] theorem State.setFront_pw (l : Nat) (f : FrontLine) (s : State) : (s.setFront l f).pw = s.pw := rfl
@[simp] theorem State.setFront_eth (l : Nat) (f : FrontLine) (s : State) : (s.setFront l f).eth = s.eth := rfl
@[simp] theorem State.setFront_kg (l : Nat) (f : FrontLine) (s : State) : (s.setFront l f).kg = s.kg := rfl
@[simp] theorem State.setFront_rv (l : Nat) (f : FrontLine) (s : State) : (s.setFront l f).rv = s.rv := rfl

@[simp] theorem State.setLink_pending (l : Nat) (k : CxlLink) (s : State) : (s.setLink l k).pending = s.pending := rfl
@[simp] theorem State.setLink_now (l : Nat) (k : CxlLink) (s : State) : (s.setLink l k).now = s.now := rfl
@[simp] theorem State.setLink_draws (l : Nat) (k : CxlLink) (s : State) : (s.setLink l k).draws = s.draws := rfl
@[simp] theorem State.setLink_mode (l : Nat) (k : CxlLink) (s : State) : (s.setLink l k).mode = s.mode := rfl
@[simp] theorem State.setLink_regs (l : Nat) (k : CxlLink) (s : State) : (s.setLink l k).regs = s.regs := rfl
@[simp] theorem State.setLink_latches (l : Nat) (k : CxlLink) (s : State) : (s.setLink l k).latches = s.latches := rfl
@[simp] theorem State.setLink_mem (l : Nat) (k : CxlLink) (s : State) : (s.setLink l k).mem = s.mem := rfl
@[simp] theorem State.setLink_deep (l : Nat) (k : CxlLink) (s : State) : (s.setLink l k).deep = s.deep := rfl
@[simp] theorem State.setLink_lines (l : Nat) (k : CxlLink) (s : State) : (s.setLink l k).lines = s.lines := rfl
@[simp] theorem State.setLink_deepLines (l : Nat) (k : CxlLink) (s : State) : (s.setLink l k).deepLines = s.deepLines := rfl
@[simp] theorem State.setLink_out (l : Nat) (k : CxlLink) (s : State) : (s.setLink l k).out = s.out := rfl
@[simp] theorem State.setLink_fc (l : Nat) (k : CxlLink) (s : State) : (s.setLink l k).fc = s.fc := rfl
@[simp] theorem State.setLink_front (l : Nat) (k : CxlLink) (s : State) : (s.setLink l k).front = s.front := rfl
@[simp] theorem State.setLink_victims (l : Nat) (k : CxlLink) (s : State) : (s.setLink l k).victims = s.victims := rfl
@[simp] theorem State.setLink_rotPtr (l : Nat) (k : CxlLink) (s : State) : (s.setLink l k).rotPtr = s.rotPtr := rfl
@[simp] theorem State.setLink_writes (l : Nat) (k : CxlLink) (s : State) : (s.setLink l k).writes = s.writes := rfl
@[simp] theorem State.setLink_reads (l : Nat) (k : CxlLink) (s : State) : (s.setLink l k).reads = s.reads := rfl
@[simp] theorem State.setLink_ingress (l : Nat) (k : CxlLink) (s : State) : (s.setLink l k).ingress = s.ingress := rfl
@[simp] theorem State.setLink_nextId (l : Nat) (k : CxlLink) (s : State) : (s.setLink l k).nextId = s.nextId := rfl
@[simp] theorem State.setLink_regions (l : Nat) (k : CxlLink) (s : State) : (s.setLink l k).regions = s.regions := rfl
@[simp] theorem State.setLink_lds (l : Nat) (k : CxlLink) (s : State) : (s.setLink l k).lds = s.lds := rfl
@[simp] theorem State.setLink_wins (l : Nat) (k : CxlLink) (s : State) : (s.setLink l k).wins = s.wins := rfl
@[simp] theorem State.setLink_ports (l : Nat) (k : CxlLink) (s : State) : (s.setLink l k).ports = s.ports := rfl
@[simp] theorem State.setLink_poisonOverflow (l : Nat) (k : CxlLink) (s : State) : (s.setLink l k).poisonOverflow = s.poisonOverflow := rfl
@[simp] theorem State.setLink_loadHist (l : Nat) (k : CxlLink) (s : State) : (s.setLink l k).loadHist = s.loadHist := rfl
@[simp] theorem State.setLink_merges (l : Nat) (k : CxlLink) (s : State) : (s.setLink l k).merges = s.merges := rfl
@[simp] theorem State.setLink_failed (l : Nat) (k : CxlLink) (s : State) : (s.setLink l k).failed = s.failed := rfl
@[simp] theorem State.setLink_fp (l : Nat) (k : CxlLink) (s : State) : (s.setLink l k).fp = s.fp := rfl
@[simp] theorem State.setLink_cul (l : Nat) (k : CxlLink) (s : State) : (s.setLink l k).cul = s.cul := rfl
@[simp] theorem State.setLink_ks (l : Nat) (k : CxlLink) (s : State) : (s.setLink l k).ks = s.ks := rfl
@[simp] theorem State.setLink_cry (l : Nat) (k : CxlLink) (s : State) : (s.setLink l k).cry = s.cry := rfl
@[simp] theorem State.setLink_cw (l : Nat) (k : CxlLink) (s : State) : (s.setLink l k).cw = s.cw := rfl
@[simp] theorem State.setLink_wit (l : Nat) (k : CxlLink) (s : State) : (s.setLink l k).wit = s.wit := rfl
@[simp] theorem State.setLink_berm (l : Nat) (k : CxlLink) (s : State) : (s.setLink l k).berm = s.berm := rfl
@[simp] theorem State.setLink_queues (l : Nat) (k : CxlLink) (s : State) : (s.setLink l k).queues = s.queues := rfl
@[simp] theorem State.setLink_scopes (l : Nat) (k : CxlLink) (s : State) : (s.setLink l k).scopes = s.scopes := rfl
@[simp] theorem State.setLink_ssb (l : Nat) (k : CxlLink) (s : State) : (s.setLink l k).ssb = s.ssb := rfl
@[simp] theorem State.setLink_dram (l : Nat) (k : CxlLink) (s : State) : (s.setLink l k).dram = s.dram := rfl
@[simp] theorem State.setLink_fl (l : Nat) (k : CxlLink) (s : State) : (s.setLink l k).fl = s.fl := rfl
@[simp] theorem State.setLink_pw (l : Nat) (k : CxlLink) (s : State) : (s.setLink l k).pw = s.pw := rfl
@[simp] theorem State.setLink_eth (l : Nat) (k : CxlLink) (s : State) : (s.setLink l k).eth = s.eth := rfl
@[simp] theorem State.setLink_kg (l : Nat) (k : CxlLink) (s : State) : (s.setLink l k).kg = s.kg := rfl
@[simp] theorem State.setLink_rv (l : Nat) (k : CxlLink) (s : State) : (s.setLink l k).rv = s.rv := rfl

@[simp] theorem State.setLd_pending (n : Nat) (d : LdState) (s : State) : (s.setLd n d).pending = s.pending := rfl
@[simp] theorem State.setLd_now (n : Nat) (d : LdState) (s : State) : (s.setLd n d).now = s.now := rfl
@[simp] theorem State.setLd_draws (n : Nat) (d : LdState) (s : State) : (s.setLd n d).draws = s.draws := rfl
@[simp] theorem State.setLd_mode (n : Nat) (d : LdState) (s : State) : (s.setLd n d).mode = s.mode := rfl
@[simp] theorem State.setLd_regs (n : Nat) (d : LdState) (s : State) : (s.setLd n d).regs = s.regs := rfl
@[simp] theorem State.setLd_latches (n : Nat) (d : LdState) (s : State) : (s.setLd n d).latches = s.latches := rfl
@[simp] theorem State.setLd_mem (n : Nat) (d : LdState) (s : State) : (s.setLd n d).mem = s.mem := rfl
@[simp] theorem State.setLd_deep (n : Nat) (d : LdState) (s : State) : (s.setLd n d).deep = s.deep := rfl
@[simp] theorem State.setLd_lines (n : Nat) (d : LdState) (s : State) : (s.setLd n d).lines = s.lines := rfl
@[simp] theorem State.setLd_deepLines (n : Nat) (d : LdState) (s : State) : (s.setLd n d).deepLines = s.deepLines := rfl
@[simp] theorem State.setLd_out (n : Nat) (d : LdState) (s : State) : (s.setLd n d).out = s.out := rfl
@[simp] theorem State.setLd_fc (n : Nat) (d : LdState) (s : State) : (s.setLd n d).fc = s.fc := rfl
@[simp] theorem State.setLd_front (n : Nat) (d : LdState) (s : State) : (s.setLd n d).front = s.front := rfl
@[simp] theorem State.setLd_victims (n : Nat) (d : LdState) (s : State) : (s.setLd n d).victims = s.victims := rfl
@[simp] theorem State.setLd_rotPtr (n : Nat) (d : LdState) (s : State) : (s.setLd n d).rotPtr = s.rotPtr := rfl
@[simp] theorem State.setLd_writes (n : Nat) (d : LdState) (s : State) : (s.setLd n d).writes = s.writes := rfl
@[simp] theorem State.setLd_reads (n : Nat) (d : LdState) (s : State) : (s.setLd n d).reads = s.reads := rfl
@[simp] theorem State.setLd_ingress (n : Nat) (d : LdState) (s : State) : (s.setLd n d).ingress = s.ingress := rfl
@[simp] theorem State.setLd_nextId (n : Nat) (d : LdState) (s : State) : (s.setLd n d).nextId = s.nextId := rfl
@[simp] theorem State.setLd_regions (n : Nat) (d : LdState) (s : State) : (s.setLd n d).regions = s.regions := rfl
@[simp] theorem State.setLd_wins (n : Nat) (d : LdState) (s : State) : (s.setLd n d).wins = s.wins := rfl
@[simp] theorem State.setLd_links (n : Nat) (d : LdState) (s : State) : (s.setLd n d).links = s.links := rfl
@[simp] theorem State.setLd_ports (n : Nat) (d : LdState) (s : State) : (s.setLd n d).ports = s.ports := rfl
@[simp] theorem State.setLd_poisonOverflow (n : Nat) (d : LdState) (s : State) : (s.setLd n d).poisonOverflow = s.poisonOverflow := rfl
@[simp] theorem State.setLd_loadHist (n : Nat) (d : LdState) (s : State) : (s.setLd n d).loadHist = s.loadHist := rfl
@[simp] theorem State.setLd_merges (n : Nat) (d : LdState) (s : State) : (s.setLd n d).merges = s.merges := rfl
@[simp] theorem State.setLd_failed (n : Nat) (d : LdState) (s : State) : (s.setLd n d).failed = s.failed := rfl
@[simp] theorem State.setLd_fp (n : Nat) (d : LdState) (s : State) : (s.setLd n d).fp = s.fp := rfl
@[simp] theorem State.setLd_cul (n : Nat) (d : LdState) (s : State) : (s.setLd n d).cul = s.cul := rfl
@[simp] theorem State.setLd_ks (n : Nat) (d : LdState) (s : State) : (s.setLd n d).ks = s.ks := rfl
@[simp] theorem State.setLd_cry (n : Nat) (d : LdState) (s : State) : (s.setLd n d).cry = s.cry := rfl
@[simp] theorem State.setLd_cw (n : Nat) (d : LdState) (s : State) : (s.setLd n d).cw = s.cw := rfl
@[simp] theorem State.setLd_wit (n : Nat) (d : LdState) (s : State) : (s.setLd n d).wit = s.wit := rfl
@[simp] theorem State.setLd_berm (n : Nat) (d : LdState) (s : State) : (s.setLd n d).berm = s.berm := rfl
@[simp] theorem State.setLd_queues (n : Nat) (d : LdState) (s : State) : (s.setLd n d).queues = s.queues := rfl
@[simp] theorem State.setLd_scopes (n : Nat) (d : LdState) (s : State) : (s.setLd n d).scopes = s.scopes := rfl
@[simp] theorem State.setLd_ssb (n : Nat) (d : LdState) (s : State) : (s.setLd n d).ssb = s.ssb := rfl
@[simp] theorem State.setLd_dram (n : Nat) (d : LdState) (s : State) : (s.setLd n d).dram = s.dram := rfl
@[simp] theorem State.setLd_fl (n : Nat) (d : LdState) (s : State) : (s.setLd n d).fl = s.fl := rfl
@[simp] theorem State.setLd_pw (n : Nat) (d : LdState) (s : State) : (s.setLd n d).pw = s.pw := rfl
@[simp] theorem State.setLd_eth (n : Nat) (d : LdState) (s : State) : (s.setLd n d).eth = s.eth := rfl
@[simp] theorem State.setLd_kg (n : Nat) (d : LdState) (s : State) : (s.setLd n d).kg = s.kg := rfl
@[simp] theorem State.setLd_rv (n : Nat) (d : LdState) (s : State) : (s.setLd n d).rv = s.rv := rfl

@[simp] theorem State.setRegion_pending (i : Nat) (r : Region) (s : State) : (s.setRegion i r).pending = s.pending := rfl
@[simp] theorem State.setRegion_now (i : Nat) (r : Region) (s : State) : (s.setRegion i r).now = s.now := rfl
@[simp] theorem State.setRegion_draws (i : Nat) (r : Region) (s : State) : (s.setRegion i r).draws = s.draws := rfl
@[simp] theorem State.setRegion_mode (i : Nat) (r : Region) (s : State) : (s.setRegion i r).mode = s.mode := rfl
@[simp] theorem State.setRegion_regs (i : Nat) (r : Region) (s : State) : (s.setRegion i r).regs = s.regs := rfl
@[simp] theorem State.setRegion_latches (i : Nat) (r : Region) (s : State) : (s.setRegion i r).latches = s.latches := rfl
@[simp] theorem State.setRegion_mem (i : Nat) (r : Region) (s : State) : (s.setRegion i r).mem = s.mem := rfl
@[simp] theorem State.setRegion_deep (i : Nat) (r : Region) (s : State) : (s.setRegion i r).deep = s.deep := rfl
@[simp] theorem State.setRegion_lines (i : Nat) (r : Region) (s : State) : (s.setRegion i r).lines = s.lines := rfl
@[simp] theorem State.setRegion_deepLines (i : Nat) (r : Region) (s : State) : (s.setRegion i r).deepLines = s.deepLines := rfl
@[simp] theorem State.setRegion_out (i : Nat) (r : Region) (s : State) : (s.setRegion i r).out = s.out := rfl
@[simp] theorem State.setRegion_fc (i : Nat) (r : Region) (s : State) : (s.setRegion i r).fc = s.fc := rfl
@[simp] theorem State.setRegion_front (i : Nat) (r : Region) (s : State) : (s.setRegion i r).front = s.front := rfl
@[simp] theorem State.setRegion_victims (i : Nat) (r : Region) (s : State) : (s.setRegion i r).victims = s.victims := rfl
@[simp] theorem State.setRegion_rotPtr (i : Nat) (r : Region) (s : State) : (s.setRegion i r).rotPtr = s.rotPtr := rfl
@[simp] theorem State.setRegion_writes (i : Nat) (r : Region) (s : State) : (s.setRegion i r).writes = s.writes := rfl
@[simp] theorem State.setRegion_reads (i : Nat) (r : Region) (s : State) : (s.setRegion i r).reads = s.reads := rfl
@[simp] theorem State.setRegion_ingress (i : Nat) (r : Region) (s : State) : (s.setRegion i r).ingress = s.ingress := rfl
@[simp] theorem State.setRegion_nextId (i : Nat) (r : Region) (s : State) : (s.setRegion i r).nextId = s.nextId := rfl
@[simp] theorem State.setRegion_lds (i : Nat) (r : Region) (s : State) : (s.setRegion i r).lds = s.lds := rfl
@[simp] theorem State.setRegion_wins (i : Nat) (r : Region) (s : State) : (s.setRegion i r).wins = s.wins := rfl
@[simp] theorem State.setRegion_links (i : Nat) (r : Region) (s : State) : (s.setRegion i r).links = s.links := rfl
@[simp] theorem State.setRegion_ports (i : Nat) (r : Region) (s : State) : (s.setRegion i r).ports = s.ports := rfl
@[simp] theorem State.setRegion_poisonOverflow (i : Nat) (r : Region) (s : State) : (s.setRegion i r).poisonOverflow = s.poisonOverflow := rfl
@[simp] theorem State.setRegion_loadHist (i : Nat) (r : Region) (s : State) : (s.setRegion i r).loadHist = s.loadHist := rfl
@[simp] theorem State.setRegion_merges (i : Nat) (r : Region) (s : State) : (s.setRegion i r).merges = s.merges := rfl
@[simp] theorem State.setRegion_failed (i : Nat) (r : Region) (s : State) : (s.setRegion i r).failed = s.failed := rfl
@[simp] theorem State.setRegion_fp (i : Nat) (r : Region) (s : State) : (s.setRegion i r).fp = s.fp := rfl
@[simp] theorem State.setRegion_cul (i : Nat) (r : Region) (s : State) : (s.setRegion i r).cul = s.cul := rfl
@[simp] theorem State.setRegion_ks (i : Nat) (r : Region) (s : State) : (s.setRegion i r).ks = s.ks := rfl
@[simp] theorem State.setRegion_cry (i : Nat) (r : Region) (s : State) : (s.setRegion i r).cry = s.cry := rfl
@[simp] theorem State.setRegion_cw (i : Nat) (r : Region) (s : State) : (s.setRegion i r).cw = s.cw := rfl
@[simp] theorem State.setRegion_wit (i : Nat) (r : Region) (s : State) : (s.setRegion i r).wit = s.wit := rfl
@[simp] theorem State.setRegion_berm (i : Nat) (r : Region) (s : State) : (s.setRegion i r).berm = s.berm := rfl
@[simp] theorem State.setRegion_queues (i : Nat) (r : Region) (s : State) : (s.setRegion i r).queues = s.queues := rfl
@[simp] theorem State.setRegion_scopes (i : Nat) (r : Region) (s : State) : (s.setRegion i r).scopes = s.scopes := rfl
@[simp] theorem State.setRegion_ssb (i : Nat) (r : Region) (s : State) : (s.setRegion i r).ssb = s.ssb := rfl
@[simp] theorem State.setRegion_dram (i : Nat) (r : Region) (s : State) : (s.setRegion i r).dram = s.dram := rfl
@[simp] theorem State.setRegion_fl (i : Nat) (r : Region) (s : State) : (s.setRegion i r).fl = s.fl := rfl
@[simp] theorem State.setRegion_pw (i : Nat) (r : Region) (s : State) : (s.setRegion i r).pw = s.pw := rfl
@[simp] theorem State.setRegion_eth (i : Nat) (r : Region) (s : State) : (s.setRegion i r).eth = s.eth := rfl
@[simp] theorem State.setRegion_kg (i : Nat) (r : Region) (s : State) : (s.setRegion i r).kg = s.kg := rfl
@[simp] theorem State.setRegion_rv (i : Nat) (r : Region) (s : State) : (s.setRegion i r).rv = s.rv := rfl

@[simp] theorem State.setQueue_pending (q : Nat) (k : Queue) (s : State) : (s.setQueue q k).pending = s.pending := rfl
@[simp] theorem State.setQueue_now (q : Nat) (k : Queue) (s : State) : (s.setQueue q k).now = s.now := rfl
@[simp] theorem State.setQueue_draws (q : Nat) (k : Queue) (s : State) : (s.setQueue q k).draws = s.draws := rfl
@[simp] theorem State.setQueue_mode (q : Nat) (k : Queue) (s : State) : (s.setQueue q k).mode = s.mode := rfl
@[simp] theorem State.setQueue_regs (q : Nat) (k : Queue) (s : State) : (s.setQueue q k).regs = s.regs := rfl
@[simp] theorem State.setQueue_latches (q : Nat) (k : Queue) (s : State) : (s.setQueue q k).latches = s.latches := rfl
@[simp] theorem State.setQueue_mem (q : Nat) (k : Queue) (s : State) : (s.setQueue q k).mem = s.mem := rfl
@[simp] theorem State.setQueue_deep (q : Nat) (k : Queue) (s : State) : (s.setQueue q k).deep = s.deep := rfl
@[simp] theorem State.setQueue_lines (q : Nat) (k : Queue) (s : State) : (s.setQueue q k).lines = s.lines := rfl
@[simp] theorem State.setQueue_deepLines (q : Nat) (k : Queue) (s : State) : (s.setQueue q k).deepLines = s.deepLines := rfl
@[simp] theorem State.setQueue_out (q : Nat) (k : Queue) (s : State) : (s.setQueue q k).out = s.out := rfl
@[simp] theorem State.setQueue_fc (q : Nat) (k : Queue) (s : State) : (s.setQueue q k).fc = s.fc := rfl
@[simp] theorem State.setQueue_front (q : Nat) (k : Queue) (s : State) : (s.setQueue q k).front = s.front := rfl
@[simp] theorem State.setQueue_victims (q : Nat) (k : Queue) (s : State) : (s.setQueue q k).victims = s.victims := rfl
@[simp] theorem State.setQueue_rotPtr (q : Nat) (k : Queue) (s : State) : (s.setQueue q k).rotPtr = s.rotPtr := rfl
@[simp] theorem State.setQueue_writes (q : Nat) (k : Queue) (s : State) : (s.setQueue q k).writes = s.writes := rfl
@[simp] theorem State.setQueue_reads (q : Nat) (k : Queue) (s : State) : (s.setQueue q k).reads = s.reads := rfl
@[simp] theorem State.setQueue_ingress (q : Nat) (k : Queue) (s : State) : (s.setQueue q k).ingress = s.ingress := rfl
@[simp] theorem State.setQueue_nextId (q : Nat) (k : Queue) (s : State) : (s.setQueue q k).nextId = s.nextId := rfl
@[simp] theorem State.setQueue_regions (q : Nat) (k : Queue) (s : State) : (s.setQueue q k).regions = s.regions := rfl
@[simp] theorem State.setQueue_lds (q : Nat) (k : Queue) (s : State) : (s.setQueue q k).lds = s.lds := rfl
@[simp] theorem State.setQueue_wins (q : Nat) (k : Queue) (s : State) : (s.setQueue q k).wins = s.wins := rfl
@[simp] theorem State.setQueue_links (q : Nat) (k : Queue) (s : State) : (s.setQueue q k).links = s.links := rfl
@[simp] theorem State.setQueue_ports (q : Nat) (k : Queue) (s : State) : (s.setQueue q k).ports = s.ports := rfl
@[simp] theorem State.setQueue_poisonOverflow (q : Nat) (k : Queue) (s : State) : (s.setQueue q k).poisonOverflow = s.poisonOverflow := rfl
@[simp] theorem State.setQueue_loadHist (q : Nat) (k : Queue) (s : State) : (s.setQueue q k).loadHist = s.loadHist := rfl
@[simp] theorem State.setQueue_merges (q : Nat) (k : Queue) (s : State) : (s.setQueue q k).merges = s.merges := rfl
@[simp] theorem State.setQueue_failed (q : Nat) (k : Queue) (s : State) : (s.setQueue q k).failed = s.failed := rfl
@[simp] theorem State.setQueue_fp (q : Nat) (k : Queue) (s : State) : (s.setQueue q k).fp = s.fp := rfl
@[simp] theorem State.setQueue_cul (q : Nat) (k : Queue) (s : State) : (s.setQueue q k).cul = s.cul := rfl
@[simp] theorem State.setQueue_ks (q : Nat) (k : Queue) (s : State) : (s.setQueue q k).ks = s.ks := rfl
@[simp] theorem State.setQueue_cry (q : Nat) (k : Queue) (s : State) : (s.setQueue q k).cry = s.cry := rfl
@[simp] theorem State.setQueue_cw (q : Nat) (k : Queue) (s : State) : (s.setQueue q k).cw = s.cw := rfl
@[simp] theorem State.setQueue_wit (q : Nat) (k : Queue) (s : State) : (s.setQueue q k).wit = s.wit := rfl
@[simp] theorem State.setQueue_berm (q : Nat) (k : Queue) (s : State) : (s.setQueue q k).berm = s.berm := rfl
@[simp] theorem State.setQueue_scopes (q : Nat) (k : Queue) (s : State) : (s.setQueue q k).scopes = s.scopes := rfl
@[simp] theorem State.setQueue_ssb (q : Nat) (k : Queue) (s : State) : (s.setQueue q k).ssb = s.ssb := rfl
@[simp] theorem State.setQueue_dram (q : Nat) (k : Queue) (s : State) : (s.setQueue q k).dram = s.dram := rfl
@[simp] theorem State.setQueue_fl (q : Nat) (k : Queue) (s : State) : (s.setQueue q k).fl = s.fl := rfl
@[simp] theorem State.setQueue_pw (q : Nat) (k : Queue) (s : State) : (s.setQueue q k).pw = s.pw := rfl
@[simp] theorem State.setQueue_eth (q : Nat) (k : Queue) (s : State) : (s.setQueue q k).eth = s.eth := rfl
@[simp] theorem State.setQueue_kg (q : Nat) (k : Queue) (s : State) : (s.setQueue q k).kg = s.kg := rfl
@[simp] theorem State.setQueue_rv (q : Nat) (k : Queue) (s : State) : (s.setQueue q k).rv = s.rv := rfl

@[simp] theorem State.setOp_pending (q : Nat) (o : OpRec) (s : State) : (s.setOp q o).pending = s.pending := rfl
@[simp] theorem State.setOp_now (q : Nat) (o : OpRec) (s : State) : (s.setOp q o).now = s.now := rfl
@[simp] theorem State.setOp_draws (q : Nat) (o : OpRec) (s : State) : (s.setOp q o).draws = s.draws := rfl
@[simp] theorem State.setOp_mode (q : Nat) (o : OpRec) (s : State) : (s.setOp q o).mode = s.mode := rfl
@[simp] theorem State.setOp_regs (q : Nat) (o : OpRec) (s : State) : (s.setOp q o).regs = s.regs := rfl
@[simp] theorem State.setOp_latches (q : Nat) (o : OpRec) (s : State) : (s.setOp q o).latches = s.latches := rfl
@[simp] theorem State.setOp_mem (q : Nat) (o : OpRec) (s : State) : (s.setOp q o).mem = s.mem := rfl
@[simp] theorem State.setOp_deep (q : Nat) (o : OpRec) (s : State) : (s.setOp q o).deep = s.deep := rfl
@[simp] theorem State.setOp_lines (q : Nat) (o : OpRec) (s : State) : (s.setOp q o).lines = s.lines := rfl
@[simp] theorem State.setOp_deepLines (q : Nat) (o : OpRec) (s : State) : (s.setOp q o).deepLines = s.deepLines := rfl
@[simp] theorem State.setOp_out (q : Nat) (o : OpRec) (s : State) : (s.setOp q o).out = s.out := rfl
@[simp] theorem State.setOp_fc (q : Nat) (o : OpRec) (s : State) : (s.setOp q o).fc = s.fc := rfl
@[simp] theorem State.setOp_front (q : Nat) (o : OpRec) (s : State) : (s.setOp q o).front = s.front := rfl
@[simp] theorem State.setOp_victims (q : Nat) (o : OpRec) (s : State) : (s.setOp q o).victims = s.victims := rfl
@[simp] theorem State.setOp_rotPtr (q : Nat) (o : OpRec) (s : State) : (s.setOp q o).rotPtr = s.rotPtr := rfl
@[simp] theorem State.setOp_writes (q : Nat) (o : OpRec) (s : State) : (s.setOp q o).writes = s.writes := rfl
@[simp] theorem State.setOp_reads (q : Nat) (o : OpRec) (s : State) : (s.setOp q o).reads = s.reads := rfl
@[simp] theorem State.setOp_ingress (q : Nat) (o : OpRec) (s : State) : (s.setOp q o).ingress = s.ingress := rfl
@[simp] theorem State.setOp_nextId (q : Nat) (o : OpRec) (s : State) : (s.setOp q o).nextId = s.nextId := rfl
@[simp] theorem State.setOp_regions (q : Nat) (o : OpRec) (s : State) : (s.setOp q o).regions = s.regions := rfl
@[simp] theorem State.setOp_lds (q : Nat) (o : OpRec) (s : State) : (s.setOp q o).lds = s.lds := rfl
@[simp] theorem State.setOp_wins (q : Nat) (o : OpRec) (s : State) : (s.setOp q o).wins = s.wins := rfl
@[simp] theorem State.setOp_links (q : Nat) (o : OpRec) (s : State) : (s.setOp q o).links = s.links := rfl
@[simp] theorem State.setOp_ports (q : Nat) (o : OpRec) (s : State) : (s.setOp q o).ports = s.ports := rfl
@[simp] theorem State.setOp_poisonOverflow (q : Nat) (o : OpRec) (s : State) : (s.setOp q o).poisonOverflow = s.poisonOverflow := rfl
@[simp] theorem State.setOp_loadHist (q : Nat) (o : OpRec) (s : State) : (s.setOp q o).loadHist = s.loadHist := rfl
@[simp] theorem State.setOp_merges (q : Nat) (o : OpRec) (s : State) : (s.setOp q o).merges = s.merges := rfl
@[simp] theorem State.setOp_failed (q : Nat) (o : OpRec) (s : State) : (s.setOp q o).failed = s.failed := rfl
@[simp] theorem State.setOp_fp (q : Nat) (o : OpRec) (s : State) : (s.setOp q o).fp = s.fp := rfl
@[simp] theorem State.setOp_cul (q : Nat) (o : OpRec) (s : State) : (s.setOp q o).cul = s.cul := rfl
@[simp] theorem State.setOp_ks (q : Nat) (o : OpRec) (s : State) : (s.setOp q o).ks = s.ks := rfl
@[simp] theorem State.setOp_cry (q : Nat) (o : OpRec) (s : State) : (s.setOp q o).cry = s.cry := rfl
@[simp] theorem State.setOp_cw (q : Nat) (o : OpRec) (s : State) : (s.setOp q o).cw = s.cw := rfl
@[simp] theorem State.setOp_wit (q : Nat) (o : OpRec) (s : State) : (s.setOp q o).wit = s.wit := rfl
@[simp] theorem State.setOp_berm (q : Nat) (o : OpRec) (s : State) : (s.setOp q o).berm = s.berm := rfl
@[simp] theorem State.setOp_scopes (q : Nat) (o : OpRec) (s : State) : (s.setOp q o).scopes = s.scopes := rfl
@[simp] theorem State.setOp_ssb (q : Nat) (o : OpRec) (s : State) : (s.setOp q o).ssb = s.ssb := rfl
@[simp] theorem State.setOp_dram (q : Nat) (o : OpRec) (s : State) : (s.setOp q o).dram = s.dram := rfl
@[simp] theorem State.setOp_fl (q : Nat) (o : OpRec) (s : State) : (s.setOp q o).fl = s.fl := rfl
@[simp] theorem State.setOp_pw (q : Nat) (o : OpRec) (s : State) : (s.setOp q o).pw = s.pw := rfl
@[simp] theorem State.setOp_eth (q : Nat) (o : OpRec) (s : State) : (s.setOp q o).eth = s.eth := rfl
@[simp] theorem State.setOp_kg (q : Nat) (o : OpRec) (s : State) : (s.setOp q o).kg = s.kg := rfl
@[simp] theorem State.setOp_rv (q : Nat) (o : OpRec) (s : State) : (s.setOp q o).rv = s.rv := rfl

/-- A field read after a field was set: the value cut to its width at the field's own place, and as before at every other. -/
theorem State.get_put_ne {f g : Fld} {v : Nat} {s : State} (h : (s.regs.Pairwise fun (e f : Nat × Nat) => e.1 < f.1)) (hk : g.key ≠ f.key) :
    (s.put f v).get g = s.get g := Sparse.get_set_ne h hk

end Sys2Proof.Machine
end

