-- ==== Sys2Proof/Laws/Frames.lean ====
section
/-! SUPPORT. What the shared operations leave alone: a raise of a source, the frames sent to the partner, and the byte contents of memory through the operations of
an accepted write. -/

namespace Sys2Proof.Machine

open Sys2Proof

set_option Elab.async false

/-- `s` differs from `a` in the register file and the collector at most. -/
def CollectorOnly (a s : State) : Prop := s = { a with regs := s.regs, fc := s.fc }

theorem CollectorOnly.upd {a s : State} (h : CollectorOnly a s) {r : Sparse Nat} {f : Fc} :
    CollectorOnly a { s with regs := r, fc := f } := by
  unfold CollectorOnly at *; conv_lhs => rw [h]

theorem CollectorOnly.put {a s : State} (h : CollectorOnly a s) {f : Fld} {v : Nat} : CollectorOnly a (s.put f v) := h.upd

theorem CollectorOnly.bump {a s : State} (h : CollectorOnly a s) {f : Fld} {v : Nat} : CollectorOnly a (s.bump f v) := h.upd

theorem CollectorOnly.ite {a x y : State} {c : Prop} [Decidable c] (h : CollectorOnly a x) (g : CollectorOnly a y) :
    CollectorOnly a (if c then x else y) := by
  split
  · exact h
  · exact g

theorem CollectorOnly.queueEntry {a s : State} (h : CollectorOnly a s) {e : EvEntry} : CollectorOnly a (s.queueEntry e) :=
  .ite h.upd (.bump h.upd)

theorem CollectorOnly.beginCond {a s : State} (h : CollectorOnly a s) {n : Nat} : CollectorOnly a (s.beginCond n) := .ite h.upd h

/-- A raise of a source changes the register file and the collector, and nothing else. -/
theorem State.raise_rest (s : State) (n : Nat) (vals : List Nat) :
    CollectorOnly s (s.raise n vals) := by
  have hb : CollectorOnly s (s.beginCond n) := CollectorOnly.beginCond (rfl : CollectorOnly s s)
  unfold State.raise
  dsimp only
  refine .ite (rfl : CollectorOnly s s) (.ite (.ite (.upd (.queueEntry (.ite (.upd ?_) ?_))) (.upd (.bump hb))) (.ite (.upd (.ite (.upd hb) hb)) (.upd (.ite (.upd hb) hb))))
  all_goals exact .put (.put (.bump (.put hb)))

@[simp] theorem State.raise_pending (n : Nat) (v : List Nat) (s : State) : (s.raise n v).pending = s.pending := by rw [State.raise_rest s n v]
@[simp] theorem State.raise_now (n : Nat) (v : List Nat) (s : State) : (s.raise n v).now = s.now := by rw [State.raise_rest s n v]
@[simp] theorem State.raise_draws (n : Nat) (v : List Nat) (s : State) : (s.raise n v).draws = s.draws := by rw [State.raise_rest s n v]
@[simp] theorem State.raise_mode (n : Nat) (v : List Nat) (s : State) : (s.raise n v).mode = s.mode := by rw [State.raise_rest s n v]
@[simp] theorem State.raise_latches (n : Nat) (v : List Nat) (s : State) : (s.raise n v).latches = s.latches := by rw [State.raise_rest s n v]
@[simp] theorem State.raise_mem (n : Nat) (v : List Nat) (s : State) : (s.raise n v).mem = s.mem := by rw [State.raise_rest s n v]
@[simp] theorem State.raise_deep (n : Nat) (v : List Nat) (s : State) : (s.raise n v).deep = s.deep := by rw [State.raise_rest s n v]
@[simp] theorem State.raise_lines (n : Nat) (v : List Nat) (s : State) : (s.raise n v).lines = s.lines := by rw [State.raise_rest s n v]
@[simp] theorem State.raise_deepLines (n : Nat) (v : List Nat) (s : State) : (s.raise n v).deepLines = s.deepLines := by rw [State.raise_rest s n v]
@[simp] theorem State.raise_out (n : Nat) (v : List Nat) (s : State) : (s.raise n v).out = s.out := by rw [State.raise_rest s n v]
@[simp] theorem State.raise_front (n : Nat) (v : List Nat) (s : State) : (s.raise n v).front = s.front := by rw [State.raise_rest s n v]
@[simp] theorem State.raise_victims (n : Nat) (v : List Nat) (s : State) : (s.raise n v).victims = s.victims := by rw [State.raise_rest s n v]
@[simp] theorem State.raise_rotPtr (n : Nat) (v : List Nat) (s : State) : (s.raise n v).rotPtr = s.rotPtr := by rw [State.raise_rest s n v]
@[simp] theorem State.raise_writes (n : Nat) (v : List Nat) (s : State) : (s.raise n v).writes = s.writes := by rw [State.raise_rest s n v]
@[simp] theorem State.raise_reads (n : Nat) (v : List Nat) (s : State) : (s.raise n v).reads = s.reads := by rw [State.raise_rest s n v]
@[simp] theorem State.raise_ingress (n : Nat) (v : List Nat) (s : State) : (s.raise n v).ingress = s.ingress := by rw [State.raise_rest s n v]
@[simp] theorem State.raise_nextId (n : Nat) (v : List Nat) (s : State) : (s.raise n v).nextId = s.nextId := by rw [State.raise_rest s n v]
@[simp] theorem State.raise_regions (n : Nat) (v : List Nat) (s : State) : (s.raise n v).regions = s.regions := by rw [State.raise_rest s n v]
@[simp] theorem State.raise_lds (n : Nat) (v : List Nat) (s : State) : (s.raise n v).lds = s.lds := by rw [State.raise_rest s n v]
@[simp] theorem State.raise_wins (n : Nat) (v : List Nat) (s : State) : (s.raise n v).wins = s.wins := by rw [State.raise_rest s n v]
@[simp] theorem State.raise_links (n : Nat) (v : List Nat) (s : State) : (s.raise n v).links = s.links := by rw [State.raise_rest s n v]
@[simp] theorem State.raise_ports (n : Nat) (v : List Nat) (s : State) : (s.raise n v).ports = s.ports := by rw [State.raise_rest s n v]
@[simp] theorem State.raise_poisonOverflow (n : Nat) (v : List Nat) (s : State) : (s.raise n v).poisonOverflow = s.poisonOverflow := by rw [State.raise_rest s n v]
@[simp] theorem State.raise_loadHist (n : Nat) (v : List Nat) (s : State) : (s.raise n v).loadHist = s.loadHist := by rw [State.raise_rest s n v]
@[simp] theorem State.raise_merges (n : Nat) (v : List Nat) (s : State) : (s.raise n v).merges = s.merges := by rw [State.raise_rest s n v]
@[simp] theorem State.raise_failed (n : Nat) (v : List Nat) (s : State) : (s.raise n v).failed = s.failed := by rw [State.raise_rest s n v]
@[simp] theorem State.raise_fp (n : Nat) (v : List Nat) (s : State) : (s.raise n v).fp = s.fp := by rw [State.raise_rest s n v]
@[simp] theorem State.raise_cul (n : Nat) (v : List Nat) (s : State) : (s.raise n v).cul = s.cul := by rw [State.raise_rest s n v]
@[simp] theorem State.raise_ks (n : Nat) (v : List Nat) (s : State) : (s.raise n v).ks = s.ks := by rw [State.raise_rest s n v]
@[simp] theorem State.raise_cry (n : Nat) (v : List Nat) (s : State) : (s.raise n v).cry = s.cry := by rw [State.raise_rest s n v]
@[simp] theorem State.raise_cw (n : Nat) (v : List Nat) (s : State) : (s.raise n v).cw = s.cw := by rw [State.raise_rest s n v]
@[simp] theorem State.raise_wit (n : Nat) (v : List Nat) (s : State) : (s.raise n v).wit = s.wit := by rw [State.raise_rest s n v]
@[simp] theorem State.raise_berm (n : Nat) (v : List Nat) (s : State) : (s.raise n v).berm = s.berm := by rw [State.raise_rest s n v]
@[simp] theorem State.raise_queues (n : Nat) (v : List Nat) (s : State) : (s.raise n v).queues = s.queues := by rw [State.raise_rest s n v]
@[simp] theorem State.raise_scopes (n : Nat) (v : List Nat) (s : State) : (s.raise n v).scopes = s.scopes := by rw [State.raise_rest s n v]
@[simp] theorem State.raise_ssb (n : Nat) (v : List Nat) (s : State) : (s.raise n v).ssb = s.ssb := by rw [State.raise_rest s n v]
@[simp] theorem State.raise_dram (n : Nat) (v : List Nat) (s : State) : (s.raise n v).dram = s.dram := by rw [State.raise_rest s n v]
@[simp] theorem State.raise_fl (n : Nat) (v : List Nat) (s : State) : (s.raise n v).fl = s.fl := by rw [State.raise_rest s n v]
@[simp] theorem State.raise_pw (n : Nat) (v : List Nat) (s : State) : (s.raise n v).pw = s.pw := by rw [State.raise_rest s n v]
@[simp] theorem State.raise_eth (n : Nat) (v : List Nat) (s : State) : (s.raise n v).eth = s.eth := by rw [State.raise_rest s n v]
@[simp] theorem State.raise_kg (n : Nat) (v : List Nat) (s : State) : (s.raise n v).kg = s.kg := by rw [State.raise_rest s n v]
@[simp] theorem State.raise_rv (n : Nat) (v : List Nat) (s : State) : (s.raise n v).rv = s.rv := by rw [State.raise_rest s n v]

/-- A limited raise changes what a raise changes. -/
theorem State.raiseLimited_rest (s : State) (n k : Nat) (v : List Nat) :
    CollectorOnly s (s.raiseLimited n k v) := by
  unfold State.raiseLimited; dsimp only; split
  · rfl
  · exact (State.raise_rest _ n v).trans rfl

@[simp] theorem State.raiseLimited_pending (n k : Nat) (v : List Nat) (s : State) : (s.raiseLimited n k v).pending = s.pending := by rw [State.raiseLimited_rest s n k v]
@[simp] theorem State.raiseLimited_now (n k : Nat) (v : List Nat) (s : State) : (s.raiseLimited n k v).now = s.now := by rw [State.raiseLimited_rest s n k v]
@[simp] theorem State.raiseLimited_draws (n k : Nat) (v : List Nat) (s : State) : (s.raiseLimited n k v).draws = s.draws := by rw [State.raiseLimited_rest s n k v]
@[simp] theorem State.raiseLimited_mode (n k : Nat) (v : List Nat) (s : State) : (s.raiseLimited n k v).mode = s.mode := by rw [State.raiseLimited_rest s n k v]
@[simp] theorem State.raiseLimited_latches (n k : Nat) (v : List Nat) (s : State) : (s.raiseLimited n k v).latches = s.latches := by rw [State.raiseLimited_rest s n k v]
@[simp] theorem State.raiseLimited_mem (n k : Nat) (v : List Nat) (s : State) : (s.raiseLimited n k v).mem = s.mem := by rw [State.raiseLimited_rest s n k v]
@[simp] theorem State.raiseLimited_deep (n k : Nat) (v : List Nat) (s : State) : (s.raiseLimited n k v).deep = s.deep := by rw [State.raiseLimited_rest s n k v]
@[simp] theorem State.raiseLimited_lines (n k : Nat) (v : List Nat) (s : State) : (s.raiseLimited n k v).lines = s.lines := by rw [State.raiseLimited_rest s n k v]
@[simp] theorem State.raiseLimited_deepLines (n k : Nat) (v : List Nat) (s : State) : (s.raiseLimited n k v).deepLines = s.deepLines := by rw [State.raiseLimited_rest s n k v]
@[simp] theorem State.raiseLimited_out (n k : Nat) (v : List Nat) (s : State) : (s.raiseLimited n k v).out = s.out := by rw [State.raiseLimited_rest s n k v]
@[simp] theorem State.raiseLimited_front (n k : Nat) (v : List Nat) (s : State) : (s.raiseLimited n k v).front = s.front := by rw [State.raiseLimited_rest s n k v]
@[simp] theorem State.raiseLimited_victims (n k : Nat) (v : List Nat) (s : State) : (s.raiseLimited n k v).victims = s.victims := by rw [State.raiseLimited_rest s n k v]
@[simp] theorem State.raiseLimited_rotPtr (n k : Nat) (v : List Nat) (s : State) : (s.raiseLimited n k v).rotPtr = s.rotPtr := by rw [State.raiseLimited_rest s n k v]
@[simp] theorem State.raiseLimited_writes (n k : Nat) (v : List Nat) (s : State) : (s.raiseLimited n k v).writes = s.writes := by rw [State.raiseLimited_rest s n k v]
@[simp] theorem State.raiseLimited_reads (n k : Nat) (v : List Nat) (s : State) : (s.raiseLimited n k v).reads = s.reads := by rw [State.raiseLimited_rest s n k v]
@[simp] theorem State.raiseLimited_ingress (n k : Nat) (v : List Nat) (s : State) : (s.raiseLimited n k v).ingress = s.ingress := by rw [State.raiseLimited_rest s n k v]
@[simp] theorem State.raiseLimited_nextId (n k : Nat) (v : List Nat) (s : State) : (s.raiseLimited n k v).nextId = s.nextId := by rw [State.raiseLimited_rest s n k v]
@[simp] theorem State.raiseLimited_regions (n k : Nat) (v : List Nat) (s : State) : (s.raiseLimited n k v).regions = s.regions := by rw [State.raiseLimited_rest s n k v]
@[simp] theorem State.raiseLimited_lds (n k : Nat) (v : List Nat) (s : State) : (s.raiseLimited n k v).lds = s.lds := by rw [State.raiseLimited_rest s n k v]
@[simp] theorem State.raiseLimited_wins (n k : Nat) (v : List Nat) (s : State) : (s.raiseLimited n k v).wins = s.wins := by rw [State.raiseLimited_rest s n k v]
@[simp] theorem State.raiseLimited_links (n k : Nat) (v : List Nat) (s : State) : (s.raiseLimited n k v).links = s.links := by rw [State.raiseLimited_rest s n k v]
@[simp] theorem State.raiseLimited_ports (n k : Nat) (v : List Nat) (s : State) : (s.raiseLimited n k v).ports = s.ports := by rw [State.raiseLimited_rest s n k v]
@[simp] theorem State.raiseLimited_poisonOverflow (n k : Nat) (v : List Nat) (s : State) : (s.raiseLimited n k v).poisonOverflow = s.poisonOverflow := by rw [State.raiseLimited_rest s n k v]
@[simp] theorem State.raiseLimited_loadHist (n k : Nat) (v : List Nat) (s : State) : (s.raiseLimited n k v).loadHist = s.loadHist := by rw [State.raiseLimited_rest s n k v]
@[simp] theorem State.raiseLimited_merges (n k : Nat) (v : List Nat) (s : State) : (s.raiseLimited n k v).merges = s.merges := by rw [State.raiseLimited_rest s n k v]
@[simp] theorem State.raiseLimited_failed (n k : Nat) (v : List Nat) (s : State) : (s.raiseLimited n k v).failed = s.failed := by rw [State.raiseLimited_rest s n k v]
@[simp] theorem State.raiseLimited_fp (n k : Nat) (v : List Nat) (s : State) : (s.raiseLimited n k v).fp = s.fp := by rw [State.raiseLimited_rest s n k v]
@[simp] theorem State.raiseLimited_cul (n k : Nat) (v : List Nat) (s : State) : (s.raiseLimited n k v).cul = s.cul := by rw [State.raiseLimited_rest s n k v]
@[simp] theorem State.raiseLimited_ks (n k : Nat) (v : List Nat) (s : State) : (s.raiseLimited n k v).ks = s.ks := by rw [State.raiseLimited_rest s n k v]
@[simp] theorem State.raiseLimited_cry (n k : Nat) (v : List Nat) (s : State) : (s.raiseLimited n k v).cry = s.cry := by rw [State.raiseLimited_rest s n k v]
@[simp] theorem State.raiseLimited_cw (n k : Nat) (v : List Nat) (s : State) : (s.raiseLimited n k v).cw = s.cw := by rw [State.raiseLimited_rest s n k v]
@[simp] theorem State.raiseLimited_wit (n k : Nat) (v : List Nat) (s : State) : (s.raiseLimited n k v).wit = s.wit := by rw [State.raiseLimited_rest s n k v]
@[simp] theorem State.raiseLimited_berm (n k : Nat) (v : List Nat) (s : State) : (s.raiseLimited n k v).berm = s.berm := by rw [State.raiseLimited_rest s n k v]
@[simp] theorem State.raiseLimited_queues (n k : Nat) (v : List Nat) (s : State) : (s.raiseLimited n k v).queues = s.queues := by rw [State.raiseLimited_rest s n k v]
@[simp] theorem State.raiseLimited_scopes (n k : Nat) (v : List Nat) (s : State) : (s.raiseLimited n k v).scopes = s.scopes := by rw [State.raiseLimited_rest s n k v]
@[simp] theorem State.raiseLimited_ssb (n k : Nat) (v : List Nat) (s : State) : (s.raiseLimited n k v).ssb = s.ssb := by rw [State.raiseLimited_rest s n k v]
@[simp] theorem State.raiseLimited_dram (n k : Nat) (v : List Nat) (s : State) : (s.raiseLimited n k v).dram = s.dram := by rw [State.raiseLimited_rest s n k v]
@[simp] theorem State.raiseLimited_fl (n k : Nat) (v : List Nat) (s : State) : (s.raiseLimited n k v).fl = s.fl := by rw [State.raiseLimited_rest s n k v]
@[simp] theorem State.raiseLimited_pw (n k : Nat) (v : List Nat) (s : State) : (s.raiseLimited n k v).pw = s.pw := by rw [State.raiseLimited_rest s n k v]
@[simp] theorem State.raiseLimited_eth (n k : Nat) (v : List Nat) (s : State) : (s.raiseLimited n k v).eth = s.eth := by rw [State.raiseLimited_rest s n k v]
@[simp] theorem State.raiseLimited_kg (n k : Nat) (v : List Nat) (s : State) : (s.raiseLimited n k v).kg = s.kg := by rw [State.raiseLimited_rest s n k v]
@[simp] theorem State.raiseLimited_rv (n k : Nat) (v : List Nat) (s : State) : (s.raiseLimited n k v).rv = s.rv := by rw [State.raiseLimited_rest s n k v]

/-! The bytes of memory. -/

@[simp] theorem State.syncFree_mem (s : State) : (s.syncFree).mem = s.mem := rfl

@[simp] theorem State.assignFrame_mem (s : State) x : (s.assignFrame x).mem = s.mem := by
  unfold State.assignFrame; dsimp only; repeat' split
  all_goals simp

@[simp] theorem State.requestFill_mem (s : State) x y : (s.requestFill x y).mem = s.mem := by
  unfold State.requestFill State.requestFillOf; dsimp only; repeat' split
  all_goals simp

@[simp] theorem State.pageWrite_mem (s : State) x : (s.pageWrite x).mem = s.mem := by
  unfold State.pageWrite; dsimp only; repeat' split
  all_goals simp

@[simp] theorem State.mapNote_mem (s : State) x : (s.mapNote x).mem = s.mem := by
  unfold State.mapNote; dsimp only; split <;> simp

theorem State.pumpFrames_mem fs : ∀ (s : State), (State.pumpFrames fs s).mem = s.mem := by
  induction fs with
  | nil => intro s; rfl
  | cons f t ih => intro s; rw [State.pumpFrames]; split; exact ih s; split; rw [ih]; rfl; rfl

@[simp] theorem State.sendFrame_mem (s : State) x : (s.sendFrame x).2.mem = s.mem := by
  unfold State.sendFrame State.pump; dsimp only; rw [State.pumpFrames_mem]; rfl

theorem State.when_mem (s : State) (c : Bool) (f : State → State) (h : ∀ t, (f t).mem = t.mem) : (s.when c f).mem = s.mem := by
  unfold State.when; split
  · exact h s
  · rfl

@[simp] theorem State.mirrorNow_mem (s : State) x : (s.mirrorNow x).mem = s.mem := by
  unfold State.mirrorNow; simp

@[simp] theorem State.mirrorLine_mem (s : State) x : (s.mirrorLine x).mem = s.mem := by
  unfold State.mirrorLine; dsimp only; split
  · simp
  · split <;> simp
  · simp

@[simp] theorem State.notePeak_mem (s : State) : (s.notePeak).mem = s.mem := by
  unfold State.notePeak; dsimp only; split <;> simp

@[simp] theorem State.commitLine_mem (s : State) x y : (s.commitLine x y).mem = s.mem := by
  unfold State.commitLine; simp

@[simp] theorem State.noteFront_mem (s : State) x : (s.noteFront x).mem = s.mem := by
  unfold State.noteFront; dsimp only; split <;> rfl

@[simp] theorem State.poisonLine_mem (s : State) x y : (s.poisonLine x y).mem = s.mem := by
  unfold State.poisonLine; dsimp only; split <;> simp

theorem State.drawWords_mem (n : Nat) (s : State) : (s.drawWords n).2.mem = s.mem := by
  have h : ∀ (l : List Nat) (r : Nat × State),
      (l.foldl (fun (r : Nat × State) _ => let d := r.2.draw 64; (r.1 * 2 ^ 64 + d.1, d.2)) r).2.mem = r.2.mem := by
    intro l
    induction l with
    | nil => intro r; rfl
    | cons x l ih => intro r; rw [List.foldl_cons, ih]; rfl
  exact h _ _

@[simp] theorem State.putKeys_mem (s : State) k v : (s.putKeys k v).mem = s.mem := by
  unfold State.putKeys State.drawKeys; exact State.drawWords_mem 12 s

@[simp] theorem State.keyCacheUse_mem (s : State) a b c d : (s.keyCacheUse a b c d).mem = s.mem := by
  unfold State.keyCacheUse State.renewShares; dsimp only; split
  · rfl
  · split <;> simp [State.drawLineMask]

@[simp] theorem State.encryptLine_mem (s : State) x : (s.encryptLine x).mem = s.mem := by
  unfold State.encryptLine; dsimp only; split <;> simp

/-- `s` differs from `a` in the channels at most. -/
def DramOnly (a s : State) : Prop := ∃ d : Dram, s = { a with dram := d }

theorem DramOnly.refl (a : State) : DramOnly a a := ⟨a.dram, rfl⟩

theorem DramOnly.trans {a b c : State} (h : DramOnly a b) (g : DramOnly b c) : DramOnly a c := by
  obtain ⟨d, rfl⟩ := h
  obtain ⟨e, rfl⟩ := g
  exact ⟨e, rfl⟩

theorem State.syncDrain_rest (c : Nat) (s : State) : DramOnly s (s.syncDrain c) := ⟨_, rfl⟩

/-- A request selected changes the channels alone. -/
theorem State.selectReq_rest (c : Nat) (w : Bool) (q : DramReq) (s : State) : DramOnly s (s.selectReq c w q) := by
  unfold State.selectReq State.accessRow; dsimp only
  refine DramOnly.trans ?_ (State.syncDrain_rest c _)
  repeat' split
  all_goals exact ⟨_, rfl⟩

/-- Room made in a queue changes the channels alone. -/
theorem State.queueRoom_rest (c : Nat) (w : Bool) : ∀ (n : Nat) (s : State), DramOnly s (State.queueRoom c w n s) := by
  intro n
  induction n with
  | zero => intro s; exact DramOnly.refl s
  | succ n ih =>
    intro s
    have h : ∀ o : Option (Bool × DramReq), DramOnly s (match o with
        | some x => State.queueRoom c w n (s.selectReq c x.1 x.2)
        | none => s) := by
      rintro (_ | x)
      · exact DramOnly.refl s
      · exact (State.selectReq_rest c x.1 x.2 s).trans (ih _)
    unfold State.queueRoom
    repeat' split
    all_goals first | exact DramOnly.refl s | exact (State.selectReq_rest _ _ _ s).trans (ih _)

/-- An access entering its channel's queue changes the channels alone (R357). -/
theorem State.enqueue_only (w : Bool) (x : Nat) (s : State) : DramOnly s (s.enqueue w x) := by
  unfold State.enqueue; split
  · dsimp only; split
    · exact DramOnly.refl s
    · refine DramOnly.trans ?_ (State.syncDrain_rest _ _)
      obtain ⟨d, h⟩ := (State.syncDrain_rest _ s).trans (State.queueRoom_rest _ w 128 _)
      rw [h]; exact ⟨_, rfl⟩
  · exact DramOnly.refl s

theorem State.enqueue_rest (w : Bool) (x : Nat) (s : State) : s.enqueue w x = { s with dram := (s.enqueue w x).dram } := by
  obtain ⟨d, h⟩ := s.enqueue_only w x
  rw [h]

@[simp] theorem State.enqueue_mem (s : State) w x : (s.enqueue w x).mem = s.mem := by rw [State.enqueue_rest]
@[simp] theorem State.enqueue_regs (s : State) w x : (s.enqueue w x).regs = s.regs := by rw [State.enqueue_rest]
@[simp] theorem State.enqueue_lines (s : State) w x : (s.enqueue w x).lines = s.lines := by rw [State.enqueue_rest]
@[simp] theorem State.enqueue_front (s : State) w x : (s.enqueue w x).front = s.front := by rw [State.enqueue_rest]
@[simp] theorem State.enqueue_fc (s : State) w x : (s.enqueue w x).fc = s.fc := by rw [State.enqueue_rest]
@[simp] theorem State.enqueue_out (s : State) w x : (s.enqueue w x).out = s.out := by rw [State.enqueue_rest]
@[simp] theorem State.enqueue_mode (s : State) w x : (s.enqueue w x).mode = s.mode := by rw [State.enqueue_rest]
@[simp] theorem State.enqueue_writes (s : State) w x : (s.enqueue w x).writes = s.writes := by rw [State.enqueue_rest]

@[simp] theorem State.writeBack_mem (s : State) x : (s.writeBack x).mem = s.mem := by
  unfold State.writeBack; simp

@[simp] theorem State.evictLine_mem (s : State) x : (s.evictLine x).mem = s.mem := by
  unfold State.evictLine; dsimp only; split <;> simp

theorem State.forEach_mem {α} (l : List α) (f : α → State → State) (h : ∀ x t, (f x t).mem = t.mem) : ∀ s : State, (s.forEach l f).mem = s.mem := by
  unfold State.forEach; induction l with
  | nil => intro s; rfl
  | cons x l ih => intro s; rw [List.foldl_cons, ih, h]

@[simp] theorem State.allocLine_mem (s : State) x y z : (s.allocLine x y z).mem = s.mem := by
  unfold State.allocLine
  extract_lets dirty t
  have ht : t.mem = s.mem := State.when_mem _ _ _ fun a => a.writeBack_mem x
  rw [← ht]; clear_value t; dsimp only; repeat' split
  · rfl
  · rfl
  · rfl
  · rw [State.setFront_mem, State.evictLine_mem, State.forEach_mem]
    intro e a; rfl

@[simp] theorem State.guestNote_mem (s : State) x y z : (s.guestNote x y z).mem = s.mem := by
  unfold State.guestNote; dsimp only; repeat' split
  all_goals simp

@[simp] theorem State.recordWrite_mem (s : State) w a b : (s.recordWrite w a b).mem = s.mem := by
  unfold State.recordWrite; dsimp only; split
  · simp
  · simp [State.noteOpWrite]
  · rfl

@[simp] theorem State.msix_mem (s : State) a b : (s.msix a b).mem = s.mem := by
  unfold State.msix; dsimp only; repeat' split
  all_goals rfl

@[simp] theorem State.placeRecord_mem (s : State) a b c d e f g h i : (s.placeRecord a b c d e f g h i).mem = s.mem := by
  unfold State.placeRecord; dsimp only; generalize (if b = 6 then _ else if b = 5 then _ else _ : Option LdState) = o
  cases o
  · rfl
  · dsimp only; split
    · rw [State.when_mem _ _ _ fun a => a.msix_mem _ _]; rfl
    · rfl

@[simp] theorem State.recordLine_mem (s : State) a b c d e : (s.recordLine a b c d e).mem = s.mem := by
  unfold State.recordLine; dsimp only; split; rfl; rw [State.forEach_mem]; intro x t; split; split <;> simp; rfl

@[simp] theorem State.mergeRefused_mem (s : State) a b c d : (s.mergeRefused a b c d).mem = s.mem := by
  unfold State.mergeRefused; dsimp only; split; simp; split <;> simp; simp

@[simp] theorem State.traceEntry_mem (s : State) a b c d : (s.traceEntry a b c d).2.mem = s.mem := by
  unfold State.traceEntry; dsimp only; generalize (if d = true then _ else _ : Bool) = z; split <;> rfl

theorem State.wakeSlice_mem (s : State) a : (s.wakeSlice a).2.mem = s.mem := by
  unfold State.wakeSlice; dsimp only; split <;> rfl

@[simp] theorem State.grant_mem (s : State) a b : (s.grant a b).mem = s.mem := by
  unfold State.grant State.rotate; exact s.wakeSlice_mem _

@[simp] theorem State.extentLookup_mem (s : State) a : (s.extentLookup a).mem = s.mem := by
  unfold State.extentLookup; dsimp only; split; rfl; split <;> rfl

@[simp] theorem State.charge_mem (s : State) a : (s.charge a).mem = s.mem := rfl

end Sys2Proof.Machine
end

