-- ==== Sys2Proof/Laws/Keep.lean ====
section
/-! SUPPORT. What every operation of the machine keeps: the queue of waiting commands and the clock stay, free values are drawn forward only, and the tables
keep their canonical form. Proved here of the operations of Machine/Ops.lean. -/

namespace Sys2Proof.Machine

open Sys2Proof

/-- From `a` to `s`: the waiting commands and the clock are the same, no free value is drawn again, and a sound state stays sound. -/
structure Keeps (a s : State) : Prop where
  pending : s.pending = a.pending
  now : s.now = a.now
  draws : a.draws ≤ s.draws
  canon : a.Sound → s.Sound

theorem Keeps.refl (s : State) : Keeps s s := ⟨rfl, rfl, le_rfl, id⟩

theorem Keeps.trans {a b c : State} (h : Keeps a b) (g : Keeps b c) : Keeps a c :=
  ⟨g.1.trans h.1, g.2.trans h.2, h.3.trans g.3, g.4 ∘ h.4⟩

/-- A change of any field but the queue, the clock, the draws and the tables, that adds nothing to the collector's queue or the always-on store. -/
theorem Keeps.upd {a s : State} (h : Keeps a s) {m la ou fc fr vi ro wr re ing ne regi ld wi li po pov lh me fa fp cul ks cry cw wit ber qu sc ssb dr fl pw eth kg rv}
    (hq : fc.queue.length ≤ s.fc.queue.length := by first | exact le_rfl | exact Nat.zero_le _)
    (ha : fc.aon.length ≤ s.fc.aon.length := by first | exact le_rfl | exact Nat.zero_le _) :
    Keeps a ⟨s.pending, s.now, s.draws, m, s.regs, la, s.mem, s.deep, s.lines, s.deepLines, ou, fc, fr, vi, ro, wr, re, ing, ne, regi, ld, wi, li, po,
      pov, lh, me, fa, fp, cul, ks, cry, cw, wit, ber, qu, sc, ssb, dr, fl, pw, eth, kg, rv⟩ :=
  ⟨h.1, h.2, h.3, fun c => ⟨(h.4 c).1, (h.4 c).2, (h.4 c).3, (h.4 c).4, (h.4 c).5, hq.trans (h.4 c).6, ha.trans (h.4 c).7⟩⟩

/-- A change of the tables that keeps each canonical. -/
theorem Keeps.tables {a s : State} (h : Keeps a s) {m rg la mm dp ln dl ou fc fr vi ro wr re ing ne regi ld wi li po pov lh me fa fp cul ks cry cw wit ber
      qu sc ssb dr fl pw eth kg rv}
    (hr : (s.regs.Pairwise fun (e f : Nat × Nat) => e.1 < f.1) → rg.Pairwise fun (e f : Nat × Nat) => e.1 < f.1)
    (hm : Memory.wf s.mem = true → Memory.wf mm = true) (hd : Memory.wf s.deep = true → Memory.wf dp = true)
    (hl : Sparse.wf (fun _ => LineMeta.fresh) s.lines = true → Sparse.wf (fun _ => LineMeta.fresh) ln = true)
    (he : Sparse.wf (fun _ => LineMeta.fresh) s.deepLines = true → Sparse.wf (fun _ => LineMeta.fresh) dl = true)
    (hq : fc.queue.length ≤ s.fc.queue.length := by first | exact le_rfl | exact Nat.zero_le _)
    (ha : fc.aon.length ≤ s.fc.aon.length := by first | exact le_rfl | exact Nat.zero_le _) :
    Keeps a ⟨s.pending, s.now, s.draws, m, rg, la, mm, dp, ln, dl, ou, fc, fr, vi, ro, wr, re, ing, ne, regi, ld, wi, li, po,
      pov, lh, me, fa, fp, cul, ks, cry, cw, wit, ber, qu, sc, ssb, dr, fl, pw, eth, kg, rv⟩ :=
  ⟨h.1, h.2, h.3, fun c => ⟨hm (h.4 c).1, hd (h.4 c).2, hl (h.4 c).3, he (h.4 c).4, hr (h.4 c).5, hq.trans (h.4 c).6, ha.trans (h.4 c).7⟩⟩

theorem Keeps.foldl_fst {α β : Type} {a : State} {s : State × β} {l : List α} {f : State × β → α → State × β} (h : Keeps a s.1)
    (hf : ∀ t x, Keeps t.1 (f t x).1) : Keeps a (l.foldl f s).1 := by
  induction l generalizing s with
  | nil => exact h
  | cons x l ih => exact ih (h.trans (hf s x))

theorem Keeps.ite {a x y : State} {c : Prop} [Decidable c] (h : Keeps a x) (g : Keeps a y) : Keeps a (if c then x else y) := by
  split
  · exact h
  · exact g

theorem Keeps.ite_snd {α : Type} {a : State} {x y : α × State} {c : Prop} [Decidable c] (h : Keeps a x.2) (g : Keeps a y.2) :
    Keeps a (if c then x else y).2 := by
  split
  · exact h
  · exact g

theorem Keeps.ite_fst {α : Type} {a : State} {x y : State × α} {c : Prop} [Decidable c] (h : Keeps a x.1) (g : Keeps a y.1) :
    Keeps a (if c then x else y).1 := by
  split
  · exact h
  · exact g

theorem Keeps.foldl {α : Type} {a s : State} {l : List α} {f : State → α → State} (h : Keeps a s) (hf : ∀ t x, Keeps t (f t x)) :
    Keeps a (l.foldl f s) := by
  induction l generalizing s with
  | nil => exact h
  | cons x l ih => exact ih (h.trans (hf s x))

theorem Keeps.foldl_snd {α β : Type} {a : State} {s : β × State} {l : List α} {f : β × State → α → β × State} (h : Keeps a s.2)
    (hf : ∀ t x, Keeps t.2 (f t x).2) : Keeps a (l.foldl f s).2 := by
  induction l generalizing s with
  | nil => exact h
  | cons x l ih => exact ih (h.trans (hf s x))

/-- An entry added to the always-on store while it has room. -/
theorem Keeps.ite_lt {a s y : State} {e : EvEntry} (h : Keeps a s) (g : Keeps a y) :
    Keeps a (if s.fc.aon.length < 16 then { s with fc := { s.fc with aon := s.fc.aon ++ [e] } } else y) := by
  split
  · rename_i hlt
    exact ⟨h.1, h.2, h.3, fun c => ⟨(h.4 c).1, (h.4 c).2, (h.4 c).3, (h.4 c).4, (h.4 c).5, (h.4 c).6, by
      simp only [List.length_append, List.length_cons, List.length_nil]; omega⟩⟩
  · exact g

/-- Whatever next state an outcome answers keeps what `Keeps` says of `a`. -/
def Kept (a : State) (o : Host.Outcome State Fault Refusal) : Prop := ∀ t, o = .next t → Keeps a t

theorem Kept.next {a s : State} (h : Keeps a s) : Kept a (.next s) := fun _ e => by cases e; exact h

theorem Kept.ite {a : State} {x y : Host.Outcome State Fault Refusal} {c : Prop} [Decidable c] (h : Kept a x) (g : Kept a y) :
    Kept a (if c then x else y) := by
  split
  · exact h
  · exact g

theorem State.forEach_keeps {α : Type} {a s : State} {l : List α} {f : α → State → State} (h : Keeps a s) (hf : ∀ x t, Keeps t (f x t)) :
    Keeps a (s.forEach l f) := Keeps.foldl h fun t x => hf x t

theorem State.when_keeps {a s : State} {c : Bool} {f : State → State} (h : Keeps a s) (hf : ∀ t, Keeps t (f t)) : Keeps a (s.when c f) := by
  unfold State.when; split
  · exact h.trans (hf s)
  · exact h

theorem State.put_keeps {a s : State} {f : Fld} {v : Nat} (h : Keeps a s) : Keeps a (s.put f v) :=
  ⟨h.1, h.2, h.3, fun c => ⟨(h.4 c).1, (h.4 c).2, (h.4 c).3, (h.4 c).4, Sparse.rising_set (h.4 c).5, (h.4 c).6, (h.4 c).7⟩⟩

theorem State.bump_keeps {a s : State} {f : Fld} {n : Nat} (h : Keeps a s) : Keeps a (s.bump f n) := State.put_keeps h

theorem State.emit_keeps {a s : State} {o : Output} (h : Keeps a s) : Keeps a (s.emit o) := h.upd

theorem State.draw_keeps {a s : State} {w : Nat} (h : Keeps a s) : Keeps a (s.draw w).2 :=
  ⟨h.1, h.2, h.3.trans (Nat.le_succ _), fun c => ⟨(h.4 c).1, (h.4 c).2, (h.4 c).3, (h.4 c).4, (h.4 c).5, (h.4 c).6, (h.4 c).7⟩⟩

theorem State.storeLine_keeps {a s : State} {line : Nat} {mask : BitVec 256} {d : LineData} (h : Keeps a s) : Keeps a (s.storeLine line mask d) := by
  refine ⟨h.1, h.2, h.3, fun c => ⟨?_, (h.4 c).2, (h.4 c).3, (h.4 c).4, (h.4 c).5, (h.4 c).6, (h.4 c).7⟩⟩
  have hm := (h.4 c).1
  simp only [State.storeLine]
  generalize List.range 256 = l
  generalize s.mem = m at hm ⊢
  induction l generalizing m with
  | nil => exact hm
  | cons i l ih =>
    refine ih _ ?_
    dsimp only; split
    · exact Sparse.wf_set hm
    · exact hm

theorem State.zeroLine_keeps {a s : State} {line : Nat} (h : Keeps a s) : Keeps a (s.zeroLine line) :=
  ⟨h.1, h.2, h.3, fun c => ⟨Sparse.wf_clear (h.4 c).1, (h.4 c).2, (h.4 c).3, (h.4 c).4, (h.4 c).5, (h.4 c).6, (h.4 c).7⟩⟩

theorem State.setMeta_keeps {a s : State} {line : Nat} {m : LineMeta} (h : Keeps a s) : Keeps a (s.setMeta line m) :=
  ⟨h.1, h.2, h.3, fun c => ⟨(h.4 c).1, (h.4 c).2, Sparse.wf_set (h.4 c).3, (h.4 c).4, (h.4 c).5, (h.4 c).6, (h.4 c).7⟩⟩

end Sys2Proof.Machine
end

