-- ==== Sys2Proof/Laws/KeepOps.lean ====
section
/-! SUPPORT. What `Keeps` says, of each operation the meanings are built from: the first half, up to the operations of the tiers. -/

namespace Sys2Proof.Machine

open Sys2Proof

set_option Elab.async false

theorem State.settleLatch_keeps {z0 : State} {s : State} (hz : Keeps z0 s) : Keeps z0 (State.settleLatch s) := by
  unfold State.settleLatch
  simp (maxDischargeDepth := 60) only [hz, ↓Keeps.ite, ↓Keeps.upd, le_refl]

theorem State.queueEntry_keeps {z0 : State} {e : EvEntry} {s : State} (hz : Keeps z0 s) : Keeps z0 (State.queueEntry e s) := by
  unfold State.queueEntry
  split
  · rename_i hlt
    exact ⟨hz.1, hz.2, hz.3, fun c => ⟨(hz.4 c).1, (hz.4 c).2, (hz.4 c).3, (hz.4 c).4, (hz.4 c).5, by
      simp only [List.length_append, List.length_cons, List.length_nil]; omega, (hz.4 c).7⟩⟩
  · exact State.bump_keeps hz.upd

theorem State.beginCond_keeps {z0 : State} {n : Nat} {s : State} (hz : Keeps z0 s) : Keeps z0 (State.beginCond n s) := by
  unfold State.beginCond
  simp (maxDischargeDepth := 60) only [hz, ↓Keeps.ite, ↓Keeps.upd, le_refl]

theorem State.raise_keeps {z0 : State} {n : Nat} {vals : List Nat} {s : State} (hz : Keeps z0 s) : Keeps z0 (State.raise n vals s) := by
  unfold State.raise
  dsimp only
  split
  · exact hz
  · have k1 : Keeps z0 (s.beginCond n) := State.beginCond_keeps hz
    split
    · split
      · refine Keeps.upd (State.queueEntry_keeps (Keeps.ite (Keeps.upd ?_) ?_)) <;>
          exact State.put_keeps (State.put_keeps (State.bump_keeps (State.put_keeps k1)))
      · exact Keeps.upd (State.bump_keeps k1)
    · refine Keeps.ite_lt ?_ (Keeps.upd ?_) <;> exact Keeps.ite k1.upd k1

theorem State.raiseThreshold_keeps {z0 : State} {n : Nat} {vals : List Nat} {s : State} (hz : Keeps z0 s)
    : Keeps z0 (State.raiseThreshold n vals s) := by
  unfold State.raiseThreshold
  try dsimp only
  (repeat' split) <;> simp (maxDischargeDepth := 60) only [hz, ↓Keeps.upd, le_refl, ↓State.raise_keeps]

theorem State.raiseLimited_keeps {z0 : State} {n key : Nat} {vals : List Nat} {s : State} (hz : Keeps z0 s)
    : Keeps z0 (State.raiseLimited n key vals s) := by
  unfold State.raiseLimited
  simp (maxDischargeDepth := 60) only [hz, ↓Keeps.ite, ↓Keeps.upd, le_refl, ↓State.raise_keeps]

theorem State.ackSource_keeps {z0 : State} {n : Nat} {s : State} (hz : Keeps z0 s) : Keeps z0 (State.ackSource n s) := by
  unfold State.ackSource
  simp (maxDischargeDepth := 60) only [hz, ↓Keeps.ite, ↓State.put_keeps, ↓State.settleLatch_keeps]

theorem State.endCond_keeps {z0 : State} {n : Nat} {s : State} (hz : Keeps z0 s) : Keeps z0 (State.endCond n s) := by
  unfold State.endCond
  simp (maxDischargeDepth := 60) only [hz, ↓Keeps.ite, ↓Keeps.upd, le_refl, ↓State.put_keeps, ↓State.settleLatch_keeps]

theorem State.setRegion_keeps {z0 : State} {idx : Nat} {r : Region} {s : State} (hz : Keeps z0 s) : Keeps z0 (State.setRegion idx r s) := by
  unfold State.setRegion
  simp (maxDischargeDepth := 60) only [hz, ↓Keeps.upd, le_refl]

theorem State.setLink_keeps {z0 : State} {l : Nat} {k : CxlLink} {s : State} (hz : Keeps z0 s) : Keeps z0 (State.setLink l k s) := by
  unfold State.setLink
  simp (maxDischargeDepth := 60) only [hz, ↓Keeps.upd, le_refl]

theorem State.setLd_keeps {z0 : State} {n : Nat} {d : LdState} {s : State} (hz : Keeps z0 s) : Keeps z0 (State.setLd n d s) := by
  unfold State.setLd
  simp (maxDischargeDepth := 60) only [hz, ↓Keeps.upd, le_refl]

theorem State.msix_keeps {z0 : State} {n v : Nat} {s : State} (hz : Keeps z0 s) : Keeps z0 (State.msix n v s) := by
  unfold State.msix
  simp (maxDischargeDepth := 60) only [hz, ↓Keeps.ite, ↓State.emit_keeps, ↓State.setLd_keeps]

theorem State.maskMsix_keeps {z0 : State} {n v : Nat} {masked : Bool} {s : State} (hz : Keeps z0 s) : Keeps z0 (State.maskMsix n v masked s) := by
  unfold State.maskMsix
  simp (maxDischargeDepth := 60) only [hz, ↓Keeps.ite, Keeps.refl, implies_true, ↓State.emit_keeps, ↓State.setLd_keeps, ↓State.when_keeps]

theorem State.keepWindow_keeps {z0 : State} {w : WinRec} {s : State} (hz : Keeps z0 s) : Keeps z0 (State.keepWindow w s) := by
  unfold State.keepWindow
  simp (maxDischargeDepth := 60) only [hz, ↓Keeps.upd, le_refl]

theorem State.refuse_keeps {z0 : State} {p : Path} {chk tenant ingress a : Nat} {s : State} (hz : Keeps z0 s)
    : Keeps z0 (State.refuse p chk tenant ingress a s) := by
  unfold State.refuse
  simp (maxDischargeDepth := 60) only [hz, ↓Keeps.ite, ↓State.bump_keeps, ↓State.put_keeps, ↓State.raise_keeps]

theorem State.notePeak_keeps {z0 : State} {s : State} (hz : Keeps z0 s) : Keeps z0 (State.notePeak s) := by
  unfold State.notePeak
  simp (maxDischargeDepth := 60) only [hz, ↓Keeps.ite, ↓State.put_keeps]

theorem State.noteLoad_keeps {z0 : State} {s : State} (hz : Keeps z0 s) : Keeps z0 (State.noteLoad s) := by
  unfold State.noteLoad
  simp (maxDischargeDepth := 60) only [hz, ↓Keeps.ite, ↓Keeps.upd, le_refl, ↓State.put_keeps]

theorem State.setActive_keeps {z0 : State} {n : Nat} {s : State} (hz : Keeps z0 s) : Keeps z0 (State.setActive n s) := by
  unfold State.setActive
  simp (maxDischargeDepth := 60) only [hz, ↓State.put_keeps]

theorem State.countGrant_keeps {z0 : State} {g : Option Nat} {s : State} (hz : Keeps z0 s) : Keeps z0 (State.countGrant g s) := by
  unfold State.countGrant
  split <;> simp (maxDischargeDepth := 60) only [hz, ↓State.put_keeps]

theorem State.addReq_keeps {z0 : State} {r : GuestReq} {s : State} (hz : Keeps z0 s) : Keeps z0 (State.addReq r s) := by
  unfold State.addReq
  simp (maxDischargeDepth := 60) only [hz, ↓Keeps.upd, le_refl, ↓State.countGrant_keeps]

theorem State.dropReqs_keeps {z0 : State} {p : GuestReq → Bool} {s : State} (hz : Keeps z0 s) : Keeps z0 (State.dropReqs p s) := by
  unfold State.dropReqs
  simp (maxDischargeDepth := 60) only [hz, ↓Keeps.upd, Keeps.refl, implies_true, le_refl, ↓State.countGrant_keeps, ↓State.forEach_keeps]

theorem State.kerupDeliver_keeps {z0 : State} {p : Nat} {m : KMsg} {s : State} (hz : Keeps z0 s) : Keeps z0 (State.kerupDeliver p m s) := by
  unfold State.kerupDeliver
  split <;> simp (maxDischargeDepth := 60) only [hz, ↓Keeps.upd, le_refl, ↓State.dropReqs_keeps, ↓State.emit_keeps]

theorem State.hubTakes_keeps {z0 : State} {p cls n : Nat} {s : State} (hz : Keeps z0 s) : Keeps z0 (State.hubTakes p cls n s) := by
  unfold State.hubTakes
  simp (maxDischargeDepth := 60) only [hz, ↓Keeps.upd, le_refl]

theorem State.hubGrants_keeps {z0 : State} {p : Nat} {s : State} (hz : Keeps z0 s) : Keeps z0 (State.hubGrants p s) := by
  unfold State.hubGrants
  simp (maxDischargeDepth := 60) only [hz, ↓Keeps.upd, le_refl, ↓State.emit_keeps]

theorem State.returnCredits_keeps {z0 : State} {s : State} (hz : Keeps z0 s) : Keeps z0 (State.returnCredits s) := by
  unfold State.returnCredits
  simp (maxDischargeDepth := 60) only [hz, ↓Keeps.ite, ↓Keeps.upd, Keeps.refl, implies_true, le_refl, ↓State.emit_keeps, ↓State.forEach_keeps]

theorem State.kerupSend_keeps {z0 : State} {p : Nat} {m : KMsg} {s : State} (hz : Keeps z0 s) : Keeps z0 (State.kerupSend p m s) := by
  unfold State.kerupSend
  simp (maxDischargeDepth := 60) only [hz, ↓Keeps.ite, ↓Keeps.upd, le_refl, ↓State.kerupDeliver_keeps]

theorem State.kerupPump_keeps {z0 : State} {p : Nat} {s : State} (hz : Keeps z0 s) : Keeps z0 (State.kerupPump p s) := by
  unfold State.kerupPump
  simp (maxDischargeDepth := 60) only [hz, ↓Keeps.ite, ↓Keeps.upd, Keeps.refl, implies_true, le_refl, ↓State.forEach_keeps, ↓State.kerupSend_keeps]

theorem State.guestNote_keeps {z0 : State} {p tag seq : Nat} {s : State} (hz : Keeps z0 s) : Keeps z0 (State.guestNote p tag seq s) := by
  unfold State.guestNote
  split <;> simp (maxDischargeDepth := 60) only [hz, ↓Keeps.ite, ↓Keeps.upd, le_refl]

theorem State.setPage_keeps {z0 : State} {p : Nat} {g : Page} {s : State} (hz : Keeps z0 s) : Keeps z0 (State.setPage p g s) := by
  unfold State.setPage
  simp (maxDischargeDepth := 60) only [hz, ↓Keeps.upd, le_refl]

theorem State.setExtent_keeps {z0 : State} {x : Nat} {e : Extent} {s : State} (hz : Keeps z0 s) : Keeps z0 (State.setExtent x e s) := by
  unfold State.setExtent
  simp (maxDischargeDepth := 60) only [hz, ↓Keeps.upd, le_refl]

theorem State.syncFree_keeps {z0 : State} {s : State} (hz : Keeps z0 s) : Keeps z0 (State.syncFree s) := by
  unfold State.syncFree
  simp (maxDischargeDepth := 60) only [hz, ↓State.put_keeps]

theorem State.syncDrain_keeps {z0 : State} {c : Nat} {s : State} (hz : Keeps z0 s) : Keeps z0 (State.syncDrain c s) := by
  unfold State.syncDrain
  simp (maxDischargeDepth := 60) only [hz, ↓Keeps.upd, le_refl]

theorem State.accessRow_keeps {z0 : State} {q : DramReq} {s : State} (hz : Keeps z0 s) : Keeps z0 (State.accessRow q s) := by
  unfold State.accessRow
  simp (maxDischargeDepth := 60) only [hz, ↓Keeps.ite, ↓Keeps.upd, le_refl]

theorem State.selectReq_keeps {z0 : State} {c : Nat} {w : Bool} {q : DramReq} {s : State} (hz : Keeps z0 s) : Keeps z0 (State.selectReq c w q s) := by
  unfold State.selectReq
  simp (maxDischargeDepth := 60) only [hz, ↓Keeps.ite, ↓Keeps.upd, le_refl, ↓State.accessRow_keeps, ↓State.syncDrain_keeps]

theorem State.selectUpTo_keeps {z0 : State} {c id n : Nat} {s : State} (hz : Keeps z0 s) : Keeps z0 (State.selectUpTo c id n s) := by
  induction n generalizing s with
  | zero => exact hz
  | succ n ih =>
    unfold State.selectUpTo
    split
    · split
      · exact ih (State.selectReq_keeps hz)
      · exact hz
    · exact hz

theorem State.selectAll_keeps {z0 : State} {c n : Nat} {s : State} (hz : Keeps z0 s) : Keeps z0 (State.selectAll c n s) := by
  induction n generalizing s with
  | zero => exact hz
  | succ n ih =>
    unfold State.selectAll
    split
    · exact ih (State.selectReq_keeps hz)
    · exact hz

theorem State.queueRoom_keeps {z0 : State} {c : Nat} {w : Bool} {n : Nat} {s : State} (hz : Keeps z0 s) : Keeps z0 (State.queueRoom c w n s) := by
  induction n generalizing s with
  | zero => exact hz
  | succ n ih =>
    unfold State.queueRoom
    repeat' split
    all_goals first | exact hz | exact ih (State.selectReq_keeps hz)

theorem State.enqueue_keeps {z0 : State} {w : Bool} {line : Nat} {s : State} (hz : Keeps z0 s) : Keeps z0 (State.enqueue w line s) := by
  unfold State.enqueue
  split <;> simp (maxDischargeDepth := 60) only [hz, ↓Keeps.ite, ↓Keeps.upd, le_refl, ↓State.queueRoom_keeps, ↓State.syncDrain_keeps]

theorem State.served_keeps {z0 : State} {w : Bool} {line : Nat} {s : State} (hz : Keeps z0 s) : Keeps z0 (State.served w line s) := by
  unfold State.served
  try dsimp only
  (repeat' split) <;> simp (maxDischargeDepth := 60) only [hz, ↓State.selectUpTo_keeps]

theorem State.dropQueues_keeps {z0 : State} {c : Nat} {s : State} (hz : Keeps z0 s) : Keeps z0 (State.dropQueues c s) := by
  unfold State.dropQueues
  simp (maxDischargeDepth := 60) only [hz, ↓Keeps.upd, le_refl]

theorem State.closeRows_keeps {z0 : State} {c r : Nat} {s : State} (hz : Keeps z0 s) : Keeps z0 (State.closeRows c r s) := by
  unfold State.closeRows
  simp (maxDischargeDepth := 60) only [hz, ↓Keeps.upd, le_refl]

theorem State.wakeRank_keeps {z0 : State} {line : Nat} {s : State} (hz : Keeps z0 s) : Keeps z0 (State.wakeRank line s) := by
  unfold State.wakeRank
  split <;> simp (maxDischargeDepth := 60) only [hz, ↓Keeps.upd, le_refl]

theorem State.placeRecord_keeps {z0 : State} {n cause source region tenant value : Nat} {dpa : Option Nat} {dram : List Nat} {onWrite : Bool}
    {s : State} (hz : Keeps z0 s) : Keeps z0 (State.placeRecord n cause source region tenant value dpa dram onWrite s) := by
  unfold State.placeRecord
  try dsimp only
  (repeat' split) <;> simp (maxDischargeDepth := 60) only [hz, Keeps.refl, implies_true, ↓State.emit_keeps, ↓State.msix_keeps, ↓State.setLd_keeps,
    ↓State.when_keeps]

theorem State.recordLine_keeps {z0 : State} {cause source line value : Nat} {onWrite : Bool} {s : State} (hz : Keeps z0 s)
    : Keeps z0 (State.recordLine cause source line value onWrite s) := by
  unfold State.recordLine
  split
  · exact hz
  · refine State.forEach_keeps hz fun n t => ?_
    split
    · split
      · exact State.placeRecord_keeps (Keeps.refl _)
      · exact Keeps.refl _
    · exact Keeps.refl _

theorem State.recordTo_keeps {z0 : State} {n cause source line value : Nat} {onWrite : Bool} {s : State} (hz : Keeps z0 s)
    : Keeps z0 (State.recordTo n cause source line value onWrite s) := by
  unfold State.recordTo
  simp (maxDischargeDepth := 60) only [hz, ↓State.placeRecord_keeps]

theorem State.recordAll_keeps {z0 : State} {cause source value : Nat} {s : State} (hz : Keeps z0 s)
    : Keeps z0 (State.recordAll cause source value s) := by
  unfold State.recordAll
  simp (maxDischargeDepth := 60) only [hz, Keeps.refl, implies_true, ↓State.forEach_keeps, ↓State.placeRecord_keeps]

theorem State.pumpFrames_keeps {z0 : State} {l : List (Nat × CwBody)} {s : State} (hz : Keeps z0 s) : Keeps z0 (State.pumpFrames l s) := by
  induction l generalizing s with
  | nil => exact hz
  | cons f t ih =>
    unfold State.pumpFrames
    split
    · exact ih hz
    · split
      · exact ih (State.emit_keeps hz.upd)
      · exact hz

theorem State.pump_keeps {z0 : State} {s : State} (hz : Keeps z0 s) : Keeps z0 (State.pump s) := by
  exact State.pumpFrames_keeps hz

theorem State.sendFrame_keeps {z0 : State} {b : CwBody} {s : State} (hz : Keeps z0 s) : Keeps z0 (State.sendFrame b s).2 := by
  unfold State.sendFrame
  simp (maxDischargeDepth := 60) only [hz, ↓Keeps.upd, le_refl, ↓State.pump_keeps, ↓State.put_keeps]

theorem State.mapNote_keeps {z0 : State} {line : Nat} {s : State} (hz : Keeps z0 s) : Keeps z0 (State.mapNote line s) := by
  unfold State.mapNote
  simp (maxDischargeDepth := 60) only [hz, ↓Keeps.ite, ↓Keeps.upd, le_refl]

theorem State.mirrorNow_keeps {z0 : State} {line : Nat} {s : State} (hz : Keeps z0 s) : Keeps z0 (State.mirrorNow line s) := by
  unfold State.mirrorNow
  simp (maxDischargeDepth := 60) only [hz, ↓State.sendFrame_keeps, ↓State.setMeta_keeps]

theorem State.mirrorLine_keeps {z0 : State} {line : Nat} {s : State} (hz : Keeps z0 s) : Keeps z0 (State.mirrorLine line s) := by
  unfold State.mirrorLine
  try dsimp only
  (repeat' split) <;> simp (maxDischargeDepth := 60) only [hz, ↓Keeps.upd, le_refl, ↓State.mapNote_keeps, ↓State.mirrorNow_keeps,
    ↓State.sendFrame_keeps]

theorem State.mirrorHeld_keeps {z0 : State} {l : List Nat} {s : State} (hz : Keeps z0 s) : Keeps z0 (State.mirrorHeld l s) := by
  induction l generalizing s with
  | nil => exact hz
  | cons a t ih =>
    unfold State.mirrorHeld
    split
    · exact hz
    · exact ih (Keeps.ite (State.mirrorNow_keeps hz.upd) hz.upd)

theorem State.assignFrame_keeps {z0 : State} {x : Nat} {s : State} (hz : Keeps z0 s) : Keeps z0 (State.assignFrame x s) := by
  unfold State.assignFrame
  split <;> simp (maxDischargeDepth := 60) only [hz, ↓Keeps.ite, ↓Keeps.upd, le_refl, ↓State.setExtent_keeps, ↓State.syncFree_keeps]

theorem State.requestFillOf_keeps {z0 : State} {p prio stream : Nat} {s : State} (hz : Keeps z0 s)
    : Keeps z0 (State.requestFillOf p prio stream s) := by
  unfold State.requestFillOf
  split <;> simp (maxDischargeDepth := 60) only [hz, ↓Keeps.ite, ↓Keeps.upd, le_refl, ↓State.assignFrame_keeps, ↓State.setPage_keeps]

theorem State.requestFill_keeps {z0 : State} {p prio : Nat} {s : State} (hz : Keeps z0 s) : Keeps z0 (State.requestFill p prio s) := by
  unfold State.requestFill
  simp (maxDischargeDepth := 60) only [hz, ↓State.requestFillOf_keeps]

theorem State.extentLookup_keeps {z0 : State} {x : Nat} {s : State} (hz : Keeps z0 s) : Keeps z0 (State.extentLookup x s) := by
  unfold State.extentLookup
  simp (maxDischargeDepth := 60) only [hz, ↓Keeps.ite, ↓Keeps.upd, le_refl, ↓State.bump_keeps, ↓State.draw_keeps]

theorem State.pageWrite_keeps {z0 : State} {line : Nat} {s : State} (hz : Keeps z0 s) : Keeps z0 (State.pageWrite line s) := by
  unfold State.pageWrite
  try dsimp only
  (repeat' split) <;> simp (maxDischargeDepth := 60) only [hz, ↓State.requestFill_keeps, ↓State.setExtent_keeps, ↓State.setPage_keeps]

theorem State.wakeSlice_keeps {z0 : State} {home : Nat} {s : State} (hz : Keeps z0 s) : Keeps z0 (State.wakeSlice home s).2 := by
  unfold State.wakeSlice
  simp (maxDischargeDepth := 60) only [hz, ↓Keeps.ite_snd, ↓State.bump_keeps, ↓State.put_keeps]

theorem State.rotate_keeps {z0 : State} {home port : Nat} {s : State} (hz : Keeps z0 s) : Keeps z0 (State.rotate home port s) := by
  unfold State.rotate
  simp (maxDischargeDepth := 60) only [hz, ↓Keeps.upd, le_refl]

theorem State.grant_keeps {z0 : State} {line port : Nat} {s : State} (hz : Keeps z0 s) : Keeps z0 (State.grant line port s) := by
  unfold State.grant
  simp (maxDischargeDepth := 60) only [hz, ↓State.rotate_keeps, ↓State.wakeSlice_keeps]

theorem State.traceEntry_keeps {z0 : State} {home port : Nat} {write miss : Bool} {s : State} (hz : Keeps z0 s)
    : Keeps z0 (State.traceEntry home port write miss s).2 := by
  unfold State.traceEntry
  simp (maxDischargeDepth := 60) only [hz, ↓Keeps.ite_snd, ↓Keeps.upd, le_refl]

theorem State.traceEnd_keeps {z0 : State} {sampled : Bool} {stages : List Nat} {s : State} (hz : Keeps z0 s)
    : Keeps z0 (State.traceEnd sampled stages s) := by
  unfold State.traceEnd
  simp (maxDischargeDepth := 60) only [hz, ↓Keeps.ite, Keeps.refl, implies_true, ↓State.bump_keeps, ↓State.forEach_keeps, ↓State.put_keeps]

theorem State.drawWords_keeps {z0 : State} {n : Nat} {s : State} (hz : Keeps z0 s) : Keeps z0 (State.drawWords n s).2 := by
  unfold State.drawWords
  simp (maxDischargeDepth := 60) only [hz, ↓Keeps.foldl_snd, Keeps.refl, implies_true, ↓State.draw_keeps]

theorem State.drawKeys_keeps {z0 : State} {s : State} (hz : Keeps z0 s) : Keeps z0 (State.drawKeys s).2 := by
  unfold State.drawKeys
  simp (maxDischargeDepth := 60) only [hz, ↓State.drawWords_keeps]

theorem State.drawShares_keeps {z0 : State} {s : State} (hz : Keeps z0 s) : Keeps z0 (State.drawShares s).2 := by
  unfold State.drawShares
  simp (maxDischargeDepth := 60) only [hz, ↓State.drawKeys_keeps]

theorem State.putKeys_keeps {z0 : State} {k key : Nat} {s : State} (hz : Keeps z0 s) : Keeps z0 (State.putKeys k key s) := by
  unfold State.putKeys
  simp (maxDischargeDepth := 60) only [hz, ↓Keeps.upd, le_refl, ↓State.drawKeys_keeps]

theorem State.renewShares_keeps {z0 : State} {k : Nat} {s : State} (hz : Keeps z0 s) : Keeps z0 (State.renewShares k s) := by
  unfold State.renewShares
  simp (maxDischargeDepth := 60) only [hz, ↓State.putKeys_keeps]

theorem State.drawLineMask_keeps {z0 : State} {s : State} (hz : Keeps z0 s) : Keeps z0 (State.drawLineMask s) := by
  unfold State.drawLineMask
  simp (maxDischargeDepth := 60) only [hz, ↓Keeps.upd, le_refl, ↓State.draw_keeps]

theorem State.keyCacheUse_keeps {z0 : State} {home side gen slot : Nat} {s0 : State} (hz : Keeps z0 s0)
    : Keeps z0 (State.keyCacheUse home side gen slot s0) := by
  unfold State.keyCacheUse
  simp (maxDischargeDepth := 60) only [hz, ↓Keeps.ite, ↓Keeps.upd, le_refl, ↓State.bump_keeps, ↓State.draw_keeps, ↓State.drawLineMask_keeps,
    ↓State.renewShares_keeps]

theorem State.encryptLine_keeps {z0 : State} {line : Nat} {s : State} (hz : Keeps z0 s) : Keeps z0 (State.encryptLine line s) := by
  unfold State.encryptLine
  try dsimp only
  (repeat' split) <;> simp (maxDischargeDepth := 60) only [hz, ↓State.keyCacheUse_keeps]

theorem State.writeBack_keeps {z0 : State} {line : Nat} {s : State} (hz : Keeps z0 s) : Keeps z0 (State.writeBack line s) := by
  unfold State.writeBack
  simp (maxDischargeDepth := 60) only [hz, ↓State.encryptLine_keeps, ↓State.enqueue_keeps]

theorem State.setFront_keeps {z0 : State} {line : Nat} {f : FrontLine} {s : State} (hz : Keeps z0 s) : Keeps z0 (State.setFront line f s) := by
  unfold State.setFront
  simp (maxDischargeDepth := 60) only [hz, ↓Keeps.upd, le_refl]

theorem State.evictLine_keeps {z0 : State} {line : Nat} {s : State} (hz : Keeps z0 s) : Keeps z0 (State.evictLine line s) := by
  unfold State.evictLine
  simp (maxDischargeDepth := 60) only [hz, ↓Keeps.ite, ↓Keeps.upd, le_refl, ↓State.bump_keeps, ↓State.setFront_keeps, ↓State.writeBack_keeps]

theorem State.allocLine_keeps {z0 : State} {line rrpv : Nat} {dirty_ : Bool} {s00 : State} (hz : Keeps z0 s00)
    : Keeps z0 (State.allocLine line rrpv dirty_ s00) := by
  unfold State.allocLine
  try dsimp only
  (repeat' split) <;> simp (maxDischargeDepth := 60) only [hz, ↓Keeps.upd, Keeps.refl, implies_true, le_refl, ↓State.evictLine_keeps,
    ↓State.forEach_keeps, ↓State.setFront_keeps, ↓State.when_keeps, ↓State.writeBack_keeps]

theorem State.cleanLine_keeps {z0 : State} {line : Nat} {s : State} (hz : Keeps z0 s) : Keeps z0 (State.cleanLine line s) := by
  unfold State.cleanLine
  simp (maxDischargeDepth := 60) only [hz, ↓Keeps.ite, ↓Keeps.upd, le_refl, ↓State.setFront_keeps]

theorem State.commitLine_keeps {z0 : State} {line : Nat} {m : LineMeta} {s : State} (hz : Keeps z0 s) : Keeps z0 (State.commitLine line m s) := by
  unfold State.commitLine
  simp (maxDischargeDepth := 60) only [hz, ↓State.mirrorLine_keeps, ↓State.notePeak_keeps, ↓State.pageWrite_keeps, ↓State.setMeta_keeps]

theorem State.noteFront_keeps {z0 : State} {line : Nat} {s : State} (hz : Keeps z0 s) : Keeps z0 (State.noteFront line s) := by
  unfold State.noteFront
  simp (maxDischargeDepth := 60) only [hz, ↓Keeps.ite, ↓State.setFront_keeps]

theorem State.poisonLine_keeps {z0 : State} {line psrc : Nat} {s : State} (hz : Keeps z0 s) : Keeps z0 (State.poisonLine line psrc s) := by
  unfold State.poisonLine
  simp (maxDischargeDepth := 60) only [hz, ↓Keeps.ite, ↓Keeps.upd, le_refl, ↓State.commitLine_keeps, ↓State.noteFront_keeps]

theorem State.sramError_keeps {z0 : State} {line : Nat} {s : State} (hz : Keeps z0 s) : Keeps z0 (State.sramError line s) := by
  unfold State.sramError
  simp (maxDischargeDepth := 60) only [hz, ↓Keeps.ite, ↓State.poisonLine_keeps, ↓State.raise_keeps, ↓State.raiseLimited_keeps, ↓State.setFront_keeps]

theorem State.tagFailed_keeps {z0 : State} {line : Nat} {s : State} (hz : Keeps z0 s) : Keeps z0 (State.tagFailed line s) := by
  unfold State.tagFailed
  simp (maxDischargeDepth := 60) only [hz, ↓State.bump_keeps, ↓State.poisonLine_keeps, ↓State.raise_keeps, ↓State.recordLine_keeps]

theorem State.mergeRefused_keeps {z0 : State} {src : Src} {line row status : Nat} {s : State} (hz : Keeps z0 s)
    : Keeps z0 (State.mergeRefused src line row status s) := by
  unfold State.mergeRefused
  split <;> simp (maxDischargeDepth := 60) only [hz, ↓Keeps.ite, ↓Keeps.upd, le_refl, ↓State.bump_keeps, ↓State.raise_keeps, ↓State.recordLine_keeps]

theorem State.charge_keeps {z0 : State} {account : Nat} {s : State} (hz : Keeps z0 s) : Keeps z0 (State.charge account s) := by
  unfold State.charge
  simp (maxDischargeDepth := 60) only [hz, ↓Keeps.upd, le_refl]

theorem State.noteOpWrite_keeps {z0 : State} {q seq n pend : Nat} {twin suspended : Bool} {s : State} (hz : Keeps z0 s)
    : Keeps z0 (State.noteOpWrite q seq n pend twin suspended s) := by
  unfold State.noteOpWrite
  simp (maxDischargeDepth := 60) only [hz, ↓Keeps.upd, le_refl]

theorem State.recordWrite_keeps {z0 : State} {w : WriteReq} {twin : Bool} {verify : Bool} {s : State} (hz : Keeps z0 s)
    : Keeps z0 (State.recordWrite w twin verify s) := by
  unfold State.recordWrite
  try dsimp only
  (repeat' split) <;> simp (maxDischargeDepth := 60) only [hz, ↓Keeps.upd, le_refl, ↓State.guestNote_keeps, ↓State.noteOpWrite_keeps]

theorem State.zeroIfDead_keeps {z0 : State} {line : Nat} {s : State} (hz : Keeps z0 s) : Keeps z0 (State.zeroIfDead line s) := by
  unfold State.zeroIfDead
  simp (maxDischargeDepth := 60) only [hz, ↓Keeps.ite, ↓State.zeroLine_keeps]

theorem State.noteAtomic_keeps {z0 : State} {key psn old status : Nat} {s : State} (hz : Keeps z0 s)
    : Keeps z0 (State.noteAtomic key psn old status s) := by
  unfold State.noteAtomic
  simp (maxDischargeDepth := 60) only [hz, ↓Keeps.upd, le_refl]

theorem State.resolveAtomic_keeps {z0 : State} {w : WriteReq} {s : State} (hz : Keeps z0 s) : Keeps z0 (State.resolveAtomic w s).2 := by
  unfold State.resolveAtomic
  split <;> simp (maxDischargeDepth := 60) only [hz, ↓State.noteAtomic_keeps]

theorem State.wakePipe_keeps {z0 : State} {home : Nat} {s : State} (hz : Keeps z0 s) : Keeps z0 (State.wakePipe home s) := by
  unfold State.wakePipe
  simp (maxDischargeDepth := 60) only [hz, ↓Keeps.upd, le_refl]

theorem State.storeWrite_keeps {z0 : State} {w : WriteReq} {s : State} (hz : Keeps z0 s) : Keeps z0 (State.storeWrite w s) := by
  unfold State.storeWrite
  simp (maxDischargeDepth := 60) only [hz, ↓Keeps.ite, ↓Keeps.upd, Keeps.refl, implies_true, le_refl, ↓State.allocLine_keeps, ↓State.bump_keeps,
    ↓State.charge_keeps, ↓State.commitLine_keeps, ↓State.enqueue_keeps, ↓State.extentLookup_keeps, ↓State.mergeRefused_keeps,
      ↓State.poisonLine_keeps, ↓State.recordWrite_keeps, ↓State.storeLine_keeps, ↓State.wakePipe_keeps, ↓State.wakeRank_keeps, ↓State.when_keeps,
      ↓State.zeroIfDead_keeps]

theorem State.trackEpoch_keeps {z0 : State} {w : WriteReq} {s : State} (hz : Keeps z0 s) : Keeps z0 (State.trackEpoch w s) := by
  unfold State.trackEpoch
  split <;> simp (maxDischargeDepth := 60) only [hz, ↓Keeps.ite, ↓State.setLink_keeps]

theorem State.acceptWrite_keeps {z0 : State} {w : WriteReq} {s : State} (hz : Keeps z0 s) : Keeps z0 (State.acceptWrite w s) := by
  unfold State.acceptWrite
  try dsimp only
  (repeat' split) <;> simp (maxDischargeDepth := 60) only [hz, Keeps.refl, implies_true, ↓State.resolveAtomic_keeps, ↓State.rotate_keeps,
    ↓State.sramError_keeps, ↓State.storeWrite_keeps, ↓State.trackEpoch_keeps, ↓State.when_keeps]

theorem State.hold_keeps {z0 : State} {r : Request} {s : State} (hz : Keeps z0 s) : Keeps z0 (State.hold r s) := by
  unfold State.hold
  simp (maxDischargeDepth := 60) only [hz, ↓Keeps.upd, le_refl]

theorem State.presentWrite_keeps {z0 : State} {w : WriteReq} {s : State} (hz : Keeps z0 s) : Keeps z0 (State.presentWrite w s) := by
  unfold State.presentWrite
  simp (maxDischargeDepth := 60) only [hz, ↓Keeps.ite, ↓State.acceptWrite_keeps, ↓State.hold_keeps, ↓State.traceEntry_keeps, ↓State.wakeSlice_keeps]

theorem State.grantRefused_keeps {z0 : State} {chk a : Nat} {src : Src} {s : State} (hz : Keeps z0 s)
    : Keeps z0 (State.grantRefused chk a src s) := by
  unfold State.grantRefused
  simp (maxDischargeDepth := 60) only [hz, ↓Keeps.ite, ↓State.grant_keeps]

theorem State.refuseCxlRead_keeps {z0 : State} {l n tag a chk : Nat} {s : State} (hz : Keeps z0 s)
    : Keeps z0 (State.refuseCxlRead l n tag a chk s) := by
  unfold State.refuseCxlRead
  simp (maxDischargeDepth := 60) only [hz, ↓State.bump_keeps, ↓State.emit_keeps, ↓State.grantRefused_keeps, ↓State.recordTo_keeps,
    ↓State.refuse_keeps]

theorem State.refuseCxlWrite_keeps {z0 : State} {l n tag a chk : Nat} {s : State} (hz : Keeps z0 s)
    : Keeps z0 (State.refuseCxlWrite l n tag a chk s) := by
  unfold State.refuseCxlWrite
  simp (maxDischargeDepth := 60) only [hz, ↓State.bump_keeps, ↓State.emit_keeps, ↓State.grantRefused_keeps, ↓State.refuse_keeps]

theorem State.copyGot_keeps {z0 : State} {q seq line status : Nat} {data : LineData} {s : State} (hz : Keeps z0 s)
    : Keeps z0 (State.copyGot q seq line status data s) := by
  unfold State.copyGot
  simp (maxDischargeDepth := 60) only [hz, ↓Keeps.upd, le_refl]

theorem State.answerRead_keeps {z0 : State} {r : ReadRec} {status : Nat} {data : LineData} {s : State} (hz : Keeps z0 s)
    : Keeps z0 (State.answerRead r status data s) := by
  unfold State.answerRead
  split <;> simp (maxDischargeDepth := 60) only [hz, ↓Keeps.ite, ↓Keeps.upd, Keeps.refl, implies_true, le_refl, ↓State.bump_keeps,
    ↓State.copyGot_keeps, ↓State.emit_keeps, ↓State.kerupSend_keeps, ↓State.when_keeps]

theorem State.missFill_keeps {z0 : State} {line : Nat} {s : State} (hz : Keeps z0 s) : Keeps z0 (State.missFill line s) := by
  unfold State.missFill
  simp (maxDischargeDepth := 60) only [hz, ↓Keeps.ite, Keeps.refl, implies_true, ↓State.enqueue_keeps, ↓State.forEach_keeps,
    ↓State.requestFill_keeps, ↓State.setExtent_keeps, ↓State.wakeRank_keeps]

theorem State.takeRead_keeps {z0 : State} {q : ReadReq} {s : State} (hz : Keeps z0 s) : Keeps z0 (State.takeRead q s) := by
  unfold State.takeRead
  simp (maxDischargeDepth := 60) only [hz, ↓Keeps.ite, ↓Keeps.upd, Keeps.refl, implies_true, le_refl, ↓State.allocLine_keeps,
    ↓State.answerRead_keeps, ↓State.bump_keeps, ↓State.extentLookup_keeps, ↓State.missFill_keeps, ↓State.rotate_keeps, ↓State.sramError_keeps,
      ↓State.traceEnd_keeps, ↓State.traceEntry_keeps, ↓State.wakePipe_keeps, ↓State.when_keeps]

theorem State.presentRead_keeps {z0 : State} {q : ReadReq} {s : State} (hz : Keeps z0 s) : Keeps z0 (State.presentRead q s) := by
  unfold State.presentRead
  simp (maxDischargeDepth := 60) only [hz, ↓Keeps.ite, ↓State.hold_keeps, ↓State.takeRead_keeps, ↓State.traceEntry_keeps, ↓State.wakeSlice_keeps]

theorem State.specRead_keeps {z0 : State} {port line : Nat} {s : State} (hz : Keeps z0 s) : Keeps z0 (State.specRead port line s) := by
  unfold State.specRead
  simp (maxDischargeDepth := 60) only [hz, ↓Keeps.ite, ↓Keeps.upd, le_refl, ↓State.extentLookup_keeps, ↓State.grant_keeps, ↓State.missFill_keeps,
    ↓State.wakePipe_keeps]

theorem State.presentHeld_keeps {z0 : State} {r : Request} {s : State} (hz : Keeps z0 s) : Keeps z0 (State.presentHeld r s) := by
  unfold State.presentHeld
  try dsimp only
  (repeat' split) <;> simp (maxDischargeDepth := 60) only [hz, ↓Keeps.upd, le_refl, ↓State.acceptWrite_keeps, ↓State.copyGot_keeps,
    ↓State.kerupSend_keeps, ↓State.refuse_keeps, ↓State.refuseCxlRead_keeps, ↓State.refuseCxlWrite_keeps, ↓State.takeRead_keeps]

theorem State.drainIngress_keeps {z0 : State} {n : Nat} {s : State} (hz : Keeps z0 s) : Keeps z0 (State.drainIngress n s) := by
  induction n generalizing s with
  | zero => exact hz
  | succ n ih =>
    unfold State.drainIngress
    split
    · exact hz
    · dsimp only
      have k1 : ∀ c,
      Keeps z0 (s.when c (State.bump F.FP_ARB_COLLISIONS_COUNT 1)) := fun c => State.when_keeps hz fun t => State.bump_keeps (Keeps.refl t)
      split
      · exact ih (State.presentHeld_keeps (Keeps.upd (k1 _)))
      · exact k1 _

theorem State.syncWindow_keeps {z0 : State} {s : State} (hz : Keeps z0 s) : Keeps z0 (State.syncWindow s) := by
  unfold State.syncWindow
  simp (maxDischargeDepth := 60) only [hz, Keeps.refl, implies_true, ↓State.put_keeps, ↓State.raiseLimited_keeps, ↓State.when_keeps]

theorem State.drainHeld_keeps {z0 : State} {s : State} (hz : Keeps z0 s) : Keeps z0 (State.drainHeld s) := by
  unfold State.drainHeld
  simp (maxDischargeDepth := 60) only [hz, ↓Keeps.ite, ↓State.drainIngress_keeps, ↓State.mirrorHeld_keeps]

theorem State.endReads_keeps {z0 : State} {line status memory crypto : Nat} {s : State} (hz : Keeps z0 s)
    : Keeps z0 (State.endReads line status memory crypto s) := by
  unfold State.endReads
  simp (maxDischargeDepth := 60) only [hz, ↓Keeps.ite, ↓Keeps.upd, Keeps.refl, implies_true, le_refl, ↓State.answerRead_keeps,
    ↓State.forEach_keeps, ↓State.traceEnd_keeps]

theorem State.answerReads_keeps {z0 : State} {line : Nat} {poison : Bool} {memory crypto : Nat} {s : State} (hz : Keeps z0 s)
    : Keeps z0 (State.answerReads line poison memory crypto s) := by
  unfold State.answerReads
  simp (maxDischargeDepth := 60) only [hz, ↓State.endReads_keeps]

theorem State.verifyWrites_keeps {z0 : State} {line : Nat} {s : State} (hz : Keeps z0 s) : Keeps z0 (State.verifyWrites line s) := by
  unfold State.verifyWrites
  simp (maxDischargeDepth := 60) only [hz, ↓Keeps.upd, le_refl]

theorem State.refuseMerges_keeps {z0 : State} {line row status : Nat} {s : State} (hz : Keeps z0 s)
    : Keeps z0 (State.refuseMerges line row status s) := by
  unfold State.refuseMerges
  simp (maxDischargeDepth := 60) only [hz, ↓Keeps.upd, Keeps.refl, implies_true, le_refl, ↓State.forEach_keeps, ↓State.mergeRefused_keeps,
    ↓State.verifyWrites_keeps]

theorem State.applyMerges_keeps {z0 : State} {line : Nat} {s : State} (hz : Keeps z0 s) : Keeps z0 (State.applyMerges line s) := by
  unfold State.applyMerges
  simp (maxDischargeDepth := 60) only [hz, ↓Keeps.ite, ↓Keeps.upd, le_refl, ↓State.allocLine_keeps, ↓State.verifyWrites_keeps]

theorem State.uncorrectable_keeps {z0 : State} {line memory crypto : Nat} {s : State} (hz : Keeps z0 s)
    : Keeps z0 (State.uncorrectable line memory crypto s) := by
  unfold State.uncorrectable
  simp (maxDischargeDepth := 60) only [hz, ↓Keeps.ite, ↓Keeps.upd, le_refl, ↓State.answerReads_keeps, ↓State.poisonLine_keeps, ↓State.raise_keeps,
    ↓State.recordLine_keeps, ↓State.refuseMerges_keeps, ↓State.setPage_keeps]

theorem State.arriveLine_keeps {z0 : State} {line : Nat} {v : LineVerdict} {memory crypto : Nat} {s : State} (hz : Keeps z0 s)
    : Keeps z0 (State.arriveLine line v memory crypto s) := by
  unfold State.arriveLine
  try dsimp only
  (repeat' split) <;> simp (maxDischargeDepth := 60) only [hz, ↓State.allocLine_keeps, ↓State.answerReads_keeps, ↓State.applyMerges_keeps,
    ↓State.bump_keeps, ↓State.endReads_keeps, ↓State.keyCacheUse_keeps, ↓State.raise_keeps, ↓State.recordLine_keeps, ↓State.refuseMerges_keeps,
      ↓State.tagFailed_keeps, ↓State.uncorrectable_keeps, ↓State.zeroLine_keeps]

theorem State.setQueue_keeps {z0 : State} {q : Nat} {k : Queue} {s : State} (hz : Keeps z0 s) : Keeps z0 (State.setQueue q k s) := by
  unfold State.setQueue
  simp (maxDischargeDepth := 60) only [hz, ↓Keeps.upd, le_refl]

theorem State.signal_keeps {z0 : State} {q : Nat} {notice : Bool} {s : State} (hz : Keeps z0 s) : Keeps z0 (State.signal q notice s) := by
  unfold State.signal
  simp (maxDischargeDepth := 60) only [hz, ↓Keeps.ite, ↓State.msix_keeps, ↓State.setQueue_keeps]

theorem State.writeRecord_keeps {z0 : State} {q : Nat} {r : CompRec} {s : State} (hz : Keeps z0 s) : Keeps z0 (State.writeRecord q r s) := by
  unfold State.writeRecord
  simp (maxDischargeDepth := 60) only [hz, ↓Keeps.ite, ↓State.emit_keeps, ↓State.setQueue_keeps, ↓State.signal_keeps]

theorem State.payTakeover_keeps {z0 : State} {q : Nat} {s : State} (hz : Keeps z0 s) : Keeps z0 (State.payTakeover q s) := by
  unfold State.payTakeover
  try dsimp only
  (repeat' split) <;> simp (maxDischargeDepth := 60) only [hz, ↓State.setQueue_keeps, ↓State.writeRecord_keeps]

theorem State.offerTakeover_keeps {z0 : State} {q : Nat} {s : State} (hz : Keeps z0 s) : Keeps z0 (State.offerTakeover q s) := by
  unfold State.offerTakeover
  simp (maxDischargeDepth := 60) only [hz, Keeps.refl, implies_true, ↓State.payTakeover_keeps, ↓State.when_keeps]

theorem State.noticeTo_keeps {z0 : State} {q typ status ra rb : Nat} {s0 : State} (hz : Keeps z0 s0)
    : Keeps z0 (State.noticeTo q typ status ra rb s0) := by
  unfold State.noticeTo
  simp (maxDischargeDepth := 60) only [hz, ↓Keeps.ite, ↓State.offerTakeover_keeps, ↓State.raiseLimited_keeps, ↓State.setQueue_keeps,
    ↓State.writeRecord_keeps]

theorem State.notice_keeps {z0 : State} {tenant : Option Nat} {typ ra rb : Nat} {s : State} (hz : Keeps z0 s)
    : Keeps z0 (State.notice tenant typ ra rb s) := by
  unfold State.notice
  simp (maxDischargeDepth := 60) only [hz, ↓Keeps.ite, Keeps.refl, implies_true, ↓State.forEach_keeps, ↓State.noticeTo_keeps]

theorem State.advanceHorizon_keeps {z0 : State} {q : Nat} {s : State} (hz : Keeps z0 s) : Keeps z0 (State.advanceHorizon q s) := by
  unfold State.advanceHorizon
  simp (maxDischargeDepth := 60) only [hz, ↓Keeps.ite, ↓State.sendFrame_keeps, ↓State.setQueue_keeps]

theorem State.flushOrdered_keeps {z0 : State} {fuel q : Nat} {s : State} (hz : Keeps z0 s) : Keeps z0 (State.flushOrdered fuel q s) := by
  induction fuel generalizing s with
  | zero => exact hz
  | succ f ih =>
    unfold State.flushOrdered
    dsimp only
    split
    · exact ih (State.writeRecord_keeps (State.setQueue_keeps hz))
    · exact hz

theorem State.completeOp_keeps {z0 : State} {q : Nat} {o : OpRec} {status detail ra rb : Nat} {ext : List Nat} {s : State} (hz : Keeps z0 s)
    : Keeps z0 (State.completeOp q o status detail ra rb ext s) := by
  unfold State.completeOp
  simp (maxDischargeDepth := 60) only [hz, ↓Keeps.ite, ↓State.flushOrdered_keeps, ↓State.payTakeover_keeps, ↓State.setQueue_keeps,
    ↓State.writeRecord_keeps]

theorem State.setOp_keeps {z0 : State} {q : Nat} {o : OpRec} {s : State} (hz : Keeps z0 s) : Keeps z0 (State.setOp q o s) := by
  unfold State.setOp
  simp (maxDischargeDepth := 60) only [hz, ↓State.setQueue_keeps]

theorem State.finishOp_keeps {z0 : State} {q : Nat} {o : OpRec} {status detail ra rb : Nat} {s : State} (hz : Keeps z0 s)
    : Keeps z0 (State.finishOp q o status detail ra rb s) := by
  unfold State.finishOp
  simp (maxDischargeDepth := 60) only [hz, ↓Keeps.ite, ↓State.completeOp_keeps, ↓State.setOp_keeps]

theorem State.destroyQueue_keeps {z0 : State} {q : Nat} {s : State} (hz : Keeps z0 s) : Keeps z0 (State.destroyQueue q s) := by
  unfold State.destroyQueue
  simp (maxDischargeDepth := 60) only [hz, ↓Keeps.ite, ↓State.put_keeps, ↓State.setQueue_keeps]

theorem State.startOp_keeps {z0 : State} {q seq opcode : Nat} {f : OpRec → State → State} {s : State} (hz : Keeps z0 s)
    (hf : ∀ o t, Keeps t (f o t)) : Keeps z0 (s.startOp q seq opcode f) := by
  unfold State.startOp
  split
  · exact hz
  · split_ifs
    · exact hz
    · exact hz
    · exact State.completeOp_keeps hz
    · exact State.completeOp_keeps hz
    · exact State.completeOp_keeps hz
    · exact hz
    · exact hz.trans (hf _ _)

theorem State.stopQueue_keeps {z0 : State} {q cause : Nat} {s : State} (hz : Keeps z0 s) : Keeps z0 (State.stopQueue q cause s) := by
  unfold State.stopQueue
  simp (maxDischargeDepth := 60) only [hz, ↓Keeps.ite, ↓State.msix_keeps, ↓State.raise_keeps, ↓State.setQueue_keeps]

theorem State.looseRecord_keeps {z0 : State} {q : Nat} {d : BitVec 512} {status : Nat} {dup : Bool} {s : State} (hz : Keeps z0 s)
    : Keeps z0 (State.looseRecord q d status dup s) := by
  unfold State.looseRecord
  simp (maxDischargeDepth := 60) only [hz, ↓State.payTakeover_keeps, ↓State.setQueue_keeps, ↓State.writeRecord_keeps]

theorem State.fetchOne_keeps {z0 : State} {q : Nat} {d : BitVec 512} {s : State} (hz : Keeps z0 s) : Keeps z0 (State.fetchOne q d s) := by
  unfold State.fetchOne
  try dsimp only
  (repeat' split) <;> simp (maxDischargeDepth := 60) only [hz, ↓State.completeOp_keeps, ↓State.looseRecord_keeps, ↓State.refuse_keeps,
    ↓State.setOp_keeps, ↓State.setQueue_keeps, ↓State.stopQueue_keeps]

theorem State.fetchAll_keeps {z0 : State} {q : Nat} {l : List (BitVec 512)} {s : State} (hz : Keeps z0 s) : Keeps z0 (State.fetchAll q l s).1 := by
  induction l generalizing s with
  | nil => exact hz
  | cons d t ih =>
    unfold State.fetchAll
    dsimp only
    split
    · exact hz
    · exact Keeps.ite_fst (State.fetchOne_keeps hz) (ih (State.fetchOne_keeps hz))

theorem State.pollFetch_keeps {z0 : State} {q : Nat} {s : State} (hz : Keeps z0 s) : Keeps z0 (State.pollFetch q s) := by
  unfold State.pollFetch
  simp (maxDischargeDepth := 60) only [hz, ↓Keeps.ite, ↓State.emit_keeps, ↓State.setQueue_keeps]

theorem State.resumeFetch_keeps {z0 : State} {q : Nat} {s : State} (hz : Keeps z0 s) : Keeps z0 (State.resumeFetch q s) := by
  unfold State.resumeFetch
  dsimp only
  split
  · split
    · exact State.emit_keeps (State.emit_keeps (State.setQueue_keeps hz))
    · split
      · exact State.pollFetch_keeps (State.emit_keeps hz)
      · exact hz
  · exact State.setQueue_keeps (State.fetchAll_keeps (State.setQueue_keeps hz))

theorem State.loadLink_keeps {z0 : State} {l : Nat} {s : State} (hz : Keeps z0 s) : Keeps z0 (State.loadLink l s) := by
  unfold State.loadLink
  simp (maxDischargeDepth := 60) only [hz, ↓Keeps.ite, ↓State.raise_keeps, ↓State.setLink_keeps]

theorem State.loadLinks_keeps {z0 : State} {ls : List Nat} {s : State} (hz : Keeps z0 s) : Keeps z0 (State.loadLinks ls s) := by
  unfold State.loadLinks
  simp (maxDischargeDepth := 60) only [hz, Keeps.refl, implies_true, ↓State.forEach_keeps, ↓State.loadLink_keeps, ↓State.setLink_keeps]

theorem State.setPort_keeps {z0 : State} {p : Nat} {k : CxlPort} {s : State} (hz : Keeps z0 s) : Keeps z0 (State.setPort p k s) := by
  unfold State.setPort
  simp (maxDischargeDepth := 60) only [hz, ↓Keeps.upd, le_refl]

theorem State.resetFunction_keeps {z0 : State} {n : Nat} {s : State} (hz : Keeps z0 s) : Keeps z0 (State.resetFunction n s) := by
  unfold State.resetFunction
  simp (maxDischargeDepth := 60) only [hz, Keeps.refl, implies_true, ↓State.destroyQueue_keeps, ↓State.forEach_keeps, ↓State.setLd_keeps]

theorem State.resetLink_keeps {z0 : State} {l : Nat} {linkOnly : Bool} {s : State} (hz : Keeps z0 s) : Keeps z0 (State.resetLink l linkOnly s) := by
  unfold State.resetLink
  simp (maxDischargeDepth := 60) only [hz, ↓Keeps.ite, ↓Keeps.upd, Keeps.refl, implies_true, le_refl, ↓State.forEach_keeps, ↓State.put_keeps,
    ↓State.raise_keeps, ↓State.resetFunction_keeps, ↓State.setLd_keeps, ↓State.setLink_keeps, ↓State.when_keeps]

theorem State.resetPort_keeps {z0 : State} {p : Nat} {linkOnly : Bool} {s : State} (hz : Keeps z0 s) : Keeps z0 (State.resetPort p linkOnly s) := by
  unfold State.resetPort
  simp (maxDischargeDepth := 60) only [hz, ↓Keeps.ite, Keeps.refl, implies_true, ↓State.forEach_keeps, ↓State.resetLink_keeps, ↓State.setPort_keeps]

theorem State.portLeaves_keeps {z0 : State} {p cause : Nat} {s : State} (hz : Keeps z0 s) : Keeps z0 (State.portLeaves p cause s) := by
  unfold State.portLeaves
  simp (maxDischargeDepth := 60) only [hz, ↓Keeps.ite, ↓State.put_keeps, ↓State.raise_keeps, ↓State.resetPort_keeps]

theorem State.portReturns_keeps {z0 : State} {p : Nat} {s : State} (hz : Keeps z0 s) : Keeps z0 (State.portReturns p s) := by
  unfold State.portReturns
  simp (maxDischargeDepth := 60) only [hz, Keeps.refl, implies_true, ↓State.endCond_keeps, ↓State.forEach_keeps, ↓State.loadLinks_keeps,
    ↓State.put_keeps, ↓State.setPort_keeps]

theorem State.setAllActive_keeps {z0 : State} {s : State} (hz : Keeps z0 s) : Keeps z0 (State.setAllActive s) := by
  unfold State.setAllActive
  simp (maxDischargeDepth := 60) only [hz, Keeps.refl, implies_true, ↓State.forEach_keeps, ↓State.setActive_keeps]

theorem State.dropUnbound_keeps {z0 : State} {s : State} (hz : Keeps z0 s) : Keeps z0 (State.dropUnbound s) := by
  unfold State.dropUnbound
  simp (maxDischargeDepth := 60) only [hz, ↓Keeps.ite, Keeps.refl, implies_true, ↓State.forEach_keeps, ↓State.put_keeps]

theorem State.guestTimeout_keeps {z0 : State} {s : State} (hz : Keeps z0 s) : Keeps z0 (State.guestTimeout s) := by
  unfold State.guestTimeout
  simp (maxDischargeDepth := 60) only [hz, ↓State.put_keeps]

theorem State.recomputeTimeouts_keeps {z0 : State} {s : State} (hz : Keeps z0 s) : Keeps z0 (State.recomputeTimeouts s) := by
  unfold State.recomputeTimeouts
  simp (maxDischargeDepth := 60) only [hz, Keeps.refl, implies_true, ↓State.forEach_keeps, ↓State.guestTimeout_keeps, ↓State.put_keeps]

theorem State.bindSlot_keeps {z0 : State} {k side gen tenant : Nat} {s : State} (hz : Keeps z0 s)
    : Keeps z0 (State.bindSlot k side gen tenant s) := by
  unfold State.bindSlot
  simp (maxDischargeDepth := 60) only [hz, ↓State.put_keeps]

theorem State.clearSlot_keeps {z0 : State} {k : Nat} {s0 : State} (hz : Keeps z0 s0) : Keeps z0 (State.clearSlot k s0) := by
  unfold State.clearSlot
  simp (maxDischargeDepth := 60) only [hz, ↓Keeps.upd, le_refl, ↓State.drawShares_keeps, ↓State.put_keeps]

theorem State.destroyGen_keeps {z0 : State} {side gen : Nat} {s : State} (hz : Keeps z0 s) : Keeps z0 (State.destroyGen side gen s) := by
  unfold State.destroyGen
  split <;> simp (maxDischargeDepth := 60) only [hz, ↓State.clearSlot_keeps]

theorem State.loadSlot_keeps {z0 : State} {side gen tenant : Nat} {s : State} (hz : Keeps z0 s) : Keeps z0 (State.loadSlot side gen tenant s) := by
  unfold State.loadSlot
  try dsimp only
  (repeat' split) <;> simp (maxDischargeDepth := 60) only [hz, ↓State.bindSlot_keeps, ↓State.putKeys_keeps]

theorem State.sendFrames_keeps {z0 : State} {l : List CwBody} {s : State} (hz : Keeps z0 s) : Keeps z0 (State.sendFrames l s).2 := by
  induction l generalizing s with
  | nil => exact hz
  | cons b t ih => exact ih (State.sendFrame_keeps hz)

theorem State.postKey_keeps {z0 : State} {cs : List KeyChange} {ws : List KeyWait} {s : State} (hz : Keeps z0 s)
    : Keeps z0 (State.postKey cs ws s) := by
  unfold State.postKey
  exact (Keeps.ite_snd (State.sendFrames_keeps hz) hz).upd

theorem State.stageKey_keeps {z0 : State} {seq : Nat} {c : KeyChange} {s : State} (hz : Keeps z0 s) : Keeps z0 (State.stageKey seq c s) := by
  unfold State.stageKey
  simp (maxDischargeDepth := 60) only [hz, ↓Keeps.upd, le_refl]

theorem State.dropStaleMasters_keeps {z0 : State} {s : State} (hz : Keeps z0 s) : Keeps z0 (State.dropStaleMasters s) := by
  unfold State.dropStaleMasters
  simp (maxDischargeDepth := 60) only [hz, ↓Keeps.ite, ↓State.postKey_keeps]

theorem State.syncKeysValid_keeps {z0 : State} {s : State} (hz : Keeps z0 s) : Keeps z0 (State.syncKeysValid s) := by
  unfold State.syncKeysValid
  simp (maxDischargeDepth := 60) only [hz, Keeps.refl, implies_true, ↓State.forEach_keeps, ↓State.put_keeps]

theorem State.drawGen_keeps {z0 : State} {s : State} (hz : Keeps z0 s) : Keeps z0 (State.drawGen s).2 := by
  unfold State.drawGen
  simp (maxDischargeDepth := 60) only [hz, Keeps.refl, implies_true, ↓State.put_keeps, ↓State.raise_keeps, ↓State.when_keeps]

theorem State.drawSalt_keeps {z0 : State} {s : State} (hz : Keeps z0 s) : Keeps z0 (State.drawSalt s).2 := by
  unfold State.drawSalt
  simp (maxDischargeDepth := 60) only [hz, ↓State.drawWords_keeps]

theorem State.setTrans_keeps {z0 : State} {p kind deep : Nat} {s : State} (hz : Keeps z0 s) : Keeps z0 (State.setTrans p kind deep s) := by
  unfold State.setTrans
  simp (maxDischargeDepth := 60) only [hz, ↓Keeps.upd, le_refl]

theorem State.takeTableSlots_keeps {z0 : State} {idx : Nat} {r : Region} {s : State} (hz : Keeps z0 s) : Keeps z0 (State.takeTableSlots idx r s) := by
  unfold State.takeTableSlots
  refine State.forEach_keeps hz fun i t => ?_
  dsimp only
  split
  · exact (Keeps.refl t).upd
  · exact Keeps.refl t

theorem State.dropExtent_keeps {z0 : State} {x : Nat} {s : State} (hz : Keeps z0 s) : Keeps z0 (State.dropExtent x s) := by
  unfold State.dropExtent
  simp (maxDischargeDepth := 60) only [hz, ↓Keeps.upd, le_refl, ↓State.setExtent_keeps, ↓State.syncFree_keeps]

theorem State.pinRegion_keeps {z0 : State} {idx : Nat} {r : Region} {s : State} (hz : Keeps z0 s) : Keeps z0 (State.pinRegion idx r s) := by
  unfold State.pinRegion
  simp (maxDischargeDepth := 60) only [hz, ↓Keeps.ite, ↓Keeps.upd, Keeps.refl, implies_true, le_refl, ↓State.assignFrame_keeps,
    ↓State.forEach_keeps, ↓State.setExtent_keeps]

theorem State.startPinFill_keeps {z0 : State} {idx : Nat} {s : State} (hz : Keeps z0 s) : Keeps z0 (State.startPinFill idx s) := by
  unfold State.startPinFill
  simp (maxDischargeDepth := 60) only [hz, ↓Keeps.ite, ↓Keeps.upd, Keeps.refl, implies_true, le_refl, ↓State.forEach_keeps, ↓State.put_keeps,
    ↓State.requestFill_keeps]

theorem State.checkPinFills_keeps {z0 : State} {s : State} (hz : Keeps z0 s) : Keeps z0 (State.checkPinFills s) := by
  unfold State.checkPinFills
  simp (maxDischargeDepth := 60) only [hz, ↓Keeps.upd, Keeps.refl, implies_true, le_refl, ↓State.forEach_keeps, ↓State.put_keeps, ↓State.raise_keeps]

theorem State.hubWrite_keeps {z0 : State} {src : Src} {tenant a n v : Nat} {s : State} (hz : Keeps z0 s)
    : Keeps z0 (State.hubWrite src tenant a n v s) := by
  unfold State.hubWrite
  simp (maxDischargeDepth := 60) only [hz, ↓State.presentWrite_keeps]

theorem State.serviceWrite_keeps {z0 : State} {sd off n v : Nat} {s : State} (hz : Keeps z0 s) : Keeps z0 (State.serviceWrite sd off n v s) := by
  unfold State.serviceWrite
  simp (maxDischargeDepth := 60) only [hz, ↓State.hubWrite_keeps]

theorem State.setStream_keeps {z0 : State} {j : Nat} {k : Stream} {s : State} (hz : Keeps z0 s) : Keeps z0 (State.setStream j k s) := by
  unfold State.setStream
  simp (maxDischargeDepth := 60) only [hz, ↓Keeps.upd, le_refl, ↓State.put_keeps]

theorem State.moveWindow_keeps {z0 : State} {old new : List Nat} {s : State} (hz : Keeps z0 s) : Keeps z0 (State.moveWindow old new s) := by
  unfold State.moveWindow
  simp (maxDischargeDepth := 60) only [hz, ↓Keeps.ite, ↓Keeps.upd, Keeps.refl, implies_true, le_refl, ↓State.forEach_keeps, ↓State.setExtent_keeps]

theorem State.streamFills_keeps {z0 : State} {j : Nat} {xs : List Nat} {s : State} (hz : Keeps z0 s) : Keeps z0 (State.streamFills j xs s) := by
  unfold State.streamFills
  simp (maxDischargeDepth := 60) only [hz, ↓Keeps.ite, Keeps.refl, implies_true, ↓State.forEach_keeps, ↓State.requestFillOf_keeps]

theorem State.changeStream_keeps {z0 : State} {j : Nat} {k : Stream} {s : State} (hz : Keeps z0 s) : Keeps z0 (State.changeStream j k s) := by
  unfold State.changeStream
  simp (maxDischargeDepth := 60) only [hz, ↓State.moveWindow_keeps, ↓State.setStream_keeps, ↓State.streamFills_keeps]

theorem State.checkWindow_keeps {z0 : State} {j : Nat} {s : State} (hz : Keeps z0 s) : Keeps z0 (State.checkWindow j s) := by
  unfold State.checkWindow
  simp (maxDischargeDepth := 60) only [hz, ↓Keeps.ite, ↓State.setStream_keeps]

theorem State.writeStreamStatus_keeps {z0 : State} {j st cause : Nat} {s : State} (hz : Keeps z0 s)
    : Keeps z0 (State.writeStreamStatus j st cause s) := by
  unfold State.writeStreamStatus
  simp (maxDischargeDepth := 60) only [hz, ↓Keeps.ite, ↓State.hubWrite_keeps, ↓State.put_keeps, ↓State.raise_keeps, ↓State.setStream_keeps]

theorem State.writeList_keeps {z0 : State} {j : Nat} {clear : Bool} {s : State} (hz : Keeps z0 s) : Keeps z0 (State.writeList j clear s) := by
  unfold State.writeList
  simp (maxDischargeDepth := 60) only [hz, Keeps.refl, implies_true, ↓State.forEach_keeps, ↓State.serviceWrite_keeps]

theorem State.freeStream_keeps {z0 : State} {j cause : Nat} {s : State} (hz : Keeps z0 s) : Keeps z0 (State.freeStream j cause s) := by
  unfold State.freeStream
  simp (maxDischargeDepth := 60) only [hz, ↓Keeps.ite, ↓State.changeStream_keeps, ↓State.setStream_keeps, ↓State.writeList_keeps,
    ↓State.writeStreamStatus_keeps]

theorem State.freeStreams_keeps {z0 : State} {idx cause : Nat} {s : State} (hz : Keeps z0 s) : Keeps z0 (State.freeStreams idx cause s) := by
  unfold State.freeStreams
  simp (maxDischargeDepth := 60) only [hz, Keeps.refl, implies_true, ↓State.forEach_keeps, ↓State.freeStream_keeps]

theorem State.updateGranted_keeps {z0 : State} {s : State} (hz : Keeps z0 s) : Keeps z0 (State.updateGranted s) := by
  unfold State.updateGranted
  simp (maxDischargeDepth := 60) only [hz, ↓Keeps.ite, Keeps.refl, implies_true, ↓State.forEach_keeps, ↓State.setRegion_keeps]

theorem State.revokeGrant_keeps {z0 : State} {g : Nat} {s : State} (hz : Keeps z0 s) : Keeps z0 (State.revokeGrant g s) := by
  unfold State.revokeGrant
  simp (maxDischargeDepth := 60) only [hz, ↓Keeps.ite, ↓State.put_keeps, ↓State.raise_keeps]

theorem State.flushRegion_keeps {z0 : State} {idx : Nat} {r : Region} {s : State} (hz : Keeps z0 s) : Keeps z0 (State.flushRegion idx r s) := by
  unfold State.flushRegion
  simp (maxDischargeDepth := 60) only [hz, ↓Keeps.upd, Keeps.refl, implies_true, le_refl, ↓State.forEach_keeps, ↓State.grant_keeps]

theorem State.detachRegion_keeps {z0 : State} {idx : Nat} {r : Region} {s : State} (hz : Keeps z0 s) : Keeps z0 (State.detachRegion idx r s) := by
  unfold State.detachRegion
  simp (maxDischargeDepth := 60) only [hz, Keeps.refl, implies_true, ↓State.destroyGen_keeps, ↓State.flushRegion_keeps, ↓State.forEach_keeps,
    ↓State.freeStreams_keeps, ↓State.put_keeps, ↓State.revokeGrant_keeps]

theorem State.releasePages_keeps {z0 : State} {idx : Nat} {r : Region} {s : State} (hz : Keeps z0 s) : Keeps z0 (State.releasePages idx r s) := by
  unfold State.releasePages
  refine Keeps.tables (State.forEach_keeps (State.forEach_keeps hz fun p t => State.setTrans_keeps (Keeps.refl t)) fun x t =>
    State.setExtent_keeps (State.dropExtent_keeps (Keeps.refl t))) id ?_ id ?_ id <;> exact Sparse.wf_clear

theorem State.checkTenantGone_keeps {z0 : State} {t : Nat} {s : State} (hz : Keeps z0 s) : Keeps z0 (State.checkTenantGone t s) := by
  unfold State.checkTenantGone
  simp (maxDischargeDepth := 60) only [hz, ↓Keeps.ite, ↓State.put_keeps, ↓State.raise_keeps]

theorem State.policyChange_keeps {z0 : State} {idx : Nat} {old new : Region} {s : State} (hz : Keeps z0 s)
    : Keeps z0 (State.policyChange idx old new s) := by
  unfold State.policyChange
  simp (maxDischargeDepth := 60) only [hz, ↓Keeps.ite, Keeps.refl, implies_true, ↓State.forEach_keeps, ↓State.freeStreams_keeps,
    ↓State.pinRegion_keeps, ↓State.setExtent_keeps, ↓State.startPinFill_keeps]

theorem State.applyRegion_keeps {z0 : State} {idx : Nat} {new0 : Region} {s : State} (hz : Keeps z0 s) : Keeps z0 (State.applyRegion idx new0 s) := by
  unfold State.applyRegion
  simp (maxDischargeDepth := 60) only [hz, ↓Keeps.ite, Keeps.refl, implies_true, ↓State.checkTenantGone_keeps, ↓State.destroyGen_keeps,
    ↓State.detachRegion_keeps, ↓State.loadSlot_keeps, ↓State.pinRegion_keeps, ↓State.policyChange_keeps, ↓State.put_keeps, ↓State.raise_keeps,
      ↓State.recomputeTimeouts_keeps, ↓State.releasePages_keeps, ↓State.setRegion_keeps, ↓State.takeTableSlots_keeps, ↓State.updateGranted_keeps,
      ↓State.when_keeps]

theorem State.applyPkey_keeps {z0 : State} {i v : Nat} {s : State} (hz : Keeps z0 s) : Keeps z0 (State.applyPkey i v s) := by
  unfold State.applyPkey
  simp (maxDischargeDepth := 60) only [hz, ↓Keeps.ite, ↓State.put_keeps, ↓State.raise_keeps]

theorem State.removeTenant_keeps {z0 : State} {t : Nat} {own : Bool} {s : State} (hz : Keeps z0 s) : Keeps z0 (State.removeTenant t own s) := by
  unfold State.removeTenant
  simp (maxDischargeDepth := 60) only [hz, ↓Keeps.ite, Keeps.refl, implies_true, ↓State.applyRegion_keeps, ↓State.checkTenantGone_keeps,
    ↓State.dropUnbound_keeps, ↓State.forEach_keeps, ↓State.postKey_keeps, ↓State.put_keeps, ↓State.raise_keeps, ↓State.revokeGrant_keeps,
      ↓State.updateGranted_keeps]

theorem State.applyTenant_keeps {z0 : State} {t : Nat} {ws : List Nat} {own : Bool} {s : State} (hz : Keeps z0 s)
    : Keeps z0 (State.applyTenant t ws own s) := by
  unfold State.applyTenant
  try dsimp only
  (repeat' split) <;> simp (maxDischargeDepth := 60) only [hz, ↓State.put_keeps, ↓State.raise_keeps, ↓State.removeTenant_keeps]

theorem State.copiedTenant_keeps {z0 : State} {t : Nat} {ws : List Nat} {s : State} (hz : Keeps z0 s) : Keeps z0 (State.copiedTenant t ws s) := by
  unfold State.copiedTenant
  simp (maxDischargeDepth := 60) only [hz, ↓Keeps.ite, Keeps.refl, implies_true, ↓State.applyTenant_keeps, ↓State.put_keeps, ↓State.raise_keeps,
    ↓State.when_keeps]

theorem State.applyRecord_keeps {z0 : State} {kind idx : Nat} {ws : List Nat} {own : Bool} {s : State} (hz : Keeps z0 s)
    : Keeps z0 (State.applyRecord kind idx ws own s) := by
  unfold State.applyRecord
  split <;> simp (maxDischargeDepth := 60) only [hz, ↓State.applyPkey_keeps, ↓State.applyRegion_keeps, ↓State.applyTenant_keeps]

theorem State.markOp_keeps {z0 : State} {q seq n : Nat} {s : State} (hz : Keeps z0 s) : Keeps z0 (State.markOp q seq n s) := by
  unfold State.markOp
  split <;> simp (maxDischargeDepth := 60) only [hz, ↓State.setOp_keeps]

theorem State.applyStaged_keeps {z0 : State} {b : CwBody} {op : Option (Nat × Nat)} {s : State} (hz : Keeps z0 s)
    : Keeps z0 (State.applyStaged b op s) := by
  unfold State.applyStaged
  try dsimp only
  (repeat' split) <;> simp (maxDischargeDepth := 60) only [hz, ↓State.applyRecord_keeps, ↓State.applyRegion_keeps, ↓State.markOp_keeps,
    ↓State.postKey_keeps]

theorem State.sequencePoint_keeps {z0 : State} {b : CwBody} {op : Option (Nat × Nat)} {s : State} (hz : Keeps z0 s)
    : Keeps z0 (State.sequencePoint b op s) := by
  unfold State.sequencePoint
  simp (maxDischargeDepth := 60) only [hz, ↓Keeps.ite, ↓Keeps.upd, le_refl, ↓State.applyStaged_keeps, ↓State.sendFrame_keeps]

theorem State.changeRegion_keeps {z0 : State} {idx : Nat} {r : Region} {op : Option (Nat × Nat)} {s : State} (hz : Keeps z0 s)
    : Keeps z0 (State.changeRegion idx r op s) := by
  unfold State.changeRegion
  simp (maxDischargeDepth := 60) only [hz, ↓State.sequencePoint_keeps]

theorem State.endLimits_keeps {z0 : State} {ts : List Nat} {s : State} (hz : Keeps z0 s) : Keeps z0 (State.endLimits ts s) := by
  unfold State.endLimits
  simp (maxDischargeDepth := 60) only [hz, ↓Keeps.upd, Keeps.refl, implies_true, le_refl, ↓State.forEach_keeps, ↓State.notice_keeps]

theorem State.sluiceEnter_keeps {z0 : State} {st : Nat} {s : State} (hz : Keeps z0 s) : Keeps z0 (State.sluiceEnter st s) := by
  unfold State.sluiceEnter
  simp (maxDischargeDepth := 60) only [hz, ↓Keeps.ite, ↓Keeps.upd, le_refl, ↓State.bump_keeps, ↓State.put_keeps, ↓State.raise_keeps,
    ↓State.raiseLimited_keeps]

theorem State.sluiceStep_keeps {z0 : State} {s : State} (hz : Keeps z0 s) : Keeps z0 (State.sluiceStep s) := by
  unfold State.sluiceStep
  split <;> simp (maxDischargeDepth := 60) only [hz, ↓Keeps.ite, ↓State.endCond_keeps, ↓State.endLimits_keeps, ↓State.put_keeps,
    ↓State.sluiceEnter_keeps]

theorem State.sluice_keeps {z0 : State} {s : State} (hz : Keeps z0 s) : Keeps z0 (State.sluice s) := by
  unfold State.sluice
  simp (maxDischargeDepth := 60) only [hz, ↓Keeps.ite, ↓State.noteLoad_keeps, ↓State.sluiceStep_keeps]

theorem State.checkOver_keeps {z0 : State} {s : State} (hz : Keeps z0 s) : Keeps z0 (State.checkOver s) := by
  unfold State.checkOver
  simp (maxDischargeDepth := 60) only [hz, ↓Keeps.ite, ↓State.endCond_keeps, ↓State.put_keeps, ↓State.raise_keeps]

theorem State.recomputeFreeboard_keeps {z0 : State} {s : State} (hz : Keeps z0 s) : Keeps z0 (State.recomputeFreeboard s) := by
  unfold State.recomputeFreeboard
  simp (maxDischargeDepth := 60) only [hz, ↓Keeps.ite, ↓Keeps.upd, le_refl, ↓State.checkOver_keeps, ↓State.endCond_keeps, ↓State.put_keeps,
    ↓State.raise_keeps, ↓State.sluice_keeps]

theorem State.setBermRec_keeps {z0 : State} {n : Nat} {r : BermRec} {s : State} (hz : Keeps z0 s) : Keeps z0 (State.setBermRec n r s) := by
  unfold State.setBermRec
  simp (maxDischargeDepth := 60) only [hz, ↓Keeps.upd, le_refl]

theorem State.recomputeBerm_keeps {z0 : State} {n : Nat} {s : State} (hz : Keeps z0 s) : Keeps z0 (State.recomputeBerm n s) := by
  unfold State.recomputeBerm
  simp (maxDischargeDepth := 60) only [hz, ↓Keeps.ite, ↓State.raise_keeps, ↓State.setBermRec_keeps]

theorem State.bermStatus_keeps {z0 : State} {s : State} (hz : Keeps z0 s) : Keeps z0 (State.bermStatus s) := by
  unfold State.bermStatus
  simp (maxDischargeDepth := 60) only [hz, ↓State.put_keeps]

theorem State.bermDraw_keeps {z0 : State} {pool inst k : Nat} {s : State} (hz : Keeps z0 s) : Keeps z0 (State.bermDraw pool inst k s) := by
  unfold State.bermDraw
  simp (maxDischargeDepth := 60) only [hz, ↓Keeps.ite, ↓Keeps.upd, le_refl, ↓State.bermStatus_keeps, ↓State.raise_keeps,
    ↓State.recomputeBerm_keeps, ↓State.setBermRec_keeps]

theorem State.bermReturn_keeps {z0 : State} {pool inst k : Nat} {s : State} (hz : Keeps z0 s) : Keeps z0 (State.bermReturn pool inst k s) := by
  unfold State.bermReturn
  simp (maxDischargeDepth := 60) only [hz, ↓Keeps.ite, ↓Keeps.upd, le_refl, ↓State.bermStatus_keeps, ↓State.recomputeBerm_keeps,
    ↓State.setBermRec_keeps]

theorem State.bermFound_keeps {z0 : State} {pool inst total remaining : Nat} {fresh : Bool} {s : State} (hz : Keeps z0 s)
    : Keeps z0 (State.bermFound pool inst total remaining fresh s) := by
  unfold State.bermFound
  simp (maxDischargeDepth := 60) only [hz, ↓State.bermStatus_keeps, ↓State.recomputeBerm_keeps, ↓State.setBermRec_keeps]

theorem State.bermGone_keeps {z0 : State} {pool inst : Nat} {s : State} (hz : Keeps z0 s) : Keeps z0 (State.bermGone pool inst s) := by
  unfold State.bermGone
  simp (maxDischargeDepth := 60) only [hz, ↓State.bermStatus_keeps, ↓State.setBermRec_keeps]

theorem State.setBlock_keeps {z0 : State} {sb : Nat} {b : Block} {s : State} (hz : Keeps z0 s) : Keeps z0 (State.setBlock sb b s) := by
  unfold State.setBlock
  simp (maxDischargeDepth := 60) only [hz, ↓Keeps.upd, le_refl]

theorem State.blockStatus_keeps {z0 : State} {s : State} (hz : Keeps z0 s) : Keeps z0 (State.blockStatus s) := by
  unfold State.blockStatus
  simp (maxDischargeDepth := 60) only [hz, ↓Keeps.ite, ↓State.endCond_keeps, ↓State.put_keeps, ↓State.raise_keeps]

theorem State.queueBlock_keeps {z0 : State} {sb : Nat} {s : State} (hz : Keeps z0 s) : Keeps z0 (State.queueBlock sb s) := by
  unfold State.queueBlock
  simp (maxDischargeDepth := 60) only [hz, ↓Keeps.ite, ↓State.blockStatus_keeps, ↓State.setBlock_keeps]

theorem State.disturbBlock_keeps {z0 : State} {sb : Nat} {s : State} (hz : Keeps z0 s) : Keeps z0 (State.disturbBlock sb s) := by
  unfold State.disturbBlock
  simp (maxDischargeDepth := 60) only [hz, ↓Keeps.ite, ↓State.bump_keeps, ↓State.queueBlock_keeps, ↓State.raise_keeps]

theorem State.wakeChannels_keeps {z0 : State} {sb : Nat} {s : State} (hz : Keeps z0 s) : Keeps z0 (State.wakeChannels sb s) := by
  unfold State.wakeChannels
  simp (maxDischargeDepth := 60) only [hz, ↓Keeps.upd, le_refl]

theorem State.countRead_keeps {z0 : State} {sb : Nat} {s : State} (hz : Keeps z0 s) : Keeps z0 (State.countRead sb s) := by
  unfold State.countRead
  simp (maxDischargeDepth := 60) only [hz, ↓Keeps.ite, ↓State.disturbBlock_keeps, ↓State.setBlock_keeps]

theorem State.takePage_keeps {z0 : State} {gc : Bool} {s : State} {t : Nat × State} (h : s.takePage gc = some t) (hz : Keeps z0 s)
    : Keeps z0 t.2 := by
  unfold State.takePage at h
  dsimp only at h
  split at h
  · exact absurd h (by simp)
  · obtain rfl := Option.some.inj h
    exact State.blockStatus_keeps (State.wakeChannels_keeps (State.setBlock_keeps hz))

theorem State.reconstructed_keeps {z0 : State} {n : Nat} {s : State} (hz : Keeps z0 s) : Keeps z0 (State.reconstructed n s) := by
  unfold State.reconstructed
  simp (maxDischargeDepth := 60) only [hz, ↓Keeps.upd, le_refl, ↓State.bump_keeps]

theorem State.noteLdpc_keeps {z0 : State} {sb : Nat} {e : DeepEcc} {s : State} (hz : Keeps z0 s) : Keeps z0 (State.noteLdpc sb e s) := by
  unfold State.noteLdpc
  simp (maxDischargeDepth := 60) only [hz, Keeps.refl, implies_true, ↓State.bump_keeps, ↓State.disturbBlock_keeps, ↓State.forEach_keeps,
    ↓State.when_keeps]

theorem State.groupState_keeps {z0 : State} {s : State} (hz : Keeps z0 s) : Keeps z0 (State.groupState s) := by
  unfold State.groupState
  simp (maxDischargeDepth := 60) only [hz, ↓State.put_keeps]

theorem State.useSpareBlock_keeps {z0 : State} {slot sb : Nat} {s : State} (hz : Keeps z0 s) : Keeps z0 (State.useSpareBlock slot sb s) := by
  unfold State.useSpareBlock
  simp (maxDischargeDepth := 60) only [hz, ↓Keeps.ite, ↓Keeps.upd, Keeps.refl, implies_true, le_refl, ↓State.bermDraw_keeps,
    ↓State.blockStatus_keeps, ↓State.bump_keeps, ↓State.put_keeps, ↓State.raise_keeps, ↓State.setBlock_keeps, ↓State.when_keeps]

theorem State.recordRuns_keeps {z0 : State} {source : Nat} {lines : List Nat} {s : State} (hz : Keeps z0 s)
    : Keeps z0 (State.recordRuns source lines s) := by
  unfold State.recordRuns
  simp (maxDischargeDepth := 60) only [hz, Keeps.refl, implies_true, ↓State.forEach_keeps, ↓State.recordLine_keeps]

theorem State.losePage_keeps {z0 : State} {p : Nat} {s : State} (hz : Keeps z0 s) : Keeps z0 (State.losePage p s) := by
  unfold State.losePage
  simp (maxDischargeDepth := 60) only [hz, Keeps.refl, implies_true, ↓State.bump_keeps, ↓State.forEach_keeps, ↓State.raise_keeps,
    ↓State.recordRuns_keeps, ↓State.setMeta_keeps, ↓State.setTrans_keeps]

theorem State.lostPage_keeps {z0 : State} {p : Nat} {s : State} (hz : Keeps z0 s) : Keeps z0 (State.lostPage p s) := by
  unfold State.lostPage
  simp (maxDischargeDepth := 60) only [hz, ↓Keeps.ite, ↓Keeps.upd, le_refl, ↓State.losePage_keeps, ↓State.requestFill_keeps,
    ↓State.sendFrame_keeps, ↓State.setPage_keeps]

theorem State.loseStripe_keeps {z0 : State} {sb stripe : Nat} {erased : List Nat} {s : State} (hz : Keeps z0 s)
    : Keeps z0 (State.loseStripe sb stripe erased s) := by
  unfold State.loseStripe
  simp (maxDischargeDepth := 60) only [hz, Keeps.refl, implies_true, ↓State.bump_keeps, ↓State.forEach_keeps, ↓State.lostPage_keeps,
    ↓State.raise_keeps]

theorem State.noteUce_keeps {z0 : State} {slot sb : Nat} {s : State} (hz : Keeps z0 s) : Keeps z0 (State.noteUce slot sb s) := by
  unfold State.noteUce
  simp (maxDischargeDepth := 60) only [hz, ↓Keeps.upd, le_refl, ↓State.bump_keeps]

theorem State.enterSpare_keeps {z0 : State} {slot : Nat} {s : State} (hz : Keeps z0 s) : Keeps z0 (State.enterSpare slot s) := by
  unfold State.enterSpare
  simp (maxDischargeDepth := 60) only [hz, ↓State.bermReturn_keeps, ↓State.put_keeps]

theorem State.promoteIdle_keeps {z0 : State} {s : State} (hz : Keeps z0 s) : Keeps z0 (State.promoteIdle s) := by
  unfold State.promoteIdle
  split <;> simp (maxDischargeDepth := 60) only [hz, ↓Keeps.ite, ↓State.enterSpare_keeps]

theorem State.takeSpares_keeps {z0 : State} {s : State} (hz : Keeps z0 s) : Keeps z0 (State.takeSpares s) := by
  unfold State.takeSpares
  refine State.forEach_keeps hz fun p t => ?_
  split
  · exact State.promoteIdle_keeps (State.bermDraw_keeps (State.raise_keeps (Keeps.upd (State.put_keeps (State.put_keeps (State.put_keeps
      (Keeps.refl t)))))))
  · exact State.raise_keeps (Keeps.refl t)

theorem State.rebuildStatus_keeps {z0 : State} {s : State} (hz : Keeps z0 s) : Keeps z0 (State.rebuildStatus s) := by
  unfold State.rebuildStatus
  simp (maxDischargeDepth := 60) only [hz, ↓State.put_keeps]

theorem State.noteRebuild_keeps {z0 : State} {s : State} (hz : Keeps z0 s) : Keeps z0 (State.noteRebuild s) := by
  unfold State.noteRebuild
  simp (maxDischargeDepth := 60) only [hz, ↓Keeps.upd, le_refl]

theorem State.startRebuild_keeps {z0 : State} {p : Nat} {s : State} (hz : Keeps z0 s) : Keeps z0 (State.startRebuild p s) := by
  unfold State.startRebuild
  simp (maxDischargeDepth := 60) only [hz, ↓Keeps.ite, ↓Keeps.upd, le_refl, ↓State.noteRebuild_keeps, ↓State.put_keeps, ↓State.raise_keeps,
    ↓State.rebuildStatus_keeps]

theorem State.resumeRebuild_keeps {z0 : State} {s : State} (hz : Keeps z0 s) : Keeps z0 (State.resumeRebuild s) := by
  unfold State.resumeRebuild
  split <;> simp (maxDischargeDepth := 60) only [hz, ↓Keeps.upd, le_refl, ↓State.put_keeps, ↓State.rebuildStatus_keeps]

theorem State.dropRebuild_keeps {z0 : State} {p : Nat} {s : State} (hz : Keeps z0 s) : Keeps z0 (State.dropRebuild p s) := by
  unfold State.dropRebuild
  simp (maxDischargeDepth := 60) only [hz, ↓Keeps.ite, ↓Keeps.upd, le_refl, ↓State.noteRebuild_keeps, ↓State.put_keeps, ↓State.rebuildStatus_keeps]

theorem State.slotOff_keeps {z0 : State} {slot : Nat} {s : State} (hz : Keeps z0 s) : Keeps z0 (State.slotOff slot s) := by
  unfold State.slotOff
  simp (maxDischargeDepth := 60) only [hz, ↓State.put_keeps]

theorem State.checkGroup_keeps {z0 : State} {s : State} (hz : Keeps z0 s) : Keeps z0 (State.checkGroup s) := by
  unfold State.checkGroup
  simp (maxDischargeDepth := 60) only [hz, ↓Keeps.ite, ↓State.groupState_keeps, ↓State.raise_keeps]

theorem State.failSlot_keeps {z0 : State} {slot st cause : Nat} {s : State} (hz : Keeps z0 s) : Keeps z0 (State.failSlot slot st cause s) := by
  unfold State.failSlot
  simp (maxDischargeDepth := 60) only [hz, ↓Keeps.upd, le_refl, ↓State.bermGone_keeps, ↓State.checkGroup_keeps, ↓State.dropRebuild_keeps,
    ↓State.put_keeps, ↓State.raise_keeps, ↓State.recomputeFreeboard_keeps, ↓State.slotOff_keeps, ↓State.takeSpares_keeps]

theorem State.checkUce_keeps {z0 : State} {slot : Nat} {s : State} (hz : Keeps z0 s) : Keeps z0 (State.checkUce slot s) := by
  unfold State.checkUce
  simp (maxDischargeDepth := 60) only [hz, ↓Keeps.ite, ↓State.failSlot_keeps]

theorem State.failAttempt_keeps {z0 : State} {slot : Nat} {s : State} (hz : Keeps z0 s) : Keeps z0 (State.failAttempt slot s) := by
  unfold State.failAttempt
  simp (maxDischargeDepth := 60) only [hz, ↓Keeps.ite, ↓State.failSlot_keeps, ↓State.put_keeps, ↓State.raise_keeps,
    ↓State.recomputeFreeboard_keeps, ↓State.slotOff_keeps]

theorem State.tryPower_keeps {z0 : State} {slot : Nat} {s : State} (hz : Keeps z0 s) : Keeps z0 (State.tryPower slot s) := by
  unfold State.tryPower
  simp (maxDischargeDepth := 60) only [hz, ↓Keeps.ite, ↓State.put_keeps, ↓State.recomputeFreeboard_keeps]

theorem State.refuseSlot_keeps {z0 : State} {slot cause : Nat} {s : State} (hz : Keeps z0 s) : Keeps z0 (State.refuseSlot slot cause s) := by
  unfold State.refuseSlot
  simp (maxDischargeDepth := 60) only [hz, ↓State.put_keeps, ↓State.raise_keeps]

theorem State.placeModule_keeps {z0 : State} {slot : Nat} {s : State} (hz : Keeps z0 s) : Keeps z0 (State.placeModule slot s) := by
  unfold State.placeModule
  simp (maxDischargeDepth := 60) only [hz, ↓Keeps.ite, ↓State.enterSpare_keeps, ↓State.groupState_keeps, ↓State.put_keeps, ↓State.refuseSlot_keeps,
    ↓State.takeSpares_keeps]

theorem State.freshMember_keeps {z0 : State} {slot : Nat} {s : State} (hz : Keeps z0 s) : Keeps z0 (State.freshMember slot s) := by
  unfold State.freshMember
  simp (maxDischargeDepth := 60) only [hz, ↓Keeps.upd, le_refl, ↓State.bermFound_keeps, ↓State.put_keeps]

theorem State.formGroup_keeps {z0 : State} {s : State} (hz : Keeps z0 s) : Keeps z0 (State.formGroup s) := by
  unfold State.formGroup
  split
  · exact hz
  · dsimp only
    split
    · exact State.raise_keeps hz
    · split
      · exact State.raise_keeps hz
      · refine State.blockStatus_keeps (State.groupState_keeps (State.raise_keeps (State.put_keeps (State.forEach_keeps (State.forEach_keeps
          (State.forEach_keeps (State.put_keeps (State.put_keeps (State.put_keeps (Keeps.tables (State.draw_keeps hz) id id (fun _ => rfl) id
            (fun _ => rfl))))) fun e t => ?_) fun i t => ?_) fun i t => ?_))))
        · exact State.freshMember_keeps (State.put_keeps (State.put_keeps (State.put_keeps (Keeps.refl t))))
        · exact State.refuseSlot_keeps (Keeps.refl t)
        · exact State.placeModule_keeps (Keeps.refl t)

theorem State.bermLoad_keeps {z0 : State} {s : State} (hz : Keeps z0 s) : Keeps z0 (State.bermLoad s).2 := by
  unfold State.bermLoad
  simp (maxDischargeDepth := 60) only [hz, ↓Keeps.ite_snd, ↓Keeps.upd, le_refl, ↓State.put_keeps]

theorem State.bermFixed_keeps {z0 : State} {s : State} (hz : Keeps z0 s) : Keeps z0 (State.bermFixed s) := by
  unfold State.bermFixed
  simp (maxDischargeDepth := 60) only [hz, Keeps.refl, implies_true, ↓State.bermFound_keeps, ↓State.forEach_keeps]

theorem State.bermRebuilt_keeps {z0 : State} {s : State} (hz : Keeps z0 s) : Keeps z0 (State.bermRebuilt s) := by
  unfold State.bermRebuilt
  simp (maxDischargeDepth := 60) only [hz, ↓Keeps.upd, le_refl, ↓State.raise_keeps]

theorem State.checkRotateOp_keeps {z0 : State} {q : Nat} {o : OpRec} {s : State} (hz : Keeps z0 s) : Keeps z0 (State.checkRotateOp q o s) := by
  unfold State.checkRotateOp
  split <;> simp (maxDischargeDepth := 60) only [hz, ↓Keeps.ite, ↓State.completeOp_keeps]

theorem State.resolveKey_keeps {z0 : State} {w : KeyWait} {s : State} (hz : Keeps z0 s) : Keeps z0 (State.resolveKey w s) := by
  unfold State.resolveKey
  try dsimp only
  (repeat' split) <;> simp (maxDischargeDepth := 60) only [hz, ↓State.changeRegion_keeps, ↓State.completeOp_keeps, ↓State.dropStaleMasters_keeps,
    ↓State.loadSlot_keeps, ↓State.markOp_keeps, ↓State.raise_keeps, ↓State.sendFrame_keeps]

theorem State.keyInForce_keeps {z0 : State} {ws : List (Nat × KeyWait)} {s : State} (hz : Keeps z0 s) : Keeps z0 (State.keyInForce ws s) := by
  unfold State.keyInForce
  simp (maxDischargeDepth := 60) only [hz, ↓Keeps.upd, Keeps.refl, implies_true, le_refl, ↓State.forEach_keeps, ↓State.resolveKey_keeps]

theorem State.releaseKeyWaits_keeps {z0 : State} {s : State} (hz : Keeps z0 s) : Keeps z0 (State.releaseKeyWaits s) := by
  unfold State.releaseKeyWaits
  simp (maxDischargeDepth := 60) only [hz, ↓Keeps.ite, ↓Keeps.upd, Keeps.refl, implies_true, le_refl, ↓State.forEach_keeps, ↓State.resolveKey_keeps]

theorem State.checkRotateOps_keeps {z0 : State} {s : State} (hz : Keeps z0 s) : Keeps z0 (State.checkRotateOps s) := by
  unfold State.checkRotateOps
  simp (maxDischargeDepth := 60) only [hz, Keeps.refl, implies_true, ↓State.checkRotateOp_keeps, ↓State.forEach_keeps]

theorem State.guestProtocol_keeps {z0 : State} {s : State} (hz : Keeps z0 s) : Keeps z0 (State.guestProtocol s) := by
  unfold State.guestProtocol
  simp (maxDischargeDepth := 60) only [hz, ↓State.raiseLimited_keeps]

theorem State.endRevocation_keeps {z0 : State} {g how : Nat} {s : State} (hz : Keeps z0 s) : Keeps z0 (State.endRevocation g how s) := by
  unfold State.endRevocation
  simp (maxDischargeDepth := 60) only [hz, ↓Keeps.ite, ↓Keeps.upd, le_refl, ↓State.put_keeps, ↓State.raise_keeps]

theorem State.endRevocations_keeps {z0 : State} {s : State} (hz : Keeps z0 s) : Keeps z0 (State.endRevocations s) := by
  unfold State.endRevocations
  simp (maxDischargeDepth := 60) only [hz, Keeps.refl, implies_true, ↓State.endRevocation_keeps, ↓State.forEach_keeps]

theorem State.grantWrite_keeps {z0 : State} {g word v : Nat} {s : State} (hz : Keeps z0 s) : Keeps z0 (State.grantWrite g word v s) := by
  unfold State.grantWrite
  try dsimp only
  (repeat' split) <;> simp (maxDischargeDepth := 60) only [hz, ↓State.guestTimeout_keeps, ↓State.put_keeps, ↓State.revokeGrant_keeps,
    ↓State.updateGranted_keeps]

theorem State.countOps_keeps {z0 : State} {s : State} (hz : Keeps z0 s) : Keeps z0 (State.countOps s) := by
  unfold State.countOps
  simp (maxDischargeDepth := 60) only [hz, ↓State.put_keeps]

theorem State.tellAborts_keeps {z0 : State} {t seq : Nat} {aborted : Bool} {s : State} (hz : Keeps z0 s)
    : Keeps z0 (State.tellAborts t seq aborted s) := by
  unfold State.tellAborts
  simp (maxDischargeDepth := 60) only [hz, ↓Keeps.ite, Keeps.refl, implies_true, ↓State.forEach_keeps, ↓State.setQueue_keeps]

theorem State.endGuestOp_keeps {z0 : State} {o : GuestOp} {status detail ra rb : Nat} {s : State} (hz : Keeps z0 s)
    : Keeps z0 (State.endGuestOp o status detail ra rb s) := by
  unfold State.endGuestOp
  try dsimp only
  (repeat' split) <;> simp (maxDischargeDepth := 60) only [hz, ↓Keeps.upd, le_refl, ↓State.completeOp_keeps, ↓State.countOps_keeps,
    ↓State.tellAborts_keeps]

theorem State.endGuestOps_keeps {z0 : State} {p : GuestOp → Bool} {detail : Nat} {s : State} (hz : Keeps z0 s)
    : Keeps z0 (State.endGuestOps p detail s) := by
  unfold State.endGuestOps
  simp (maxDischargeDepth := 60) only [hz, Keeps.refl, implies_true, ↓State.endGuestOp_keeps, ↓State.forEach_keeps]

theorem State.sweepGuestOps_keeps {z0 : State} {s : State} (hz : Keeps z0 s) : Keeps z0 (State.sweepGuestOps s) := by
  unfold State.sweepGuestOps
  simp (maxDischargeDepth := 60) only [hz, ↓Keeps.upd, Keeps.refl, implies_true, le_refl, ↓State.endGuestOp_keeps, ↓State.forEach_keeps]

theorem State.dropGuestRequests_keeps {z0 : State} {p : Nat → Bool} {s : State} (hz : Keeps z0 s) : Keeps z0 (State.dropGuestRequests p s) := by
  unfold State.dropGuestRequests
  simp (maxDischargeDepth := 60) only [hz, ↓Keeps.upd, le_refl, ↓State.dropReqs_keeps]

theorem State.guestLinksDown_keeps {z0 : State} {s : State} (hz : Keeps z0 s) : Keeps z0 (State.guestLinksDown s) := by
  unfold State.guestLinksDown
  simp (maxDischargeDepth := 60) only [hz, Keeps.refl, implies_true, ↓State.forEach_keeps, ↓State.put_keeps]

theorem State.guestLeave_keeps {z0 : State} {cause : Nat} {s : State} (hz : Keeps z0 s) : Keeps z0 (State.guestLeave cause s) := by
  unfold State.guestLeave
  simp (maxDischargeDepth := 60) only [hz, ↓Keeps.upd, Keeps.refl, implies_true, le_refl, ↓State.dropGuestRequests_keeps, ↓State.emit_keeps,
    ↓State.endGuestOps_keeps, ↓State.endRevocations_keeps, ↓State.guestLinksDown_keeps, ↓State.put_keeps, ↓State.raise_keeps, ↓State.when_keeps]

theorem State.guestOff_keeps {z0 : State} {st : Nat} {s : State} (hz : Keeps z0 s) : Keeps z0 (State.guestOff st s) := by
  unfold State.guestOff
  simp (maxDischargeDepth := 60) only [hz, Keeps.refl, implies_true, ↓State.emit_keeps, ↓State.put_keeps, ↓State.when_keeps]

theorem State.guestPowerOn_keeps {z0 : State} {second : Bool} {s : State} (hz : Keeps z0 s) : Keeps z0 (State.guestPowerOn second s) := by
  unfold State.guestPowerOn
  simp (maxDischargeDepth := 60) only [hz, ↓Keeps.upd, Keeps.refl, implies_true, le_refl, ↓State.emit_keeps, ↓State.put_keeps, ↓State.when_keeps]

theorem State.guestStart_keeps {z0 : State} {s : State} (hz : Keeps z0 s) : Keeps z0 (State.guestStart s) := by
  unfold State.guestStart
  simp (maxDischargeDepth := 60) only [hz, ↓Keeps.ite, ↓State.guestOff_keeps, ↓State.guestPowerOn_keeps, ↓State.put_keeps]

theorem State.guestBringup_keeps {z0 : State} {s : State} (hz : Keeps z0 s) : Keeps z0 (State.guestBringup s) := by
  unfold State.guestBringup
  simp (maxDischargeDepth := 60) only [hz, ↓Keeps.ite, ↓State.guestStart_keeps, ↓State.guestTimeout_keeps, ↓State.updateGranted_keeps]

theorem State.guestRestart_keeps {z0 : State} {cause : Nat} {s : State} (hz : Keeps z0 s) : Keeps z0 (State.guestRestart cause s) := by
  unfold State.guestRestart
  simp (maxDischargeDepth := 60) only [hz, ↓Keeps.ite, ↓State.guestLeave_keeps, ↓State.guestStart_keeps]

theorem State.guestService_keeps {z0 : State} {on : Bool} {s : State} (hz : Keeps z0 s) : Keeps z0 (State.guestService on s) := by
  unfold State.guestService
  simp (maxDischargeDepth := 60) only [hz, ↓Keeps.ite, ↓State.guestLeave_keeps, ↓State.guestOff_keeps, ↓State.guestStart_keeps, ↓State.put_keeps]

theorem State.guestLost_keeps {z0 : State} {s : State} (hz : Keeps z0 s) : Keeps z0 (State.guestLost s) := by
  unfold State.guestLost
  simp (maxDischargeDepth := 60) only [hz, ↓Keeps.ite, ↓State.guestLeave_keeps, ↓State.guestOff_keeps]

theorem State.guestSave_keeps {z0 : State} {s : State} (hz : Keeps z0 s) : Keeps z0 (State.guestSave s) := by
  unfold State.guestSave
  simp (maxDischargeDepth := 60) only [hz, ↓Keeps.ite, ↓Keeps.upd, le_refl, ↓State.countOps_keeps, ↓State.guestLeave_keeps, ↓State.guestOff_keeps]

theorem State.guestStepFailed_keeps {z0 : State} {cause : Nat} {s : State} (hz : Keeps z0 s) : Keeps z0 (State.guestStepFailed cause s) := by
  unfold State.guestStepFailed
  simp (maxDischargeDepth := 60) only [hz, ↓Keeps.ite, ↓State.guestLeave_keeps, ↓State.guestOff_keeps, ↓State.guestPowerOn_keeps, ↓State.put_keeps,
    ↓State.raise_keeps]

theorem State.guestCheck_keeps {z0 : State} {s : State} (hz : Keeps z0 s) : Keeps z0 (State.guestCheck s) := by
  unfold State.guestCheck
  simp (maxDischargeDepth := 60) only [hz, ↓Keeps.upd, Keeps.refl, implies_true, le_refl, ↓State.forEach_keeps, ↓State.kerupSend_keeps,
    ↓State.put_keeps]

theorem State.sendEcho_keeps {z0 : State} {p : Nat} {s : State} (hz : Keeps z0 s) : Keeps z0 (State.sendEcho p s) := by
  unfold State.sendEcho
  simp (maxDischargeDepth := 60) only [hz, ↓Keeps.upd, le_refl, ↓State.draw_keeps, ↓State.kerupSend_keeps]

theorem State.guestIdentity_keeps {z0 : State} {s : State} (hz : Keeps z0 s) : Keeps z0 (State.guestIdentity s) := by
  unfold State.guestIdentity
  simp (maxDischargeDepth := 60) only [hz, ↓Keeps.ite, ↓Keeps.upd, Keeps.refl, implies_true, le_refl, ↓State.forEach_keeps,
    ↓State.guestLeave_keeps, ↓State.guestOff_keeps, ↓State.put_keeps, ↓State.raise_keeps, ↓State.sendEcho_keeps]

theorem State.guestPassed_keeps {z0 : State} {s : State} (hz : Keeps z0 s) : Keeps z0 (State.guestPassed s) := by
  unfold State.guestPassed
  simp (maxDischargeDepth := 60) only [hz, ↓Keeps.ite, ↓Keeps.upd, le_refl, ↓State.put_keeps]

theorem State.copyGuestRecord_keeps {z0 : State} {s : State} (hz : Keeps z0 s) : Keeps z0 (State.copyGuestRecord s) := by
  unfold State.copyGuestRecord
  simp (maxDischargeDepth := 60) only [hz, ↓Keeps.ite, ↓State.serviceWrite_keeps]

theorem State.eraseWords_keeps {z0 : State} {lo hi : Nat} {s : State} (hz : Keeps z0 s) : Keeps z0 (State.eraseWords lo hi s) := by
  unfold State.eraseWords
  simp (maxDischargeDepth := 60) only [hz, ↓Keeps.upd, le_refl]

theorem State.programWords_keeps {z0 : State} {lo : Nat} {vs : List Nat} {s : State} (hz : Keeps z0 s) : Keeps z0 (State.programWords lo vs s) := by
  unfold State.programWords
  simp (maxDischargeDepth := 60) only [hz, ↓Keeps.upd, le_refl]

theorem State.selectConfig_keeps {z0 : State} {s : State} (hz : Keeps z0 s) : Keeps z0 (State.selectConfig s) := by
  unfold State.selectConfig
  extract_lets a b usable reject take s1 s2
  have kt : ∀ k t, Keeps t (take k t) := fun k t => (Keeps.refl t).upd
  have kr : ∀ k t, Keeps t (reject k t) := fun k t => State.when_keeps (Keeps.refl t) fun u => State.raise_keeps (Keeps.refl u)
  have k1 : Keeps z0 s1 := hz.trans (kr _ _)
  have k2 : Keeps z0 s2 := k1.trans (kr _ _)
  clear_value s2 s1 take reject usable
  exact Keeps.ite (hz.trans (kt _ _)) (Keeps.ite (k1.trans (kt _ _)) k2.upd)

theorem State.loadConfig_keeps {z0 : State} {p : Nat → Bool} {s : State} (hz : Keeps z0 s) : Keeps z0 (State.loadConfig p s) := by
  unfold State.loadConfig
  refine Keeps.tables hz ?_ id id id id
  generalize List.filter _ _ = l
  generalize s.regs = g
  intro hg
  induction l generalizing g with
  | nil => exact hg
  | cons e l ih => exact ih _ (Sparse.rising_set hg)

theorem State.syncReadout_keeps {z0 : State} {s : State} (hz : Keeps z0 s) : Keeps z0 (State.syncReadout s) := by
  unfold State.syncReadout
  simp (maxDischargeDepth := 60) only [hz, ↓Keeps.ite, ↓State.put_keeps, ↓State.raise_keeps]

theorem State.setArm_keeps {z0 : State} {a : Option (Nat × Nat)} {s : State} (hz : Keeps z0 s) : Keeps z0 (State.setArm a s) := by
  unfold State.setArm
  simp (maxDischargeDepth := 60) only [hz, ↓Keeps.upd, le_refl, ↓State.put_keeps]

theorem State.noteUnits_keeps {z0 : State} {s : State} (hz : Keeps z0 s) : Keeps z0 (State.noteUnits s) := by
  unfold State.noteUnits
  simp (maxDischargeDepth := 60) only [hz, ↓Keeps.upd, le_refl]

theorem State.startUnits_keeps {z0 : State} {s : State} (hz : Keeps z0 s) : Keeps z0 (State.startUnits s) := by
  unfold State.startUnits
  simp (maxDischargeDepth := 60) only [hz, Keeps.refl, implies_true, ↓State.forEach_keeps, ↓State.put_keeps]

theorem State.retireSlice_keeps {z0 : State} {p : Nat} {s : State} (hz : Keeps z0 s) : Keeps z0 (State.retireSlice p s) := by
  unfold State.retireSlice
  simp (maxDischargeDepth := 60) only [hz, Keeps.refl, implies_true, ↓State.bermDraw_keeps, ↓State.noteUnits_keeps, ↓State.put_keeps,
    ↓State.raise_keeps, ↓State.when_keeps]

theorem State.startSliceRemap_keeps {z0 : State} {home p : Nat} {s : State} (hz : Keeps z0 s) : Keeps z0 (State.startSliceRemap home p s) := by
  unfold State.startSliceRemap
  simp (maxDischargeDepth := 60) only [hz, ↓Keeps.ite, ↓Keeps.upd, le_refl, ↓State.put_keeps]

theorem State.sliceBist_keeps {z0 : State} {p : Nat} {pass : Bool} {s : State} (hz : Keeps z0 s) : Keeps z0 (State.sliceBist p pass s) := by
  unfold State.sliceBist
  simp (maxDischargeDepth := 60) only [hz, ↓Keeps.ite, ↓Keeps.upd, Keeps.refl, implies_true, le_refl, ↓State.bermReturn_keeps,
    ↓State.forEach_keeps, ↓State.noteUnits_keeps, ↓State.put_keeps, ↓State.raise_keeps, ↓State.retireSlice_keeps, ↓State.writeBack_keeps]

theorem State.sliceSwitch_keeps {z0 : State} {s : State} (hz : Keeps z0 s) : Keeps z0 (State.sliceSwitch s) := by
  unfold State.sliceSwitch
  simp (maxDischargeDepth := 60) only [hz, ↓Keeps.ite, ↓Keeps.upd, le_refl, ↓State.bermDraw_keeps, ↓State.noteUnits_keeps, ↓State.put_keeps,
    ↓State.raise_keeps]

theorem State.stopSliceRemap_keeps {z0 : State} {s : State} (hz : Keeps z0 s) : Keeps z0 (State.stopSliceRemap s) := by
  unfold State.stopSliceRemap
  simp (maxDischargeDepth := 60) only [hz, ↓Keeps.ite, ↓Keeps.upd, le_refl, ↓State.put_keeps]

theorem State.countSpares_keeps {z0 : State} {s : State} (hz : Keeps z0 s) : Keeps z0 (State.countSpares s) := by
  unfold State.countSpares
  simp (maxDischargeDepth := 60) only [hz, ↓State.put_keeps]

theorem State.startPipeRemap_keeps {z0 : State} {home p : Nat} {s : State} (hz : Keeps z0 s) : Keeps z0 (State.startPipeRemap home p s) := by
  unfold State.startPipeRemap
  simp (maxDischargeDepth := 60) only [hz, ↓Keeps.ite, ↓Keeps.upd, le_refl, ↓State.countSpares_keeps, ↓State.put_keeps]

theorem State.nextPipe_keeps {z0 : State} {home : Nat} {s : State} (hz : Keeps z0 s) : Keeps z0 (State.nextPipe home s) := by
  unfold State.nextPipe
  split <;> simp (maxDischargeDepth := 60) only [hz, ↓Keeps.ite, ↓Keeps.upd, le_refl, ↓State.startPipeRemap_keeps]

theorem State.failPipe_keeps {z0 : State} {p : Nat} {s : State} (hz : Keeps z0 s) : Keeps z0 (State.failPipe p s) := by
  unfold State.failPipe
  simp (maxDischargeDepth := 60) only [hz, ↓Keeps.ite, ↓State.nextPipe_keeps, ↓State.put_keeps, ↓State.raise_keeps]

theorem State.pipeTest_keeps {z0 : State} {p : Nat} {pass : Bool} {s : State} (hz : Keeps z0 s) : Keeps z0 (State.pipeTest p pass s) := by
  unfold State.pipeTest
  simp (maxDischargeDepth := 60) only [hz, ↓Keeps.ite, ↓Keeps.upd, le_refl, ↓State.bermDraw_keeps, ↓State.bermReturn_keeps,
    ↓State.countSpares_keeps, ↓State.nextPipe_keeps, ↓State.noteUnits_keeps, ↓State.put_keeps, ↓State.raise_keeps]

theorem State.clearCache_keeps {z0 : State} {p : Nat} {s : State} (hz : Keeps z0 s) : Keeps z0 (State.clearCache p s) := by
  unfold State.clearCache
  simp (maxDischargeDepth := 60) only [hz, ↓Keeps.upd, le_refl]

theorem State.pipeSwitch_keeps {z0 : State} {s : State} (hz : Keeps z0 s) : Keeps z0 (State.pipeSwitch s) := by
  unfold State.pipeSwitch
  simp (maxDischargeDepth := 60) only [hz, ↓Keeps.ite, ↓Keeps.upd, Keeps.refl, implies_true, le_refl, ↓State.bermDraw_keeps,
    ↓State.clearCache_keeps, ↓State.countSpares_keeps, ↓State.forEach_keeps, ↓State.noteUnits_keeps, ↓State.put_keeps, ↓State.raise_keeps]

theorem State.setHost_keeps {z0 : State} {gid : Nat} {h : Option Locator} {s : State} (hz : Keeps z0 s) : Keeps z0 (State.setHost gid h s) := by
  unfold State.setHost
  exact State.put_keeps hz.upd

theorem State.frameOut_keeps {z0 : State} {l : Nat} {f : EthOut} {s : State} (hz : Keeps z0 s) : Keeps z0 (State.frameOut l f s) := by
  unfold State.frameOut
  try dsimp only
  (repeat' split) <;> simp (maxDischargeDepth := 60) only [hz, ↓State.bump_keeps, ↓State.emit_keeps]

theorem State.sendHost_keeps {z0 : State} {f : EthOut} {s : State} (hz : Keeps z0 s) : Keeps z0 (State.sendHost f s) := by
  unfold State.sendHost
  split <;> simp (maxDischargeDepth := 60) only [hz, ↓Keeps.ite, ↓State.frameOut_keeps, ↓State.setHost_keeps]

theorem State.releaseHeld_keeps {z0 : State} {gid : Nat} {s : State} (hz : Keeps z0 s) : Keeps z0 (State.releaseHeld gid s) := by
  unfold State.releaseHeld
  split <;> simp (maxDischargeDepth := 60) only [hz, Keeps.refl, implies_true, ↓State.forEach_keeps, ↓State.frameOut_keeps, ↓State.setHost_keeps]

theorem State.moveHost_keeps {z0 : State} {gid : Nat} {h : Locator} {s : State} (hz : Keeps z0 s) : Keeps z0 (State.moveHost gid h s) := by
  unfold State.moveHost
  split <;> simp (maxDischargeDepth := 60) only [hz, ↓Keeps.ite, ↓State.bump_keeps, ↓State.raise_keeps, ↓State.releaseHeld_keeps,
    ↓State.setHost_keeps]

theorem State.learnHost_keeps {z0 : State} {gid l : Nat} {s : State} (hz : Keeps z0 s) : Keeps z0 (State.learnHost gid l s) := by
  unfold State.learnHost
  split <;> simp (maxDischargeDepth := 60) only [hz, ↓Keeps.ite, ↓Keeps.upd, le_refl, ↓State.raise_keeps, ↓State.setHost_keeps]

theorem State.syncEth_keeps {z0 : State} {s : State} (hz : Keeps z0 s) : Keeps z0 (State.syncEth s) := by
  unfold State.syncEth
  simp (maxDischargeDepth := 60) only [hz, ↓State.put_keeps]

theorem State.ethDrop_keeps {z0 : State} {l : Nat} {s : State} (hz : Keeps z0 s) : Keeps z0 (State.ethDrop l s) := by
  unfold State.ethDrop
  simp (maxDischargeDepth := 60) only [hz, Keeps.refl, implies_true, ↓State.forEach_keeps, ↓State.moveHost_keeps, ↓State.put_keeps,
    ↓State.releaseHeld_keeps, ↓State.syncEth_keeps]

theorem State.ethLeaves_keeps {z0 : State} {l cause : Nat} {s : State} (hz : Keeps z0 s) : Keeps z0 (State.ethLeaves l cause s) := by
  unfold State.ethLeaves
  simp (maxDischargeDepth := 60) only [hz, ↓Keeps.ite, ↓State.ethDrop_keeps, ↓State.put_keeps, ↓State.raise_keeps]

theorem State.ethReturns_keeps {z0 : State} {l : Nat} {s : State} (hz : Keeps z0 s) : Keeps z0 (State.ethReturns l s) := by
  unfold State.ethReturns
  simp (maxDischargeDepth := 60) only [hz, ↓Keeps.upd, le_refl, ↓State.endCond_keeps, ↓State.put_keeps]

theorem State.setPath_keeps {z0 : State} {p st : Nat} {s : State} (hz : Keeps z0 s) : Keeps z0 (State.setPath p st s) := by
  unfold State.setPath
  simp (maxDischargeDepth := 60) only [hz, ↓State.put_keeps]

theorem State.setCwPath_keeps {z0 : State} {p : Nat} {k : CwPath} {s : State} (hz : Keeps z0 s) : Keeps z0 (State.setCwPath p k s) := by
  unfold State.setCwPath
  simp (maxDischargeDepth := 60) only [hz, ↓Keeps.upd, le_refl]

theorem State.pathLeaves_keeps {z0 : State} {p cause : Nat} {s : State} (hz : Keeps z0 s) : Keeps z0 (State.pathLeaves p cause s) := by
  unfold State.pathLeaves
  simp (maxDischargeDepth := 60) only [hz, ↓Keeps.ite, ↓State.put_keeps, ↓State.raise_keeps, ↓State.setPath_keeps]

theorem State.pathDown_keeps {z0 : State} {p : Nat} {wait : Bool} {s : State} (hz : Keeps z0 s) : Keeps z0 (State.pathDown p wait s) := by
  unfold State.pathDown
  simp (maxDischargeDepth := 60) only [hz, ↓Keeps.ite, ↓State.pathLeaves_keeps, ↓State.setCwPath_keeps, ↓State.setPath_keeps]

theorem State.pathReturns_keeps {z0 : State} {p : Nat} {s : State} (hz : Keeps z0 s) : Keeps z0 (State.pathReturns p s) := by
  unfold State.pathReturns
  simp (maxDischargeDepth := 60) only [hz, ↓State.endCond_keeps, ↓State.put_keeps, ↓State.setCwPath_keeps, ↓State.setPath_keeps]

theorem State.trainPaths_keeps {z0 : State} {s : State} (hz : Keeps z0 s) : Keeps z0 (State.trainPaths s) := by
  unfold State.trainPaths
  simp (maxDischargeDepth := 60) only [hz, ↓Keeps.ite, Keeps.refl, implies_true, ↓State.forEach_keeps, ↓State.setPath_keeps]

theorem State.serdesLost_keeps {z0 : State} {u : Nat} {s : State} (hz : Keeps z0 s) : Keeps z0 (State.serdesLost u s) := by
  unfold State.serdesLost
  simp (maxDischargeDepth := 60) only [hz, ↓Keeps.ite, Keeps.refl, implies_true, ↓State.ethLeaves_keeps, ↓State.forEach_keeps,
    ↓State.pathLeaves_keeps, ↓State.portLeaves_keeps]

theorem State.latchSplits_keeps {z0 : State} {s : State} (hz : Keeps z0 s) : Keeps z0 (State.latchSplits s) := by
  unfold State.latchSplits
  simp (maxDischargeDepth := 60) only [hz, ↓Keeps.upd, le_refl]

theorem State.changeSplits_keeps {z0 : State} {s : State} (hz : Keeps z0 s) : Keeps z0 (State.changeSplits s) := by
  unfold State.changeSplits
  simp (maxDischargeDepth := 60) only [hz, ↓Keeps.ite, Keeps.refl, implies_true, ↓State.ethDrop_keeps, ↓State.forEach_keeps,
    ↓State.latchSplits_keeps, ↓State.put_keeps]

theorem State.startServices_keeps {z0 : State} {s : State} (hz : Keeps z0 s) : Keeps z0 (State.startServices s) := by
  unfold State.startServices
  simp (maxDischargeDepth := 60) only [hz, ↓Keeps.ite, Keeps.refl, implies_true, ↓State.forEach_keeps, ↓State.latchSplits_keeps,
    ↓State.loadLinks_keeps, ↓State.put_keeps, ↓State.setPort_keeps]

theorem State.syncDur_keeps {z0 : State} {s : State} (hz : Keeps z0 s) : Keeps z0 (State.syncDur s) := by
  unfold State.syncDur
  simp (maxDischargeDepth := 60) only [hz, ↓Keeps.ite, Keeps.refl, implies_true, ↓State.notice_keeps, ↓State.put_keeps, ↓State.raise_keeps,
    ↓State.recordAll_keeps, ↓State.when_keeps]

theorem State.releaseImages_keeps {z0 : State} {s : State} (hz : Keeps z0 s) : Keeps z0 (State.releaseImages s) := by
  unfold State.releaseImages
  simp (maxDischargeDepth := 60) only [hz, ↓Keeps.upd, le_refl, ↓State.put_keeps]

theorem State.lanePlls_keeps {z0 : State} {m : Mode} {s : State} (hz : Keeps z0 s) : Keeps z0 (State.lanePlls m s) := by
  unfold State.lanePlls
  simp (maxDischargeDepth := 60) only [hz, ↓Keeps.ite, ↓State.put_keeps]

theorem State.setMode_keeps {z0 : State} {m : Mode} {s : State} (hz : Keeps z0 s) : Keeps z0 (State.setMode m s) := by
  unfold State.setMode
  simp (maxDischargeDepth := 60) only [hz, ↓Keeps.ite, ↓Keeps.upd, Keeps.refl, implies_true, le_refl, ↓State.lanePlls_keeps, ↓State.noteLoad_keeps,
    ↓State.raise_keeps, ↓State.releaseImages_keeps, ↓State.setAllActive_keeps, ↓State.syncDur_keeps, ↓State.when_keeps]

theorem State.resetRegs_keeps {z0 : State} {p : Nat → Bool} {s : State} (hz : Keeps z0 s) : Keeps z0 (State.resetRegs p s) := by
  unfold State.resetRegs
  exact Keeps.tables hz (fun hg => List.Pairwise.filter _ hg) id id id id

theorem State.resetBlocks_keeps {z0 : State} {s : State} (hz : Keeps z0 s) : Keeps z0 (State.resetBlocks s) := by
  unfold State.resetBlocks
  extract_lets off0 s0 s1
  have k1 : Keeps z0 s1 := State.forEach_keeps (State.put_keeps (State.put_keeps (State.put_keeps (State.resetRegs_keeps (State.when_keeps hz fun t =>
    State.emit_keeps (State.emit_keeps (Keeps.refl t))))))) fun p t => State.put_keeps (Keeps.refl t)
  clear_value s1
  exact State.put_keeps (Keeps.tables k1 id (fun _ => rfl) id (fun _ => rfl) id)

theorem State.railGood_keeps {z0 : State} {s : State} (hz : Keeps z0 s) : Keeps z0 (State.railGood s) := by
  unfold State.railGood
  simp (maxDischargeDepth := 60) only [hz, ↓State.put_keeps]

theorem State.setRail_keeps {z0 : State} {i st : Nat} {s : State} (hz : Keeps z0 s) : Keeps z0 (State.setRail i st s) := by
  unfold State.setRail
  simp (maxDischargeDepth := 60) only [hz, ↓State.put_keeps, ↓State.railGood_keeps]

theorem State.enableRail_keeps {z0 : State} {i : Nat} {s : State} (hz : Keeps z0 s) : Keeps z0 (State.enableRail i s) := by
  unfold State.enableRail
  simp (maxDischargeDepth := 60) only [hz, ↓Keeps.ite, ↓Keeps.upd, le_refl, ↓State.setRail_keeps]

theorem State.sendMargin_keeps {z0 : State} {i k : Nat} {s : State} (hz : Keeps z0 s) : Keeps z0 (State.sendMargin i k s) := by
  unfold State.sendMargin
  simp (maxDischargeDepth := 60) only [hz, Keeps.refl, implies_true, ↓State.emit_keeps, ↓State.when_keeps]

theorem State.startRampUp_keeps {z0 : State} {s : State} (hz : Keeps z0 s) : Keeps z0 (State.startRampUp s) := by
  unfold State.startRampUp
  simp (maxDischargeDepth := 60) only [hz, ↓Keeps.upd, Keeps.refl, implies_true, le_refl, ↓State.bump_keeps, ↓State.enableRail_keeps,
    ↓State.forEach_keeps, ↓State.put_keeps, ↓State.sendMargin_keeps, ↓State.setMode_keeps]

theorem State.dropCollector_keeps {z0 : State} {s : State} (hz : Keeps z0 s) : Keeps z0 (State.dropCollector s) := by
  unfold State.dropCollector
  simp (maxDischargeDepth := 60) only [hz, ↓Keeps.upd, le_refl, Nat.zero_le, List.length_nil]

theorem State.setThermLatch_keeps {z0 : State} {s : State} (hz : Keeps z0 s) : Keeps z0 (State.setThermLatch s) := by
  unfold State.setThermLatch
  simp (maxDischargeDepth := 60) only [hz, ↓Keeps.upd, le_refl, ↓State.put_keeps]

theorem State.wakeDormant_keeps {z0 : State} {s : State} (hz : Keeps z0 s) : Keeps z0 (State.wakeDormant s) := by
  unfold State.wakeDormant
  simp (maxDischargeDepth := 60) only [hz, ↓Keeps.ite, ↓State.setMode_keeps]

theorem State.enterWatch_keeps {z0 : State} {s : State} (hz : Keeps z0 s) : Keeps z0 (State.enterWatch s) := by
  unfold State.enterWatch
  simp (maxDischargeDepth := 60) only [hz, ↓Keeps.upd, le_refl, ↓State.dropCollector_keeps, ↓State.put_keeps, ↓State.resetBlocks_keeps,
    ↓State.setMode_keeps]

theorem State.endRampDown_keeps {z0 : State} {s : State} (hz : Keeps z0 s) : Keeps z0 (State.endRampDown s) := by
  unfold State.endRampDown
  split <;> simp (maxDischargeDepth := 60) only [hz, ↓Keeps.upd, le_refl, ↓State.dropCollector_keeps, ↓State.enterWatch_keeps, ↓State.put_keeps,
    ↓State.raise_keeps, ↓State.resetBlocks_keeps]

theorem State.disableNext_keeps {z0 : State} {s : State} (hz : Keeps z0 s) : Keeps z0 (State.disableNext s) := by
  unfold State.disableNext
  split <;> simp (maxDischargeDepth := 60) only [hz, ↓Keeps.upd, le_refl, ↓State.endRampDown_keeps, ↓State.setRail_keeps]

theorem State.openGuestSwitch_keeps {z0 : State} {s : State} (hz : Keeps z0 s) : Keeps z0 (State.openGuestSwitch s) := by
  unfold State.openGuestSwitch
  simp (maxDischargeDepth := 60) only [hz, ↓Keeps.ite, ↓State.emit_keeps, ↓State.put_keeps]

theorem State.rampDown_keeps {z0 : State} {after : Nat} {s : State} (hz : Keeps z0 s) : Keeps z0 (State.rampDown after s) := by
  unfold State.rampDown
  simp (maxDischargeDepth := 60) only [hz, ↓Keeps.upd, le_refl, ↓State.disableNext_keeps, ↓State.openGuestSwitch_keeps, ↓State.put_keeps,
    ↓State.setMode_keeps]

theorem State.railsDrop_keeps {z0 : State} {s : State} (hz : Keeps z0 s) : Keeps z0 (State.railsDrop s) := by
  unfold State.railsDrop
  simp (maxDischargeDepth := 60) only [hz, Keeps.refl, implies_true, ↓State.forEach_keeps, ↓State.put_keeps, ↓State.railGood_keeps]

theorem State.wakeStepFailed_keeps {z0 : State} {step idx : Nat} {s : State} (hz : Keeps z0 s) : Keeps z0 (State.wakeStepFailed step idx s) := by
  unfold State.wakeStepFailed
  simp (maxDischargeDepth := 60) only [hz, ↓State.put_keeps, ↓State.raise_keeps, ↓State.rampDown_keeps]

theorem State.startMap_keeps {z0 : State} {base : Nat} {s : State} (hz : Keeps z0 s) : Keeps z0 (State.startMap base s) := by
  unfold State.startMap
  simp (maxDischargeDepth := 60) only [hz, ↓Keeps.upd, le_refl, ↓State.put_keeps]

theorem State.beginMap_keeps {z0 : State} {s : State} (hz : Keeps z0 s) : Keeps z0 (State.beginMap s) := by
  unfold State.beginMap
  simp (maxDischargeDepth := 60) only [hz, ↓State.startMap_keeps]

theorem State.clearMap_keeps {z0 : State} {s : State} (hz : Keeps z0 s) : Keeps z0 (State.clearMap s) := by
  unfold State.clearMap
  simp (maxDischargeDepth := 60) only [hz, ↓Keeps.upd, le_refl, ↓State.put_keeps]

theorem State.dropLinkKey_keeps {z0 : State} {s : State} (hz : Keeps z0 s) : Keeps z0 (State.dropLinkKey s) := by
  unfold State.dropLinkKey
  split
  · exact hz.upd
  · exact Keeps.tables (Keeps.ite (State.beginMap_keeps hz) hz) id id id (Sparse.wf_filterMap (fun m : LineMeta => { m with pend := 0 })) id

theorem State.showFence_keeps {z0 : State} {s : State} (hz : Keeps z0 s) : Keeps z0 (State.showFence s) := by
  unfold State.showFence
  simp (maxDischargeDepth := 60) only [hz, ↓State.put_keeps, ↓State.syncDur_keeps]

theorem State.setFence_keeps {z0 : State} {cause : Nat} {s : State} (hz : Keeps z0 s) : Keeps z0 (State.setFence cause s) := by
  unfold State.setFence
  try dsimp only
  (repeat' split) <;> simp (maxDischargeDepth := 60) only [hz, ↓Keeps.upd, Keeps.refl, implies_true, le_refl, ↓State.beginMap_keeps,
    ↓State.dropLinkKey_keeps, ↓State.raise_keeps, ↓State.showFence_keeps, ↓State.when_keeps]

theorem State.endFence_keeps {z0 : State} {cause : Nat} {s : State} (hz : Keeps z0 s) : Keeps z0 (State.endFence cause s) := by
  unfold State.endFence
  try dsimp only
  (repeat' split) <;> simp (maxDischargeDepth := 60) only [hz, ↓Keeps.upd, le_refl, ↓State.endCond_keeps, ↓State.showFence_keeps]

theorem State.loadStored_keeps {z0 : State} {s : State} (hz : Keeps z0 s) : Keeps z0 (State.loadStored s) := by
  unfold State.loadStored
  simp (maxDischargeDepth := 60) only [hz, ↓Keeps.ite, ↓Keeps.upd, Keeps.refl, implies_true, le_refl, ↓State.forEach_keeps, ↓State.put_keeps]

theorem State.checkConfig_keeps {z0 : State} {s : State} (hz : Keeps z0 s) : Keeps z0 (State.checkConfig s) := by
  unfold State.checkConfig
  simp (maxDischargeDepth := 60) only [hz, Keeps.refl, implies_true, ↓State.raise_keeps, ↓State.when_keeps]

theorem State.releaseClaim_keeps {z0 : State} {s : State} (hz : Keeps z0 s) : Keeps z0 (State.releaseClaim s) := by
  unfold State.releaseClaim
  simp (maxDischargeDepth := 60) only [hz, ↓Keeps.ite, ↓Keeps.upd, le_refl, ↓State.sendFrame_keeps]

theorem State.abandonAssay_keeps {z0 : State} {s : State} (hz : Keeps z0 s) : Keeps z0 (State.abandonAssay s) := by
  unfold State.abandonAssay
  simp (maxDischargeDepth := 60) only [hz, ↓Keeps.ite, ↓Keeps.upd, Keeps.refl, implies_true, le_refl, ↓State.emit_keeps, ↓State.put_keeps,
    ↓State.releaseClaim_keeps, ↓State.when_keeps]

theorem State.enterBringup_keeps {z0 : State} {reset returning : Bool} {s : State} (hz : Keeps z0 s)
    : Keeps z0 (State.enterBringup reset returning s) := by
  unfold State.enterBringup
  simp (maxDischargeDepth := 60) only [hz, ↓Keeps.ite, ↓Keeps.upd, Keeps.refl, implies_true, le_refl, ↓State.abandonAssay_keeps,
    ↓State.changeSplits_keeps, ↓State.checkConfig_keeps, ↓State.loadConfig_keeps, ↓State.loadStored_keeps, ↓State.put_keeps,
      ↓State.resetBlocks_keeps, ↓State.selectConfig_keeps, ↓State.setMode_keeps, ↓State.startUnits_keeps, ↓State.when_keeps]

theorem State.stopKeyStore_keeps {z0 : State} {s : State} (hz : Keeps z0 s) : Keeps z0 (State.stopKeyStore s) := by
  unfold State.stopKeyStore
  simp (maxDischargeDepth := 60) only [hz, ↓Keeps.upd, le_refl]

theorem State.beginImage_keeps {z0 : State} {s : State} (hz : Keeps z0 s) : Keeps z0 (State.beginImage s) := by
  unfold State.beginImage
  simp (maxDischargeDepth := 60) only [hz, ↓Keeps.upd, le_refl, ↓State.put_keeps]

theorem State.saveRanks_keeps {z0 : State} {s : State} (hz : Keeps z0 s) : Keeps z0 (State.saveRanks s) := by
  unfold State.saveRanks
  simp (maxDischargeDepth := 60) only [hz, ↓Keeps.upd, le_refl]

theorem State.noteCursor_keeps {z0 : State} {s : State} (hz : Keeps z0 s) : Keeps z0 (State.noteCursor s) := by
  unfold State.noteCursor
  simp (maxDischargeDepth := 60) only [hz, ↓Keeps.upd, le_refl]

theorem State.enterSave_keeps {z0 : State} {cause : Nat} {s : State} (hz : Keeps z0 s) : Keeps z0 (State.enterSave cause s) := by
  unfold State.enterSave
  simp (maxDischargeDepth := 60) only [hz, ↓Keeps.ite, ↓Keeps.upd, Keeps.refl, implies_true, le_refl, ↓State.abandonAssay_keeps,
    ↓State.beginImage_keeps, ↓State.beginMap_keeps, ↓State.ethDrop_keeps, ↓State.forEach_keeps, ↓State.guestSave_keeps, ↓State.noteCursor_keeps,
      ↓State.put_keeps, ↓State.raise_keeps, ↓State.saveRanks_keeps, ↓State.setMode_keeps, ↓State.setPath_keeps, ↓State.stopKeyStore_keeps,
      ↓State.stopSliceRemap_keeps, ↓State.when_keeps]

theorem State.enterQuarantine_keeps {z0 : State} {s : State} (hz : Keeps z0 s) : Keeps z0 (State.enterQuarantine s) := by
  unfold State.enterQuarantine
  simp (maxDischargeDepth := 60) only [hz, ↓Keeps.ite, ↓Keeps.upd, le_refl, ↓State.put_keeps, ↓State.setMode_keeps]

theorem State.skipSave_keeps {z0 : State} {s : State} (hz : Keeps z0 s) : Keeps z0 (State.skipSave s) := by
  unfold State.skipSave
  simp (maxDischargeDepth := 60) only [hz, ↓State.abandonAssay_keeps, ↓State.raise_keeps, ↓State.rampDown_keeps]

theorem State.noRetry_keeps {z0 : State} {s : State} (hz : Keeps z0 s) : Keeps z0 (State.noRetry s) := by
  unfold State.noRetry
  simp (maxDischargeDepth := 60) only [hz, ↓Keeps.ite, ↓Keeps.upd, le_refl]

theorem State.powerFail_keeps {z0 : State} {s : State} (hz : Keeps z0 s) : Keeps z0 (State.powerFail s) := by
  unfold State.powerFail
  split <;> simp (maxDischargeDepth := 60) only [hz, ↓Keeps.ite, ↓State.abandonAssay_keeps, ↓State.enterSave_keeps, ↓State.noRetry_keeps,
    ↓State.rampDown_keeps, ↓State.skipSave_keeps]

theorem State.thermalShutdown_keeps {z0 : State} {s : State} (hz : Keeps z0 s) : Keeps z0 (State.thermalShutdown s) := by
  unfold State.thermalShutdown
  split <;> simp (maxDischargeDepth := 60) only [hz, ↓Keeps.ite, ↓State.abandonAssay_keeps, ↓State.enterSave_keeps, ↓State.noRetry_keeps,
    ↓State.rampDown_keeps, ↓State.setThermLatch_keeps, ↓State.skipSave_keeps]

theorem State.chipReaction_keeps {z0 : State} {s : State} (hz : Keeps z0 s) : Keeps z0 (State.chipReaction s) := by
  unfold State.chipReaction
  split <;> simp (maxDischargeDepth := 60) only [hz, ↓Keeps.ite, ↓Keeps.upd, le_refl, ↓State.enterBringup_keeps, ↓State.enterQuarantine_keeps,
    ↓State.enterSave_keeps, ↓State.setFence_keeps, ↓State.wakeStepFailed_keeps]

theorem State.unitLost_keeps {z0 : State} {u : Nat} {s : State} (hz : Keeps z0 s) : Keeps z0 (State.unitLost u s) := by
  unfold State.unitLost
  try dsimp only
  (repeat' split) <;> simp (maxDischargeDepth := 60) only [hz, ↓Keeps.upd, le_refl, ↓State.abandonAssay_keeps, ↓State.enterQuarantine_keeps,
    ↓State.guestLost_keeps, ↓State.rampDown_keeps, ↓State.serdesLost_keeps, ↓State.wakeStepFailed_keeps]

theorem State.enterPrepare_keeps {z0 : State} {s : State} (hz : Keeps z0 s) : Keeps z0 (State.enterPrepare s) := by
  unfold State.enterPrepare
  simp (maxDischargeDepth := 60) only [hz, ↓Keeps.upd, le_refl, ↓State.put_keeps, ↓State.sluice_keeps]

theorem State.tryAssay_keeps {z0 : State} {s : State} (hz : Keeps z0 s) : Keeps z0 (State.tryAssay s) := by
  unfold State.tryAssay
  simp (maxDischargeDepth := 60) only [hz, ↓Keeps.ite, ↓Keeps.upd, le_refl, ↓State.enterPrepare_keeps, ↓State.sendFrame_keeps]

theorem State.twinAssay_keeps {z0 : State} {claim : Bool} {s : State} (hz : Keeps z0 s) : Keeps z0 (State.twinAssay claim s) := by
  unfold State.twinAssay
  simp (maxDischargeDepth := 60) only [hz, ↓Keeps.ite, ↓Keeps.upd, le_refl, ↓State.releaseClaim_keeps, ↓State.tryAssay_keeps]

theorem State.assayDischarge_keeps {z0 : State} {s : State} (hz : Keeps z0 s) : Keeps z0 (State.assayDischarge s) := by
  unfold State.assayDischarge
  split <;> simp (maxDischargeDepth := 60) only [hz, ↓Keeps.ite, ↓Keeps.upd, le_refl, ↓State.emit_keeps, ↓State.put_keeps]

theorem State.rejectAssay_keeps {z0 : State} {result : Nat} {s : State} (hz : Keeps z0 s) : Keeps z0 (State.rejectAssay result s) := by
  unfold State.rejectAssay
  simp (maxDischargeDepth := 60) only [hz, ↓Keeps.ite, ↓Keeps.upd, le_refl, ↓State.put_keeps, ↓State.raise_keeps]

theorem State.assayRelax_keeps {z0 : State} {s : State} (hz : Keeps z0 s) : Keeps z0 (State.assayRelax s) := by
  unfold State.assayRelax
  simp (maxDischargeDepth := 60) only [hz, ↓Keeps.upd, le_refl, ↓State.emit_keeps, ↓State.put_keeps]

theorem State.acceptAssay_keeps {z0 : State} {c esr energy : Nat} {degraded : Bool} {s : State} (hz : Keeps z0 s)
    : Keeps z0 (State.acceptAssay c esr energy degraded s) := by
  unfold State.acceptAssay
  simp (maxDischargeDepth := 60) only [hz, ↓Keeps.upd, Keeps.refl, implies_true, le_refl, ↓State.bump_keeps, ↓State.put_keeps, ↓State.raise_keeps,
    ↓State.recomputeFreeboard_keeps, ↓State.when_keeps]

theorem State.evaluateAssay_keeps {z0 : State} {s : State} (hz : Keeps z0 s) : Keeps z0 (State.evaluateAssay s) := by
  unfold State.evaluateAssay
  simp (maxDischargeDepth := 60) only [hz, ↓Keeps.ite, ↓Keeps.upd, le_refl, ↓State.acceptAssay_keeps, ↓State.put_keeps, ↓State.rejectAssay_keeps]

theorem State.endAssay_keeps {z0 : State} {s : State} (hz : Keeps z0 s) : Keeps z0 (State.endAssay s) := by
  unfold State.endAssay
  simp (maxDischargeDepth := 60) only [hz, ↓Keeps.upd, le_refl, ↓State.put_keeps, ↓State.releaseClaim_keeps, ↓State.sluice_keeps]

theorem State.replaceReadings_keeps {z0 : State} {s : State} (hz : Keeps z0 s) : Keeps z0 (State.replaceReadings s) := by
  unfold State.replaceReadings
  simp (maxDischargeDepth := 60) only [hz, Keeps.refl, implies_true, ↓State.forEach_keeps, ↓State.put_keeps]

theorem State.throttleSets_keeps {z0 : State} {s : State} (hz : Keeps z0 s) : Keeps z0 (State.throttleSets s) := by
  unfold State.throttleSets
  simp (maxDischargeDepth := 60) only [hz, ↓Keeps.ite, ↓State.bump_keeps, ↓State.noteLoad_keeps, ↓State.notice_keeps, ↓State.put_keeps,
    ↓State.raiseThreshold_keeps, ↓State.recordAll_keeps]

theorem State.throttleClears_keeps {z0 : State} {s : State} (hz : Keeps z0 s) : Keeps z0 (State.throttleClears s) := by
  unfold State.throttleClears
  simp (maxDischargeDepth := 60) only [hz, ↓State.endCond_keeps, ↓State.noteLoad_keeps, ↓State.notice_keeps, ↓State.put_keeps, ↓State.recordAll_keeps]

theorem State.judgeThermal_keeps {z0 : State} {s : State} (hz : Keeps z0 s) : Keeps z0 (State.judgeThermal s) := by
  unfold State.judgeThermal
  split <;> simp (maxDischargeDepth := 60) only [hz, ↓Keeps.ite, ↓State.endCond_keeps, ↓State.noteLoad_keeps, ↓State.put_keeps,
    ↓State.raiseThreshold_keeps, ↓State.thermalShutdown_keeps, ↓State.throttleClears_keeps, ↓State.throttleSets_keeps]

theorem State.cmdRefused_keeps {z0 : State} {cmd : Nat} {s : State} (hz : Keeps z0 s) : Keeps z0 (State.cmdRefused cmd s) := by
  unfold State.cmdRefused
  simp (maxDischargeDepth := 60) only [hz, ↓State.put_keeps, ↓State.raise_keeps]

theorem State.rampAccepted_keeps {z0 : State} {s : State} (hz : Keeps z0 s) : Keeps z0 (State.rampAccepted s) := by
  unfold State.rampAccepted
  simp (maxDischargeDepth := 60) only [hz, ↓Keeps.ite, ↓Keeps.upd, le_refl, ↓State.endCond_keeps, ↓State.put_keeps, ↓State.settleLatch_keeps,
    ↓State.startRampUp_keeps]

theorem State.rampCommand_keeps {z0 : State} {s : State} (hz : Keeps z0 s) : Keeps z0 (State.rampCommand s) := by
  unfold State.rampCommand
  simp (maxDischargeDepth := 60) only [hz, ↓Keeps.ite, ↓Keeps.upd, le_refl, ↓State.cmdRefused_keeps, ↓State.raise_keeps, ↓State.rampAccepted_keeps]

theorem State.autoRamp_keeps {z0 : State} {s : State} (hz : Keeps z0 s) : Keeps z0 (State.autoRamp s) := by
  unfold State.autoRamp
  simp (maxDischargeDepth := 60) only [hz, ↓Keeps.ite, ↓State.rampAccepted_keeps]

theorem State.runOf_keeps {z0 : State} {key : Nat} {holds : Bool} {s : State} (hz : Keeps z0 s) : Keeps z0 (State.runOf key holds s) := by
  unfold State.runOf
  simp (maxDischargeDepth := 60) only [hz, ↓Keeps.upd, le_refl]

theorem State.railConversion_keeps {z0 : State} {i uv : Nat} {ranged : Bool} {s : State} (hz : Keeps z0 s)
    : Keeps z0 (State.railConversion i uv ranged s) := by
  unfold State.railConversion
  simp (maxDischargeDepth := 60) only [hz, ↓Keeps.ite, ↓Keeps.upd, le_refl, ↓State.endCond_keeps, ↓State.raiseThreshold_keeps, ↓State.runOf_keeps,
    ↓State.setRail_keeps]

theorem State.vauxConversion_keeps {z0 : State} {mv : Nat} {ranged : Bool} {s : State} (hz : Keeps z0 s)
    : Keeps z0 (State.vauxConversion mv ranged s) := by
  unfold State.vauxConversion
  simp (maxDischargeDepth := 60) only [hz, ↓Keeps.ite, ↓State.endCond_keeps, ↓State.raise_keeps, ↓State.runOf_keeps]

theorem State.railBack_keeps {z0 : State} {i : Nat} {s : State} (hz : Keeps z0 s) : Keeps z0 (State.railBack i s) := by
  unfold State.railBack
  simp (maxDischargeDepth := 60) only [hz, ↓Keeps.ite, ↓Keeps.upd, le_refl, ↓State.endCond_keeps, ↓State.setRail_keeps]

theorem State.setQp_keeps {z0 : State} {key : Nat} {p : Qp} {s : State} (hz : Keeps z0 s) : Keeps z0 (State.setQp key p s) := by
  unfold State.setQp
  simp (maxDischargeDepth := 60) only [hz, ↓Keeps.upd, le_refl, ↓State.put_keeps]

theorem State.qpSend_keeps {z0 : State} {p : Qp} {via : Nat} {m : RdmaMsg} {s : State} (hz : Keeps z0 s) : Keeps z0 (State.qpSend p via m s) := by
  unfold State.qpSend
  simp (maxDischargeDepth := 60) only [hz, ↓State.sendHost_keeps]

theorem State.reapQueues_keeps {z0 : State} {s : State} (hz : Keeps z0 s) : Keeps z0 (State.reapQueues s) := by
  unfold State.reapQueues
  simp (maxDischargeDepth := 60) only [hz, ↓Keeps.upd, Keeps.refl, implies_true, le_refl, ↓State.forEach_keeps]

end Sys2Proof.Machine
end

