-- ==== Sys2Proof/Laws/KeepParts.lean ====
section
/-! SUPPORT. What `Keeps` says, of the other operations, of what follows a command (`State.settle`), and of the parts of the commands of the later families. -/

namespace Sys2Proof.Machine

open Sys2Proof

set_option Elab.async false

theorem State.freeQp_keeps {z0 : State} {key : Nat} {s : State} (hz : Keeps z0 s) : Keeps z0 (State.freeQp key s) := by
  unfold State.freeQp
  simp (maxDischargeDepth := 60) only [hz, ↓Keeps.ite, ↓Keeps.upd, le_refl, ↓State.destroyQueue_keeps, ↓State.reapQueues_keeps, ↓State.setQp_keeps]

theorem State.qpError_keeps {z0 : State} {key via psn code : Nat} {s : State} (hz : Keeps z0 s) : Keeps z0 (State.qpError key via psn code s) := by
  unfold State.qpError
  simp (maxDischargeDepth := 60) only [hz, ↓Keeps.ite, ↓State.destroyQueue_keeps, ↓State.qpSend_keeps, ↓State.reapQueues_keeps, ↓State.setQp_keeps]

theorem State.sendRecords_keeps {z0 : State} {key : Nat} {s : State} (hz : Keeps z0 s) : Keeps z0 (State.sendRecords key s) := by
  unfold State.sendRecords
  simp (maxDischargeDepth := 60) only [hz, ↓Keeps.ite, ↓State.qpSend_keeps, ↓State.setQp_keeps, ↓State.setQueue_keeps]

theorem State.resendSends_keeps {z0 : State} {s : State} (hz : Keeps z0 s) : Keeps z0 (State.resendSends s) := by
  unfold State.resendSends
  simp (maxDischargeDepth := 60) only [hz, Keeps.refl, implies_true, ↓State.forEach_keeps, ↓State.qpSend_keeps]

theorem State.sendFull_keeps {z0 : State} {s : State} (hz : Keeps z0 s) : Keeps z0 (State.sendFull s) := by
  unfold State.sendFull
  simp (maxDischargeDepth := 60) only [hz, ↓Keeps.ite, Keeps.refl, implies_true, ↓State.forEach_keeps, ↓State.sendRecords_keeps]

theorem State.touchQp_keeps {z0 : State} {key : Nat} {s : State} (hz : Keeps z0 s) : Keeps z0 (State.touchQp key s) := by
  unfold State.touchQp
  simp (maxDischargeDepth := 60) only [hz, ↓Keeps.upd, le_refl]

theorem State.cacheQp_keeps {z0 : State} {key : Nat} {s : State} (hz : Keeps z0 s) : Keeps z0 (State.cacheQp key s) := by
  unfold State.cacheQp
  simp (maxDischargeDepth := 60) only [hz, ↓Keeps.ite, ↓Keeps.upd, le_refl, ↓State.draw_keeps, ↓State.touchQp_keeps]

theorem State.writeBytes_keeps {z0 : State} {key psn : Nat} {b : Binding} {a : Nat} {bytes : List Byte} {sram : List Nat} {s : State} (hz
    : Keeps z0 s) : Keeps z0 (State.writeBytes key psn b a bytes sram s) := by
  unfold State.writeBytes
  simp (maxDischargeDepth := 60) only [hz, Keeps.refl, implies_true, ↓State.forEach_keeps, ↓State.presentWrite_keeps]

theorem State.rdmaRefused_keeps {z0 : State} {key via psn chk va : Nat} {s : State} (hz : Keeps z0 s)
    : Keeps z0 (State.rdmaRefused key via psn chk va s) := by
  unfold State.rdmaRefused
  simp (maxDischargeDepth := 60) only [hz, ↓State.qpError_keeps, ↓State.refuse_keeps]

theorem State.rdmaWrite_keeps {z0 : State} {p : Qp} {k : RdmaPkt} {first last : Bool} {va rkey len : Nat} {bytes : List Byte} {s : State}
    (hz : Keeps z0 s) : Keeps z0 (State.rdmaWrite p k first last va rkey len bytes s) := by
  unfold State.rdmaWrite
  simp (maxDischargeDepth := 60) only [hz, ↓Keeps.ite, ↓State.qpError_keeps, ↓State.rdmaRefused_keeps, ↓State.setQp_keeps, ↓State.writeBytes_keeps]

theorem State.rdmaRead_keeps {z0 : State} {p : Qp} {k : RdmaPkt} {va rkey len : Nat} {s : State} (hz : Keeps z0 s)
    : Keeps z0 (State.rdmaRead p k va rkey len s) := by
  unfold State.rdmaRead
  simp (maxDischargeDepth := 60) only [hz, ↓Keeps.ite, Keeps.refl, implies_true, ↓State.forEach_keeps, ↓State.presentRead_keeps,
    ↓State.qpError_keeps, ↓State.rdmaRefused_keeps, ↓State.setQp_keeps]

theorem State.rdmaAtomic_keeps {z0 : State} {p : Qp} {k : RdmaPkt} {swap : Bool} {va rkey add compare : Nat} {s : State} (hz : Keeps z0 s)
    : Keeps z0 (State.rdmaAtomic p k swap va rkey add compare s) := by
  unfold State.rdmaAtomic
  simp (maxDischargeDepth := 60) only [hz, ↓Keeps.ite, ↓State.presentWrite_keeps, ↓State.qpError_keeps, ↓State.rdmaRefused_keeps, ↓State.setQp_keeps]

theorem State.cqpSend_keeps {z0 : State} {p : Qp} {k : RdmaPkt} {len : Nat} {ds : List (BitVec 512)} {s : State} (hz : Keeps z0 s)
    : Keeps z0 (State.cqpSend p k len ds s) := by
  unfold State.cqpSend
  simp (maxDischargeDepth := 60) only [hz, ↓Keeps.ite, ↓Keeps.ite_fst, ↓State.fetchAll_keeps, ↓State.qpError_keeps, ↓State.qpSend_keeps,
    ↓State.setQp_keeps, ↓State.setQueue_keeps]

theorem State.unsupported_keeps {z0 : State} {k : RdmaPkt} {s : State} (hz : Keeps z0 s) : Keeps z0 (State.unsupported k s) := by
  unfold State.unsupported
  simp (maxDischargeDepth := 60) only [hz, ↓State.qpError_keeps, ↓State.raiseLimited_keeps]

theorem State.duplicatePacket_keeps {z0 : State} {p : Qp} {k : RdmaPkt} {s : State} (hz : Keeps z0 s) : Keeps z0 (State.duplicatePacket p k s) := by
  unfold State.duplicatePacket
  try dsimp only
  (repeat' split) <;> simp (maxDischargeDepth := 60) only [hz, ↓State.qpSend_keeps, ↓State.rdmaRead_keeps, ↓State.setQp_keeps]

theorem State.answerCe_keeps {z0 : State} {k : RdmaPkt} {s : State} (hz : Keeps z0 s) : Keeps z0 (State.answerCe k s) := by
  unfold State.answerCe
  simp (maxDischargeDepth := 60) only [hz, ↓Keeps.ite, ↓State.bump_keeps, ↓State.qpSend_keeps, ↓State.setQp_keeps]

theorem State.servePacket_keeps {z0 : State} {k : RdmaPkt} {s : State} (hz : Keeps z0 s) : Keeps z0 (State.servePacket k s) := by
  unfold State.servePacket
  try dsimp only
  (repeat' split) <;> simp (maxDischargeDepth := 60) only [hz, ↓State.answerCe_keeps, ↓State.cqpSend_keeps, ↓State.duplicatePacket_keeps,
    ↓State.qpSend_keeps, ↓State.rdmaAtomic_keeps, ↓State.rdmaRead_keeps, ↓State.rdmaWrite_keeps, ↓State.setQp_keeps, ↓State.unsupported_keeps]

theorem State.missQp_keeps {z0 : State} {key : Nat} {k : RdmaPkt} {s : State} (hz : Keeps z0 s) : Keeps z0 (State.missQp key k s) := by
  unfold State.missQp
  simp (maxDischargeDepth := 60) only [hz, ↓Keeps.ite, ↓Keeps.upd, le_refl]

theorem State.retryMisses_keeps {z0 : State} {s : State} (hz : Keeps z0 s) : Keeps z0 (State.retryMisses s) := by
  unfold State.retryMisses
  simp (maxDischargeDepth := 60) only [hz, ↓Keeps.ite, ↓Keeps.upd, Keeps.refl, implies_true, le_refl, ↓State.forEach_keeps, ↓State.missQp_keeps,
    ↓State.servePacket_keeps]

theorem State.takePacket_keeps {z0 : State} {k : RdmaPkt} {s : State} (hz : Keeps z0 s) : Keeps z0 (State.takePacket k s) := by
  unfold State.takePacket
  split <;> simp (maxDischargeDepth := 60) only [hz, ↓Keeps.ite, ↓Keeps.upd, le_refl, ↓State.bump_keeps, ↓State.missQp_keeps,
    ↓State.raiseLimited_keeps, ↓State.sendHost_keeps, ↓State.servePacket_keeps, ↓State.touchQp_keeps]

theorem State.takeParked_keeps {z0 : State} {s : State} (hz : Keeps z0 s) : Keeps z0 (State.takeParked s) := by
  unfold State.takeParked
  simp (maxDischargeDepth := 60) only [hz, ↓Keeps.upd, Keeps.refl, implies_true, le_refl, ↓State.forEach_keeps, ↓State.takePacket_keeps]

theorem State.dataPathNotice_keeps {z0 : State} {key psn status : Nat} {s : State} (hz : Keeps z0 s)
    : Keeps z0 (State.dataPathNotice key psn status s) := by
  unfold State.dataPathNotice
  simp (maxDischargeDepth := 60) only [hz, Keeps.refl, implies_true, ↓State.forEach_keeps, ↓State.noticeTo_keeps]

theorem State.answerNak_keeps {z0 : State} {key psn status : Nat} {s : State} (hz : Keeps z0 s) : Keeps z0 (State.answerNak key psn status s) := by
  unfold State.answerNak
  simp (maxDischargeDepth := 60) only [hz, ↓Keeps.ite, ↓State.dataPathNotice_keeps, ↓State.qpError_keeps, ↓State.raise_keeps]

theorem State.collectReads_keeps {z0 : State} {s : State} (hz : Keeps z0 s) : Keeps z0 (State.collectReads s) := by
  unfold State.collectReads
  simp (maxDischargeDepth := 60) only [hz, ↓Keeps.upd, Keeps.refl, implies_true, le_refl, ↓State.forEach_keeps, ↓State.setQp_keeps]

theorem State.readResponses_keeps {z0 : State} {key : Nat} {p : Qp} {x : RdmaAns} {n : Nat} {s : State} (hz : Keeps z0 s)
    : Keeps z0 (State.readResponses key p x n s) := by
  unfold State.readResponses
  simp (maxDischargeDepth := 60) only [hz, Keeps.refl, implies_true, ↓State.forEach_keeps, ↓State.qpSend_keeps]

theorem State.sendAnswers_keeps {z0 : State} {fuel key : Nat} {s : State} (hz : Keeps z0 s) : Keeps z0 (State.sendAnswers fuel key s) := by
  induction fuel generalizing s with
  | zero => exact hz
  | succ f ih =>
    unfold State.sendAnswers
    dsimp only
    repeat' (first
      | exact hz
      | split
      | apply ih
      | apply State.setQp_keeps
      | apply State.readResponses_keeps
      | apply State.answerNak_keeps
      | apply State.qpSend_keeps
      | exact hz.upd)

theorem State.rdmaAnswers_keeps {z0 : State} {s : State} (hz : Keeps z0 s) : Keeps z0 (State.rdmaAnswers s) := by
  unfold State.rdmaAnswers
  simp (maxDischargeDepth := 60) only [hz, Keeps.refl, implies_true, ↓State.collectReads_keeps, ↓State.forEach_keeps, ↓State.sendAnswers_keeps]

theorem State.adoptAddresses_keeps {z0 : State} {s : State} (hz : Keeps z0 s) : Keeps z0 (State.adoptAddresses s) := by
  unfold State.adoptAddresses
  simp (maxDischargeDepth := 60) only [hz, ↓Keeps.upd, le_refl, ↓State.raise_keeps]

theorem State.releaseQps_keeps {z0 : State} {sd : Nat} {s : State} (hz : Keeps z0 s) : Keeps z0 (State.releaseQps sd s) := by
  unfold State.releaseQps
  simp (maxDischargeDepth := 60) only [hz, Keeps.refl, implies_true, ↓State.forEach_keeps, ↓State.freeQp_keeps]

theorem State.releaseAddresses_keeps {z0 : State} {s : State} (hz : Keeps z0 s) : Keeps z0 (State.releaseAddresses s) := by
  unfold State.releaseAddresses
  simp (maxDischargeDepth := 60) only [hz, ↓Keeps.ite, ↓Keeps.upd, le_refl, ↓State.raise_keeps, ↓State.releaseQps_keeps]

theorem State.resend_keeps {z0 : State} {seq : Nat} {s : State} (hz : Keeps z0 s) : Keeps z0 (State.resend seq s) := by
  unfold State.resend
  split <;> simp (maxDischargeDepth := 60) only [hz, Keeps.refl, implies_true, ↓State.bump_keeps, ↓State.emit_keeps, ↓State.forEach_keeps]

theorem State.sendControl_keeps {z0 : State} {p : Nat} {s : State} (hz : Keeps z0 s) : Keeps z0 (State.sendControl p s) := by
  unfold State.sendControl
  simp (maxDischargeDepth := 60) only [hz, ↓State.emit_keeps]

theorem State.sendHellos_keeps {z0 : State} {s : State} (hz : Keeps z0 s) : Keeps z0 (State.sendHellos s) := by
  unfold State.sendHellos
  simp (maxDischargeDepth := 60) only [hz, Keeps.refl, implies_true, ↓State.emit_keeps, ↓State.forEach_keeps]

theorem State.startHello_keeps {z0 : State} {s : State} (hz : Keeps z0 s) : Keeps z0 (State.startHello s) := by
  unfold State.startHello
  simp (maxDischargeDepth := 60) only [hz, ↓Keeps.ite, ↓Keeps.upd, le_refl, ↓State.drawWords_keeps, ↓State.sendHellos_keeps]

theorem State.witSend_keeps {z0 : State} {typ reason : Nat} {s : State} (hz : Keeps z0 s) : Keeps z0 (State.witSend typ reason s) := by
  unfold State.witSend
  simp (maxDischargeDepth := 60) only [hz, ↓Keeps.ite, ↓Keeps.upd, le_refl, ↓State.draw_keeps, ↓State.emit_keeps]

theorem State.request_keeps {z0 : State} {reason : Nat} {s : State} (hz : Keeps z0 s) : Keeps z0 (State.request reason s) := by
  unfold State.request
  simp (maxDischargeDepth := 60) only [hz, ↓Keeps.ite, ↓Keeps.upd, le_refl, ↓State.put_keeps, ↓State.raise_keeps, ↓State.witSend_keeps]

theorem State.endRequest_keeps {z0 : State} {reason : Nat} {s : State} (hz : Keeps z0 s) : Keeps z0 (State.endRequest reason s) := by
  unfold State.endRequest
  simp (maxDischargeDepth := 60) only [hz, ↓Keeps.ite, ↓Keeps.upd, le_refl, ↓State.put_keeps]

theorem State.twinHeard_keeps {z0 : State} {s : State} (hz : Keeps z0 s) : Keeps z0 (State.twinHeard s) := by
  unfold State.twinHeard
  simp (maxDischargeDepth := 60) only [hz, ↓Keeps.ite, ↓Keeps.upd, le_refl, ↓State.endCond_keeps, ↓State.endRequest_keeps, ↓State.put_keeps,
    ↓State.raise_keeps]

theorem State.dropCopy_keeps {z0 : State} {s : State} (hz : Keeps z0 s) : Keeps z0 (State.dropCopy s) := by
  unfold State.dropCopy
  simp (maxDischargeDepth := 60) only [hz, ↓Keeps.upd, le_refl, ↓State.endFence_keeps, ↓State.put_keeps]

theorem State.goAlone_keeps {z0 : State} {s : State} (hz : Keeps z0 s) : Keeps z0 (State.goAlone s) := by
  unfold State.goAlone
  simp (maxDischargeDepth := 60) only [hz, ↓State.beginMap_keeps, ↓State.dropCopy_keeps, ↓State.request_keeps, ↓State.setMode_keeps,
    ↓State.takeParked_keeps]

theorem State.loseTwin_keeps {z0 : State} {s : State} (hz : Keeps z0 s) : Keeps z0 (State.loseTwin s) := by
  unfold State.loseTwin
  try dsimp only
  (repeat' split) <;> simp (maxDischargeDepth := 60) only [hz, ↓Keeps.upd, Keeps.refl, implies_true, le_refl, ↓State.dropCopy_keeps,
    ↓State.dropLinkKey_keeps, ↓State.goAlone_keeps, ↓State.put_keeps, ↓State.raise_keeps, ↓State.setFence_keeps, ↓State.when_keeps]

theorem State.witnessHeard_keeps {z0 : State} {s : State} (hz : Keeps z0 s) : Keeps z0 (State.witnessHeard s) := by
  unfold State.witnessHeard
  simp (maxDischargeDepth := 60) only [hz, ↓Keeps.ite, ↓Keeps.upd, le_refl, ↓State.endCond_keeps, ↓State.put_keeps, ↓State.raise_keeps]

theorem State.loseWitness_keeps {z0 : State} {s : State} (hz : Keeps z0 s) : Keeps z0 (State.loseWitness s) := by
  unfold State.loseWitness
  simp (maxDischargeDepth := 60) only [hz, ↓Keeps.ite, Keeps.refl, implies_true, ↓State.put_keeps, ↓State.raise_keeps, ↓State.setFence_keeps,
    ↓State.when_keeps]

theorem State.authFailed_keeps {z0 : State} {p : Nat} {s : State} (hz : Keeps z0 s) : Keeps z0 (State.authFailed p s) := by
  unfold State.authFailed
  simp (maxDischargeDepth := 60) only [hz, ↓Keeps.ite, ↓State.bump_keeps, ↓State.pathLeaves_keeps, ↓State.raiseLimited_keeps, ↓State.setCwPath_keeps]

theorem State.applyEntry_keeps {z0 : State} {bg : Bool} {ver : Nat} {e : LineEntry} {s : State} (hz : Keeps z0 s)
    : Keeps z0 (State.applyEntry bg ver e s) := by
  unfold State.applyEntry
  simp (maxDischargeDepth := 60) only [hz, ↓Keeps.ite, ↓Keeps.upd, le_refl, ↓State.charge_keeps, ↓State.grant_keeps, ↓State.mapNote_keeps,
    ↓State.notePeak_keeps, ↓State.pageWrite_keeps, ↓State.setMeta_keeps, ↓State.storeLine_keeps]

theorem State.applyEntries_keeps {z0 : State} {bg : Bool} {seq : Nat} {es : List LineEntry} {s : State} (hz : Keeps z0 s)
    : Keeps z0 (State.applyEntries bg seq es s) := by
  unfold State.applyEntries
  simp (maxDischargeDepth := 60) only [hz, ↓Keeps.upd, Keeps.refl, implies_true, le_refl, ↓State.applyEntry_keeps, ↓State.forEach_keeps]

theorem State.markPage_keeps {z0 : State} {addr : Nat} {lost : Bool} {s : State} (hz : Keeps z0 s) : Keeps z0 (State.markPage addr lost s) := by
  unfold State.markPage
  simp (maxDischargeDepth := 60) only [hz, ↓Keeps.ite, ↓Keeps.upd, Keeps.refl, implies_true, le_refl, ↓State.forEach_keeps, ↓State.mapNote_keeps,
    ↓State.setMeta_keeps, ↓State.setTrans_keeps, ↓State.zeroLine_keeps]

theorem State.copiedRegion_keeps {z0 : State} {idx : Nat} {r : Region} {s : State} (hz : Keeps z0 s) : Keeps z0 (State.copiedRegion idx r s) := by
  unfold State.copiedRegion
  simp (maxDischargeDepth := 60) only [hz, ↓Keeps.ite, ↓State.applyRegion_keeps]

theorem State.setTemper_keeps {z0 : State} {t : Nat} {s : State} (hz : Keeps z0 s) : Keeps z0 (State.setTemper t s) := by
  unfold State.setTemper
  simp (maxDischargeDepth := 60) only [hz, ↓Keeps.ite, ↓State.put_keeps, ↓State.raise_keeps]

theorem State.changeTemper_keeps {z0 : State} {t : Nat} {s : State} (hz : Keeps z0 s) : Keeps z0 (State.changeTemper t s) := by
  unfold State.changeTemper
  simp (maxDischargeDepth := 60) only [hz, ↓Keeps.ite, ↓State.put_keeps, ↓State.raise_keeps]

theorem State.unpair_keeps {z0 : State} {s : State} (hz : Keeps z0 s) : Keeps z0 (State.unpair s) := by
  unfold State.unpair
  simp (maxDischargeDepth := 60) only [hz, ↓Keeps.ite, ↓Keeps.upd, Keeps.refl, implies_true, le_refl, ↓State.clearMap_keeps, ↓State.dropCopy_keeps,
    ↓State.dropLinkKey_keeps, ↓State.endRequest_keeps, ↓State.forEach_keeps, ↓State.put_keeps, ↓State.raise_keeps, ↓State.releasePages_keeps,
      ↓State.setMode_keeps, ↓State.setRegion_keeps, ↓State.setTrans_keeps]

theorem State.commitFrame_keeps {z0 : State} {own : Bool} {b : CwBody} {op : Option (Nat × Nat)} {s : State} (hz : Keeps z0 s)
    : Keeps z0 (State.commitFrame own b op s) := by
  unfold State.commitFrame
  split <;> simp (maxDischargeDepth := 60) only [hz, ↓Keeps.ite, ↓State.applyRecord_keeps, ↓State.applyRegion_keeps, ↓State.applyStaged_keeps,
    ↓State.applyTenant_keeps, ↓State.changeTemper_keeps, ↓State.copiedRegion_keeps, ↓State.copiedTenant_keeps, ↓State.unpair_keeps]

theorem State.commitNamed_keeps {z0 : State} {seqs : List Nat} {s : State} (hz : Keeps z0 s) : Keeps z0 (State.commitNamed seqs s) := by
  unfold State.commitNamed
  simp (maxDischargeDepth := 60) only [hz, ↓Keeps.upd, Keeps.refl, implies_true, le_refl, ↓State.commitFrame_keeps, ↓State.forEach_keeps]

theorem State.repairDone_keeps {z0 : State} {land : Nat → State → State} {id status : Nat} {s : State} (hz : Keeps z0 s)
    (hf : ∀ p t, Keeps t (land p t)) : Keeps z0 (s.repairDone land id status) := by
  unfold State.repairDone
  split
  · exact hz
  · dsimp only
    split
    · exact (State.raiseLimited_keeps (State.bump_keeps hz.upd)).trans (hf _ _)
    · exact (State.losePage_keeps hz.upd).trans (hf _ _)
    · refine Keeps.trans (State.setTrans_keeps (State.forEach_keeps hz.upd fun l t => ?_)) (hf _ _)
      exact State.zeroLine_keeps (State.setMeta_keeps (Keeps.refl t))

theorem State.deliverFrame_keeps {z0 : State} {land : Nat → State → State} {seq : Nat} {b : CwBody} {s : State} (hz : Keeps z0 s)
    (hf : ∀ p t, Keeps t (land p t)) : Keeps z0 (s.deliverFrame land seq b) := by
  unfold State.deliverFrame
  dsimp only
  split
  all_goals first
    | exact hz.upd
    | exact State.applyEntries_keeps hz
    | exact State.forEach_keeps hz fun e t => State.markPage_keeps (Keeps.refl t)
    | exact State.commitNamed_keeps hz
    | exact State.twinAssay_keeps hz
    | exact State.repairDone_keeps hz hf
    | exact State.raise_keeps (State.when_keeps (State.when_keeps hz.upd fun t => State.put_keeps (Keeps.refl t)) fun t => State.put_keeps (Keeps.refl t))

theorem State.deliver_keeps {z0 : State} {land : Nat → State → State} {n : Nat} {s : State} (hz : Keeps z0 s) (hf : ∀ p t, Keeps t (land p t)) :
    Keeps z0 (State.deliver land n s) := by
  induction n generalizing s with
  | zero => exact hz
  | succ n ih =>
    unfold State.deliver
    dsimp only
    split
    · exact hz
    · exact ih (State.deliverFrame_keeps (State.put_keeps hz.upd) hf)

theorem State.countFec_keeps {z0 : State} {p : Nat} {f : Fec} {s : State} (hz : Keeps z0 s) : Keeps z0 (State.countFec p f s) := by
  unfold State.countFec
  simp (maxDischargeDepth := 60) only [hz, ↓State.bump_keeps]

theorem State.receive_keeps {z0 : State} {land : Nat → State → State} {m : MirrorRx} {b : CwBody} {s : State} (hz : Keeps z0 s)
    (hf : ∀ p t, Keeps t (land p t)) : Keeps z0 (s.receive land m b) := by
  unfold State.receive
  extract_lets p c s1 s2
  have hc : Keeps z0 c := State.when_keeps hz fun t => State.countFec_keeps (Keeps.refl t)
  clear_value c
  split_ifs
  · exact hc
  · exact State.bump_keeps hc
  · exact State.authFailed_keeps hc
  · exact State.bump_keeps hc
  · exact State.authFailed_keeps hc
  · exact State.deliver_keeps (State.twinHeard_keeps hc).upd hf

theorem State.startCatchup_keeps {z0 : State} {s : State} (hz : Keeps z0 s) : Keeps z0 (State.startCatchup s) := by
  unfold State.startCatchup
  simp (maxDischargeDepth := 60) only [hz, ↓Keeps.upd, le_refl, ↓State.put_keeps, ↓State.raise_keeps, ↓State.sendFrame_keeps, ↓State.sendFrames_keeps]

theorem State.sendLinesBg_keeps {z0 : State} {ls : List Nat} {s : State} (hz : Keeps z0 s) : Keeps z0 (State.sendLinesBg ls s) := by
  unfold State.sendLinesBg
  simp (maxDischargeDepth := 60) only [hz, Keeps.refl, implies_true, ↓State.forEach_keeps, ↓State.sendFrame_keeps]

theorem State.copyPage_keeps {z0 : State} {p : Nat} {s : State} (hz : Keeps z0 s) : Keeps z0 (State.copyPage p s) := by
  unfold State.copyPage
  simp (maxDischargeDepth := 60) only [hz, ↓Keeps.ite, ↓State.sendFrame_keeps, ↓State.sendLinesBg_keeps]

theorem State.fillForCopy_keeps {z0 : State} {x : Nat} {s : State} (hz : Keeps z0 s) : Keeps z0 (State.fillForCopy x s) := by
  unfold State.fillForCopy
  simp (maxDischargeDepth := 60) only [hz, ↓Keeps.ite, Keeps.refl, implies_true, ↓State.forEach_keeps, ↓State.requestFill_keeps]

theorem State.copyExtent_keeps {z0 : State} {x : Nat} {s : State} (hz : Keeps z0 s) : Keeps z0 (State.copyExtent x s) := by
  unfold State.copyExtent
  simp (maxDischargeDepth := 60) only [hz, ↓Keeps.ite, ↓Keeps.upd, Keeps.refl, implies_true, le_refl, ↓State.copyPage_keeps,
    ↓State.fillForCopy_keeps, ↓State.forEach_keeps, ↓State.put_keeps]

theorem State.serveRepairs_keeps {z0 : State} {s : State} (hz : Keeps z0 s) : Keeps z0 (State.serveRepairs s) := by
  unfold State.serveRepairs
  simp (maxDischargeDepth := 60) only [hz, ↓Keeps.ite, ↓Keeps.upd, Keeps.refl, implies_true, le_refl, ↓State.forEach_keeps,
    ↓State.raiseLimited_keeps, ↓State.requestFill_keeps, ↓State.sendFrame_keeps, ↓State.sendLinesBg_keeps]

theorem State.announceHorizons_keeps {z0 : State} {s : State} (hz : Keeps z0 s) : Keeps z0 (State.announceHorizons s) := by
  unfold State.announceHorizons
  simp (maxDischargeDepth := 60) only [hz, Keeps.refl, implies_true, ↓State.forEach_keeps, ↓State.sendFrame_keeps, ↓State.setQueue_keeps]

theorem State.enterPaired_keeps {z0 : State} {s : State} (hz : Keeps z0 s) : Keeps z0 (State.enterPaired s) := by
  unfold State.enterPaired
  simp (maxDischargeDepth := 60) only [hz, ↓Keeps.upd, le_refl, ↓State.announceHorizons_keeps, ↓State.clearMap_keeps, ↓State.dropCopy_keeps,
    ↓State.put_keeps, ↓State.raise_keeps, ↓State.setMode_keeps]

theorem State.tryPaired_keeps {z0 : State} {s : State} (hz : Keeps z0 s) : Keeps z0 (State.tryPaired s) := by
  unfold State.tryPaired
  simp (maxDischargeDepth := 60) only [hz, ↓Keeps.ite, ↓State.enterPaired_keeps]

theorem State.commitAcked_keeps {z0 : State} {s : State} (hz : Keeps z0 s) : Keeps z0 (State.commitAcked s) := by
  unfold State.commitAcked
  simp (maxDischargeDepth := 60) only [hz, ↓Keeps.ite, ↓Keeps.upd, Keeps.refl, implies_true, le_refl, ↓State.commitFrame_keeps,
    ↓State.forEach_keeps, ↓State.sendFrame_keeps]

theorem State.commitTables_keeps {z0 : State} {s : State} (hz : Keeps z0 s) : Keeps z0 (State.commitTables s) := by
  unfold State.commitTables
  simp (maxDischargeDepth := 60) only [hz, ↓Keeps.ite, ↓Keeps.upd, Keeps.refl, implies_true, le_refl, ↓State.forEach_keeps, ↓State.put_keeps,
    ↓State.sendFrame_keeps]

theorem State.noteCopyDone_keeps {z0 : State} {s : State} (hz : Keeps z0 s) : Keeps z0 (State.noteCopyDone s) := by
  unfold State.noteCopyDone
  simp (maxDischargeDepth := 60) only [hz, ↓Keeps.ite, ↓Keeps.upd, le_refl, ↓State.raise_keeps]

theorem State.grantCredits_keeps {z0 : State} {s : State} (hz : Keeps z0 s) : Keeps z0 (State.grantCredits s) := by
  unfold State.grantCredits
  simp (maxDischargeDepth := 60) only [hz, ↓Keeps.ite, ↓Keeps.upd, le_refl]

theorem State.beginCutover_keeps {z0 : State} {s : State} (hz : Keeps z0 s) : Keeps z0 (State.beginCutover s) := by
  unfold State.beginCutover
  simp (maxDischargeDepth := 60) only [hz, ↓Keeps.ite, ↓Keeps.upd, le_refl]

theorem State.leaveService_keeps {z0 : State} {s : State} (hz : Keeps z0 s) : Keeps z0 (State.leaveService s) := by
  unfold State.leaveService
  simp (maxDischargeDepth := 60) only [hz, ↓Keeps.ite, ↓Keeps.upd, le_refl, ↓State.enterBringup_keeps, ↓State.startHello_keeps]

theorem State.writeRecordAt_keeps {z0 : State} {sd slot n off v : Nat} {r : Nat × State} (hz : Keeps z0 r.2) :
    Keeps z0 (State.writeRecordAt sd slot n off v r).2 := by
  unfold State.writeRecordAt
  exact Keeps.ite_snd hz (State.serviceWrite_keeps hz)

theorem State.writeStale_keeps {z0 : State} {sd n off : Nat} {r : Nat × State} (hz : Keeps z0 r.2) :
    Keeps z0 (State.writeStale sd n off r).2 := State.writeRecordAt_keeps hz

theorem State.writeWindow_keeps {z0 : State} {sd n k : Nat} {s : State} (hz : Keeps z0 s) : Keeps z0 (State.writeWindow sd n k s) := by
  unfold State.writeWindow
  exact Keeps.ite hz (State.serviceWrite_keeps hz)

theorem State.writeRecords_keeps {z0 : State} {recs : List (Nat × Nat)} {stale : List Nat} {sd n : Nat} {s : State} (hz : Keeps z0 s)
    : Keeps z0 (State.writeRecords recs stale sd n s).2 := by
  unfold State.writeRecords
  have k1 : ∀ (l : List (Nat × Nat)) (r : Nat × State), Keeps z0 r.2 →
      Keeps z0 (l.foldl (fun r (e : Nat × Nat) => State.writeRecordAt sd n n e.1 e.2 r) r).2 := by
    intro l
    induction l with
    | nil => exact fun r h => h
    | cons x l ih => exact fun r h => ih (State.writeRecordAt sd n n x.1 x.2 r) (State.writeRecordAt_keeps h)
  have k2 : ∀ (l : List Nat) (r : Nat × State), Keeps z0 r.2 → Keeps z0 (l.foldl (fun (r : Nat × State) off => State.writeStale sd n off r) r).2 := by
    intro l
    induction l with
    | nil => exact fun r h => h
    | cons x l ih => exact fun r h => ih (State.writeStale sd n x r) (State.writeStale_keeps h)
  exact k2 _ _ (k1 _ _ hz)

theorem State.closeCheckpoint_keeps {z0 : State} {sd n start us : Nat} {r : Nat × State} (hz : Keeps z0 r.2) :
    Keeps z0 (State.closeCheckpoint sd n start us r) :=
  State.serviceWrite_keeps (State.forEach_keeps hz fun _ t => State.writeWindow_keeps (Keeps.refl t))

theorem State.writeCheckpoint_keeps {z0 : State} {exact_ : Bool} {sd n us : Nat} {s : State} (hz : Keeps z0 s)
    : Keeps z0 (State.writeCheckpoint exact_ sd n us s) := by
  exact State.closeCheckpoint_keeps (State.writeRecords_keeps hz)

theorem State.checkpoint_keeps {z0 : State} {exact_ : Bool} {sds : List Nat} {us : Nat} {s : State} (hz : Keeps z0 s)
    : Keeps z0 (State.checkpoint exact_ sds us s) := by
  unfold State.checkpoint
  simp (maxDischargeDepth := 60) only [hz, Keeps.refl, implies_true, ↓State.forEach_keeps, ↓State.put_keeps, ↓State.writeCheckpoint_keeps]

theorem State.resumeRing_keeps {z0 : State} {exact_ : Bool} {sd slot q v : Nat} {scans : List (Nat × Nat × Nat)} {s : State} (hz
    : Keeps z0 s) : Keeps z0 (State.resumeRing exact_ sd slot q v scans s) := by
  unfold State.resumeRing
  split <;> simp (maxDischargeDepth := 60) only [hz, ↓Keeps.ite, ↓State.emit_keeps, ↓State.raise_keeps, ↓State.setQueue_keeps]

theorem State.drawMtu_keeps {z0 : State} {s : State} (hz : Keeps z0 s) : Keeps z0 (State.drawMtu s).2 := by
  unfold State.drawMtu
  simp (maxDischargeDepth := 60) only [hz, ↓State.draw_keeps]

theorem State.resumeQp_keeps {z0 : State} {exact_ : Bool} {sd i v : Nat} {s : State} (hz : Keeps z0 s)
    : Keeps z0 (State.resumeQp exact_ sd i v s) := by
  unfold State.resumeQp
  simp (maxDischargeDepth := 60) only [hz, ↓Keeps.ite, ↓State.cacheQp_keeps, ↓State.drawMtu_keeps, ↓State.payTakeover_keeps, ↓State.setQp_keeps,
    ↓State.setQueue_keeps]

theorem State.resumeStream_keeps {z0 : State} {sd i v : Nat} {s : State} (hz : Keeps z0 s) : Keeps z0 (State.resumeStream sd i v s) := by
  unfold State.resumeStream
  simp (maxDischargeDepth := 60) only [hz, ↓Keeps.ite, ↓State.changeStream_keeps]

theorem State.resumeValue_keeps {z0 : State} {exact_ : Bool} {sd slot off v : Nat} {scans : List (Nat × Nat × Nat)} {s : State} (hz
    : Keeps z0 s) : Keeps z0 (State.resumeValue exact_ sd slot off v scans s) := by
  unfold State.resumeValue
  split
  · exact State.resumeRing_keeps hz
  · exact State.resumeQp_keeps hz
  · exact State.resumeQp_keeps hz
  · exact State.resumeStream_keeps hz
  · exact Keeps.ite (State.put_keeps (State.put_keeps hz)) hz
  · exact hz

theorem State.resumeRecord_keeps {z0 : State} {exact_ : Bool} {sd slot off : Nat} {scans : List (Nat × Nat × Nat)} {s : State} (hz
    : Keeps z0 s) : Keeps z0 (State.resumeRecord exact_ sd slot off scans s) := by
  exact State.resumeValue_keeps hz

theorem State.loadChosen_keeps {z0 : State} {exact_ : Bool} {sd : Nat} {scans : List (Nat × Nat × Nat)} {o : Option (Nat × Nat)} {s : State}
    (hz : Keeps z0 s) : Keeps z0 (State.loadChosen exact_ sd scans o s) := by
  unfold State.loadChosen
  split
  · exact State.raise_keeps hz
  · exact State.put_keeps (State.forEach_keeps hz fun off t => State.resumeRecord_keeps (Keeps.refl t))

theorem State.loadCheckpoint_keeps {z0 : State} {exact_ : Bool} {sd : Nat} {scans : List (Nat × Nat × Nat)} {s : State} (hz : Keeps z0 s)
    : Keeps z0 (State.loadCheckpoint exact_ sd scans s) := by
  exact State.loadChosen_keeps hz

theorem State.activateLd_keeps {z0 : State} {n : Nat} {s : State} (hz : Keeps z0 s) : Keeps z0 (State.activateLd n s) := by
  unfold State.activateLd
  simp (maxDischargeDepth := 60) only [hz, ↓State.placeRecord_keeps, ↓State.put_keeps, ↓State.raise_keeps, ↓State.setActive_keeps]

theorem State.deactivateLd_keeps {z0 : State} {n : Nat} {s : State} (hz : Keeps z0 s) : Keeps z0 (State.deactivateLd n s) := by
  unfold State.deactivateLd
  simp (maxDischargeDepth := 60) only [hz, ↓State.placeRecord_keeps, ↓State.put_keeps, ↓State.raise_keeps]

theorem State.streamsOff_keeps {z0 : State} {sd : Nat} {s : State} (hz : Keeps z0 s) : Keeps z0 (State.streamsOff sd s) := by
  unfold State.streamsOff
  simp (maxDischargeDepth := 60) only [hz, Keeps.refl, implies_true, ↓State.changeStream_keeps, ↓State.forEach_keeps, ↓State.setStream_keeps]

theorem State.takeOver_keeps {z0 : State} {epoch : Nat} {scans : List (Nat × Nat × Nat)} {s : State} (hz : Keeps z0 s)
    : Keeps z0 (State.takeOver epoch scans s) := by
  unfold State.takeOver
  simp (maxDischargeDepth := 60) only [hz, ↓Keeps.upd, Keeps.refl, implies_true, le_refl, ↓State.activateLd_keeps, ↓State.adoptAddresses_keeps,
    ↓State.bump_keeps, ↓State.dropCopy_keeps, ↓State.endRequest_keeps, ↓State.forEach_keeps, ↓State.loadCheckpoint_keeps, ↓State.put_keeps,
      ↓State.raise_keeps, ↓State.setMode_keeps, ↓State.startMap_keeps]

theorem State.takenOver_keeps {z0 : State} {epoch : Nat} {s : State} (hz : Keeps z0 s) : Keeps z0 (State.takenOver epoch s) := by
  unfold State.takenOver
  simp (maxDischargeDepth := 60) only [hz, ↓Keeps.ite, ↓Keeps.upd, Keeps.refl, implies_true, le_refl, ↓State.deactivateLd_keeps,
    ↓State.dropCopy_keeps, ↓State.endRequest_keeps, ↓State.forEach_keeps, ↓State.leaveService_keeps, ↓State.put_keeps, ↓State.raise_keeps,
      ↓State.releaseAddresses_keeps, ↓State.releaseQps_keeps, ↓State.setFence_keeps, ↓State.streamsOff_keeps]

theorem State.handedBack_keeps {z0 : State} {epoch : Nat} {s : State} (hz : Keeps z0 s) : Keeps z0 (State.handedBack epoch s) := by
  unfold State.handedBack
  simp (maxDischargeDepth := 60) only [hz, ↓Keeps.ite, Keeps.refl, implies_true, ↓State.deactivateLd_keeps, ↓State.enterPaired_keeps,
    ↓State.forEach_keeps, ↓State.put_keeps, ↓State.raise_keeps, ↓State.releaseAddresses_keeps, ↓State.streamsOff_keeps]

theorem State.returnToService_keeps {z0 : State} {epoch : Nat} {scans : List (Nat × Nat × Nat)} {s : State} (hz : Keeps z0 s)
    : Keeps z0 (State.returnToService epoch scans s) := by
  unfold State.returnToService
  simp (maxDischargeDepth := 60) only [hz, ↓Keeps.upd, le_refl, ↓State.copyGuestRecord_keeps, ↓State.endFence_keeps, ↓State.endRequest_keeps,
    ↓State.enterPaired_keeps, ↓State.loadCheckpoint_keeps, ↓State.put_keeps]

theorem State.learnGrant_keeps {z0 : State} {epoch side : Nat} {s : State} (hz : Keeps z0 s) : Keeps z0 (State.learnGrant epoch side s) := by
  unfold State.learnGrant
  simp (maxDischargeDepth := 60) only [hz, ↓Keeps.ite, ↓State.handedBack_keeps, ↓State.put_keeps, ↓State.takenOver_keeps]

theorem State.releaseSide_keeps {z0 : State} {sd us : Nat} {s : State} (hz : Keeps z0 s) : Keeps z0 (State.releaseSide sd us s) := by
  unfold State.releaseSide
  simp (maxDischargeDepth := 60) only [hz, ↓Keeps.upd, le_refl, ↓State.checkpoint_keeps, ↓State.put_keeps, ↓State.setFence_keeps]

theorem State.abandonDrain_keeps {z0 : State} {s : State} (hz : Keeps z0 s) : Keeps z0 (State.abandonDrain s) := by
  unfold State.abandonDrain
  simp (maxDischargeDepth := 60) only [hz, Keeps.refl, implies_true, ↓State.dropCopy_keeps, ↓State.forEach_keeps, ↓State.raise_keeps,
    ↓State.resumeFetch_keeps, ↓State.setMode_keeps, ↓State.takeParked_keeps]

theorem State.setCore_keeps {z0 : State} {c v : Nat} {s : State} (hz : Keeps z0 s) : Keeps z0 (State.setCore c v s) := by
  unfold State.setCore
  split <;> simp (maxDischargeDepth := 60) only [hz, ↓State.put_keeps]

theorem State.coreBist_keeps {z0 : State} {failed : List Nat} {s : State} (hz : Keeps z0 s) : Keeps z0 (State.coreBist failed s) := by
  unfold State.coreBist
  simp (maxDischargeDepth := 60) only [hz, ↓Keeps.ite, Keeps.refl, implies_true, ↓State.bermDraw_keeps, ↓State.forEach_keeps, ↓State.put_keeps,
    ↓State.raise_keeps, ↓State.setCore_keeps, ↓State.when_keeps]

theorem State.requeueStore_keeps {z0 : State} {s : State} (hz : Keeps z0 s) : Keeps z0 (State.requeueStore s) := by
  unfold State.requeueStore
  simp (maxDischargeDepth := 60) only [hz, ↓Keeps.ite, ↓Keeps.upd, le_refl, ↓State.put_keeps]

theorem State.reeveReset_keeps {z0 : State} {s : State} (hz : Keeps z0 s) : Keeps z0 (State.reeveReset s) := by
  unfold State.reeveReset
  simp (maxDischargeDepth := 60) only [hz, ↓Keeps.upd, le_refl, ↓State.put_keeps, ↓State.requeueStore_keeps, ↓State.setArm_keeps]

theorem State.startFirmware_keeps {z0 : State} {k : Nat} {fallback : Bool} {s : State} (hz : Keeps z0 s)
    : Keeps z0 (State.startFirmware k fallback s) := by
  unfold State.startFirmware
  simp (maxDischargeDepth := 60) only [hz, ↓Keeps.ite, ↓Keeps.upd, Keeps.refl, implies_true, le_refl, ↓State.loadConfig_keeps, ↓State.put_keeps,
    ↓State.raise_keeps, ↓State.selectConfig_keeps, ↓State.when_keeps]

theorem State.bootSlots_keeps {z0 : State} {s : State} (hz : Keeps z0 s) : Keeps z0 (State.bootSlots s) := by
  unfold State.bootSlots
  simp (maxDischargeDepth := 60) only [hz, ↓Keeps.ite, ↓Keeps.upd, le_refl, ↓State.put_keeps, ↓State.startFirmware_keeps]

theorem State.reeveBoot_keeps {z0 : State} {checks : List SlotCheck} {s : State} (hz : Keeps z0 s) : Keeps z0 (State.reeveBoot checks s) := by
  unfold State.reeveBoot
  simp (maxDischargeDepth := 60) only [hz, ↓Keeps.ite, ↓Keeps.upd, le_refl, ↓State.bootSlots_keeps, ↓State.raise_keeps, ↓State.startFirmware_keeps]

theorem State.eraseEmbedded_keeps {z0 : State} {s : State} (hz : Keeps z0 s) : Keeps z0 (State.eraseEmbedded s) := by
  unfold State.eraseEmbedded
  simp (maxDischargeDepth := 60) only [hz, ↓Keeps.upd, le_refl, ↓State.put_keeps]

theorem State.lowerStep_keeps {z0 : State} {s : State} (hz : Keeps z0 s) : Keeps z0 (State.lowerStep s) := by
  unfold State.lowerStep
  simp (maxDischargeDepth := 60) only [hz, ↓Keeps.ite, ↓Keeps.upd, Keeps.refl, implies_true, le_refl, ↓State.enterQuarantine_keeps,
    ↓State.forEach_keeps, ↓State.put_keeps, ↓State.syncReadout_keeps]

theorem State.groupReset_keeps {z0 : State} {s : State} (hz : Keeps z0 s) : Keeps z0 (State.groupReset s) := by
  unfold State.groupReset
  dsimp only
  refine Keeps.upd (State.enterBringup_keeps (State.raise_keeps (State.clearMap_keeps (State.put_keeps ?_))))
  exact Keeps.tables (State.releaseImages_keeps hz) id id (fun _ => rfl) id (fun _ => rfl)

theorem State.insertModule_keeps {z0 : State} {slot record : Nat} {crcOk : Bool} {s : State} (hz : Keeps z0 s)
    : Keeps z0 (State.insertModule slot record crcOk s) := by
  unfold State.insertModule
  simp (maxDischargeDepth := 60) only [hz, ↓Keeps.ite, ↓Keeps.upd, le_refl, ↓State.formGroup_keeps, ↓State.placeModule_keeps, ↓State.put_keeps]

theorem State.removeModule_keeps {z0 : State} {slot : Nat} {s : State} (hz : Keeps z0 s) : Keeps z0 (State.removeModule slot s) := by
  unfold State.removeModule
  simp (maxDischargeDepth := 60) only [hz, ↓Keeps.ite, ↓Keeps.upd, le_refl, ↓State.failSlot_keeps, ↓State.groupState_keeps,
    ↓State.promoteIdle_keeps, ↓State.put_keeps, ↓State.recomputeFreeboard_keeps, ↓State.slotOff_keeps]

theorem State.mapFactory_keeps {z0 : State} {slot : Nat} {bad : List Nat} {s : State} (hz : Keeps z0 s) : Keeps z0 (State.mapFactory slot bad s) := by
  unfold State.mapFactory
  simp (maxDischargeDepth := 60) only [hz, Keeps.refl, implies_true, ↓State.forEach_keeps, ↓State.useSpareBlock_keeps]

theorem State.joinMember_keeps {z0 : State} {slot : Nat} {s : State} (hz : Keeps z0 s) : Keeps z0 (State.joinMember slot s) := by
  unfold State.joinMember
  simp (maxDischargeDepth := 60) only [hz, ↓State.groupState_keeps, ↓State.put_keeps, ↓State.recomputeFreeboard_keeps]

theorem State.failNow_keeps {z0 : State} {slot : Nat} {s : State} (hz : Keeps z0 s) : Keeps z0 (State.failNow slot s) := by
  unfold State.failNow
  simp (maxDischargeDepth := 60) only [hz, ↓Keeps.ite, ↓State.failSlot_keeps]

theorem State.wearStatus_keeps {z0 : State} {slot : Nat} {s : State} (hz : Keeps z0 s) : Keeps z0 (State.wearStatus slot s) := by
  unfold State.wearStatus
  simp (maxDischargeDepth := 60) only [hz, Keeps.refl, implies_true, ↓State.bermDraw_keeps, ↓State.put_keeps, ↓State.when_keeps]

theorem State.eraseBlock_keeps {z0 : State} {sb : Nat} {failed : List Nat} {s : State} (hz : Keeps z0 s)
    : Keeps z0 (State.eraseBlock sb failed s) := by
  unfold State.eraseBlock
  dsimp only
  refine State.blockStatus_keeps (State.rebuildStatus_keeps (State.forEach_keeps (State.forEach_keeps (Keeps.tables
    (State.setBlock_keeps (State.wakeChannels_keeps hz)) id id (Sparse.wf_filter _) id (Sparse.wf_filter _)) fun p t => ?_) fun i t => ?_))
  · exact State.useSpareBlock_keeps (State.bump_keeps (Keeps.refl t))
  · exact State.wearStatus_keeps (Keeps.refl t)

theorem State.joinSpare_keeps {z0 : State} {slot : Nat} {s : State} (hz : Keeps z0 s) : Keeps z0 (State.joinSpare slot s) := by
  unfold State.joinSpare
  simp (maxDischargeDepth := 60) only [hz, ↓Keeps.ite, ↓Keeps.upd, le_refl, ↓State.groupState_keeps, ↓State.put_keeps,
    ↓State.recomputeFreeboard_keeps, ↓State.startRebuild_keeps]

theorem State.completePosition_keeps {z0 : State} {p : Nat} {s : State} (hz : Keeps z0 s) : Keeps z0 (State.completePosition p s) := by
  unfold State.completePosition
  simp (maxDischargeDepth := 60) only [hz, ↓State.groupState_keeps, ↓State.put_keeps]

theorem State.endPass_keeps {z0 : State} {s : State} (hz : Keeps z0 s) : Keeps z0 (State.endPass s) := by
  unfold State.endPass
  simp (maxDischargeDepth := 60) only [hz, ↓Keeps.ite, ↓Keeps.upd, le_refl, ↓State.completePosition_keeps, ↓State.noteRebuild_keeps,
    ↓State.put_keeps, ↓State.raise_keeps, ↓State.rebuildStatus_keeps]

theorem State.blockRebuilt_keeps {z0 : State} {s : State} (hz : Keeps z0 s) : Keeps z0 (State.blockRebuilt s) := by
  unfold State.blockRebuilt
  simp (maxDischargeDepth := 60) only [hz, ↓Keeps.ite, ↓Keeps.upd, le_refl, ↓State.noteRebuild_keeps]

theorem State.patrolNext_keeps {z0 : State} {s : State} (hz : Keeps z0 s) : Keeps z0 (State.patrolNext s) := by
  unfold State.patrolNext
  split <;> simp (maxDischargeDepth := 60) only [hz, ↓Keeps.ite, ↓Keeps.upd, le_refl, ↓State.bump_keeps, ↓State.put_keeps, ↓State.raise_keeps]

theorem State.retireEngine_keeps {z0 : State} {tile : Nat} {s : State} (hz : Keeps z0 s) : Keeps z0 (State.retireEngine tile s) := by
  unfold State.retireEngine
  simp (maxDischargeDepth := 60) only [hz, ↓State.bermDraw_keeps, ↓State.noteUnits_keeps, ↓State.put_keeps, ↓State.raise_keeps]

theorem State.setPause_keeps {z0 : State} {paused : Bool} {s : State} (hz : Keeps z0 s) : Keeps z0 (State.setPause paused s) := by
  unfold State.setPause
  simp (maxDischargeDepth := 60) only [hz, ↓Keeps.ite, ↓State.groupState_keeps, ↓State.put_keeps, ↓State.raise_keeps, ↓State.recomputeFreeboard_keeps]

theorem State.countStall_keeps {z0 : State} {parts : List Nat} {s : State} (hz : Keeps z0 s) : Keeps z0 (State.countStall parts s) := by
  unfold State.countStall
  simp (maxDischargeDepth := 60) only [hz, Keeps.refl, implies_true, ↓State.bump_keeps, ↓State.forEach_keeps]

theorem State.retryPins_keeps {z0 : State} {s : State} (hz : Keeps z0 s) : Keeps z0 (State.retryPins s) := by
  unfold State.retryPins
  simp (maxDischargeDepth := 60) only [hz, ↓Keeps.ite, ↓Keeps.upd, Keeps.refl, implies_true, le_refl, ↓State.forEach_keeps, ↓State.pinRegion_keeps]

theorem State.giveFrames_keeps {z0 : State} {s : State} (hz : Keeps z0 s) : Keeps z0 (State.giveFrames s) := by
  unfold State.giveFrames
  simp (maxDischargeDepth := 60) only [hz, ↓Keeps.ite, Keeps.refl, implies_true, ↓State.assignFrame_keeps, ↓State.endCond_keeps,
    ↓State.forEach_keeps, ↓State.retryPins_keeps]

theorem State.issueFill_keeps {z0 : State} {f : FillReq} {s : State} (hz : Keeps z0 s) : Keeps z0 (State.issueFill f s) := by
  unfold State.issueFill
  simp (maxDischargeDepth := 60) only [hz, ↓Keeps.upd, le_refl]

theorem State.issueUpTo_keeps {z0 : State} {p n : Nat} {s : State} (hz : Keeps z0 s) : Keeps z0 (State.issueUpTo p n s) := by
  induction n generalizing s with
  | zero => exact hz
  | succ n ih =>
    unfold State.issueUpTo
    split
    · split
      · exact ih (State.issueFill_keeps hz)
      · exact hz
    · exact hz

theorem State.readDeep_keeps {z0 : State} {p : Nat} {bad : List Nat} {ecc : DeepEcc} {s : State} (hz : Keeps z0 s)
    : Keeps z0 (State.readDeep p bad ecc s).1 := by
  unfold State.readDeep
  simp (maxDischargeDepth := 60) only [hz, ↓Keeps.ite, ↓Keeps.ite_fst, Keeps.refl, implies_true, ↓State.bump_keeps, ↓State.checkUce_keeps,
    ↓State.countRead_keeps, ↓State.forEach_keeps, ↓State.loseStripe_keeps, ↓State.noteLdpc_keeps, ↓State.noteUce_keeps, ↓State.reconstructed_keeps,
      ↓State.setMeta_keeps, ↓State.wakeChannels_keeps]

theorem State.landPage_keeps {z0 : State} {p : Nat} {s : State} (hz : Keeps z0 s) : Keeps z0 (State.landPage p s) := by
  unfold State.landPage
  simp (maxDischargeDepth := 60) only [hz, ↓Keeps.upd, Keeps.refl, implies_true, le_refl, ↓State.enqueue_keeps, ↓State.forEach_keeps,
    ↓State.setExtent_keeps, ↓State.setPage_keeps]

theorem State.fillOther_keeps {z0 : State} {p : Nat} {s : State} (hz : Keeps z0 s) : Keeps z0 (State.fillOther p s) := by
  unfold State.fillOther
  simp (maxDischargeDepth := 60) only [hz, ↓Keeps.ite, Keeps.refl, implies_true, ↓State.forEach_keeps, ↓State.setMeta_keeps, ↓State.zeroLine_keeps]

theorem State.afterFill_keeps {z0 : State} {s : State} (hz : Keeps z0 s) : Keeps z0 (State.afterFill s) := by
  unfold State.afterFill
  simp (maxDischargeDepth := 60) only [hz, Keeps.refl, implies_true, ↓State.checkPinFills_keeps, ↓State.checkWindow_keeps, ↓State.forEach_keeps]

theorem State.clock_keeps {z0 : State} {xs : List Nat} {s : State} (hz : Keeps z0 s) : Keeps z0 (State.clock xs s).2 := by
  unfold State.clock
  simp (maxDischargeDepth := 60) only [hz, ↓Keeps.upd, Keeps.refl, implies_true, le_refl, ↓State.forEach_keeps, ↓State.setExtent_keeps]

theorem State.nextVictim_keeps {z0 : State} {s : State} (hz : Keeps z0 s) : Keeps z0 (State.nextVictim s).2 := by
  unfold State.nextVictim
  split
  · exact hz
  · split
    · exact State.clock_keeps hz
    · exact State.clock_keeps hz

theorem State.evictState_keeps {z0 : State} {s : State} (hz : Keeps z0 s) : Keeps z0 (State.evictState s) := by
  unfold State.evictState
  simp (maxDischargeDepth := 60) only [hz, ↓Keeps.upd, le_refl]

theorem State.captureLine_keeps {z0 : State} {line : Nat} {s : State} (hz : Keeps z0 s) : Keeps z0 (State.captureLine line s) := by
  unfold State.captureLine
  simp (maxDischargeDepth := 60) only [hz, Keeps.refl, implies_true, ↓State.cleanLine_keeps, ↓State.enqueue_keeps, ↓State.served_keeps,
    ↓State.when_keeps, ↓State.writeBack_keeps]

theorem State.noteSpare_keeps {z0 : State} {p deep : Nat} {s : State} (hz : Keeps z0 s) : Keeps z0 (State.noteSpare p deep s) := by
  unfold State.noteSpare
  simp (maxDischargeDepth := 60) only [hz, ↓Keeps.upd, le_refl]

theorem State.endCapture_keeps {z0 : State} {c : Capture} {deep : Nat} {s : State} (hz : Keeps z0 s) : Keeps z0 (State.endCapture c deep s) := by
  unfold State.endCapture
  extract_lets p g gone s1 s2 clean
  have k2 : Keeps z0 s2 := State.setPage_keeps (State.forEach_keeps (State.setTrans_keeps (State.noteSpare_keeps hz)) fun l t =>
    State.setMeta_keeps (State.grant_keeps (Keeps.refl t)))
  clear_value s2
  refine State.bump_keeps (Keeps.tables k2 id id ?_ id ?_)
  · exact fun h => Sparse.wf_setAll _ (Sparse.wf_clear h)
  · exact fun h => Sparse.wf_setAll _ (Sparse.wf_clear h)

theorem State.journalStatus_keeps {z0 : State} {s : State} (hz : Keeps z0 s) : Keeps z0 (State.journalStatus s) := by
  unfold State.journalStatus
  simp (maxDischargeDepth := 60) only [hz, ↓Keeps.ite, ↓State.endCond_keeps, ↓State.put_keeps, ↓State.raise_keeps]

theorem State.makeDurable_keeps {z0 : State} {e : JEntry} {s : State} (hz : Keeps z0 s) : Keeps z0 (State.makeDurable e s) := by
  unfold State.makeDurable
  simp (maxDischargeDepth := 60) only [hz, ↓Keeps.upd, le_refl]

theorem State.truncateJournal_keeps {z0 : State} {s : State} (hz : Keeps z0 s) : Keeps z0 (State.truncateJournal s) := by
  unfold State.truncateJournal
  simp (maxDischargeDepth := 60) only [hz, ↓Keeps.upd, le_refl, ↓State.journalStatus_keeps]

theorem State.placeTable_keeps {z0 : State} {tp n deep : Nat} {s : State} (hz : Keeps z0 s) : Keeps z0 (State.placeTable tp n deep s) := by
  unfold State.placeTable
  simp (maxDischargeDepth := 60) only [hz, ↓Keeps.upd, le_refl]

theorem State.moveData_keeps {z0 : State} {p : Nat} {s : State} (hz : Keeps z0 s) : Keeps z0 (State.moveData p s) := by
  unfold State.moveData
  split
  · exact hz
  · rename_i t ht
    refine State.bump_keeps (State.setTrans_keeps (Keeps.tables (State.takePage_keeps ht hz) id id ?_ id ?_))
    · exact fun h => Sparse.wf_setAll _ (Sparse.wf_clear h)
    · exact fun h => Sparse.wf_setAll _ (Sparse.wf_clear h)

theorem State.moveTable_keeps {z0 : State} {tp : Nat} {s : State} (hz : Keeps z0 s) : Keeps z0 (State.moveTable tp s) := by
  unfold State.moveTable
  split
  · exact hz
  · rename_i t ht
    have k := State.takePage_keeps ht hz
    refine State.bump_keeps ?_
    split
    · exact State.placeTable_keeps k
    · exact k.upd

theorem State.relocate_keeps {z0 : State} {sb : Nat} {s : State} (hz : Keeps z0 s) : Keeps z0 (State.relocate sb s) := by
  unfold State.relocate
  simp (maxDischargeDepth := 60) only [hz, ↓Keeps.ite, Keeps.refl, implies_true, ↓State.blockStatus_keeps, ↓State.forEach_keeps,
    ↓State.moveData_keeps, ↓State.moveTable_keeps, ↓State.setBlock_keeps]

theorem State.sealImage_keeps {z0 : State} {us energy : Nat} {s : State} (hz : Keeps z0 s) : Keeps z0 (State.sealImage us energy s) := by
  unfold State.sealImage
  simp (maxDischargeDepth := 60) only [hz, ↓Keeps.ite, ↓Keeps.upd, Keeps.refl, implies_true, le_refl, ↓State.bump_keeps, ↓State.draw_keeps,
    ↓State.put_keeps, ↓State.raise_keeps, ↓State.when_keeps]

theorem State.afterSeal_keeps {z0 : State} {s : State} (hz : Keeps z0 s) : Keeps z0 (State.afterSeal s) := by
  unfold State.afterSeal
  simp (maxDischargeDepth := 60) only [hz, ↓Keeps.ite, ↓State.rampDown_keeps]

theorem State.unsealedRestore_keeps {z0 : State} {s : State} (hz : Keeps z0 s) : Keeps z0 (State.unsealedRestore s) := by
  unfold State.unsealedRestore
  simp (maxDischargeDepth := 60) only [hz, ↓Keeps.upd, le_refl, ↓State.bump_keeps, ↓State.put_keeps, ↓State.raise_keeps]

theorem State.poisonRange_keeps {z0 : State} {first count : Nat} {s : State} (hz : Keeps z0 s) : Keeps z0 (State.poisonRange first count s) := by
  unfold State.poisonRange
  simp (maxDischargeDepth := 60) only [hz, ↓Keeps.upd, le_refl, ↓State.bump_keeps, ↓State.put_keeps, ↓State.raise_keeps]

theorem State.endScan_keeps {z0 : State} {repaired ignored : Nat} {s : State} (hz : Keeps z0 s) : Keeps z0 (State.endScan repaired ignored s) := by
  unfold State.endScan
  split <;> simp (maxDischargeDepth := 60) only [hz, ↓Keeps.ite, ↓Keeps.upd, Keeps.refl, implies_true, le_refl, ↓State.bump_keeps,
    ↓State.put_keeps, ↓State.raise_keeps, ↓State.unsealedRestore_keeps, ↓State.when_keeps]

theorem State.rebuildTable_keeps {z0 : State} {s : State} (hz : Keeps z0 s) : Keeps z0 (State.rebuildTable s) := by
  unfold State.rebuildTable
  dsimp only
  refine Keeps.tables hz id (fun _ => ?_) id (fun _ => ?_) id
  · exact Sparse.wf_setAll _ rfl
  · exact Sparse.wf_setAll _ rfl

theorem State.restoreLine_keeps {z0 : State} {e : Nat × LineMeta × LineData} {s : State} (hz : Keeps z0 s) : Keeps z0 (State.restoreLine e s) := by
  unfold State.restoreLine
  simp (maxDischargeDepth := 60) only [hz, ↓State.setMeta_keeps, ↓State.storeLine_keeps]

theorem State.startLines_keeps {z0 : State} {s : State} (hz : Keeps z0 s) : Keeps z0 (State.startLines s) := by
  unfold State.startLines
  split <;> simp (maxDischargeDepth := 60) only [hz, ↓Keeps.ite, Keeps.refl, implies_true, ↓State.assignFrame_keeps, ↓State.forEach_keeps,
    ↓State.notePeak_keeps, ↓State.requestFill_keeps, ↓State.restoreLine_keeps, ↓State.setPage_keeps]

theorem State.restorePending_keeps {z0 : State} {e : PendEntry} {s : State} (hz : Keeps z0 s) : Keeps z0 (State.restorePending e s) := by
  unfold State.restorePending
  simp (maxDischargeDepth := 60) only [hz, ↓State.acceptWrite_keeps]

theorem State.startPending_keeps {z0 : State} {s : State} (hz : Keeps z0 s) : Keeps z0 (State.startPending s) := by
  unfold State.startPending
  split <;> simp (maxDischargeDepth := 60) only [hz, Keeps.refl, implies_true, ↓State.forEach_keeps, ↓State.restorePending_keeps]

theorem State.restoreQueue_keeps {z0 : State} {q : Nat} {k : Queue} {s : State} (hz : Keeps z0 s) : Keeps z0 (State.restoreQueue q k s) := by
  unfold State.restoreQueue
  simp (maxDischargeDepth := 60) only [hz, ↓State.setQueue_keeps]

theorem State.restoreQps_keeps {z0 : State} {im : Image} {s : State} (hz : Keeps z0 s) : Keeps z0 (State.restoreQps im s) := by
  unfold State.restoreQps
  simp (maxDischargeDepth := 60) only [hz, ↓Keeps.ite, ↓Keeps.upd, Keeps.refl, implies_true, le_refl, ↓State.cacheQp_keeps, ↓State.forEach_keeps,
    ↓State.setQp_keeps]

theorem State.startSettle_keeps {z0 : State} {s : State} (hz : Keeps z0 s) : Keeps z0 (State.startSettle s) := by
  unfold State.startSettle
  dsimp only
  refine State.forEach_keeps ?_ fun e t => State.startPinFill_keeps (State.pinRegion_keeps (Keeps.refl t))
  split
  · exact hz
  · refine State.put_keeps (State.put_keeps (State.forEach_keeps (State.forEach_keeps (Keeps.tables
      (State.forEach_keeps (State.restoreQps_keeps hz) fun e t => State.restoreQueue_keeps (Keeps.refl t)) ?_ id id id id)
        fun e t => State.changeStream_keeps (Keeps.refl t)) fun e t =>
        Keeps.ite (State.put_keeps (State.put_keeps (Keeps.refl t))) (Keeps.refl t)))
    generalize (Image.ringRegs _) = l
    generalize (State.regs _) = g
    intro hg
    induction l generalizing g with
    | nil => exact hg
    | cons e l ih => exact ih _ (Sparse.rising_insert hg)

theorem State.dramStatus_keeps {z0 : State} {s : State} (hz : Keeps z0 s) : Keeps z0 (State.dramStatus s) := by
  unfold State.dramStatus
  simp (maxDischargeDepth := 60) only [hz, ↓State.put_keeps, ↓State.syncFree_keeps]

theorem State.placeFrames_keeps {z0 : State} {s : State} (hz : Keeps z0 s) : Keeps z0 (State.placeFrames s) := by
  unfold State.placeFrames
  simp (maxDischargeDepth := 60) only [hz, ↓Keeps.upd, Keeps.refl, implies_true, le_refl, ↓State.dramStatus_keeps, ↓State.forEach_keeps,
    ↓State.put_keeps]

theorem State.dropMarks_keeps {z0 : State} {c lo hi : Nat} {s : State} (hz : Keeps z0 s) : Keeps z0 (State.dropMarks c lo hi s) := by
  unfold State.dropMarks
  simp (maxDischargeDepth := 60) only [hz, ↓Keeps.ite, Keeps.refl, implies_true, ↓State.forEach_keeps, ↓State.put_keeps]

theorem State.noteDimm_keeps {z0 : State} {d : Dimm} {lo : Nat} {s : State} (hz : Keeps z0 s) : Keeps z0 (State.noteDimm d lo s) := by
  unfold State.noteDimm
  simp (maxDischargeDepth := 60) only [hz, ↓Keeps.ite, ↓Keeps.upd, le_refl, ↓State.dropMarks_keeps]

theorem State.findChannel_keeps {z0 : State} {c : Nat} {ds : List Dimm} {s : State} (hz : Keeps z0 s) : Keeps z0 (State.findChannel c ds s) := by
  unfold State.findChannel
  dsimp only
  have k1 : Keeps z0 (s.forEach ds fun d a =>
      if dimmOk d then a.forEach ((List.range 256).zip d.words) fun e x => x.put (F.CH_SPD_BYTES c (256 * d.dimm.val + e.1)) e.2
      else (a.forEach ((List.range 256).zip d.words) fun e x => x.put (F.CH_SPD_BYTES c (256 * d.dimm.val + e.1)) e.2).raise Ev.SPD_INVALID [c,
      d.dimm.val]) :=
    State.forEach_keeps hz fun d t => Keeps.ite (State.forEach_keeps (Keeps.refl t) fun e u => State.put_keeps (Keeps.refl u))
      (State.raise_keeps (State.forEach_keeps (Keeps.refl t) fun e u => State.put_keeps (Keeps.refl u)))
  split
  · exact State.put_keeps k1
  · split
    · exact State.raise_keeps (State.put_keeps (State.put_keeps k1))
    · refine State.bermFound_keeps (State.bermFound_keeps (State.bermFound_keeps (State.put_keeps (State.put_keeps (State.put_keeps (State.put_keeps
        (State.put_keeps (State.put_keeps (Keeps.upd (Keeps.foldl_fst k1 fun t x => ?_))))))))))
      exact State.noteDimm_keeps (Keeps.refl _)

theorem State.discoverDimms_keeps {z0 : State} {ds : List Dimm} {s : State} (hz : Keeps z0 s) : Keeps z0 (State.discoverDimms ds s) := by
  unfold State.discoverDimms
  try dsimp only
  (repeat' split) <;> simp (maxDischargeDepth := 60) only [hz, Keeps.refl, implies_true, ↓State.dramStatus_keeps, ↓State.findChannel_keeps,
    ↓State.forEach_keeps, ↓State.put_keeps]

theorem State.drainLeft_keeps {z0 : State} {c : Nat} {s : State} (hz : Keeps z0 s) : Keeps z0 (State.drainLeft c s) := by
  unfold State.drainLeft
  simp (maxDischargeDepth := 60) only [hz, ↓State.put_keeps]

theorem State.stopDrain_keeps {z0 : State} {c : Nat} {s : State} (hz : Keeps z0 s) : Keeps z0 (State.stopDrain c s) := by
  unfold State.stopDrain
  simp (maxDischargeDepth := 60) only [hz, ↓State.dramStatus_keeps, ↓State.put_keeps]

theorem State.startDrain_keeps {z0 : State} {c cause : Nat} {s : State} (hz : Keeps z0 s) : Keeps z0 (State.startDrain c cause s) := by
  unfold State.startDrain
  simp (maxDischargeDepth := 60) only [hz, ↓Keeps.ite, ↓Keeps.upd, le_refl, ↓State.drainLeft_keeps, ↓State.dramStatus_keeps, ↓State.put_keeps,
    ↓State.raise_keeps]

theorem State.checkDrains_keeps {z0 : State} {s : State} (hz : Keeps z0 s) : Keeps z0 (State.checkDrains s) := by
  unfold State.checkDrains
  simp (maxDischargeDepth := 60) only [hz, ↓Keeps.ite, ↓Keeps.upd, Keeps.refl, implies_true, le_refl, ↓State.drainLeft_keeps,
    ↓State.dramStatus_keeps, ↓State.dropQueues_keeps, ↓State.forEach_keeps, ↓State.put_keeps, ↓State.raise_keeps, ↓State.recomputeFreeboard_keeps]

theorem State.restartRestore_keeps {z0 : State} {s : State} (hz : Keeps z0 s) : Keeps z0 (State.restartRestore s) := by
  unfold State.restartRestore
  dsimp only
  exact State.placeFrames_keeps (State.put_keeps (Keeps.tables hz id (fun _ => rfl) id (fun _ => rfl) id))

theorem State.failChannel_keeps {z0 : State} {c cause : Nat} {s0 : State} (hz : Keeps z0 s0) : Keeps z0 (State.failChannel c cause s0) := by
  unfold State.failChannel
  try dsimp only
  (repeat' split) <;> simp (maxDischargeDepth := 60) only [hz, ↓State.dramStatus_keeps, ↓State.dropQueues_keeps, ↓State.placeFrames_keeps,
    ↓State.put_keeps, ↓State.raise_keeps, ↓State.restartRestore_keeps]

theorem State.markDevice_keeps {z0 : State} {c r sub d : Nat} {s : State} (hz : Keeps z0 s) : Keeps z0 (State.markDevice c r sub d s) := by
  unfold State.markDevice
  simp (maxDischargeDepth := 60) only [hz, ↓Keeps.ite, ↓State.put_keeps, ↓State.raise_keeps, ↓State.startDrain_keeps]

theorem State.remapRow_keeps {z0 : State} {c : Nat} {loc : List Nat} {s : State} (hz : Keeps z0 s) : Keeps z0 (State.remapRow c loc s) := by
  unfold State.remapRow
  try dsimp only
  (repeat' split) <;> simp (maxDischargeDepth := 60) only [hz, ↓Keeps.upd, le_refl, ↓State.bermDraw_keeps, ↓State.put_keeps, ↓State.raise_keeps]

theorem State.noteCorrected_keeps {z0 : State} {c : Nat} {loc : List Nat} {sub : Nat} {devices : List Nat} {erased : Option Nat} {s : State}
    (hz : Keeps z0 s) : Keeps z0 (State.noteCorrected c loc sub devices erased s) := by
  unfold State.noteCorrected
  simp (maxDischargeDepth := 60) only [hz, ↓Keeps.ite, ↓Keeps.upd, Keeps.refl, implies_true, le_refl, ↓State.bump_keeps, ↓State.forEach_keeps,
    ↓State.markDevice_keeps, ↓State.raiseLimited_keeps, ↓State.remapRow_keeps]

theorem State.countCorrected_keeps {z0 : State} {es : List EccNote} {s : State} (hz : Keeps z0 s) : Keeps z0 (State.countCorrected es s) := by
  unfold State.countCorrected
  simp (maxDischargeDepth := 60) only [hz, ↓Keeps.ite, ↓Keeps.upd, le_refl]

theorem State.noteEcc_keeps {z0 : State} {c : Nat} {loc : List Nat} {es : List EccNote} {s : State} (hz : Keeps z0 s)
    : Keeps z0 (State.noteEcc c loc es s) := by
  unfold State.noteEcc
  refine State.forEach_keeps hz fun e t => ?_
  split
  · exact Keeps.refl t
  · exact State.noteCorrected_keeps (Keeps.refl t)

theorem State.noteUncorrectable_keeps {z0 : State} {c : Nat} {loc : List Nat} {s : State} (hz : Keeps z0 s)
    : Keeps z0 (State.noteUncorrectable c loc s) := by
  unfold State.noteUncorrectable
  simp (maxDischargeDepth := 60) only [hz, ↓Keeps.ite, ↓Keeps.upd, le_refl, ↓State.bump_keeps, ↓State.remapRow_keeps, ↓State.startDrain_keeps]

theorem State.decoderFails_keeps {z0 : State} {c : Nat} {s : State} (hz : Keeps z0 s) : Keeps z0 (State.decoderFails c s) := by
  unfold State.decoderFails
  simp (maxDischargeDepth := 60) only [hz, ↓State.put_keeps, ↓State.raise_keeps]

theorem State.trainingFails_keeps {z0 : State} {c step : Nat} {s : State} (hz : Keeps z0 s) : Keeps z0 (State.trainingFails c step s) := by
  unfold State.trainingFails
  simp (maxDischargeDepth := 60) only [hz, ↓Keeps.upd, le_refl, ↓State.dramStatus_keeps, ↓State.put_keeps, ↓State.raise_keeps,
    ↓State.recomputeFreeboard_keeps]

theorem State.judgeLanes_keeps {z0 : State} {c : Nat} {lanes : List (Nat × Nat × Nat × Nat × Nat)} {s : State} (hz : Keeps z0 s)
    : Keeps z0 (State.judgeLanes c lanes s).1 := by
  unfold State.judgeLanes
  refine Keeps.foldl_fst hz fun t x => Keeps.ite_fst (Keeps.refl _) (Keeps.ite_fst ?_ (Keeps.refl _))
  exact State.forEach_keeps (Keeps.refl _) fun r u => State.markDevice_keeps (Keeps.refl u)

theorem State.applyPpr_keeps {z0 : State} {c : Nat} {js : List Nat} {s : State} (hz : Keeps z0 s) : Keeps z0 (State.applyPpr c js s) := by
  unfold State.applyPpr
  simp (maxDischargeDepth := 60) only [hz, Keeps.refl, implies_true, ↓State.bermDraw_keeps, ↓State.bermReturn_keeps, ↓State.forEach_keeps,
    ↓State.put_keeps, ↓State.raise_keeps]

theorem State.setRank_keeps {z0 : State} {c r v : Nat} {s : State} (hz : Keeps z0 s) : Keeps z0 (State.setRank c r v s) := by
  unfold State.setRank
  simp (maxDischargeDepth := 60) only [hz, ↓Keeps.upd, le_refl]

theorem State.spoilLine_keeps {z0 : State} {line : Nat} {scrub : Bool} {s : State} (hz : Keeps z0 s) : Keeps z0 (State.spoilLine line scrub s) := by
  unfold State.spoilLine
  simp (maxDischargeDepth := 60) only [hz, ↓Keeps.ite, ↓State.poisonLine_keeps, ↓State.recordLine_keeps, ↓State.requestFill_keeps,
    ↓State.setPage_keeps]

theorem State.scrubBad_keeps {z0 : State} {c line : Nat} {s : State} (hz : Keeps z0 s) : Keeps z0 (State.scrubBad c line s) := by
  unfold State.scrubBad
  simp (maxDischargeDepth := 60) only [hz, ↓Keeps.ite, ↓State.noteUncorrectable_keeps, ↓State.raise_keeps, ↓State.spoilLine_keeps]

theorem State.copyRow_keeps {z0 : State} {c before line : Nat} {bad : List Nat} {s : State} (hz : Keeps z0 s)
    : Keeps z0 (State.copyRow c before line bad s) := by
  unfold State.copyRow
  simp (maxDischargeDepth := 60) only [hz, ↓Keeps.ite, Keeps.refl, implies_true, ↓State.forEach_keeps, ↓State.scrubBad_keeps]

theorem State.returnChannels_keeps {z0 : State} {s : State} (hz : Keeps z0 s) : Keeps z0 (State.returnChannels s) := by
  unfold State.returnChannels
  simp (maxDischargeDepth := 60) only [hz, ↓Keeps.ite, ↓Keeps.upd, Keeps.refl, implies_true, le_refl, ↓State.forEach_keeps, ↓State.put_keeps,
    ↓State.recomputeFreeboard_keeps]

theorem State.channelService_keeps {z0 : State} {c : Nat} {service : Bool} {s : State} (hz : Keeps z0 s)
    : Keeps z0 (State.channelService c service s) := by
  unfold State.channelService
  try dsimp only
  (repeat' split) <;> simp (maxDischargeDepth := 60) only [hz, ↓Keeps.upd, le_refl, ↓State.put_keeps, ↓State.returnChannels_keeps,
    ↓State.startDrain_keeps, ↓State.stopDrain_keeps]

theorem State.moveDrainPage_keeps {z0 : State} {c p : Nat} {s : State} (hz : Keeps z0 s) : Keeps z0 (State.moveDrainPage c p s) := by
  unfold State.moveDrainPage
  try dsimp only
  (repeat' split) <;> simp (maxDischargeDepth := 60) only [hz, ↓Keeps.upd, le_refl, ↓State.setExtent_keeps, ↓State.syncFree_keeps]

theorem State.moveReserved_keeps {z0 : State} {c : Nat} {s : State} (hz : Keeps z0 s) : Keeps z0 (State.moveReserved c s) := by
  unfold State.moveReserved
  try dsimp only
  (repeat' split) <;> simp (maxDischargeDepth := 60) only [hz, ↓Keeps.upd, le_refl, ↓State.dramStatus_keeps]

theorem State.pathService_keeps {z0 : State} {p : Nat} {service : Bool} {s : State} (hz : Keeps z0 s) : Keeps z0 (State.pathService p service s) := by
  unfold State.pathService
  simp (maxDischargeDepth := 60) only [hz, ↓Keeps.ite, ↓State.pathLeaves_keeps, ↓State.pathReturns_keeps, ↓State.put_keeps]

theorem State.landRepaired_keeps {z0 : State} {p : Nat} {s : State} (hz : Keeps z0 s) : Keeps z0 (State.landRepaired p s) := by
  unfold State.landRepaired
  simp (maxDischargeDepth := 60) only [hz, ↓Keeps.ite, Keeps.refl, implies_true, ↓State.afterFill_keeps, ↓State.arriveLine_keeps,
    ↓State.assignFrame_keeps, ↓State.forEach_keeps, ↓State.landPage_keeps]

theorem State.takeAck_keeps {z0 : State} {ack : Nat} {s : State} (hz : Keeps z0 s) : Keeps z0 (State.takeAck ack s) := by
  unfold State.takeAck
  split
  · exact hz
  · exact Keeps.tables (State.put_keeps hz) id id id (Sparse.wf_filterMap (fun m : LineMeta => if m.pend ≤ ack then { m with pend := 0 } else m)) id

theorem State.takeCredit_keeps {z0 : State} {credit : Nat} {s : State} (hz : Keeps z0 s) : Keeps z0 (State.takeCredit credit s) := by
  unfold State.takeCredit
  simp (maxDischargeDepth := 60) only [hz, ↓Keeps.ite, ↓Keeps.upd, le_refl]

theorem State.heedPartner_keeps {z0 : State} {c : ControlRx} {s : State} (hz : Keeps z0 s) : Keeps z0 (State.heedPartner c s) := by
  unfold State.heedPartner
  simp (maxDischargeDepth := 60) only [hz, ↓Keeps.ite, ↓State.endFence_keeps, ↓State.endRequest_keeps, ↓State.request_keeps]

theorem State.pairWith_keeps {z0 : State} {h : Hello} {s : State} (hz : Keeps z0 s) : Keeps z0 (State.pairWith h s) := by
  unfold State.pairWith
  simp (maxDischargeDepth := 60) only [hz, ↓Keeps.ite, ↓Keeps.upd, le_refl, ↓State.draw_keeps, ↓State.put_keeps, ↓State.setTemper_keeps]

theorem State.formKey_keeps {z0 : State} {h : Hello} {s : State} (hz : Keeps z0 s) : Keeps z0 (State.formKey h s) := by
  unfold State.formKey
  split
  · exact State.raise_keeps hz.upd
  · refine State.put_keeps (State.put_keeps (State.put_keeps ?_))
    exact Keeps.tables hz id id id (Sparse.wf_filterMap (fun m : LineMeta => { m with ver := 0 })) id

theorem State.linkFormed_keeps {z0 : State} {fresh : Bool} {h : Hello} {s : State} (hz : Keeps z0 s) : Keeps z0 (State.linkFormed fresh h s) := by
  unfold State.linkFormed
  try dsimp only
  (repeat' split) <;> simp (maxDischargeDepth := 60) only [hz, ↓State.dropCopy_keeps, ↓State.learnGrant_keeps, ↓State.put_keeps,
    ↓State.setMode_keeps, ↓State.startCatchup_keeps]

theorem State.rekey_keeps {z0 : State} {s : State} (hz : Keeps z0 s) : Keeps z0 (State.rekey s) := by
  unfold State.rekey
  simp (maxDischargeDepth := 60) only [hz, ↓Keeps.ite, ↓State.startHello_keeps]

theorem State.ethService_keeps {z0 : State} {l : Nat} {service : Bool} {s : State} (hz : Keeps z0 s) : Keeps z0 (State.ethService l service s) := by
  unfold State.ethService
  simp (maxDischargeDepth := 60) only [hz, ↓Keeps.ite, ↓State.ethLeaves_keeps, ↓State.ethReturns_keeps, ↓State.put_keeps]

theorem State.flowControl_keeps {z0 : State} {port fill : Nat} {s : State} (hz : Keeps z0 s) : Keeps z0 (State.flowControl port fill s) := by
  unfold State.flowControl
  simp (maxDischargeDepth := 60) only [hz, ↓Keeps.ite, ↓Keeps.upd, le_refl, ↓State.emit_keeps]

theorem State.drainBuffers_keeps {z0 : State} {s : State} (hz : Keeps z0 s) : Keeps z0 (State.drainBuffers s) := by
  unfold State.drainBuffers
  simp (maxDischargeDepth := 60) only [hz, implies_true, Keeps.refl, ↓State.forEach_keeps, ↓State.flowControl_keeps]

theorem State.rxFrame_keeps {z0 : State} {f : RxFrame} {s : State} (hz : Keeps z0 s) : Keeps z0 (State.rxFrame f s).2 := by
  unfold State.rxFrame
  simp (maxDischargeDepth := 60) only [hz, ↓Keeps.ite_snd, ↓State.bump_keeps, ↓State.flowControl_keeps, ↓State.learnHost_keeps,
    ↓State.raiseLimited_keeps]

theorem State.refuseReq_keeps {z0 : State} {code link : Nat} {s : State} (hz : Keeps z0 s) : Keeps z0 (State.refuseReq code link s) := by
  unfold State.refuseReq
  simp (maxDischargeDepth := 60) only [hz, ↓Keeps.ite, ↓State.refuse_keeps]

theorem State.createQp_keeps {z0 : State} {f : RxFrame} {sd tenant pkey mtu depth psn : Nat} {priv : List Byte} {s : State} (hz
    : Keeps z0 s) : Keeps z0 (State.createQp f sd tenant pkey mtu depth psn priv s) := by
  unfold State.createQp
  simp (maxDischargeDepth := 60) only [hz, ↓Keeps.ite, ↓State.cacheQp_keeps, ↓State.sendHost_keeps, ↓State.setQp_keeps, ↓State.setQueue_keeps]

theorem State.rxPacket_keeps {z0 : State} {f : RxFrame} {qpn pkey psn : Nat} {kind : PktKind} {sram : List Nat} {s : State} (hz
    : Keeps z0 s) : Keeps z0 (State.rxPacket f qpn pkey psn kind sram s) := by
  unfold State.rxPacket
  simp (maxDischargeDepth := 60) only [hz, ↓Keeps.ite, ↓State.rxFrame_keeps, ↓State.takePacket_keeps]

theorem State.syncQpLimit_keeps {z0 : State} {s : State} (hz : Keeps z0 s) : Keeps z0 (State.syncQpLimit s) := by
  unfold State.syncQpLimit
  simp (maxDischargeDepth := 60) only [hz, ↓Keeps.upd, Keeps.refl, implies_true, le_refl, ↓State.raise_keeps, ↓State.when_keeps]

theorem State.raiseWord_keeps {z0 : State} {line : Nat} {word : List (Nat × List Nat)} {s : State} (hz : Keeps z0 s)
    : Keeps z0 (State.raiseWord line word s) := by
  unfold State.raiseWord
  simp (maxDischargeDepth := 60) only [hz, Keeps.refl, implies_true, ↓State.forEach_keeps, ↓State.raise_keeps]

theorem State.readLine_keeps {z0 : State} {line : Nat} {link : Option Nat} {word : List (Nat × List Nat)} {s : State} (hz : Keeps z0 s)
    : Keeps z0 (State.readLine line link word s) := by
  unfold State.readLine
  simp (maxDischargeDepth := 60) only [hz, ↓Keeps.ite, ↓Keeps.upd, le_refl, ↓State.raiseWord_keeps]

theorem State.retryLines_keeps {z0 : State} {k : Nat} {s : State} (hz : Keeps z0 s) : Keeps z0 (State.retryLines k s) := by
  unfold State.retryLines
  simp (maxDischargeDepth := 60) only [hz, ↓Keeps.upd, Keeps.refl, implies_true, le_refl, ↓State.forEach_keeps, ↓State.raiseWord_keeps]

theorem State.sweepConds_keeps {z0 : State} {s : State} (hz : Keeps z0 s) : Keeps z0 (State.sweepConds s) := by
  unfold State.sweepConds
  simp (maxDischargeDepth := 60) only [hz, ↓Keeps.ite, Keeps.refl, implies_true, ↓State.endCond_keeps, ↓State.forEach_keeps]

theorem State.blockReaction_keeps {z0 : State} {n : Nat} {s : State} (hz : Keeps z0 s) : Keeps z0 (State.blockReaction n s) := by
  unfold State.blockReaction
  simp (maxDischargeDepth := 60) only [hz, ↓Keeps.ite, ↓State.channelService_keeps, ↓State.ethLeaves_keeps, ↓State.guestRestart_keeps,
    ↓State.pathLeaves_keeps, ↓State.portLeaves_keeps, ↓State.put_keeps, ↓State.reeveReset_keeps]

theorem State.quarantineReaction_keeps {z0 : State} {s : State} (hz : Keeps z0 s) : Keeps z0 (State.quarantineReaction s) := by
  unfold State.quarantineReaction
  simp (maxDischargeDepth := 60) only [hz, ↓Keeps.ite, ↓Keeps.upd, le_refl, ↓State.enterQuarantine_keeps]

theorem State.reactTo_keeps {z0 : State} {e : Nat × Nat} {s : State} (hz : Keeps z0 s) : Keeps z0 (State.reactTo e s) := by
  unfold State.reactTo
  split <;> simp (maxDischargeDepth := 60) only [hz, ↓State.blockReaction_keeps, ↓State.chipReaction_keeps, ↓State.quarantineReaction_keeps]

theorem State.react_keeps {z0 : State} {n : Nat} {s : State} (hz : Keeps z0 s) : Keeps z0 (State.react n s) := by
  induction n generalizing s with
  | zero => exact hz
  | succ n ih =>
    unfold State.react
    split
    · exact hz
    · exact ih (State.reactTo_keeps hz.upd)

theorem State.copyAsk_keeps {z0 : State} {q seq a n : Nat} {sram : List Nat} {s : State} (hz : Keeps z0 s)
    : Keeps z0 (State.copyAsk q seq a n sram s) := by
  unfold State.copyAsk
  refine State.forEach_keeps hz fun l t => ?_
  split
  · exact Keeps.ite (Keeps.refl t) (State.presentRead_keeps (Keeps.refl t))
  · exact Keeps.refl t

theorem State.endCopy_keeps {z0 : State} {q : Nat} {o : OpRec} {status detail : Nat} {s : State} (hz : Keeps z0 s)
    : Keeps z0 (State.endCopy q o status detail s) := by
  unfold State.endCopy
  simp (maxDischargeDepth := 60) only [hz, ↓State.completeOp_keeps]

theorem State.refuseCopy_keeps {z0 : State} {q : Nat} {o : OpRec} {chk a : Nat} {s : State} (hz : Keeps z0 s)
    : Keeps z0 (State.refuseCopy q o chk a s) := by
  unfold State.refuseCopy
  simp (maxDischargeDepth := 60) only [hz, ↓State.endCopy_keeps, ↓State.refuse_keeps]

theorem State.copyWrite_keeps {z0 : State} {q seq a n v : Nat} {s : State} (hz : Keeps z0 s) : Keeps z0 (State.copyWrite q seq a n v s) := by
  unfold State.copyWrite
  simp (maxDischargeDepth := 60) only [hz, ↓State.presentWrite_keeps]

theorem State.copyLines_keeps {z0 : State} {q seq : Nat} {sram : List Nat} {n : Nat} {s : State} (hz : Keeps z0 s) :
    Keeps z0 (State.copyLines q seq sram n s) := by
  induction n generalizing s with
  | zero => exact hz
  | succ n ih =>
    unfold State.copyLines
    split
    · exact hz
    · rename_i o _
      obtain ⟨dst, src, len⟩ := copyOperands o.desc
      dsimp only
      refine Keeps.ite hz ?_
      cases s.opFailed q seq with
      | some st => exact State.endCopy_keeps hz.upd
      | none =>
        dsimp only
        refine Keeps.ite (State.refuseCopy_keeps hz) (Keeps.ite (State.refuseCopy_keeps hz) ?_)
        cases src with
        | none => exact ih (State.copyWrite_keeps hz)
        | some p =>
          dsimp only
          split
          · exact State.copyAsk_keeps hz
          · exact ih (State.copyWrite_keeps (State.copyAsk_keeps hz))
          · exact State.endCopy_keeps (State.copyAsk_keeps hz)

theorem State.startCopy_keeps {z0 : State} {q : Nat} {o : OpRec} {sram : List Nat} {s : State} (hz : Keeps z0 s)
    : Keeps z0 (State.startCopy q o sram s) := by
  unfold State.startCopy
  simp (maxDischargeDepth := 60) only [hz, ↓Keeps.ite, ↓State.completeOp_keeps, ↓State.copyLines_keeps, ↓State.refuse_keeps, ↓State.setOp_keeps]

theorem State.resumeCopy_keeps {z0 : State} {q seq : Nat} {sram : List Nat} {s : State} (hz : Keeps z0 s)
    : Keeps z0 (State.resumeCopy q seq sram s) := by
  unfold State.resumeCopy
  split <;> simp (maxDischargeDepth := 60) only [hz, ↓Keeps.ite, ↓State.copyLines_keeps]

theorem State.endWait_keeps {z0 : State} {q : Nat} {o : OpRec} {status rb : Nat} {s : State} (hz : Keeps z0 s)
    : Keeps z0 (State.endWait q o status rb s) := by
  unfold State.endWait
  simp (maxDischargeDepth := 60) only [hz, ↓State.completeOp_keeps, ↓State.resumeFetch_keeps]

theorem State.testWait_keeps {z0 : State} {q : Nat} {o : OpRec} {s : State} (hz : Keeps z0 s) : Keeps z0 (State.testWait q o s) := by
  unfold State.testWait
  simp (maxDischargeDepth := 60) only [hz, ↓Keeps.ite, ↓State.endWait_keeps]

theorem State.abortOp_keeps {z0 : State} {t : Nat} {o : OpRec} {s : State} (hz : Keeps z0 s) : Keeps z0 (State.abortOp t o s) := by
  unfold State.abortOp
  simp (maxDischargeDepth := 60) only [hz, ↓Keeps.ite, ↓Keeps.upd, le_refl, ↓State.completeOp_keeps, ↓State.resumeFetch_keeps]

theorem State.abortTarget_keeps {z0 : State} {t : Nat} {o : OpRec} {s : State} (hz : Keeps z0 s) : Keeps z0 (State.abortTarget t o s) := by
  unfold State.abortTarget
  split <;> simp (maxDischargeDepth := 60) only [hz, ↓Keeps.ite, ↓Keeps.upd, le_refl, ↓State.abortOp_keeps, ↓State.kerupSend_keeps]

theorem State.abortOne_keeps {z0 : State} {q : Nat} {o : OpRec} {t : Nat} {s : State} (hz : Keeps z0 s) : Keeps z0 (State.abortOne q o t s) := by
  unfold State.abortOne
  try dsimp only
  (repeat' split) <;> simp (maxDischargeDepth := 60) only [hz, ↓State.abortTarget_keeps, ↓State.completeOp_keeps, ↓State.setOp_keeps,
    ↓State.setQueue_keeps]

theorem State.abortQueue_keeps {z0 : State} {q : Nat} {o : OpRec} {t : Nat} {s : State} (hz : Keeps z0 s) : Keeps z0 (State.abortQueue q o t s) := by
  unfold State.abortQueue
  simp (maxDischargeDepth := 60) only [hz, ↓Keeps.ite, Keeps.refl, implies_true, ↓State.abortTarget_keeps, ↓State.completeOp_keeps,
    ↓State.forEach_keeps, ↓State.resumeFetch_keeps, ↓State.setOp_keeps, ↓State.setQueue_keeps]

theorem State.widenScope_keeps {z0 : State} {key seq : Nat} {s : State} (hz : Keeps z0 s) : Keeps z0 (State.widenScope key seq s) := by
  unfold State.widenScope
  simp (maxDischargeDepth := 60) only [hz, ↓Keeps.upd, le_refl]

theorem State.noteLocal_keeps {z0 : State} {key psn : Nat} {s : State} (hz : Keeps z0 s) : Keeps z0 (State.noteLocal key psn s) := by
  unfold State.noteLocal
  simp (maxDischargeDepth := 60) only [hz, ↓Keeps.upd, le_refl]

theorem State.completeWrite_keeps {z0 : State} {w : WriteRec} {s : State} (hz : Keeps z0 s) : Keeps z0 (State.completeWrite w s) := by
  unfold State.completeWrite
  try dsimp only
  (repeat' split) <;> simp (maxDischargeDepth := 60) only [hz, Keeps.refl, implies_true, ↓State.emit_keeps, ↓State.kerupSend_keeps,
    ↓State.noteLocal_keeps, ↓State.traceEnd_keeps, ↓State.when_keeps, ↓State.widenScope_keeps]

theorem State.completeWrites_keeps {z0 : State} {s : State} (hz : Keeps z0 s) : Keeps z0 (State.completeWrites s) := by
  unfold State.completeWrites
  simp (maxDischargeDepth := 60) only [hz, ↓Keeps.upd, Keeps.refl, implies_true, le_refl, ↓State.completeWrite_keeps, ↓State.forEach_keeps]

theorem State.releaseReads_keeps {z0 : State} {s : State} (hz : Keeps z0 s) : Keeps z0 (State.releaseReads s) := by
  unfold State.releaseReads
  simp (maxDischargeDepth := 60) only [hz, ↓Keeps.upd, Keeps.refl, implies_true, le_refl, ↓State.answerRead_keeps, ↓State.forEach_keeps,
    ↓State.traceEnd_keeps]

theorem State.tellRefused_keeps {z0 : State} {s : State} (hz : Keeps z0 s) : Keeps z0 (State.tellRefused s) := by
  unfold State.tellRefused
  dsimp only
  refine State.forEach_keeps hz.upd fun e t => ?_
  split
  · exact State.kerupSend_keeps (Keeps.refl t).upd
  · exact State.raise_keeps (Keeps.refl t)
  · exact Keeps.refl t

theorem State.fenceStops_keeps {z0 : State} {s : State} (hz : Keeps z0 s) : Keeps z0 (State.fenceStops s) := by
  unfold State.fenceStops
  split
  · exact hz
  · dsimp only
    refine State.forEach_keeps (State.forEach_keeps hz.upd fun w t => ?_) fun e t =>
      State.forEach_keeps (Keeps.refl t) fun o u => State.endCopy_keeps (Keeps.refl u)
    split
    · exact State.kerupSend_keeps (Keeps.refl t)
    · exact (Keeps.refl t).upd
    · exact Keeps.refl t

theorem State.settleOp_keeps {z0 : State} {q : Nat} {o : OpRec} {s : State} (hz : Keeps z0 s) : Keeps z0 (State.settleOp q o s) := by
  unfold State.settleOp
  split <;> simp (maxDischargeDepth := 60) only [hz, ↓Keeps.ite, ↓State.completeOp_keeps, ↓State.resumeFetch_keeps]

theorem State.settleQueues_keeps {z0 : State} {s : State} (hz : Keeps z0 s) : Keeps z0 (State.settleQueues s) := by
  unfold State.settleQueues
  simp (maxDischargeDepth := 60) only [hz, ↓Keeps.ite, Keeps.refl, implies_true, ↓State.advanceHorizon_keeps, ↓State.forEach_keeps,
    ↓State.settleOp_keeps]

theorem State.settleLsa_keeps {z0 : State} {s : State} (hz : Keeps z0 s) : Keeps z0 (State.settleLsa s) := by
  unfold State.settleLsa
  simp (maxDischargeDepth := 60) only [hz, ↓Keeps.ite, Keeps.refl, implies_true, ↓State.emit_keeps, ↓State.forEach_keeps, ↓State.setLd_keeps]

theorem State.resumeCopies_keeps {z0 : State} {s : State} (hz : Keeps z0 s) : Keeps z0 (State.resumeCopies s) := by
  unfold State.resumeCopies
  simp (maxDischargeDepth := 60) only [hz, Keeps.refl, implies_true, ↓State.forEach_keeps, ↓State.resumeCopy_keeps]

theorem State.answerAll_keeps {z0 : State} {s : State} (hz : Keeps z0 s) : Keeps z0 (State.answerAll s) := by
  unfold State.answerAll
  simp (maxDischargeDepth := 60) only [hz, ↓Keeps.ite, ↓State.completeWrites_keeps, ↓State.drainHeld_keeps, ↓State.fenceStops_keeps,
    ↓State.releaseReads_keeps, ↓State.resumeCopies_keeps, ↓State.settleLsa_keeps, ↓State.settleQueues_keeps, ↓State.tellRefused_keeps]

theorem State.tellRestored_keeps {z0 : State} {s : State} (hz : Keeps z0 s) : Keeps z0 (State.tellRestored s) := by
  unfold State.tellRestored
  simp (maxDischargeDepth := 60) only [hz, ↓Keeps.ite, ↓Keeps.upd, Keeps.refl, implies_true, le_refl, ↓State.forEach_keeps, ↓State.recordLine_keeps]

theorem State.tryActivate_keeps {z0 : State} {s : State} (hz : Keeps z0 s) : Keeps z0 (State.tryActivate s) := by
  unfold State.tryActivate
  simp (maxDischargeDepth := 60) only [hz, ↓Keeps.ite, ↓State.reeveReset_keeps]

theorem State.settleCauseway_keeps {z0 : State} {s : State} (hz : Keeps z0 s) : Keeps z0 (State.settleCauseway s) := by
  unfold State.settleCauseway
  simp (maxDischargeDepth := 60) only [hz, ↓State.beginCutover_keeps, ↓State.commitAcked_keeps, ↓State.commitTables_keeps,
    ↓State.grantCredits_keeps, ↓State.leaveService_keeps, ↓State.noteCopyDone_keeps, ↓State.serveRepairs_keeps, ↓State.tryPaired_keeps]

theorem State.settleStore_keeps {z0 : State} {s : State} (hz : Keeps z0 s) : Keeps z0 (State.settleStore s) := by
  unfold State.settleStore
  simp (maxDischargeDepth := 60) only [hz, Keeps.refl, implies_true, ↓State.checkPinFills_keeps, ↓State.checkRotateOps_keeps,
    ↓State.checkTenantGone_keeps, ↓State.forEach_keeps, ↓State.giveFrames_keeps, ↓State.releaseKeyWaits_keeps, ↓State.tellRestored_keeps]

theorem State.settle_keeps {z0 : State} {s : State} (hz : Keeps z0 s) : Keeps z0 (State.settle s) := by
  unfold State.settle
  simp (maxDischargeDepth := 60) only [hz, Keeps.refl, implies_true, ↓State.answerAll_keeps, ↓State.autoRamp_keeps, ↓State.checkDrains_keeps,
    ↓State.lowerStep_keeps, ↓State.pump_keeps, ↓State.rdmaAnswers_keeps, ↓State.react_keeps, ↓State.reapQueues_keeps, ↓State.returnChannels_keeps,
      ↓State.returnCredits_keeps, ↓State.sendFull_keeps, ↓State.settleCauseway_keeps, ↓State.settleStore_keeps, ↓State.sluice_keeps,
      ↓State.sweepConds_keeps, ↓State.sweepGuestOps_keeps, ↓State.syncQpLimit_keeps, ↓State.syncWindow_keeps, ↓State.trainPaths_keeps,
      ↓State.tryActivate_keeps, ↓State.tryAssay_keeps, ↓State.when_keeps]

theorem finish_keeps {z0 s : State} (hz : Keeps z0 s) : Kept z0 (finish s) := Kept.next (State.settle_keeps hz)

theorem State.adcResult_keeps {z0 : State} {c range : Nat} {ranged : Bool} {v : Nat} {s : State} (hz : Keeps z0 s)
    : Keeps z0 (State.adcResult c range ranged v s) := by
  unfold State.adcResult
  simp (maxDischargeDepth := 60) only [hz, ↓Keeps.ite, ↓State.put_keeps]

theorem State.bankVoltage_keeps {z0 : State} {uv : Nat} {ranged : Bool} {s : State} (hz : Keeps z0 s) : Keeps z0 (State.bankVoltage uv ranged s) := by
  unfold State.bankVoltage
  simp (maxDischargeDepth := 60) only [hz, ↓Keeps.upd, le_refl]

theorem State.bankCurrent_keeps {z0 : State} {ua : Nat} {ranged : Bool} {s : State} (hz : Keeps z0 s) : Keeps z0 (State.bankCurrent ua ranged s) := by
  unfold State.bankCurrent
  simp (maxDischargeDepth := 60) only [hz, ↓Keeps.upd, le_refl]

theorem State.adcUse_keeps {z0 : State} {c uv : Nat} {ranged : Bool} {s : State} (hz : Keeps z0 s) : Keeps z0 (State.adcUse c uv ranged s) := by
  unfold State.adcUse
  simp (maxDischargeDepth := 60) only [hz, ↓Keeps.ite, ↓State.bankCurrent_keeps, ↓State.bankVoltage_keeps, ↓State.railConversion_keeps,
    ↓State.vauxConversion_keeps]

theorem State.trackClear_keeps {z0 : State} {s : State} (hz : Keeps z0 s) : Keeps z0 (State.trackClear s) := by
  unfold State.trackClear
  simp (maxDischargeDepth := 60) only [hz, Keeps.refl, implies_true, ↓State.forEach_keeps, ↓State.put_keeps]

theorem State.rollWindows_keeps {z0 : State} {s : State} (hz : Keeps z0 s) : Keeps z0 (State.rollWindows s) := by
  unfold State.rollWindows
  simp (maxDischargeDepth := 60) only [hz, ↓Keeps.upd, le_refl]

theorem State.startLimit_keeps {z0 : State} {t rate : Nat} {s : State} (hz : Keeps z0 s) : Keeps z0 (State.startLimit t rate s) := by
  unfold State.startLimit
  simp (maxDischargeDepth := 60) only [hz, ↓Keeps.ite, Keeps.refl, implies_true, ↓State.forEach_keeps, ↓State.noticeTo_keeps, ↓State.setQueue_keeps]

theorem State.recomputeShares_keeps {z0 : State} {s : State} (hz : Keeps z0 s) : Keeps z0 (State.recomputeShares s) := by
  unfold State.recomputeShares
  try dsimp only
  (repeat' split) <;> simp (maxDischargeDepth := 60) only [hz, ↓Keeps.upd, Keeps.refl, implies_true, le_refl, ↓State.bump_keeps,
    ↓State.endLimits_keeps, ↓State.forEach_keeps, ↓State.put_keeps, ↓State.rollWindows_keeps, ↓State.startLimit_keeps]

theorem State.takeBankId_keeps {z0 : State} {record : Nat} {s : State} (hz : Keeps z0 s) : Keeps z0 (State.takeBankId record s) := by
  unfold State.takeBankId
  simp (maxDischargeDepth := 60) only [hz, ↓Keeps.ite, ↓Keeps.upd, Keeps.refl, implies_true, le_refl, ↓State.endCond_keeps, ↓State.forEach_keeps,
    ↓State.put_keeps]

theorem State.requestAssay_keeps {z0 : State} {s : State} (hz : Keeps z0 s) : Keeps z0 (State.requestAssay s) := by
  unfold State.requestAssay
  simp (maxDischargeDepth := 60) only [hz, ↓Keeps.ite, ↓Keeps.upd, le_refl, ↓State.tryAssay_keeps]

theorem State.lifeSecond_keeps {z0 : State} {s : State} (hz : Keeps z0 s) : Keeps z0 (State.lifeSecond s) := by
  unfold State.lifeSecond
  split <;> simp (maxDischargeDepth := 60) only [hz, ↓Keeps.upd, Keeps.refl, implies_true, le_refl, ↓State.bermDraw_keeps, ↓State.when_keeps]

theorem State.fcRaise_keeps {z0 : State} {n : Nat} {s : State} (hz : Keeps z0 s) : Keeps z0 (State.fcRaise n s) := by
  unfold State.fcRaise
  simp (maxDischargeDepth := 60) only [hz, ↓Keeps.ite, ↓State.raise_keeps]

theorem State.pinClear_keeps {z0 : State} {s : State} (hz : Keeps z0 s) : Keeps z0 (State.pinClear s) := by
  unfold State.pinClear
  simp (maxDischargeDepth := 60) only [hz, ↓Keeps.ite, ↓Keeps.upd, le_refl]

theorem State.writeRecs_keeps {z0 : State} {rs : List EvRec} {s t : State} (h : s.writeRecs rs = some t) (hz : Keeps z0 s) : Keeps z0 t := by
  unfold State.writeRecs at h
  split at h
  · exact Option.some.inj h ▸ hz
  · split at h
    · exact absurd h (by simp)
    · exact Option.some.inj h ▸ State.bump_keeps hz.upd

theorem State.writeLoss_keeps {z0 : State} {s t : State} (h : s.writeLoss = some t) (hz : Keeps z0 s) : Keeps z0 t := by
  unfold State.writeLoss at h
  dsimp only at h
  split at h
  · exact Option.some.inj h ▸ hz
  · split at h
    · obtain ⟨u, hu, rfl⟩ := Option.map_eq_some_iff.1 h
      exact (State.writeRecs_keeps hu hz).upd
    · exact Option.some.inj h ▸ hz

theorem State.entryDone_keeps {z0 : State} {e : EvEntry} {s : State} (hz : Keeps z0 s) : Keeps z0 (State.entryDone e s) := by
  unfold State.entryDone
  have k1 : Keeps z0 (match s.fc.aon with
      | _ :: t => { s with fc := { s.fc with aon := t } }
      | [] => { s with fc := { s.fc with queue := s.fc.queue.drop 1 } }) := by
    split
    · rename_i t ht
      exact hz.upd le_rfl (by simp only [ht, List.length_cons]; omega)
    · exact hz.upd (by simp only [List.length_drop]; omega) le_rfl
  exact Keeps.ite (Keeps.ite (State.ackSource_keeps k1) k1) (State.raise_keeps (Keeps.upd (Keeps.ite (State.ackSource_keeps k1) k1)))

theorem State.recordEntry_keeps {z0 : State} {e : EvEntry} {s : State} (hz : Keeps z0 s) : Keeps z0 (State.recordEntry e s) := by
  unfold State.recordEntry
  dsimp only
  split
  · exact State.entryDone_keeps (State.bump_keeps hz.upd)
  · split
    · exact hz
    · rename_i s1 h1
      have k1 := State.writeLoss_keeps h1 hz
      split
      · split
        · exact k1
        · rename_i s2 h2
          exact State.entryDone_keeps (State.writeRecs_keeps h2 k1).upd
      · exact State.entryDone_keeps (State.raiseLimited_keeps (State.bump_keeps k1.upd))

theorem State.cutWrite_keeps {z0 : State} {e : EvEntry} {s : State} (hz : Keeps z0 s) : Keeps z0 (State.cutWrite e s) := by
  unfold State.cutWrite
  try dsimp only
  (repeat' split) <;> simp (maxDischargeDepth := 60) only [hz, ↓Keeps.upd, le_refl]

theorem State.cfgAccess_keeps {z0 : State} {n : Nat} {ask : CfgAsk} {s : State} (hz : Keeps z0 s) : Keeps z0 (State.cfgAccess n ask s) := by
  unfold State.cfgAccess
  split <;> simp (maxDischargeDepth := 60) only [hz, ↓State.maskMsix_keeps, ↓State.setLd_keeps]

theorem State.portService_keeps {z0 : State} {p : Nat} {service : Bool} {s : State} (hz : Keeps z0 s) : Keeps z0 (State.portService p service s) := by
  unfold State.portService
  simp (maxDischargeDepth := 60) only [hz, ↓Keeps.ite, ↓State.portLeaves_keeps, ↓State.portReturns_keeps, ↓State.put_keeps]

theorem State.bindRestore_keeps {z0 : State} {l : Nat} {s : State} (hz : Keeps z0 s) : Keeps z0 (State.bindRestore l s) := by
  unfold State.bindRestore
  simp (maxDischargeDepth := 60) only [hz, ↓Keeps.ite, Keeps.refl, implies_true, ↓State.forEach_keeps, ↓State.put_keeps, ↓State.setActive_keeps]

theorem State.takeCxlWrite_keeps {z0 : State} {l : Nat} {w : WriteReq} {s : State} (hz : Keeps z0 s) : Keeps z0 (State.takeCxlWrite l w s) := by
  unfold State.takeCxlWrite
  simp (maxDischargeDepth := 60) only [hz, ↓Keeps.ite, ↓State.presentWrite_keeps, ↓State.setLink_keeps]

theorem State.cxlWrite_keeps {z0 : State} {l ldid tag dpa : Nat} {data : Granule} {enables : BitVec 64} {poison sramBad : Bool} {s : State}
    (hz : Keeps z0 s) : Keeps z0 (State.cxlWrite l ldid tag dpa data enables poison sramBad s) := by
  unfold State.cxlWrite
  split <;> simp (maxDischargeDepth := 60) only [hz, ↓Keeps.ite, ↓State.emit_keeps, ↓State.refuseCxlWrite_keeps, ↓State.takeCxlWrite_keeps]

theorem State.clearFault_keeps {z0 : State} {n : Nat} {s : State} (hz : Keeps z0 s) : Keeps z0 (State.clearFault n s) := by
  unfold State.clearFault
  simp (maxDischargeDepth := 60) only [hz, ↓Keeps.ite, ↓State.placeModule_keeps, ↓State.put_keeps]

theorem State.tracerClear_keeps {z0 : State} {s : State} (hz : Keeps z0 s) : Keeps z0 (State.tracerClear s) := by
  unfold State.tracerClear
  simp (maxDischargeDepth := 60) only [hz, Keeps.refl, implies_true, ↓State.forEach_keeps, ↓State.put_keeps]

theorem State.guestMsg_keeps {z0 : State} {p cls n : Nat} {s : State} (hz : Keeps z0 s) : Keeps z0 (State.guestMsg p cls n s) := by
  unfold State.guestMsg
  simp (maxDischargeDepth := 60) only [hz, Keeps.refl, implies_true, ↓State.hubTakes_keeps, ↓State.when_keeps]

theorem State.guestErr_keeps {z0 : State} {p tag code : Nat} {s : State} (hz : Keeps z0 s) : Keeps z0 (State.guestErr p tag code s) := by
  unfold State.guestErr
  simp (maxDischargeDepth := 60) only [hz, ↓State.kerupSend_keeps]

theorem State.guestRequest_keeps {z0 : State} {p tag handle grant a len : Nat} {write : Bool} {act : State → State} {s : State} (hz : Keeps z0 s)
    (hf : ∀ t, Keeps t (act t)) : Keeps z0 (s.guestRequest p tag handle grant a len write act) := by
  unfold State.guestRequest
  extract_lets m s0 t g s1 c
  have hm : Keeps z0 m := State.guestMsg_keeps hz
  clear_value m
  refine Keeps.ite hm (Keeps.ite (State.guestProtocol_keeps hm) (Keeps.ite
    (State.guestProtocol_keeps (State.guestErr_keeps (State.addReq_keeps hm))) ?_))
  refine Keeps.ite (State.guestErr_keeps (State.refuse_keeps (State.addReq_keeps hm))) ?_
  refine Keeps.ite (State.guestErr_keeps (State.bump_keeps (State.refuse_keeps (State.addReq_keeps hm)))) ?_
  refine Keeps.ite (State.guestErr_keeps (State.addReq_keeps hm)) ?_
  exact Keeps.ite ((State.addReq_keeps hm).trans (hf _)) (State.guestErr_keeps (State.refuse_keeps (State.addReq_keeps hm)))

theorem State.guestRead_keeps {z0 : State} {p tag handle grant a len : Nat} {sramBad : Bool} {s : State} (hz : Keeps z0 s)
    : Keeps z0 (State.guestRead p tag handle grant a len sramBad s) := by
  unfold State.guestRead
  simp (maxDischargeDepth := 60) only [hz, Keeps.refl, implies_true, ↓State.guestRequest_keeps, ↓State.presentRead_keeps]

theorem State.guestWrite_keeps {z0 : State} {p tag handle grant a len : Nat} {mask : BitVec 256} {data : LineData} {sramBad : Bool} {s : State}
    (hz : Keeps z0 s) : Keeps z0 (State.guestWrite p tag handle grant a len mask data sramBad s) := by
  unfold State.guestWrite
  simp (maxDischargeDepth := 60) only [hz, Keeps.refl, implies_true, ↓State.guestRequest_keeps, ↓State.presentWrite_keeps]

theorem State.guestGranule_keeps {z0 : State} {p tag handle grant a : Nat} {mask : BitVec 64} {data : Granule} {sramBad : Bool} {s : State}
    (hz : Keeps z0 s) : Keeps z0 (State.guestGranule p tag handle grant a mask data sramBad s) := by
  unfold State.guestGranule
  simp (maxDischargeDepth := 60) only [hz, ↓State.guestWrite_keeps]

theorem State.submitGuest_keeps {z0 : State} {o : GuestOp} {s : State} (hz : Keeps z0 s) : Keeps z0 (State.submitGuest o s) := by
  unfold State.submitGuest
  split <;> simp (maxDischargeDepth := 60) only [hz, ↓Keeps.upd, le_refl, ↓State.bump_keeps, ↓State.countOps_keeps, ↓State.kerupSend_keeps]

theorem State.guestTrained_keeps {z0 : State} {s : State} (hz : Keeps z0 s) : Keeps z0 (State.guestTrained s) := by
  unfold State.guestTrained
  simp (maxDischargeDepth := 60) only [hz, ↓Keeps.ite, ↓State.guestCheck_keeps]

theorem State.badMessages_keeps {z0 : State} {p : Nat} {bad : List Nat} {s : State} (hz : Keeps z0 s) : Keeps z0 (State.badMessages p bad s) := by
  unfold State.badMessages
  simp (maxDischargeDepth := 60) only [hz, ↓Keeps.ite, Keeps.refl, implies_true, ↓State.addReq_keeps, ↓State.forEach_keeps, ↓State.guestErr_keeps,
    ↓State.guestProtocol_keeps]

theorem State.endAccess_keeps {z0 : State} {x : GuestAccess} {v : Nat} {s : State} (hz : Keeps z0 s) : Keeps z0 (State.endAccess x v s) := by
  unfold State.endAccess
  simp (maxDischargeDepth := 60) only [hz, ↓Keeps.ite, ↓Keeps.upd, le_refl, ↓State.emit_keeps]

theorem State.gregStart_keeps {z0 : State} {off : Nat} {write : Bool} {value : Nat} {mgmt : Bool} {s : State} (hz : Keeps z0 s)
    : Keeps z0 (State.gregStart off write value mgmt s) := by
  unfold State.gregStart
  simp (maxDischargeDepth := 60) only [hz, ↓Keeps.upd, le_refl, ↓State.kerupSend_keeps]

theorem State.cipherRefused_keeps {z0 : State} {s : State} (hz : Keeps z0 s) : Keeps z0 (State.cipherRefused s) := by
  unfold State.cipherRefused
  simp (maxDischargeDepth := 60) only [hz, ↓State.bump_keeps, ↓State.raise_keeps]

theorem State.unwrap_keeps {z0 : State} {o : OpRec} {tagOk : Bool} {s : State} (hz : Keeps z0 s) : Keeps z0 (State.unwrap o tagOk s).2 := by
  unfold State.unwrap
  simp (maxDischargeDepth := 60) only [hz, ↓Keeps.ite_snd, ↓Keeps.upd, le_refl, ↓State.cipherRefused_keeps]

theorem State.startRotations_keeps {z0 : State} {q : Nat} {o : OpRec} {rs : List Nat} {s : State} (hz : Keeps z0 s)
    : Keeps z0 (State.startRotations q o rs s) := by
  unfold State.startRotations
  simp (maxDischargeDepth := 60) only [hz, ↓Keeps.foldl_snd, Keeps.refl, implies_true, ↓State.drawGen_keeps, ↓State.drawSalt_keeps,
    ↓State.postKey_keeps, ↓State.setOp_keeps]

theorem State.sweepLine_keeps {z0 : State} {r : Region} {line : Nat} {v : LineVerdict} {s : State} (hz : Keeps z0 s)
    : Keeps z0 (State.sweepLine r line v s) := by
  unfold State.sweepLine
  simp (maxDischargeDepth := 60) only [hz, ↓Keeps.ite, ↓State.allocLine_keeps, ↓State.bump_keeps, ↓State.commitLine_keeps,
    ↓State.extentLookup_keeps, ↓State.grant_keeps, ↓State.tagFailed_keeps, ↓State.uncorrectable_keeps]

theorem State.sweepLines_keeps {z0 : State} {r : Region} {bad : List (Nat × LineVerdict)} {l : List Nat} {s : State} (hz : Keeps z0 s) :
    Keeps z0 (State.sweepLines r bad l s).2 := by
  induction l generalizing s with
  | nil => exact hz
  | cons a t ih =>
    unfold State.sweepLines
    split
    · exact hz
    · exact ih (State.sweepLine_keeps hz)

theorem State.endRotation_keeps {z0 : State} {idx : Nat} {s : State} (hz : Keeps z0 s) : Keeps z0 (State.endRotation idx s) := by
  unfold State.endRotation
  simp (maxDischargeDepth := 60) only [hz, ↓Keeps.ite, ↓State.changeRegion_keeps]

theorem State.flipWrite_keeps {z0 : State} {f : Nat} {s : State} (hz : Keeps z0 s) : Keeps z0 (State.flipWrite f s) := by
  unfold State.flipWrite
  simp (maxDischargeDepth := 60) only [hz, ↓Keeps.ite, ↓Keeps.upd, le_refl, ↓State.put_keeps]

theorem State.flipRead_keeps {z0 : State} {f : Nat} {works : Bool} {s : State} (hz : Keeps z0 s) : Keeps z0 (State.flipRead f works s) := by
  unfold State.flipRead
  simp (maxDischargeDepth := 60) only [hz, ↓Keeps.ite, ↓Keeps.upd, le_refl, ↓State.draw_keeps, ↓State.put_keeps, ↓State.raise_keeps]

theorem State.clearKsData_keeps {z0 : State} {s : State} (hz : Keeps z0 s) : Keeps z0 (State.clearKsData s) := by
  unfold State.clearKsData
  simp (maxDischargeDepth := 60) only [hz, Keeps.refl, implies_true, ↓State.forEach_keeps, ↓State.put_keeps]

theorem State.ksLoad_keeps {z0 : State} {s : State} (hz : Keeps z0 s) : Keeps z0 (State.ksLoad s) := by
  unfold State.ksLoad
  simp (maxDischargeDepth := 60) only [hz, ↓Keeps.ite, ↓Keeps.upd, le_refl, ↓State.clearKsData_keeps, ↓State.flipWrite_keeps, ↓State.put_keeps,
    ↓State.putKeys_keeps]

theorem State.ksDestroy_keeps {z0 : State} {s : State} (hz : Keeps z0 s) : Keeps z0 (State.ksDestroy s) := by
  unfold State.ksDestroy
  simp (maxDischargeDepth := 60) only [hz, ↓Keeps.ite, ↓State.clearKsData_keeps, ↓State.clearSlot_keeps, ↓State.put_keeps]

theorem State.commitStore_keeps {z0 : State} {s : State} (hz : Keeps z0 s) : Keeps z0 (State.commitStore s) := by
  unfold State.commitStore
  simp (maxDischargeDepth := 60) only [hz, ↓Keeps.upd, le_refl, ↓State.draw_keeps, ↓State.put_keeps]

theorem State.mailbox_keeps {z0 : State} {n : Nat} {status admin : Bool} {f : State → State} {s : State} (hz : Keeps z0 s)
    (hf : ∀ t, Keeps t (f t)) : Keeps z0 (s.mailbox n status admin f) := by
  unfold State.mailbox
  split
  · exact hz
  · split_ifs
    · exact hz
    · exact State.emit_keeps hz
    · exact State.emit_keeps hz
    · exact hz.trans (hf _)

theorem State.mboxOk_keeps {z0 : State} {n : Nat} {payload : List Nat} {s : State} (hz : Keeps z0 s) : Keeps z0 (State.mboxOk n payload s) := by
  unfold State.mboxOk
  simp (maxDischargeDepth := 60) only [hz, ↓State.emit_keeps]

theorem State.setWinRec_keeps {z0 : State} {w : WinRec} {s : State} (hz : Keeps z0 s) : Keeps z0 (State.setWinRec w s).2 := by
  unfold State.setWinRec
  simp (maxDischargeDepth := 60) only [hz, ↓Keeps.ite_snd, ↓State.keepWindow_keeps, ↓State.sendFrame_keeps]

theorem State.fmReach_keeps {z0 : State} {l : Nat} {f : State → State} {s : State} (hz : Keeps z0 s)
    (hf : ∀ t, Keeps t (f t)) : Keeps z0 (s.fmReach l f) := by
  unfold State.fmReach
  split
  · exact hz.trans (hf _)
  · exact hz

theorem State.attachNew_keeps {z0 : State} {q : Nat} {o : OpRec} {r0 : Region} {s : State} (hz : Keeps z0 s)
    : Keeps z0 (State.attachNew q o r0 s) := by
  unfold State.attachNew
  simp (maxDischargeDepth := 60) only [hz, ↓State.changeRegion_keeps, ↓State.draw_keeps, ↓State.drawGen_keeps, ↓State.drawSalt_keeps,
    ↓State.postKey_keeps, ↓State.setOp_keeps]

theorem State.writeLdMap_keeps {z0 : State} {n v : Nat} {s : State} (hz : Keeps z0 s) : Keeps z0 (State.writeLdMap n v s) := by
  unfold State.writeLdMap
  simp (maxDischargeDepth := 60) only [hz, ↓State.dropUnbound_keeps, ↓State.put_keeps, ↓State.raise_keeps, ↓State.recomputeTimeouts_keeps]

theorem State.windowWritten_keeps {z0 : State} {n : Nat} {s : State} (hz : Keeps z0 s) : Keeps z0 (State.windowWritten n s) := by
  unfold State.windowWritten
  simp (maxDischargeDepth := 60) only [hz, Keeps.refl, implies_true, ↓State.dropUnbound_keeps, ↓State.raise_keeps, ↓State.recomputeTimeouts_keeps,
    ↓State.when_keeps]

theorem State.writeRingCfg_keeps {z0 : State} {n r v : Nat} {s : State} (hz : Keeps z0 s) : Keeps z0 (State.writeRingCfg n r v s) := by
  unfold State.writeRingCfg
  simp (maxDischargeDepth := 60) only [hz, ↓State.put_keeps]

theorem State.enableRing_keeps {z0 : State} {n r v : Nat} {s : State} (hz : Keeps z0 s) : Keeps z0 (State.enableRing n r v s) := by
  unfold State.enableRing
  simp (maxDischargeDepth := 60) only [hz, ↓Keeps.ite, ↓State.put_keeps, ↓State.setQueue_keeps, ↓State.writeRingCfg_keeps]

theorem State.wakeRings_keeps {z0 : State} {n mask : Nat} {s : State} (hz : Keeps z0 s) : Keeps z0 (State.wakeRings n mask s) := by
  unfold State.wakeRings
  simp (maxDischargeDepth := 60) only [hz, ↓Keeps.ite, Keeps.refl, implies_true, ↓State.forEach_keeps, ↓State.resumeFetch_keeps]

theorem State.restartQueue_keeps {z0 : State} {q : Nat} {s : State} (hz : Keeps z0 s) : Keeps z0 (State.restartQueue q s) := by
  unfold State.restartQueue
  simp (maxDischargeDepth := 60) only [hz, ↓Keeps.ite, ↓State.resumeFetch_keeps, ↓State.setQueue_keeps]

theorem State.witAccept_keeps {z0 : State} {typ : Nat} {f : WitFrame} {s : State} (hz : Keeps z0 s) : Keeps z0 (State.witAccept typ f s).2 := by
  unfold State.witAccept
  simp (maxDischargeDepth := 60) only [hz, ↓Keeps.ite_snd, ↓Keeps.upd, le_refl, ↓State.bump_keeps, ↓State.put_keeps, ↓State.raiseLimited_keeps,
    ↓State.witnessHeard_keeps]

theorem State.witFrame_keeps {z0 : State} {typ : Nat} {f : WitFrame} {act : State → State} {s : State} (hz : Keeps z0 s)
    (hf : ∀ t, Keeps t (act t)) : Keeps z0 (s.witFrame typ f act) := by
  unfold State.witFrame
  split
  · exact hz
  · dsimp only
    have hw := State.witAccept_keeps (typ := typ) (f := f) hz
    split
    · exact hw.trans (hf _)
    · exact hw

theorem State.heedStatus_keeps {z0 : State} {f : WitFrame} {s : State} (hz : Keeps z0 s) : Keeps z0 (State.heedStatus f s) := by
  unfold State.heedStatus
  try dsimp only
  (repeat' split) <;> simp (maxDischargeDepth := 60) only [hz, ↓State.endFence_keeps, ↓State.goAlone_keeps, ↓State.learnGrant_keeps,
    ↓State.request_keeps]

theorem State.heedGrant_keeps {z0 : State} {f : WitFrame} {scans : List (Nat × Nat × Nat)} {s : State} (hz : Keeps z0 s)
    : Keeps z0 (State.heedGrant f scans s) := by
  unfold State.heedGrant
  split
  · exact hz
  · split
    · exact State.takeOver_keeps hz
    · exact State.takeOver_keeps hz
    · exact State.takeOver_keeps hz
    · exact Keeps.ite (State.returnToService_keeps hz) hz
    · exact hz

theorem State.drain_keeps {z0 : State} {s : State} (hz : Keeps z0 s) : Keeps z0 (State.drain s) := by
  unfold State.drain
  simp (maxDischargeDepth := 60) only [hz, ↓Keeps.ite, ↓Keeps.upd, le_refl, ↓State.raise_keeps, ↓State.sendFrame_keeps, ↓State.setMode_keeps]

theorem State.unpairCommand_keeps {z0 : State} {s : State} (hz : Keeps z0 s) : Keeps z0 (State.unpairCommand s) := by
  unfold State.unpairCommand
  simp (maxDischargeDepth := 60) only [hz, ↓Keeps.ite, ↓Keeps.upd, le_refl, ↓State.raise_keeps, ↓State.sendFrame_keeps, ↓State.unpair_keeps]

theorem State.dropOrphans_keeps {z0 : State} {s : State} (hz : Keeps z0 s) : Keeps z0 (State.dropOrphans s) := by
  unfold State.dropOrphans
  simp (maxDischargeDepth := 60) only [hz, ↓Keeps.ite, ↓State.postKey_keeps, ↓State.raise_keeps]

theorem State.endRestore_keeps {z0 : State} {m : Mode} {s : State} (hz : Keeps z0 s) : Keeps z0 (State.endRestore m s) := by
  unfold State.endRestore
  simp (maxDischargeDepth := 60) only [hz, ↓Keeps.upd, Keeps.refl, implies_true, le_refl, ↓State.copyGuestRecord_keeps, ↓State.dropOrphans_keeps,
    ↓State.forEach_keeps, ↓State.put_keeps, ↓State.raise_keeps, ↓State.resendSends_keeps, ↓State.resumeFetch_keeps, ↓State.setMode_keeps]

theorem State.watchdogKick_keeps {z0 : State} {s : State} (hz : Keeps z0 s) : Keeps z0 (State.watchdogKick s) := by
  unfold State.watchdogKick
  simp (maxDischargeDepth := 60) only [hz, ↓Keeps.upd, le_refl]

theorem State.confirmTrial_keeps {z0 : State} {s : State} (hz : Keeps z0 s) : Keeps z0 (State.confirmTrial s) := by
  unfold State.confirmTrial
  simp (maxDischargeDepth := 60) only [hz, ↓Keeps.ite, ↓Keeps.upd, le_refl, ↓State.put_keeps, ↓State.raise_keeps]

theorem State.setBank_keeps {z0 : State} {b : Nat} {k : FlashBank} {s : State} (hz : Keeps z0 s) : Keeps z0 (State.setBank b k s) := by
  unfold State.setBank
  simp (maxDischargeDepth := 60) only [hz, ↓Keeps.upd, le_refl]

theorem State.flashErr_keeps {z0 : State} {b bit : Nat} {s : State} (hz : Keeps z0 s) : Keeps z0 (State.flashErr b bit s) := by
  unfold State.flashErr
  simp (maxDischargeDepth := 60) only [hz, ↓Keeps.ite, ↓State.put_keeps, ↓State.raiseLimited_keeps]

theorem State.breakSequence_keeps {z0 : State} {b : Nat} {s : State} (hz : Keeps z0 s) : Keeps z0 (State.breakSequence b s) := by
  unfold State.breakSequence
  simp (maxDischargeDepth := 60) only [hz, ↓State.flashErr_keeps, ↓State.setBank_keeps]

theorem State.clearErrors_keeps {z0 : State} {b : Nat} {s : State} (hz : Keeps z0 s) : Keeps z0 (State.clearErrors b s) := by
  unfold State.clearErrors
  simp (maxDischargeDepth := 60) only [hz, ↓State.put_keeps]

theorem State.flashByte_keeps {z0 : State} {b off value : Nat} {s : State} (hz : Keeps z0 s) : Keeps z0 (State.flashByte b off value s) := by
  unfold State.flashByte
  simp (maxDischargeDepth := 60) only [hz, ↓Keeps.ite, ↓State.breakSequence_keeps, ↓State.clearErrors_keeps, ↓State.flashErr_keeps,
    ↓State.setBank_keeps]

theorem State.startFlashOp_keeps {z0 : State} {b op first n : Nat} {vals : Option (List Nat)} {s : State} (hz : Keeps z0 s)
    : Keeps z0 (State.startFlashOp b op first n vals s) := by
  unfold State.startFlashOp
  simp (maxDischargeDepth := 60) only [hz, ↓Keeps.ite, Keeps.refl, implies_true, ↓State.flashErr_keeps, ↓State.put_keeps, ↓State.setBank_keeps,
    ↓State.when_keeps]

theorem State.flashOperand_keeps {z0 : State} {cmd addr value : Nat} {s : State} (hz : Keeps z0 s)
    : Keeps z0 (State.flashOperand cmd addr value s) := by
  unfold State.flashOperand
  simp (maxDischargeDepth := 60) only [hz, ↓Keeps.ite, ↓State.breakSequence_keeps, ↓State.flashErr_keeps, ↓State.setBank_keeps,
    ↓State.startFlashOp_keeps]

theorem State.freeWords_keeps {z0 : State} {ws : List Nat} {s : State} (hz : Keeps z0 s) : Keeps z0 (State.freeWords ws s) := by
  unfold State.freeWords
  simp (maxDischargeDepth := 60) only [hz, Keeps.refl, implies_true, ↓State.draw_keeps, ↓State.forEach_keeps, ↓State.programWords_keeps]

theorem State.touchSlots_keeps {z0 : State} {lo n : Nat} {s : State} (hz : Keeps z0 s) : Keeps z0 (State.touchSlots lo n s) := by
  unfold State.touchSlots
  simp (maxDischargeDepth := 60) only [hz, ↓Keeps.upd, le_refl]

theorem State.flashRead_keeps {z0 : State} {addr : Nat} {ecc : EccVerdict} {s : State} (hz : Keeps z0 s) : Keeps z0 (State.flashRead addr ecc s) := by
  unfold State.flashRead
  split <;> simp (maxDischargeDepth := 60) only [hz, ↓Keeps.ite, ↓Keeps.upd, le_refl, ↓State.breakSequence_keeps, ↓State.bump_keeps,
    ↓State.emit_keeps, ↓State.flipRead_keeps, ↓State.put_keeps, ↓State.raise_keeps]

theorem State.blowRaise_keeps {z0 : State} {s : State} (hz : Keeps z0 s) : Keeps z0 (State.blowRaise s) := by
  unfold State.blowRaise
  simp (maxDischargeDepth := 60) only [hz, ↓State.put_keeps, ↓State.syncReadout_keeps]

theorem State.loseSupplies_keeps {z0 : State} {s : State} (hz : Keeps z0 s) : Keeps z0 (State.loseSupplies s) := by
  unfold State.loseSupplies
  simp (maxDischargeDepth := 60) only [hz, ↓Keeps.upd, le_refl, Nat.zero_le, List.length_nil, ↓State.put_keeps, ↓State.resetBlocks_keeps,
    ↓State.resetRegs_keeps]

theorem State.loadFuses_keeps {z0 : State} {fuses : List (Nat × Nat)} {s : State} (hz : Keeps z0 s) : Keeps z0 (State.loadFuses fuses s) := by
  unfold State.loadFuses
  dsimp only
  refine State.put_keeps (Keeps.upd (State.forEach_keeps (State.put_keeps (State.forEach_keeps hz fun e t => ?_)) fun i t =>
    State.put_keeps (State.put_keeps (Keeps.refl t))))
  split
  · exact Keeps.ite (State.put_keeps (Keeps.refl t)) (Keeps.refl t)
  · exact Keeps.refl t

theorem State.loadPart_keeps {z0 : State} {part : Part} {s : State} (hz : Keeps z0 s) : Keeps z0 (State.loadPart part s) := by
  unfold State.loadPart
  simp (maxDischargeDepth := 60) only [hz, ↓Keeps.upd, Keeps.refl, implies_true, le_refl, ↓State.forEach_keeps, ↓State.put_keeps]

theorem State.powerCommand_keeps {z0 : State} {cmd : Nat} {s : State} (hz : Keeps z0 s) : Keeps z0 (State.powerCommand cmd s) := by
  unfold State.powerCommand
  try dsimp only
  (repeat' split) <;> simp (maxDischargeDepth := 60) only [hz, ↓Keeps.upd, le_refl, ↓State.abandonAssay_keeps, ↓State.cmdRefused_keeps,
    ↓State.endCond_keeps, ↓State.enterBringup_keeps, ↓State.enterSave_keeps, ↓State.put_keeps, ↓State.rampCommand_keeps, ↓State.rampDown_keeps,
      ↓State.setAllActive_keeps, ↓State.setMode_keeps]

theorem State.discoverModule_keeps {z0 : State} {m : Module} {s : State} (hz : Keeps z0 s) : Keeps z0 (State.discoverModule m s) := by
  unfold State.discoverModule
  try dsimp only
  (repeat' split) <;> simp (maxDischargeDepth := 60) only [hz, ↓Keeps.upd, le_refl, ↓State.bermFound_keeps, ↓State.put_keeps]

theorem State.absentPositions_keeps {z0 : State} {s : State} (hz : Keeps z0 s) : Keeps z0 (State.absentPositions s) := by
  unfold State.absentPositions
  simp (maxDischargeDepth := 60) only [hz, ↓Keeps.upd, Keeps.refl, implies_true, le_refl, ↓State.dropRebuild_keeps, ↓State.forEach_keeps,
    ↓State.put_keeps]

theorem State.retireAtBringup_keeps {z0 : State} {p : Nat} {s : State} (hz : Keeps z0 s) : Keeps z0 (State.retireAtBringup p s) := by
  unfold State.retireAtBringup
  try dsimp only
  (repeat' split) <;> simp (maxDischargeDepth := 60) only [hz, ↓State.bermDraw_keeps, ↓State.noteUnits_keeps, ↓State.put_keeps, ↓State.raise_keeps,
    ↓State.retireSlice_keeps]

theorem State.repairSram_keeps {z0 : State} {f : SramRepair} {s : State} (hz : Keeps z0 s) : Keeps z0 (State.repairSram f s) := by
  unfold State.repairSram
  simp (maxDischargeDepth := 60) only [hz, ↓Keeps.ite, ↓Keeps.upd, le_refl, ↓State.bermDraw_keeps, ↓State.raise_keeps, ↓State.retireAtBringup_keeps]

theorem State.retirePipe_keeps {z0 : State} {p : Nat} {s : State} (hz : Keeps z0 s) : Keeps z0 (State.retirePipe p s) := by
  unfold State.retirePipe
  try dsimp only
  (repeat' split) <;> simp (maxDischargeDepth := 60) only [hz, ↓State.bermDraw_keeps, ↓State.countSpares_keeps, ↓State.noteUnits_keeps,
    ↓State.put_keeps, ↓State.raise_keeps]

theorem State.checkerFails_keeps {z0 : State} {k : Checker} {unit : Nat} {s : State} (hz : Keeps z0 s) : Keeps z0 (State.checkerFails k unit s) := by
  unfold State.checkerFails
  split <;> simp (maxDischargeDepth := 60) only [hz, ↓Keeps.ite, ↓State.put_keeps, ↓State.raise_keeps, ↓State.retireAtBringup_keeps,
    ↓State.retireEngine_keeps, ↓State.retirePipe_keeps]

theorem State.repairArrays_keeps {z0 : State} {faults : List SramRepair} {s : State} (hz : Keeps z0 s) : Keeps z0 (State.repairArrays faults s) := by
  unfold State.repairArrays
  simp (maxDischargeDepth := 60) only [hz, ↓Keeps.upd, Keeps.refl, implies_true, le_refl, ↓State.bermFound_keeps, ↓State.forEach_keeps,
    ↓State.repairSram_keeps]

theorem State.selectStore_keeps {z0 : State} {s : State} (hz : Keeps z0 s) : Keeps z0 (State.selectStore s) := by
  unfold State.selectStore
  simp (maxDischargeDepth := 60) only [hz, ↓Keeps.ite, Keeps.refl, implies_true, ↓State.forEach_keeps, ↓State.loadSlot_keeps, ↓State.put_keeps,
    ↓State.raise_keeps, ↓State.syncKeysValid_keeps, ↓State.when_keeps]

theorem State.createServiceRegion_keeps {z0 : State} {s : State} (hz : Keeps z0 s) : Keeps z0 (State.createServiceRegion s) := by
  unfold State.createServiceRegion
  simp (maxDischargeDepth := 60) only [hz, ↓Keeps.ite, ↓State.applyRegion_keeps, ↓State.draw_keeps, ↓State.drawGen_keeps, ↓State.drawSalt_keeps,
    ↓State.postKey_keeps, ↓State.put_keeps]

theorem State.writeMargin_keeps {z0 : State} {i k : Nat} {s : State} (hz : Keeps z0 s) : Keeps z0 (State.writeMargin i k s) := by
  unfold State.writeMargin
  simp (maxDischargeDepth := 60) only [hz, ↓Keeps.ite, ↓Keeps.upd, le_refl, ↓State.put_keeps, ↓State.sendMargin_keeps]

theorem State.dropLatch_keeps {z0 : State} {a : Agent} {off : Nat} {s : State} (hz : Keeps z0 s) : Keeps z0 (State.dropLatch a off s) := by
  unfold State.dropLatch
  simp (maxDischargeDepth := 60) only [hz, ↓Keeps.upd, le_refl]

theorem State.writePart_keeps {z0 : State} {s0 : State} {v : Nat} {s : State} {p : WordPart} (hz : Keeps z0 s)
    : Keeps z0 (State.writePart s0 v s p) := by
  unfold State.writePart
  split <;> simp (maxDischargeDepth := 60) only [hz, ↓Keeps.ite, ↓State.put_keeps]

theorem State.writeFields_keeps {z0 : State} {off v : Nat} {s : State} (hz : Keeps z0 s) : Keeps z0 (State.writeFields off v s) := by
  unfold State.writeFields
  simp (maxDischargeDepth := 60) only [hz, ↓Keeps.foldl, Keeps.refl, implies_true, ↓State.writePart_keeps]

theorem State.writeTenant_keeps {z0 : State} {t w v : Nat} {s : State} (hz : Keeps z0 s) : Keeps z0 (State.writeTenant t w v s) := by
  unfold State.writeTenant
  simp (maxDischargeDepth := 60) only [hz, ↓Keeps.ite, ↓State.sequencePoint_keeps]

theorem State.writeRing_keeps {z0 : State} {n r v : Nat} {s : State} (hz : Keeps z0 s) : Keeps z0 (State.writeRing n r v s) := by
  unfold State.writeRing
  simp (maxDischargeDepth := 60) only [hz, ↓Keeps.ite, ↓State.destroyQueue_keeps, ↓State.enableRing_keeps, ↓State.writeRingCfg_keeps]

theorem State.writeRingPage_keeps {z0 : State} {off v : Nat} {s : State} (hz : Keeps z0 s) : Keeps z0 (State.writeRingPage off v s) := by
  unfold State.writeRingPage
  simp (maxDischargeDepth := 60) only [hz, ↓Keeps.ite, ↓State.restartQueue_keeps, ↓State.wakeRings_keeps, ↓State.writeFields_keeps,
    ↓State.writeRing_keeps]

theorem State.writeCrypto_keeps {z0 : State} {off v : Nat} {s : State} (hz : Keeps z0 s) : Keeps z0 (State.writeCrypto off v s) := by
  unfold State.writeCrypto
  simp (maxDischargeDepth := 60) only [hz, ↓Keeps.ite, ↓State.ksDestroy_keeps, ↓State.ksLoad_keeps, ↓State.startPipeRemap_keeps,
    ↓State.writeFields_keeps]

theorem State.writeCwCmd_keeps {z0 : State} {v : Nat} {s : State} (hz : Keeps z0 s) : Keeps z0 (State.writeCwCmd v s) := by
  unfold State.writeCwCmd
  simp (maxDischargeDepth := 60) only [hz, ↓Keeps.ite, ↓Keeps.upd, le_refl, ↓State.drain_keeps, ↓State.rekey_keeps, ↓State.unpairCommand_keeps]

theorem State.writeGuest_keeps {z0 : State} {a : Agent} {off v : Nat} {s : State} (hz : Keeps z0 s) : Keeps z0 (State.writeGuest a off v s) := by
  unfold State.writeGuest
  simp (maxDischargeDepth := 60) only [hz, ↓Keeps.ite, ↓Keeps.upd, le_refl, ↓State.grantWrite_keeps, ↓State.gregStart_keeps,
    ↓State.guestRestart_keeps, ↓State.guestService_keeps, ↓State.raise_keeps, ↓State.writeFields_keeps]

theorem State.writeSrcCfg_keeps {z0 : State} {n v : Nat} {s : State} (hz : Keeps z0 s) : Keeps z0 (State.writeSrcCfg n v s) := by
  unfold State.writeSrcCfg
  simp (maxDischargeDepth := 60) only [hz, ↓Keeps.ite, ↓State.put_keeps, ↓State.writeFields_keeps]

theorem State.writeCollector_keeps {z0 : State} {off v : Nat} {s : State} (hz : Keeps z0 s) : Keeps z0 (State.writeCollector off v s) := by
  unfold State.writeCollector
  simp (maxDischargeDepth := 60) only [hz, ↓Keeps.ite, ↓State.ackSource_keeps, ↓State.fcRaise_keeps, ↓State.pinClear_keeps,
    ↓State.writeFields_keeps, ↓State.writeSrcCfg_keeps]

theorem State.writeFront_keeps {z0 : State} {off v : Nat} {s : State} (hz : Keeps z0 s) : Keeps z0 (State.writeFront off v s) := by
  unfold State.writeFront
  simp (maxDischargeDepth := 60) only [hz, ↓Keeps.ite, ↓State.bindRestore_keeps, ↓State.ethService_keeps, ↓State.portService_keeps,
    ↓State.sequencePoint_keeps, ↓State.startSliceRemap_keeps, ↓State.tracerClear_keeps, ↓State.windowWritten_keeps, ↓State.writeFields_keeps,
      ↓State.writeLdMap_keeps, ↓State.writeRingPage_keeps, ↓State.writeTenant_keeps]

theorem State.writeTiers_keeps {z0 : State} {off v : Nat} {s : State} (hz : Keeps z0 s) : Keeps z0 (State.writeTiers off v s) := by
  unfold State.writeTiers
  simp (maxDischargeDepth := 60) only [hz, ↓Keeps.ite, ↓State.channelService_keeps, ↓State.clearFault_keeps, ↓State.failNow_keeps,
    ↓State.pathService_keeps, ↓State.requestAssay_keeps, ↓State.writeCrypto_keeps, ↓State.writeCwCmd_keeps, ↓State.writeFields_keeps]

theorem State.writeSystem_keeps {z0 : State} {off v : Nat} {s : State} (hz : Keeps z0 s) : Keeps z0 (State.writeSystem off v s) := by
  unfold State.writeSystem
  simp (maxDischargeDepth := 60) only [hz, ↓Keeps.ite, ↓State.confirmTrial_keeps, ↓State.powerCommand_keeps, ↓State.trackClear_keeps,
    ↓State.watchdogKick_keeps, ↓State.writeFields_keeps, ↓State.writeMargin_keeps]

theorem State.writeWord_keeps {z0 : State} {a : Agent} {off v : Nat} {s : State} (hz : Keeps z0 s) : Keeps z0 (State.writeWord a off v s) := by
  unfold State.writeWord
  simp (maxDischargeDepth := 60) only [hz, ↓Keeps.ite, ↓State.writeCollector_keeps, ↓State.writeFront_keeps, ↓State.writeGuest_keeps,
    ↓State.writeSystem_keeps, ↓State.writeTiers_keeps]

theorem State.regWrite_keeps {z0 : State} {a : Agent} {off size v : Nat} {s : State} (hz : Keeps z0 s)
    : Keeps z0 (State.regWrite a off size v s) := by
  unfold State.regWrite
  try dsimp only
  (repeat' split) <;> simp (maxDischargeDepth := 60) only [hz, ↓State.dropLatch_keeps, ↓State.emit_keeps, ↓State.writeWord_keeps]

theorem State.clearRc_keeps {z0 : State} {off : Nat} {s : State} (hz : Keeps z0 s) : Keeps z0 (State.clearRc off s) := by
  unfold State.clearRc
  simp (maxDischargeDepth := 60) only [hz, ↓Keeps.ite, ↓Keeps.foldl, Keeps.refl, implies_true, ↓State.put_keeps]

theorem State.readReg_keeps {z0 : State} {a : Agent} {o : Nat} {wide : Bool} {s : State} (hz : Keeps z0 s)
    : Keeps z0 (State.readReg a o wide s).2 := by
  unfold State.readReg
  try dsimp only
  (repeat' split) <;> simp (maxDischargeDepth := 60) only [hz, ↓Keeps.upd, le_refl, ↓State.clearRc_keeps, ↓State.dropLatch_keeps]

theorem State.noteScratch_keeps {z0 : State} {a : Agent} {o : Nat} {s : State} (hz : Keeps z0 s) : Keeps z0 (State.noteScratch a o s) := by
  unfold State.noteScratch
  simp (maxDischargeDepth := 60) only [hz, ↓Keeps.ite, ↓Keeps.upd, le_refl, ↓State.guestPassed_keeps]

theorem State.regRead_keeps {z0 : State} {a : Agent} {off size : Nat} {s : State} (hz : Keeps z0 s) : Keeps z0 (State.regRead a off size s) := by
  unfold State.regRead
  try dsimp only
  (repeat' split) <;> simp (maxDischargeDepth := 60) only [hz, ↓State.emit_keeps, ↓State.gregStart_keeps, ↓State.noteScratch_keeps,
    ↓State.readReg_keeps]

theorem State.guestRegRefused_keeps {z0 : State} {s : State} (hz : Keeps z0 s) : Keeps z0 (State.guestRegRefused s) := by
  unfold State.guestRegRefused
  simp (maxDischargeDepth := 60) only [hz, ↓State.raiseLimited_keeps]

theorem State.guestRegRequest_keeps {z0 : State} {p tag off : Nat} {act : State → State} {s : State} (hz : Keeps z0 s)
    (hf : ∀ t, Keeps t (act t)) : Keeps z0 (s.guestRegRequest p tag off act) := by
  unfold State.guestRegRequest
  extract_lets m s1
  have hm : Keeps z0 m := State.guestMsg_keeps hz
  have h1 : Keeps z0 s1 := State.addReq_keeps hm
  clear_value s1 m
  split_ifs
  · exact hm
  · exact State.guestProtocol_keeps hm
  · exact State.guestProtocol_keeps (State.guestErr_keeps h1)
  · exact State.guestRegRefused_keeps (State.guestErr_keeps h1)
  · exact h1.trans (hf _)

theorem State.pldm_keeps {z0 : State} {typ cmd : Nat} {f : State → (Nat × List Nat) × State} {s : State} (hz : Keeps z0 s)
    (hf : ∀ t, Keeps t (f t).2) : Keeps z0 (s.pldm typ cmd f) := by
  unfold State.pldm
  split
  · exact hz
  · split
    · exact State.emit_keeps hz
    · exact State.emit_keeps (hz.trans (hf _))

theorem State.setUpdate_keeps {z0 : State} {u : Update} {s : State} (hz : Keeps z0 s) : Keeps z0 (State.setUpdate u s) := by
  unfold State.setUpdate
  simp (maxDischargeDepth := 60) only [hz, ↓Keeps.upd, le_refl]

theorem State.eraseSlot_keeps {z0 : State} {k : Nat} {s : State} (hz : Keeps z0 s) : Keeps z0 (State.eraseSlot k s) := by
  unfold State.eraseSlot
  simp (maxDischargeDepth := 60) only [hz, ↓Keeps.ite, Keeps.refl, implies_true, ↓State.eraseWords_keeps, ↓State.forEach_keeps,
    ↓State.touchSlots_keeps]

theorem State.programChunk_keeps {z0 : State} {k off : Nat} {bytes : List Byte} {s : State} (hz : Keeps z0 s)
    : Keeps z0 (State.programChunk k off bytes s) := by
  unfold State.programChunk
  simp (maxDischargeDepth := 60) only [hz, ↓Keeps.ite, ↓State.programWords_keeps]

theorem State.requestData_keeps {z0 : State} {s : State} (hz : Keeps z0 s) : Keeps z0 (State.requestData s) := by
  unfold State.requestData
  simp (maxDischargeDepth := 60) only [hz, ↓Keeps.ite, ↓State.emit_keeps]

theorem State.verifyImage_keeps {z0 : State} {k : Nat} {s : State} (hz : Keeps z0 s) : Keeps z0 (State.verifyImage k s).2 := by
  unfold State.verifyImage
  simp (maxDischargeDepth := 60) only [hz, ↓Keeps.ite_snd, ↓State.raise_keeps]

theorem State.endUpdate_keeps {z0 : State} {s : State} (hz : Keeps z0 s) : Keeps z0 (State.endUpdate s) := by
  unfold State.endUpdate
  simp (maxDischargeDepth := 60) only [hz, ↓State.put_keeps, ↓State.setUpdate_keeps]

theorem State.spdm_keeps {z0 : State} {t : Transport} {f : State → SpdmReply × State} {s : State} (hz : Keeps z0 s)
    (hf : ∀ t, Keeps t (f t).2) : Keeps z0 (s.spdm t f) := by
  unfold State.spdm
  split
  · exact State.emit_keeps (hz.trans (hf _))
  · exact hz

theorem State.endSession_keeps {z0 : State} {id : Nat} {s : State} (hz : Keeps z0 s) : Keeps z0 (State.endSession id s) := by
  unfold State.endSession
  simp (maxDischargeDepth := 60) only [hz, ↓Keeps.upd, le_refl]

theorem State.spdmFailed_keeps {z0 : State} {id : Nat} {s : State} (hz : Keeps z0 s) : Keeps z0 (State.spdmFailed id s).2 := by
  unfold State.spdmFailed
  simp (maxDischargeDepth := 60) only [hz, ↓State.endSession_keeps, ↓State.raiseLimited_keeps]

theorem State.inSession_keeps {z0 : State} {id : Nat} {ok : Bool} {f : State → SpdmReply × State} {s : State} (hz : Keeps z0 s)
    (hf : ∀ t, Keeps t (f t).2) : Keeps z0 (s.inSession id ok f).2 := by
  unfold State.inSession
  split
  · exact hz
  · split
    · exact hz.trans (hf _)
    · exact State.spdmFailed_keeps hz

theorem State.mgmtSend_keeps {z0 : State} {p : MgmtPath} {typ status : Nat} {body : List Nat} {s : State} (hz : Keeps z0 s)
    : Keeps z0 (State.mgmtSend p typ status body s) := by
  unfold State.mgmtSend
  try dsimp only
  (repeat' split) <;> simp (maxDischargeDepth := 60) only [hz, ↓Keeps.upd, le_refl, ↓State.completeOp_keeps, ↓State.emit_keeps, ↓State.mboxOk_keeps]

theorem State.mgmtDeny_keeps {z0 : State} {p : MgmtPath} {typ : Nat} {s : State} (hz : Keeps z0 s) : Keeps z0 (State.mgmtDeny p typ s) := by
  unfold State.mgmtDeny
  simp (maxDischargeDepth := 60) only [hz, ↓State.mgmtSend_keeps, ↓State.raiseLimited_keeps]

theorem State.mgmt_keeps {z0 : State} {p : MgmtPath} {typ : Nat} {f : State → (Nat × List Nat) × State} {s : State} (hz : Keeps z0 s)
    (hf : ∀ t, Keeps t (f t).2) : Keeps z0 (s.mgmt p typ f) := by
  unfold State.mgmt
  split
  · exact hz
  · split
    · exact State.mgmtDeny_keeps hz
    · split
      · exact State.mgmtSend_keeps hz
      · dsimp only
        split
        · exact State.mgmtDeny_keeps (hz.trans (hf _))
        · exact State.mgmtSend_keeps (hz.trans (hf _))

theorem State.temperCommand_keeps {z0 : State} {t : Nat} {s : State} (hz : Keeps z0 s) : Keeps z0 (State.temperCommand t s).2 := by
  unfold State.temperCommand
  simp (maxDischargeDepth := 60) only [hz, ↓Keeps.ite_snd, ↓Keeps.upd, le_refl, ↓State.changeTemper_keeps, ↓State.sendFrame_keeps]

theorem State.armWith_keeps {z0 : State} {kind : Nat} {s : State} (hz : Keeps z0 s) : Keeps z0 (State.armWith kind s).2 := by
  unfold State.armWith
  simp (maxDischargeDepth := 60) only [hz, ↓State.draw_keeps, ↓State.setArm_keeps]

theorem State.confirm_keeps {z0 : State} {kind challenge : Nat} {f : State → (Nat × List Nat) × State} {s : State} (hz : Keeps z0 s)
    (hf : ∀ t, Keeps t (f t).2) : Keeps z0 (s.confirm kind challenge f).2 := by
  unfold State.confirm
  split
  · exact hz.trans (hf _)
  · exact State.setArm_keeps hz

theorem State.startLowering_keeps {z0 : State} {s : State} (hz : Keeps z0 s) : Keeps z0 (State.startLowering s) := by
  unfold State.startLowering
  simp (maxDischargeDepth := 60) only [hz, ↓Keeps.upd, Keeps.refl, implies_true, le_refl, ↓State.forEach_keeps, ↓State.sequencePoint_keeps]

theorem State.endGpf_keeps {z0 : State} {n result us : Nat} {s : State} (hz : Keeps z0 s) : Keeps z0 (State.endGpf n result us s) := by
  unfold State.endGpf
  simp (maxDischargeDepth := 60) only [hz, ↓State.emit_keeps, ↓State.put_keeps, ↓State.setLd_keeps]

theorem State.createStream_keeps {z0 : State} {q : Nat} {o : OpRec} {i : Nat} {s : State} (hz : Keeps z0 s)
    : Keeps z0 (State.createStream q o i s) := by
  unfold State.createStream
  simp (maxDischargeDepth := 60) only [hz, ↓Keeps.ite, ↓State.changeStream_keeps, ↓State.checkWindow_keeps, ↓State.completeOp_keeps,
    ↓State.raise_keeps, ↓State.writeList_keeps]

theorem State.advanceStream_keeps {z0 : State} {j v : Nat} {s : State} (hz : Keeps z0 s) : Keeps z0 (State.advanceStream j v s) := by
  unfold State.advanceStream
  simp (maxDischargeDepth := 60) only [hz, ↓Keeps.ite, ↓State.changeStream_keeps, ↓State.checkWindow_keeps, ↓State.raise_keeps]

theorem State.hitCeiling_keeps {z0 : State} {addr : Nat} {parts : List Nat} {s : State} (hz : Keeps z0 s)
    : Keeps z0 (State.hitCeiling addr parts s) := by
  unfold State.hitCeiling
  simp (maxDischargeDepth := 60) only [hz, ↓State.bump_keeps, ↓State.countStall_keeps, ↓State.raise_keeps]

theorem State.ceilingRead_keeps {z0 : State} {r : ReadRec} {parts : List Nat} {s : State} (hz : Keeps z0 s)
    : Keeps z0 (State.ceilingRead r parts s) := by
  unfold State.ceilingRead
  split <;> simp (maxDischargeDepth := 60) only [hz, ↓Keeps.upd, le_refl, ↓State.answerRead_keeps, ↓State.hitCeiling_keeps, ↓State.recordLine_keeps]

theorem State.ceilingWrite_keeps {z0 : State} {w : WriteRec} {parts : List Nat} {s : State} (hz : Keeps z0 s)
    : Keeps z0 (State.ceilingWrite w parts s) := by
  unfold State.ceilingWrite
  simp (maxDischargeDepth := 60) only [hz, ↓Keeps.upd, le_refl, ↓State.hitCeiling_keeps]

end Sys2Proof.Machine
end

