-- ==== Sys2Proof/Laws/KeepCmds.lean ====
section
/-! SUPPORT. What `Keeps` says, of the next state of each command. -/

namespace Sys2Proof.Machine

open Sys2Proof

set_option Elab.async false

theorem execAdcConversion_kept {c : Fin 32} {reading peak : BitVec 24} {s : State} : Kept s (execAdcConversion c reading peak s) := by
  unfold execAdcConversion
  simp (maxDischargeDepth := 60) only [Keeps.refl, ↓finish_keeps, ↓Kept.ite, ↓Keeps.upd, implies_true, le_refl, ↓State.adcResult_keeps,
    ↓State.adcUse_keeps, ↓State.raiseLimited_keeps, ↓State.when_keeps]

theorem execAdcTrackClear_kept {s : State} : Kept s (execAdcTrackClear s) := by
  unfold execAdcTrackClear
  simp (maxDischargeDepth := 60) only [Keeps.refl, ↓finish_keeps, ↓State.trackClear_keeps]

theorem execFreeboardRecompute_kept {s : State} : Kept s (execFreeboardRecompute s) := by
  unfold execFreeboardRecompute
  simp (maxDischargeDepth := 60) only [Keeps.refl, ↓finish_keeps, ↓State.recomputeFreeboard_keeps]

theorem execSluiceShareRecompute_kept {s : State} : Kept s (execSluiceShareRecompute s) := by
  unfold execSluiceShareRecompute
  simp (maxDischargeDepth := 60) only [Keeps.refl, ↓finish_keeps, ↓Kept.ite, ↓State.recomputeShares_keeps]

theorem execThermalCapStep_kept {s : State} : Kept s (execThermalCapStep s) := by
  unfold execThermalCapStep
  simp (maxDischargeDepth := 60) only [Keeps.refl, ↓finish_keeps, ↓Kept.ite, ↓State.bump_keeps, ↓State.put_keeps]

theorem execBankIdRead_kept {record : BitVec 2048} {crcOk : Bool} {s : State} : Kept s (execBankIdRead record crcOk s) := by
  unfold execBankIdRead
  simp (maxDischargeDepth := 60) only [Keeps.refl, ↓finish_keeps, ↓Kept.ite, ↓State.put_keeps, ↓State.raise_keeps, ↓State.recomputeFreeboard_keeps,
    ↓State.takeBankId_keeps]

theorem execAssayDue_kept {s : State} : Kept s (execAssayDue s) := by
  unfold execAssayDue
  simp (maxDischargeDepth := 60) only [Keeps.refl, ↓finish_keeps, ↓Kept.ite, ↓State.requestAssay_keeps]

theorem execAssayNow_kept {s : State} : Kept s (execAssayNow s) := by
  unfold execAssayNow
  simp (maxDischargeDepth := 60) only [Keeps.refl, ↓finish_keeps, ↓State.requestAssay_keeps]

theorem execAssayPrepareReady_kept {s : State} : Kept s (execAssayPrepareReady s) := by
  unfold execAssayPrepareReady
  simp (maxDischargeDepth := 60) only [Keeps.refl, ↓finish_keeps, ↓State.assayDischarge_keeps]

theorem execAssayPrepareTimeout_kept {s : State} : Kept s (execAssayPrepareTimeout s) := by
  unfold execAssayPrepareTimeout
  simp (maxDischargeDepth := 60) only [Keeps.refl, ↓finish_keeps, ↓Kept.ite, ↓State.endAssay_keeps, ↓State.put_keeps]

theorem execAssayEsrMeasure_kept {s : State} : Kept s (execAssayEsrMeasure s) := by
  unfold execAssayEsrMeasure
  simp (maxDischargeDepth := 60) only [Keeps.refl, ↓finish_keeps, ↓Kept.ite, ↓Keeps.upd, le_refl]

theorem execAssayDischargeEnd_kept {s : State} : Kept s (execAssayDischargeEnd s) := by
  unfold execAssayDischargeEnd
  simp (maxDischargeDepth := 60) only [Keeps.refl, ↓finish_keeps, ↓Kept.ite, ↓State.assayRelax_keeps]

theorem execAssayDischargeTimeout_kept {s : State} : Kept s (execAssayDischargeTimeout s) := by
  unfold execAssayDischargeTimeout
  simp (maxDischargeDepth := 60) only [Keeps.refl, ↓finish_keeps, ↓Kept.ite, ↓Keeps.upd, le_refl, ↓State.assayRelax_keeps, ↓State.rejectAssay_keeps]

theorem execAssayRelaxEnd_kept {s : State} : Kept s (execAssayRelaxEnd s) := by
  unfold execAssayRelaxEnd
  simp (maxDischargeDepth := 60) only [Keeps.refl, ↓finish_keeps, ↓Kept.ite, ↓Keeps.ite, ↓Keeps.upd, le_refl, ↓State.evaluateAssay_keeps,
    ↓State.put_keeps]

theorem execAssayRechargeDone_kept {s : State} : Kept s (execAssayRechargeDone s) := by
  unfold execAssayRechargeDone
  simp (maxDischargeDepth := 60) only [Keeps.refl, ↓finish_keeps, ↓Kept.ite, ↓State.endAssay_keeps]

theorem execAssayRechargeTimeout_kept {s : State} : Kept s (execAssayRechargeTimeout s) := by
  unfold execAssayRechargeTimeout
  simp (maxDischargeDepth := 60) only [Keeps.refl, ↓finish_keeps, ↓Kept.ite, ↓State.endAssay_keeps, ↓State.raise_keeps]

theorem execAssayRetryDue_kept {s : State} : Kept s (execAssayRetryDue s) := by
  unfold execAssayRetryDue
  simp (maxDischargeDepth := 60) only [Keeps.refl, ↓finish_keeps, ↓Kept.ite, ↓State.requestAssay_keeps]

theorem execOperatingSecondTick_kept {s : State} : Kept s (execOperatingSecondTick s) := by
  unfold execOperatingSecondTick
  simp (maxDischargeDepth := 60) only [Keeps.refl, ↓finish_keeps, ↓Kept.ite, ↓Keeps.ite, ↓Keeps.upd, le_refl, ↓State.lifeSecond_keeps,
    ↓State.put_keeps]

theorem execBermBucketClose_kept {s : State} : Kept s (execBermBucketClose s) := by
  unfold execBermBucketClose
  simp (maxDischargeDepth := 60) only [Keeps.refl, ↓finish_keeps, ↓Kept.ite, implies_true, ↓State.bermStatus_keeps, ↓State.forEach_keeps,
    ↓State.recomputeBerm_keeps, ↓State.setBermRec_keeps]

theorem execBermCommit_kept {s : State} : Kept s (execBermCommit s) := by
  unfold execBermCommit
  simp (maxDischargeDepth := 60) only [Keeps.refl, ↓finish_keeps, ↓Kept.ite, ↓Keeps.upd, le_refl, ↓State.put_keeps]

theorem execWitnessLinkAligned_kept {s : State} : Kept s (execWitnessLinkAligned s) := by
  unfold execWitnessLinkAligned
  simp (maxDischargeDepth := 60) only [Keeps.refl, ↓finish_keeps, ↓Kept.ite, ↓Keeps.upd, le_refl, ↓State.draw_keeps, ↓State.put_keeps]

theorem execErrorLineAssert_kept {line : Fin 48} {link : Option (Fin 13)} {word : List (Fin 32 × List Nat)}
    {s : State} : Kept s (execErrorLineAssert line link word s) := by
  unfold execErrorLineAssert
  simp (maxDischargeDepth := 60) only [Keeps.refl, ↓finish_keeps, ↓Kept.ite, ↓State.readLine_keeps]

theorem execWireFaultDetect_kept {pair : ErrPair} {s : State} : Kept s (execWireFaultDetect pair s) := by
  unfold execWireFaultDetect
  try dsimp only
  (repeat' split) <;> simp (maxDischargeDepth := 60) only [Keeps.refl, ↓finish_keeps, ↓State.raise_keeps]

theorem execWireFaultPoll_kept {line : Fin 48} {link : Option (Fin 13)} {word : List (Fin 32 × List Nat)}
    {s : State} : Kept s (execWireFaultPoll line link word s) := by
  unfold execWireFaultPoll
  simp (maxDischargeDepth := 60) only [Keeps.refl, ↓finish_keeps, ↓Kept.ite, ↓State.raiseWord_keeps]

theorem execSourceConditionEnd_kept {n : Fin 1536} {s : State} : Kept s (execSourceConditionEnd n s) := by
  unfold execSourceConditionEnd
  simp (maxDischargeDepth := 60) only [Keeps.refl, ↓finish_keeps, ↓Kept.ite, ↓State.endCond_keeps, ↓State.railBack_keeps]

theorem execFcAckWrite_kept {n : BitVec 11} {s : State} : Kept s (execFcAckWrite n s) := by
  unfold execFcAckWrite
  simp (maxDischargeDepth := 60) only [Keeps.refl, ↓finish_keeps, ↓Kept.ite, ↓State.ackSource_keeps]

theorem execFcRaiseWrite_kept {n : BitVec 11} {s : State} : Kept s (execFcRaiseWrite n s) := by
  unfold execFcRaiseWrite
  simp (maxDischargeDepth := 60) only [Keeps.refl, ↓finish_keeps, ↓State.fcRaise_keeps]

theorem execFcPinClear_kept {s : State} : Kept s (execFcPinClear s) := by
  unfold execFcPinClear
  simp (maxDischargeDepth := 60) only [Keeps.refl, ↓finish_keeps, ↓State.pinClear_keeps]

theorem execEventRecordWrite_kept {cut : Bool} {s : State} : Kept s (execEventRecordWrite cut s) := by
  unfold execEventRecordWrite
  try dsimp only
  (repeat' split) <;> simp (maxDischargeDepth := 60) only [Keeps.refl, ↓finish_keeps, ↓State.cutWrite_keeps, ↓State.recordEntry_keeps]

theorem execTokenRefill_kept {code : Fin 1536} {s : State} : Kept s (execTokenRefill code s) := by
  unfold execTokenRefill
  simp (maxDischargeDepth := 60) only [Keeps.refl, ↓finish_keeps, ↓Keeps.upd, le_refl]

theorem execConfigRequest_kept {ld : Fin 64} {tag : Nat} {ask : CfgAsk} {s : State} : Kept s (execConfigRequest ld tag ask s) := by
  unfold execConfigRequest
  try dsimp only
  (repeat' split) <;> simp (maxDischargeDepth := 60) only [Keeps.refl, ↓finish_keeps, ↓State.cfgAccess_keeps, ↓State.emit_keeps]

theorem execPerstNAssert_kept {p : Fin 4} {s : State} : Kept s (execPerstNAssert p s) := by
  unfold execPerstNAssert
  simp (maxDischargeDepth := 60) only [Keeps.refl, ↓finish_keeps, ↓Kept.ite, ↓State.bump_keeps, ↓State.put_keeps, ↓State.resetPort_keeps]

theorem execPerstNDeassert_kept {p : Fin 4} {s : State} : Kept s (execPerstNDeassert p s) := by
  unfold execPerstNDeassert
  simp (maxDischargeDepth := 60) only [Keeps.refl, ↓finish_keeps, ↓Kept.ite, ↓State.put_keeps, ↓State.setPort_keeps]

theorem execCxlLinkUp_kept {l : Fin 16} {width rate : Nat} {mld lopt : Bool} {s : State} : Kept s (execCxlLinkUp l width rate mld lopt s) := by
  unfold execCxlLinkUp
  simp (maxDischargeDepth := 60) only [Keeps.refl, ↓finish_keeps, ↓Kept.ite, ↓Keeps.ite, implies_true, ↓State.endCond_keeps, ↓State.forEach_keeps,
    ↓State.put_keeps, ↓State.raise_keeps, ↓State.setActive_keeps, ↓State.setPort_keeps]

theorem execCxlLinkDown_kept {l : Fin 16} {s : State} : Kept s (execCxlLinkDown l s) := by
  unfold execCxlLinkDown
  simp (maxDischargeDepth := 60) only [Keeps.refl, ↓finish_keeps, ↓Kept.ite, ↓State.portLeaves_keeps, ↓State.resetPort_keeps, ↓State.setPort_keeps]

theorem execCxlHotReset_kept {l : Fin 16} {s : State} : Kept s (execCxlHotReset l s) := by
  unfold execCxlHotReset
  simp (maxDischargeDepth := 60) only [Keeps.refl, ↓finish_keeps, ↓Kept.ite, ↓State.resetLink_keeps]

theorem execFunctionLevelReset_kept {ld : Fin 64} {s : State} : Kept s (execFunctionLevelReset ld s) := by
  unfold execFunctionLevelReset
  simp (maxDischargeDepth := 60) only [Keeps.refl, ↓finish_keeps, ↓Kept.ite, ↓State.resetFunction_keeps]

theorem execCxlPortServiceWrite_kept {p : Fin 4} {service : Bool} {s : State} : Kept s (execCxlPortServiceWrite p service s) := by
  unfold execCxlPortServiceWrite
  simp (maxDischargeDepth := 60) only [Keeps.refl, ↓finish_keeps, ↓State.portService_keeps]

theorem execCxlBindRestore_kept {l : Fin 16} {s : State} : Kept s (execCxlBindRestore l s) := by
  unfold execCxlBindRestore
  simp (maxDischargeDepth := 60) only [Keeps.refl, ↓finish_keeps, ↓State.bindRestore_keeps]

theorem execIdeKmExchange_kept {l : Fin 16} {session : Nat} {act : IdeAct} {s : State} : Kept s (execIdeKmExchange l session act s) := by
  unfold execIdeKmExchange
  try dsimp only
  (repeat' split) <;> simp (maxDischargeDepth := 60) only [Keeps.refl, ↓finish_keeps, ↓State.put_keeps, ↓State.setLink_keeps]

theorem execIdeMacFailure_kept {l : Fin 16} {s : State} : Kept s (execIdeMacFailure l s) := by
  unfold execIdeMacFailure
  simp (maxDischargeDepth := 60) only [Keeps.refl, ↓finish_keeps, ↓Kept.ite, ↓Keeps.upd, implies_true, le_refl, ↓State.bump_keeps,
    ↓State.forEach_keeps, ↓State.poisonLine_keeps, ↓State.put_keeps, ↓State.raise_keeps, ↓State.recordTo_keeps, ↓State.setLink_keeps]

theorem execIdeEpochVerified_kept {l : Fin 16} {s : State} : Kept s (execIdeEpochVerified l s) := by
  unfold execIdeEpochVerified
  simp (maxDischargeDepth := 60) only [Keeps.refl, ↓finish_keeps, ↓Kept.ite, implies_true, ↓State.forEach_keeps, ↓State.presentWrite_keeps,
    ↓State.setLink_keeps]

theorem execHdmDecoderCommit_kept {ld : Fin 64} {idx : Fin 4} {base size skip ways gran : Nat} {lockOnCommit : Bool}
    {s : State} : Kept s (execHdmDecoderCommit ld idx base size skip ways gran lockOnCommit s) := by
  unfold execHdmDecoderCommit
  try dsimp only
  (repeat' split) <;> simp (maxDischargeDepth := 60) only [Keeps.refl, ↓finish_keeps, ↓State.put_keeps, ↓State.setLd_keeps]

theorem execFlitReplay_kept {l : Fin 16} {s : State} : Kept s (execFlitReplay l s) := by
  unfold execFlitReplay
  simp (maxDischargeDepth := 60) only [Keeps.refl, ↓finish_keeps, ↓Kept.ite, ↓State.bump_keeps, ↓State.raise_keeps, ↓State.setLink_keeps]

theorem execCxlMemrd_kept {l : Fin 16} {ldid tag dpa : Nat} {sramBad : Bool} {s : State} : Kept s (execCxlMemrd l ldid tag dpa sramBad s) := by
  unfold execCxlMemrd
  split <;> simp (maxDischargeDepth := 60) only [Keeps.refl, ↓finish_keeps, ↓Kept.ite, ↓State.presentRead_keeps, ↓State.refuseCxlRead_keeps]

theorem execCxlMemwr_kept {l : Fin 16} {ldid tag dpa : Nat} {data : Granule} {poison sramBad : Bool}
    {s : State} : Kept s (execCxlMemwr l ldid tag dpa data poison sramBad s) := by
  unfold execCxlMemwr
  simp (maxDischargeDepth := 60) only [Keeps.refl, ↓finish_keeps, ↓State.cxlWrite_keeps]

theorem execCxlMemwrptl_kept {l : Fin 16} {ldid tag dpa : Nat} {data : Granule} {enables : BitVec 64} {poison sramBad : Bool}
    {s : State} : Kept s (execCxlMemwrptl l ldid tag dpa data enables poison sramBad s) := by
  unfold execCxlMemwrptl
  simp (maxDischargeDepth := 60) only [Keeps.refl, ↓finish_keeps, ↓State.cxlWrite_keeps]

theorem execCxlMemspecrd_kept {l : Fin 16} {ldid dpa : Nat} {s : State} : Kept s (execCxlMemspecrd l ldid dpa s) := by
  unfold execCxlMemspecrd
  split <;> simp (maxDischargeDepth := 60) only [Keeps.refl, ↓finish_keeps, ↓Kept.ite, ↓State.specRead_keeps]

theorem execCxlMeminv_kept {l : Fin 16} {ldid tag : Nat} {s : State} : Kept s (execCxlMeminv l ldid tag s) := by
  unfold execCxlMeminv
  split <;> simp (maxDischargeDepth := 60) only [Keeps.refl, ↓finish_keeps, ↓Kept.ite, ↓State.emit_keeps]

theorem execCxlUnsupportedM2s_kept {l : Fin 16} {ldid tag : Nat} {read : Bool} {s : State} : Kept s (execCxlUnsupportedM2s l ldid tag read s) := by
  unfold execCxlUnsupportedM2s
  split <;> simp (maxDischargeDepth := 60) only [Keeps.refl, ↓finish_keeps, ↓Kept.ite, ↓Keeps.ite, ↓State.bump_keeps, ↓State.emit_keeps,
    ↓State.raiseLimited_keeps]

theorem execDimmTempRead_kept {c : Fin 16} {d : Fin 2} {reading : Option (BitVec 16)} {s : State} : Kept s (execDimmTempRead c d reading s) := by
  unfold execDimmTempRead
  refine Kept.ite (finish_keeps (Keeps.refl s)) ?_
  extract_lets k fails s0 f s1 hot temp t0 others s2 limited
  have k1 : Keeps s s1 := by
    simp only [s1]
    split
    · exact State.put_keeps (Keeps.refl s).upd
    · exact (Keeps.refl s).upd
  exact Kept.ite (finish_keeps (State.raise_keeps k1.upd.upd)) (Kept.ite (finish_keeps (State.endCond_keeps k1.upd.upd)) (finish_keeps k1.upd))

theorem execChannelTrainingDone_kept {c : Fin 16} {lanes : List (Nat × Nat × Nat × Nat × Nat)} {ppr : List Nat} {decoderOk : Bool}
    {s : State} : Kept s (execChannelTrainingDone c lanes ppr decoderOk s) := by
  unfold execChannelTrainingDone
  simp (maxDischargeDepth := 60) only [Keeps.refl, ↓finish_keeps, ↓Kept.ite, ↓Keeps.ite, ↓Keeps.upd, implies_true, le_refl, ↓State.applyPpr_keeps,
    ↓State.decoderFails_keeps, ↓State.dramStatus_keeps, ↓State.forEach_keeps, ↓State.giveFrames_keeps, ↓State.judgeLanes_keeps,
      ↓State.placeFrames_keeps, ↓State.put_keeps, ↓State.trainingFails_keeps]

theorem execChannelTrainingTimeout_kept {c : Fin 16} {step : Fin 8} {s : State} : Kept s (execChannelTrainingTimeout c step s) := by
  unfold execChannelTrainingTimeout
  simp (maxDischargeDepth := 60) only [Keeps.refl, ↓finish_keeps, ↓Kept.ite, ↓State.trainingFails_keeps]

theorem execZqCalibration_kept {z0 : Fin 16} {z1 : Fin 8} {s : State} : Kept s (execZqCalibration z0 z1 s) := by
  unfold execZqCalibration
  simp (maxDischargeDepth := 60) only [Keeps.refl, ↓finish_keeps]

theorem execDqsDriftTrack_kept {c : Fin 16} {drift : List (Fin 20 × Int)} {s : State} : Kept s (execDqsDriftTrack c drift s) := by
  unfold execDqsDriftTrack
  simp (maxDischargeDepth := 60) only [Keeps.refl, ↓finish_keeps, ↓Kept.ite, implies_true, ↓State.forEach_keeps, ↓State.put_keeps]

theorem execRefreshDue_kept {c : Fin 16} {r : Fin 8} {s : State} : Kept s (execRefreshDue c r s) := by
  unfold execRefreshDue
  simp (maxDischargeDepth := 60) only [Keeps.refl, ↓finish_keeps, ↓State.closeRows_keeps]

theorem execRankPowerDownEntry_kept {c : Fin 16} {r : Fin 8} {s : State} : Kept s (execRankPowerDownEntry c r s) := by
  unfold execRankPowerDownEntry
  simp (maxDischargeDepth := 60) only [Keeps.refl, ↓finish_keeps, ↓Kept.ite, ↓State.closeRows_keeps, ↓State.setRank_keeps]

theorem execRankSelfRefreshEntry_kept {c : Fin 16} {r : Fin 8} {s : State} : Kept s (execRankSelfRefreshEntry c r s) := by
  unfold execRankSelfRefreshEntry
  simp (maxDischargeDepth := 60) only [Keeps.refl, ↓finish_keeps, ↓Kept.ite, ↓State.closeRows_keeps, ↓State.setRank_keeps]

theorem execDramAlert_kept {c : Fin 16} {replays : Fin 4} {ok : Bool} {reads writes : List Nat}
    {s : State} : Kept s (execDramAlert c replays ok reads writes s) := by
  unfold execDramAlert
  simp (maxDischargeDepth := 60) only [Keeps.refl, ↓finish_keeps, ↓Kept.ite, implies_true, ↓State.answerReads_keeps, ↓State.bump_keeps,
    ↓State.failChannel_keeps, ↓State.forEach_keeps, ↓State.raiseLimited_keeps, ↓State.refuseMerges_keeps, ↓State.spoilLine_keeps, ↓State.when_keeps]

theorem execDramPatrolRead_kept {c : Fin 16} {line : Option Nat} {loc : List Nat} {bad : Bool} {es : List EccNote} {copyBad : List Nat}
    {pct : Fin 101} {done : Bool} {s : State} : Kept s (execDramPatrolRead c line loc bad es copyBad pct done s) := by
  unfold execDramPatrolRead
  try dsimp only
  (repeat' split) <;> simp (maxDischargeDepth := 60) only [Keeps.refl, ↓finish_keeps, ↓Keeps.upd, implies_true, le_refl, ↓State.bump_keeps,
    ↓State.copyRow_keeps, ↓State.countCorrected_keeps, ↓State.enqueue_keeps, ↓State.failChannel_keeps, ↓State.noteEcc_keeps, ↓State.put_keeps,
      ↓State.raise_keeps, ↓State.scrubBad_keeps, ↓State.selectAll_keeps, ↓State.when_keeps]

theorem execChannelServiceWrite_kept {c : Fin 16} {service : Bool} {s : State} : Kept s (execChannelServiceWrite c service s) := by
  unfold execChannelServiceWrite
  simp (maxDischargeDepth := 60) only [Keeps.refl, ↓finish_keeps, ↓State.channelService_keeps]

theorem execChannelDrainPageCopy_kept {c : Fin 16} {page : Option Nat} {s : State} : Kept s (execChannelDrainPageCopy c page s) := by
  unfold execChannelDrainPageCopy
  try dsimp only
  (repeat' split) <;> simp (maxDischargeDepth := 60) only [Keeps.refl, ↓finish_keeps, ↓State.checkDrains_keeps, ↓State.moveDrainPage_keeps,
    ↓State.moveReserved_keeps, ↓State.raise_keeps, ↓State.stopDrain_keeps]

theorem execChannelFault_kept {c : Fin 16} {s : State} : Kept s (execChannelFault c s) := by
  unfold execChannelFault
  simp (maxDischargeDepth := 60) only [Keeps.refl, ↓finish_keeps, ↓Kept.ite, ↓State.failChannel_keeps]

theorem execLineDataArrival_kept {line : Nat} {v : LineVerdict} {lanes : Fin 3} {ecc : List EccNote} {copyBad : List Nat} {memory crypto : Nat}
    {s : State} : Kept s (execLineDataArrival line v lanes ecc copyBad memory crypto s) := by
  unfold execLineDataArrival
  try dsimp only
  (repeat' split) <;> simp (maxDischargeDepth := 60) only [Keeps.refl, ↓finish_keeps, ↓State.arriveLine_keeps, ↓State.bump_keeps,
    ↓State.copyRow_keeps, ↓State.countCorrected_keeps, ↓State.failPipe_keeps, ↓State.noteEcc_keeps, ↓State.noteUncorrectable_keeps,
      ↓State.raiseLimited_keeps, ↓State.served_keeps]

theorem execSlotPresenceFiltered_kept {slot : Fin 20} {present : Bool} {record : Nat} {crcOk : Bool}
    {s : State} : Kept s (execSlotPresenceFiltered slot present record crcOk s) := by
  unfold execSlotPresenceFiltered
  simp (maxDischargeDepth := 60) only [Keeps.refl, ↓finish_keeps, ↓Kept.ite, ↓Keeps.ite, ↓State.insertModule_keeps, ↓State.raise_keeps,
    ↓State.removeModule_keeps]

theorem execSlotPowerAttempt_kept {slot : Fin 20} {s : State} : Kept s (execSlotPowerAttempt slot s) := by
  unfold execSlotPowerAttempt
  simp (maxDischargeDepth := 60) only [Keeps.refl, ↓finish_keeps, ↓Kept.ite, ↓State.tryPower_keeps]

theorem execSlotPgAssert_kept {slot : Fin 20} {s : State} : Kept s (execSlotPgAssert slot s) := by
  unfold execSlotPgAssert
  simp (maxDischargeDepth := 60) only [Keeps.refl, ↓finish_keeps, ↓Kept.ite, ↓State.put_keeps]

theorem execSlotPgTimeout_kept {slot : Fin 20} {s : State} : Kept s (execSlotPgTimeout slot s) := by
  unfold execSlotPgTimeout
  simp (maxDischargeDepth := 60) only [Keeps.refl, ↓finish_keeps, ↓Kept.ite, ↓State.failAttempt_keeps]

theorem execSlotFault_kept {slot : Fin 20} {s : State} : Kept s (execSlotFault slot s) := by
  unfold execSlotFault
  simp (maxDischargeDepth := 60) only [Keeps.refl, ↓finish_keeps, ↓Kept.ite, ↓State.failAttempt_keeps, ↓State.put_keeps]

theorem execSlotPowerRetry_kept {slot : Fin 20} {s : State} : Kept s (execSlotPowerRetry slot s) := by
  unfold execSlotPowerRetry
  simp (maxDischargeDepth := 60) only [Keeps.refl, ↓finish_keeps, ↓Kept.ite, ↓State.tryPower_keeps]

theorem execSlotSettleDone_kept {slot : Fin 20} {geometry : Bool} {factoryBad : List Nat}
    {s : State} : Kept s (execSlotSettleDone slot geometry factoryBad s) := by
  unfold execSlotSettleDone
  simp (maxDischargeDepth := 60) only [Keeps.refl, ↓finish_keeps, ↓Kept.ite, ↓Keeps.ite, ↓Keeps.upd, le_refl, ↓State.checkGroup_keeps,
    ↓State.freshMember_keeps, ↓State.joinMember_keeps, ↓State.mapFactory_keeps, ↓State.put_keeps, ↓State.recomputeFreeboard_keeps,
      ↓State.refuseSlot_keeps, ↓State.slotOff_keeps, ↓State.takeSpares_keeps]

theorem execSlotClearFault_kept {slot : Fin 20} {s : State} : Kept s (execSlotClearFault slot s) := by
  unfold execSlotClearFault
  simp (maxDischargeDepth := 60) only [Keeps.refl, ↓finish_keeps, ↓State.clearFault_keeps]

theorem execSlotFailNow_kept {slot : Fin 20} {s : State} : Kept s (execSlotFailNow slot s) := by
  unfold execSlotFailNow
  simp (maxDischargeDepth := 60) only [Keeps.refl, ↓finish_keeps, ↓State.failNow_keeps]

theorem execOnfiReadyTimeout_kept {slot : Fin 20} {s : State} : Kept s (execOnfiReadyTimeout slot s) := by
  unfold execOnfiReadyTimeout
  simp (maxDischargeDepth := 60) only [Keeps.refl, ↓finish_keeps, ↓Kept.ite, ↓State.failSlot_keeps]

theorem execNandEraseDone_kept {what : EraseWhat} {failed : List Nat} {s : State} : Kept s (execNandEraseDone what failed s) := by
  unfold execNandEraseDone
  try dsimp only
  (repeat' split) <;> simp (maxDischargeDepth := 60) only [Keeps.refl, ↓finish_keeps, ↓Keeps.upd, le_refl, ↓State.eraseBlock_keeps,
    ↓State.joinSpare_keeps]

theorem execNoGroupRetry_kept {s : State} : Kept s (execNoGroupRetry s) := by
  unfold execNoGroupRetry
  simp (maxDischargeDepth := 60) only [Keeps.refl, ↓finish_keeps, ↓State.formGroup_keeps]

theorem execRebuildStripe_kept {bad : List Nat} {ecc : DeepEcc} {progFail : Bool} {s : State} : Kept s (execRebuildStripe bad ecc progFail s) := by
  unfold execRebuildStripe
  split <;> simp (maxDischargeDepth := 60) only [Keeps.refl, ↓finish_keeps, ↓Kept.ite, ↓Keeps.ite, ↓Keeps.upd, implies_true, le_refl,
    ↓State.blockRebuilt_keeps, ↓State.bump_keeps, ↓State.checkUce_keeps, ↓State.endPass_keeps, ↓State.forEach_keeps, ↓State.loseStripe_keeps,
      ↓State.noteLdpc_keeps, ↓State.noteUce_keeps, ↓State.rebuildStatus_keeps, ↓State.useSpareBlock_keeps, ↓State.when_keeps]

theorem execRepairReplyTimeout_kept {id : Nat} {s : State} : Kept s (execRepairReplyTimeout id s) := by
  unfold execRepairReplyTimeout
  split <;> simp (maxDischargeDepth := 60) only [Keeps.refl, ↓finish_keeps, ↓Keeps.upd, le_refl, ↓State.losePage_keeps]

theorem execFlashPatrolStripe_kept {bad : List Nat} {ecc : DeepEcc} {parity : Option (Option Nat)} {marginal : Bool} {engine : Option (Fin 2)}
    {s : State} : Kept s (execFlashPatrolStripe bad ecc parity marginal engine s) := by
  unfold execFlashPatrolStripe
  try dsimp only
  (repeat' split) <;> simp (maxDischargeDepth := 60) only [Keeps.refl, ↓finish_keeps, implies_true, ↓State.bump_keeps, ↓State.checkUce_keeps,
    ↓State.disturbBlock_keeps, ↓State.forEach_keeps, ↓State.loseStripe_keeps, ↓State.noteLdpc_keeps, ↓State.noteUce_keeps, ↓State.patrolNext_keeps,
      ↓State.queueBlock_keeps, ↓State.raise_keeps, ↓State.reconstructed_keeps, ↓State.retireEngine_keeps, ↓State.when_keeps]

theorem execFlashPatrolRateUpdate_kept {s : State} : Kept s (execFlashPatrolRateUpdate s) := by
  unfold execFlashPatrolRateUpdate
  simp (maxDischargeDepth := 60) only [Keeps.refl, ↓finish_keeps, ↓State.put_keeps]

theorem execModuleTempRead_kept {slot : Fin 20} {reading : Option (BitVec 16)} {s : State} : Kept s (execModuleTempRead slot reading s) := by
  unfold execModuleTempRead
  split <;> simp (maxDischargeDepth := 60) only [Keeps.refl, ↓finish_keeps, ↓Kept.ite, ↓Keeps.ite, ↓Keeps.upd, le_refl, ↓State.endCond_keeps,
    ↓State.put_keeps, ↓State.raise_keeps, ↓State.setPause_keeps]

theorem execHaSliceSleep_kept {home : Fin 64} {s : State} : Kept s (execHaSliceSleep home s) := by
  unfold execHaSliceSleep
  simp (maxDischargeDepth := 60) only [Keeps.refl, ↓finish_keeps, ↓Kept.ite, ↓State.put_keeps]

theorem execVictimWriteAck_kept {line : Nat} {s : State} : Kept s (execVictimWriteAck line s) := by
  unfold execVictimWriteAck
  simp (maxDischargeDepth := 60) only [Keeps.refl, ↓finish_keeps, ↓Kept.ite, ↓Keeps.upd, implies_true, le_refl, ↓State.cleanLine_keeps,
    ↓State.served_keeps, ↓State.when_keeps]

theorem execHaRemapRequest_kept {home : Fin 64} {phys : Fin 128} {s : State} : Kept s (execHaRemapRequest home phys s) := by
  unfold execHaRemapRequest
  simp (maxDischargeDepth := 60) only [Keeps.refl, ↓finish_keeps, ↓Kept.ite, ↓State.startSliceRemap_keeps]

theorem execHaSliceBistDone_kept {slice : Fin 66} {pass : Bool} {s : State} : Kept s (execHaSliceBistDone slice pass s) := by
  unfold execHaSliceBistDone
  simp (maxDischargeDepth := 60) only [Keeps.refl, ↓finish_keeps, ↓State.sliceBist_keeps]

theorem execHaSliceBistTimeout_kept {slice : Fin 66} {s : State} : Kept s (execHaSliceBistTimeout slice s) := by
  unfold execHaSliceBistTimeout
  simp (maxDischargeDepth := 60) only [Keeps.refl, ↓finish_keeps, ↓State.sliceBist_keeps]

theorem execEpochBoundary_kept {s : State} : Kept s (execEpochBoundary s) := by
  unfold execEpochBoundary
  simp (maxDischargeDepth := 60) only [Keeps.refl, ↓finish_keeps, ↓Kept.ite, ↓State.pipeSwitch_keeps, ↓State.put_keeps, ↓State.sliceSwitch_keeps]

theorem execLatencyTracerClear_kept {s : State} : Kept s (execLatencyTracerClear s) := by
  unfold execLatencyTracerClear
  simp (maxDischargeDepth := 60) only [Keeps.refl, ↓finish_keeps, ↓State.tracerClear_keeps]

theorem execGuestRdGran_kept {p : Fin 2} {tag handle grant addr : Nat} {sramBad : Bool}
    {s : State} : Kept s (execGuestRdGran p tag handle grant addr sramBad s) := by
  unfold execGuestRdGran
  simp (maxDischargeDepth := 60) only [Keeps.refl, ↓finish_keeps, ↓State.guestRead_keeps]

theorem execGuestRdLine_kept {p : Fin 2} {tag handle grant addr : Nat} {sramBad : Bool}
    {s : State} : Kept s (execGuestRdLine p tag handle grant addr sramBad s) := by
  unfold execGuestRdLine
  simp (maxDischargeDepth := 60) only [Keeps.refl, ↓finish_keeps, ↓State.guestRead_keeps]

theorem execGuestRdHint_kept {p : Fin 2} {tag handle grant addr : Nat} {s0 : State} : Kept s0 (execGuestRdHint p tag handle grant addr s0) := by
  unfold execGuestRdHint
  simp (maxDischargeDepth := 60) only [Keeps.refl, ↓finish_keeps, ↓Kept.ite, ↓State.guestMsg_keeps, ↓State.guestProtocol_keeps, ↓State.specRead_keeps]

theorem execGuestWrPtl_kept {p : Fin 2} {tag handle grant addr : Nat} {mask : BitVec 64} {data : Granule} {sramBad : Bool}
    {s : State} : Kept s (execGuestWrPtl p tag handle grant addr mask data sramBad s) := by
  unfold execGuestWrPtl
  simp (maxDischargeDepth := 60) only [Keeps.refl, ↓finish_keeps, ↓State.guestGranule_keeps]

theorem execGuestWrGran_kept {p : Fin 2} {tag handle grant addr : Nat} {data : Granule} {sramBad : Bool}
    {s : State} : Kept s (execGuestWrGran p tag handle grant addr data sramBad s) := by
  unfold execGuestWrGran
  simp (maxDischargeDepth := 60) only [Keeps.refl, ↓finish_keeps, ↓State.guestGranule_keeps]

theorem execGuestWrLine_kept {p : Fin 2} {tag handle grant addr : Nat} {data : LineData}
    {s : State} : Kept s (execGuestWrLine p tag handle grant addr data s) := by
  unfold execGuestWrLine
  simp (maxDischargeDepth := 60) only [Keeps.refl, ↓finish_keeps, ↓State.guestWrite_keeps]

theorem execGuest_kept {q seq : Nat} {s : State} : Kept s (execGuest q seq s) := by
  unfold execGuest
  simp (maxDischargeDepth := 60) only [Keeps.refl, ↓finish_keeps, ↓Keeps.ite, ↓Keeps.upd, implies_true, le_refl, ↓State.completeOp_keeps,
    ↓State.setOp_keeps, ↓State.startOp_keeps]

theorem execGqSubmitDispatch_kept {q : Nat} {s : State} : Kept s (execGqSubmitDispatch q s) := by
  unfold execGqSubmitDispatch
  split <;> simp (maxDischargeDepth := 60) only [Keeps.refl, ↓finish_keeps, ↓Kept.ite, ↓State.submitGuest_keeps]

theorem execGqTakenRx_kept {p : Fin 2} {handle : Nat} {s0 : State} : Kept s0 (execGqTakenRx p handle s0) := by
  unfold execGqTakenRx
  try dsimp only
  (repeat' split) <;> simp (maxDischargeDepth := 60) only [Keeps.refl, ↓finish_keeps, ↓Keeps.upd, le_refl, ↓State.guestMsg_keeps, ↓State.setOp_keeps]

theorem execGqDoneRx_kept {p : Fin 2} {handle code ra rb : Nat} {s0 : State} : Kept s0 (execGqDoneRx p handle code ra rb s0) := by
  unfold execGqDoneRx
  try dsimp only
  (repeat' split) <;> simp (maxDischargeDepth := 60) only [Keeps.refl, ↓finish_keeps, ↓State.endGuestOp_keeps, ↓State.guestMsg_keeps,
    ↓State.guestProtocol_keeps]

theorem execGqTimeout_kept {handle : Nat} {s : State} : Kept s (execGqTimeout handle s) := by
  unfold execGqTimeout
  split <;> simp (maxDischargeDepth := 60) only [Keeps.refl, ↓finish_keeps, ↓Kept.ite, ↓State.bump_keeps, ↓State.endGuestOp_keeps,
    ↓State.raiseLimited_keeps]

theorem execKgGrantWrite_kept {grant : Fin 256} {word : Fin 3} {value : BitVec 32} {s : State} : Kept s (execKgGrantWrite grant word value s) := by
  unfold execKgGrantWrite
  simp (maxDischargeDepth := 60) only [Keeps.refl, ↓finish_keeps, ↓State.grantWrite_keeps]

theorem execGrantRevoke_kept {grant : Fin 256} {s : State} : Kept s (execGrantRevoke grant s) := by
  unfold execGrantRevoke
  simp (maxDischargeDepth := 60) only [Keeps.refl, ↓finish_keeps, ↓Kept.ite, ↓State.grantWrite_keeps]

theorem execGrantRevokedSend_kept {grant : Fin 256} {s : State} : Kept s (execGrantRevokedSend grant s) := by
  unfold execGrantRevokedSend
  simp (maxDischargeDepth := 60) only [Keeps.refl, ↓finish_keeps, ↓Kept.ite, ↓Keeps.upd, le_refl, ↓State.kerupSend_keeps]

theorem execGrantAckRx_kept {p : Fin 2} {grant : Fin 256} {s0 : State} : Kept s0 (execGrantAckRx p grant s0) := by
  unfold execGrantAckRx
  simp (maxDischargeDepth := 60) only [Keeps.refl, ↓finish_keeps, ↓Kept.ite, ↓State.endRevocation_keeps, ↓State.guestMsg_keeps]

theorem execGrantAckTimeout_kept {grant : Fin 256} {s : State} : Kept s (execGrantAckTimeout grant s) := by
  unfold execGrantAckTimeout
  simp (maxDischargeDepth := 60) only [Keeps.refl, ↓finish_keeps, ↓Kept.ite, ↓State.guestRestart_keeps, ↓State.raise_keeps]

theorem execKerupLinkUp_kept {k : Fin 13} {width repaired spares : Nat} {s : State} : Kept s (execKerupLinkUp k width repaired spares s) := by
  unfold execKerupLinkUp
  simp (maxDischargeDepth := 60) only [Keeps.refl, ↓finish_keeps, ↓Kept.ite, ↓Keeps.ite, ↓Keeps.upd, implies_true, le_refl, ↓State.bermDraw_keeps,
    ↓State.bump_keeps, ↓State.dropReqs_keeps, ↓State.endCond_keeps, ↓State.forEach_keeps, ↓State.guestTrained_keeps, ↓State.hubGrants_keeps,
      ↓State.put_keeps, ↓State.raise_keeps, ↓State.retryLines_keeps]

theorem execKerupLinkDown_kept {k : Fin 13} {s : State} : Kept s (execKerupLinkDown k s) := by
  unfold execKerupLinkDown
  simp (maxDischargeDepth := 60) only [Keeps.refl, ↓finish_keeps, ↓Kept.ite, ↓State.dropGuestRequests_keeps, ↓State.endGuestOps_keeps,
    ↓State.put_keeps, ↓State.raise_keeps]

theorem execKerupL1Entry_kept {p : Fin 2} {s : State} : Kept s (execKerupL1Entry p s) := by
  unfold execKerupL1Entry
  simp (maxDischargeDepth := 60) only [Keeps.refl, ↓finish_keeps, ↓Kept.ite, ↓State.put_keeps]

theorem execKerupL1Exit_kept {p : Fin 2} {s : State} : Kept s (execKerupL1Exit p s) := by
  unfold execKerupL1Exit
  simp (maxDischargeDepth := 60) only [Keeps.refl, ↓finish_keeps, ↓Kept.ite, ↓State.kerupPump_keeps, ↓State.put_keeps]

theorem execKerupFlitReplay_kept {k : Fin 13} {s : State} : Kept s (execKerupFlitReplay k s) := by
  unfold execKerupFlitReplay
  simp (maxDischargeDepth := 60) only [Keeps.refl, ↓finish_keeps, ↓Kept.ite, ↓Keeps.upd, implies_true, le_refl, ↓State.bump_keeps,
    ↓State.raise_keeps, ↓State.when_keeps]

theorem execKerupCreditReturn_kept {p : Fin 2} {idle : Bool} {req wdat cmp rdat : Nat} {bad : List Nat}
    {s : State} : Kept s (execKerupCreditReturn p idle req wdat cmp rdat bad s) := by
  unfold execKerupCreditReturn
  simp (maxDischargeDepth := 60) only [Keeps.refl, ↓finish_keeps, ↓Kept.ite, ↓Keeps.upd, implies_true, le_refl, ↓State.badMessages_keeps,
    ↓State.bump_keeps, ↓State.forEach_keeps, ↓State.kerupPump_keeps, ↓State.when_keeps]

theorem execGuestRefclkStable_kept {s : State} : Kept s (execGuestRefclkStable s) := by
  unfold execGuestRefclkStable
  simp (maxDischargeDepth := 60) only [Keeps.refl, ↓finish_keeps, ↓Kept.ite, ↓Keeps.upd, le_refl, ↓State.emit_keeps, ↓State.put_keeps]

theorem execGReadyAssert_kept {s : State} : Kept s (execGReadyAssert s) := by
  unfold execGReadyAssert
  simp (maxDischargeDepth := 60) only [Keeps.refl, ↓finish_keeps, ↓Kept.ite, ↓Keeps.upd, implies_true, le_refl, ↓State.forEach_keeps,
    ↓State.put_keeps]

theorem execGuestBringupTimeout_kept {s : State} : Kept s (execGuestBringupTimeout s) := by
  unfold execGuestBringupTimeout
  simp (maxDischargeDepth := 60) only [Keeps.refl, ↓finish_keeps, ↓Kept.ite, ↓State.guestStepFailed_keeps]

theorem execGuestReset_kept {s : State} : Kept s (execGuestReset s) := by
  unfold execGuestReset
  simp (maxDischargeDepth := 60) only [Keeps.refl, ↓finish_keeps, ↓Kept.ite, ↓State.guestRestart_keeps]

theorem execGuestServiceWrite_kept {service : Bool} {s : State} : Kept s (execGuestServiceWrite service s) := by
  unfold execGuestServiceWrite
  simp (maxDischargeDepth := 60) only [Keeps.refl, ↓finish_keeps, ↓Kept.ite, ↓State.guestService_keeps]

theorem execGErrNfAssert_kept {s : State} : Kept s (execGErrNfAssert s) := by
  unfold execGErrNfAssert
  simp (maxDischargeDepth := 60) only [Keeps.refl, ↓finish_keeps, ↓Kept.ite, ↓State.raise_keeps]

theorem execGErrFAssert_kept {s : State} : Kept s (execGErrFAssert s) := by
  unfold execGErrFAssert
  simp (maxDischargeDepth := 60) only [Keeps.refl, ↓finish_keeps, ↓Kept.ite, ↓State.raise_keeps]

theorem execEchoRspRx_kept {p : Fin 2} {pattern : BitVec 64} {s0 : State} : Kept s0 (execEchoRspRx p pattern s0) := by
  unfold execEchoRspRx
  try dsimp only
  (repeat' split) <;> simp (maxDischargeDepth := 60) only [Keeps.refl, ↓finish_keeps, ↓Keeps.upd, le_refl, ↓State.guestMsg_keeps,
    ↓State.guestPassed_keeps, ↓State.guestStepFailed_keeps, ↓State.sendEcho_keeps]

theorem execKgGregAccess_kept {off : Nat} {write : Bool} {value : BitVec 32} {s : State} : Kept s (execKgGregAccess off write value s) := by
  unfold execKgGregAccess
  simp (maxDischargeDepth := 60) only [Keeps.refl, ↓finish_keeps, ↓State.gregStart_keeps]

theorem execKgGregTimeout_kept {off : Nat} {s : State} : Kept s (execKgGregTimeout off s) := by
  unfold execKgGregTimeout
  split <;> simp (maxDischargeDepth := 60) only [Keeps.refl, ↓finish_keeps, ↓State.endAccess_keeps, ↓State.guestProtocol_keeps]

theorem execGuestRegDataRx_kept {p : Fin 2} {tag : Nat} {value : BitVec 32} {s0 : State} : Kept s0 (execGuestRegDataRx p tag value s0) := by
  unfold execGuestRegDataRx
  try dsimp only
  (repeat' split) <;> simp (maxDischargeDepth := 60) only [Keeps.refl, ↓finish_keeps, ↓Keeps.upd, le_refl, ↓State.endAccess_keeps,
    ↓State.guestIdentity_keeps, ↓State.guestMsg_keeps]

theorem execGuestCmpOkRx_kept {p : Fin 2} {tag : Nat} {s0 : State} : Kept s0 (execGuestCmpOkRx p tag s0) := by
  unfold execGuestCmpOkRx
  try dsimp only
  (repeat' split) <;> simp (maxDischargeDepth := 60) only [Keeps.refl, ↓finish_keeps, ↓State.endAccess_keeps, ↓State.guestMsg_keeps]

theorem execGuestCmpErrRx_kept {p : Fin 2} {tag code : Nat} {s0 : State} : Kept s0 (execGuestCmpErrRx p tag code s0) := by
  unfold execGuestCmpErrRx
  try dsimp only
  (repeat' split) <;> simp (maxDischargeDepth := 60) only [Keeps.refl, ↓finish_keeps, ↓State.draw_keeps, ↓State.endAccess_keeps,
    ↓State.guestMsg_keeps, ↓State.guestStepFailed_keeps]

theorem execKeyProvision_kept {q seq : Nat} {tagOk : Bool} {s : State} : Kept s (execKeyProvision q seq tagOk s) := by
  unfold execKeyProvision
  simp (maxDischargeDepth := 60) only [Keeps.refl, ↓finish_keeps, ↓Keeps.ite, ↓Keeps.ite_snd, implies_true, ↓State.completeOp_keeps,
    ↓State.postKey_keeps, ↓State.raise_keeps, ↓State.setOp_keeps, ↓State.startOp_keeps, ↓State.unwrap_keeps]

theorem execKeyRotate_kept {q seq : Nat} {s : State} : Kept s (execKeyRotate q seq s) := by
  unfold execKeyRotate
  simp (maxDischargeDepth := 60) only [Keeps.refl, ↓finish_keeps, ↓Keeps.ite, implies_true, ↓State.completeOp_keeps, ↓State.startOp_keeps,
    ↓State.startRotations_keeps]

theorem execRotationSweepExtent_kept {idx : Fin 8192} {bad : List (Nat × LineVerdict)} {s : State} : Kept s (execRotationSweepExtent idx bad s) := by
  unfold execRotationSweepExtent
  simp (maxDischargeDepth := 60) only [Keeps.refl, ↓finish_keeps, ↓Kept.ite, ↓Keeps.ite, implies_true, ↓State.endRotation_keeps,
    ↓State.forEach_keeps, ↓State.put_keeps, ↓State.requestFill_keeps, ↓State.sweepLines_keeps]

theorem execFlipMaskArm_kept {f : Fin 4} {read : Option Bool} {s : State} : Kept s (execFlipMaskArm f read s) := by
  unfold execFlipMaskArm
  split <;> simp (maxDischargeDepth := 60) only [Keeps.refl, ↓finish_keeps, ↓State.flipRead_keeps, ↓State.flipWrite_keeps, ↓State.put_keeps]

theorem execKsLoad_kept {s : State} : Kept s (execKsLoad s) := by
  unfold execKsLoad
  simp (maxDischargeDepth := 60) only [Keeps.refl, ↓finish_keeps, ↓State.ksLoad_keeps]

theorem execKsDestroy_kept {s : State} : Kept s (execKsDestroy s) := by
  unfold execKsDestroy
  simp (maxDischargeDepth := 60) only [Keeps.refl, ↓finish_keeps, ↓State.ksDestroy_keeps]

theorem execKsCommandDone_kept {s : State} : Kept s (execKsCommandDone s) := by
  unfold execKsCommandDone
  split <;> simp (maxDischargeDepth := 60) only [Keeps.refl, ↓finish_keeps, ↓Keeps.ite, ↓Keeps.upd, le_refl, ↓State.flipRead_keeps, ↓State.put_keeps]

theorem execKeyStoreUpdate_kept {s : State} : Kept s (execKeyStoreUpdate s) := by
  unfold execKeyStoreUpdate
  simp (maxDischargeDepth := 60) only [Keeps.refl, ↓finish_keeps, ↓Kept.ite, ↓Keeps.upd, le_refl, ↓State.put_keeps]

theorem execKeyStoreUpdateDone_kept {s : State} : Kept s (execKeyStoreUpdateDone s) := by
  unfold execKeyStoreUpdateDone
  simp (maxDischargeDepth := 60) only [Keeps.refl, ↓finish_keeps, ↓Kept.ite, ↓Keeps.upd, le_refl, ↓State.commitStore_keeps,
    ↓State.dropStaleMasters_keeps, ↓State.keyInForce_keeps, ↓State.put_keeps, ↓State.syncKeysValid_keeps]

theorem execCpIdleSleep_kept {home : Fin 64} {s : State} : Kept s (execCpIdleSleep home s) := by
  unfold execCpIdleSleep
  simp (maxDischargeDepth := 60) only [Keeps.refl, ↓finish_keeps, ↓Kept.ite, ↓Keeps.upd, le_refl]

theorem execCpRemapRequest_kept {home : Fin 64} {phys : Fin 128} {s : State} : Kept s (execCpRemapRequest home phys s) := by
  unfold execCpRemapRequest
  simp (maxDischargeDepth := 60) only [Keeps.refl, ↓finish_keeps, ↓Kept.ite, ↓State.startPipeRemap_keeps]

theorem execCpSelfTestDone_kept {pipe : Fin 68} {pass : Bool} {s : State} : Kept s (execCpSelfTestDone pipe pass s) := by
  unfold execCpSelfTestDone
  simp (maxDischargeDepth := 60) only [Keeps.refl, ↓finish_keeps, ↓State.pipeTest_keeps]

theorem execCpSelfTestTimeout_kept {pipe : Fin 68} {s : State} : Kept s (execCpSelfTestTimeout pipe s) := by
  unfold execCpSelfTestTimeout
  simp (maxDischargeDepth := 60) only [Keeps.refl, ↓finish_keeps, ↓State.pipeTest_keeps]

theorem execGetEventRecords_kept {ld : Fin 64} {log : Fin 4} {s : State} : Kept s (execGetEventRecords ld log s) := by
  unfold execGetEventRecords
  simp (maxDischargeDepth := 60) only [Keeps.refl, ↓finish_keeps, implies_true, ↓State.mailbox_keeps, ↓State.mboxOk_keeps]

theorem execClearEventRecords_kept {ld : Fin 64} {log : Fin 4} {all : Bool} {handles : List Nat}
    {s : State} : Kept s (execClearEventRecords ld log all handles s) := by
  unfold execClearEventRecords
  simp (maxDischargeDepth := 60) only [Keeps.refl, ↓finish_keeps, implies_true, ↓State.mailbox_keeps, ↓State.mboxOk_keeps, ↓State.setLd_keeps]

theorem execGetEventInterruptPolicy_kept {ld : Fin 64} {s : State} : Kept s (execGetEventInterruptPolicy ld s) := by
  unfold execGetEventInterruptPolicy
  simp (maxDischargeDepth := 60) only [Keeps.refl, ↓finish_keeps, implies_true, ↓State.mailbox_keeps, ↓State.mboxOk_keeps]

theorem execSetEventInterruptPolicy_kept {ld : Fin 64} {policy : Nat} {s : State} : Kept s (execSetEventInterruptPolicy ld policy s) := by
  unfold execSetEventInterruptPolicy
  simp (maxDischargeDepth := 60) only [Keeps.refl, ↓finish_keeps, ↓Keeps.ite, implies_true, ↓State.emit_keeps, ↓State.mailbox_keeps,
    ↓State.mboxOk_keeps, ↓State.setLd_keeps]

theorem execGetFwInfo_kept {ld : Fin 64} {s : State} : Kept s (execGetFwInfo ld s) := by
  unfold execGetFwInfo
  simp (maxDischargeDepth := 60) only [Keeps.refl, ↓finish_keeps, implies_true, ↓State.mailbox_keeps, ↓State.mboxOk_keeps]

theorem execGetTimestamp_kept {ld : Fin 64} {s : State} : Kept s (execGetTimestamp ld s) := by
  unfold execGetTimestamp
  simp (maxDischargeDepth := 60) only [Keeps.refl, ↓finish_keeps, implies_true, ↓State.mailbox_keeps, ↓State.mboxOk_keeps]

theorem execSetTimestamp_kept {ld : Fin 64} {t : Nat} {s : State} : Kept s (execSetTimestamp ld t s) := by
  unfold execSetTimestamp
  simp (maxDischargeDepth := 60) only [Keeps.refl, ↓finish_keeps, implies_true, ↓State.mailbox_keeps, ↓State.mboxOk_keeps, ↓State.setLd_keeps]

theorem execGetSupportedLogs_kept {ld : Fin 64} {s : State} : Kept s (execGetSupportedLogs ld s) := by
  unfold execGetSupportedLogs
  simp (maxDischargeDepth := 60) only [Keeps.refl, ↓finish_keeps, implies_true, ↓State.mailbox_keeps, ↓State.mboxOk_keeps]

theorem execGetLog_kept {ld : Fin 64} {cel : Bool} {s : State} : Kept s (execGetLog ld cel s) := by
  unfold execGetLog
  simp (maxDischargeDepth := 60) only [Keeps.refl, ↓finish_keeps, ↓Keeps.ite, implies_true, ↓State.emit_keeps, ↓State.mailbox_keeps,
    ↓State.mboxOk_keeps]

theorem execIdentifyMemoryDevice_kept {ld : Fin 64} {s : State} : Kept s (execIdentifyMemoryDevice ld s) := by
  unfold execIdentifyMemoryDevice
  simp (maxDischargeDepth := 60) only [Keeps.refl, ↓finish_keeps, implies_true, ↓State.mailbox_keeps, ↓State.mboxOk_keeps]

theorem execGetPartitionInfo_kept {ld : Fin 64} {s : State} : Kept s (execGetPartitionInfo ld s) := by
  unfold execGetPartitionInfo
  simp (maxDischargeDepth := 60) only [Keeps.refl, ↓finish_keeps, implies_true, ↓State.mailbox_keeps, ↓State.mboxOk_keeps]

theorem execGetLsa_kept {ld : Fin 64} {off len : Nat} {s : State} : Kept s (execGetLsa ld off len s) := by
  unfold execGetLsa
  simp (maxDischargeDepth := 60) only [Keeps.refl, ↓finish_keeps, ↓Keeps.ite, implies_true, ↓State.emit_keeps, ↓State.mailbox_keeps,
    ↓State.mboxOk_keeps]

theorem execSetLsa_kept {ld : Fin 64} {off : Nat} {data : List Byte} {s : State} : Kept s (execSetLsa ld off data s) := by
  unfold execSetLsa
  simp (maxDischargeDepth := 60) only [Keeps.refl, ↓finish_keeps, ↓Keeps.ite, implies_true, ↓State.emit_keeps, ↓State.mailbox_keeps,
    ↓State.mboxOk_keeps, ↓State.setLd_keeps, ↓State.setWinRec_keeps]

theorem execGetHealthInfo_kept {ld : Fin 64} {s : State} : Kept s (execGetHealthInfo ld s) := by
  unfold execGetHealthInfo
  simp (maxDischargeDepth := 60) only [Keeps.refl, ↓finish_keeps, implies_true, ↓State.mailbox_keeps, ↓State.mboxOk_keeps]

theorem execGetAlertConfiguration_kept {ld : Fin 64} {s : State} : Kept s (execGetAlertConfiguration ld s) := by
  unfold execGetAlertConfiguration
  simp (maxDischargeDepth := 60) only [Keeps.refl, ↓finish_keeps, implies_true, ↓State.mailbox_keeps, ↓State.mboxOk_keeps]

theorem execGetShutdownState_kept {ld : Fin 64} {s : State} : Kept s (execGetShutdownState ld s) := by
  unfold execGetShutdownState
  simp (maxDischargeDepth := 60) only [Keeps.refl, ↓finish_keeps, implies_true, ↓State.mailbox_keeps, ↓State.mboxOk_keeps]

theorem execSetShutdownState_kept {ld : Fin 64} {v : Nat} {s : State} : Kept s (execSetShutdownState ld v s) := by
  unfold execSetShutdownState
  simp (maxDischargeDepth := 60) only [Keeps.refl, ↓finish_keeps, implies_true, ↓State.mailbox_keeps, ↓State.mboxOk_keeps, ↓State.setWinRec_keeps]

theorem execGetPoisonList_kept {ld : Fin 64} {dpa len : Nat} {s : State} : Kept s (execGetPoisonList ld dpa len s) := by
  unfold execGetPoisonList
  simp (maxDischargeDepth := 60) only [Keeps.refl, ↓finish_keeps, implies_true, ↓State.mailbox_keeps, ↓State.mboxOk_keeps]

theorem execInjectPoison_kept {ld : Fin 64} {dpa : Nat} {s : State} : Kept s (execInjectPoison ld dpa s) := by
  unfold execInjectPoison
  refine finish_keeps (State.mailbox_keeps (Keeps.refl s) fun t => ?_)
  split
  · exact State.emit_keeps (Keeps.refl t)
  · exact Keeps.ite (State.emit_keeps (Keeps.refl t)) (Keeps.ite (State.emit_keeps (Keeps.refl t))
      (State.mboxOk_keeps (State.allocLine_keeps (State.poisonLine_keeps (State.grant_keeps (Keeps.refl t))))))

theorem execClearPoison_kept {ld : Fin 64} {dpa : Nat} {data : Granule} {s : State} : Kept s (execClearPoison ld dpa data s) := by
  unfold execClearPoison
  refine finish_keeps (State.mailbox_keeps (Keeps.refl s) fun t => ?_)
  split
  · exact State.emit_keeps (Keeps.refl t)
  · exact Keeps.ite (State.emit_keeps (Keeps.refl t)) (State.mboxOk_keeps (State.presentWrite_keeps (Keeps.refl t)))

theorem execScanMedia_kept {ld : Fin 64} {dpa len : Nat} {s : State} : Kept s (execScanMedia ld dpa len s) := by
  unfold execScanMedia
  simp (maxDischargeDepth := 60) only [Keeps.refl, ↓finish_keeps, ↓Keeps.ite, implies_true, ↓State.emit_keeps, ↓State.mailbox_keeps,
    ↓State.setLd_keeps]

theorem execGetScanMediaCapabilities_kept {ld : Fin 64} {dpa len : Nat} {s : State} : Kept s (execGetScanMediaCapabilities ld dpa len s) := by
  unfold execGetScanMediaCapabilities
  simp (maxDischargeDepth := 60) only [Keeps.refl, ↓finish_keeps, ↓Keeps.ite, implies_true, ↓State.emit_keeps, ↓State.mailbox_keeps,
    ↓State.mboxOk_keeps]

theorem execGetScanMediaResults_kept {ld : Fin 64} {s : State} : Kept s (execGetScanMediaResults ld s) := by
  unfold execGetScanMediaResults
  simp (maxDischargeDepth := 60) only [Keeps.refl, ↓finish_keeps, implies_true, ↓State.mailbox_keeps, ↓State.mboxOk_keeps]

theorem execScanMediaDone_kept {ld : Fin 64} {bad : List Nat} {s : State} : Kept s (execScanMediaDone ld bad s) := by
  unfold execScanMediaDone
  try dsimp only
  (repeat' split) <;> simp (maxDischargeDepth := 60) only [Keeps.refl, ↓finish_keeps, ↓Keeps.upd, le_refl, ↓State.setLd_keeps]

theorem execMailboxUnsupported_kept {ld : Fin 64} {_opcode : Nat} {s : State} : Kept s (execMailboxUnsupported ld _opcode s) := by
  unfold execMailboxUnsupported
  simp (maxDischargeDepth := 60) only [Keeps.refl, ↓finish_keeps, implies_true, ↓State.emit_keeps, ↓State.mailbox_keeps]

theorem execGetLdInfo_kept {l : Fin 16} {s : State} : Kept s (execGetLdInfo l s) := by
  unfold execGetLdInfo
  simp (maxDischargeDepth := 60) only [Keeps.refl, ↓finish_keeps, implies_true, ↓State.emit_keeps, ↓State.fmReach_keeps]

theorem execGetLdAllocations_kept {l : Fin 16} {s : State} : Kept s (execGetLdAllocations l s) := by
  unfold execGetLdAllocations
  simp (maxDischargeDepth := 60) only [Keeps.refl, ↓finish_keeps, implies_true, ↓State.emit_keeps, ↓State.fmReach_keeps]

theorem execGetQosStatus_kept {l : Fin 16} {s : State} : Kept s (execGetQosStatus l s) := by
  unfold execGetQosStatus
  simp (maxDischargeDepth := 60) only [Keeps.refl, ↓finish_keeps, implies_true, ↓State.emit_keeps, ↓State.fmReach_keeps]

theorem execFmApiUnsupported_kept {l : Fin 16} {_opcode : Nat} {s : State} : Kept s (execFmApiUnsupported l _opcode s) := by
  unfold execFmApiUnsupported
  simp (maxDischargeDepth := 60) only [Keeps.refl, ↓finish_keeps, implies_true, ↓State.emit_keeps, ↓State.fmReach_keeps]

theorem execRegionAttach_kept {q seq : Nat} {s : State} : Kept s (execRegionAttach q seq s) := by
  unfold execRegionAttach
  refine finish_keeps (State.startOp_keeps (Keeps.refl s) fun o t => ?_)
  dsimp only
  refine Keeps.ite (State.completeOp_keeps (Keeps.refl t)) (Keeps.ite (State.completeOp_keeps (Keeps.refl t)) (Keeps.ite ?_ ?_))
  · split
    · exact State.completeOp_keeps (Keeps.refl t)
    · exact State.attachNew_keeps (Keeps.refl t)
  · split
    · exact State.completeOp_keeps (Keeps.refl t)
    · exact State.changeRegion_keeps (State.setOp_keeps (Keeps.refl t))

theorem execRegionAttachComplete_kept {q seq : Nat} {s : State} : Kept s (execRegionAttachComplete q seq s) := by
  unfold execRegionAttachComplete
  try dsimp only
  (repeat' split) <;> simp (maxDischargeDepth := 60) only [Keeps.refl, ↓finish_keeps, implies_true, ↓State.completeOp_keeps,
    ↓State.pinRegion_keeps, ↓State.when_keeps]

theorem execRegionDetach_kept {q seq : Nat} {s : State} : Kept s (execRegionDetach q seq s) := by
  unfold execRegionDetach
  simp (maxDischargeDepth := 60) only [Keeps.refl, ↓finish_keeps, ↓Keeps.ite, implies_true, ↓State.changeRegion_keeps, ↓State.completeOp_keeps,
    ↓State.setOp_keeps, ↓State.startOp_keeps]

theorem execRegionDetachComplete_kept {q seq : Nat} {s : State} : Kept s (execRegionDetachComplete q seq s) := by
  unfold execRegionDetachComplete
  split <;> simp (maxDischargeDepth := 60) only [Keeps.refl, ↓finish_keeps, ↓Kept.ite, ↓State.completeOp_keeps]

theorem execRegionRelease_kept {idx : Fin 8192} {s : State} : Kept s (execRegionRelease idx s) := by
  unfold execRegionRelease
  simp (maxDischargeDepth := 60) only [Keeps.refl, ↓finish_keeps, ↓Kept.ite, ↓State.changeRegion_keeps]

theorem execRegionInfo_kept {q seq : Nat} {s : State} : Kept s (execRegionInfo q seq s) := by
  unfold execRegionInfo
  split <;> simp (maxDischargeDepth := 60) only [Keeps.refl, ↓finish_keeps, ↓Kept.ite, ↓State.completeOp_keeps, ↓State.emit_keeps]

theorem execTenantCreate_kept {t : Fin 4096} {s : State} : Kept s (execTenantCreate t s) := by
  unfold execTenantCreate
  simp (maxDischargeDepth := 60) only [Keeps.refl, ↓finish_keeps, ↓Kept.ite, ↓State.sequencePoint_keeps]

theorem execTenantRemove_kept {t : Fin 4096} {s : State} : Kept s (execTenantRemove t s) := by
  unfold execTenantRemove
  simp (maxDischargeDepth := 60) only [Keeps.refl, ↓finish_keeps, ↓Kept.ite, ↓State.sequencePoint_keeps]

theorem execBindingWrite_kept {pkeyMap : Bool} {i : Nat} {v : Nat} {s : State} : Kept s (execBindingWrite pkeyMap i v s) := by
  unfold execBindingWrite
  simp (maxDischargeDepth := 60) only [Keeps.refl, ↓finish_keeps, ↓Kept.ite, ↓State.sequencePoint_keeps, ↓State.writeLdMap_keeps]

theorem execRingEnable_kept {ld r : Fin 64} {v : Nat} {s : State} : Kept s (execRingEnable ld r v s) := by
  unfold execRingEnable
  simp (maxDischargeDepth := 60) only [Keeps.refl, ↓finish_keeps, ↓State.enableRing_keeps]

theorem execRingDisable_kept {ld r : Fin 64} {s : State} : Kept s (execRingDisable ld r s) := by
  unfold execRingDisable
  simp (maxDischargeDepth := 60) only [Keeps.refl, ↓finish_keeps, ↓State.destroyQueue_keeps]

theorem execRingDisabled_kept {ld r : Fin 64} {s : State} : Kept s (execRingDisabled ld r s) := by
  unfold execRingDisabled
  simp (maxDischargeDepth := 60) only [Keeps.refl, ↓finish_keeps, ↓Kept.ite, ↓State.setQueue_keeps]

theorem execPollerTick_kept {ld r : Fin 64} {s : State} : Kept s (execPollerTick ld r s) := by
  unfold execPollerTick
  simp (maxDischargeDepth := 60) only [Keeps.refl, ↓finish_keeps, ↓Kept.ite, ↓State.emit_keeps]

theorem execRingFetchData_kept {ld r : Fin 64} {ds : List (BitVec 512)} {s : State} : Kept s (execRingFetchData ld r ds s) := by
  unfold execRingFetchData
  simp (maxDischargeDepth := 60) only [Keeps.refl, ↓finish_keeps, ↓Kept.ite, ↓State.emit_keeps, ↓State.fetchAll_keeps, ↓State.pollFetch_keeps,
    ↓State.setQueue_keeps]

theorem execRingControlRecordReturn_kept {ld r : Fin 64} {tail head : Nat} {s : State} : Kept s (execRingControlRecordReturn ld r tail head s) := by
  unfold execRingControlRecordReturn
  simp (maxDischargeDepth := 60) only [Keeps.refl, ↓finish_keeps, ↓Kept.ite, implies_true, ↓State.offerTakeover_keeps, ↓State.pollFetch_keeps,
    ↓State.setQueue_keeps, ↓State.when_keeps]

theorem execCqHeadRecheck_kept {ld r : Fin 64} {s : State} : Kept s (execCqHeadRecheck ld r s) := by
  unfold execCqHeadRecheck
  simp (maxDischargeDepth := 60) only [Keeps.refl, ↓finish_keeps, ↓Kept.ite, ↓State.emit_keeps]

theorem execCqFullTimeout_kept {ld r : Fin 64} {s : State} : Kept s (execCqFullTimeout ld r s) := by
  unfold execCqFullTimeout
  simp (maxDischargeDepth := 60) only [Keeps.refl, ↓finish_keeps, ↓Kept.ite, ↓State.raise_keeps, ↓State.setQueue_keeps]

theorem execRingIdleSleep_kept {ld r : Fin 64} {tail : Nat} {s : State} : Kept s (execRingIdleSleep ld r tail s) := by
  unfold execRingIdleSleep
  simp (maxDischargeDepth := 60) only [Keeps.refl, ↓finish_keeps, ↓Kept.ite, ↓State.emit_keeps, ↓State.pollFetch_keeps, ↓State.setQueue_keeps]

theorem execRingWake_kept {ld : Fin 64} {mask : BitVec 64} {s : State} : Kept s (execRingWake ld mask s) := by
  unfold execRingWake
  simp (maxDischargeDepth := 60) only [Keeps.refl, ↓finish_keeps, ↓State.wakeRings_keeps]

theorem execRingRestart_kept {ld r : Fin 64} {s : State} : Kept s (execRingRestart ld r s) := by
  unfold execRingRestart
  simp (maxDischargeDepth := 60) only [Keeps.refl, ↓finish_keeps, ↓State.restartQueue_keeps]

theorem execIrqCoalesceExpiry_kept {ld r : Fin 64} {notice : Bool} {s : State} : Kept s (execIrqCoalesceExpiry ld r notice s) := by
  unfold execIrqCoalesceExpiry
  simp (maxDischargeDepth := 60) only [Keeps.refl, ↓finish_keeps, ↓Kept.ite, ↓State.msix_keeps, ↓State.setQueue_keeps]

theorem execRingReadCompletionTimeout_kept {ld r : Fin 64} {s : State} : Kept s (execRingReadCompletionTimeout ld r s) := by
  unfold execRingReadCompletionTimeout
  simp (maxDischargeDepth := 60) only [Keeps.refl, ↓finish_keeps, ↓Kept.ite, ↓State.setQueue_keeps, ↓State.stopQueue_keeps]

theorem execHeartbeatTimer_kept {s : State} : Kept s (execHeartbeatTimer s) := by
  unfold execHeartbeatTimer
  simp (maxDischargeDepth := 60) only [Keeps.refl, ↓finish_keeps, ↓Kept.ite, ↓State.witSend_keeps]

theorem execTakeoverReqResend_kept {s : State} : Kept s (execTakeoverReqResend s) := by
  unfold execTakeoverReqResend
  simp (maxDischargeDepth := 60) only [Keeps.refl, ↓finish_keeps, ↓Kept.ite, ↓State.witSend_keeps]

theorem execWitnessStatusRx_kept {f : WitFrame} {s : State} : Kept s (execWitnessStatusRx f s) := by
  unfold execWitnessStatusRx
  simp (maxDischargeDepth := 60) only [Keeps.refl, ↓finish_keeps, implies_true, ↓State.heedStatus_keeps, ↓State.witFrame_keeps]

theorem execWitnessGrantRx_kept {f : WitFrame} {scans : List (Nat × Nat × Nat)} {s : State} : Kept s (execWitnessGrantRx f scans s) := by
  unfold execWitnessGrantRx
  simp (maxDischargeDepth := 60) only [Keeps.refl, ↓finish_keeps, implies_true, ↓State.heedGrant_keeps, ↓State.witFrame_keeps]

theorem execWitnessDenyRx_kept {f : WitFrame} {s : State} : Kept s (execWitnessDenyRx f s) := by
  unfold execWitnessDenyRx
  simp (maxDischargeDepth := 60) only [Keeps.refl, ↓finish_keeps, implies_true, ↓State.raise_keeps, ↓State.witFrame_keeps]

theorem execWitnessFenceRx_kept {f : WitFrame} {s : State} : Kept s (execWitnessFenceRx f s) := by
  unfold execWitnessFenceRx
  simp (maxDischargeDepth := 60) only [Keeps.refl, ↓finish_keeps, implies_true, ↓State.setFence_keeps, ↓State.witFrame_keeps]

theorem execWitnessContactTimeout_kept {s : State} : Kept s (execWitnessContactTimeout s) := by
  unfold execWitnessContactTimeout
  simp (maxDischargeDepth := 60) only [Keeps.refl, ↓finish_keeps, ↓State.loseWitness_keeps]

theorem execTwinContactTimeout_kept {s : State} : Kept s (execTwinContactTimeout s) := by
  unfold execTwinContactTimeout
  simp (maxDischargeDepth := 60) only [Keeps.refl, ↓finish_keeps, ↓State.loseTwin_keeps]

theorem execFenceNAssert_kept {s : State} : Kept s (execFenceNAssert s) := by
  unfold execFenceNAssert
  simp (maxDischargeDepth := 60) only [Keeps.refl, ↓finish_keeps, ↓Kept.ite, ↓State.put_keeps, ↓State.setFence_keeps]

theorem execFenceNDeassert_kept {s : State} : Kept s (execFenceNDeassert s) := by
  unfold execFenceNDeassert
  simp (maxDischargeDepth := 60) only [Keeps.refl, ↓finish_keeps, ↓State.put_keeps]

theorem execCheckpointDue_kept {late : Bool} {us : Nat} {s : State} : Kept s (execCheckpointDue late us s) := by
  unfold execCheckpointDue
  simp (maxDischargeDepth := 60) only [Keeps.refl, ↓finish_keeps, ↓Kept.ite, ↓State.checkpoint_keeps, ↓State.raiseLimited_keeps]

theorem execCwDrain_kept {s : State} : Kept s (execCwDrain s) := by
  unfold execCwDrain
  simp (maxDischargeDepth := 60) only [Keeps.refl, ↓finish_keeps, ↓State.drain_keeps]

theorem execDrainCutoverReady_kept {us : Nat} {s : State} : Kept s (execDrainCutoverReady us s) := by
  unfold execDrainCutoverReady
  simp (maxDischargeDepth := 60) only [Keeps.refl, ↓finish_keeps, ↓Kept.ite, ↓State.releaseSide_keeps]

theorem execDrainReleaseTimeout_kept {s : State} : Kept s (execDrainReleaseTimeout s) := by
  unfold execDrainReleaseTimeout
  simp (maxDischargeDepth := 60) only [Keeps.refl, ↓finish_keeps, ↓Kept.ite, ↓State.abandonDrain_keeps]

theorem execCwUnpair_kept {s : State} : Kept s (execCwUnpair s) := by
  unfold execCwUnpair
  simp (maxDischargeDepth := 60) only [Keeps.refl, ↓finish_keeps, ↓State.unpairCommand_keeps]

theorem execCwReplaceAllow_kept {s : State} : Kept s (execCwReplaceAllow s) := by
  unfold execCwReplaceAllow
  simp (maxDischargeDepth := 60) only [Keeps.refl, ↓finish_keeps, ↓Keeps.upd, le_refl]

theorem execCwPairAllowNew_kept {s : State} : Kept s (execCwPairAllowNew s) := by
  unfold execCwPairAllowNew
  simp (maxDischargeDepth := 60) only [Keeps.refl, ↓finish_keeps, ↓Keeps.upd, le_refl]

theorem execPairAllowExpiry_kept {replace : Bool} {s : State} : Kept s (execPairAllowExpiry replace s) := by
  unfold execPairAllowExpiry
  simp (maxDischargeDepth := 60) only [Keeps.refl, ↓finish_keeps, ↓Kept.ite, ↓Keeps.upd, le_refl]

theorem execCatchupCopyExtent_kept {x : Nat} {s : State} : Kept s (execCatchupCopyExtent x s) := by
  unfold execCatchupCopyExtent
  simp (maxDischargeDepth := 60) only [Keeps.refl, ↓finish_keeps, ↓Kept.ite, ↓State.copyExtent_keeps]

theorem execCatchupComplete_kept {s : State} : Kept s (execCatchupComplete s) := by
  unfold execCatchupComplete
  simp (maxDischargeDepth := 60) only [Keeps.refl, ↓finish_keeps, ↓Kept.ite, ↓Keeps.upd, le_refl, ↓State.put_keeps, ↓State.sendFrame_keeps]

theorem execHandbackStart_kept {us : Nat} {s : State} : Kept s (execHandbackStart us s) := by
  unfold execHandbackStart
  simp (maxDischargeDepth := 60) only [Keeps.refl, ↓finish_keeps, ↓Kept.ite, ↓Keeps.upd, le_refl, ↓State.releaseSide_keeps]

theorem execRestoreExit_kept {s : State} : Kept s (execRestoreExit s) := by
  unfold execRestoreExit
  simp (maxDischargeDepth := 60) only [Keeps.refl, ↓finish_keeps, ↓Kept.ite, implies_true, ↓State.beginMap_keeps, ↓State.endRestore_keeps,
    ↓State.enterBringup_keeps, ↓State.put_keeps, ↓State.setFence_keeps, ↓State.startCatchup_keeps, ↓State.when_keeps]

theorem execReeveLockstepFail_kept {failed : List (Fin 3)} {s : State} : Kept s (execReeveLockstepFail failed s) := by
  unfold execReeveLockstepFail
  simp (maxDischargeDepth := 60) only [Keeps.refl, ↓finish_keeps, ↓Kept.ite, ↓State.coreBist_keeps, ↓State.raise_keeps, ↓State.reeveReset_keeps]

theorem execReeveWatchdogExpiry_kept {s : State} : Kept s (execReeveWatchdogExpiry s) := by
  unfold execReeveWatchdogExpiry
  simp (maxDischargeDepth := 60) only [Keeps.refl, ↓finish_keeps, ↓Kept.ite, ↓State.raise_keeps, ↓State.reeveReset_keeps]

theorem execRvWdtKick_kept {_value : BitVec 32} {corrected : Nat} {s : State} : Kept s (execRvWdtKick _value corrected s) := by
  unfold execRvWdtKick
  simp (maxDischargeDepth := 60) only [Keeps.refl, ↓finish_keeps, ↓State.bump_keeps, ↓State.watchdogKick_keeps]

theorem execReeveSramUncorrectable_kept {addr : Nat} {s : State} : Kept s (execReeveSramUncorrectable addr s) := by
  unfold execReeveSramUncorrectable
  simp (maxDischargeDepth := 60) only [Keeps.refl, ↓finish_keeps, ↓Kept.ite, ↓State.emit_keeps, ↓State.raise_keeps, ↓State.reeveReset_keeps]

theorem execReeveBoot_kept {checks : List SlotCheck} {s : State} : Kept s (execReeveBoot checks s) := by
  unfold execReeveBoot
  simp (maxDischargeDepth := 60) only [Keeps.refl, ↓finish_keeps, ↓Kept.ite, ↓State.reeveBoot_keeps]

theorem execFwTrialConfirm_kept {s : State} : Kept s (execFwTrialConfirm s) := by
  unfold execFwTrialConfirm
  simp (maxDischargeDepth := 60) only [Keeps.refl, ↓finish_keeps, ↓State.confirmTrial_keeps]

theorem execFwTrialTimeout_kept {s : State} : Kept s (execFwTrialTimeout s) := by
  unfold execFwTrialTimeout
  simp (maxDischargeDepth := 60) only [Keeps.refl, ↓finish_keeps, ↓Kept.ite, ↓State.reeveReset_keeps]

theorem execFlashUnlockWrite_kept {bank : Fin 4} {off : Nat} {value : Byte} {s : State} : Kept s (execFlashUnlockWrite bank off value s) := by
  unfold execFlashUnlockWrite
  simp (maxDischargeDepth := 60) only [Keeps.refl, ↓finish_keeps, ↓State.flashByte_keeps]

theorem execProgramWord_kept {addr : Nat} {value : BitVec 32} {s : State} : Kept s (execProgramWord addr value s) := by
  unfold execProgramWord
  simp (maxDischargeDepth := 60) only [Keeps.refl, ↓finish_keeps, ↓State.flashOperand_keeps]

theorem execProgramRow_kept {addr : Nat} {value : BitVec 32} {s : State} : Kept s (execProgramRow addr value s) := by
  unfold execProgramRow
  simp (maxDischargeDepth := 60) only [Keeps.refl, ↓finish_keeps, ↓State.flashOperand_keeps]

theorem execEraseSector_kept {addr : Nat} {value : BitVec 32} {s : State} : Kept s (execEraseSector addr value s) := by
  unfold execEraseSector
  simp (maxDischargeDepth := 60) only [Keeps.refl, ↓finish_keeps, ↓State.flashOperand_keeps]

theorem execEraseBlock_kept {addr : Nat} {value : BitVec 32} {s : State} : Kept s (execEraseBlock addr value s) := by
  unfold execEraseBlock
  simp (maxDischargeDepth := 60) only [Keeps.refl, ↓finish_keeps, ↓State.flashOperand_keeps]

theorem execFlashClearStatus_kept {bank : Fin 4} {s : State} : Kept s (execFlashClearStatus bank s) := by
  unfold execFlashClearStatus
  simp (maxDischargeDepth := 60) only [Keeps.refl, ↓finish_keeps, ↓State.flashByte_keeps]

theorem execFlashReset_kept {bank : Fin 4} {s : State} : Kept s (execFlashReset bank s) := by
  unfold execFlashReset
  simp (maxDischargeDepth := 60) only [Keeps.refl, ↓finish_keeps, ↓Kept.ite, ↓State.flashByte_keeps]

theorem execFlashOpDone_kept {bank : Fin 4} {ok : Bool} {s : State} : Kept s (execFlashOpDone bank ok s) := by
  unfold execFlashOpDone
  try dsimp only
  (repeat' split) <;> simp (maxDischargeDepth := 60) only [Keeps.refl, ↓finish_keeps, ↓Keeps.upd, implies_true, le_refl, ↓State.eraseWords_keeps,
    ↓State.flipWrite_keeps, ↓State.forEach_keeps, ↓State.freeWords_keeps, ↓State.programWords_keeps, ↓State.put_keeps, ↓State.raise_keeps,
      ↓State.setBank_keeps, ↓State.touchSlots_keeps, ↓State.when_keeps]

theorem execFlashWindowRead_kept {addr : Nat} {ecc : EccVerdict} {s : State} : Kept s (execFlashWindowRead addr ecc s) := by
  unfold execFlashWindowRead
  simp (maxDischargeDepth := 60) only [Keeps.refl, ↓finish_keeps, ↓State.flashRead_keeps]

theorem execArmExpiry_kept {s : State} : Kept s (execArmExpiry s) := by
  unfold execArmExpiry
  simp (maxDischargeDepth := 60) only [Keeps.refl, ↓finish_keeps, ↓State.setArm_keeps]

theorem execReadoutEraseDone_kept {s : State} : Kept s (execReadoutEraseDone s) := by
  unfold execReadoutEraseDone
  simp (maxDischargeDepth := 60) only [Keeps.refl, ↓finish_keeps, ↓Kept.ite, ↓Keeps.upd, implies_true, le_refl, ↓State.eraseEmbedded_keeps,
    ↓State.forEach_keeps, ↓State.put_keeps, ↓State.raise_keeps, ↓State.reeveReset_keeps]

theorem execJtagAccess_kept {act : JtagAct} {s : State} : Kept s (execJtagAccess act s) := by
  unfold execJtagAccess
  try dsimp only
  (repeat' split) <;> simp (maxDischargeDepth := 60) only [Keeps.refl, ↓finish_keeps, ↓Keeps.upd, le_refl, ↓State.blowRaise_keeps,
    ↓State.flashRead_keeps]

theorem execVauxRise_kept {side : Fin 2} {autowake : Bool} {i3cAddr : Fin 4} {fuses : List (Nat × Nat)} {part : Part}
    {s : State} : Kept s (execVauxRise side autowake i3cAddr fuses part s) := by
  unfold execVauxRise
  simp (maxDischargeDepth := 60) only [Keeps.refl, ↓finish_keeps, ↓Kept.ite, ↓Keeps.ite, ↓Keeps.upd, le_refl, ↓State.loadFuses_keeps,
    ↓State.loadPart_keeps, ↓State.put_keeps]

theorem execVauxFall_kept {s : State} : Kept s (execVauxFall s) := by
  unfold execVauxFall
  simp (maxDischargeDepth := 60) only [Keeps.refl, ↓finish_keeps, ↓State.loseSupplies_keeps]

theorem execAonStartCheck_kept {ok : Bool} {s : State} : Kept s (execAonStartCheck ok s) := by
  unfold execAonStartCheck
  simp (maxDischargeDepth := 60) only [Keeps.refl, ↓finish_keeps, ↓Kept.ite, ↓Keeps.upd, implies_true, le_refl, ↓State.bump_keeps,
    ↓State.setMode_keeps, ↓State.settleLatch_keeps, ↓State.wakeDormant_keeps, ↓State.when_keeps]

theorem execAonStartRetry_kept {s : State} : Kept s (execAonStartRetry s) := by
  unfold execAonStartRetry
  simp (maxDischargeDepth := 60) only [Keeps.refl, ↓finish_keeps, ↓Kept.ite, ↓Keeps.upd, le_refl]

theorem execAonRegulatorDip_kept {s : State} : Kept s (execAonRegulatorDip s) := by
  unfold execAonRegulatorDip
  simp (maxDischargeDepth := 60) only [Keeps.refl, ↓finish_keeps, ↓Kept.ite, ↓Keeps.upd, le_refl, ↓State.loseSupplies_keeps, ↓State.put_keeps,
    ↓State.railsDrop_keeps]

theorem execPwrRamp_kept {s : State} : Kept s (execPwrRamp s) := by
  unfold execPwrRamp
  simp (maxDischargeDepth := 60) only [Keeps.refl, ↓finish_keeps, ↓State.powerCommand_keeps]

theorem execPwrSleep_kept {s : State} : Kept s (execPwrSleep s) := by
  unfold execPwrSleep
  simp (maxDischargeDepth := 60) only [Keeps.refl, ↓finish_keeps, ↓State.powerCommand_keeps]

theorem execPwrShutdown_kept {s : State} : Kept s (execPwrShutdown s) := by
  unfold execPwrShutdown
  simp (maxDischargeDepth := 60) only [Keeps.refl, ↓finish_keeps, ↓State.powerCommand_keeps]

theorem execPwrRestart_kept {s : State} : Kept s (execPwrRestart s) := by
  unfold execPwrRestart
  simp (maxDischargeDepth := 60) only [Keeps.refl, ↓finish_keeps, ↓State.powerCommand_keeps]

theorem execShutdownWritebackDone_kept {s : State} : Kept s (execShutdownWritebackDone s) := by
  unfold execShutdownWritebackDone
  simp (maxDischargeDepth := 60) only [Keeps.refl, ↓finish_keeps, ↓Kept.ite, ↓Keeps.upd, le_refl, ↓State.abandonAssay_keeps, ↓State.put_keeps,
    ↓State.rampDown_keeps]

theorem execPseqGoAssert_kept {s : State} : Kept s (execPseqGoAssert s) := by
  unfold execPseqGoAssert
  simp (maxDischargeDepth := 60) only [Keeps.refl, ↓finish_keeps, ↓Kept.ite, ↓State.put_keeps, ↓State.startRampUp_keeps]

theorem execGoWaitTimeout_kept {s : State} : Kept s (execGoWaitTimeout s) := by
  unfold execGoWaitTimeout
  simp (maxDischargeDepth := 60) only [Keeps.refl, ↓finish_keeps, ↓Kept.ite, ↓Keeps.upd, le_refl, ↓State.raise_keeps]

theorem execRailPgAssert_kept {rail : Fin 12} {s : State} : Kept s (execRailPgAssert rail s) := by
  unfold execRailPgAssert
  simp (maxDischargeDepth := 60) only [Keeps.refl, ↓finish_keeps, ↓Kept.ite, ↓Keeps.upd, le_refl]

theorem execRailPgTimeout_kept {rail : Fin 12} {s : State} : Kept s (execRailPgTimeout rail s) := by
  unfold execRailPgTimeout
  simp (maxDischargeDepth := 60) only [Keeps.refl, ↓finish_keeps, ↓Kept.ite, ↓State.wakeStepFailed_keeps]

theorem execRailWindowTimeout_kept {rail : Fin 12} {s : State} : Kept s (execRailWindowTimeout rail s) := by
  unfold execRailWindowTimeout
  simp (maxDischargeDepth := 60) only [Keeps.refl, ↓finish_keeps, ↓Kept.ite, ↓State.wakeStepFailed_keeps]

theorem execStepDelayExpiry_kept {rail : Fin 12} {s : State} : Kept s (execStepDelayExpiry rail s) := by
  unfold execStepDelayExpiry
  simp (maxDischargeDepth := 60) only [Keeps.refl, ↓finish_keeps, ↓Kept.ite, ↓State.enableRail_keeps, ↓State.setRail_keeps]

theorem execPllLocked_kept {pll : Fin 13} {s : State} : Kept s (execPllLocked pll s) := by
  unfold execPllLocked
  simp (maxDischargeDepth := 60) only [Keeps.refl, ↓finish_keeps, ↓Kept.ite, ↓Keeps.upd, le_refl, ↓State.enterBringup_keeps, ↓State.put_keeps]

theorem execPllLockTimeout_kept {pll : Fin 13} {s : State} : Kept s (execPllLockTimeout pll s) := by
  unfold execPllLockTimeout
  simp (maxDischargeDepth := 60) only [Keeps.refl, ↓finish_keeps, ↓Kept.ite, ↓State.wakeStepFailed_keeps]

theorem execRampdownRailOff_kept {rail : Fin 12} {s : State} : Kept s (execRampdownRailOff rail s) := by
  unfold execRampdownRailOff
  simp (maxDischargeDepth := 60) only [Keeps.refl, ↓finish_keeps, ↓Kept.ite, ↓State.disableNext_keeps, ↓State.setRail_keeps]

theorem execWakeRetryDelay_kept {s : State} : Kept s (execWakeRetryDelay s) := by
  unfold execWakeRetryDelay
  simp (maxDischargeDepth := 60) only [Keeps.refl, ↓finish_keeps, ↓Kept.ite, ↓Keeps.upd, le_refl, ↓State.startRampUp_keeps]

theorem execHoldoffExpiry_kept {s : State} : Kept s (execHoldoffExpiry s) := by
  unfold execHoldoffExpiry
  simp (maxDischargeDepth := 60) only [Keeps.refl, ↓finish_keeps, ↓Kept.ite, ↓Keeps.upd, le_refl]

theorem execModuleDiscoveryStart_kept {modules : List Module} {dimms : List Dimm} {faults : List SramRepair} {checkers : List (Checker × Nat)}
    {errorLines : List (Fin 48)} {s : State} : Kept s (execModuleDiscoveryStart modules dimms faults checkers errorLines s) := by
  unfold execModuleDiscoveryStart
  simp (maxDischargeDepth := 60) only [Keeps.refl, ↓finish_keeps, ↓Kept.ite, ↓Keeps.ite, implies_true, ↓State.absentPositions_keeps,
    ↓State.bermFixed_keeps, ↓State.bermLoad_keeps, ↓State.bermRebuilt_keeps, ↓State.checkGroup_keeps, ↓State.checkerFails_keeps,
      ↓State.discoverDimms_keeps, ↓State.discoverModule_keeps, ↓State.forEach_keeps, ↓State.formGroup_keeps, ↓State.guestBringup_keeps,
      ↓State.placeModule_keeps, ↓State.put_keeps, ↓State.raise_keeps, ↓State.repairArrays_keeps, ↓State.resumeRebuild_keeps,
      ↓State.startServices_keeps, ↓State.takeSpares_keeps, ↓State.when_keeps]

theorem execBringupComplete_kept {s : State} : Kept s (execBringupComplete s) := by
  unfold execBringupComplete
  simp (maxDischargeDepth := 60) only [Keeps.refl, ↓finish_keeps, ↓Kept.ite, implies_true, ↓State.createServiceRegion_keeps,
    ↓State.placeFrames_keeps, ↓State.put_keeps, ↓State.raise_keeps, ↓State.selectStore_keeps, ↓State.setMode_keeps, ↓State.when_keeps]

theorem execRailPgLoss_kept {rail : Fin 12} {s : State} : Kept s (execRailPgLoss rail s) := by
  unfold execRailPgLoss
  simp (maxDischargeDepth := 60) only [Keeps.refl, ↓finish_keeps, ↓Kept.ite, ↓State.bump_keeps, ↓State.raise_keeps, ↓State.setRail_keeps,
    ↓State.unitLost_keeps]

theorem execPmbusPoll_kept {rail : Fin 12} {ok bad : Bool} {mv tenMa : Nat} {temp : BitVec 16}
    {s : State} : Kept s (execPmbusPoll rail ok bad mv tenMa temp s) := by
  unfold execPmbusPoll
  simp (maxDischargeDepth := 60) only [Keeps.refl, ↓finish_keeps, ↓Kept.ite, ↓Keeps.upd, implies_true, le_refl, ↓State.put_keeps,
    ↓State.raise_keeps, ↓State.raiseLimited_keeps, ↓State.when_keeps]

theorem execRailMarginWrite_kept {rail : Fin 12} {steps : BitVec 4} {s : State} : Kept s (execRailMarginWrite rail steps s) := by
  unfold execRailMarginWrite
  simp (maxDischargeDepth := 60) only [Keeps.refl, ↓finish_keeps, ↓State.writeMargin_keeps]

theorem execPmbusMarginAck_kept {rail : Fin 12} {ok : Bool} {s : State} : Kept s (execPmbusMarginAck rail ok s) := by
  unfold execPmbusMarginAck
  try dsimp only
  (repeat' split) <;> simp (maxDischargeDepth := 60) only [Keeps.refl, ↓finish_keeps, ↓Keeps.upd, le_refl, ↓State.put_keeps, ↓State.raise_keeps]

theorem execXtalStable_kept {s : State} : Kept s (execXtalStable s) := by
  unfold execXtalStable
  simp (maxDischargeDepth := 60) only [Keeps.refl, ↓finish_keeps, ↓Kept.ite, ↓State.endCond_keeps, ↓State.put_keeps]

theorem execXtalFail_kept {s : State} : Kept s (execXtalFail s) := by
  unfold execXtalFail
  simp (maxDischargeDepth := 60) only [Keeps.refl, ↓finish_keeps, ↓Kept.ite, ↓State.put_keeps, ↓State.raise_keeps]

theorem execPllLockLoss_kept {pll : Fin 13} {s : State} : Kept s (execPllLockLoss pll s) := by
  unfold execPllLockLoss
  simp (maxDischargeDepth := 60) only [Keeps.refl, ↓finish_keeps, ↓Kept.ite, ↓Keeps.upd, le_refl, ↓State.put_keeps]

theorem execPllRelock_kept {pll : Fin 13} {s : State} : Kept s (execPllRelock pll s) := by
  unfold execPllRelock
  simp (maxDischargeDepth := 60) only [Keeps.refl, ↓finish_keeps, ↓Kept.ite, ↓Keeps.upd, le_refl, ↓State.bump_keeps, ↓State.put_keeps,
    ↓State.raiseLimited_keeps]

theorem execPllRelockTimeout_kept {pll : Fin 13} {s : State} : Kept s (execPllRelockTimeout pll s) := by
  unfold execPllRelockTimeout
  simp (maxDischargeDepth := 60) only [Keeps.refl, ↓finish_keeps, ↓Kept.ite, ↓State.raise_keeps, ↓State.unitLost_keeps]

theorem execFlashClockIdleStop_kept {channel : Fin 40} {s : State} : Kept s (execFlashClockIdleStop channel s) := by
  unfold execFlashClockIdleStop
  simp (maxDischargeDepth := 60) only [Keeps.refl, ↓finish_keeps, ↓Kept.ite, ↓Keeps.upd, le_refl]

theorem execAonAlarmExpiry_kept {s : State} : Kept s (execAonAlarmExpiry s) := by
  unfold execAonAlarmExpiry
  simp (maxDischargeDepth := 60) only [Keeps.refl, ↓finish_keeps, ↓Kept.ite, ↓State.wakeDormant_keeps]

theorem execJunctionSensorRead_kept {c : Fin 16} {reading : BitVec 16} {cause : Fin 4}
    {s : State} : Kept s (execJunctionSensorRead c reading cause s) := by
  unfold execJunctionSensorRead
  simp (maxDischargeDepth := 60) only [Keeps.refl, ↓finish_keeps, ↓Kept.ite, ↓Keeps.ite, ↓State.endCond_keeps, ↓State.judgeThermal_keeps,
    ↓State.put_keeps, ↓State.raise_keeps, ↓State.rampCommand_keeps, ↓State.replaceReadings_keeps]

theorem execThermalTrip_kept {c : Fin 16} {s : State} : Kept s (execThermalTrip c s) := by
  unfold execThermalTrip
  split <;> simp (maxDischargeDepth := 60) only [Keeps.refl, ↓finish_keeps, ↓State.abandonAssay_keeps, ↓State.enterWatch_keeps,
    ↓State.railsDrop_keeps, ↓State.raiseThreshold_keeps, ↓State.setThermLatch_keeps]

theorem execThrottleGraceExpiry_kept {rate : Nat} {s : State} : Kept s (execThrottleGraceExpiry rate s) := by
  unfold execThrottleGraceExpiry
  simp (maxDischargeDepth := 60) only [Keeps.refl, ↓finish_keeps, ↓Kept.ite, ↓State.put_keeps, ↓State.raise_keeps]

theorem execRegisterWrite_kept {agent : Agent} {off size v : Nat} {s : State} : Kept s (execRegisterWrite agent off size v s) := by
  unfold execRegisterWrite
  simp (maxDischargeDepth := 60) only [Keeps.refl, ↓finish_keeps, ↓Kept.ite, ↓State.emit_keeps, ↓State.guestRegRefused_keeps, ↓State.regWrite_keeps]

theorem execRegisterReadClear_kept {agent : Agent} {off size : Nat} {s : State} : Kept s (execRegisterReadClear agent off size s) := by
  unfold execRegisterReadClear
  simp (maxDischargeDepth := 60) only [Keeps.refl, ↓finish_keeps, ↓Kept.ite, ↓State.emit_keeps, ↓State.guestRegRefused_keeps, ↓State.regRead_keeps]

theorem execRegisterReadLatchHigh_kept {agent : Agent} {off : Nat} {s : State} : Kept s (execRegisterReadLatchHigh agent off s) := by
  unfold execRegisterReadLatchHigh
  simp (maxDischargeDepth := 60) only [Keeps.refl, ↓finish_keeps, ↓Kept.ite, ↓State.emit_keeps, ↓State.guestRegRefused_keeps, ↓State.regRead_keeps]

theorem execGuestRegRd_kept {p : Fin 2} {tag off : Nat} {s : State} : Kept s (execGuestRegRd p tag off s) := by
  unfold execGuestRegRd
  simp (maxDischargeDepth := 60) only [Keeps.refl, ↓finish_keeps, implies_true, ↓State.guestRegRequest_keeps, ↓State.kerupSend_keeps,
    ↓State.noteScratch_keeps, ↓State.readReg_keeps]

theorem execGuestRegWr_kept {p : Fin 2} {tag off : Nat} {value : BitVec 32} {s : State} : Kept s (execGuestRegWr p tag off value s) := by
  unfold execGuestRegWr
  simp (maxDischargeDepth := 60) only [Keeps.refl, ↓finish_keeps, implies_true, ↓State.dropLatch_keeps, ↓State.guestRegRequest_keeps,
    ↓State.kerupSend_keeps, ↓State.writeWord_keeps]

theorem execBmcAddressMatch_kept {s : State} : Kept s (execBmcAddressMatch s) := by
  unfold execBmcAddressMatch
  simp (maxDischargeDepth := 60) only [Keeps.refl, ↓finish_keeps, ↓Kept.ite, ↓State.wakeDormant_keeps]

theorem execMctpControlMsg_kept {setEid : Option Nat} {s : State} : Kept s (execMctpControlMsg setEid s) := by
  unfold execMctpControlMsg
  try dsimp only
  (repeat' split) <;> simp (maxDischargeDepth := 60) only [Keeps.refl, ↓finish_keeps, ↓Keeps.upd, le_refl, ↓State.emit_keeps]

theorem execGetTid_kept {s : State} : Kept s (execGetTid s) := by
  unfold execGetTid
  simp (maxDischargeDepth := 60) only [Keeps.refl, ↓finish_keeps, implies_true, ↓State.pldm_keeps]

theorem execGetPldmVersion_kept {s : State} : Kept s (execGetPldmVersion s) := by
  unfold execGetPldmVersion
  simp (maxDischargeDepth := 60) only [Keeps.refl, ↓finish_keeps, implies_true, ↓State.draw_keeps, ↓State.pldm_keeps]

theorem execGetPldmTypes_kept {s : State} : Kept s (execGetPldmTypes s) := by
  unfold execGetPldmTypes
  simp (maxDischargeDepth := 60) only [Keeps.refl, ↓finish_keeps, implies_true, ↓State.pldm_keeps]

theorem execGetPldmCommands_kept {typ : Nat} {s : State} : Kept s (execGetPldmCommands typ s) := by
  unfold execGetPldmCommands
  simp (maxDischargeDepth := 60) only [Keeps.refl, ↓finish_keeps, implies_true, ↓State.pldm_keeps]

theorem execGetPdrRepositoryInfo_kept {s : State} : Kept s (execGetPdrRepositoryInfo s) := by
  unfold execGetPdrRepositoryInfo
  simp (maxDischargeDepth := 60) only [Keeps.refl, ↓finish_keeps, implies_true, ↓State.pldm_keeps]

theorem execGetPdr_kept {n : Nat} {s : State} : Kept s (execGetPdr n s) := by
  unfold execGetPdr
  simp (maxDischargeDepth := 60) only [Keeps.refl, ↓finish_keeps, implies_true, ↓State.pldm_keeps]

theorem execGetSensorReading_kept {sensor : Nat} {s : State} : Kept s (execGetSensorReading sensor s) := by
  unfold execGetSensorReading
  simp (maxDischargeDepth := 60) only [Keeps.refl, ↓finish_keeps, implies_true, ↓State.pldm_keeps]

theorem execGetStateSensorReadings_kept {sensor : Fin 3} {s : State} : Kept s (execGetStateSensorReadings sensor s) := by
  unfold execGetStateSensorReadings
  simp (maxDischargeDepth := 60) only [Keeps.refl, ↓finish_keeps, implies_true, ↓State.pldm_keeps]

theorem execSetNumericSensorEnable_kept {sensor : Nat} {on : Bool} {s : State} : Kept s (execSetNumericSensorEnable sensor on s) := by
  unfold execSetNumericSensorEnable
  simp (maxDischargeDepth := 60) only [Keeps.refl, ↓finish_keeps, ↓Keeps.ite_snd, ↓Keeps.upd, implies_true, le_refl, ↓State.pldm_keeps]

theorem execSetEventReceiver_kept {eid : Option Nat} {s : State} : Kept s (execSetEventReceiver eid s) := by
  unfold execSetEventReceiver
  simp (maxDischargeDepth := 60) only [Keeps.refl, ↓finish_keeps, ↓Keeps.upd, implies_true, le_refl, ↓State.pldm_keeps]

theorem execPollForPlatformEventMessage_kept {s : State} : Kept s (execPollForPlatformEventMessage s) := by
  unfold execPollForPlatformEventMessage
  simp (maxDischargeDepth := 60) only [Keeps.refl, ↓finish_keeps, ↓Keeps.upd, implies_true, le_refl, ↓State.pldm_keeps]

theorem execQueryDeviceIdentifiers_kept {s : State} : Kept s (execQueryDeviceIdentifiers s) := by
  unfold execQueryDeviceIdentifiers
  simp (maxDischargeDepth := 60) only [Keeps.refl, ↓finish_keeps, implies_true, ↓State.pldm_keeps]

theorem execGetFirmwareParameters_kept {s : State} : Kept s (execGetFirmwareParameters s) := by
  unfold execGetFirmwareParameters
  simp (maxDischargeDepth := 60) only [Keeps.refl, ↓finish_keeps, implies_true, ↓State.pldm_keeps]

theorem execRequestUpdate_kept {s : State} : Kept s (execRequestUpdate s) := by
  unfold execRequestUpdate
  simp (maxDischargeDepth := 60) only [Keeps.refl, ↓finish_keeps, ↓Keeps.ite_snd, implies_true, ↓State.pldm_keeps, ↓State.setUpdate_keeps]

theorem execPassComponentTable_kept {s : State} : Kept s (execPassComponentTable s) := by
  unfold execPassComponentTable
  simp (maxDischargeDepth := 60) only [Keeps.refl, ↓finish_keeps, ↓Keeps.ite_snd, implies_true, ↓State.pldm_keeps, ↓State.setUpdate_keeps]

theorem execUpdateComponent_kept {comp : Fin 3} {size : Nat} {s : State} : Kept s (execUpdateComponent comp size s) := by
  unfold execUpdateComponent
  simp (maxDischargeDepth := 60) only [Keeps.refl, ↓finish_keeps, ↓Kept.ite, ↓Keeps.ite_snd, implies_true, ↓State.eraseSlot_keeps,
    ↓State.pldm_keeps, ↓State.requestData_keeps, ↓State.setUpdate_keeps]

theorem execFirmwareDataRx_kept {off : Nat} {bytes : List Byte} {s : State} : Kept s (execFirmwareDataRx off bytes s) := by
  unfold execFirmwareDataRx
  simp (maxDischargeDepth := 60) only [Keeps.refl, ↓finish_keeps, ↓Kept.ite, ↓State.programChunk_keeps, ↓State.requestData_keeps,
    ↓State.setUpdate_keeps]

theorem execTransferComplete_kept {check : SlotCheck} {s : State} : Kept s (execTransferComplete check s) := by
  unfold execTransferComplete
  simp (maxDischargeDepth := 60) only [Keeps.refl, ↓finish_keeps, ↓Kept.ite, ↓Keeps.ite, ↓Keeps.upd, le_refl, ↓State.emit_keeps,
    ↓State.setUpdate_keeps, ↓State.verifyImage_keeps]

theorem execVerifyComplete_kept {s : State} : Kept s (execVerifyComplete s) := by
  unfold execVerifyComplete
  simp (maxDischargeDepth := 60) only [Keeps.refl, ↓finish_keeps, ↓Kept.ite, ↓State.emit_keeps, ↓State.setUpdate_keeps]

theorem execApplyComplete_kept {s : State} : Kept s (execApplyComplete s) := by
  unfold execApplyComplete
  simp (maxDischargeDepth := 60) only [Keeps.refl, ↓finish_keeps, ↓Kept.ite, ↓Keeps.ite, ↓Keeps.upd, le_refl, ↓State.emit_keeps,
    ↓State.setUpdate_keeps]

theorem execActivateFirmware_kept {s : State} : Kept s (execActivateFirmware s) := by
  unfold execActivateFirmware
  simp (maxDischargeDepth := 60) only [Keeps.refl, ↓finish_keeps, ↓Keeps.ite, ↓Keeps.ite_snd, ↓Keeps.upd, implies_true, le_refl,
    ↓State.endUpdate_keeps, ↓State.pldm_keeps, ↓State.setUpdate_keeps]

theorem execGetStatus_kept {s : State} : Kept s (execGetStatus s) := by
  unfold execGetStatus
  simp (maxDischargeDepth := 60) only [Keeps.refl, ↓finish_keeps, implies_true, ↓State.pldm_keeps]

theorem execCancelUpdateComponent_kept {s : State} : Kept s (execCancelUpdateComponent s) := by
  unfold execCancelUpdateComponent
  simp (maxDischargeDepth := 60) only [Keeps.refl, ↓finish_keeps, ↓Keeps.ite_snd, ↓Keeps.upd, implies_true, le_refl, ↓State.pldm_keeps,
    ↓State.setUpdate_keeps]

theorem execCancelUpdate_kept {s : State} : Kept s (execCancelUpdate s) := by
  unfold execCancelUpdate
  simp (maxDischargeDepth := 60) only [Keeps.refl, ↓finish_keeps, ↓Keeps.ite, ↓Keeps.ite_snd, ↓Keeps.upd, implies_true, le_refl,
    ↓State.endUpdate_keeps, ↓State.pldm_keeps]

theorem execPldmUnsupported_kept {typ cmd : Nat} {s : State} : Kept s (execPldmUnsupported typ cmd s) := by
  unfold execPldmUnsupported
  simp (maxDischargeDepth := 60) only [Keeps.refl, ↓finish_keeps, ↓Kept.ite, ↓State.emit_keeps]

theorem execSpdmGetVersion_kept {t : Transport} {s : State} : Kept s (execSpdmGetVersion t s) := by
  unfold execSpdmGetVersion
  simp (maxDischargeDepth := 60) only [Keeps.refl, ↓finish_keeps, implies_true, ↓State.spdm_keeps]

theorem execSpdmGetCapabilities_kept {t : Transport} {s : State} : Kept s (execSpdmGetCapabilities t s) := by
  unfold execSpdmGetCapabilities
  simp (maxDischargeDepth := 60) only [Keeps.refl, ↓finish_keeps, implies_true, ↓State.spdm_keeps]

theorem execSpdmNegotiateAlgorithms_kept {t : Transport} {s : State} : Kept s (execSpdmNegotiateAlgorithms t s) := by
  unfold execSpdmNegotiateAlgorithms
  simp (maxDischargeDepth := 60) only [Keeps.refl, ↓finish_keeps, implies_true, ↓State.spdm_keeps]

theorem execSpdmGetDigests_kept {t : Transport} {s : State} : Kept s (execSpdmGetDigests t s) := by
  unfold execSpdmGetDigests
  simp (maxDischargeDepth := 60) only [Keeps.refl, ↓finish_keeps, implies_true, ↓State.spdm_keeps]

theorem execSpdmGetCertificate_kept {t : Transport} {slot off len : Nat} {s : State} : Kept s (execSpdmGetCertificate t slot off len s) := by
  unfold execSpdmGetCertificate
  simp (maxDischargeDepth := 60) only [Keeps.refl, ↓finish_keeps, implies_true, ↓State.spdm_keeps]

theorem execSpdmChallenge_kept {t : Transport} {slot : Nat} {s : State} : Kept s (execSpdmChallenge t slot s) := by
  unfold execSpdmChallenge
  simp (maxDischargeDepth := 60) only [Keeps.refl, ↓finish_keeps, implies_true, ↓State.spdm_keeps]

theorem execSpdmGetMeasurements_kept {t : Transport} {index : Nat} {s : State} : Kept s (execSpdmGetMeasurements t index s) := by
  unfold execSpdmGetMeasurements
  simp (maxDischargeDepth := 60) only [Keeps.refl, ↓finish_keeps, implies_true, ↓State.spdm_keeps]

theorem execSpdmKeyExchange_kept {t : Transport} {s : State} : Kept s (execSpdmKeyExchange t s) := by
  unfold execSpdmKeyExchange
  simp (maxDischargeDepth := 60) only [Keeps.refl, ↓finish_keeps, ↓Keeps.ite_snd, ↓Keeps.upd, implies_true, le_refl, ↓State.spdm_keeps]

theorem execSpdmFinish_kept {t : Transport} {session : Nat} {ok : Bool} {s : State} : Kept s (execSpdmFinish t session ok s) := by
  unfold execSpdmFinish
  simp (maxDischargeDepth := 60) only [Keeps.refl, ↓finish_keeps, ↓Keeps.upd, implies_true, le_refl, ↓State.inSession_keeps, ↓State.spdm_keeps]

theorem execSpdmHeartbeat_kept {t : Transport} {session : Nat} {ok : Bool} {s : State} : Kept s (execSpdmHeartbeat t session ok s) := by
  unfold execSpdmHeartbeat
  simp (maxDischargeDepth := 60) only [Keeps.refl, ↓finish_keeps, implies_true, ↓State.inSession_keeps, ↓State.spdm_keeps]

theorem execSpdmEndSession_kept {t : Transport} {session : Nat} {ok : Bool} {s : State} : Kept s (execSpdmEndSession t session ok s) := by
  unfold execSpdmEndSession
  simp (maxDischargeDepth := 60) only [Keeps.refl, ↓finish_keeps, implies_true, ↓State.endSession_keeps, ↓State.inSession_keeps, ↓State.spdm_keeps]

theorem execMgmtOperation_kept {q seq : Nat} {s : State} : Kept s (execMgmtOperation q seq s) := by
  unfold execMgmtOperation
  split <;> simp (maxDischargeDepth := 60) only [Keeps.refl, ↓finish_keeps, ↓Kept.ite, ↓State.completeOp_keeps, ↓State.setOp_keeps]

theorem execMailboxMgmtRequest_kept {ld : Fin 64} {typ : Nat} {s : State} : Kept s (execMailboxMgmtRequest ld typ s) := by
  unfold execMailboxMgmtRequest
  simp (maxDischargeDepth := 60) only [Keeps.refl, ↓finish_keeps, ↓Keeps.ite, ↓Keeps.upd, implies_true, le_refl, ↓State.emit_keeps,
    ↓State.mailbox_keeps]

theorem execMgmtUnknownType_kept {path : MgmtPath} {typ : Nat} {s : State} : Kept s (execMgmtUnknownType path typ s) := by
  unfold execMgmtUnknownType
  simp (maxDischargeDepth := 60) only [Keeps.refl, ↓finish_keeps, ↓Kept.ite, ↓State.mgmtDeny_keeps, ↓State.mgmtSend_keeps]

theorem execMgmtStatus_kept {path : MgmtPath} {s : State} : Kept s (execMgmtStatus path s) := by
  unfold execMgmtStatus
  simp (maxDischargeDepth := 60) only [Keeps.refl, ↓finish_keeps, implies_true, ↓State.mgmt_keeps]

theorem execMgmtIdentity_kept {path : MgmtPath} {s : State} : Kept s (execMgmtIdentity path s) := by
  unfold execMgmtIdentity
  simp (maxDischargeDepth := 60) only [Keeps.refl, ↓finish_keeps, implies_true, ↓State.mgmt_keeps]

theorem execMgmtDeviceKey_kept {path : MgmtPath} {s : State} : Kept s (execMgmtDeviceKey path s) := by
  unfold execMgmtDeviceKey
  simp (maxDischargeDepth := 60) only [Keeps.refl, ↓finish_keeps, implies_true, ↓State.mgmt_keeps]

theorem execMgmtSensorRead_kept {path : MgmtPath} {channels : List (Fin 256)} {s : State} : Kept s (execMgmtSensorRead path channels s) := by
  unfold execMgmtSensorRead
  simp (maxDischargeDepth := 60) only [Keeps.refl, ↓finish_keeps, implies_true, ↓State.mgmt_keeps]

theorem execMgmtBermRead_kept {path : MgmtPath} {pool count : Nat} {s : State} : Kept s (execMgmtBermRead path pool count s) := by
  unfold execMgmtBermRead
  simp (maxDischargeDepth := 60) only [Keeps.refl, ↓finish_keeps, implies_true, ↓State.mgmt_keeps]

theorem execMgmtEventRead_kept {path : MgmtPath} {start count : Nat} {s : State} : Kept s (execMgmtEventRead path start count s) := by
  unfold execMgmtEventRead
  simp (maxDischargeDepth := 60) only [Keeps.refl, ↓finish_keeps, implies_true, ↓State.mgmt_keeps]

theorem execMgmtTenantSet_kept {path : MgmtPath} {tenant state weight regions gib : Nat}
    {s : State} : Kept s (execMgmtTenantSet path tenant state weight regions gib s) := by
  unfold execMgmtTenantSet
  simp (maxDischargeDepth := 60) only [Keeps.refl, ↓finish_keeps, ↓Keeps.ite_snd, implies_true, ↓State.mgmt_keeps, ↓State.sequencePoint_keeps]

theorem execMgmtBindingSet_kept {path : MgmtPath} {pkeyMap : Bool} {i v : Nat} {s : State} : Kept s (execMgmtBindingSet path pkeyMap i v s) := by
  unfold execMgmtBindingSet
  simp (maxDischargeDepth := 60) only [Keeps.refl, ↓finish_keeps, ↓Keeps.ite_snd, implies_true, ↓State.mgmt_keeps, ↓State.sequencePoint_keeps,
    ↓State.writeLdMap_keeps]

theorem execMgmtGrantSet_kept {path : MgmtPath} {grant w0 w1 w2 : Nat} {s : State} : Kept s (execMgmtGrantSet path grant w0 w1 w2 s) := by
  unfold execMgmtGrantSet
  simp (maxDischargeDepth := 60) only [Keeps.refl, ↓finish_keeps, ↓Keeps.ite_snd, implies_true, ↓State.grantWrite_keeps, ↓State.mgmt_keeps]

theorem execMgmtRegRead_kept {path : MgmtPath} {off : Nat} {s : State} : Kept s (execMgmtRegRead path off s) := by
  unfold execMgmtRegRead
  simp (maxDischargeDepth := 60) only [Keeps.refl, ↓finish_keeps, ↓Kept.ite, ↓Keeps.ite_snd, implies_true, ↓State.gregStart_keeps,
    ↓State.mgmt_keeps, ↓State.readReg_keeps]

theorem execMgmtRegWrite_kept {path : MgmtPath} {off v : Nat} {s : State} : Kept s (execMgmtRegWrite path off v s) := by
  unfold execMgmtRegWrite
  simp (maxDischargeDepth := 60) only [Keeps.refl, ↓finish_keeps, ↓Keeps.ite_snd, implies_true, ↓State.dropLatch_keeps, ↓State.mgmt_keeps,
    ↓State.writeWord_keeps]

theorem execMgmtAssayNow_kept {path : MgmtPath} {s : State} : Kept s (execMgmtAssayNow path s) := by
  unfold execMgmtAssayNow
  simp (maxDischargeDepth := 60) only [Keeps.refl, ↓finish_keeps, implies_true, ↓State.mgmt_keeps, ↓State.requestAssay_keeps]

theorem execMgmtPairCmd_kept {path : MgmtPath} {bit : Nat} {s : State} : Kept s (execMgmtPairCmd path bit s) := by
  unfold execMgmtPairCmd
  simp (maxDischargeDepth := 60) only [Keeps.refl, ↓finish_keeps, ↓Keeps.ite_snd, implies_true, ↓State.mgmt_keeps, ↓State.writeCwCmd_keeps]

theorem execMgmtService_kept {path : MgmtPath} {off v : Nat} {s : State} : Kept s (execMgmtService path off v s) := by
  unfold execMgmtService
  simp (maxDischargeDepth := 60) only [Keeps.refl, ↓finish_keeps, ↓Keeps.ite_snd, implies_true, ↓State.mgmt_keeps, ↓State.writeWord_keeps]

theorem execMgmtTemperSet_kept {path : MgmtPath} {temper : Nat} {s : State} : Kept s (execMgmtTemperSet path temper s) := by
  unfold execMgmtTemperSet
  simp (maxDischargeDepth := 60) only [Keeps.refl, ↓finish_keeps, implies_true, ↓State.mgmt_keeps, ↓State.temperCommand_keeps]

theorem execGroupResetArm_kept {path : MgmtPath} {s : State} : Kept s (execGroupResetArm path s) := by
  unfold execGroupResetArm
  simp (maxDischargeDepth := 60) only [Keeps.refl, ↓finish_keeps, implies_true, ↓State.armWith_keeps, ↓State.mgmt_keeps]

theorem execGroupResetConfirm_kept {path : MgmtPath} {challenge : Nat} {s : State} : Kept s (execGroupResetConfirm path challenge s) := by
  unfold execGroupResetConfirm
  simp (maxDischargeDepth := 60) only [Keeps.refl, ↓finish_keeps, ↓Keeps.ite_snd, implies_true, ↓State.confirm_keeps, ↓State.groupReset_keeps,
    ↓State.mgmt_keeps, ↓State.setArm_keeps]

theorem execReadoutRaise_kept {path : MgmtPath} {s : State} : Kept s (execReadoutRaise path s) := by
  unfold execReadoutRaise
  simp (maxDischargeDepth := 60) only [Keeps.refl, ↓finish_keeps, ↓Keeps.ite_snd, implies_true, ↓State.blowRaise_keeps, ↓State.mgmt_keeps]

theorem execReadoutLowerArm_kept {path : MgmtPath} {s : State} : Kept s (execReadoutLowerArm path s) := by
  unfold execReadoutLowerArm
  simp (maxDischargeDepth := 60) only [Keeps.refl, ↓finish_keeps, ↓Keeps.ite_snd, implies_true, ↓State.armWith_keeps, ↓State.mgmt_keeps]

theorem execReadoutLowerConfirm_kept {path : MgmtPath} {challenge : Nat} {s : State} : Kept s (execReadoutLowerConfirm path challenge s) := by
  unfold execReadoutLowerConfirm
  simp (maxDischargeDepth := 60) only [Keeps.refl, ↓finish_keeps, ↓Keeps.ite_snd, implies_true, ↓State.confirm_keeps, ↓State.mgmt_keeps,
    ↓State.setArm_keeps, ↓State.startLowering_keeps]

theorem execReadoutFinalArm_kept {path : MgmtPath} {s : State} : Kept s (execReadoutFinalArm path s) := by
  unfold execReadoutFinalArm
  simp (maxDischargeDepth := 60) only [Keeps.refl, ↓finish_keeps, ↓Keeps.ite_snd, implies_true, ↓State.armWith_keeps, ↓State.mgmt_keeps]

theorem execReadoutFinalConfirm_kept {path : MgmtPath} {challenge : Nat} {s : State} : Kept s (execReadoutFinalConfirm path challenge s) := by
  unfold execReadoutFinalConfirm
  simp (maxDischargeDepth := 60) only [Keeps.refl, ↓finish_keeps, ↓Keeps.upd, implies_true, le_refl, ↓State.confirm_keeps, ↓State.mgmt_keeps,
    ↓State.setArm_keeps, ↓State.syncReadout_keeps]

theorem execPathTrainingDone_kept {p : Fin 2} {s : State} : Kept s (execPathTrainingDone p s) := by
  unfold execPathTrainingDone
  simp (maxDischargeDepth := 60) only [Keeps.refl, ↓finish_keeps, ↓Kept.ite, ↓Keeps.ite, ↓State.emit_keeps, ↓State.endCond_keeps,
    ↓State.setPath_keeps, ↓State.startHello_keeps]

theorem execPathTrainingTimeout_kept {p : Fin 2} {s : State} : Kept s (execPathTrainingTimeout p s) := by
  unfold execPathTrainingTimeout
  simp (maxDischargeDepth := 60) only [Keeps.refl, ↓finish_keeps, ↓Kept.ite, ↓State.pathDown_keeps]

theorem execPathRetrainDue_kept {p : Fin 2} {s : State} : Kept s (execPathRetrainDue p s) := by
  unfold execPathRetrainDue
  simp (maxDischargeDepth := 60) only [Keeps.refl, ↓finish_keeps, ↓State.setCwPath_keeps]

theorem execPathLinkLoss_kept {p : Fin 2} {fec : Fec} {s : State} : Kept s (execPathLinkLoss p fec s) := by
  unfold execPathLinkLoss
  simp (maxDischargeDepth := 60) only [Keeps.refl, ↓finish_keeps, ↓Kept.ite, ↓State.countFec_keeps, ↓State.pathDown_keeps, ↓State.raise_keeps]

theorem execCwPathServiceWrite_kept {p : Fin 2} {service : Bool} {s : State} : Kept s (execCwPathServiceWrite p service s) := by
  unfold execCwPathServiceWrite
  simp (maxDischargeDepth := 60) only [Keeps.refl, ↓finish_keeps, ↓State.pathService_keeps]

theorem execLinesFrameRx_kept {m : MirrorRx} {es : List LineEntry} {win : Option WinRec} {s : State} : Kept s (execLinesFrameRx m es win s) := by
  unfold execLinesFrameRx
  simp (maxDischargeDepth := 60) only [Keeps.refl, ↓finish_keeps, implies_true, ↓State.landRepaired_keeps, ↓State.receive_keeps]

theorem execLinesBgFrameRx_kept {m : MirrorRx} {es : List LineEntry} {s : State} : Kept s (execLinesBgFrameRx m es s) := by
  unfold execLinesBgFrameRx
  simp (maxDischargeDepth := 60) only [Keeps.refl, ↓finish_keeps, implies_true, ↓State.landRepaired_keeps, ↓State.receive_keeps]

theorem execPageMarkRx_kept {m : MirrorRx} {es : List (Nat × Bool)} {s : State} : Kept s (execPageMarkRx m es s) := by
  unfold execPageMarkRx
  simp (maxDischargeDepth := 60) only [Keeps.refl, ↓finish_keeps, implies_true, ↓State.landRepaired_keeps, ↓State.receive_keeps]

theorem execHorizonFrameRx_kept {m : MirrorRx} {es : List (Nat × Nat)} {s : State} : Kept s (execHorizonFrameRx m es s) := by
  unfold execHorizonFrameRx
  simp (maxDischargeDepth := 60) only [Keeps.refl, ↓finish_keeps, implies_true, ↓State.landRepaired_keeps, ↓State.receive_keeps]

theorem execRecordFrameRx_kept {m : MirrorRx} {kind idx : Nat} {words : List Nat} {s : State} : Kept s (execRecordFrameRx m kind idx words s) := by
  unfold execRecordFrameRx
  simp (maxDischargeDepth := 60) only [Keeps.refl, ↓finish_keeps, implies_true, ↓State.landRepaired_keeps, ↓State.receive_keeps]

theorem execRecordCommitRx_kept {m : MirrorRx} {seqs : List Nat} {s : State} : Kept s (execRecordCommitRx m seqs s) := by
  unfold execRecordCommitRx
  simp (maxDischargeDepth := 60) only [Keeps.refl, ↓finish_keeps, implies_true, ↓State.landRepaired_keeps, ↓State.receive_keeps]

theorem execKeyGenEntryRx_kept {m : MirrorRx} {side gen tenant midx salt : Nat}
    {s : State} : Kept s (execKeyGenEntryRx m side gen tenant midx salt s) := by
  unfold execKeyGenEntryRx
  simp (maxDischargeDepth := 60) only [Keeps.refl, ↓finish_keeps, implies_true, ↓State.landRepaired_keeps, ↓State.receive_keeps]

theorem execKeyMasterRx_kept {m : MirrorRx} {tenant midx serial master : Nat}
    {s : State} : Kept s (execKeyMasterRx m tenant midx serial master s) := by
  unfold execKeyMasterRx
  simp (maxDischargeDepth := 60) only [Keeps.refl, ↓finish_keeps, implies_true, ↓State.landRepaired_keeps, ↓State.receive_keeps]

theorem execKeyDestroyRx_kept {m : MirrorRx} {tenantKey : Bool} {a b : Nat} {s : State} : Kept s (execKeyDestroyRx m tenantKey a b s) := by
  unfold execKeyDestroyRx
  simp (maxDischargeDepth := 60) only [Keeps.refl, ↓finish_keeps, implies_true, ↓State.landRepaired_keeps, ↓State.receive_keeps]

theorem execRepairReqRx_kept {m : MirrorRx} {id page : Nat} {s : State} : Kept s (execRepairReqRx m id page s) := by
  unfold execRepairReqRx
  simp (maxDischargeDepth := 60) only [Keeps.refl, ↓finish_keeps, implies_true, ↓State.landRepaired_keeps, ↓State.receive_keeps]

theorem execAssayStateRx_kept {m : MirrorRx} {claim : Bool} {s : State} : Kept s (execAssayStateRx m claim s) := by
  unfold execAssayStateRx
  simp (maxDischargeDepth := 60) only [Keeps.refl, ↓finish_keeps, implies_true, ↓State.landRepaired_keeps, ↓State.receive_keeps]

theorem execDrainBeginRx_kept {m : MirrorRx} {s : State} : Kept s (execDrainBeginRx m s) := by
  unfold execDrainBeginRx
  simp (maxDischargeDepth := 60) only [Keeps.refl, ↓finish_keeps, implies_true, ↓State.landRepaired_keeps, ↓State.receive_keeps]

theorem execCatchupBeginRx_kept {m : MirrorRx} {full0 full1 : Bool} {s : State} : Kept s (execCatchupBeginRx m full0 full1 s) := by
  unfold execCatchupBeginRx
  simp (maxDischargeDepth := 60) only [Keeps.refl, ↓finish_keeps, implies_true, ↓State.landRepaired_keeps, ↓State.receive_keeps]

theorem execCatchupDoneRx_kept {m : MirrorRx} {s : State} : Kept s (execCatchupDoneRx m s) := by
  unfold execCatchupDoneRx
  simp (maxDischargeDepth := 60) only [Keeps.refl, ↓finish_keeps, implies_true, ↓State.landRepaired_keeps, ↓State.receive_keeps]

theorem execTemperSetRx_kept {m : MirrorRx} {temper : Nat} {s : State} : Kept s (execTemperSetRx m temper s) := by
  unfold execTemperSetRx
  simp (maxDischargeDepth := 60) only [Keeps.refl, ↓finish_keeps, implies_true, ↓State.landRepaired_keeps, ↓State.receive_keeps]

theorem execUnpairRx_kept {m : MirrorRx} {s : State} : Kept s (execUnpairRx m s) := by
  unfold execUnpairRx
  simp (maxDischargeDepth := 60) only [Keeps.refl, ↓finish_keeps, implies_true, ↓State.landRepaired_keeps, ↓State.receive_keeps]

theorem execRepairDoneRx_kept {m : MirrorRx} {id status : Nat} {s : State} : Kept s (execRepairDoneRx m id status s) := by
  unfold execRepairDoneRx
  simp (maxDischargeDepth := 60) only [Keeps.refl, ↓finish_keeps, implies_true, ↓State.landRepaired_keeps, ↓State.receive_keeps]

theorem execKeyCommittedRx_kept {m : MirrorRx} {seq : Nat} {s : State} : Kept s (execKeyCommittedRx m seq s) := by
  unfold execKeyCommittedRx
  simp (maxDischargeDepth := 60) only [Keeps.refl, ↓finish_keeps, implies_true, ↓State.landRepaired_keeps, ↓State.receive_keeps]

theorem execControlFrameRx_kept {c : ControlRx} {s0 : State} : Kept s0 (execControlFrameRx c s0) := by
  unfold execControlFrameRx
  simp (maxDischargeDepth := 60) only [Keeps.refl, ↓finish_keeps, ↓Kept.ite, ↓Keeps.ite, ↓Keeps.upd, implies_true, le_refl,
    ↓State.authFailed_keeps, ↓State.bump_keeps, ↓State.countFec_keeps, ↓State.heedPartner_keeps, ↓State.learnGrant_keeps, ↓State.pump_keeps,
      ↓State.resend_keeps, ↓State.takeAck_keeps, ↓State.takeCredit_keeps, ↓State.twinHeard_keeps, ↓State.when_keeps]

theorem execHelloRx_kept {p : Fin 2} {fchk : Bool} {fec : Fec} {h : Hello} {s0 : State} : Kept s0 (execHelloRx p fchk fec h s0) := by
  unfold execHelloRx
  simp (maxDischargeDepth := 60) only [Keeps.refl, ↓finish_keeps, ↓Kept.ite, ↓Keeps.ite, ↓Keeps.upd, implies_true, le_refl, ↓State.bump_keeps,
    ↓State.countFec_keeps, ↓State.formKey_keeps, ↓State.linkFormed_keeps, ↓State.pairWith_keeps, ↓State.raise_keeps, ↓State.sendHellos_keeps,
      ↓State.startHello_keeps, ↓State.twinHeard_keeps, ↓State.when_keeps]

theorem execNakTimer_kept {s : State} : Kept s (execNakTimer s) := by
  unfold execNakTimer
  simp (maxDischargeDepth := 60) only [Keeps.refl, ↓finish_keeps, ↓Kept.ite, ↓Keeps.upd, implies_true, le_refl, ↓State.forEach_keeps,
    ↓State.sendControl_keeps]

theorem execRetransmitTimer_kept {seq : Nat} {s : State} : Kept s (execRetransmitTimer seq s) := by
  unfold execRetransmitTimer
  simp (maxDischargeDepth := 60) only [Keeps.refl, ↓finish_keeps, ↓State.resend_keeps]

theorem execControlSendTimer_kept {p : Fin 2} {s : State} : Kept s (execControlSendTimer p s) := by
  unfold execControlSendTimer
  simp (maxDischargeDepth := 60) only [Keeps.refl, ↓finish_keeps, ↓Kept.ite, ↓State.sendControl_keeps]

theorem execHelloSendTimer_kept {s : State} : Kept s (execHelloSendTimer s) := by
  unfold execHelloSendTimer
  simp (maxDischargeDepth := 60) only [Keeps.refl, ↓finish_keeps, ↓Kept.ite, ↓State.sendHellos_keeps]

theorem execRekeyDue_kept {s : State} : Kept s (execRekeyDue s) := by
  unfold execRekeyDue
  simp (maxDischargeDepth := 60) only [Keeps.refl, ↓finish_keeps, ↓State.rekey_keeps]

theorem execCwRekey_kept {s : State} : Kept s (execCwRekey s) := by
  unfold execCwRekey
  simp (maxDischargeDepth := 60) only [Keeps.refl, ↓finish_keeps, ↓State.rekey_keeps]

theorem execOldKeyEpochExpiry_kept {s : State} : Kept s (execOldKeyEpochExpiry s) := by
  unfold execOldKeyEpochExpiry
  simp (maxDischargeDepth := 60) only [Keeps.refl, ↓finish_keeps, ↓Keeps.upd, le_refl]

theorem execWriteCompletion_kept {id : Nat} {readbackOk : Bool} {s : State} : Kept s (execWriteCompletion id readbackOk s) := by
  unfold execWriteCompletion
  split <;> simp (maxDischargeDepth := 60) only [Keeps.refl, ↓finish_keeps, ↓Kept.ite, ↓Keeps.upd, le_refl, ↓State.bump_keeps,
    ↓State.raiseLimited_keeps]

theorem execMirrorWindowDrain_kept {s : State} : Kept s (execMirrorWindowDrain s) := by
  unfold execMirrorWindowDrain
  simp (maxDischargeDepth := 60) only [Keeps.refl, ↓finish_keeps, ↓Kept.ite, ↓State.drainHeld_keeps]

theorem execPersist_kept {q seq : Nat} {s : State} : Kept s (execPersist q seq s) := by
  unfold execPersist
  simp (maxDischargeDepth := 60) only [Keeps.refl, ↓finish_keeps, ↓Keeps.ite, implies_true, ↓State.completeOp_keeps, ↓State.setOp_keeps,
    ↓State.startOp_keeps]

theorem execPersistComplete_kept {q seq : Nat} {s : State} : Kept s (execPersistComplete q seq s) := by
  unfold execPersistComplete
  split <;> simp (maxDischargeDepth := 60) only [Keeps.refl, ↓finish_keeps, ↓Kept.ite, ↓State.completeOp_keeps]

theorem execPersistStalled_kept {q seq : Nat} {s : State} : Kept s (execPersistStalled q seq s) := by
  unfold execPersistStalled
  split <;> simp (maxDischargeDepth := 60) only [Keeps.refl, ↓finish_keeps, ↓Kept.ite, ↓State.raise_keeps, ↓State.setOp_keeps]

theorem execGpfPhase1_kept {ld : Fin 64} {s : State} : Kept s (execGpfPhase1 ld s) := by
  unfold execGpfPhase1
  split <;> simp (maxDischargeDepth := 60) only [Keeps.refl, ↓finish_keeps, ↓Kept.ite, ↓State.emit_keeps]

theorem execGpfPhase2_kept {ld : Fin 64} {s : State} : Kept s (execGpfPhase2 ld s) := by
  unfold execGpfPhase2
  split <;> simp (maxDischargeDepth := 60) only [Keeps.refl, ↓finish_keeps, ↓Kept.ite, ↓State.endGpf_keeps, ↓State.put_keeps, ↓State.setLd_keeps]

theorem execGpfPhase2Done_kept {ld : Fin 64} {s : State} : Kept s (execGpfPhase2Done ld s) := by
  unfold execGpfPhase2Done
  split <;> simp (maxDischargeDepth := 60) only [Keeps.refl, ↓finish_keeps, ↓Kept.ite, ↓State.endGpf_keeps]

theorem execCopy_kept {q seq : Nat} {sram : List Nat} {s : State} : Kept s (execCopy q seq sram s) := by
  unfold execCopy
  simp (maxDischargeDepth := 60) only [Keeps.refl, ↓finish_keeps, implies_true, ↓State.startCopy_keeps, ↓State.startOp_keeps]

theorem execZero_kept {q seq : Nat} {s : State} : Kept s (execZero q seq s) := by
  unfold execZero
  simp (maxDischargeDepth := 60) only [Keeps.refl, ↓finish_keeps, implies_true, ↓State.startCopy_keeps, ↓State.startOp_keeps]

theorem execCopyZeroResume_kept {q seq : Nat} {sram : List Nat} {s : State} : Kept s (execCopyZeroResume q seq sram s) := by
  unfold execCopyZeroResume
  simp (maxDischargeDepth := 60) only [Keeps.refl, ↓finish_keeps, ↓State.resumeCopy_keeps]

theorem execCopyZeroDone_kept {q seq : Nat} {s : State} : Kept s (execCopyZeroDone q seq s) := by
  unfold execCopyZeroDone
  try dsimp only
  (repeat' split) <;> simp (maxDischargeDepth := 60) only [Keeps.refl, ↓finish_keeps, ↓Keeps.upd, le_refl, ↓State.endCopy_keeps,
    ↓State.finishOp_keeps]

theorem execHazardHoldRelease_kept {q seq : Nat} {sram : List Nat} {s : State} : Kept s (execHazardHoldRelease q seq sram s) := by
  unfold execHazardHoldRelease
  split <;> simp (maxDischargeDepth := 60) only [Keeps.refl, ↓finish_keeps, ↓Kept.ite, implies_true, ↓State.startCopy_keeps, ↓State.startOp_keeps]

theorem execWait_kept {q seq : Nat} {s : State} : Kept s (execWait q seq s) := by
  unfold execWait
  simp (maxDischargeDepth := 60) only [Keeps.refl, ↓finish_keeps, ↓Keeps.ite, implies_true, ↓State.endWait_keeps, ↓State.setOp_keeps,
    ↓State.startOp_keeps, ↓State.testWait_keeps]

theorem execWaitSatisfied_kept {q seq : Nat} {s : State} : Kept s (execWaitSatisfied q seq s) := by
  unfold execWaitSatisfied
  split <;> simp (maxDischargeDepth := 60) only [Keeps.refl, ↓finish_keeps, ↓Kept.ite, ↓State.testWait_keeps]

theorem execWaitTimeout_kept {q seq : Nat} {s : State} : Kept s (execWaitTimeout q seq s) := by
  unfold execWaitTimeout
  split <;> simp (maxDischargeDepth := 60) only [Keeps.refl, ↓finish_keeps, ↓Kept.ite, ↓State.endWait_keeps]

theorem execAbort_kept {q seq : Nat} {s : State} : Kept s (execAbort q seq s) := by
  unfold execAbort
  simp (maxDischargeDepth := 60) only [Keeps.refl, ↓finish_keeps, ↓Keeps.ite, implies_true, ↓State.abortOne_keeps, ↓State.abortQueue_keeps,
    ↓State.completeOp_keeps, ↓State.startOp_keeps]

theorem execMultipartAssembled_kept {q seq : Nat} {s : State} : Kept s (execMultipartAssembled q seq s) := by
  unfold execMultipartAssembled
  try dsimp only
  (repeat' split) <;> simp (maxDischargeDepth := 60) only [Keeps.refl, ↓finish_keeps, ↓State.completeOp_keeps, ↓State.setOp_keeps]

theorem execEthLinkUp_kept {link : Fin 16} {s : State} : Kept s (execEthLinkUp link s) := by
  unfold execEthLinkUp
  simp (maxDischargeDepth := 60) only [Keeps.refl, ↓finish_keeps, ↓Kept.ite, ↓State.endCond_keeps, ↓State.put_keeps, ↓State.syncEth_keeps]

theorem execEthLinkDown_kept {link : Fin 16} {s : State} : Kept s (execEthLinkDown link s) := by
  unfold execEthLinkDown
  simp (maxDischargeDepth := 60) only [Keeps.refl, ↓finish_keeps, ↓Kept.ite, ↓Keeps.ite, ↓Keeps.upd, le_refl, ↓State.ethDrop_keeps,
    ↓State.ethLeaves_keeps, ↓State.raise_keeps]

theorem execEthLinkServiceWrite_kept {link : Fin 16} {service : Bool} {s : State} : Kept s (execEthLinkServiceWrite link service s) := by
  unfold execEthLinkServiceWrite
  simp (maxDischargeDepth := 60) only [Keeps.refl, ↓finish_keeps, ↓State.ethService_keeps]

theorem execFecCodewordUncorrectable_kept {link : Fin 16} {s : State} : Kept s (execFecCodewordUncorrectable link s) := by
  unfold execFecCodewordUncorrectable
  simp (maxDischargeDepth := 60) only [Keeps.refl, ↓finish_keeps, ↓Kept.ite, ↓Keeps.upd, le_refl, ↓State.bump_keeps, ↓State.raise_keeps]

theorem execPfcFrameRx_kept {link : Fin 16} {pause : Bool} {s : State} : Kept s (execPfcFrameRx link pause s) := by
  unfold execPfcFrameRx
  simp (maxDischargeDepth := 60) only [Keeps.refl, ↓finish_keeps, ↓Kept.ite, ↓Keeps.upd, le_refl, ↓State.bump_keeps]

theorem execPfcPauseLong_kept {link : Fin 16} {s : State} : Kept s (execPfcPauseLong link s) := by
  unfold execPfcPauseLong
  simp (maxDischargeDepth := 60) only [Keeps.refl, ↓finish_keeps, ↓Kept.ite, ↓State.raise_keeps]

theorem execArpNdRequest_kept {link : Fin 16} {addr : Nat} {s : State} : Kept s (execArpNdRequest link addr s) := by
  unfold execArpNdRequest
  try dsimp only
  (repeat' split) <;> simp (maxDischargeDepth := 60) only [Keeps.refl, ↓finish_keeps, ↓State.frameOut_keeps]

theorem execCmReq_kept {f : RxFrame} {addr pkey mtu : Nat} {rc : Bool} {depth psn : Nat} {priv : List Byte}
    {s : State} : Kept s (execCmReq f addr pkey mtu rc depth psn priv s) := by
  unfold execCmReq
  try dsimp only
  (repeat' split) <;> simp (maxDischargeDepth := 60) only [Keeps.refl, ↓finish_keeps, ↓State.createQp_keeps, ↓State.refuseReq_keeps,
    ↓State.rxFrame_keeps, ↓State.sendHost_keeps]

theorem execCmRtu_kept {f : RxFrame} {qpn : Nat} {s : State} : Kept s (execCmRtu f qpn s) := by
  unfold execCmRtu
  try dsimp only
  (repeat' split) <;> simp (maxDischargeDepth := 60) only [Keeps.refl, ↓finish_keeps, ↓State.rxFrame_keeps, ↓State.setQp_keeps]

theorem execCmDreq_kept {f : RxFrame} {qpn : Nat} {s : State} : Kept s (execCmDreq f qpn s) := by
  unfold execCmDreq
  try dsimp only
  (repeat' split) <;> simp (maxDischargeDepth := 60) only [Keeps.refl, ↓finish_keeps, ↓State.freeQp_keeps, ↓State.rxFrame_keeps,
    ↓State.sendHost_keeps]

theorem execCmRejRx_kept {f : RxFrame} {qpn : Nat} {s : State} : Kept s (execCmRejRx f qpn s) := by
  unfold execCmRejRx
  try dsimp only
  (repeat' split) <;> simp (maxDischargeDepth := 60) only [Keeps.refl, ↓finish_keeps, ↓State.freeQp_keeps, ↓State.rxFrame_keeps]

theorem execCmOtherMad_kept {f : RxFrame} {s : State} : Kept s (execCmOtherMad f s) := by
  unfold execCmOtherMad
  simp (maxDischargeDepth := 60) only [Keeps.refl, ↓finish_keeps, ↓Kept.ite, ↓State.bump_keeps, ↓State.rxFrame_keeps]

theorem execRdmaReadReq_kept {f : RxFrame} {qpn pkey psn va rkey len : Nat} {sram : List Nat}
    {s : State} : Kept s (execRdmaReadReq f qpn pkey psn va rkey len sram s) := by
  unfold execRdmaReadReq
  simp (maxDischargeDepth := 60) only [Keeps.refl, ↓finish_keeps, ↓State.rxPacket_keeps]

theorem execRdmaWritePacket_kept {f : RxFrame} {qpn pkey psn : Nat} {first last : Bool} {va rkey len : Nat} {bytes : List Byte} {sram : List Nat}
    {s : State} : Kept s (execRdmaWritePacket f qpn pkey psn first last va rkey len bytes sram s) := by
  unfold execRdmaWritePacket
  simp (maxDischargeDepth := 60) only [Keeps.refl, ↓finish_keeps, ↓State.rxPacket_keeps]

theorem execRdmaWriteAck_kept {qpn : Nat} {s : State} : Kept s (execRdmaWriteAck qpn s) := by
  unfold execRdmaWriteAck
  try dsimp only
  (repeat' split) <;> simp (maxDischargeDepth := 60) only [Keeps.refl, ↓finish_keeps, ↓Keeps.upd, le_refl, ↓State.answerNak_keeps,
    ↓State.qpSend_keeps, ↓State.setQp_keeps]

theorem execRdmaAtomic_kept {f : RxFrame} {qpn pkey psn : Nat} {swap : Bool} {va rkey add compare : Nat} {sram : List Nat}
    {s : State} : Kept s (execRdmaAtomic f qpn pkey psn swap va rkey add compare sram s) := by
  unfold execRdmaAtomic
  simp (maxDischargeDepth := 60) only [Keeps.refl, ↓finish_keeps, ↓State.rxPacket_keeps]

theorem execRdmaUnsupportedOpcode_kept {f : RxFrame} {qpn pkey psn : Nat} {s : State} : Kept s (execRdmaUnsupportedOpcode f qpn pkey psn s) := by
  unfold execRdmaUnsupportedOpcode
  simp (maxDischargeDepth := 60) only [Keeps.refl, ↓finish_keeps, ↓State.rxPacket_keeps]

theorem execCqpSend_kept {f : RxFrame} {qpn pkey psn len : Nat} {ds : List (BitVec 512)}
    {s : State} : Kept s (execCqpSend f qpn pkey psn len ds s) := by
  unfold execCqpSend
  simp (maxDischargeDepth := 60) only [Keeps.refl, ↓finish_keeps, ↓State.rxPacket_keeps]

theorem execRdmaAckRx_kept {f : RxFrame} {qpn psn : Nat} {nak : Bool} {s : State} : Kept s (execRdmaAckRx f qpn psn nak s) := by
  unfold execRdmaAckRx
  try dsimp only
  (repeat' split) <;> simp (maxDischargeDepth := 60) only [Keeps.refl, ↓finish_keeps, implies_true, ↓State.forEach_keeps, ↓State.qpSend_keeps,
    ↓State.rxFrame_keeps, ↓State.setQp_keeps]

theorem execCqpRnrNakRx_kept {f : RxFrame} {qpn psn : Nat} {s : State} : Kept s (execCqpRnrNakRx f qpn psn s) := by
  unfold execCqpRnrNakRx
  try dsimp only
  (repeat' split) <;> simp (maxDischargeDepth := 60) only [Keeps.refl, ↓finish_keeps, ↓State.rxFrame_keeps, ↓State.setQp_keeps]

theorem execCqpRnrRetry_kept {qpn : Nat} {s : State} : Kept s (execCqpRnrRetry qpn s) := by
  unfold execCqpRnrRetry
  split <;> simp (maxDischargeDepth := 60) only [Keeps.refl, ↓finish_keeps, ↓Kept.ite, implies_true, ↓State.forEach_keeps, ↓State.qpSend_keeps,
    ↓State.setQp_keeps]

theorem execCompletionSendFlush_kept {qpn : Nat} {s : State} : Kept s (execCompletionSendFlush qpn s) := by
  unfold execCompletionSendFlush
  split <;> simp (maxDischargeDepth := 60) only [Keeps.refl, ↓finish_keeps, ↓Kept.ite, ↓State.sendRecords_keeps]

theorem execQpContextFetchDone_kept {qpn : Nat} {s : State} : Kept s (execQpContextFetchDone qpn s) := by
  unfold execQpContextFetchDone
  simp (maxDischargeDepth := 60) only [Keeps.refl, ↓finish_keeps, ↓Kept.ite, ↓Keeps.upd, implies_true, le_refl, ↓State.cacheQp_keeps,
    ↓State.forEach_keeps, ↓State.retryMisses_keeps, ↓State.servePacket_keeps]

theorem execQpCachePressureCheck_kept {s : State} : Kept s (execQpCachePressureCheck s) := by
  unfold execQpCachePressureCheck
  simp (maxDischargeDepth := 60) only [Keeps.refl, ↓finish_keeps, ↓Kept.ite, ↓Keeps.upd, le_refl, ↓State.raise_keeps]

theorem execHltHolddownExpiry_kept {gid : Nat} {s : State} : Kept s (execHltHolddownExpiry gid s) := by
  unfold execHltHolddownExpiry
  split <;> simp (maxDischargeDepth := 60) only [Keeps.refl, ↓finish_keeps, ↓State.moveHost_keeps]

theorem execHltMoveDrainDone_kept {gid : Nat} {s : State} : Kept s (execHltMoveDrainDone gid s) := by
  unfold execHltMoveDrainDone
  split <;> simp (maxDischargeDepth := 60) only [Keeps.refl, ↓finish_keeps, ↓Kept.ite, ↓State.releaseHeld_keeps]

theorem execHltFlapClear_kept {gid : Nat} {s : State} : Kept s (execHltFlapClear gid s) := by
  unfold execHltFlapClear
  split <;> simp (maxDischargeDepth := 60) only [Keeps.refl, ↓finish_keeps, ↓State.setHost_keeps]

theorem execHltEntryAgeOut_kept {gid : Nat} {s : State} : Kept s (execHltEntryAgeOut gid s) := by
  unfold execHltEntryAgeOut
  split <;> simp (maxDischargeDepth := 60) only [Keeps.refl, ↓finish_keeps, ↓Kept.ite, ↓State.setHost_keeps]

theorem execCnpRx_kept {f : RxFrame} {qpn : Nat} {s : State} : Kept s (execCnpRx f qpn s) := by
  unfold execCnpRx
  try dsimp only
  (repeat' split) <;> simp (maxDischargeDepth := 60) only [Keeps.refl, ↓finish_keeps, ↓State.bump_keeps, ↓State.rxFrame_keeps, ↓State.setQp_keeps]

theorem execCnpRateRecovery_kept {qpn : Nat} {s : State} : Kept s (execCnpRateRecovery qpn s) := by
  unfold execCnpRateRecovery
  split <;> simp (maxDischargeDepth := 60) only [Keeps.refl, ↓finish_keeps, ↓State.setQp_keeps]

theorem execSluiceCnpTimer_kept {s : State} : Kept s (execSluiceCnpTimer s) := by
  unfold execSluiceCnpTimer
  simp (maxDischargeDepth := 60) only [Keeps.refl, ↓finish_keeps, ↓Kept.ite, implies_true, ↓State.forEach_keeps, ↓State.qpSend_keeps,
    ↓State.setQp_keeps]

theorem execPfailNAssert_kept {s : State} : Kept s (execPfailNAssert s) := by
  unfold execPfailNAssert
  simp (maxDischargeDepth := 60) only [Keeps.refl, ↓finish_keeps, ↓Kept.ite, ↓Keeps.upd, le_refl, ↓State.put_keeps]

theorem execPfailNDeassert_kept {s : State} : Kept s (execPfailNDeassert s) := by
  unfold execPfailNDeassert
  simp (maxDischargeDepth := 60) only [Keeps.refl, ↓finish_keeps, ↓Kept.ite, ↓Keeps.upd, implies_true, le_refl, ↓State.put_keeps,
    ↓State.raiseLimited_keeps, ↓State.wakeDormant_keeps, ↓State.when_keeps]

theorem execPfailFilterExpiry_kept {s : State} : Kept s (execPfailFilterExpiry s) := by
  unfold execPfailFilterExpiry
  simp (maxDischargeDepth := 60) only [Keeps.refl, ↓finish_keeps, ↓Kept.ite, ↓Keeps.upd, le_refl, ↓State.powerFail_keeps]

theorem execSpillwaySeal_kept {us energy : Nat} {s : State} : Kept s (execSpillwaySeal us energy s) := by
  unfold execSpillwaySeal
  simp (maxDischargeDepth := 60) only [Keeps.refl, ↓finish_keeps, ↓Kept.ite, ↓State.afterSeal_keeps, ↓State.sealImage_keeps]

theorem execSaveRestartWaitEnd_kept {s : State} : Kept s (execSaveRestartWaitEnd s) := by
  unfold execSaveRestartWaitEnd
  simp (maxDischargeDepth := 60) only [Keeps.refl, ↓finish_keeps, ↓Kept.ite, ↓Keeps.upd, le_refl, ↓State.enterBringup_keeps, ↓State.put_keeps,
    ↓State.setMode_keeps]

theorem execRestorePhaseDone_kept {repaired ignored : Nat} {damage : List (Nat × Nat)} {gap : Bool} {bad : List (Nat × LineVerdict)}
    {s : State} : Kept s (execRestorePhaseDone repaired ignored damage gap bad s) := by
  unfold execRestorePhaseDone
  try dsimp only
  (repeat' split) <;> simp (maxDischargeDepth := 60) only [Keeps.refl, ↓finish_keeps, ↓Keeps.upd, implies_true, le_refl, ↓State.arriveLine_keeps,
    ↓State.endScan_keeps, ↓State.forEach_keeps, ↓State.poisonRange_keeps, ↓State.put_keeps, ↓State.raise_keeps, ↓State.rebuildTable_keeps,
      ↓State.startLines_keeps, ↓State.startPending_keeps, ↓State.startSettle_keeps]

theorem execStreamDeclare_kept {q seq : Nat} {bad : List (Nat × Nat)} {s : State} : Kept s (execStreamDeclare q seq bad s) := by
  unfold execStreamDeclare
  refine finish_keeps (State.startOp_keeps (Keeps.refl s) fun o t => ?_)
  dsimp only
  split
  · exact State.completeOp_keeps (Keeps.refl t)
  · split
    · exact State.completeOp_keeps (Keeps.refl t)
    · refine Keeps.ite (State.completeOp_keeps (State.refuse_keeps (Keeps.refl t))) ?_
      split
      · exact State.completeOp_keeps (Keeps.refl t)
      · refine Keeps.ite (State.completeOp_keeps (Keeps.refl t)) ?_
        split
        · exact Keeps.ite (State.createStream_keeps (Keeps.refl t)) (State.completeOp_keeps (Keeps.refl t))
        · exact State.completeOp_keeps (Keeps.refl t)

theorem execStreamAdvance_kept {q seq : Nat} {s : State} : Kept s (execStreamAdvance q seq s) := by
  unfold execStreamAdvance
  refine finish_keeps (State.startOp_keeps (Keeps.refl s) fun o t => ?_)
  split
  · exact State.completeOp_keeps (Keeps.refl t)
  · exact State.completeOp_keeps (State.advanceStream_keeps (Keeps.refl t))

theorem execStreamRetire_kept {q seq : Nat} {s : State} : Kept s (execStreamRetire q seq s) := by
  unfold execStreamRetire
  refine finish_keeps (State.startOp_keeps (Keeps.refl s) fun o t => ?_)
  split
  · exact State.completeOp_keeps (Keeps.refl t)
  · exact State.completeOp_keeps (State.freeStream_keeps (Keeps.refl t))

theorem execStreamStatusWrite_kept {j : Fin 1024} {s : State} : Kept s (execStreamStatusWrite j s) := by
  unfold execStreamStatusWrite
  simp (maxDischargeDepth := 60) only [Keeps.refl, ↓finish_keeps, ↓Kept.ite, ↓State.writeStreamStatus_keeps]

theorem execFillLanded_kept {page : Nat} {bad : List Nat} {ecc : DeepEcc} {verdicts : List (Nat × LineVerdict)} {stalls : List (Nat × List Nat)}
    {memory crypto : Nat} {s : State} : Kept s (execFillLanded page bad ecc verdicts stalls memory crypto s) := by
  unfold execFillLanded
  extract_lets s0 r s1 waiting s2 s3 s4
  have k0 : Keeps s s0 := State.assignFrame_keeps (Keeps.refl s)
  have kr : Keeps s r.1 := Keeps.ite_fst (State.readDeep_keeps k0) k0
  have k1 : Keeps s s1 := Keeps.ite kr (State.fillOther_keeps kr)
  have k2 : Keeps s s2 := State.landPage_keeps (State.issueUpTo_keeps k1)
  have k3 : Keeps s s3 := by
    refine Keeps.ite k2 (State.forEach_keeps k2 fun x t => ?_)
    split
    · exact State.countStall_keeps (Keeps.refl t)
    · exact State.countStall_keeps (Keeps.refl t)
  have k4 : Keeps s s4 := State.forEach_keeps k3 fun l t => State.arriveLine_keeps (State.grant_keeps (Keeps.refl t))
  exact Kept.ite (finish_keeps k0) (Kept.ite (finish_keeps kr) (finish_keeps (State.afterFill_keeps k4)))

theorem execStallCeilingExpiry_kept {id : Nat} {parts : List Nat} {s : State} : Kept s (execStallCeilingExpiry id parts s) := by
  unfold execStallCeilingExpiry
  try dsimp only
  (repeat' split) <;> simp (maxDischargeDepth := 60) only [Keeps.refl, ↓finish_keeps, ↓State.ceilingRead_keeps, ↓State.ceilingWrite_keeps]

theorem execFrameWaitTimeout_kept {s : State} : Kept s (execFrameWaitTimeout s) := by
  unfold execFrameWaitTimeout
  simp (maxDischargeDepth := 60) only [Keeps.refl, ↓finish_keeps, ↓Kept.ite, ↓State.giveFrames_keeps, ↓State.raise_keeps]

theorem execExtentDrop_kept {s : State} : Kept s (execExtentDrop s) := by
  unfold execExtentDrop
  try dsimp only
  (repeat' split) <;> simp (maxDischargeDepth := 60) only [Keeps.refl, ↓finish_keeps, ↓State.dropExtent_keeps, ↓State.evictState_keeps,
    ↓State.giveFrames_keeps, ↓State.nextVictim_keeps, ↓State.setExtent_keeps]

theorem execWritebackCapture_kept {page : Nat} {s : State} : Kept s (execWritebackCapture page s) := by
  unfold execWritebackCapture
  simp (maxDischargeDepth := 60) only [Keeps.refl, ↓finish_keeps, ↓Kept.ite, ↓Keeps.upd, implies_true, le_refl, ↓State.captureLine_keeps,
    ↓State.forEach_keeps, ↓State.grant_keeps, ↓State.setPage_keeps]

theorem execWritebackProgramDone_kept {page : Nat} {s : State} : Kept s (execWritebackProgramDone page s) := by
  unfold execWritebackProgramDone
  split
  · exact finish_keeps (Keeps.refl s)
  · refine Kept.ite (finish_keeps (Keeps.refl s)) ?_
    split
    · exact finish_keeps (Keeps.refl s)
    · rename_i t ht
      exact finish_keeps (State.sluice_keeps (State.endCapture_keeps (State.takePage_keeps ht (Keeps.refl s))))

theorem execProgramFailed_kept {page : Nat} {s : State} : Kept s (execProgramFailed page s) := by
  unfold execProgramFailed
  split
  · exact finish_keeps (Keeps.refl s)
  · split
    · exact finish_keeps (Keeps.refl s)
    · rename_i t ht
      exact finish_keeps (State.queueBlock_keeps (State.useSpareBlock_keeps (State.bump_keeps (State.setPage_keeps
        (State.takePage_keeps ht (Keeps.refl s))).upd)))

theorem execJournalBlockWrite_kept {s : State} : Kept s (execJournalBlockWrite s) := by
  unfold execJournalBlockWrite
  simp (maxDischargeDepth := 60) only [Keeps.refl, ↓finish_keeps, ↓Kept.ite, ↓Keeps.upd, implies_true, le_refl, ↓State.forEach_keeps,
    ↓State.journalStatus_keeps, ↓State.makeDurable_keeps]

theorem execTablePageWrite_kept {tp : Nat} {s : State} : Kept s (execTablePageWrite tp s) := by
  unfold execTablePageWrite
  refine Kept.ite (finish_keeps (Keeps.refl s)) ?_
  dsimp only
  split
  · exact finish_keeps (State.truncateJournal_keeps (Keeps.refl s).upd.upd)
  · split
    · exact finish_keeps (Keeps.refl s)
    · rename_i t ht
      exact finish_keeps (State.truncateJournal_keeps (State.placeTable_keeps (State.takePage_keeps ht (Keeps.refl s))).upd)

theorem execGcVictimRelocate_kept {s : State} : Kept s (execGcVictimRelocate s) := by
  unfold execGcVictimRelocate
  try dsimp only
  (repeat' split) <;> simp (maxDischargeDepth := 60) only [Keeps.refl, ↓finish_keeps, ↓State.blockStatus_keeps, ↓State.relocate_keeps]

theorem execWearLevelRelocate_kept {s : State} : Kept s (execWearLevelRelocate s) := by
  unfold execWearLevelRelocate
  try dsimp only
  (repeat' split) <;> simp (maxDischargeDepth := 60) only [Keeps.refl, ↓finish_keeps, ↓State.blockStatus_keeps, ↓State.bump_keeps,
    ↓State.raise_keeps, ↓State.relocate_keeps]

end Sys2Proof.Machine
end

