-- ==== Sys2Proof/Laws/PerInstr.lean ====
section
/-! SUPPORT. The rows of the opcode table by number: the constructor of each row, and one lemma per constructor. -/

namespace Sys2Proof.Laws.Rows

/-- The number of a command's row in the opcode table, from 0. -/
def rowOf : Instr → Nat
  | .registerWrite .. => 0
  | .registerReadClear .. => 1
  | .registerReadLatchHigh .. => 2
  | .cxlMemrd .. => 3
  | .cxlMemwr .. => 4
  | .cxlMemwrptl .. => 5
  | .cxlMemspecrd .. => 6
  | .cxlMeminv .. => 7
  | .cxlUnsupportedM2s .. => 8
  | .writeCompletion .. => 9
  | .mirrorWindowDrain .. => 10
  | .persist .. => 11
  | .persistComplete .. => 12
  | .persistStalled .. => 13
  | .gpfPhase1 .. => 14
  | .gpfPhase2 .. => 15
  | .gpfPhase2Done .. => 16
  | .configRequest .. => 17
  | .perstNAssert .. => 18
  | .perstNDeassert .. => 19
  | .cxlLinkUp .. => 20
  | .cxlLinkDown .. => 21
  | .cxlHotReset .. => 22
  | .functionLevelReset .. => 23
  | .cxlPortServiceWrite .. => 24
  | .cxlBindRestore .. => 25
  | .ideKmExchange .. => 26
  | .ideMacFailure .. => 27
  | .ideEpochVerified .. => 28
  | .hdmDecoderCommit .. => 29
  | .getEventRecords .. => 30
  | .clearEventRecords .. => 31
  | .getEventInterruptPolicy .. => 32
  | .setEventInterruptPolicy .. => 33
  | .getFwInfo .. => 34
  | .getTimestamp .. => 35
  | .setTimestamp .. => 36
  | .getSupportedLogs .. => 37
  | .getLog .. => 38
  | .identifyMemoryDevice .. => 39
  | .getPartitionInfo .. => 40
  | .getLsa .. => 41
  | .setLsa .. => 42
  | .getHealthInfo .. => 43
  | .getAlertConfiguration .. => 44
  | .getShutdownState .. => 45
  | .setShutdownState .. => 46
  | .getPoisonList .. => 47
  | .injectPoison .. => 48
  | .clearPoison .. => 49
  | .scanMedia .. => 50
  | .getScanMediaCapabilities .. => 51
  | .getScanMediaResults .. => 52
  | .scanMediaDone .. => 53
  | .mailboxMgmtRequest .. => 54
  | .mailboxUnsupported .. => 55
  | .getLdInfo .. => 56
  | .getLdAllocations .. => 57
  | .getQosStatus .. => 58
  | .fmApiUnsupported .. => 59
  | .ethLinkUp .. => 60
  | .ethLinkDown .. => 61
  | .ethLinkServiceWrite .. => 62
  | .arpNdRequest .. => 63
  | .cmReq .. => 64
  | .cmRtu .. => 65
  | .cmDreq .. => 66
  | .cmRejRx .. => 67
  | .cmOtherMad .. => 68
  | .rdmaReadReq .. => 69
  | .rdmaWritePacket .. => 70
  | .rdmaWriteAck .. => 71
  | .rdmaAtomic .. => 72
  | .rdmaUnsupportedOpcode .. => 73
  | .cqpSend .. => 74
  | .rdmaAckRx .. => 75
  | .cqpRnrNakRx .. => 76
  | .cqpRnrRetry .. => 77
  | .completionSendFlush .. => 78
  | .qpContextFetchDone .. => 79
  | .qpCachePressureCheck .. => 80
  | .hltHolddownExpiry .. => 81
  | .hltMoveDrainDone .. => 82
  | .hltFlapClear .. => 83
  | .hltEntryAgeOut .. => 84
  | .cnpRx .. => 85
  | .cnpRateRecovery .. => 86
  | .sluiceCnpTimer .. => 87
  | .pfcFrameRx .. => 88
  | .pfcPauseLong .. => 89
  | .ringEnable .. => 90
  | .ringDisable .. => 91
  | .ringDisabled .. => 92
  | .pollerTick .. => 93
  | .ringFetchData .. => 94
  | .multipartAssembled .. => 95
  | .cqHeadRecheck .. => 96
  | .cqFullTimeout .. => 97
  | .ringIdleSleep .. => 98
  | .ringWake .. => 99
  | .ringRestart .. => 100
  | .irqCoalesceExpiry .. => 101
  | .copy .. => 102
  | .zero .. => 103
  | .copyZeroResume .. => 104
  | .copyZeroDone .. => 105
  | .hazardHoldRelease .. => 106
  | .wait .. => 107
  | .waitSatisfied .. => 108
  | .waitTimeout .. => 109
  | .abort .. => 110
  | .regionAttach .. => 111
  | .regionAttachComplete .. => 112
  | .regionDetach .. => 113
  | .regionDetachComplete .. => 114
  | .regionRelease .. => 115
  | .regionInfo .. => 116
  | .keyProvision .. => 117
  | .keyRotate .. => 118
  | .streamDeclare .. => 119
  | .streamAdvance .. => 120
  | .streamRetire .. => 121
  | .guest .. => 122
  | .mgmtOperation .. => 123
  | .tenantCreate .. => 124
  | .tenantRemove .. => 125
  | .bindingWrite .. => 126
  | .haSliceSleep .. => 127
  | .victimWriteAck .. => 128
  | .haRemapRequest .. => 129
  | .haSliceBistDone .. => 130
  | .haSliceBistTimeout .. => 131
  | .epochBoundary .. => 132
  | .latencyTracerClear .. => 133
  | .fillLanded .. => 134
  | .stallCeilingExpiry .. => 135
  | .extentDrop .. => 136
  | .frameWaitTimeout .. => 137
  | .writebackCapture .. => 138
  | .writebackProgramDone .. => 139
  | .programFailed .. => 140
  | .journalBlockWrite .. => 141
  | .tablePageWrite .. => 142
  | .gcVictimRelocate .. => 143
  | .wearLevelRelocate .. => 144
  | .streamStatusWrite .. => 145
  | .freeboardRecompute .. => 146
  | .sluiceShareRecompute .. => 147
  | .thermalCapStep .. => 148
  | .bankIdRead .. => 149
  | .assayDue .. => 150
  | .assayNow .. => 151
  | .assayPrepareReady .. => 152
  | .assayPrepareTimeout .. => 153
  | .assayEsrMeasure .. => 154
  | .assayDischargeEnd .. => 155
  | .assayDischargeTimeout .. => 156
  | .assayRelaxEnd .. => 157
  | .assayRechargeDone .. => 158
  | .assayRechargeTimeout .. => 159
  | .assayRetryDue .. => 160
  | .pfailNAssert .. => 161
  | .pfailNDeassert .. => 162
  | .pfailFilterExpiry .. => 163
  | .spillwaySeal .. => 164
  | .saveRestartWaitEnd .. => 165
  | .restorePhaseDone .. => 166
  | .restoreExit .. => 167
  | .lineDataArrival .. => 168
  | .cpIdleSleep .. => 169
  | .cpRemapRequest .. => 170
  | .cpSelfTestDone .. => 171
  | .cpSelfTestTimeout .. => 172
  | .ksLoad .. => 173
  | .ksDestroy .. => 174
  | .ksCommandDone .. => 175
  | .keyStoreUpdate .. => 176
  | .keyStoreUpdateDone .. => 177
  | .rotationSweepExtent .. => 178
  | .flipMaskArm .. => 179
  | .dimmTempRead .. => 180
  | .channelTrainingDone .. => 181
  | .channelTrainingTimeout .. => 182
  | .zqCalibration .. => 183
  | .dqsDriftTrack .. => 184
  | .refreshDue .. => 185
  | .rankPowerDownEntry .. => 186
  | .rankSelfRefreshEntry .. => 187
  | .dramAlert .. => 188
  | .dramPatrolRead .. => 189
  | .channelServiceWrite .. => 190
  | .channelDrainPageCopy .. => 191
  | .channelFault .. => 192
  | .slotPresenceFiltered .. => 193
  | .slotPowerAttempt .. => 194
  | .slotPgTimeout .. => 195
  | .slotFault .. => 196
  | .slotPowerRetry .. => 197
  | .slotSettleDone .. => 198
  | .slotClearFault .. => 199
  | .slotFailNow .. => 200
  | .onfiReadyTimeout .. => 201
  | .nandEraseDone .. => 202
  | .noGroupRetry .. => 203
  | .rebuildStripe .. => 204
  | .repairReplyTimeout .. => 205
  | .flashPatrolStripe .. => 206
  | .flashPatrolRateUpdate .. => 207
  | .moduleTempRead .. => 208
  | .pathTrainingDone .. => 209
  | .pathTrainingTimeout .. => 210
  | .pathRetrainDue .. => 211
  | .pathLinkLoss .. => 212
  | .cwPathServiceWrite .. => 213
  | .linesFrameRx .. => 214
  | .linesBgFrameRx .. => 215
  | .pageMarkRx .. => 216
  | .horizonFrameRx .. => 217
  | .recordFrameRx .. => 218
  | .recordCommitRx .. => 219
  | .keyGenEntryRx .. => 220
  | .keyMasterRx .. => 221
  | .keyDestroyRx .. => 222
  | .repairReqRx .. => 223
  | .assayStateRx .. => 224
  | .drainBeginRx .. => 225
  | .catchupBeginRx .. => 226
  | .catchupDoneRx .. => 227
  | .temperSetRx .. => 228
  | .unpairRx .. => 229
  | .repairDoneRx .. => 230
  | .keyCommittedRx .. => 231
  | .controlFrameRx .. => 232
  | .helloRx .. => 233
  | .nakTimer .. => 234
  | .retransmitTimer .. => 235
  | .controlSendTimer .. => 236
  | .helloSendTimer .. => 237
  | .rekeyDue .. => 238
  | .cwRekey .. => 239
  | .oldKeyEpochExpiry .. => 240
  | .heartbeatTimer .. => 241
  | .takeoverReqResend .. => 242
  | .witnessStatusRx .. => 243
  | .witnessGrantRx .. => 244
  | .witnessDenyRx .. => 245
  | .witnessFenceRx .. => 246
  | .witnessContactTimeout .. => 247
  | .twinContactTimeout .. => 248
  | .fenceNAssert .. => 249
  | .fenceNDeassert .. => 250
  | .checkpointDue .. => 251
  | .cwDrain .. => 252
  | .drainCutoverReady .. => 253
  | .drainReleaseTimeout .. => 254
  | .cwUnpair .. => 255
  | .cwReplaceAllow .. => 256
  | .cwPairAllowNew .. => 257
  | .pairAllowExpiry .. => 258
  | .catchupCopyExtent .. => 259
  | .catchupComplete .. => 260
  | .handbackStart .. => 261
  | .kerupLinkUp .. => 262
  | .kerupLinkDown .. => 263
  | .guestRdGran .. => 264
  | .guestRdLine .. => 265
  | .guestRdHint .. => 266
  | .guestWrPtl .. => 267
  | .guestWrGran .. => 268
  | .guestWrLine .. => 269
  | .guestRegRd .. => 270
  | .guestRegWr .. => 271
  | .gqTakenRx .. => 272
  | .gqDoneRx .. => 273
  | .grantAckRx .. => 274
  | .echoRspRx .. => 275
  | .guestCmpOkRx .. => 276
  | .guestCmpErrRx .. => 277
  | .guestRegDataRx .. => 278
  | .gqSubmitDispatch .. => 279
  | .kgGrantWrite .. => 280
  | .grantRevoke .. => 281
  | .grantRevokedSend .. => 282
  | .grantAckTimeout .. => 283
  | .gqTimeout .. => 284
  | .gErrNfAssert .. => 285
  | .gErrFAssert .. => 286
  | .guestRefclkStable .. => 287
  | .gReadyAssert .. => 288
  | .guestBringupTimeout .. => 289
  | .guestReset .. => 290
  | .guestServiceWrite .. => 291
  | .kerupL1Entry .. => 292
  | .kerupL1Exit .. => 293
  | .kgGregAccess .. => 294
  | .kgGregTimeout .. => 295
  | .reeveLockstepFail .. => 296
  | .reeveWatchdogExpiry .. => 297
  | .rvWdtKick .. => 298
  | .reeveSramUncorrectable .. => 299
  | .reeveBoot .. => 300
  | .fwTrialConfirm .. => 301
  | .fwTrialTimeout .. => 302
  | .flashUnlockWrite .. => 303
  | .programWord .. => 304
  | .programRow .. => 305
  | .eraseSector .. => 306
  | .eraseBlock .. => 307
  | .flashClearStatus .. => 308
  | .flashReset .. => 309
  | .flashOpDone .. => 310
  | .flashWindowRead .. => 311
  | .readoutRaise .. => 312
  | .readoutLowerArm .. => 313
  | .readoutLowerConfirm .. => 314
  | .readoutFinalArm .. => 315
  | .readoutFinalConfirm .. => 316
  | .armExpiry .. => 317
  | .readoutEraseDone .. => 318
  | .bmcAddressMatch .. => 319
  | .mctpControlMsg .. => 320
  | .getTid .. => 321
  | .getPldmVersion .. => 322
  | .getPldmTypes .. => 323
  | .getPldmCommands .. => 324
  | .getPdrRepositoryInfo .. => 325
  | .getPdr .. => 326
  | .getSensorReading .. => 327
  | .getStateSensorReadings .. => 328
  | .setNumericSensorEnable .. => 329
  | .setEventReceiver .. => 330
  | .pollForPlatformEventMessage .. => 331
  | .queryDeviceIdentifiers .. => 332
  | .getFirmwareParameters .. => 333
  | .requestUpdate .. => 334
  | .passComponentTable .. => 335
  | .updateComponent .. => 336
  | .firmwareDataRx .. => 337
  | .transferComplete .. => 338
  | .verifyComplete .. => 339
  | .applyComplete .. => 340
  | .activateFirmware .. => 341
  | .getStatus .. => 342
  | .cancelUpdateComponent .. => 343
  | .cancelUpdate .. => 344
  | .pldmUnsupported .. => 345
  | .spdmGetVersion .. => 346
  | .spdmGetCapabilities .. => 347
  | .spdmNegotiateAlgorithms .. => 348
  | .spdmGetDigests .. => 349
  | .spdmGetCertificate .. => 350
  | .spdmChallenge .. => 351
  | .spdmGetMeasurements .. => 352
  | .spdmKeyExchange .. => 353
  | .spdmFinish .. => 354
  | .spdmHeartbeat .. => 355
  | .spdmEndSession .. => 356
  | .mgmtStatus .. => 357
  | .mgmtIdentity .. => 358
  | .mgmtDeviceKey .. => 359
  | .mgmtSensorRead .. => 360
  | .mgmtBermRead .. => 361
  | .mgmtEventRead .. => 362
  | .mgmtTenantSet .. => 363
  | .mgmtBindingSet .. => 364
  | .mgmtGrantSet .. => 365
  | .mgmtRegRead .. => 366
  | .mgmtRegWrite .. => 367
  | .mgmtAssayNow .. => 368
  | .mgmtPairCmd .. => 369
  | .mgmtService .. => 370
  | .mgmtTemperSet .. => 371
  | .groupResetArm .. => 372
  | .groupResetConfirm .. => 373
  | .mgmtUnknownType .. => 374
  | .adcConversion .. => 375
  | .adcTrackClear .. => 376
  | .errorLineAssert .. => 377
  | .wireFaultDetect .. => 378
  | .wireFaultPoll .. => 379
  | .sourceConditionEnd .. => 380
  | .fcAckWrite .. => 381
  | .fcRaiseWrite .. => 382
  | .fcPinClear .. => 383
  | .eventRecordWrite .. => 384
  | .tokenRefill .. => 385
  | .vauxRise .. => 386
  | .vauxFall .. => 387
  | .aonStartCheck .. => 388
  | .aonStartRetry .. => 389
  | .aonRegulatorDip .. => 390
  | .pwrRamp .. => 391
  | .pwrSleep .. => 392
  | .pwrShutdown .. => 393
  | .pwrRestart .. => 394
  | .shutdownWritebackDone .. => 395
  | .pseqGoAssert .. => 396
  | .goWaitTimeout .. => 397
  | .railPgAssert .. => 398
  | .railPgTimeout .. => 399
  | .railWindowTimeout .. => 400
  | .stepDelayExpiry .. => 401
  | .pllLocked .. => 402
  | .pllLockTimeout .. => 403
  | .rampdownRailOff .. => 404
  | .wakeRetryDelay .. => 405
  | .moduleDiscoveryStart .. => 406
  | .bringupComplete .. => 407
  | .railPgLoss .. => 408
  | .pmbusPoll .. => 409
  | .railMarginWrite .. => 410
  | .pmbusMarginAck .. => 411
  | .xtalStable .. => 412
  | .xtalFail .. => 413
  | .pllLockLoss .. => 414
  | .pllRelock .. => 415
  | .pllRelockTimeout .. => 416
  | .flashClockIdleStop .. => 417
  | .aonAlarmExpiry .. => 418
  | .junctionSensorRead .. => 419
  | .thermalTrip .. => 420
  | .throttleGraceExpiry .. => 421
  | .operatingSecondTick .. => 422
  | .bermBucketClose .. => 423
  | .bermCommit .. => 424
  | .slotPgAssert .. => 425
  | .holdoffExpiry .. => 426
  | .ringControlRecordReturn .. => 427
  | .ringReadCompletionTimeout .. => 428
  | .flitReplay .. => 429
  | .kerupFlitReplay .. => 430
  | .fecCodewordUncorrectable .. => 431
  | .kerupCreditReturn .. => 432
  | .jtagAccess .. => 433
  | .witnessLinkAligned .. => 434

/-- A command belongs to one of the 435 rows. -/
def Statement (i : Instr) : Prop := rowOf i < 435

theorem registerWrite (agent : Agent) (off : Nat) (size : Nat) (v : Nat) : Statement (.registerWrite agent off size v) := Nat.le_of_ble_eq_true rfl
theorem registerReadClear (agent : Agent) (off : Nat) (size : Nat) : Statement (.registerReadClear agent off size) := Nat.le_of_ble_eq_true rfl
theorem registerReadLatchHigh (agent : Agent) (off : Nat) : Statement (.registerReadLatchHigh agent off) := Nat.le_of_ble_eq_true rfl
theorem cxlMemrd (link : Fin 16) (ldid tag dpa : Nat) (sramBad : Bool) : Statement (.cxlMemrd link ldid tag dpa sramBad) := Nat.le_of_ble_eq_true rfl
theorem cxlMemwr (link : Fin 16) (ldid tag dpa : Nat) (data : Granule) (poison sramBad : Bool) : Statement (.cxlMemwr link ldid tag dpa data poison sramBad) := Nat.le_of_ble_eq_true rfl
theorem cxlMemwrptl (link : Fin 16) (ldid tag dpa : Nat) (data : Granule) (enables : BitVec 64) (poison sramBad : Bool) : Statement (.cxlMemwrptl link ldid tag dpa data enables poison sramBad) := Nat.le_of_ble_eq_true rfl
theorem cxlMemspecrd (link : Fin 16) (ldid dpa : Nat) : Statement (.cxlMemspecrd link ldid dpa) := Nat.le_of_ble_eq_true rfl
theorem cxlMeminv (link : Fin 16) (ldid tag : Nat) : Statement (.cxlMeminv link ldid tag) := Nat.le_of_ble_eq_true rfl
theorem cxlUnsupportedM2s (link : Fin 16) (ldid tag : Nat) (read : Bool) : Statement (.cxlUnsupportedM2s link ldid tag read) := Nat.le_of_ble_eq_true rfl
theorem writeCompletion (id : Nat) (readbackOk : Bool) : Statement (.writeCompletion id readbackOk) := Nat.le_of_ble_eq_true rfl
theorem mirrorWindowDrain : Statement .mirrorWindowDrain := Nat.le_of_ble_eq_true rfl
theorem persist (q seq : Nat) : Statement (.persist q seq) := Nat.le_of_ble_eq_true rfl
theorem persistComplete (q seq : Nat) : Statement (.persistComplete q seq) := Nat.le_of_ble_eq_true rfl
theorem persistStalled (q seq : Nat) : Statement (.persistStalled q seq) := Nat.le_of_ble_eq_true rfl
theorem gpfPhase1 (ld : Fin 64) : Statement (.gpfPhase1 ld) := Nat.le_of_ble_eq_true rfl
theorem gpfPhase2 (ld : Fin 64) : Statement (.gpfPhase2 ld) := Nat.le_of_ble_eq_true rfl
theorem gpfPhase2Done (ld : Fin 64) : Statement (.gpfPhase2Done ld) := Nat.le_of_ble_eq_true rfl
theorem configRequest (ld : Fin 64) (tag : Nat) (ask : CfgAsk) : Statement (.configRequest ld tag ask) := Nat.le_of_ble_eq_true rfl
theorem perstNAssert (p : Fin 4) : Statement (.perstNAssert p) := Nat.le_of_ble_eq_true rfl
theorem perstNDeassert (p : Fin 4) : Statement (.perstNDeassert p) := Nat.le_of_ble_eq_true rfl
theorem cxlLinkUp (link : Fin 16) (width rate : Nat) (mld lopt : Bool) : Statement (.cxlLinkUp link width rate mld lopt) := Nat.le_of_ble_eq_true rfl
theorem cxlLinkDown (link : Fin 16) : Statement (.cxlLinkDown link) := Nat.le_of_ble_eq_true rfl
theorem cxlHotReset (link : Fin 16) : Statement (.cxlHotReset link) := Nat.le_of_ble_eq_true rfl
theorem functionLevelReset (ld : Fin 64) : Statement (.functionLevelReset ld) := Nat.le_of_ble_eq_true rfl
theorem cxlPortServiceWrite (p : Fin 4) (service : Bool) : Statement (.cxlPortServiceWrite p service) := Nat.le_of_ble_eq_true rfl
theorem cxlBindRestore (link : Fin 16) : Statement (.cxlBindRestore link) := Nat.le_of_ble_eq_true rfl
theorem ideKmExchange (link : Fin 16) (session : Nat) (act : IdeAct) : Statement (.ideKmExchange link session act) := Nat.le_of_ble_eq_true rfl
theorem ideMacFailure (link : Fin 16) : Statement (.ideMacFailure link) := Nat.le_of_ble_eq_true rfl
theorem ideEpochVerified (link : Fin 16) : Statement (.ideEpochVerified link) := Nat.le_of_ble_eq_true rfl
theorem hdmDecoderCommit (ld : Fin 64) (idx : Fin 4) (base size skip ways gran : Nat) (lockOnCommit : Bool) : Statement (.hdmDecoderCommit ld idx base size skip ways gran lockOnCommit) := Nat.le_of_ble_eq_true rfl
theorem getEventRecords (ld : Fin 64) (log : Fin 4) : Statement (.getEventRecords ld log) := Nat.le_of_ble_eq_true rfl
theorem clearEventRecords (ld : Fin 64) (log : Fin 4) (all : Bool) (handles : List Nat) : Statement (.clearEventRecords ld log all handles) := Nat.le_of_ble_eq_true rfl
theorem getEventInterruptPolicy (ld : Fin 64) : Statement (.getEventInterruptPolicy ld) := Nat.le_of_ble_eq_true rfl
theorem setEventInterruptPolicy (ld : Fin 64) (policy : Nat) : Statement (.setEventInterruptPolicy ld policy) := Nat.le_of_ble_eq_true rfl
theorem getFwInfo (ld : Fin 64) : Statement (.getFwInfo ld) := Nat.le_of_ble_eq_true rfl
theorem getTimestamp (ld : Fin 64) : Statement (.getTimestamp ld) := Nat.le_of_ble_eq_true rfl
theorem setTimestamp (ld : Fin 64) (t : Nat) : Statement (.setTimestamp ld t) := Nat.le_of_ble_eq_true rfl
theorem getSupportedLogs (ld : Fin 64) : Statement (.getSupportedLogs ld) := Nat.le_of_ble_eq_true rfl
theorem getLog (ld : Fin 64) (cel : Bool) : Statement (.getLog ld cel) := Nat.le_of_ble_eq_true rfl
theorem identifyMemoryDevice (ld : Fin 64) : Statement (.identifyMemoryDevice ld) := Nat.le_of_ble_eq_true rfl
theorem getPartitionInfo (ld : Fin 64) : Statement (.getPartitionInfo ld) := Nat.le_of_ble_eq_true rfl
theorem getLsa (ld : Fin 64) (off len : Nat) : Statement (.getLsa ld off len) := Nat.le_of_ble_eq_true rfl
theorem setLsa (ld : Fin 64) (off : Nat) (data : List Byte) : Statement (.setLsa ld off data) := Nat.le_of_ble_eq_true rfl
theorem getHealthInfo (ld : Fin 64) : Statement (.getHealthInfo ld) := Nat.le_of_ble_eq_true rfl
theorem getAlertConfiguration (ld : Fin 64) : Statement (.getAlertConfiguration ld) := Nat.le_of_ble_eq_true rfl
theorem getShutdownState (ld : Fin 64) : Statement (.getShutdownState ld) := Nat.le_of_ble_eq_true rfl
theorem setShutdownState (ld : Fin 64) (v : Nat) : Statement (.setShutdownState ld v) := Nat.le_of_ble_eq_true rfl
theorem getPoisonList (ld : Fin 64) (dpa len : Nat) : Statement (.getPoisonList ld dpa len) := Nat.le_of_ble_eq_true rfl
theorem injectPoison (ld : Fin 64) (dpa : Nat) : Statement (.injectPoison ld dpa) := Nat.le_of_ble_eq_true rfl
theorem clearPoison (ld : Fin 64) (dpa : Nat) (data : Granule) : Statement (.clearPoison ld dpa data) := Nat.le_of_ble_eq_true rfl
theorem scanMedia (ld : Fin 64) (dpa len : Nat) : Statement (.scanMedia ld dpa len) := Nat.le_of_ble_eq_true rfl
theorem getScanMediaCapabilities (ld : Fin 64) (dpa len : Nat) : Statement (.getScanMediaCapabilities ld dpa len) := Nat.le_of_ble_eq_true rfl
theorem getScanMediaResults (ld : Fin 64) : Statement (.getScanMediaResults ld) := Nat.le_of_ble_eq_true rfl
theorem scanMediaDone (ld : Fin 64) (bad : List Nat) : Statement (.scanMediaDone ld bad) := Nat.le_of_ble_eq_true rfl
theorem mailboxMgmtRequest (ld : Fin 64) (typ : Nat) : Statement (.mailboxMgmtRequest ld typ) := Nat.le_of_ble_eq_true rfl
theorem mailboxUnsupported (ld : Fin 64) (opcode : Nat) : Statement (.mailboxUnsupported ld opcode) := Nat.le_of_ble_eq_true rfl
theorem getLdInfo (link : Fin 16) : Statement (.getLdInfo link) := Nat.le_of_ble_eq_true rfl
theorem getLdAllocations (link : Fin 16) : Statement (.getLdAllocations link) := Nat.le_of_ble_eq_true rfl
theorem getQosStatus (link : Fin 16) : Statement (.getQosStatus link) := Nat.le_of_ble_eq_true rfl
theorem fmApiUnsupported (link : Fin 16) (opcode : Nat) : Statement (.fmApiUnsupported link opcode) := Nat.le_of_ble_eq_true rfl
theorem ethLinkUp (link : Fin 16) : Statement (.ethLinkUp link) := Nat.le_of_ble_eq_true rfl
theorem ethLinkDown (link : Fin 16) : Statement (.ethLinkDown link) := Nat.le_of_ble_eq_true rfl
theorem ethLinkServiceWrite (link : Fin 16) (service : Bool) : Statement (.ethLinkServiceWrite link service) := Nat.le_of_ble_eq_true rfl
theorem arpNdRequest (link : Fin 16) (addr : Nat) : Statement (.arpNdRequest link addr) := Nat.le_of_ble_eq_true rfl
theorem cmReq (f : RxFrame) (addr pkey mtu : Nat) (rc : Bool) (depth psn : Nat) (priv : List Byte) : Statement (.cmReq f addr pkey mtu rc depth psn priv) := Nat.le_of_ble_eq_true rfl
theorem cmRtu (f : RxFrame) (qpn : Nat) : Statement (.cmRtu f qpn) := Nat.le_of_ble_eq_true rfl
theorem cmDreq (f : RxFrame) (qpn : Nat) : Statement (.cmDreq f qpn) := Nat.le_of_ble_eq_true rfl
theorem cmRejRx (f : RxFrame) (qpn : Nat) : Statement (.cmRejRx f qpn) := Nat.le_of_ble_eq_true rfl
theorem cmOtherMad (f : RxFrame) : Statement (.cmOtherMad f) := Nat.le_of_ble_eq_true rfl
theorem rdmaReadReq (f : RxFrame) (qpn pkey psn va rkey len : Nat) (sram : List Nat) : Statement (.rdmaReadReq f qpn pkey psn va rkey len sram) := Nat.le_of_ble_eq_true rfl
theorem rdmaWritePacket (f : RxFrame) (qpn pkey psn : Nat) (first last : Bool) (va rkey len : Nat) (bytes : List Byte) (sram : List Nat) : Statement (.rdmaWritePacket f qpn pkey psn first last va rkey len bytes sram) := Nat.le_of_ble_eq_true rfl
theorem rdmaWriteAck (qpn : Nat) : Statement (.rdmaWriteAck qpn) := Nat.le_of_ble_eq_true rfl
theorem rdmaAtomic (f : RxFrame) (qpn pkey psn : Nat) (swap : Bool) (va rkey add compare : Nat) (sram : List Nat) : Statement (.rdmaAtomic f qpn pkey psn swap va rkey add compare sram) := Nat.le_of_ble_eq_true rfl
theorem rdmaUnsupportedOpcode (f : RxFrame) (qpn pkey psn : Nat) : Statement (.rdmaUnsupportedOpcode f qpn pkey psn) := Nat.le_of_ble_eq_true rfl
theorem cqpSend (f : RxFrame) (qpn pkey psn len : Nat) (ds : List (BitVec 512)) : Statement (.cqpSend f qpn pkey psn len ds) := Nat.le_of_ble_eq_true rfl
theorem rdmaAckRx (f : RxFrame) (qpn psn : Nat) (nak : Bool) : Statement (.rdmaAckRx f qpn psn nak) := Nat.le_of_ble_eq_true rfl
theorem cqpRnrNakRx (f : RxFrame) (qpn psn : Nat) : Statement (.cqpRnrNakRx f qpn psn) := Nat.le_of_ble_eq_true rfl
theorem cqpRnrRetry (qpn : Nat) : Statement (.cqpRnrRetry qpn) := Nat.le_of_ble_eq_true rfl
theorem completionSendFlush (qpn : Nat) : Statement (.completionSendFlush qpn) := Nat.le_of_ble_eq_true rfl
theorem qpContextFetchDone (qpn : Nat) : Statement (.qpContextFetchDone qpn) := Nat.le_of_ble_eq_true rfl
theorem qpCachePressureCheck : Statement .qpCachePressureCheck := Nat.le_of_ble_eq_true rfl
theorem hltHolddownExpiry (gid : Nat) : Statement (.hltHolddownExpiry gid) := Nat.le_of_ble_eq_true rfl
theorem hltMoveDrainDone (gid : Nat) : Statement (.hltMoveDrainDone gid) := Nat.le_of_ble_eq_true rfl
theorem hltFlapClear (gid : Nat) : Statement (.hltFlapClear gid) := Nat.le_of_ble_eq_true rfl
theorem hltEntryAgeOut (gid : Nat) : Statement (.hltEntryAgeOut gid) := Nat.le_of_ble_eq_true rfl
theorem cnpRx (f : RxFrame) (qpn : Nat) : Statement (.cnpRx f qpn) := Nat.le_of_ble_eq_true rfl
theorem cnpRateRecovery (qpn : Nat) : Statement (.cnpRateRecovery qpn) := Nat.le_of_ble_eq_true rfl
theorem sluiceCnpTimer : Statement .sluiceCnpTimer := Nat.le_of_ble_eq_true rfl
theorem pfcFrameRx (link : Fin 16) (pause : Bool) : Statement (.pfcFrameRx link pause) := Nat.le_of_ble_eq_true rfl
theorem pfcPauseLong (link : Fin 16) : Statement (.pfcPauseLong link) := Nat.le_of_ble_eq_true rfl
theorem ringEnable (ld r : Fin 64) (v : Nat) : Statement (.ringEnable ld r v) := Nat.le_of_ble_eq_true rfl
theorem ringDisable (ld r : Fin 64) : Statement (.ringDisable ld r) := Nat.le_of_ble_eq_true rfl
theorem ringDisabled (ld r : Fin 64) : Statement (.ringDisabled ld r) := Nat.le_of_ble_eq_true rfl
theorem pollerTick (ld r : Fin 64) : Statement (.pollerTick ld r) := Nat.le_of_ble_eq_true rfl
theorem ringFetchData (ld r : Fin 64) (ds : List (BitVec 512)) : Statement (.ringFetchData ld r ds) := Nat.le_of_ble_eq_true rfl
theorem multipartAssembled (q seq : Nat) : Statement (.multipartAssembled q seq) := Nat.le_of_ble_eq_true rfl
theorem cqHeadRecheck (ld r : Fin 64) : Statement (.cqHeadRecheck ld r) := Nat.le_of_ble_eq_true rfl
theorem cqFullTimeout (ld r : Fin 64) : Statement (.cqFullTimeout ld r) := Nat.le_of_ble_eq_true rfl
theorem ringIdleSleep (ld r : Fin 64) (tail : Nat) : Statement (.ringIdleSleep ld r tail) := Nat.le_of_ble_eq_true rfl
theorem ringWake (ld : Fin 64) (mask : BitVec 64) : Statement (.ringWake ld mask) := Nat.le_of_ble_eq_true rfl
theorem ringRestart (ld r : Fin 64) : Statement (.ringRestart ld r) := Nat.le_of_ble_eq_true rfl
theorem irqCoalesceExpiry (ld r : Fin 64) (notice : Bool) : Statement (.irqCoalesceExpiry ld r notice) := Nat.le_of_ble_eq_true rfl
theorem copy (q seq : Nat) (sram : List Nat) : Statement (.copy q seq sram) := Nat.le_of_ble_eq_true rfl
theorem zero (q seq : Nat) : Statement (.zero q seq) := Nat.le_of_ble_eq_true rfl
theorem copyZeroResume (q seq : Nat) (sram : List Nat) : Statement (.copyZeroResume q seq sram) := Nat.le_of_ble_eq_true rfl
theorem copyZeroDone (q seq : Nat) : Statement (.copyZeroDone q seq) := Nat.le_of_ble_eq_true rfl
theorem hazardHoldRelease (q seq : Nat) (sram : List Nat) : Statement (.hazardHoldRelease q seq sram) := Nat.le_of_ble_eq_true rfl
theorem wait (q seq : Nat) : Statement (.wait q seq) := Nat.le_of_ble_eq_true rfl
theorem waitSatisfied (q seq : Nat) : Statement (.waitSatisfied q seq) := Nat.le_of_ble_eq_true rfl
theorem waitTimeout (q seq : Nat) : Statement (.waitTimeout q seq) := Nat.le_of_ble_eq_true rfl
theorem abort (q seq : Nat) : Statement (.abort q seq) := Nat.le_of_ble_eq_true rfl
theorem regionAttach (q seq : Nat) : Statement (.regionAttach q seq) := Nat.le_of_ble_eq_true rfl
theorem regionAttachComplete (q seq : Nat) : Statement (.regionAttachComplete q seq) := Nat.le_of_ble_eq_true rfl
theorem regionDetach (q seq : Nat) : Statement (.regionDetach q seq) := Nat.le_of_ble_eq_true rfl
theorem regionDetachComplete (q seq : Nat) : Statement (.regionDetachComplete q seq) := Nat.le_of_ble_eq_true rfl
theorem regionRelease (idx : Fin 8192) : Statement (.regionRelease idx) := Nat.le_of_ble_eq_true rfl
theorem regionInfo (q seq : Nat) : Statement (.regionInfo q seq) := Nat.le_of_ble_eq_true rfl
theorem keyProvision (q seq : Nat) (tagOk : Bool) : Statement (.keyProvision q seq tagOk) := Nat.le_of_ble_eq_true rfl
theorem keyRotate (q seq : Nat) : Statement (.keyRotate q seq) := Nat.le_of_ble_eq_true rfl
theorem streamDeclare (q seq : Nat) (bad : List (Nat × Nat)) : Statement (.streamDeclare q seq bad) := Nat.le_of_ble_eq_true rfl
theorem streamAdvance (q seq : Nat) : Statement (.streamAdvance q seq) := Nat.le_of_ble_eq_true rfl
theorem streamRetire (q seq : Nat) : Statement (.streamRetire q seq) := Nat.le_of_ble_eq_true rfl
theorem guest (q seq : Nat) : Statement (.guest q seq) := Nat.le_of_ble_eq_true rfl
theorem mgmtOperation (q seq : Nat) : Statement (.mgmtOperation q seq) := Nat.le_of_ble_eq_true rfl
theorem tenantCreate (t : Fin 4096) : Statement (.tenantCreate t) := Nat.le_of_ble_eq_true rfl
theorem tenantRemove (t : Fin 4096) : Statement (.tenantRemove t) := Nat.le_of_ble_eq_true rfl
theorem bindingWrite (pkeyMap : Bool) (n v : Nat) : Statement (.bindingWrite pkeyMap n v) := Nat.le_of_ble_eq_true rfl
theorem haSliceSleep (home : Fin 64) : Statement (.haSliceSleep home) := Nat.le_of_ble_eq_true rfl
theorem victimWriteAck (line : Nat) : Statement (.victimWriteAck line) := Nat.le_of_ble_eq_true rfl
theorem haRemapRequest (home : Fin 64) (phys : Fin 128) : Statement (.haRemapRequest home phys) := Nat.le_of_ble_eq_true rfl
theorem haSliceBistDone (slice : Fin 66) (pass : Bool) : Statement (.haSliceBistDone slice pass) := Nat.le_of_ble_eq_true rfl
theorem haSliceBistTimeout (slice : Fin 66) : Statement (.haSliceBistTimeout slice) := Nat.le_of_ble_eq_true rfl
theorem epochBoundary : Statement .epochBoundary := Nat.le_of_ble_eq_true rfl
theorem latencyTracerClear : Statement .latencyTracerClear := Nat.le_of_ble_eq_true rfl
theorem fillLanded (page : Nat) (bad : List Nat) (ecc : DeepEcc) (verdicts : List (Nat × LineVerdict)) (stalls : List (Nat × List Nat)) (memory crypto : Nat) : Statement (.fillLanded page bad ecc verdicts stalls memory crypto) := Nat.le_of_ble_eq_true rfl
theorem stallCeilingExpiry (id : Nat) (parts : List Nat) : Statement (.stallCeilingExpiry id parts) := Nat.le_of_ble_eq_true rfl
theorem extentDrop : Statement .extentDrop := Nat.le_of_ble_eq_true rfl
theorem frameWaitTimeout : Statement .frameWaitTimeout := Nat.le_of_ble_eq_true rfl
theorem writebackCapture (page : Nat) : Statement (.writebackCapture page) := Nat.le_of_ble_eq_true rfl
theorem writebackProgramDone (page : Nat) : Statement (.writebackProgramDone page) := Nat.le_of_ble_eq_true rfl
theorem programFailed (page : Nat) : Statement (.programFailed page) := Nat.le_of_ble_eq_true rfl
theorem journalBlockWrite : Statement .journalBlockWrite := Nat.le_of_ble_eq_true rfl
theorem tablePageWrite (tp : Nat) : Statement (.tablePageWrite tp) := Nat.le_of_ble_eq_true rfl
theorem gcVictimRelocate : Statement .gcVictimRelocate := Nat.le_of_ble_eq_true rfl
theorem wearLevelRelocate : Statement .wearLevelRelocate := Nat.le_of_ble_eq_true rfl
theorem streamStatusWrite (j : Fin 1024) : Statement (.streamStatusWrite j) := Nat.le_of_ble_eq_true rfl
theorem freeboardRecompute : Statement .freeboardRecompute := Nat.le_of_ble_eq_true rfl
theorem sluiceShareRecompute : Statement .sluiceShareRecompute := Nat.le_of_ble_eq_true rfl
theorem thermalCapStep : Statement .thermalCapStep := Nat.le_of_ble_eq_true rfl
theorem bankIdRead (record : BitVec 2048) (crcOk : Bool) : Statement (.bankIdRead record crcOk) := Nat.le_of_ble_eq_true rfl
theorem assayDue : Statement .assayDue := Nat.le_of_ble_eq_true rfl
theorem assayNow : Statement .assayNow := Nat.le_of_ble_eq_true rfl
theorem assayPrepareReady : Statement .assayPrepareReady := Nat.le_of_ble_eq_true rfl
theorem assayPrepareTimeout : Statement .assayPrepareTimeout := Nat.le_of_ble_eq_true rfl
theorem assayEsrMeasure : Statement .assayEsrMeasure := Nat.le_of_ble_eq_true rfl
theorem assayDischargeEnd : Statement .assayDischargeEnd := Nat.le_of_ble_eq_true rfl
theorem assayDischargeTimeout : Statement .assayDischargeTimeout := Nat.le_of_ble_eq_true rfl
theorem assayRelaxEnd : Statement .assayRelaxEnd := Nat.le_of_ble_eq_true rfl
theorem assayRechargeDone : Statement .assayRechargeDone := Nat.le_of_ble_eq_true rfl
theorem assayRechargeTimeout : Statement .assayRechargeTimeout := Nat.le_of_ble_eq_true rfl
theorem assayRetryDue : Statement .assayRetryDue := Nat.le_of_ble_eq_true rfl
theorem pfailNAssert : Statement .pfailNAssert := Nat.le_of_ble_eq_true rfl
theorem pfailNDeassert : Statement .pfailNDeassert := Nat.le_of_ble_eq_true rfl
theorem pfailFilterExpiry : Statement .pfailFilterExpiry := Nat.le_of_ble_eq_true rfl
theorem spillwaySeal (us energy : Nat) : Statement (.spillwaySeal us energy) := Nat.le_of_ble_eq_true rfl
theorem saveRestartWaitEnd : Statement .saveRestartWaitEnd := Nat.le_of_ble_eq_true rfl
theorem restorePhaseDone (repaired ignored : Nat) (damage : List (Nat × Nat)) (gap : Bool) (bad : List (Nat × LineVerdict)) : Statement (.restorePhaseDone repaired ignored damage gap bad) := Nat.le_of_ble_eq_true rfl
theorem restoreExit : Statement .restoreExit := Nat.le_of_ble_eq_true rfl
theorem lineDataArrival (line : Nat) (verdict : LineVerdict) (lanes : Fin 3) (ecc : List EccNote) (copyBad : List Nat) (memory crypto : Nat) : Statement (.lineDataArrival line verdict lanes ecc copyBad memory crypto) := Nat.le_of_ble_eq_true rfl
theorem cpIdleSleep (home : Fin 64) : Statement (.cpIdleSleep home) := Nat.le_of_ble_eq_true rfl
theorem cpRemapRequest (home : Fin 64) (phys : Fin 128) : Statement (.cpRemapRequest home phys) := Nat.le_of_ble_eq_true rfl
theorem cpSelfTestDone (pipe : Fin 68) (pass : Bool) : Statement (.cpSelfTestDone pipe pass) := Nat.le_of_ble_eq_true rfl
theorem cpSelfTestTimeout (pipe : Fin 68) : Statement (.cpSelfTestTimeout pipe) := Nat.le_of_ble_eq_true rfl
theorem ksLoad : Statement .ksLoad := Nat.le_of_ble_eq_true rfl
theorem ksDestroy : Statement .ksDestroy := Nat.le_of_ble_eq_true rfl
theorem ksCommandDone : Statement .ksCommandDone := Nat.le_of_ble_eq_true rfl
theorem keyStoreUpdate : Statement .keyStoreUpdate := Nat.le_of_ble_eq_true rfl
theorem keyStoreUpdateDone : Statement .keyStoreUpdateDone := Nat.le_of_ble_eq_true rfl
theorem rotationSweepExtent (idx : Fin 8192) (bad : List (Nat × LineVerdict)) : Statement (.rotationSweepExtent idx bad) := Nat.le_of_ble_eq_true rfl
theorem flipMaskArm (f : Fin 4) (read : Option Bool) : Statement (.flipMaskArm f read) := Nat.le_of_ble_eq_true rfl
theorem dimmTempRead (c : Fin 16) (d : Fin 2) (reading : Option (BitVec 16)) : Statement (.dimmTempRead c d reading) := Nat.le_of_ble_eq_true rfl
theorem channelTrainingDone (c : Fin 16) (lanes : List (Nat × Nat × Nat × Nat × Nat)) (ppr : List Nat) (decoderOk : Bool) : Statement (.channelTrainingDone c lanes ppr decoderOk) := Nat.le_of_ble_eq_true rfl
theorem channelTrainingTimeout (c : Fin 16) (step : Fin 8) : Statement (.channelTrainingTimeout c step) := Nat.le_of_ble_eq_true rfl
theorem zqCalibration (c : Fin 16) (rank : Fin 8) : Statement (.zqCalibration c rank) := Nat.le_of_ble_eq_true rfl
theorem dqsDriftTrack (c : Fin 16) (drift : List (Fin 20 × Int)) : Statement (.dqsDriftTrack c drift) := Nat.le_of_ble_eq_true rfl
theorem refreshDue (c : Fin 16) (rank : Fin 8) : Statement (.refreshDue c rank) := Nat.le_of_ble_eq_true rfl
theorem rankPowerDownEntry (c : Fin 16) (rank : Fin 8) : Statement (.rankPowerDownEntry c rank) := Nat.le_of_ble_eq_true rfl
theorem rankSelfRefreshEntry (c : Fin 16) (rank : Fin 8) : Statement (.rankSelfRefreshEntry c rank) := Nat.le_of_ble_eq_true rfl
theorem dramAlert (c : Fin 16) (replays : Fin 4) (ok : Bool) (reads writes : List Nat) : Statement (.dramAlert c replays ok reads writes) := Nat.le_of_ble_eq_true rfl
theorem dramPatrolRead (c : Fin 16) (line : Option Nat) (loc : List Nat) (bad : Bool) (ecc : List EccNote) (copyBad : List Nat) (pct : Fin 101) (done : Bool) : Statement (.dramPatrolRead c line loc bad ecc copyBad pct done) := Nat.le_of_ble_eq_true rfl
theorem channelServiceWrite (c : Fin 16) (service : Bool) : Statement (.channelServiceWrite c service) := Nat.le_of_ble_eq_true rfl
theorem channelDrainPageCopy (c : Fin 16) (page : Option Nat) : Statement (.channelDrainPageCopy c page) := Nat.le_of_ble_eq_true rfl
theorem channelFault (c : Fin 16) : Statement (.channelFault c) := Nat.le_of_ble_eq_true rfl
theorem slotPresenceFiltered (slot : Fin 20) (present : Bool) (record : Nat) (crcOk : Bool) : Statement (.slotPresenceFiltered slot present record crcOk) := Nat.le_of_ble_eq_true rfl
theorem slotPowerAttempt (slot : Fin 20) : Statement (.slotPowerAttempt slot) := Nat.le_of_ble_eq_true rfl
theorem slotPgTimeout (slot : Fin 20) : Statement (.slotPgTimeout slot) := Nat.le_of_ble_eq_true rfl
theorem slotFault (slot : Fin 20) : Statement (.slotFault slot) := Nat.le_of_ble_eq_true rfl
theorem slotPowerRetry (slot : Fin 20) : Statement (.slotPowerRetry slot) := Nat.le_of_ble_eq_true rfl
theorem slotSettleDone (slot : Fin 20) (geometry : Bool) (factoryBad : List Nat) : Statement (.slotSettleDone slot geometry factoryBad) := Nat.le_of_ble_eq_true rfl
theorem slotClearFault (slot : Fin 20) : Statement (.slotClearFault slot) := Nat.le_of_ble_eq_true rfl
theorem slotFailNow (slot : Fin 20) : Statement (.slotFailNow slot) := Nat.le_of_ble_eq_true rfl
theorem onfiReadyTimeout (slot : Fin 20) : Statement (.onfiReadyTimeout slot) := Nat.le_of_ble_eq_true rfl
theorem nandEraseDone (what : EraseWhat) (failed : List Nat) : Statement (.nandEraseDone what failed) := Nat.le_of_ble_eq_true rfl
theorem noGroupRetry : Statement .noGroupRetry := Nat.le_of_ble_eq_true rfl
theorem rebuildStripe (bad : List Nat) (ecc : DeepEcc) (progFail : Bool) : Statement (.rebuildStripe bad ecc progFail) := Nat.le_of_ble_eq_true rfl
theorem repairReplyTimeout (id : Nat) : Statement (.repairReplyTimeout id) := Nat.le_of_ble_eq_true rfl
theorem flashPatrolStripe (bad : List Nat) (ecc : DeepEcc) (parity : Option (Option Nat)) (marginal : Bool) (engine : Option (Fin 2)) : Statement (.flashPatrolStripe bad ecc parity marginal engine) := Nat.le_of_ble_eq_true rfl
theorem flashPatrolRateUpdate : Statement .flashPatrolRateUpdate := Nat.le_of_ble_eq_true rfl
theorem moduleTempRead (slot : Fin 20) (reading : Option (BitVec 16)) : Statement (.moduleTempRead slot reading) := Nat.le_of_ble_eq_true rfl
theorem pathTrainingDone (p : Fin 2) : Statement (.pathTrainingDone p) := Nat.le_of_ble_eq_true rfl
theorem pathTrainingTimeout (p : Fin 2) : Statement (.pathTrainingTimeout p) := Nat.le_of_ble_eq_true rfl
theorem pathRetrainDue (p : Fin 2) : Statement (.pathRetrainDue p) := Nat.le_of_ble_eq_true rfl
theorem pathLinkLoss (p : Fin 2) (fec : Fec) : Statement (.pathLinkLoss p fec) := Nat.le_of_ble_eq_true rfl
theorem cwPathServiceWrite (p : Fin 2) (service : Bool) : Statement (.cwPathServiceWrite p service) := Nat.le_of_ble_eq_true rfl
theorem linesFrameRx (m : MirrorRx) (es : List LineEntry) (win : Option WinRec) : Statement (.linesFrameRx m es win) := Nat.le_of_ble_eq_true rfl
theorem linesBgFrameRx (m : MirrorRx) (es : List LineEntry) : Statement (.linesBgFrameRx m es) := Nat.le_of_ble_eq_true rfl
theorem pageMarkRx (m : MirrorRx) (es : List (Nat × Bool)) : Statement (.pageMarkRx m es) := Nat.le_of_ble_eq_true rfl
theorem horizonFrameRx (m : MirrorRx) (es : List (Nat × Nat)) : Statement (.horizonFrameRx m es) := Nat.le_of_ble_eq_true rfl
theorem recordFrameRx (m : MirrorRx) (kind idx : Nat) (words : List Nat) : Statement (.recordFrameRx m kind idx words) := Nat.le_of_ble_eq_true rfl
theorem recordCommitRx (m : MirrorRx) (seqs : List Nat) : Statement (.recordCommitRx m seqs) := Nat.le_of_ble_eq_true rfl
theorem keyGenEntryRx (m : MirrorRx) (side gen tenant midx salt : Nat) : Statement (.keyGenEntryRx m side gen tenant midx salt) := Nat.le_of_ble_eq_true rfl
theorem keyMasterRx (m : MirrorRx) (tenant midx serial master : Nat) : Statement (.keyMasterRx m tenant midx serial master) := Nat.le_of_ble_eq_true rfl
theorem keyDestroyRx (m : MirrorRx) (tenantKey : Bool) (a b : Nat) : Statement (.keyDestroyRx m tenantKey a b) := Nat.le_of_ble_eq_true rfl
theorem repairReqRx (m : MirrorRx) (id page : Nat) : Statement (.repairReqRx m id page) := Nat.le_of_ble_eq_true rfl
theorem assayStateRx (m : MirrorRx) (claim : Bool) : Statement (.assayStateRx m claim) := Nat.le_of_ble_eq_true rfl
theorem drainBeginRx (m : MirrorRx) : Statement (.drainBeginRx m) := Nat.le_of_ble_eq_true rfl
theorem catchupBeginRx (m : MirrorRx) (full0 full1 : Bool) : Statement (.catchupBeginRx m full0 full1) := Nat.le_of_ble_eq_true rfl
theorem catchupDoneRx (m : MirrorRx) : Statement (.catchupDoneRx m) := Nat.le_of_ble_eq_true rfl
theorem temperSetRx (m : MirrorRx) (temper : Nat) : Statement (.temperSetRx m temper) := Nat.le_of_ble_eq_true rfl
theorem unpairRx (m : MirrorRx) : Statement (.unpairRx m) := Nat.le_of_ble_eq_true rfl
theorem repairDoneRx (m : MirrorRx) (id status : Nat) : Statement (.repairDoneRx m id status) := Nat.le_of_ble_eq_true rfl
theorem keyCommittedRx (m : MirrorRx) (seq : Nat) : Statement (.keyCommittedRx m seq) := Nat.le_of_ble_eq_true rfl
theorem controlFrameRx (c : ControlRx) : Statement (.controlFrameRx c) := Nat.le_of_ble_eq_true rfl
theorem helloRx (p : Fin 2) (fchk : Bool) (fec : Fec) (h : Hello) : Statement (.helloRx p fchk fec h) := Nat.le_of_ble_eq_true rfl
theorem nakTimer : Statement .nakTimer := Nat.le_of_ble_eq_true rfl
theorem retransmitTimer (seq : Nat) : Statement (.retransmitTimer seq) := Nat.le_of_ble_eq_true rfl
theorem controlSendTimer (p : Fin 2) : Statement (.controlSendTimer p) := Nat.le_of_ble_eq_true rfl
theorem helloSendTimer : Statement .helloSendTimer := Nat.le_of_ble_eq_true rfl
theorem rekeyDue : Statement .rekeyDue := Nat.le_of_ble_eq_true rfl
theorem cwRekey : Statement .cwRekey := Nat.le_of_ble_eq_true rfl
theorem oldKeyEpochExpiry : Statement .oldKeyEpochExpiry := Nat.le_of_ble_eq_true rfl
theorem heartbeatTimer : Statement .heartbeatTimer := Nat.le_of_ble_eq_true rfl
theorem takeoverReqResend : Statement .takeoverReqResend := Nat.le_of_ble_eq_true rfl
theorem witnessStatusRx (f : WitFrame) : Statement (.witnessStatusRx f) := Nat.le_of_ble_eq_true rfl
theorem witnessGrantRx (f : WitFrame) (scans : List (Nat × Nat × Nat)) : Statement (.witnessGrantRx f scans) := Nat.le_of_ble_eq_true rfl
theorem witnessDenyRx (f : WitFrame) : Statement (.witnessDenyRx f) := Nat.le_of_ble_eq_true rfl
theorem witnessFenceRx (f : WitFrame) : Statement (.witnessFenceRx f) := Nat.le_of_ble_eq_true rfl
theorem witnessContactTimeout : Statement .witnessContactTimeout := Nat.le_of_ble_eq_true rfl
theorem twinContactTimeout : Statement .twinContactTimeout := Nat.le_of_ble_eq_true rfl
theorem fenceNAssert : Statement .fenceNAssert := Nat.le_of_ble_eq_true rfl
theorem fenceNDeassert : Statement .fenceNDeassert := Nat.le_of_ble_eq_true rfl
theorem checkpointDue (late : Bool) (us : Nat) : Statement (.checkpointDue late us) := Nat.le_of_ble_eq_true rfl
theorem cwDrain : Statement .cwDrain := Nat.le_of_ble_eq_true rfl
theorem drainCutoverReady (us : Nat) : Statement (.drainCutoverReady us) := Nat.le_of_ble_eq_true rfl
theorem drainReleaseTimeout : Statement .drainReleaseTimeout := Nat.le_of_ble_eq_true rfl
theorem cwUnpair : Statement .cwUnpair := Nat.le_of_ble_eq_true rfl
theorem cwReplaceAllow : Statement .cwReplaceAllow := Nat.le_of_ble_eq_true rfl
theorem cwPairAllowNew : Statement .cwPairAllowNew := Nat.le_of_ble_eq_true rfl
theorem pairAllowExpiry (replace : Bool) : Statement (.pairAllowExpiry replace) := Nat.le_of_ble_eq_true rfl
theorem catchupCopyExtent (x : Nat) : Statement (.catchupCopyExtent x) := Nat.le_of_ble_eq_true rfl
theorem catchupComplete : Statement .catchupComplete := Nat.le_of_ble_eq_true rfl
theorem handbackStart (us : Nat) : Statement (.handbackStart us) := Nat.le_of_ble_eq_true rfl
theorem kerupLinkUp (k : Fin 13) (width repaired spares : Nat) : Statement (.kerupLinkUp k width repaired spares) := Nat.le_of_ble_eq_true rfl
theorem kerupLinkDown (k : Fin 13) : Statement (.kerupLinkDown k) := Nat.le_of_ble_eq_true rfl
theorem guestRdGran (p : Fin 2) (tag handle grant addr : Nat) (sramBad : Bool) : Statement (.guestRdGran p tag handle grant addr sramBad) := Nat.le_of_ble_eq_true rfl
theorem guestRdLine (p : Fin 2) (tag handle grant addr : Nat) (sramBad : Bool) : Statement (.guestRdLine p tag handle grant addr sramBad) := Nat.le_of_ble_eq_true rfl
theorem guestRdHint (p : Fin 2) (tag handle grant addr : Nat) : Statement (.guestRdHint p tag handle grant addr) := Nat.le_of_ble_eq_true rfl
theorem guestWrPtl (p : Fin 2) (tag handle grant addr : Nat) (mask : BitVec 64) (data : Granule) (sramBad : Bool) : Statement (.guestWrPtl p tag handle grant addr mask data sramBad) := Nat.le_of_ble_eq_true rfl
theorem guestWrGran (p : Fin 2) (tag handle grant addr : Nat) (data : Granule) (sramBad : Bool) : Statement (.guestWrGran p tag handle grant addr data sramBad) := Nat.le_of_ble_eq_true rfl
theorem guestWrLine (p : Fin 2) (tag handle grant addr : Nat) (data : LineData) : Statement (.guestWrLine p tag handle grant addr data) := Nat.le_of_ble_eq_true rfl
theorem guestRegRd (p : Fin 2) (tag off : Nat) : Statement (.guestRegRd p tag off) := Nat.le_of_ble_eq_true rfl
theorem guestRegWr (p : Fin 2) (tag off : Nat) (value : BitVec 32) : Statement (.guestRegWr p tag off value) := Nat.le_of_ble_eq_true rfl
theorem gqTakenRx (p : Fin 2) (handle : Nat) : Statement (.gqTakenRx p handle) := Nat.le_of_ble_eq_true rfl
theorem gqDoneRx (p : Fin 2) (handle code ra rb : Nat) : Statement (.gqDoneRx p handle code ra rb) := Nat.le_of_ble_eq_true rfl
theorem grantAckRx (p : Fin 2) (grant : Fin 256) : Statement (.grantAckRx p grant) := Nat.le_of_ble_eq_true rfl
theorem echoRspRx (p : Fin 2) (pattern : BitVec 64) : Statement (.echoRspRx p pattern) := Nat.le_of_ble_eq_true rfl
theorem guestCmpOkRx (p : Fin 2) (tag : Nat) : Statement (.guestCmpOkRx p tag) := Nat.le_of_ble_eq_true rfl
theorem guestCmpErrRx (p : Fin 2) (tag code : Nat) : Statement (.guestCmpErrRx p tag code) := Nat.le_of_ble_eq_true rfl
theorem guestRegDataRx (p : Fin 2) (tag : Nat) (value : BitVec 32) : Statement (.guestRegDataRx p tag value) := Nat.le_of_ble_eq_true rfl
theorem gqSubmitDispatch (q : Nat) : Statement (.gqSubmitDispatch q) := Nat.le_of_ble_eq_true rfl
theorem kgGrantWrite (grant : Fin 256) (word : Fin 3) (value : BitVec 32) : Statement (.kgGrantWrite grant word value) := Nat.le_of_ble_eq_true rfl
theorem grantRevoke (grant : Fin 256) : Statement (.grantRevoke grant) := Nat.le_of_ble_eq_true rfl
theorem grantRevokedSend (grant : Fin 256) : Statement (.grantRevokedSend grant) := Nat.le_of_ble_eq_true rfl
theorem grantAckTimeout (grant : Fin 256) : Statement (.grantAckTimeout grant) := Nat.le_of_ble_eq_true rfl
theorem gqTimeout (handle : Nat) : Statement (.gqTimeout handle) := Nat.le_of_ble_eq_true rfl
theorem gErrNfAssert : Statement .gErrNfAssert := Nat.le_of_ble_eq_true rfl
theorem gErrFAssert : Statement .gErrFAssert := Nat.le_of_ble_eq_true rfl
theorem guestRefclkStable : Statement .guestRefclkStable := Nat.le_of_ble_eq_true rfl
theorem gReadyAssert : Statement .gReadyAssert := Nat.le_of_ble_eq_true rfl
theorem guestBringupTimeout : Statement .guestBringupTimeout := Nat.le_of_ble_eq_true rfl
theorem guestReset : Statement .guestReset := Nat.le_of_ble_eq_true rfl
theorem guestServiceWrite (service : Bool) : Statement (.guestServiceWrite service) := Nat.le_of_ble_eq_true rfl
theorem kerupL1Entry (p : Fin 2) : Statement (.kerupL1Entry p) := Nat.le_of_ble_eq_true rfl
theorem kerupL1Exit (p : Fin 2) : Statement (.kerupL1Exit p) := Nat.le_of_ble_eq_true rfl
theorem kgGregAccess (off : Nat) (write : Bool) (value : BitVec 32) : Statement (.kgGregAccess off write value) := Nat.le_of_ble_eq_true rfl
theorem kgGregTimeout (off : Nat) : Statement (.kgGregTimeout off) := Nat.le_of_ble_eq_true rfl
theorem reeveLockstepFail (failed : List (Fin 3)) : Statement (.reeveLockstepFail failed) := Nat.le_of_ble_eq_true rfl
theorem reeveWatchdogExpiry : Statement .reeveWatchdogExpiry := Nat.le_of_ble_eq_true rfl
theorem rvWdtKick (value : BitVec 32) (corrected : Nat) : Statement (.rvWdtKick value corrected) := Nat.le_of_ble_eq_true rfl
theorem reeveSramUncorrectable (addr : Nat) : Statement (.reeveSramUncorrectable addr) := Nat.le_of_ble_eq_true rfl
theorem reeveBoot (checks : List SlotCheck) : Statement (.reeveBoot checks) := Nat.le_of_ble_eq_true rfl
theorem fwTrialConfirm : Statement .fwTrialConfirm := Nat.le_of_ble_eq_true rfl
theorem fwTrialTimeout : Statement .fwTrialTimeout := Nat.le_of_ble_eq_true rfl
theorem flashUnlockWrite (bank : Fin 4) (off : Nat) (value : Byte) : Statement (.flashUnlockWrite bank off value) := Nat.le_of_ble_eq_true rfl
theorem programWord (addr : Nat) (value : BitVec 32) : Statement (.programWord addr value) := Nat.le_of_ble_eq_true rfl
theorem programRow (addr : Nat) (value : BitVec 32) : Statement (.programRow addr value) := Nat.le_of_ble_eq_true rfl
theorem eraseSector (addr : Nat) (value : BitVec 32) : Statement (.eraseSector addr value) := Nat.le_of_ble_eq_true rfl
theorem eraseBlock (addr : Nat) (value : BitVec 32) : Statement (.eraseBlock addr value) := Nat.le_of_ble_eq_true rfl
theorem flashClearStatus (bank : Fin 4) : Statement (.flashClearStatus bank) := Nat.le_of_ble_eq_true rfl
theorem flashReset (bank : Fin 4) : Statement (.flashReset bank) := Nat.le_of_ble_eq_true rfl
theorem flashOpDone (bank : Fin 4) (ok : Bool) : Statement (.flashOpDone bank ok) := Nat.le_of_ble_eq_true rfl
theorem flashWindowRead (addr : Nat) (ecc : EccVerdict) : Statement (.flashWindowRead addr ecc) := Nat.le_of_ble_eq_true rfl
theorem readoutRaise (path : MgmtPath) : Statement (.readoutRaise path) := Nat.le_of_ble_eq_true rfl
theorem readoutLowerArm (path : MgmtPath) : Statement (.readoutLowerArm path) := Nat.le_of_ble_eq_true rfl
theorem readoutLowerConfirm (path : MgmtPath) (challenge : Nat) : Statement (.readoutLowerConfirm path challenge) := Nat.le_of_ble_eq_true rfl
theorem readoutFinalArm (path : MgmtPath) : Statement (.readoutFinalArm path) := Nat.le_of_ble_eq_true rfl
theorem readoutFinalConfirm (path : MgmtPath) (challenge : Nat) : Statement (.readoutFinalConfirm path challenge) := Nat.le_of_ble_eq_true rfl
theorem armExpiry : Statement .armExpiry := Nat.le_of_ble_eq_true rfl
theorem readoutEraseDone : Statement .readoutEraseDone := Nat.le_of_ble_eq_true rfl
theorem bmcAddressMatch : Statement .bmcAddressMatch := Nat.le_of_ble_eq_true rfl
theorem mctpControlMsg (setEid : Option Nat) : Statement (.mctpControlMsg setEid) := Nat.le_of_ble_eq_true rfl
theorem getTid : Statement .getTid := Nat.le_of_ble_eq_true rfl
theorem getPldmVersion : Statement .getPldmVersion := Nat.le_of_ble_eq_true rfl
theorem getPldmTypes : Statement .getPldmTypes := Nat.le_of_ble_eq_true rfl
theorem getPldmCommands (typ : Nat) : Statement (.getPldmCommands typ) := Nat.le_of_ble_eq_true rfl
theorem getPdrRepositoryInfo : Statement .getPdrRepositoryInfo := Nat.le_of_ble_eq_true rfl
theorem getPdr (n : Nat) : Statement (.getPdr n) := Nat.le_of_ble_eq_true rfl
theorem getSensorReading (sensor : Nat) : Statement (.getSensorReading sensor) := Nat.le_of_ble_eq_true rfl
theorem getStateSensorReadings (sensor : Fin 3) : Statement (.getStateSensorReadings sensor) := Nat.le_of_ble_eq_true rfl
theorem setNumericSensorEnable (sensor : Nat) (on : Bool) : Statement (.setNumericSensorEnable sensor on) := Nat.le_of_ble_eq_true rfl
theorem setEventReceiver (eid : Option Nat) : Statement (.setEventReceiver eid) := Nat.le_of_ble_eq_true rfl
theorem pollForPlatformEventMessage : Statement .pollForPlatformEventMessage := Nat.le_of_ble_eq_true rfl
theorem queryDeviceIdentifiers : Statement .queryDeviceIdentifiers := Nat.le_of_ble_eq_true rfl
theorem getFirmwareParameters : Statement .getFirmwareParameters := Nat.le_of_ble_eq_true rfl
theorem requestUpdate : Statement .requestUpdate := Nat.le_of_ble_eq_true rfl
theorem passComponentTable : Statement .passComponentTable := Nat.le_of_ble_eq_true rfl
theorem updateComponent (comp : Fin 3) (size : Nat) : Statement (.updateComponent comp size) := Nat.le_of_ble_eq_true rfl
theorem firmwareDataRx (off : Nat) (bytes : List Byte) : Statement (.firmwareDataRx off bytes) := Nat.le_of_ble_eq_true rfl
theorem transferComplete (check : SlotCheck) : Statement (.transferComplete check) := Nat.le_of_ble_eq_true rfl
theorem verifyComplete : Statement .verifyComplete := Nat.le_of_ble_eq_true rfl
theorem applyComplete : Statement .applyComplete := Nat.le_of_ble_eq_true rfl
theorem activateFirmware : Statement .activateFirmware := Nat.le_of_ble_eq_true rfl
theorem getStatus : Statement .getStatus := Nat.le_of_ble_eq_true rfl
theorem cancelUpdateComponent : Statement .cancelUpdateComponent := Nat.le_of_ble_eq_true rfl
theorem cancelUpdate : Statement .cancelUpdate := Nat.le_of_ble_eq_true rfl
theorem pldmUnsupported (typ cmd : Nat) : Statement (.pldmUnsupported typ cmd) := Nat.le_of_ble_eq_true rfl
theorem spdmGetVersion (t : Transport) : Statement (.spdmGetVersion t) := Nat.le_of_ble_eq_true rfl
theorem spdmGetCapabilities (t : Transport) : Statement (.spdmGetCapabilities t) := Nat.le_of_ble_eq_true rfl
theorem spdmNegotiateAlgorithms (t : Transport) : Statement (.spdmNegotiateAlgorithms t) := Nat.le_of_ble_eq_true rfl
theorem spdmGetDigests (t : Transport) : Statement (.spdmGetDigests t) := Nat.le_of_ble_eq_true rfl
theorem spdmGetCertificate (t : Transport) (slot off len : Nat) : Statement (.spdmGetCertificate t slot off len) := Nat.le_of_ble_eq_true rfl
theorem spdmChallenge (t : Transport) (slot : Nat) : Statement (.spdmChallenge t slot) := Nat.le_of_ble_eq_true rfl
theorem spdmGetMeasurements (t : Transport) (index : Nat) : Statement (.spdmGetMeasurements t index) := Nat.le_of_ble_eq_true rfl
theorem spdmKeyExchange (t : Transport) : Statement (.spdmKeyExchange t) := Nat.le_of_ble_eq_true rfl
theorem spdmFinish (t : Transport) (session : Nat) (ok : Bool) : Statement (.spdmFinish t session ok) := Nat.le_of_ble_eq_true rfl
theorem spdmHeartbeat (t : Transport) (session : Nat) (ok : Bool) : Statement (.spdmHeartbeat t session ok) := Nat.le_of_ble_eq_true rfl
theorem spdmEndSession (t : Transport) (session : Nat) (ok : Bool) : Statement (.spdmEndSession t session ok) := Nat.le_of_ble_eq_true rfl
theorem mgmtStatus (path : MgmtPath) : Statement (.mgmtStatus path) := Nat.le_of_ble_eq_true rfl
theorem mgmtIdentity (path : MgmtPath) : Statement (.mgmtIdentity path) := Nat.le_of_ble_eq_true rfl
theorem mgmtDeviceKey (path : MgmtPath) : Statement (.mgmtDeviceKey path) := Nat.le_of_ble_eq_true rfl
theorem mgmtSensorRead (path : MgmtPath) (channels : List (Fin 256)) : Statement (.mgmtSensorRead path channels) := Nat.le_of_ble_eq_true rfl
theorem mgmtBermRead (path : MgmtPath) (pool count : Nat) : Statement (.mgmtBermRead path pool count) := Nat.le_of_ble_eq_true rfl
theorem mgmtEventRead (path : MgmtPath) (start count : Nat) : Statement (.mgmtEventRead path start count) := Nat.le_of_ble_eq_true rfl
theorem mgmtTenantSet (path : MgmtPath) (tenant state weight regions gib : Nat) : Statement (.mgmtTenantSet path tenant state weight regions gib) := Nat.le_of_ble_eq_true rfl
theorem mgmtBindingSet (path : MgmtPath) (pkeyMap : Bool) (n v : Nat) : Statement (.mgmtBindingSet path pkeyMap n v) := Nat.le_of_ble_eq_true rfl
theorem mgmtGrantSet (path : MgmtPath) (grant w0 w1 w2 : Nat) : Statement (.mgmtGrantSet path grant w0 w1 w2) := Nat.le_of_ble_eq_true rfl
theorem mgmtRegRead (path : MgmtPath) (off : Nat) : Statement (.mgmtRegRead path off) := Nat.le_of_ble_eq_true rfl
theorem mgmtRegWrite (path : MgmtPath) (off v : Nat) : Statement (.mgmtRegWrite path off v) := Nat.le_of_ble_eq_true rfl
theorem mgmtAssayNow (path : MgmtPath) : Statement (.mgmtAssayNow path) := Nat.le_of_ble_eq_true rfl
theorem mgmtPairCmd (path : MgmtPath) (bit : Nat) : Statement (.mgmtPairCmd path bit) := Nat.le_of_ble_eq_true rfl
theorem mgmtService (path : MgmtPath) (off v : Nat) : Statement (.mgmtService path off v) := Nat.le_of_ble_eq_true rfl
theorem mgmtTemperSet (path : MgmtPath) (temper : Nat) : Statement (.mgmtTemperSet path temper) := Nat.le_of_ble_eq_true rfl
theorem groupResetArm (path : MgmtPath) : Statement (.groupResetArm path) := Nat.le_of_ble_eq_true rfl
theorem groupResetConfirm (path : MgmtPath) (challenge : Nat) : Statement (.groupResetConfirm path challenge) := Nat.le_of_ble_eq_true rfl
theorem mgmtUnknownType (path : MgmtPath) (typ : Nat) : Statement (.mgmtUnknownType path typ) := Nat.le_of_ble_eq_true rfl
theorem adcConversion (c : Fin 32) (reading peak : BitVec 24) : Statement (.adcConversion c reading peak) := Nat.le_of_ble_eq_true rfl
theorem adcTrackClear : Statement .adcTrackClear := Nat.le_of_ble_eq_true rfl
theorem errorLineAssert (line : Fin 48) (link : Option (Fin 13)) (word : List (Fin 32 × List Nat)) : Statement (.errorLineAssert line link word) := Nat.le_of_ble_eq_true rfl
theorem wireFaultDetect (pair : ErrPair) : Statement (.wireFaultDetect pair) := Nat.le_of_ble_eq_true rfl
theorem wireFaultPoll (line : Fin 48) (link : Option (Fin 13)) (word : List (Fin 32 × List Nat)) : Statement (.wireFaultPoll line link word) := Nat.le_of_ble_eq_true rfl
theorem sourceConditionEnd (n : Fin 1536) : Statement (.sourceConditionEnd n) := Nat.le_of_ble_eq_true rfl
theorem fcAckWrite (n : BitVec 11) : Statement (.fcAckWrite n) := Nat.le_of_ble_eq_true rfl
theorem fcRaiseWrite (n : BitVec 11) : Statement (.fcRaiseWrite n) := Nat.le_of_ble_eq_true rfl
theorem fcPinClear : Statement .fcPinClear := Nat.le_of_ble_eq_true rfl
theorem eventRecordWrite (cut : Bool) : Statement (.eventRecordWrite cut) := Nat.le_of_ble_eq_true rfl
theorem tokenRefill (code : Fin 1536) : Statement (.tokenRefill code) := Nat.le_of_ble_eq_true rfl
theorem vauxRise (side : Fin 2) (autowake : Bool) (i3cAddr : Fin 4) (fuses : List (Nat × Nat)) (part : Part) : Statement (.vauxRise side autowake i3cAddr fuses part) := Nat.le_of_ble_eq_true rfl
theorem vauxFall : Statement .vauxFall := Nat.le_of_ble_eq_true rfl
theorem aonStartCheck (ok : Bool) : Statement (.aonStartCheck ok) := Nat.le_of_ble_eq_true rfl
theorem aonStartRetry : Statement .aonStartRetry := Nat.le_of_ble_eq_true rfl
theorem aonRegulatorDip : Statement .aonRegulatorDip := Nat.le_of_ble_eq_true rfl
theorem pwrRamp : Statement .pwrRamp := Nat.le_of_ble_eq_true rfl
theorem pwrSleep : Statement .pwrSleep := Nat.le_of_ble_eq_true rfl
theorem pwrShutdown : Statement .pwrShutdown := Nat.le_of_ble_eq_true rfl
theorem pwrRestart : Statement .pwrRestart := Nat.le_of_ble_eq_true rfl
theorem shutdownWritebackDone : Statement .shutdownWritebackDone := Nat.le_of_ble_eq_true rfl
theorem pseqGoAssert : Statement .pseqGoAssert := Nat.le_of_ble_eq_true rfl
theorem goWaitTimeout : Statement .goWaitTimeout := Nat.le_of_ble_eq_true rfl
theorem railPgAssert (rail : Fin 12) : Statement (.railPgAssert rail) := Nat.le_of_ble_eq_true rfl
theorem railPgTimeout (rail : Fin 12) : Statement (.railPgTimeout rail) := Nat.le_of_ble_eq_true rfl
theorem railWindowTimeout (rail : Fin 12) : Statement (.railWindowTimeout rail) := Nat.le_of_ble_eq_true rfl
theorem stepDelayExpiry (rail : Fin 12) : Statement (.stepDelayExpiry rail) := Nat.le_of_ble_eq_true rfl
theorem pllLocked (pll : Fin 13) : Statement (.pllLocked pll) := Nat.le_of_ble_eq_true rfl
theorem pllLockTimeout (pll : Fin 13) : Statement (.pllLockTimeout pll) := Nat.le_of_ble_eq_true rfl
theorem rampdownRailOff (rail : Fin 12) : Statement (.rampdownRailOff rail) := Nat.le_of_ble_eq_true rfl
theorem wakeRetryDelay : Statement .wakeRetryDelay := Nat.le_of_ble_eq_true rfl
theorem moduleDiscoveryStart (modules : List Module) (dimms : List Dimm) (faults : List SramRepair) (checkers : List (Checker × Nat)) (errorLines : List (Fin 48)) : Statement (.moduleDiscoveryStart modules dimms faults checkers errorLines) := Nat.le_of_ble_eq_true rfl
theorem bringupComplete : Statement .bringupComplete := Nat.le_of_ble_eq_true rfl
theorem railPgLoss (rail : Fin 12) : Statement (.railPgLoss rail) := Nat.le_of_ble_eq_true rfl
theorem pmbusPoll (rail : Fin 12) (ok bad : Bool) (mv tenMa : Nat) (temp : BitVec 16) : Statement (.pmbusPoll rail ok bad mv tenMa temp) := Nat.le_of_ble_eq_true rfl
theorem railMarginWrite (rail : Fin 12) (steps : BitVec 4) : Statement (.railMarginWrite rail steps) := Nat.le_of_ble_eq_true rfl
theorem pmbusMarginAck (rail : Fin 12) (ok : Bool) : Statement (.pmbusMarginAck rail ok) := Nat.le_of_ble_eq_true rfl
theorem xtalStable : Statement .xtalStable := Nat.le_of_ble_eq_true rfl
theorem xtalFail : Statement .xtalFail := Nat.le_of_ble_eq_true rfl
theorem pllLockLoss (pll : Fin 13) : Statement (.pllLockLoss pll) := Nat.le_of_ble_eq_true rfl
theorem pllRelock (pll : Fin 13) : Statement (.pllRelock pll) := Nat.le_of_ble_eq_true rfl
theorem pllRelockTimeout (pll : Fin 13) : Statement (.pllRelockTimeout pll) := Nat.le_of_ble_eq_true rfl
theorem flashClockIdleStop (channel : Fin 40) : Statement (.flashClockIdleStop channel) := Nat.le_of_ble_eq_true rfl
theorem aonAlarmExpiry : Statement .aonAlarmExpiry := Nat.le_of_ble_eq_true rfl
theorem junctionSensorRead (c : Fin 16) (reading : BitVec 16) (cause : Fin 4) : Statement (.junctionSensorRead c reading cause) := Nat.le_of_ble_eq_true rfl
theorem thermalTrip (c : Fin 16) : Statement (.thermalTrip c) := Nat.le_of_ble_eq_true rfl
theorem throttleGraceExpiry (rate : Nat) : Statement (.throttleGraceExpiry rate) := Nat.le_of_ble_eq_true rfl
theorem operatingSecondTick : Statement .operatingSecondTick := Nat.le_of_ble_eq_true rfl
theorem bermBucketClose : Statement .bermBucketClose := Nat.le_of_ble_eq_true rfl
theorem bermCommit : Statement .bermCommit := Nat.le_of_ble_eq_true rfl
theorem slotPgAssert (slot : Fin 20) : Statement (.slotPgAssert slot) := Nat.le_of_ble_eq_true rfl
theorem holdoffExpiry : Statement .holdoffExpiry := Nat.le_of_ble_eq_true rfl
theorem ringControlRecordReturn (ld r : Fin 64) (tail head : Nat) : Statement (.ringControlRecordReturn ld r tail head) := Nat.le_of_ble_eq_true rfl
theorem ringReadCompletionTimeout (ld r : Fin 64) : Statement (.ringReadCompletionTimeout ld r) := Nat.le_of_ble_eq_true rfl
theorem flitReplay (link : Fin 16) : Statement (.flitReplay link) := Nat.le_of_ble_eq_true rfl
theorem kerupFlitReplay (k : Fin 13) : Statement (.kerupFlitReplay k) := Nat.le_of_ble_eq_true rfl
theorem fecCodewordUncorrectable (link : Fin 16) : Statement (.fecCodewordUncorrectable link) := Nat.le_of_ble_eq_true rfl
theorem kerupCreditReturn (p : Fin 2) (idle : Bool) (req wdat cmp rdat : Nat) (bad : List Nat) : Statement (.kerupCreditReturn p idle req wdat cmp rdat bad) := Nat.le_of_ble_eq_true rfl
theorem jtagAccess (act : JtagAct) : Statement (.jtagAccess act) := Nat.le_of_ble_eq_true rfl
theorem witnessLinkAligned : Statement .witnessLinkAligned := Nat.le_of_ble_eq_true rfl

end Sys2Proof.Laws.Rows
end

