-- ==== Sys2Proof/Laws/Start.lean ====
section
/-! SUPPORT. What starting an operation does (R175, R177). -/

namespace Sys2Proof.Machine

open Sys2Proof

/-- An operation that may start is handed to its meaning. -/
@[simp] theorem startOp_mayStart {q seq opcode : Nat} {f : OpRec → State → State} {o : OpRec} {s : State}
    (h : s.mayStart q seq opcode = some o) : s.startOp q seq opcode f = f o s := by
  unfold State.mayStart at h
  unfold State.startOp
  cases hq : s.op? q seq with
  | none => simp [hq] at h
  | some p =>
    simp only [hq] at h ⊢
    split at h
    · rename_i hc
      obtain ⟨h1, h2, h3, h4, h5, h6, h7⟩ := hc
      obtain rfl : p = o := by simpa using h
      have a1 : ¬(dOpcode p.desc ≠ opcode ∨ p.phase ≠ .ready ∧ p.phase ≠ .held) := by
        rintro (a | ⟨a, b⟩)
        · exact a h1
        · rcases h2 with c | c
          · exact a c
          · exact b c
      have a2 : ¬(s.mode = .save ∨ s.mode = .quarantine) := by
        rintro (a | a) <;> simp [a, Mode.serving] at h3
      simp only [a1, a2, if_false]
      simp_all
      intro n
      rcases h7 with c | c <;> simp_all
    · cases h

/-- A mailbox command that is taken is handed to its meaning. -/
@[simp] theorem mailbox_takes {n : Nat} {status admin : Bool} {f : State → State} {s : State}
    (h : s.mailboxTakes n status admin = true) : s.mailbox n status admin f = f s := by
  unfold State.mailboxTakes at h
  unfold State.mailbox
  cases hl : s.linkOfLd n with
  | none => simp [hl] at h
  | some l => cases status <;> cases admin <;> simp_all

/-- A mirror frame that is the next in order lands. -/
@[simp] theorem receive_frameNext {m : MirrorRx} {b : CwBody} {a s : State} (h : s.frameNext m a = true) :
    s.receive State.landRepaired m b = a.frameLands m b := by
  unfold State.frameNext at h
  simp only [Bool.and_eq_true, decide_eq_true_eq, List.isEmpty_iff] at h
  obtain ⟨⟨⟨⟨⟨⟨⟨⟨⟨h0, h1⟩, h2⟩, hk⟩, h3⟩, h4⟩, h5⟩, h6⟩, h7⟩, h8⟩ := h
  subst h6
  unfold State.receive
  simp only [h0, State.when, decide_true, if_true]
  simp only [h1, h2, hk, h4, h5, h7, ne_eq, not_true, if_false, Bool.not_true, Bool.false_eq_true, List.any_nil, or_false, List.nil_append,
    List.length_singleton]
  rw [if_neg (by omega)]
  unfold State.deliver
  simp only [State.get] at h8 ⊢
  simp [h8, State.frameLands]

/-- A MGMT message that is handled gets its status and its body, where the status is not DENIED. -/
theorem mgmt_takes {p : MgmtPath} {typ : Nat} {f : State → (Nat × List Nat) × State} {s : State} (h : s.mgmtTakes p typ = true)
    (hd : (f s).1.1 ≠ St.DENIED) : s.mgmt p typ f = (f s).2.mgmtSend p typ (f s).1.1 (f s).1.2 := by
  unfold State.mgmtTakes at h
  unfold State.mgmt
  simp only [Bool.and_eq_true, Bool.or_eq_true, Bool.not_eq_true', decide_eq_false_iff_not] at h
  obtain ⟨⟨⟨h1, h2⟩, h3⟩, h4⟩ := h
  rw [if_neg (by simp [h1]), if_neg (by simp [h2])]
  have k : ¬((s.mode = Mode.bringup ∧ (!mgmtBringup typ) = true) ∨ s.mode = Mode.restore ∧ (!mgmtStatus typ) = true) := by
    rintro (⟨a, b⟩ | ⟨a, b⟩)
    · rcases h3 with c | c
      · exact c a
      · simp [c] at b
    · rcases h4 with c | c
      · exact c a
      · simp [c] at b
  rw [if_neg k]
  simp only [hd, if_false]

/-- A PLDM request that is handled gets its answer. -/
theorem pldm_takes {typ cmd : Nat} {f : State → (Nat × List Nat) × State} {s : State} (h : s.pldmTakes typ = true) :
    s.pldm typ cmd f = (f s).2.emit (.pldm typ cmd (f s).1.1 (f s).1.2) := by
  unfold State.pldmTakes at h
  unfold State.pldm
  simp_all
  intro a b
  rcases h.2 with c | c
  · simp [c] at a
  · exact absurd b c

end Sys2Proof.Machine
end

