-- ==== Sys2Proof/Machine/Package.lean ====
section
/-! DEFINITION. The package: the lands and what each carries (R586 to R589), the power of the rails and the modes (R580, R581), and the operating
range of the rails (R578). These are facts of the part; no command changes them. -/

namespace Sys2Proof.Machine

open Sys2Proof

/-! Land regions (Table 18.8). -/

/-- The regions of the land grid. -/
inductive LandRegion where
  | sideband
  | ethernet
  | causeway
  | onfi
  | cxl
  | ddr
  | core
  deriving DecidableEq, Repr

/-- The rectangles of a region in order: first and last row, first and last column. -/
def LandRegion.rects : LandRegion → List (Nat × Nat × Nat × Nat)
  | .sideband => [(1, 10, 1, 20)]
  | .ethernet => [(1, 10, 21, 36)]
  | .causeway => [(1, 10, 37, 52)]
  | .onfi => [(1, 10, 53, 92), (11, 70, 83, 92)]
  | .cxl => [(83, 92, 1, 64)]
  | .ddr => [(11, 82, 1, 10), (11, 20, 11, 82), (21, 72, 11, 20), (21, 72, 73, 82), (73, 82, 11, 82), (83, 92, 65, 92), (71, 82, 83, 92)]
  | .core => [(21, 72, 21, 72)]

/-- The lands of a rectangle. -/
def rectLands (r : Nat × Nat × Nat × Nat) : Nat := (r.2.1 + 1 - r.1) * (r.2.2.2 + 1 - r.2.2.1)

/-- The lands of a region. -/
def LandRegion.lands (g : LandRegion) : Nat := (g.rects.map rectLands).foldl (· + ·) 0

/-- The place of a land in a list of rectangles: row by row, and within a row by column (R586). -/
def landIn : List (Nat × Nat × Nat × Nat) → Nat → Nat → Option Nat
  | [], _, _ => none
  | r :: t, row, col =>
    if r.1 ≤ row ∧ row ≤ r.2.1 ∧ r.2.2.1 ≤ col ∧ col ≤ r.2.2.2 then some ((row - r.1) * (r.2.2.2 + 1 - r.2.2.1) + (col - r.2.2.1))
    else (landIn t row col).map (rectLands r + ·)

/-- The region of a land, and its number there (R586). -/
def landOf (row col : Nat) : Option (LandRegion × Nat) :=
  [LandRegion.sideband, .ethernet, .causeway, .onfi, .cxl, .ddr, .core].findSome? fun g => (landIn g.rects row col).map fun n => (g, n)

/-! What a land carries (Tables 18.9 to 18.11). -/

/-- A signal of an ONFI channel. -/
inductive OnfiSignal where
  | ceN (i : Nat)
  | rbN
  | cle
  | ale
  | weN
  | reT
  | reC
  | dqsT
  | dqsC
  | dq (i : Nat)
  deriving DecidableEq, Repr

/-- A signal of a DDR channel; `sub` 0: subchannel A. -/
inductive DdrSignal where
  | dq (sub i : Nat)
  | cb (sub i : Nat)
  | dqsT (sub i : Nat)
  | dqsC (sub i : Nat)
  | dca (sub i : Nat)
  | dpar (sub : Nat)
  | dcsN (sub dimm i : Nat)
  | ckT (sub dimm : Nat)
  | ckC (sub dimm : Nat)
  | alertN (dimm : Nat)
  | resetN (dimm : Nat)
  deriving DecidableEq, Repr

/-- What a land carries. A rail by its index of Table 16.1; a SerDes pair by its unit, lane, direction and polarity. -/
inductive LandNet where
  | gnd
  | vaux
  | rail (i : Nat)
  | reserved
  | cxl (port lane : Nat) (tx positive : Bool)
  | ethernet (port lane : Nat) (tx positive : Bool)
  | causeway (path lane : Nat) (tx positive : Bool)
  | onfi (channel : Nat) (signal : OnfiSignal)
  | ddr (channel : Nat) (signal : DdrSignal)
  | sideband (name : String)
  | sidebandAt (name : String) (i : Nat)
  deriving DecidableEq, Repr

/-- A SerDes column: TX_P, TX_N, RX_P and RX_N on the rows given, VDD_SDS on row `sds`, VDDH_SDS on row `vddh` at even columns. -/
def serdesLand (base sds vddh row col : Nat) (f : Bool → Bool → LandNet) : LandNet :=
  if row = base then f true true
  else if row = base + 1 then f true false
  else if row = base + 4 then f false true
  else if row = base + 5 then f false false
  else if row = sds then .rail 4
  else if row = vddh ∧ col % 2 = 0 then .rail 8 else .gnd

/-- Local land `k` of an ONFI channel. -/
def onfiLand (channel k : Nat) : LandNet :=
  if 22 ≤ k then .gnd
  else if 20 ≤ k then .rail 7
  else .onfi channel (if k < 4 then .ceN k else if 12 ≤ k then .dq (k - 12) else match k with
    | 4 => .rbN | 5 => .cle | 6 => .ale | 7 => .weN | 8 => .reT | 9 => .reC | 10 => .dqsT | _ => .dqsC)

/-- Local land `j` of a subchannel; a bus written [n:0] begins with its highest bit (log entry 157). -/
def subchannelLand (sub j : Nat) : DdrSignal :=
  if j < 32 then .dq sub (31 - j)
  else if j < 40 then .cb sub (39 - j)
  else if j < 60 then (if j % 2 = 0 then .dqsT sub ((j - 40) / 2) else .dqsC sub ((j - 40) / 2))
  else if j < 67 then .dca sub (66 - j)
  else if j = 67 then .dpar sub
  else if j < 72 then .dcsN sub ((j - 68) / 2) (1 - j % 2)
  else if j % 2 = 0 then .ckT sub ((j - 72) / 2) else .ckC sub ((j - 72) / 2)

/-- Local land `k` of a DDR channel. -/
def ddrLand (channel k : Nat) : LandNet :=
  if k < 152 then .ddr channel (subchannelLand (k / 76) (k % 76))
  else if k < 154 then .ddr channel (.alertN (k - 152))
  else if k < 156 then .ddr channel (.resetN (k - 154))
  else if k < 160 then .reserved
  else if k < 170 then .rail 6 else .gnd

/-- The net of a row of the core power region (Table 18.11). -/
def coreRow (row : Nat) : LandNet :=
  if row = 22 then .rail 9
  else if [24, 26, 28].contains row then .rail 3
  else if [30, 32].contains row then .rail 2
  else if [34, 35, 37, 38, 40, 41, 43, 44, 46, 47, 49, 50].contains row then .rail 0
  else if [52, 53, 55, 56, 58, 59, 61, 62, 64, 65].contains row then .rail 1
  else if row = 68 then .rail 5 else .gnd

/-- A list's entry, or GND past its end. -/
def landName (names : List LandNet) (i : Nat) : LandNet := names.getD i .gnd

/-- The sideband lands (Table 18.10). -/
def sidebandLand (row col : Nat) : LandNet :=
  let i := col - 1
  match row with
  | 1 => landName ((["PFAIL_N", "FENCE_N", "PSEQ_GO", "PSEQ_DONE", "FAULT_N", "ALERT_N", "BMC_SCL", "BMC_SDA", "PMB_SCL", "PMB_SDA", "MGMT_SCL",
      "MGMT_SDA", "STRAP_SIDE", "STRAP_AUTOWAKE"].map LandNet.sideband) ++ [.sidebandAt "STRAP_I3C_ADDR" 0, .sidebandAt "STRAP_I3C_ADDR" 1,
      .sideband "XTAL32K_IN", .gnd, .sideband "XTAL32K_OUT", .gnd]) i
  | 2 => if i < 12 then .sidebandAt "PSEQ_EN" i else if i < 14 then .vaux else if i < 18 then .rail 10 else .rail 11
  | 3 => if i < 12 then .sidebandAt "PSEQ_PG" i
    else landName [.gnd, .sideband "REFCLK100_P", .sideband "REFCLK100_N", .gnd, .sideband "REFCLK156_P", .sideband "REFCLK156_N"] (i - 12)
  | 4 => if i < 12 then .sidebandAt "RAIL_SENSE" i
    else landName [.sideband "BANK_V", .sideband "AGND_SENSE", .sideband "BANK_I", .sideband "AGND_SENSE"] (i - 12)
  | 5 => .sidebandAt "SLOT_EN" i
  | 6 => .sidebandAt "SLOT_PG" i
  | 7 => .sidebandAt "SLOT_FLT_N" i
  | 8 => .sidebandAt "SLOT_PRSNT_N" i
  | 9 => if i < 4 then .sidebandAt "PERST_N" i else if i = 4 then .sideband "BANK_TEST_EN"
    else if i < 13 then (if i % 2 = 1 then .sidebandAt "FL_SCL" ((i - 5) / 2) else .sidebandAt "FL_SDA" ((i - 5) / 2)) else .gnd
  | _ => if i < 8 then (if i % 2 = 0 then .sidebandAt "SPD_SCL" (i / 2) else .sidebandAt "SPD_SDA" (i / 2))
    else landName (["WIT_TX_P", "WIT_TX_N", "WIT_RX_P", "WIT_RX_N", "TCK", "TMS", "TDI", "TDO", "TRST_N"].map LandNet.sideband) (i - 8)

/-- What land row/column carries (R586 to R589); none outside the grid. -/
def landNet (row col : Nat) : Option LandNet :=
  (landOf row col).map fun e => match e.1 with
    | .sideband => sidebandLand row col
    | .ethernet => serdesLand 3 10 1 row col (.ethernet ((col - 21) / 8) ((col - 21) % 8))
    | .causeway => serdesLand 3 10 1 row col (.causeway ((col - 37) / 8) ((col - 37) % 8))
    | .onfi => onfiLand (e.2 / 25) (e.2 % 25)
    | .cxl => serdesLand 84 91 92 row col (.cxl ((col - 1) / 16) ((col - 1) % 16))
    | .ddr => ddrLand (e.2 / 225) (e.2 % 225)
    | .core => coreRow row

/-! Power (Tables 18.3 and 18.4) and the rails' range (Table 18.2). -/

/-- A rail's figures: the design current and the peak for up to 1 ms in A, the design power and the power in SAVE in mW. -/
structure RailLoad where
  designA : Nat
  peakA : Nat
  designMw : Nat
  saveMw : Nat
  deriving DecidableEq, Repr

/-- Table 18.3, rail 0 first. -/
def railLoads : List RailLoad :=
  [⟨140, 182, 105000, 60000⟩, ⟨120, 156, 90000, 45000⟩, ⟨30, 39, 25500, 20000⟩, ⟨40, 48, 30000, 15000⟩, ⟨48, 60, 38400, 800⟩, ⟨24, 27, 19200, 0⟩,
   ⟨20, 26, 22000, 10000⟩, ⟨8, 10, 9600, 6000⟩, ⟨10, 12, 12000, 500⟩, ⟨3, 3, 5400, 1500⟩, ⟨2, 2, 3600, 600⟩, ⟨1, 1, 3300, 600⟩]

/-- The most that VAUX supplies, in mW (Table 18.3). -/
def vauxMw : Nat := 1000

/-- The most that the part takes in a mode, in mW (Table 18.4): none in OFF. -/
def modePowerMw (m : Mode) : Nat :=
  match m with
  | .off => 0
  | .dormant => 60
  | .watch => 1000
  | .ramp => 40000
  | .bringup => 250000
  | .restore => 300000
  | .solo | .paired | .resync | .takeover | .drain => 365000
  | .save => 160000
  | .quarantine => 200000

/-- A main rail of nominal voltage `mv` lies in its operating range at `uv` µV (R578, Table 18.2). -/
def railOperates (mv uv : Nat) : Bool := decide (mv * 940 ≤ uv) && decide (uv ≤ mv * 1060)

end Sys2Proof.Machine
end

