-- ==== Sys2Proof/Laws/Wire.lean ====
section
/-! SUPPORT. What the layouts have in common: how many bytes each of the spec's layouts takes, and the bytes of a number read back. -/

namespace Sys2Proof.Machine

open Sys2Proof

/-- A number takes as many bytes as are asked for. -/
@[simp] theorem leBytes_length (n v : Nat) : (leBytes n v).length = n := by simp [leBytes]

/-- Byte `i` of a number. -/
@[simp] theorem leBytes_getElem (n v i : Nat) (h : i < (leBytes n v).length) : (leBytes n v)[i] = v / 2 ^ (8 * i) % 256 := by
  simp [leBytes, bitsOf]

/-- The bytes of a number give it back, modulo its width. -/
theorem ofLe_leBytes (n v : Nat) : ofLe (leBytes n v) = v % 2 ^ (8 * n) := by
  induction n generalizing v with
  | zero => simp [leBytes, ofLe, Nat.mod_one]
  | succ n ih =>
    have e : leBytes (n + 1) v = (v % 256) :: leBytes n (v / 256) := by
      simp only [leBytes, List.range_succ_eq_map, List.map_cons, List.map_map, bitsOf, Nat.mul_zero, Nat.pow_zero, Nat.div_one]
      refine congrArg₂ _ rfl (List.map_congr_left fun i _ => ?_)
      rw [Function.comp_apply, Nat.succ_eq_add_one, Nat.mul_add, Nat.add_comm, Nat.pow_add, ← Nat.div_div_eq_div_mul]
    have h := ih (v / 256)
    simp only [ofLe] at h ⊢
    rw [e, List.foldr_cons, h, Nat.mul_add, Nat.pow_add, show (2 : Nat) ^ (8 * 1) = 256 from rfl, Nat.mul_comm (2 ^ (8 * n)), Nat.mod_mul]
    omega

/-- A completion record takes 32 B (Table 5.8). -/
@[simp] theorem CompRec.bytes_length (phase : Bool) (r : CompRec) : (r.bytes phase).length = 32 := leBytes_length ..

/-- A Kerup message takes a 16 B header and then its data (Table 13.4). -/
@[simp] theorem KMsg.bytes_length (m : KMsg) : m.bytes.length = 16 + m.dataBytes.length := by simp [KMsg.bytes]

/-- An entry of a LINES record takes 24 B (Table 8.10), and one of a PENDING record 296 B (R290). -/
@[simp] theorem linesEntryBytes_length (line tag : Nat) (m : LineMeta) : (linesEntryBytes line tag m).length = 24 := leBytes_length ..

@[simp] theorem PendEntry.bytes_length (e : PendEntry) : e.bytes.length = 296 := by simp [PendEntry.bytes]

/-- A journal entry takes 16 B (Table 7.10). -/
@[simp] theorem JEntry.bytes_length (e : JEntry) : e.bytes.length = 16 := by simp [JEntry.bytes]

/-- A journal block of at most 252 entries takes 4,096 B (Table 7.10). -/
theorem JBlock.bytes_length (b : JBlock) (h : b.entries.length ≤ 252) : b.bytes.length = 4096 := by
  simp [JBlock.bytes, List.length_flatMap]; omega

/-- A DRAM codeword takes 160 B (Table 9.1). -/
@[simp] theorem dramCodeword_length (k : Nat) (cipher : LineData) (tag state : Nat) : (dramCodeword k cipher tag state).length = 160 := by
  simp [dramCodeword]

/-- A flash codeword takes 4,640 B (Table 11.4). -/
theorem flashCodeword_length (c kind addr jseq : Nat) (data states : List Nat) (hd : 4096 ≤ data.length) (hs : 256 ≤ states.length) :
    (flashCodeword c kind addr jseq data states).length = 4640 := by
  simp [flashCodeword, Nat.min_eq_left hd, Nat.min_eq_left hs]

/-- A GCM tag takes 16 B (R320). -/
@[simp] theorem gcmTag_length (key : Nat) (iv aad cipher : List Nat) : (gcmTag key iv aad cipher).length = 16 := leBytes_length ..

/-- A ciphertext is as long as its payload. -/
@[simp] theorem gcmCrypt_length (key : Nat) (iv p : List Nat) : (gcmCrypt key iv p).length = p.length := by
  simp [gcmCrypt, xorBytes, List.length_flatMap]; omega

/-- A sealed payload is 16 B longer than the payload (R320). -/
@[simp] theorem gcmSeal_length (key : Nat) (iv aad p : List Nat) : (gcmSeal key iv aad p).length = p.length + 16 := by simp [gcmSeal]

/-- A string xored twice with a key stream at least as long is the string: what GCM's decryption rests on. -/
theorem xorBytes_xorBytes (a k : List Nat) (h : a.length ≤ k.length) : xorBytes (xorBytes a k) k = a := by
  induction a generalizing k with
  | nil => simp [xorBytes]
  | cons x a ih =>
    cases k with
    | nil => simp at h
    | cons y k => simpa [xorBytes, Nat.xor_assoc] using ih k (by simpa using h)

/-- A payload decrypted under the key and the IV it was encrypted with is the payload (R320). -/
theorem gcmCrypt_gcmCrypt (key : Nat) (iv p : List Nat) : gcmCrypt key iv (gcmCrypt key iv p) = p := by
  have h := gcmCrypt_length key iv p
  rw [gcmCrypt, h, gcmCrypt]
  exact xorBytes_xorBytes _ _ (by simp [List.length_flatMap]; omega)

end Sys2Proof.Machine
end

