-- ==== Sys2Proof/WellFormed.lean ====
section
/-! DEFINITION. Well-formed commands: every operand lies within the field that carries it in the spec. What a type of Syntax.lean already
bounds (a link, a logical device, a slot) needs no check here. A meaning is total and does not rest on these checks. -/

namespace Sys2Proof.WellFormed

/-- A value fits a field of `n` bits. -/
def fits (n v : Nat) : Bool := decide (v < 2 ^ n)

/-- An offset or address is aligned to `n` bytes. -/
def aligned (n v : Nat) : Bool := decide (v % n = 0)

/-- The widths of a register access, in bytes: R9 answers those it does not take, and unaligned ones, with an error. -/
def accessSize (n : Nat) : Bool := [1, 2, 4, 8].contains n

/-- A queue's key: a ring of a logical device, or a command queue pair by its QPN (24 bits). -/
def queueKey (q : Nat) : Bool := decide (q < 64 * 64 ∨ 2 ^ 24 ≤ q ∧ q < 2 ^ 25)

/-- The header of a mirror-stream frame (Table 12.2). -/
def mirror (m : MirrorRx) : Bool := fits 8 m.epoch && fits 64 m.seq

/-- How a MGMT message came. -/
def mgmtPath : MgmtPath → Bool
  | .queue q _ => queueKey q
  | .mailbox _ | .bmc => true

/-- A witness frame (Table 12.9). -/
def witness (f : WitFrame) : Bool :=
  fits 32 f.session && fits 32 f.counter && fits 32 f.epoch && fits 1 f.grantSide && fits 8 f.reason && fits 32 f.echoSession &&
    fits 32 f.echoCounter

/-- A CONTROL frame (Table 12.6). -/
def control (c : ControlRx) : Bool := fits 64 c.ack && fits 64 c.nak && fits 32 c.credit && fits 4 c.mode && fits 8 c.mEff && fits 32 c.epoch

/-- A HELLO payload (Table 12.7). -/
def hello (h : Hello) : Bool := 
  fits 64 h.keyId && fits 1 h.side && fits 128 h.serial && fits 64 h.pairId && fits 32 h.epoch && fits 16 h.temper && fits 16 h.temperMax &&
    fits 64 h.groupId && fits 256 h.nonce && fits 776 h.eph

/-- A line entry (Table 12.4). -/
def lineEntry (e : LineEntry) : Bool := fits 41 e.line && fits 32 e.gen && fits 2 e.psrc && fits 3 e.flags

end Sys2Proof.WellFormed

namespace Sys2Proof

open WellFormed

/-- Every operand of a command fits its field. -/
def Instr.wellFormed (i : Instr) : Bool :=
  match i with
  | .registerWrite _ off size v => fits 32 off && accessSize size && fits (8 * size) v
  | .registerReadClear _ off size => fits 32 off && accessSize size
  | .registerReadLatchHigh _ off => fits 32 off
  | .cxlMemrd _ ldid tag dpa _ => fits 4 ldid && fits 16 tag && fits 52 dpa && aligned 64 dpa
  | .cxlMemwr _ ldid tag dpa _ _ _ => fits 4 ldid && fits 16 tag && fits 52 dpa && aligned 64 dpa
  | .cxlMemwrptl _ ldid tag dpa _ _ _ _ => fits 4 ldid && fits 16 tag && fits 52 dpa && aligned 64 dpa
  | .cxlMemspecrd _ ldid dpa => fits 4 ldid && fits 52 dpa && aligned 64 dpa
  | .cxlMeminv _ ldid tag => fits 4 ldid && fits 16 tag
  | .cxlUnsupportedM2s _ ldid tag _ => fits 4 ldid && fits 16 tag
  | .writeCompletion .. => true
  | .mirrorWindowDrain => true
  | .persist q _ => queueKey q
  | .persistComplete q _ => queueKey q
  | .persistStalled q _ => queueKey q
  | .gpfPhase1 .. => true
  | .gpfPhase2 .. => true
  | .gpfPhase2Done .. => true
  | .configRequest _ tag _ => fits 14 tag
  | .perstNAssert .. => true
  | .perstNDeassert .. => true
  | .cxlLinkUp _ width rate _ _ => fits 5 width && fits 3 rate
  | .cxlLinkDown .. => true
  | .cxlHotReset .. => true
  | .functionLevelReset .. => true
  | .cxlPortServiceWrite .. => true
  | .cxlBindRestore .. => true
  | .ideKmExchange _ session _ => fits 32 session
  | .ideMacFailure .. => true
  | .ideEpochVerified .. => true
  | .hdmDecoderCommit _ _ base size skip ways gran _ => fits 64 base && fits 64 size && fits 64 skip && fits 4 ways && fits 4 gran
  | .getEventRecords .. => true
  | .clearEventRecords .. => true
  | .getEventInterruptPolicy .. => true
  | .setEventInterruptPolicy _ policy => fits 32 policy
  | .getFwInfo .. => true
  | .getTimestamp .. => true
  | .setTimestamp _ t => fits 64 t
  | .getSupportedLogs .. => true
  | .getLog .. => true
  | .identifyMemoryDevice .. => true
  | .getPartitionInfo .. => true
  | .getLsa _ off len => fits 32 off && fits 32 len
  | .setLsa _ off _ => fits 32 off
  | .getHealthInfo .. => true
  | .getAlertConfiguration .. => true
  | .getShutdownState .. => true
  | .setShutdownState _ v => fits 8 v
  | .getPoisonList _ dpa len => fits 52 dpa && fits 64 len
  | .injectPoison _ dpa => fits 52 dpa
  | .clearPoison _ dpa _ => fits 52 dpa
  | .scanMedia _ dpa len => fits 52 dpa && fits 64 len
  | .getScanMediaCapabilities _ dpa len => fits 52 dpa && fits 64 len
  | .getScanMediaResults .. => true
  | .scanMediaDone .. => true
  | .mailboxMgmtRequest _ typ => fits 16 typ
  | .mailboxUnsupported _ opcode => fits 16 opcode
  | .getLdInfo .. => true
  | .getLdAllocations .. => true
  | .getQosStatus .. => true
  | .fmApiUnsupported _ opcode => fits 16 opcode
  | .ethLinkUp .. => true
  | .ethLinkDown .. => true
  | .ethLinkServiceWrite .. => true
  | .arpNdRequest _ addr => fits 128 addr
  | .cmReq f addr pkey mtu _ depth psn _ => fits 128 f.gid && fits 128 addr && fits 16 pkey && fits 3 mtu && fits 8 depth && fits 24 psn
  | .cmRtu f qpn => fits 128 f.gid && fits 24 qpn
  | .cmDreq f qpn => fits 128 f.gid && fits 24 qpn
  | .cmRejRx f qpn => fits 128 f.gid && fits 24 qpn
  | .cmOtherMad f => fits 128 f.gid
  | .rdmaReadReq f qpn pkey psn va rkey len _ => fits 128 f.gid && fits 24 qpn && fits 16 pkey && fits 24 psn && fits 64 va && fits 32 rkey && fits 32 len
  | .rdmaWritePacket f qpn pkey psn _ _ va rkey len _ _ => fits 128 f.gid && fits 24 qpn && fits 16 pkey && fits 24 psn && fits 64 va && fits 32 rkey && fits 32 len
  | .rdmaWriteAck qpn => fits 24 qpn
  | .rdmaAtomic f qpn pkey psn _ va rkey add compare _ => fits 128 f.gid && fits 24 qpn && fits 16 pkey && fits 24 psn && fits 64 va && fits 32 rkey && fits 64 add && fits 64 compare
  | .rdmaUnsupportedOpcode f qpn pkey psn => fits 128 f.gid && fits 24 qpn && fits 16 pkey && fits 24 psn
  | .cqpSend f qpn pkey psn len _ => fits 128 f.gid && fits 24 qpn && fits 16 pkey && fits 24 psn && fits 32 len
  | .rdmaAckRx f qpn psn _ => fits 128 f.gid && fits 24 qpn && fits 24 psn
  | .cqpRnrNakRx f qpn psn => fits 128 f.gid && fits 24 qpn && fits 24 psn
  | .cqpRnrRetry qpn => fits 24 qpn
  | .completionSendFlush qpn => fits 24 qpn
  | .qpContextFetchDone qpn => fits 24 qpn
  | .qpCachePressureCheck => true
  | .hltHolddownExpiry gid => fits 128 gid
  | .hltMoveDrainDone gid => fits 128 gid
  | .hltFlapClear gid => fits 128 gid
  | .hltEntryAgeOut gid => fits 128 gid
  | .cnpRx f qpn => fits 128 f.gid && fits 24 qpn
  | .cnpRateRecovery qpn => fits 24 qpn
  | .sluiceCnpTimer => true
  | .pfcFrameRx .. => true
  | .pfcPauseLong .. => true
  | .ringEnable _ _ v => fits 32 v
  | .ringDisable .. => true
  | .ringDisabled .. => true
  | .pollerTick .. => true
  | .ringFetchData .. => true
  | .multipartAssembled q _ => queueKey q
  | .cqHeadRecheck .. => true
  | .cqFullTimeout .. => true
  | .ringIdleSleep _ _ tail => fits 32 tail
  | .ringWake .. => true
  | .ringRestart .. => true
  | .irqCoalesceExpiry .. => true
  | .copy q _ _ => queueKey q
  | .zero q _ => queueKey q
  | .copyZeroResume q _ _ => queueKey q
  | .copyZeroDone q _ => queueKey q
  | .hazardHoldRelease q _ _ => queueKey q
  | .wait q _ => queueKey q
  | .waitSatisfied q _ => queueKey q
  | .waitTimeout q _ => queueKey q
  | .abort q _ => queueKey q
  | .regionAttach q _ => queueKey q
  | .regionAttachComplete q _ => queueKey q
  | .regionDetach q _ => queueKey q
  | .regionDetachComplete q _ => queueKey q
  | .regionRelease .. => true
  | .regionInfo q _ => queueKey q
  | .keyProvision q _ _ => queueKey q
  | .keyRotate q _ => queueKey q
  | .streamDeclare q _ _ => queueKey q
  | .streamAdvance q _ => queueKey q
  | .streamRetire q _ => queueKey q
  | .guest q _ => queueKey q
  | .mgmtOperation q _ => queueKey q
  | .tenantCreate .. => true
  | .tenantRemove .. => true
  | .bindingWrite _ n v => fits 12 n && fits 32 v
  | .haSliceSleep .. => true
  | .victimWriteAck line => fits 41 line
  | .haRemapRequest .. => true
  | .haSliceBistDone .. => true
  | .haSliceBistTimeout .. => true
  | .epochBoundary => true
  | .latencyTracerClear => true
  | .fillLanded page _ _ _ _ _ _ => fits 35 page
  | .stallCeilingExpiry .. => true
  | .extentDrop => true
  | .frameWaitTimeout => true
  | .writebackCapture page => fits 35 page
  | .writebackProgramDone page => fits 35 page
  | .programFailed page => fits 35 page
  | .journalBlockWrite => true
  | .tablePageWrite .. => true
  | .gcVictimRelocate => true
  | .wearLevelRelocate => true
  | .streamStatusWrite .. => true
  | .freeboardRecompute => true
  | .sluiceShareRecompute => true
  | .thermalCapStep => true
  | .bankIdRead .. => true
  | .assayDue => true
  | .assayNow => true
  | .assayPrepareReady => true
  | .assayPrepareTimeout => true
  | .assayEsrMeasure => true
  | .assayDischargeEnd => true
  | .assayDischargeTimeout => true
  | .assayRelaxEnd => true
  | .assayRechargeDone => true
  | .assayRechargeTimeout => true
  | .assayRetryDue => true
  | .pfailNAssert => true
  | .pfailNDeassert => true
  | .pfailFilterExpiry => true
  | .spillwaySeal .. => true
  | .saveRestartWaitEnd => true
  | .restorePhaseDone .. => true
  | .restoreExit => true
  | .lineDataArrival line _ _ _ _ _ _ => fits 41 line
  | .cpIdleSleep .. => true
  | .cpRemapRequest .. => true
  | .cpSelfTestDone .. => true
  | .cpSelfTestTimeout .. => true
  | .ksLoad => true
  | .ksDestroy => true
  | .ksCommandDone => true
  | .keyStoreUpdate => true
  | .keyStoreUpdateDone => true
  | .rotationSweepExtent .. => true
  | .flipMaskArm .. => true
  | .dimmTempRead .. => true
  | .channelTrainingDone .. => true
  | .channelTrainingTimeout .. => true
  | .zqCalibration .. => true
  | .dqsDriftTrack .. => true
  | .refreshDue .. => true
  | .rankPowerDownEntry .. => true
  | .rankSelfRefreshEntry .. => true
  | .dramAlert .. => true
  | .dramPatrolRead _ line _ _ _ _ _ _ => line.all (fits 41)
  | .channelServiceWrite .. => true
  | .channelDrainPageCopy _ page => page.all (fits 35)
  | .channelFault .. => true
  | .slotPresenceFiltered _ _ record _ => fits 2048 record
  | .slotPowerAttempt .. => true
  | .slotPgTimeout .. => true
  | .slotFault .. => true
  | .slotPowerRetry .. => true
  | .slotSettleDone .. => true
  | .slotClearFault .. => true
  | .slotFailNow .. => true
  | .onfiReadyTimeout .. => true
  | .nandEraseDone .. => true
  | .noGroupRetry => true
  | .rebuildStripe .. => true
  | .repairReplyTimeout .. => true
  | .flashPatrolStripe .. => true
  | .flashPatrolRateUpdate => true
  | .moduleTempRead .. => true
  | .pathTrainingDone .. => true
  | .pathTrainingTimeout .. => true
  | .pathRetrainDue .. => true
  | .pathLinkLoss .. => true
  | .cwPathServiceWrite .. => true
  | .linesFrameRx m es _ => mirror m && es.all lineEntry
  | .linesBgFrameRx m es => mirror m && es.all lineEntry
  | .pageMarkRx m _ => mirror m
  | .horizonFrameRx m _ => mirror m
  | .recordFrameRx m kind idx _ => mirror m && fits 3 kind && fits 13 idx
  | .recordCommitRx m _ => mirror m
  | .keyGenEntryRx m side gen tenant midx salt => mirror m && fits 1 side && fits 32 gen && fits 12 tenant && fits 1 midx && fits 256 salt
  | .keyMasterRx m tenant midx serial master => mirror m && fits 12 tenant && fits 1 midx && fits 64 serial && fits 256 master
  | .keyDestroyRx m _ _ _ => mirror m
  | .repairReqRx m _ page => mirror m && fits 49 page
  | .assayStateRx m _ => mirror m
  | .drainBeginRx m => mirror m
  | .catchupBeginRx m _ _ => mirror m
  | .catchupDoneRx m => mirror m
  | .temperSetRx m temper => mirror m && fits 16 temper
  | .unpairRx m => mirror m
  | .repairDoneRx m _ status => mirror m && fits 8 status
  | .keyCommittedRx m _ => mirror m
  | .controlFrameRx c => control c
  | .helloRx _ _ _ h => hello h
  | .nakTimer => true
  | .retransmitTimer .. => true
  | .controlSendTimer .. => true
  | .helloSendTimer => true
  | .rekeyDue => true
  | .cwRekey => true
  | .oldKeyEpochExpiry => true
  | .heartbeatTimer => true
  | .takeoverReqResend => true
  | .witnessStatusRx f => witness f
  | .witnessGrantRx f _ => witness f
  | .witnessDenyRx f => witness f
  | .witnessFenceRx f => witness f
  | .witnessContactTimeout => true
  | .twinContactTimeout => true
  | .fenceNAssert => true
  | .fenceNDeassert => true
  | .checkpointDue .. => true
  | .cwDrain => true
  | .drainCutoverReady .. => true
  | .drainReleaseTimeout => true
  | .cwUnpair => true
  | .cwReplaceAllow => true
  | .cwPairAllowNew => true
  | .pairAllowExpiry .. => true
  | .catchupCopyExtent .. => true
  | .catchupComplete => true
  | .handbackStart .. => true
  | .kerupLinkUp _ width _ _ => fits 7 width
  | .kerupLinkDown .. => true
  | .guestRdGran _ tag handle grant addr _ => fits 12 tag && fits 16 handle && fits 8 grant && fits 49 addr
  | .guestRdLine _ tag handle grant addr _ => fits 12 tag && fits 16 handle && fits 8 grant && fits 49 addr
  | .guestRdHint _ tag handle grant addr => fits 12 tag && fits 16 handle && fits 8 grant && fits 49 addr
  | .guestWrPtl _ tag handle grant addr _ _ _ => fits 12 tag && fits 16 handle && fits 8 grant && fits 49 addr
  | .guestWrGran _ tag handle grant addr _ _ => fits 12 tag && fits 16 handle && fits 8 grant && fits 49 addr
  | .guestWrLine _ tag handle grant addr _ => fits 12 tag && fits 16 handle && fits 8 grant && fits 49 addr
  | .guestRegRd _ tag off => fits 12 tag && fits 32 off
  | .guestRegWr _ tag off _ => fits 12 tag && fits 32 off
  | .gqTakenRx _ handle => fits 16 handle
  | .gqDoneRx _ handle code ra rb => fits 16 handle && fits 8 code && fits 4 ra && fits 8 rb
  | .grantAckRx .. => true
  | .echoRspRx .. => true
  | .guestCmpOkRx _ tag => fits 12 tag
  | .guestCmpErrRx _ tag code => fits 12 tag && fits 8 code
  | .guestRegDataRx _ tag _ => fits 12 tag
  | .gqSubmitDispatch q => queueKey q
  | .kgGrantWrite .. => true
  | .grantRevoke .. => true
  | .grantRevokedSend .. => true
  | .grantAckTimeout .. => true
  | .gqTimeout handle => fits 16 handle
  | .gErrNfAssert => true
  | .gErrFAssert => true
  | .guestRefclkStable => true
  | .gReadyAssert => true
  | .guestBringupTimeout => true
  | .guestReset => true
  | .guestServiceWrite .. => true
  | .kerupL1Entry .. => true
  | .kerupL1Exit .. => true
  | .kgGregAccess off _ _ => fits 16 off
  | .kgGregTimeout off => fits 16 off
  | .reeveLockstepFail .. => true
  | .reeveWatchdogExpiry => true
  | .rvWdtKick .. => true
  | .reeveSramUncorrectable addr => fits 32 addr
  | .reeveBoot .. => true
  | .fwTrialConfirm => true
  | .fwTrialTimeout => true
  | .flashUnlockWrite .. => true
  | .programWord addr _ => fits 25 addr
  | .programRow addr _ => fits 25 addr
  | .eraseSector addr _ => fits 25 addr
  | .eraseBlock addr _ => fits 25 addr
  | .flashClearStatus .. => true
  | .flashReset .. => true
  | .flashOpDone .. => true
  | .flashWindowRead addr _ => fits 25 addr
  | .readoutRaise path => mgmtPath path
  | .readoutLowerArm path => mgmtPath path
  | .readoutLowerConfirm path challenge => mgmtPath path && fits 32 challenge
  | .readoutFinalArm path => mgmtPath path
  | .readoutFinalConfirm path challenge => mgmtPath path && fits 32 challenge
  | .armExpiry => true
  | .readoutEraseDone => true
  | .bmcAddressMatch => true
  | .mctpControlMsg .. => true
  | .getTid => true
  | .getPldmVersion => true
  | .getPldmTypes => true
  | .getPldmCommands typ => fits 8 typ
  | .getPdrRepositoryInfo => true
  | .getPdr n => fits 32 n
  | .getSensorReading sensor => fits 16 sensor
  | .getStateSensorReadings .. => true
  | .setNumericSensorEnable sensor _ => fits 16 sensor
  | .setEventReceiver .. => true
  | .pollForPlatformEventMessage => true
  | .queryDeviceIdentifiers => true
  | .getFirmwareParameters => true
  | .requestUpdate => true
  | .passComponentTable => true
  | .updateComponent _ size => fits 32 size
  | .firmwareDataRx off _ => fits 32 off
  | .transferComplete .. => true
  | .verifyComplete => true
  | .applyComplete => true
  | .activateFirmware => true
  | .getStatus => true
  | .cancelUpdateComponent => true
  | .cancelUpdate => true
  | .pldmUnsupported typ cmd => fits 8 typ && fits 8 cmd
  | .spdmGetVersion .. => true
  | .spdmGetCapabilities .. => true
  | .spdmNegotiateAlgorithms .. => true
  | .spdmGetDigests .. => true
  | .spdmGetCertificate _ slot off len => fits 8 slot && fits 16 off && fits 16 len
  | .spdmChallenge _ slot => fits 8 slot
  | .spdmGetMeasurements _ index => fits 8 index
  | .spdmKeyExchange .. => true
  | .spdmFinish _ session _ => fits 32 session
  | .spdmHeartbeat _ session _ => fits 32 session
  | .spdmEndSession _ session _ => fits 32 session
  | .mgmtStatus path => mgmtPath path
  | .mgmtIdentity path => mgmtPath path
  | .mgmtDeviceKey path => mgmtPath path
  | .mgmtSensorRead path _ => mgmtPath path
  | .mgmtBermRead path pool count => mgmtPath path && fits 8 pool && fits 16 count
  | .mgmtEventRead path start count => mgmtPath path && fits 32 start && fits 16 count
  | .mgmtTenantSet path tenant state weight regions gib => mgmtPath path && fits 16 tenant && fits 2 state && fits 8 weight && fits 32 regions && fits 32 gib
  | .mgmtBindingSet path _ n v => mgmtPath path && fits 16 n && fits 32 v
  | .mgmtGrantSet path grant w0 w1 w2 => mgmtPath path && fits 16 grant && fits 32 w0 && fits 32 w1 && fits 32 w2
  | .mgmtRegRead path off => mgmtPath path && fits 32 off
  | .mgmtRegWrite path off v => mgmtPath path && fits 32 off && fits 32 v
  | .mgmtAssayNow path => mgmtPath path
  | .mgmtPairCmd path bit => mgmtPath path && fits 16 bit
  | .mgmtService path off v => mgmtPath path && fits 32 off && fits 32 v
  | .mgmtTemperSet path temper => mgmtPath path && fits 16 temper
  | .groupResetArm path => mgmtPath path
  | .groupResetConfirm path challenge => mgmtPath path && fits 32 challenge
  | .mgmtUnknownType path typ => mgmtPath path && fits 16 typ
  | .adcConversion .. => true
  | .adcTrackClear => true
  | .errorLineAssert .. => true
  | .wireFaultDetect .. => true
  | .wireFaultPoll .. => true
  | .sourceConditionEnd .. => true
  | .fcAckWrite .. => true
  | .fcRaiseWrite .. => true
  | .fcPinClear => true
  | .eventRecordWrite .. => true
  | .tokenRefill .. => true
  | .vauxRise .. => true
  | .vauxFall => true
  | .aonStartCheck .. => true
  | .aonStartRetry => true
  | .aonRegulatorDip => true
  | .pwrRamp => true
  | .pwrSleep => true
  | .pwrShutdown => true
  | .pwrRestart => true
  | .shutdownWritebackDone => true
  | .pseqGoAssert => true
  | .goWaitTimeout => true
  | .railPgAssert .. => true
  | .railPgTimeout .. => true
  | .railWindowTimeout .. => true
  | .stepDelayExpiry .. => true
  | .pllLocked .. => true
  | .pllLockTimeout .. => true
  | .rampdownRailOff .. => true
  | .wakeRetryDelay => true
  | .moduleDiscoveryStart .. => true
  | .bringupComplete => true
  | .railPgLoss .. => true
  | .pmbusPoll _ _ _ mv tenMa _ => fits 16 mv && fits 16 tenMa
  | .railMarginWrite .. => true
  | .pmbusMarginAck .. => true
  | .xtalStable => true
  | .xtalFail => true
  | .pllLockLoss .. => true
  | .pllRelock .. => true
  | .pllRelockTimeout .. => true
  | .flashClockIdleStop .. => true
  | .aonAlarmExpiry => true
  | .junctionSensorRead .. => true
  | .thermalTrip .. => true
  | .throttleGraceExpiry .. => true
  | .operatingSecondTick => true
  | .bermBucketClose => true
  | .bermCommit => true
  | .slotPgAssert .. => true
  | .holdoffExpiry => true
  | .ringControlRecordReturn _ _ tail head => fits 32 tail && fits 32 head
  | .ringReadCompletionTimeout .. => true
  | .flitReplay .. => true
  | .kerupFlitReplay .. => true
  | .fecCodewordUncorrectable .. => true
  | .kerupCreditReturn _ _ req wdat cmp rdat _ => fits 4 req && fits 4 wdat && fits 4 cmp && fits 4 rdat
  | .jtagAccess .. => true
  | .witnessLinkAligned => true

end Sys2Proof
end

