-- ==== Sys2Proof/Tests/Slice0.lean ====
section
/-! SUPPORT. Tests: small states, a witness for the hypotheses of each statement, and checks of single steps. -/

namespace Sys2Proof.Machine.Tests

open Sys2Proof

set_option Elab.async false
set_option linter.unusedVariables false

/-- Several fields set. -/
def puts (l : List (Fld × Nat)) (s : State) : State := l.foldl (fun t e => t.put e.1 e.2) s

/-- A controller in SOLO that runs its firmware: tenant 1 active with region 1 (1 GiB at slot 4, tiered), bound to logical device 0 of link
0, which is up. -/
def solo : State :=
  puts [(F.CXL_LINK_STATUS_RATE 0, 3), (F.CXL_LINK_STATUS_WIDTH 0, 16), (F.CXL_PORT_STATUS_SVC_STATE 0, 2), (F.LD_MAP_ENABLE 0, 1), (F.LD_MAP_TENANT 0, 1),
    (F.LD_MAP_ADMIN 0, 1), (F.TENANT_W0_STATE 1, 1), (F.CXL_LD_WIN_BASE_WIN_VALID 0, 1), (F.CXL_LD_WIN_BASE_BASE_SLOT 0, 4)]
    { State.reset with
      mode := .solo
      links := [(0, { present := true, ldCount := 1 })]
      ports := [(0, { cfgLoaded := true })]
      regions := [(1, { state := 1, policy := 1, baseSlot := 4, tenant := 1, keyGen := 7 })]
      pw := { vaux := true, firmware := true } }

/-- The same with an established SPDM session 5 over the data object exchange of logical device 0. -/
def doeSession : State := { solo with rv := { sessions := [⟨5, .doe 0, true⟩] } }

/-- A descriptor: the opcode, its SEQ and what else it holds. -/
def desc (op seq rest : Nat) : BitVec 512 := BitVec.ofNat 512 (seq + op * 2 ^ 64 + rest)

/-- An operation of opcode `op` with its SEQ, fetched and not started. -/
def op (opcode seq : Nat) : OpRec :=
  { seq := seq, desc := desc opcode seq 0, parts := 1, payload := [], phase := .ready, done := 0, cover := 0, mseq := 0, wait := 0, fin := none,
    since := 0, stalled := false, suspended := false, duplicate := false }

/-- Ring 0 of logical device 0, enabled, with operations. -/
def setOps (l : List OpRec) (s : State) : State := { s with queues := [(0, { state := 1, tenant := 1, fetched := 9, ops := l })] }

/-- Ring 0 with one operation. -/
def withOp (opcode seq : Nat) (s : State) : State := setOps [op opcode seq] s

/-- A frame of host 1 on Ethernet link 0. -/
def rxf : RxFrame := { link := 0, gid := 1, icrc := true, fill := 10, ce := false }

/-- A locator entry. -/
def loc : Locator :=
  { primary := 0, alternate := none, created := 0, heard := 0, refreshed := 0, moves := [], flapping := false, old := none, held := [] }

/-- A queue-pair context of tenant 1 and host 1. -/
def qp0 (st : Nat) : Qp := { state := st, incarnation := 1, pkey := 0x8005, tenant := 1, gid := 1, depth := 4, resp := 4, mtu := 1024, psn := 9, rate := 400000 }

/-- Its QPN. -/
def qpn0 : Nat := 2 ^ 20

/-- Ethernet link 0 up, service address 77, partition 5 of tenant 1. -/
def net : State :=
  puts [(F.RDMA_LINK_STATUS_UP 0, 1), (F.RDMA_SVC_CTRL_VALID 3, 1), (F.RDMA_SVC_ADDR_ADDR 3 0, 77), (F.PKEY_MAP_VALID 0, 1), (F.PKEY_MAP_TENANT 0, 1),
    (F.PKEY_MAP_PKEY_PART 0, 5), (F.RDMA_QP_LIMIT_LIMIT, 100), (F.RDMA_CMD_QP_LIMIT_LIMIT, 10)] solo

/-- The same with one queue pair. -/
def netWith (p : Qp) : State := { net with eth := { qps := [(0, p)], cache := [0] } }

/-- The same with one queue pair in a state. -/
def netQp (st : Nat) : State := netWith (qp0 st)

/-- A ring whose addresses are set. -/
def ringReady : State := puts [(F.RING_SQ_BASE_ADDR 0 0, 1), (F.RING_CQ_BASE_ADDR 0 0, 2), (F.RING_CTL_ADDR_ADDR 0 0, 3)] solo


/-- The deep tier formed over four data members and programming allowed; one block open. -/
def deepUp : State :=
  let a : State := puts [(F.FL_STATUS_PROG_ALLOWED, 1), (F.FL_STATUS_WIDTH, 4)] solo
  { a with fl := { formed := true, cls := 2 ^ 72 + 8 * 2 ^ 112 + 500 * 2 ^ 96 } }

/-- The same with a captured page, an open stripe block and a table page to write. -/
def capturing (c : Capture) : State :=
  let a : State := deepUp
  { a with cul := { captures := [c], blocks := [(5, { st := 1 })], tableDirty := [(0, 1)], slots := [(0, 1)] } }

/-- The DEEP_PAGE its next program takes, and the state after. -/
def takenPage (c : Capture) : Nat × State :=
  match (capturing c).takePage false with
  | some t => t
  | none => (0, solo)

/-- An assay that relaxes, with 64 samples of the bank's voltage. -/
def relaxing : State :=
  let a : State := puts [(F.ASSAY_STATUS_STATE, 3)] solo
  { a with ssb := { samples := List.replicate 64 (0, 10, false) } }

/-- A sealed image that holds nothing. -/
def image0 : Image :=
  { seq := 1, sealed := true, width := 4, jseq := 1, freeboard := 1, psave := 1, rsave := 1, outOfRange := false, lines := [], pending := [],
    journal := [], queues := [], streams := [], rotations := [], counters := [], ringRegs := [], qps := [], horizons := [], commit := {} }

/-- RESTORE in a phase, over that image. -/
def restoring (phase : Nat) : State :=
  let a : State := puts [(F.RST_STATUS_PHASE, phase), (F.FB_STATUS_FREEBOARD_GIB, 9), (F.FB_ADMIT_MIB_MIB, 9)] solo
  { a with mode := .restore, ssb := { imageA := some image0, area := 0 } }

/-- Channel 0 in training. -/
def training : State := puts [(F.CH_STATUS_STATE 0, 1), (F.CH_CAPACITY_GIB 0, 16)] solo

/-- Channel 0 in service with a rank. -/
def inService : State := puts [(F.CH_STATUS_STATE 0, 2), (F.CH_STATUS_LOGICAL_RANKS 0, 1)] solo

/-- The same with frame 0 of its frames assigned to extent 0, whose page 0 is PRESENT. -/
def framed : State :=
  let a : State := inService
  { a with cul := { pages := [(0, { st := 2 })], extents := [(0, { frame := some 0 })] } }

/-- Slot 0 a member of the group, powered, with a record that allows any temperature. -/
def member6 : State :=
  let a : State := puts [(F.SLOT_STATUS_POWER_ON 0, 1), (F.SLOT_STATUS_TEMP_OK 0, 1), (F.SLOT_STATUS_STATE 0, 6)] deepUp
  { a with fl := { formed := true, records := [(0, 0x7F * 2 ^ 904)] } }

/-- Path 0 up, no link key. -/
def unlinked : State :=
  let a : State := puts [(F.CW_PATH_STATUS_STATE 0, 2), (F.CW_STATUS_PATHS_UP, 1), (F.ID_TEMPER_TEMPER_MAX, 9)] solo
  { a with cw := { allowNew := true } }

/-- The same with a link key in force. -/
def linked : State := { unlinked with cw := { linkKey := true, keyEpoch := 1 } }

/-- The same paired, with a HELLO under way. -/
def helloing : State :=
  let a : State := puts [(F.CW_PAIR_ID_ID, 9)] unlinked
  { a with cw := { paired := true, hello := true, allowReplace := true } }

/-- A HELLO of the other side. -/
def hello0 : Hello :=
  { sigOk := true, keyId := 7, side := 1, serial := 8, pairId := 0, epoch := 0, temper := 0, temperMax := 9, ownAuth := true, mirrorValid := false,
    mapValid := false, unsealed := false, serving := false, groupId := 0, echo := false, mapBase := 0, map := [] }

/-- The first mirror frame on path 0. -/
def mrx : MirrorRx := { path := 0, epoch := 1, seq := 1, fchk := true, tag := true }

/-- A witness that has just been sent a heartbeat. -/
def witOk : State := { solo with wit := { started := true, mySession := 7, sent := [(3, 0)] } }

/-- Its answer. -/
def witF : WitFrame :=
  { mac := true, session := 5, counter := 1, epoch := 0, fenceN := false, grantSide := 0, grantValid := false, reason := 0, echoSession := 7,
    echoCounter := 3 }

/-- The guest in service, its two links up. -/
def guestIn : State := puts [(F.KG_GUEST_STATUS_STATE, 5), (F.KG_MOD_STATUS_STATE 10, 2), (F.KG_MOD_STATUS_STATE 11, 2)] solo

/-- The same with grant 0: tenant 1, region 1's first GiB, read, write and autonomous. -/
def granted : State :=
  puts [(F.KG_GRANT_W0_VALID 0, 1), (F.KG_GRANT_W0_READ 0, 1), (F.KG_GRANT_W0_WRITE 0, 1), (F.KG_GRANT_W0_AUTONOMOUS 0, 1),
    (F.KG_GRANT_W0_TENANT 0, 1), (F.KG_GRANT_W1_BASE_SLOT 0, 4)] guestIn

/-- A guest operation that has been sent. -/
def gop : GuestOp := { q := 0, seq := 1, queue := 0, handle := 5, sent := true }

/-- Bank 0 of the embedded flash erasing its first sector. -/
def busyFlash : State := { solo with rv := { banks := [(0, { busy := some (0, 256, none) })] } }

/-- An update that has passed its component table. -/
def updating : State := { solo with rv := { update := { st := 2 } } }

/-- A slot whose signature and digest hold. -/
def goodCheck : SlotCheck := { sig := true, digest := true, owner := true }

/-- An update whose component has come whole into slot 1, with a sound header. -/
def verified : State :=
  { solo with rv := { update := { st := 3, comp := 1, size := 64, got := 64 }
                      words := [(0x100000, some (0x57465652 + 2 ^ 32 + 512 * 2 ^ 48 + 2 ^ 64)), (0x100001, some 0)] } }

/-- QUARANTINE with a save path. -/
def quarantined : State := { solo with mode := .quarantine }

/-- A ramp up at one of its steps. -/
def ramping (k : Nat) (pg : Bool) (n : Nat) : State :=
  let a : State := puts [(F.RAIL_STATUS_STATE k, 1)] solo
  { a with mode := .ramp, pw := { ramp := 1, rail := k, pg := pg, inWindow := n } }

/-- BRINGUP with a group. -/
def bringing : State := { deepUp with mode := .bringup }

/-- The same with a channel in service. -/
def placed : State := { puts [(F.CH_STATUS_STATE 0, 2), (F.CH_CAPACITY_GIB 0, 256)] deepUp with mode := .bringup }

/-- Converter channel 0 enabled. -/
def converting : State := puts [(F.ADC_CH_CFG_EN 0, 1)] solo

/-- An entry of source 100. -/
def entry0 : EvEntry :=
  { source := 100, severity := 1, cls := 1, taken := 0, escalated := false, est := false, seconds := 0, cycles := 0, detA := 0, detB := 0,
    snap := none, snapLate := false }

theorem witness_registerWrite : ∃ (agent : Agent) (off : Nat) (size : Nat) (_v : Nat) (o : Nat) (s : State),
    s.answers agent = true ∧ (agent = .guest → off < 0x10000) ∧ reachOf agent off = some o ∧ mayWrite agent o = true ∧
      accessOk off (some o) size = true :=
  ⟨.reeve, 0x1030, 4, 5, 0x1030, solo, by decide +kernel⟩

theorem witness_registerReadClear : ∃ (agent : Agent) (off : Nat) (size : Nat) (o : Nat) (s : State),
    s.answers agent = true ∧ (agent = .guest → off < 0x10000) ∧ reachOf agent off = some o ∧ (o < 0xF40000 ∨ 0xF50000 ≤ o) ∧
      accessOk off (some o) size = true :=
  ⟨.reeve, 0x1018, 8, 0x1018, solo, by decide +kernel⟩

theorem witness_registerReadLatchHigh : ∃ (agent : Agent) (off : Nat) (o : Nat) (s : State),
    s.answers agent = true ∧ (agent = .guest → off < 0x10000) ∧ reachOf agent off = some o ∧ (o < 0xF40000 ∨ 0xF50000 ≤ o) ∧
      off % 4 = 0 :=
  ⟨.reeve, 0x1000, 0x1000, solo, by decide +kernel⟩

theorem witness_guestRegRd : ∃ (p : Fin 2) (tag : Nat) (off : Nat) (m : State) (s : State),
    m = s.guestMsg p.val 0 1 ∧ m.guestLink p.val = 2 ∧ m.frozenMode = false ∧ tag < 1024 ∧ m.guestReq p.val tag = none ∧ off % 4 = 0 ∧ off < 0x10000 :=
  ⟨0, 3, 0, (solo.put (F.KG_MOD_STATUS_STATE 10) 2).guestMsg 0 0 1, solo.put (F.KG_MOD_STATUS_STATE 10) 2, rfl, by decide +kernel⟩

theorem witness_guestRegWr : ∃ (p : Fin 2) (tag : Nat) (off : Nat) (_value : BitVec 32) (m : State) (s : State),
    m = s.guestMsg p.val 0 1 ∧ m.guestLink p.val = 2 ∧ m.frozenMode = false ∧ tag < 1024 ∧ m.guestReq p.val tag = none ∧ off % 4 = 0 ∧ off < 0x10000 :=
  ⟨0, 3, 0xC, 1, (solo.put (F.KG_MOD_STATUS_STATE 10) 2).guestMsg 0 0 1, solo.put (F.KG_MOD_STATUS_STATE 10) 2, rfl, by decide +kernel⟩

theorem witness_cxlMemrd : ∃ (link : Fin 16) (ldid : Nat) (_tag : Nat) (dpa : Nat) (_sramBad : Bool) (n a : Nat) (s : State),
    s.cxlTarget link.val ldid = some n ∧ s.ldWithheld n = false ∧ s.cxlCheck n dpa false = (a, 0) :=
  ⟨0, 0, 5, 0, false, 0, slotAddr 0 4, solo, by decide +kernel⟩

theorem witness_cxlMemwr : ∃ (link : Fin 16) (ldid : Nat) (_tag : Nat) (dpa : Nat) (_data : Granule) (_poison : Bool) (_sramBad : Bool) (n a : Nat) (s : State),
    s.cxlTarget link.val ldid = some n ∧ s.ldWithheld n = false ∧ s.cxlCheck n dpa true = (a, 0) :=
  ⟨0, 0, 5, 64, 7, false, false, 0, slotAddr 0 4 + 64, solo, by decide +kernel⟩

theorem witness_cxlMemwrptl : ∃ (link : Fin 16) (ldid : Nat) (_tag : Nat) (dpa : Nat) (_data : Granule) (enables : BitVec 64) (poison : Bool) (_sramBad : Bool) (n a : Nat) (s : State),
    s.cxlTarget link.val ldid = some n ∧ s.ldWithheld n = false ∧ (enables ≠ 0 ∨ poison = true) ∧ s.cxlCheck n dpa true = (a, 0) :=
  ⟨0, 0, 5, 64, 7, 3, false, false, 0, slotAddr 0 4 + 64, solo, by decide +kernel⟩

theorem witness_cxlMemspecrd : ∃ (link : Fin 16) (ldid : Nat) (dpa : Nat) (n a : Nat) (s : State),
    s.cxlTarget link.val ldid = some n ∧ s.ldWithheld n = false ∧ s.cxlCheck n dpa false = (a, 0) :=
  ⟨0, 0, 128, 0, slotAddr 0 4 + 128, solo, by decide +kernel⟩

theorem witness_cxlMeminv : ∃ (link : Fin 16) (ldid : Nat) (_tag : Nat) (n : Nat) (s : State),
    s.cxlTarget link.val ldid = some n ∧ s.ldWithheld n = false :=
  ⟨0, 0, 9, 0, solo, by decide +kernel⟩

theorem witness_cxlUnsupportedM2s : ∃ (link : Fin 16) (ldid : Nat) (_tag : Nat) (_read : Bool) (n : Nat) (s : State),
    s.cxlTarget link.val ldid = some n ∧ s.ldWithheld n = false :=
  ⟨0, 0, 9, true, 0, solo, by decide +kernel⟩

theorem witness_writeCompletion : ∃ (id : Nat) (readbackOk : Bool) (w : WriteRec) (s : State),
    s.writes.find? (fun x => decide (x.id = id)) = some w ∧ w.done20 = false ∧ s.mode ≠ .save ∧ s.mode ≠ .quarantine ∧ readbackOk = true :=
  ⟨4, true, { id := 4, src := .hub, line := 9, twin := false, seq := 0, verify := false, done20 := false, whole := true, accepted := 0, suspended := false, sampled := false, wake := 0, arb := 0, hold := 0, repeats := 0 }, { solo with writes := [{ id := 4, src := .hub, line := 9, twin := false, seq := 0, verify := false, done20 := false, whole := true, accepted := 0, suspended := false, sampled := false, wake := 0, arb := 0, hold := 0, repeats := 0 }] }, by decide +kernel⟩

theorem witness_mirrorWindowDrain : ∃ (s : State),
    s.frozenMode = false :=
  ⟨{ solo with mode := .paired }, by decide +kernel⟩

theorem witness_persist : ∃ (q : Nat) (seq : Nat) (o : OpRec) (s : State),
    s.mayStart q seq 1 = some o :=
  ⟨0, 1, op 1 1, withOp 1 1 solo, by decide +kernel⟩

theorem witness_persistComplete : ∃ (q : Nat) (seq : Nat) (o : OpRec) (s : State),
    s.op? q seq = some o ∧ dOpcode o.desc = 1 ∧ o.phase = .running ∧ s.mode.twin = true ∧ s.fenced = false ∧ o.cover ≤ s.ackSeq ∧
      seq ≤ (s.queue q).horizon :=
  ⟨0, 1, { op 1 1 with phase := .running }, { setOps [{ op 1 1 with phase := .running }] solo with mode := .paired, queues := [(0, { state := 1, tenant := 1, horizon := 1, ops := [{ op 1 1 with phase := .running }] })] }, by decide +kernel⟩

theorem witness_persistStalled : ∃ (q : Nat) (seq : Nat) (o : OpRec) (s : State),
    s.op? q seq = some o ∧ dOpcode o.desc = 1 ∧ o.phase = .running ∧ o.stalled = false ∧ s.isSet F.PLD_CFG_PERSIST_WATCH_EN = true ∧
      s.get F.PLD_CFG_PERSIST_WATCH_MS ≠ 0 :=
  ⟨0, 1, { op 1 1 with phase := .running }, puts [(F.PLD_CFG_PERSIST_WATCH_EN, 1), (F.PLD_CFG_PERSIST_WATCH_MS, 5)] (setOps [{ op 1 1 with phase := .running }] solo), by decide +kernel⟩

theorem witness_gpfPhase1 : ∃ (ld : Fin 64) (l : Nat) (s : State),
    s.linkOfLd ld.val = some l ∧ s.linkUp l = true ∧ s.frozenMode = false :=
  ⟨0, 0, solo, by decide +kernel⟩

theorem witness_gpfPhase2 : ∃ (ld : Fin 64) (l : Nat) (s : State),
    s.linkOfLd ld.val = some l ∧ s.linkUp l = true ∧ s.frozenMode = false ∧ s.isSet (F.LD_MAP_DORMANT ld.val) = false ∧ s.fenced = false ∧
      s.mode.twin = false :=
  ⟨0, 0, solo, by decide +kernel⟩

theorem witness_gpfPhase2Done : ∃ (ld : Fin 64) (seq start : Nat) (s : State),
    (s.ld ld.val).gpf = some (seq, start) ∧ s.frozenMode = false ∧ s.fenced = false ∧ s.mode.twin = true ∧ seq ≤ s.ackSeq :=
  ⟨0, 0, 0, { solo with mode := .paired, lds := [(0, { gpf := some (0, 0) })] }, by decide +kernel⟩

theorem witness_configRequest : ∃ (ld : Fin 64) (_tag : Nat) (_ask : CfgAsk) (l : Nat) (s : State),
    s.linkOfLd ld.val = some l ∧ s.linkUp l = true ∧ s.mode ≠ .save ∧ (s.port (l / 4)).cfgLoaded = true :=
  ⟨0, 3, .power true, 0, solo, by decide +kernel⟩

theorem witness_perstNAssert : ∃ (p : Fin 4) (s : State),
    s.mode ≠ .save ∧ s.get (F.CXL_PORT_STATUS_SVC_STATE p.val) ≠ 0 :=
  ⟨0, solo, by decide +kernel⟩

theorem witness_perstNDeassert : ∃ (p : Fin 4) (s : State),
    s.mode ≠ .save ∧ s.get (F.CXL_PORT_STATUS_SVC_STATE p.val) ≠ 0 :=
  ⟨0, solo, by decide +kernel⟩

theorem witness_cxlLinkUp : ∃ (link : Fin 16) (width : Nat) (rate : Nat) (_mld : Bool) (_lopt : Bool) (s : State),
    s.mode.mainRails = true ∧ s.get (F.CXL_PORT_STATUS_SVC_STATE (link.val / 4)) ≠ 0 ∧ s.isSet (F.CXL_PORT_STATUS_PERST_ASSERTED (link.val / 4)) = false ∧ (s.link link.val).present = true ∧ s.linkUp link.val = false ∧ rate = 3 ∧ (s.link link.val).ldCount < 2 ∧ width = (s.link link.val).lanes ∧ [1, 2, 4, 8, 16].contains width = true :=
  ⟨0, 16, 3, false, false, puts [(F.CXL_LINK_STATUS_RATE 0, 0)] { solo with links := [(0, { present := true, ldCount := 1, lanes := 16 })] }, by decide +kernel⟩

theorem witness_cxlLinkDown : ∃ (link : Fin 16) (downs : List Nat) (s : State),
    s.linkUp link.val = true ∧ downs = ((s.port (link.val / 4)).downs.filter fun t => decide (s.now < t + secFc 60)) ++ [s.now] ∧ downs.length ≤ 16 :=
  ⟨0, [0], solo, by decide +kernel⟩

theorem witness_cxlHotReset : ∃ (link : Fin 16) (s : State),
    s.linkUp link.val = true ∧ s.mode ≠ .save :=
  ⟨0, solo, by decide +kernel⟩

theorem witness_functionLevelReset : ∃ (_ld : Fin 64) (s : State),
    s.mode ≠ .save :=
  ⟨0, solo, by decide +kernel⟩

theorem witness_cxlPortServiceWrite : ∃ (_p : Fin 4) (service : Bool) (s : State),
    s.mode.mainRails = true ∧ service = false :=
  ⟨0, false, solo, by decide +kernel⟩

theorem witness_cxlBindRestore : ∃ (link : Fin 16) (s : State),
    s.linkUp link.val = true :=
  ⟨0, solo.put (F.CXL_LINK_STATUS_BIND_HOLD 0) 1, by decide +kernel⟩

theorem witness_ideKmExchange : ∃ (link : Fin 16) (session : Nat) (act : IdeAct) (s : State),
    s.linkUp link.val = true ∧ s.frozenMode = false ∧ s.ideSession link.val session = true ∧ act = .program :=
  ⟨0, 5, .program, doeSession, by decide +kernel⟩

theorem witness_ideKmExchange_2 : ∃ (link : Fin 16) (session : Nat) (act : IdeAct) (s : State),
    s.linkUp link.val = true ∧ s.frozenMode = false ∧ s.ideSession link.val session = true ∧ s.get (F.CXL_LINK_STATUS_IDE_STATE link.val) = 1 ∧ act = .refresh :=
  ⟨0, 5, .refresh, (doeSession).put (F.CXL_LINK_STATUS_IDE_STATE 0) 1, by decide +kernel⟩

theorem witness_ideKmExchange_3 : ∃ (link : Fin 16) (_session : Nat) (act : IdeAct) (s : State),
    s.linkUp link.val = true ∧ s.frozenMode = false ∧ act = .disable :=
  ⟨0, 0, .disable, solo, by decide +kernel⟩

theorem witness_ideMacFailure : ∃ (link : Fin 16) (s : State),
    s.get (F.CXL_LINK_STATUS_IDE_STATE link.val) = 1 ∧ s.mode ≠ .save :=
  ⟨0, solo.put (F.CXL_LINK_STATUS_IDE_STATE 0) 1, by decide +kernel⟩

theorem witness_ideEpochVerified : ∃ (link : Fin 16) (s : State),
    s.get (F.CXL_LINK_STATUS_IDE_STATE link.val) = 1 ∧ s.frozenMode = false :=
  ⟨0, solo.put (F.CXL_LINK_STATUS_IDE_STATE 0) 1, by decide +kernel⟩

theorem witness_hdmDecoderCommit : ∃ (ld : Fin 64) (idx : Fin 4) (_base : Nat) (size : Nat) (skip : Nat) (ways : Nat) (gran : Nat) (_lockOnCommit : Bool) (l : Nat) (s : State),
    s.linkOfLd ld.val = some l ∧ s.linkUp l = true ∧ s.mode ≠ .save ∧ (Sparse.get {} idx.val (s.ld ld.val).hdm).locked = false ∧ hdmBase idx.val (s.ld ld.val).hdm + skip + size / max 1 ways ≤ s.winBytes ld.val ∧ ways ∈ [1, 2, 4, 8, 16] ∧ gran ∈ [256, 512, 1024, 2048, 4096, 8192, 16384] ∧ size ≠ 0 :=
  ⟨0, 0, 0, 2 ^ 30, 0, 1, 256, true, 0, solo, by decide +kernel⟩

theorem witness_flitReplay : ∃ (link : Fin 16) (ts : List Nat) (s : State),
    s.linkUp link.val = true ∧ ts = ((s.link link.val).replays.filter fun t => decide (s.now < t + secFc 1)) ++ [s.now] ∧ ts.length ≠ 1001 :=
  ⟨0, [0], solo, by decide +kernel⟩

theorem witness_getEventRecords : ∃ (ld : Fin 64) (_log : Fin 4) (s : State),
    s.mailboxTakes ld.val true false = true :=
  ⟨0, 1, solo, by decide +kernel⟩

theorem witness_clearEventRecords : ∃ (ld : Fin 64) (_log : Fin 4) (_all : Bool) (_handles : List Nat) (s : State),
    s.mailboxTakes ld.val true false = true :=
  ⟨0, 1, true, [], solo, by decide +kernel⟩

theorem witness_getEventInterruptPolicy : ∃ (ld : Fin 64) (s : State),
    s.mailboxTakes ld.val false false = true :=
  ⟨0, solo, by decide +kernel⟩

theorem witness_setEventInterruptPolicy : ∃ (ld : Fin 64) (policy : Nat) (s : State),
    s.mailboxTakes ld.val false false = true ∧ (∀ k < 4, bitsOf policy (8 * k) 2 ≤ 1) :=
  ⟨0, 0x01000101, solo, by decide +kernel⟩

theorem witness_getFwInfo : ∃ (ld : Fin 64) (s : State),
    s.mailboxTakes ld.val true false = true :=
  ⟨0, solo, by decide +kernel⟩

theorem witness_getTimestamp : ∃ (ld : Fin 64) (s : State),
    s.mailboxTakes ld.val true false = true :=
  ⟨0, solo, by decide +kernel⟩

theorem witness_setTimestamp : ∃ (ld : Fin 64) (_t : Nat) (s : State),
    s.mailboxTakes ld.val false false = true :=
  ⟨0, 77, solo, by decide +kernel⟩

theorem witness_getSupportedLogs : ∃ (ld : Fin 64) (s : State),
    s.mailboxTakes ld.val true false = true :=
  ⟨0, solo, by decide +kernel⟩

theorem witness_getLog : ∃ (ld : Fin 64) (cel : Bool) (s : State),
    s.mailboxTakes ld.val true false = true ∧ cel = true :=
  ⟨0, true, solo, by decide +kernel⟩

theorem witness_identifyMemoryDevice : ∃ (ld : Fin 64) (s : State),
    s.mailboxTakes ld.val true false = true :=
  ⟨0, solo, by decide +kernel⟩

theorem witness_getPartitionInfo : ∃ (ld : Fin 64) (s : State),
    s.mailboxTakes ld.val true false = true :=
  ⟨0, solo, by decide +kernel⟩

theorem witness_getLsa : ∃ (ld : Fin 64) (off : Nat) (len : Nat) (s : State),
    s.mailboxTakes ld.val false false = true ∧ off + len ≤ 65536 :=
  ⟨0, 0, 65536, solo, by decide +kernel⟩

theorem witness_setLsa : ∃ (ld : Fin 64) (off : Nat) (data : List Byte) (l : Sparse Nat) (f : Nat × State) (s : State),
    s.mailboxTakes ld.val false false = true ∧ (s.isSet (F.LD_MAP_DORMANT ld.val) = true → s.isSet (F.CXL_LD_STATUS_ACTIVATED ld.val) = true) ∧
      off + data.length ≤ 65536 ∧
      (List.range data.length).foldl (fun t i => Sparse.set 0 (off + i) ((data.getD i 0).toNat) t) (s.winRec ld.val).lsa = l ∧
      s.setWinRec { s.winRec ld.val with lsa := l } = f :=
  ⟨0, 0, [1, 2], _, _, solo, by decide +kernel, by decide +kernel, by decide +kernel, rfl, rfl⟩

theorem witness_getHealthInfo : ∃ (ld : Fin 64) (s : State),
    s.mailboxTakes ld.val true false = true :=
  ⟨0, solo, by decide +kernel⟩

theorem witness_getAlertConfiguration : ∃ (ld : Fin 64) (s : State),
    s.mailboxTakes ld.val true false = true :=
  ⟨0, solo, by decide +kernel⟩

theorem witness_getShutdownState : ∃ (ld : Fin 64) (s : State),
    s.mailboxTakes ld.val true false = true :=
  ⟨0, solo, by decide +kernel⟩

theorem witness_setShutdownState : ∃ (ld : Fin 64) (_v : Nat) (s : State),
    s.mailboxTakes ld.val false false = true :=
  ⟨0, 1, solo, by decide +kernel⟩

theorem witness_getPoisonList : ∃ (ld : Fin 64) (_dpa : Nat) (_len : Nat) (s : State),
    s.mailboxTakes ld.val true false = true :=
  ⟨0, 0, 64, solo, by decide +kernel⟩

theorem witness_injectPoison : ∃ (ld : Fin 64) (dpa : Nat) (p : Nat) (s : State),
    s.mailboxTakes ld.val false true = true ∧ s.mboxAddress ld.val dpa = some p ∧ s.fenced = false ∧
      (s.lines.filter fun e => e.2.poison && decide (e.2.psrc = 1)).length < 64 :=
  ⟨0, 0, slotAddr 0 4, solo, by decide +kernel⟩

theorem witness_clearPoison : ∃ (ld : Fin 64) (dpa : Nat) (_data : Granule) (p : Nat) (s : State),
    s.mailboxTakes ld.val false true = true ∧ s.mboxAddress ld.val dpa = some p ∧ s.fenced = false :=
  ⟨0, 0, 5, slotAddr 0 4, solo, by decide +kernel⟩

theorem witness_scanMedia : ∃ (ld : Fin 64) (dpa : Nat) (len : Nat) (s : State),
    s.mailboxTakes ld.val false false = true ∧ (s.ld ld.val).scan = none ∧ len ≠ 0 ∧ dpa + 64 * len ≤ s.winBytes ld.val :=
  ⟨0, 0, 16, solo, by decide +kernel⟩

theorem witness_getScanMediaCapabilities : ∃ (ld : Fin 64) (dpa : Nat) (len : Nat) (s : State),
    s.mailboxTakes ld.val false false = true ∧ dpa + 64 * len ≤ s.winBytes ld.val :=
  ⟨0, 0, 16, solo, by decide +kernel⟩

theorem witness_getScanMediaResults : ∃ (ld : Fin 64) (s : State),
    s.mailboxTakes ld.val false false = true :=
  ⟨0, solo, by decide +kernel⟩

theorem witness_scanMediaDone : ∃ (ld : Fin 64) (_bad : List Nat) (dpa len : Nat) (s : State),
    (s.ld ld.val).scan = some (dpa, len) ∧ s.frozenMode = false ∧ ((s.lines.filter fun e => e.2.poison).drop 65536) = [] :=
  ⟨0, [], 0, 16, { solo with lds := [(0, { scan := some (0, 16) })] }, by decide +kernel⟩

theorem witness_mailboxUnsupported : ∃ (ld : Fin 64) (_opcode : Nat) (s : State),
    s.mailboxTakes ld.val false false = true :=
  ⟨0, 0x4200, solo, by decide +kernel⟩

theorem witness_getLdInfo : ∃ (link : Fin 16) (s : State),
    s.linkUp link.val = true ∧ s.isSet (F.CXL_LINK_STATUS_MLD_ACTIVE link.val) = true ∧ s.mode ≠ .save :=
  ⟨0, solo.put (F.CXL_LINK_STATUS_MLD_ACTIVE 0) 1, by decide +kernel⟩

theorem witness_getLdAllocations : ∃ (link : Fin 16) (s : State),
    s.linkUp link.val = true ∧ s.isSet (F.CXL_LINK_STATUS_MLD_ACTIVE link.val) = true ∧ s.mode ≠ .save :=
  ⟨0, solo.put (F.CXL_LINK_STATUS_MLD_ACTIVE 0) 1, by decide +kernel⟩

theorem witness_getQosStatus : ∃ (link : Fin 16) (s : State),
    s.linkUp link.val = true ∧ s.isSet (F.CXL_LINK_STATUS_MLD_ACTIVE link.val) = true ∧ s.mode ≠ .save :=
  ⟨0, solo.put (F.CXL_LINK_STATUS_MLD_ACTIVE 0) 1, by decide +kernel⟩

theorem witness_fmApiUnsupported : ∃ (link : Fin 16) (_opcode : Nat) (s : State),
    s.linkUp link.val = true ∧ s.isSet (F.CXL_LINK_STATUS_MLD_ACTIVE link.val) = true ∧ s.mode ≠ .save :=
  ⟨0, 1, solo.put (F.CXL_LINK_STATUS_MLD_ACTIVE 0) 1, by decide +kernel⟩

theorem witness_ethLinkUp : ∃ (link : Fin 16) (s : State),
    s.ethAnswers = true ∧ s.get (F.RDMA_LINK_STATUS_SVC_STATE link.val) ≠ 0 ∧ s.ethLanes link.val ≠ 0 ∧ s.ethUp link.val = false :=
  ⟨0, solo.put (F.RDMA_LINK_STATUS_SVC_STATE 0) 1, by decide +kernel⟩

theorem witness_ethLinkDown : ∃ (link : Fin 16) (downs : List Nat) (s : State),
    s.ethUp link.val = true ∧ downs = ((Sparse.get [] link.val s.eth.downs).filter fun t => decide (s.now < t + secFc 60)) ++ [s.now] ∧ downs.length ≤ 16 :=
  ⟨0, [0], solo.put (F.RDMA_LINK_STATUS_UP 0) 1, by decide +kernel⟩

theorem witness_ethLinkServiceWrite : ∃ (_link : Fin 16) (service : Bool) (s : State),
    s.mode.mainRails = true ∧ service = false :=
  ⟨0, false, solo, by decide +kernel⟩

theorem witness_fecCodewordUncorrectable : ∃ (link : Fin 16) (ts : List Nat) (s : State),
    s.ethUp link.val = true ∧ ts = ((Sparse.get [] link.val s.eth.fecAt).filter fun t => decide (s.now < t + secFc 1)) ++ [s.now] ∧ ts.length ≠ 11 :=
  ⟨0, [5, 0], { solo.put (F.RDMA_LINK_STATUS_UP 0) 1 with eth := { fecAt := [(0, [5])] } }, by decide +kernel⟩

theorem witness_pfcFrameRx : ∃ (link : Fin 16) (pause : Bool) (s : State),
    s.ethUp link.val = true ∧ s.isSet F.RDMA_GLOBAL_CFG_FLOW_MODE = true ∧ pause = true ∧ Sparse.get 0 link.val s.eth.pausedAt = 0 :=
  ⟨0, true, puts [(F.RDMA_LINK_STATUS_UP 0, 1), (F.RDMA_GLOBAL_CFG_FLOW_MODE, 1)] solo, by decide +kernel⟩

theorem witness_pfcPauseLong : ∃ (link : Fin 16) (s : State),
    Sparse.get 0 link.val s.eth.pausedAt ≠ 0 :=
  ⟨0, { solo with eth := { pausedAt := [(0, 1)] } }, by decide +kernel⟩

theorem witness_arpNdRequest : ∃ (link : Fin 16) (addr : Nat) (sd : Nat) (s : State),
    s.ethUp link.val = true ∧ s.ethAnswers = true ∧ s.addressSide addr = some sd ∧ s.answersFor sd = true :=
  ⟨0, 77, 0, puts [(F.RDMA_LINK_STATUS_UP 0, 1), (F.RDMA_SVC_CTRL_VALID 3, 1), (F.RDMA_SVC_ADDR_ADDR 3 0, 77)] solo, by decide +kernel⟩

theorem witness_cmReq : ∃ (f : RxFrame) (addr : Nat) (pkey : Nat) (mtu : Nat) (rc : Bool) (_depth : Nat) (_psn : Nat) (priv : List Byte) (a : State) (t sd : Nat) (s : State),
    s.rxFrame f = (true, a) ∧ a.reqVerdict addr pkey mtu rc priv = .inr (t, sd) :=
  ⟨rxf, 77, 0x8005, 1024, true, 4, 9, [], (net.rxFrame rxf).2, 1, 0, net, by decide +kernel⟩

theorem witness_cmRtu : ∃ (f : RxFrame) (qpn : Nat) (a : State) (p : Qp) (s : State),
    s.rxFrame f = (true, a) ∧ a.qpOf? qpn = some p ∧ p.state = 1 ∧ s.mode.serving = true :=
  ⟨rxf, qpn0, ((netQp 1).rxFrame rxf).2, qp0 1, netQp 1, by decide +kernel⟩

theorem witness_cmDreq : ∃ (f : RxFrame) (qpn : Nat) (a : State) (p : Qp) (s : State),
    s.rxFrame f = (true, a) ∧ a.qpOf? qpn = some p ∧ s.mode.serving = true :=
  ⟨rxf, qpn0, ((netQp 2).rxFrame rxf).2, qp0 2, netQp 2, by decide +kernel⟩

theorem witness_cmRejRx : ∃ (f : RxFrame) (qpn : Nat) (a : State) (p : Qp) (s : State),
    s.rxFrame f = (true, a) ∧ a.qpOf? qpn = some p ∧ p.state = 1 ∧ s.mode.serving = true :=
  ⟨rxf, qpn0, ((netQp 1).rxFrame rxf).2, qp0 1, netQp 1, by decide +kernel⟩

theorem witness_cmOtherMad : ∃ (f : RxFrame) (a : State) (s : State),
    s.rxFrame f = (true, a) :=
  ⟨rxf, (net.rxFrame rxf).2, net, by decide +kernel⟩

theorem witness_rdmaReadReq : ∃ (f : RxFrame) (_qpn : Nat) (_pkey : Nat) (_psn : Nat) (_va : Nat) (_rkey : Nat) (_len : Nat) (_sram : List Nat) (a : State) (s : State),
    s.rxFrame f = (true, a) :=
  ⟨rxf, qpn0, 0x8005, 9, 0, 0, 64, [], (net.rxFrame rxf).2, net, by decide +kernel⟩

theorem witness_rdmaWritePacket : ∃ (f : RxFrame) (_qpn : Nat) (_pkey : Nat) (_psn : Nat) (_first : Bool) (_last : Bool) (_va : Nat) (_rkey : Nat) (_len : Nat) (_bytes : List Byte) (_sram : List Nat) (a : State) (s : State),
    s.rxFrame f = (true, a) :=
  ⟨rxf, qpn0, 0x8005, 9, true, true, 0, 0, 1, [5], [], (net.rxFrame rxf).2, net, by decide +kernel⟩

theorem witness_rdmaWriteAck : ∃ (qpn : Nat) (p : Qp) (x : RdmaAns) (rest : List RdmaAns) (s : State),
    s.qpOf? qpn = some p ∧ p.answers = x :: rest ∧ x.kind = 0 ∧ x.open_ = false ∧ s.frozenMode = false ∧ s.rdmaLinesDone (qpKeyOf qpn) x.psn = true ∧ s.rdmaFailed (qpKeyOf qpn) x.psn = 0 :=
  ⟨qpn0, { qp0 2 with answers := [⟨0, 9, 9, 0, 1, false, [], 0, 0, 0, false⟩] }, ⟨0, 9, 9, 0, 1, false, [], 0, 0, 0, false⟩, [], { solo with eth := { qps := [(0, { qp0 2 with answers := [⟨0, 9, 9, 0, 1, false, [], 0, 0, 0, false⟩] })] } }, by decide +kernel⟩

theorem witness_rdmaAtomic : ∃ (f : RxFrame) (_qpn : Nat) (_pkey : Nat) (_psn : Nat) (_swap : Bool) (_va : Nat) (_rkey : Nat) (_add : Nat) (_compare : Nat) (_sram : List Nat) (a : State) (s : State),
    s.rxFrame f = (true, a) :=
  ⟨rxf, qpn0, 0x8005, 9, true, 0, 0, 1, 2, [], (net.rxFrame rxf).2, net, by decide +kernel⟩

theorem witness_rdmaUnsupportedOpcode : ∃ (f : RxFrame) (_qpn : Nat) (_pkey : Nat) (_psn : Nat) (a : State) (s : State),
    s.rxFrame f = (true, a) :=
  ⟨rxf, qpn0, 0x8005, 9, (net.rxFrame rxf).2, net, by decide +kernel⟩

theorem witness_cqpSend : ∃ (f : RxFrame) (_qpn : Nat) (_pkey : Nat) (_psn : Nat) (_len : Nat) (_ds : List (BitVec 512)) (a : State) (s : State),
    s.rxFrame f = (true, a) :=
  ⟨rxf, qpn0, 0x8005, 9, 64, [0], (net.rxFrame rxf).2, net, by decide +kernel⟩

theorem witness_rdmaAckRx : ∃ (f : RxFrame) (qpn : Nat) (psn : Nat) (nak : Bool) (a : State) (p : Qp) (left : List (Nat × List CompRec)) (s : State),
    s.rxFrame f = (true, a) ∧ a.qpOf? qpn = some p ∧ s.mode.serving = true ∧
      left = (p.sent.filter fun e => decide (2 ^ 23 ≤ psnDiff e.1 psn) || (nak && decide (e.1 = psn))) :=
  ⟨rxf, qpn0, 9, true, ((netQp 2).rxFrame rxf).2, qp0 2, [], netQp 2, by decide +kernel⟩

theorem witness_cqpRnrNakRx : ∃ (f : RxFrame) (qpn : Nat) (psn : Nat) (a : State) (p : Qp) (s : State),
    s.rxFrame f = (true, a) ∧ a.qpOf? qpn = some p ∧ s.mode.serving = true ∧ p.sent.any (fun e => decide (e.1 = psn)) = true :=
  ⟨rxf, qpn0, 9, ((netWith { qp0 2 with sent := [(9, [])] }).rxFrame rxf).2, { qp0 2 with sent := [(9, [])] }, netWith { qp0 2 with sent := [(9, [])] }, by decide +kernel⟩

theorem witness_cqpRnrRetry : ∃ (qpn : Nat) (p : Qp) (s : State),
    s.qpOf? qpn = some p ∧ p.rnr = true ∧ s.frozenMode = false :=
  ⟨qpn0, { qp0 2 with rnr := true }, netWith { qp0 2 with rnr := true }, by decide +kernel⟩

theorem witness_completionSendFlush : ∃ (qpn : Nat) (p : Qp) (s : State),
    s.qpOf? qpn = some p ∧ p.cmd = true ∧ s.frozenMode = false :=
  ⟨qpn0, { qp0 2 with cmd := true }, netWith { qp0 2 with cmd := true }, by decide +kernel⟩

theorem witness_qpContextFetchDone : ∃ (qpn : Nat) (mine : List RdmaPkt) (s : State),
    (s.eth.fetching.filter fun e => decide (e.1 = qpKeyOf qpn)).map (·.2) = mine ∧ mine ≠ [] ∧ s.frozenMode = false :=
  ⟨qpn0, [⟨0, 1, qpn0, 0x8005, 9, false, .unsupported, []⟩], { netQp 2 with eth := { (netQp 2).eth with fetching := [(0, ⟨0, 1, qpn0, 0x8005, 9, false, .unsupported, []⟩)] } }, by decide +kernel⟩

theorem witness_qpCachePressureCheck : ∃ (s : State),
    2 * s.eth.missed ≤ s.eth.lookups :=
  ⟨solo, by decide +kernel⟩

theorem witness_hltHolddownExpiry : ∃ (gid : Nat) (h : Locator) (a : Nat) (s : State),
    s.host? gid = some h ∧ h.alternate = some a :=
  ⟨1, { loc with alternate := some 1 }, 1, { solo with eth := { hosts := [(1, { loc with alternate := some 1 })] } }, by decide +kernel⟩

theorem witness_hltMoveDrainDone : ∃ (gid : Nat) (h : Locator) (s : State),
    s.host? gid = some h ∧ h.old.isSome = true :=
  ⟨1, { loc with old := some 1 }, { solo with eth := { hosts := [(1, { loc with old := some 1 })] } }, by decide +kernel⟩

theorem witness_hltFlapClear : ∃ (gid : Nat) (h : Locator) (s : State),
    s.host? gid = some h ∧ h.flapping = true :=
  ⟨1, { loc with flapping := true }, { solo with eth := { hosts := [(1, { loc with flapping := true })] } }, by decide +kernel⟩

theorem witness_hltEntryAgeOut : ∃ (gid : Nat) (h : Locator) (s : State),
    s.host? gid = some h ∧ h.old = none ∧ s.qpsInUse.any (fun e => decide (e.2.gid = gid)) = false :=
  ⟨1, loc, { solo with eth := { hosts := [(1, loc)] } }, by decide +kernel⟩

theorem witness_cnpRx : ∃ (f : RxFrame) (qpn : Nat) (a : State) (p : Qp) (s : State),
    s.rxFrame f = (true, a) ∧ a.qpOf? qpn = some p ∧ (p.cutAt = 0 ∨ p.cutAt - 1 + usFc 50 ≤ s.now) :=
  ⟨rxf, qpn0, ((netQp 2).rxFrame rxf).2, qp0 2, netQp 2, by decide +kernel⟩

theorem witness_cnpRateRecovery : ∃ (qpn : Nat) (p : Qp) (s : State),
    s.qpOf? qpn = some p :=
  ⟨qpn0, qp0 2, netQp 2, by decide +kernel⟩

theorem witness_sluiceCnpTimer : ∃ (s : State),
    s.mode.serving = true :=
  ⟨solo, by decide +kernel⟩

theorem witness_copy : ∃ (q : Nat) (seq : Nat) (_sram : List Nat) (o : OpRec) (s : State),
    s.mayStart q seq 2 = some o :=
  ⟨0, 1, [], op 2 1, withOp 2 1 solo, by decide +kernel⟩

theorem witness_zero : ∃ (q : Nat) (seq : Nat) (o : OpRec) (s : State),
    s.mayStart q seq 3 = some o :=
  ⟨0, 1, op 3 1, withOp 3 1 solo, by decide +kernel⟩

theorem witness_copyZeroResume : ∃ (q : Nat) (seq : Nat) (_sram : List Nat) (o : OpRec) (s : State),
    s.op? q seq = some o ∧ (dOpcode o.desc = 2 ∨ dOpcode o.desc = 3) ∧ o.phase = .running ∧ s.mode.serving = true ∧ s.fenced = false :=
  ⟨0, 1, [], { op 2 1 with phase := .running }, setOps [{ op 2 1 with phase := .running }] solo, by decide +kernel⟩

theorem witness_copyZeroDone : ∃ (q : Nat) (seq : Nat) (o : OpRec) (s : State),
    s.op? q seq = some o ∧ (dOpcode o.desc = 2 ∨ dOpcode o.desc = 3) ∧ o.phase = .running ∧ (copyOperands o.desc).2.2 ≤ o.done ∧ s.opMerging q seq = false ∧ s.frozenMode = false ∧ s.opFailed q seq = none ∧ s.writes.any (fun w => decide (w.src = .op q seq) && !w.done20) = false :=
  ⟨0, 1, { op 3 1 with phase := .running }, setOps [{ op 3 1 with phase := .running }] solo, by decide +kernel⟩

theorem witness_hazardHoldRelease : ∃ (q : Nat) (seq : Nat) (_sram : List Nat) (o : OpRec) (s : State),
    s.mayStart q seq 2 = some o ∧ s.op? q seq = some o ∧ dOpcode o.desc = 2 ∧ o.phase = .held ∧ s.hazard q o = false :=
  ⟨0, 1, [], { op 2 1 with phase := .held }, setOps [{ op 2 1 with phase := .held }] solo, by decide +kernel⟩

theorem witness_wait : ∃ (q : Nat) (seq : Nat) (o : OpRec) (s : State),
    s.mayStart q seq 8 = some o ∧ s.targetExists (targetKey o.desc) = true ∧ (s.queue (targetKey o.desc)).tenant = (s.queue q).tenant :=
  ⟨0, 1, op 8 1, withOp 8 1 solo, by decide +kernel⟩

theorem witness_waitSatisfied : ∃ (q : Nat) (seq : Nat) (o : OpRec) (s : State),
    s.op? q seq = some o ∧ dOpcode o.desc = 8 ∧ o.phase = .running ∧ s.frozenMode = false ∧ dbits o.desc 16 0 64 ≤ (s.waitValue (targetKey o.desc) (dbits o.desc 24 0 2)).1 :=
  ⟨0, 1, { op 8 1 with phase := .running }, setOps [{ op 8 1 with phase := .running }] solo, by decide +kernel⟩

theorem witness_waitTimeout : ∃ (q : Nat) (seq : Nat) (o : OpRec) (s : State),
    s.op? q seq = some o ∧ dOpcode o.desc = 8 ∧ o.phase = .running ∧ dbits o.desc 28 0 32 ≠ 0 ∧ s.frozenMode = false :=
  ⟨0, 1, { op 8 1 with phase := .running, desc := desc 8 1 (7 * 2 ^ 224) }, setOps [{ op 8 1 with phase := .running, desc := desc 8 1 (7 * 2 ^ 224) }] solo, by decide +kernel⟩

theorem witness_abort : ∃ (q : Nat) (seq : Nat) (o : OpRec) (s : State),
    s.mayStart q seq 9 = some o ∧ s.targetExists (targetKey o.desc) = true ∧ (s.queue (targetKey o.desc)).tenant = (s.queue q).tenant :=
  ⟨0, 1, op 9 1, withOp 9 1 solo, by decide +kernel⟩

theorem witness_multipartAssembled : ∃ (q : Nat) (seq : Nat) (o : OpRec) (s : State),
    s.op? q seq = some o ∧ o.phase = .assembling ∧ o.payload.length + 1 = o.parts ∧ o.fin = none :=
  ⟨0, 1, { op 0x20 1 with phase := .assembling }, setOps [{ op 0x20 1 with phase := .assembling }] solo, by decide +kernel⟩

theorem witness_ringEnable : ∃ (ld : Fin 64) (r : Fin 64) (v : Nat) (s : State),
    (s.queue (ringKey ld.val r.val)).state ≠ 4 ∧ s.isSet (F.RING_CFG_ENABLE ld.val r.val) = false ∧ (s.writeRingCfg ld.val r.val v).ringCfgValid ld.val r.val = true :=
  ⟨0, 0, 2 ^ 31 + 9 * 2 ^ 19 + 8, ringReady, by decide +kernel⟩

theorem witness_ringDisable : ∃ (ld : Fin 64) (r : Fin 64) (s : State),
    (s.queue (ringKey ld.val r.val)).live = true :=
  ⟨0, 0, setOps [] solo, by decide +kernel⟩

theorem witness_ringDisabled : ∃ (ld : Fin 64) (r : Fin 64) (s : State),
    (s.queue (ringKey ld.val r.val)).state = 4 ∧ (s.queue (ringKey ld.val r.val)).ops = [] :=
  ⟨0, 0, { solo with queues := [(0, { state := 4 })] }, by decide +kernel⟩

theorem witness_pollerTick : ∃ (ld : Fin 64) (r : Fin 64) (s : State),
    s.pollerRuns (ringKey ld.val r.val) = true :=
  ⟨0, 0, setOps [] solo, by decide +kernel⟩

theorem witness_ringFetchData : ∃ (ld : Fin 64) (r : Fin 64) (ds : List (BitVec 512)) (a : State) (s : State),
    (s.queue (ringKey ld.val r.val)).state = 1 ∧ (s.queue (ringKey ld.val r.val)).expected ≤ (s.queue (ringKey ld.val r.val)).asked ∧ s.frozenMode = false ∧ (s.fetchAll (ringKey ld.val r.val) (ds.take ((s.queue (ringKey ld.val r.val)).asked + 1 - (s.queue (ringKey ld.val r.val)).expected))).1 = a :=
  ⟨0, 0, [], { solo with queues := [(0, { state := 1, asked := 1 })] }, { solo with queues := [(0, { state := 1, asked := 1 })] }, by decide +kernel⟩

theorem witness_ringControlRecordReturn : ∃ (ld : Fin 64) (r : Fin 64) (tail : Nat) (head : Nat) (k1 : Queue) (s : State),
    (s.queue (ringKey ld.val r.val)).state ≠ 0 ∧ (s.queue (ringKey ld.val r.val)).state ≠ 4 ∧ (s.queue (ringKey ld.val r.val)).fetched ≤ tail ∧ (s.queue (ringKey ld.val r.val)).cqHead ≤ head ∧ head ≤ (s.queue (ringKey ld.val r.val)).written ∧ { s.queue (ringKey ld.val r.val) with sqTail := tail, cqHead := head, fullRaised := (s.queue (ringKey ld.val r.val)).fullRaised && decide (head = (s.queue (ringKey ld.val r.val)).cqHead) } = k1 :=
  ⟨0, 0, 0, 0, { state := 1 }, { solo with queues := [(0, { state := 1 })] }, by decide +kernel⟩

theorem witness_cqHeadRecheck : ∃ (ld : Fin 64) (r : Fin 64) (s : State),
    s.cqFull (ringKey ld.val r.val) = true ∧ s.mode.mainRails = true :=
  ⟨0, 0, { solo with queues := [(0, { state := 1, written := 9000 })] }, by decide +kernel⟩

theorem witness_cqFullTimeout : ∃ (ld : Fin 64) (r : Fin 64) (s : State),
    s.cqFull (ringKey ld.val r.val) = true ∧ (s.queue (ringKey ld.val r.val)).fullRaised = false :=
  ⟨0, 0, { solo with queues := [(0, { state := 1, written := 9000 })] }, by decide +kernel⟩

theorem witness_ringIdleSleep : ∃ (ld : Fin 64) (r : Fin 64) (tail : Nat) (s : State),
    s.pollerRuns (ringKey ld.val r.val) = true ∧ (s.queue (ringKey ld.val r.val)).asked < (s.queue (ringKey ld.val r.val)).expected ∧ tail ≤ (s.queue (ringKey ld.val r.val)).fetched :=
  ⟨0, 0, 0, setOps [] solo, by decide +kernel⟩

theorem witness_ringWake : ∃ (ld : Fin 64) (mask : BitVec 64) (s : State),
    (∃ r < 64, mask.toNat.testBit r = true ∧ (s.queue (ringKey ld.val r)).state = 2) :=
  ⟨0, 1, { solo with queues := [(0, { state := 2 })] }, ⟨0, by decide +kernel⟩⟩

theorem witness_ringRestart : ∃ (ld : Fin 64) (r : Fin 64) (s : State),
    (s.queue (ringKey ld.val r.val)).state = 3 :=
  ⟨0, 0, { solo with queues := [(0, { state := 3 })] }, by decide +kernel⟩

theorem witness_irqCoalesceExpiry : ∃ (ld : Fin 64) (r : Fin 64) (notice : Bool) (s : State),
    notice = false ∧ (s.queue (ringKey ld.val r.val)).more5 = true ∧ s.isSet (F.RING_CFG_IRQ_EN ld.val r.val) = true :=
  ⟨0, 0, false, { solo.put (F.RING_CFG_IRQ_EN 0 0) 1 with queues := [(0, { state := 1, more5 := true })] }, by decide +kernel⟩

theorem witness_ringReadCompletionTimeout : ∃ (ld : Fin 64) (r : Fin 64) (s : State),
    (s.queue (ringKey ld.val r.val)).state = 1 ∨ (s.queue (ringKey ld.val r.val)).state = 2 :=
  ⟨0, 0, { solo with queues := [(0, { state := 1 })] }, by decide +kernel⟩

theorem witness_regionAttach : ∃ (q : Nat) (seq : Nat) (o : OpRec) (s : State),
    s.mayStart q seq 0x10 = some o ∧ s.tenantLeaving (s.queue q).tenant = false ∧ 1 ≤ dbits o.desc 16 0 32 ∧ dbits o.desc 16 0 32 ≤ 65536 ∧ (attachRegion o.desc (s.queue q).tenant).policy ≠ 3 ∧ dbits o.desc 21 0 5 ≤ 20 ∧ dbits o.desc 12 0 12 = 0xFFF ∧ s.attachNewCheck (s.queue q).tenant (dbits o.desc 16 0 32) (attachRegion o.desc (s.queue q).tenant).policy = none :=
  ⟨0, 1, { op 0x10 1 with desc := desc 0x10 1 (0xFFF * 2 ^ 96 + 2 ^ 128 + 2 ^ 160) }, setOps [{ op 0x10 1 with desc := desc 0x10 1 (0xFFF * 2 ^ 96 + 2 ^ 128 + 2 ^ 160) }] (puts [(F.TENANT_W0_KEYS_VALID 1, 1), (F.ADR_USABLE_GIB_GIB, 100)] solo), by decide +kernel⟩

theorem witness_regionAttach_2 : ∃ (q : Nat) (seq : Nat) (o : OpRec) (s : State),
    s.mayStart q seq 0x10 = some o ∧ s.tenantLeaving (s.queue q).tenant = false ∧ 1 ≤ dbits o.desc 16 0 32 ∧ dbits o.desc 16 0 32 ≤ 65536 ∧ (attachRegion o.desc (s.queue q).tenant).policy ≠ 3 ∧ dbits o.desc 21 0 5 ≤ 20 ∧ dbits o.desc 12 0 12 ≠ 0xFFF ∧ s.attachAgainCheck (recIdx s.side (dbits o.desc 12 0 12)) (s.queue q).tenant (dbits o.desc 16 0 32) (attachRegion o.desc (s.queue q).tenant).policy = none :=
  ⟨0, 1, { op 0x10 1 with desc := desc 0x10 1 (2 ^ 96 + 2 ^ 128 + 2 ^ 160) }, setOps [{ op 0x10 1 with desc := desc 0x10 1 (2 ^ 96 + 2 ^ 128 + 2 ^ 160) }] solo, by decide +kernel⟩

theorem witness_regionAttachComplete : ∃ (q : Nat) (seq : Nat) (o : OpRec) (v : Nat × Nat × Nat × Nat) (s : State),
    s.op? q seq = some o ∧ dOpcode o.desc = 0x10 ∧ o.phase = .running ∧ s.frozenMode = false ∧ (s.region o.cover).state ≠ 0 ∧ (if dbits o.desc 12 0 12 ≠ 0xFFF then 1 else 2) ≤ o.done ∧ (s.region o.cover).policy ≠ 0 ∧ o.fin = some v :=
  ⟨0, 1, { op 0x10 1 with phase := .running, done := 2, cover := 1, fin := some (0, 0, 5, 6) }, (0, 0, 5, 6), setOps [{ op 0x10 1 with phase := .running, done := 2, cover := 1, fin := some (0, 0, 5, 6) }] solo, by decide +kernel⟩

theorem witness_regionDetach : ∃ (q : Nat) (seq : Nat) (o : OpRec) (r : Region) (idx : Nat) (s : State),
    s.mayStart q seq 0x11 = some o ∧ recIdx (dbits o.desc 12 12 1) (dbits o.desc 12 0 12) = idx ∧ Sparse.get {} idx s.regionsNext = r ∧ s.serves (dbits o.desc 12 12 1) = true ∧ r.state = 1 ∧ idx % 4096 ≠ 0 ∧ r.tenant = (s.queue q).tenant :=
  ⟨0, 1, { op 0x11 1 with desc := desc 0x11 1 (2 ^ 96) }, { state := 1, policy := 1, baseSlot := 4, tenant := 1, keyGen := 7 }, 1, setOps [{ op 0x11 1 with desc := desc 0x11 1 (2 ^ 96) }] solo, by decide +kernel⟩

theorem witness_regionDetachComplete : ∃ (q : Nat) (seq : Nat) (o : OpRec) (s : State),
    s.op? q seq = some o ∧ dOpcode o.desc = 0x11 ∧ o.phase = .running ∧ s.frozenMode = false ∧ 2 ≤ o.done ∧ s.revoking o.cover (s.region o.cover) = false :=
  ⟨0, 1, { op 0x11 1 with phase := .running, done := 2, cover := 1 }, setOps [{ op 0x11 1 with phase := .running, done := 2, cover := 1 }] solo, by decide +kernel⟩

theorem witness_regionRelease : ∃ (idx : Fin 8192) (s : State),
    (s.region idx.val).state = 2 ∧ s.lines = [] ∧ s.cw.txStaged = [] ∧ s.erasing idx.val = false ∧ s.detachOpen idx.val = false ∧ s.serves (idx.val / 4096) = true ∧ s.fenced = false :=
  ⟨1, { solo with regions := [(1, { state := 2 })] }, by decide +kernel⟩

theorem witness_regionInfo : ∃ (q : Nat) (seq : Nat) (o : OpRec) (s : State),
    s.op? q seq = some o ∧ dOpcode o.desc = 0x12 ∧ o.phase = .ready ∧ s.frozenMode = false ∧ s.pw.firmware = true ∧ dbits o.desc 12 31 1 = 0 ∧ s.mode.serving = true ∧ (s.region (recIdx (dbits o.desc 12 12 1) (dbits o.desc 12 0 12))).state ≠ 0 ∧ (recIdx (dbits o.desc 12 12 1) (dbits o.desc 12 0 12)) % 4096 ≠ 0 ∧ (s.region (recIdx (dbits o.desc 12 12 1) (dbits o.desc 12 0 12))).tenant = (s.queue q).tenant :=
  ⟨0, 1, { op 0x12 1 with desc := desc 0x12 1 (2 ^ 96) }, setOps [{ op 0x12 1 with desc := desc 0x12 1 (2 ^ 96) }] solo, by decide +kernel⟩

theorem witness_tenantCreate : ∃ (t : Fin 4096) (s : State),
    t.val ≠ 0 ∧ s.tenantState t.val = 0 :=
  ⟨2, solo, by decide +kernel⟩

theorem witness_tenantRemove : ∃ (t : Fin 4096) (s : State),
    t.val ≠ 0 ∧ s.tenantState t.val = 1 :=
  ⟨1, solo, by decide +kernel⟩

theorem witness_bindingWrite : ∃ (pkeyMap : Bool) (n : Nat) (_v : Nat) (s : State),
    pkeyMap = true ∧ n < 4096 :=
  ⟨true, 4095, 0, solo, by decide +kernel⟩

theorem witness_bindingWrite_2 : ∃ (pkeyMap : Bool) (n : Nat) (_v : Nat) (s : State),
    pkeyMap = false ∧ n < 64 :=
  ⟨false, 63, 0, solo, by decide +kernel⟩

theorem witness_keyProvision : ∃ (q : Nat) (seq : Nat) (tagOk : Bool) (o : OpRec) (a : State) (s : State),
    s.mayStart q seq 0x18 = some o ∧ s.blobCheck q o = 0 ∧ s.unwrap o tagOk = (true, a) ∧ (s.keyBody.tenant (s.queue q).tenant).st ≠ 2 ∧ a.allKeyWaits = [] :=
  ⟨0, 1, true, { op 0x18 1 with desc := desc 0x18 1 (177 * 2 ^ 128), payload := [1 + 2 ^ 8 + 2 ^ 16 + 2 ^ 96] }, _, setOps [{ op 0x18 1 with desc := desc 0x18 1 (177 * 2 ^ 128), payload := [1 + 2 ^ 8 + 2 ^ 16 + 2 ^ 96] }] solo, by decide +kernel, by decide +kernel, rfl, by decide +kernel, by decide +kernel⟩

theorem witness_keyRotate : ∃ (q : Nat) (seq : Nat) (o : OpRec) (s : State),
    s.mayStart q seq 0x19 = some o ∧ dbits o.desc 12 0 12 = 0xFFF ∧ s.rotatable (s.queue q).tenant ≠ [] ∧ (s.rotatable (s.queue q).tenant).length ≤ 0xFFFFFFFF - s.get F.ADR_GEN_NEXT_GEN :=
  ⟨0, 1, { op 0x19 1 with desc := desc 0x19 1 (0xFFF * 2 ^ 96) }, setOps [{ op 0x19 1 with desc := desc 0x19 1 (0xFFF * 2 ^ 96) }] solo, by decide +kernel⟩

theorem witness_rotationSweepExtent : ∃ (idx : Fin 8192) (_bad : List (Nat × LineVerdict)) (s : State),
    (s.region idx.val).state = 1 ∧ (s.region idx.val).rotating = true ∧ s.get F.SLU_STATUS_STATE = 0 ∧ s.mode.serving = true ∧ s.fenced = false ∧ s.serves (idx.val / 4096) = true ∧ s.get (F.ROT_CURSOR_EXTENT idx.val) < ((s.region idx.val).sizeM1 + 1) * 512 ∧ s.sweepAbsent (regionBase idx.val (s.region idx.val) / 2 ^ 21 + s.get (F.ROT_CURSOR_EXTENT idx.val)) = [] :=
  ⟨1, [], { solo with regions := [(1, { state := 1, rotating := true, baseSlot := 4 })] }, by decide +kernel⟩

theorem witness_ksCommandDone : ∃ (k : Nat) (s : State),
    s.cry.ksLoading = some k ∧ k ≠ 16384 :=
  ⟨3, { solo with cry := { ksLoading := some 3 } }, by decide +kernel⟩

theorem witness_keyStoreUpdate : ∃ (s : State),
    s.ks.running = false ∧ s.ks.pendingChanges ≠ [] ∧ s.pw.firmware = true ∧ s.mode ≠ .save :=
  ⟨{ solo with ks := { pendingChanges := [.setMaster 1 0 1 5] } }, by decide +kernel⟩

theorem witness_keyStoreUpdateDone : ∃ (a : State) (s : State),
    s.ks.running = true ∧ s.commitStore.syncKeysValid = a ∧ a.ks.passes ≤ 1 :=
  ⟨_, { solo with ks := { running := true, passes := 1 } }, by decide +kernel, rfl, by decide +kernel⟩

theorem witness_cpIdleSleep : ∃ (home : Fin 64) (s : State),
    s.get (F.CP_PIPE_STATE (s.get (F.CP_MAP_PHYS home.val))) = 2 ∧ s.get F.LC_CTRL_CP_IDLE_LOG2 ≠ 15 ∧ s.mode.mainRails = true ∧ s.cry.asleep.contains (s.get (F.CP_MAP_PHYS home.val)) = false :=
  ⟨0, puts [(F.CP_PIPE_STATE 0, 2), (F.LC_CTRL_CP_IDLE_LOG2, 4)] solo, by decide +kernel⟩

theorem witness_cpRemapRequest : ∃ (_home : Fin 64) (_phys : Fin 128) (s : State),
    s.mode.mainRails = true :=
  ⟨0, 64, solo, by decide +kernel⟩

theorem witness_streamDeclare : ∃ (q : Nat) (seq : Nat) (bad : List (Nat × Nat)) (o : OpRec) (i : Nat) (s : State),
    s.mayStart q seq 0x20 = some o ∧ s.declaredStream q seq = none ∧ s.declareStatus o (s.queue q).tenant = none ∧ s.check (s.queueBinding q) (declareOperands o.desc).2.1 (128 + 8 * (declareOperands o.desc).2.2.1) false none = 0 ∧ s.listStatus (declareOperands o.desc).2.1 (128 + 8 * (declareOperands o.desc).2.2.1) bad = none ∧ s.listFormat (declareOperands o.desc).2.1 (declareOperands o.desc).2.2.1 (s.region (declareOperands o.desc).1) = true ∧ s.freeIndex ((declareOperands o.desc).1 / 4096) = some i ∧ (s.liveStreams ((declareOperands o.desc).1 / 4096)).foldl (fun m e => m + e.2.entries.length) 0 + (declareOperands o.desc).2.2.1 ≤ 4194304 :=
  ⟨0, 1, [], { op 0x20 1 with desc := desc 0x20 1 (2 ^ 96 + 4 * 2 ^ 30 * 2 ^ 128 + 2 ^ 192 + 2 ^ 224) }, 0, let a : State := setOps [{ op 0x20 1 with desc := desc 0x20 1 (2 ^ 96 + 4 * 2 ^ 30 * 2 ^ 128 + 2 ^ 192 + 2 ^ 224) }] solo; { a with regions := [(1, { state := 1, policy := 2, baseSlot := 4, tenant := 1, keyGen := 7 })], mem := [(4 * 2 ^ 30, 1)], lines := [(2 ^ 24, { gen := 7 })] }, by decide +kernel⟩

theorem witness_streamAdvance : ∃ (q : Nat) (seq : Nat) (o : OpRec) (j : Nat) (s : State),
    s.mayStart q seq 0x21 = some o ∧ s.streamOfHandle (dbits o.desc 12 0 16) (s.queue q).tenant = some j :=
  ⟨0, 1, op 0x21 1, 0, let a : State := withOp 0x21 1 solo; { a with cul := { a.cul with streams := [(0, { st := 1, region := 1, entries := [0] })] } }, by decide +kernel⟩

theorem witness_streamRetire : ∃ (q : Nat) (seq : Nat) (o : OpRec) (j : Nat) (s : State),
    s.mayStart q seq 0x22 = some o ∧ s.streamOfHandle (dbits o.desc 12 0 16) (s.queue q).tenant = some j :=
  ⟨0, 1, op 0x22 1, 0, let a : State := withOp 0x22 1 solo; { a with cul := { a.cul with streams := [(0, { st := 1, region := 1, entries := [0] })] } }, by decide +kernel⟩

theorem witness_streamStatusWrite : ∃ (j : Fin 1024) (s : State),
    (s.stream j.val).st ≠ 0 ∧ s.serves (j.val / 512) = true ∧ (s.stream j.val).changed = true :=
  ⟨0, { solo with cul := { streams := [(0, { st := 1, changed := true })] } }, by decide +kernel⟩

theorem witness_haSliceSleep : ∃ (home : Fin 64) (s : State),
    s.get (F.HA_SLICE_STATE (s.get (F.HA_MAP_PHYS home.val))) = 2 ∧ s.get F.FP_CTRL_HA_IDLE_LOG2 ≠ 15 ∧ s.queueUsed home.val = 0 ∧ s.mode.mainRails = true ∧ s.ingress.any (fun r => decide (homeOf r.line = home.val)) = false :=
  ⟨0, puts [(F.HA_SLICE_STATE 0, 2), (F.FP_CTRL_HA_IDLE_LOG2, 4)] solo, by decide +kernel⟩

theorem witness_victimWriteAck : ∃ (line : Nat) (s : State),
    (s.served true line).victims.contains line = true :=
  ⟨5, { solo with victims := [5] }, by decide +kernel⟩

theorem witness_victimWriteAck_2 : ∃ (line : Nat) (s : State),
    (s.served true line).victims.contains line = false :=
  ⟨5, solo, by decide +kernel⟩

theorem witness_haRemapRequest : ∃ (_home : Fin 64) (_phys : Fin 128) (s : State),
    s.mode.mainRails = true ∧ s.frozenMode = false :=
  ⟨0, 64, solo, by decide +kernel⟩

theorem witness_epochBoundary : ∃ (s : State),
    s.mode.mainRails = true ∧ s.mode ≠ .save :=
  ⟨solo, by decide +kernel⟩

theorem witness_fillLanded : ∃ (page : Nat) (_bad : List Nat) (_ecc : DeepEcc) (_verdicts : List (Nat × LineVerdict)) (_stalls : List (Nat × List Nat)) (_memory : Nat) (_crypto : Nat) (a b c : State) (s : State),
    s.assignFrame (extentOfPage page) = a ∧ (a.page page).st = 1 ∧ (a.extent (extentOfPage page)).frame ≠ none ∧ a.mode.mainRails = true ∧ a.pageMapped page = false ∧ (if (a.transOf page).st = 1 then a else a.fillOther page) = b ∧ (b.issueUpTo page b.cul.fills.length).landPage page = c ∧ b.zeroNoStall page = false :=
  ⟨0, [], ⟨[], []⟩, [], [], 0, 0, _, _, _, { solo with cul := { pages := [(0, { st := 1 })], extents := [(0, { frame := some 0 })] } }, rfl, by decide +kernel, by decide +kernel, by decide +kernel, by decide +kernel, rfl, rfl, by decide +kernel⟩

theorem witness_fillLanded_2 : ∃ (page : Nat) (_bad : List Nat) (_ecc : DeepEcc) (_verdicts : List (Nat × LineVerdict)) (_stalls : List (Nat × List Nat)) (_memory : Nat) (_crypto : Nat) (a b c : State) (s : State),
    s.assignFrame (extentOfPage page) = a ∧ (a.page page).st = 1 ∧ (a.extent (extentOfPage page)).frame ≠ none ∧ a.mode.mainRails = true ∧ a.pageMapped page = false ∧ (if (a.transOf page).st = 1 then a else a.fillOther page) = b ∧ (b.issueUpTo page b.cul.fills.length).landPage page = c ∧ b.zeroNoStall page = true :=
  ⟨2 ^ 18, [], ⟨[], []⟩, [], [], 0, 0, _, _, _, { solo with regions := [(1, { state := 1, policy := 0, baseSlot := 4, tenant := 1, keyGen := 7 })], cul := { pages := [(2 ^ 18, { st := 1 })], extents := [(2048, { frame := some 0 })] } }, rfl, by decide +kernel, by decide +kernel, by decide +kernel, by decide +kernel, rfl, rfl, by decide +kernel⟩

theorem witness_stallCeilingExpiry : ∃ (id : Nat) (_parts : List Nat) (r : ReadRec) (s : State),
    s.reads.find? (fun r => decide (r.id = id) && r.missed && decide (r.src ≠ .hub)) = some r ∧ s.present (pageOfLine (lineOf r.addr)) = false :=
  ⟨3, [], { id := 3, src := .guest 0 5, addr := 0, len := 64, taken := 0, missed := true, sampled := false, wake := 0, arb := 0, hazard := false }, { solo with reads := [{ id := 3, src := .guest 0 5, addr := 0, len := 64, taken := 0, missed := true, sampled := false, wake := 0, arb := 0, hazard := false }] }, by decide +kernel⟩

theorem witness_stallCeilingExpiry_2 : ∃ (id : Nat) (_parts : List Nat) (w : WriteRec) (s : State),
    s.reads.find? (fun r => decide (r.id = id) && r.missed && decide (r.src ≠ .hub)) = none ∧ s.writes.find? (fun w => decide (w.id = id) && w.verify && w.src.isRdma) = some w ∧ s.present (pageOfLine w.line) = false :=
  ⟨3, [], ({ id := 3, src := .rdma 0 9, line := 0, twin := false, seq := 0, verify := true, done20 := false, whole := false, accepted := 0, suspended := false, sampled := false, wake := 0, arb := 0, hold := 0, repeats := 0 } : WriteRec), { solo with writes := [({ id := 3, src := .rdma 0 9, line := 0, twin := false, seq := 0, verify := true, done20 := false, whole := false, accepted := 0, suspended := false, sampled := false, wake := 0, arb := 0, hold := 0, repeats := 0 } : WriteRec)] }, by decide +kernel⟩

theorem witness_extentDrop : ∃ (a : State) (x : Nat) (s : State),
    s.evictState = a ∧ a.cul.evicting = true ∧ (a.cul.extents.map (·.1)).find? (fun x => a.marked x && a.droppable x) = some x :=
  ⟨(let b : State := { puts [(F.CUL_FRAMES_COUNT, 10), (F.CUL_EVICT_CFG_EVICT_LOW_PERMIL, 50), (F.CUL_EVICT_CFG_EVICT_HIGH_PERMIL, 100)] solo with cul := { extents := [(0, { frame := some 0, evict := true })] } }; b.evictState), 0, { puts [(F.CUL_FRAMES_COUNT, 10), (F.CUL_EVICT_CFG_EVICT_LOW_PERMIL, 50), (F.CUL_EVICT_CFG_EVICT_HIGH_PERMIL, 100)] solo with cul := { extents := [(0, { frame := some 0, evict := true })] } }, by decide +kernel⟩

theorem witness_writebackCapture : ∃ (page : Nat) (s : State),
    (s.page page).st = 3 ∧ s.programsAllowed = true ∧ s.fl.formed = true ∧ s.cul.captures.length < 32640 ∧ s.mayCapture page = true :=
  ⟨0, let a : State := deepUp; { a with cul := { pages := [(0, { st := 3 })] } }, by decide +kernel⟩

theorem witness_writebackProgramDone : ∃ (page : Nat) (c : Capture) (deep : Nat) (a : State) (s : State),
    s.cul.captures.find? (fun c => decide (c.page = page)) = some c ∧ s.mode.mainRails = true ∧ s.mode ≠ .save ∧ s.takePage false = some (deep, a) :=
  ⟨0, { page := 0, cells := [], metas := [] }, (takenPage { page := 0, cells := [], metas := [] }).1, (takenPage { page := 0, cells := [], metas := [] }).2, capturing { page := 0, cells := [], metas := [] }, by decide +kernel⟩

theorem witness_programFailed : ∃ (page : Nat) (c : Capture) (deep : Nat) (a : State) (s : State),
    s.cul.captures.find? (fun c => decide (c.page = page)) = some c ∧ s.takePage false = some (deep, a) :=
  ⟨0, { page := 0, cells := [], metas := [] }, (takenPage { page := 0, cells := [], metas := [] }).1, (takenPage { page := 0, cells := [], metas := [] }).2, capturing { page := 0, cells := [], metas := [] }, by decide +kernel⟩

theorem witness_journalBlockWrite : ∃ (s : State),
    s.cul.jpend ≠ [] ∧ s.programsAllowed = true :=
  ⟨let a : State := deepUp; { a with cul := { jpend := [⟨0, 1, 0, 0⟩] } }, by decide +kernel⟩

theorem witness_tablePageWrite : ∃ (tp : Nat) (n deep : Nat) (a : State) (s : State),
    Sparse.get 0 tp s.cul.tableDirty ≠ 0 ∧ s.programsAllowed = true ∧ s.tablePageNumber tp = some n ∧ s.takePage false = some (deep, a) :=
  ⟨0, 0, (takenPage { page := 0, cells := [], metas := [] }).1, (takenPage { page := 0, cells := [], metas := [] }).2, capturing { page := 0, cells := [], metas := [] }, by decide +kernel⟩

theorem witness_gcVictimRelocate : ∃ (sb : Nat) (s : State),
    s.programsAllowed = true ∧ s.fl.formed = true ∧ s.blockStatus.gcVictim = some sb :=
  ⟨5, let a : State := deepUp; { a with cul := { blocks := [(5, { st := 4 })] } }, by decide +kernel⟩

theorem witness_wearLevelRelocate : ∃ (a : State) (x : Nat) (s : State),
    s.blockStatus = a ∧ a.programsAllowed = true ∧ a.get F.CUL_GC_CFG_WL_SPREAD < a.get F.CUL_ERASE_SPREAD_SPREAD ∧ (a.cul.blocks.filter fun e => decide (e.2.st = 3) || decide (e.2.st = 4)).map (·.1) = [x] :=
  ⟨(let a : State := deepUp; ({ a with cul := { blocks := [(5, { st := 3 }), (6, { st := 1, erase := 9 })] } } : State).blockStatus), 5, let a : State := deepUp; { a with cul := { blocks := [(5, { st := 3 }), (6, { st := 1, erase := 9 })] } }, by decide +kernel⟩

theorem witness_sluiceShareRecompute : ∃ (s : State),
    s.mode.mainRails = true ∧ s.mode ≠ .save :=
  ⟨solo, by decide +kernel⟩

theorem witness_thermalCapStep : ∃ (s : State),
    s.isSet F.SLU_STATUS_THERM_ENFORCE = true :=
  ⟨puts [(F.SLU_STATUS_THERM_ENFORCE, 1)] solo, by decide +kernel⟩

theorem witness_bankIdRead : ∃ (record : BitVec 2048) (crcOk : Bool) (s : State),
    (s.mode = .bringup ∨ s.mode = .watch ∨ s.mode.serving = true) ∧ crcOk = true ∧ bitsOf record.toNat 0 16 = 1 :=
  ⟨1, true, solo, by decide +kernel⟩

theorem witness_assayDue : ∃ (s : State),
    s.mode ≠ .bringup :=
  ⟨solo, by decide +kernel⟩

theorem witness_assayNow : ∃ (s : State),
    s.mode.mainRails = true :=
  ⟨solo, by decide +kernel⟩

theorem witness_assayPrepareTimeout : ∃ (s : State),
    s.get F.ASSAY_STATUS_STATE = 1 :=
  ⟨puts [(F.ASSAY_STATUS_STATE, 1)] solo, by decide +kernel⟩

theorem witness_assayEsrMeasure : ∃ (s : State),
    s.get F.ASSAY_STATUS_STATE = 2 ∧ s.ssb.measured = false ∧ 8 ≤ (s.lastSamples 0 8).length ∧ 8 ≤ (s.lastSamples 1 8).length :=
  ⟨let a : State := puts [(F.ASSAY_STATUS_STATE, 2)] solo; { a with ssb := { samples := List.replicate 8 (0, 10, false) ++ List.replicate 8 (1, 10, false) } }, by decide +kernel⟩

theorem witness_assayDischargeEnd : ∃ (s : State),
    s.get F.ASSAY_STATUS_STATE = 2 ∧ s.ssb.measured = true ∧ 100 * (s.latest 0 * 10 ^ 6 + s.ssb.esrUohm * s.latest 1) ≤ 97 * 10 ^ 6 * s.ssb.v0 :=
  ⟨let a : State := puts [(F.ASSAY_STATUS_STATE, 2)] solo; { a with ssb := { measured := true, v0 := 9 } }, by decide +kernel⟩

theorem witness_assayDischargeTimeout : ∃ (s : State),
    s.get F.ASSAY_STATUS_STATE = 2 :=
  ⟨puts [(F.ASSAY_STATUS_STATE, 2)] solo, by decide +kernel⟩

theorem witness_assayRelaxEnd : ∃ (a : State) (s : State),
    s.get F.ASSAY_STATUS_STATE = 3 ∧ 64 ≤ (s.lastSamples 0 64).length ∧ ({ s with ssb := { s.ssb with v2 := meanOf (s.lastSamples 0 64), rangedOver := s.ssb.rangedOver || mostlyRanged (s.lastSamples 0 64) } } : State) = a :=
  ⟨(let b : State := relaxing; { b with ssb := { b.ssb with v2 := 10, rangedOver := false } }), relaxing, by decide +kernel⟩

theorem witness_assayRechargeDone : ∃ (s : State),
    s.get F.ASSAY_STATUS_STATE = 5 ∧ 995 * s.ssb.v0 ≤ 1000 * s.latest 0 :=
  ⟨puts [(F.ASSAY_STATUS_STATE, 5)] solo, by decide +kernel⟩

theorem witness_assayRechargeTimeout : ∃ (s : State),
    s.get F.ASSAY_STATUS_STATE = 5 :=
  ⟨puts [(F.ASSAY_STATUS_STATE, 5)] solo, by decide +kernel⟩

theorem witness_assayRetryDue : ∃ (s : State),
    3 ≤ s.get F.ASSAY_STATUS_LAST_RESULT ∧ s.get F.ASSAY_STATUS_LAST_RESULT ≤ 6 ∧ s.get F.ASSAY_STATUS_STATE = 0 :=
  ⟨puts [(F.ASSAY_STATUS_LAST_RESULT, 3)] solo, by decide +kernel⟩

theorem witness_pfailNAssert : ∃ (s : State),
    s.mode ≠ .off :=
  ⟨solo, by decide +kernel⟩

theorem witness_pfailNDeassert : ∃ (s : State),
    s.mode ≠ .off :=
  ⟨solo, by decide +kernel⟩

theorem witness_pfailFilterExpiry : ∃ (s : State),
    s.ssb.pfailAt ≠ 0 ∧ s.ssb.pfailOn = false :=
  ⟨{ solo with ssb := { pfailAt := 1 } }, by decide +kernel⟩

theorem witness_spillwaySeal : ∃ (_us : Nat) (_energy : Nat) (s : State),
    s.mode = .save ∧ s.get F.SPW_STATUS_PHASE ≠ 5 :=
  ⟨0, 0, { solo with mode := .save }, by decide +kernel⟩

theorem witness_saveRestartWaitEnd : ∃ (s : State),
    s.mode = .save ∧ s.get F.SPW_STATUS_PHASE = 5 ∧ s.ssb.pfailAt = 0 ∧ s.railsLost = false :=
  ⟨let a : State := puts [(F.SPW_STATUS_PHASE, 5)] solo; { a with mode := .save }, by decide +kernel⟩

theorem witness_restorePhaseDone : ∃ (repaired : Nat) (ignored : Nat) (_damage : List (Nat × Nat)) (_gap : Bool) (_bad : List (Nat × LineVerdict)) (im : Image) (s : State),
    s.mode = .restore ∧ s.get F.RST_STATUS_PHASE = 1 ∧ (s.endScan repaired ignored).ssb.restoring = some im :=
  ⟨0, 0, [], false, [], image0, restoring 1, by decide +kernel⟩

theorem witness_restorePhaseDone_2 : ∃ (_repaired : Nat) (_ignored : Nat) (_damage : List (Nat × Nat)) (gap : Bool) (_bad : List (Nat × LineVerdict)) (s : State),
    s.mode = .restore ∧ s.get F.RST_STATUS_PHASE = 2 ∧ gap = false :=
  ⟨0, 0, [], false, [], restoring 2, by decide +kernel⟩

theorem witness_restorePhaseDone_3 : ∃ (_repaired : Nat) (_ignored : Nat) (_damage : List (Nat × Nat)) (_gap : Bool) (_bad : List (Nat × LineVerdict)) (s : State),
    s.mode = .restore ∧ s.get F.RST_STATUS_PHASE = 3 ∧ s.linesDone = true :=
  ⟨0, 0, [], false, [], restoring 3, by decide +kernel⟩

theorem witness_restorePhaseDone_4 : ∃ (_repaired : Nat) (_ignored : Nat) (_damage : List (Nat × Nat)) (_gap : Bool) (_bad : List (Nat × LineVerdict)) (s : State),
    s.mode = .restore ∧ s.get F.RST_STATUS_PHASE = 4 ∧ s.pendingArrivals = [] ∧ s.merges = [] :=
  ⟨0, 0, [], false, [], restoring 4, by decide +kernel⟩

theorem witness_restoreExit : ∃ (s : State),
    s.mode = .restore ∧ s.restoreReady = true ∧ s.cw.paired = false ∧ s.cw.linkKey = true :=
  ⟨{ restoring 5 with cw := { linkKey := true } }, by decide +kernel⟩

theorem witness_restoreExit_2 : ∃ (s : State),
    s.mode = .restore ∧ s.restoreReady = true ∧ s.cw.paired = true ∧ s.cw.ownAuth = false :=
  ⟨{ restoring 5 with cw := { paired := true } }, by decide +kernel⟩

theorem witness_dimmTempRead : ∃ (c : Fin 16) (d : Fin 2) (reading : Option (BitVec 16)) (v : BitVec 16) (a : State) (s : State),
    s.mode.mainRails = true ∧ s.mode ≠ .save ∧ reading = some v ∧ s.get (F.CH_STATUS_DIMMS c.val) ≠ 2 ∧ d.val = 0 ∧ (({ s with dram := { s.dram with tempFails := Sparse.set 0 (2 * c.val) 0 s.dram.tempFails } } : State).put (F.CH_TEMP_DIMM0 c.val) v.toNat) = a ∧ a.get (F.CH_STATUS_DIMMS c.val) ≠ 2 ∧ Sparse.get 0 (2 * c.val) a.dram.tempFails = 0 ∧ quarterC (a.get (F.CH_TEMP_DIMM0 c.val)) < 4 * (a.dimmHotC : Int) - 12 ∧ a.dram.limited = [] :=
  ⟨0, 0, some 100, 100, (let a : State := { solo with dram := { tempFails := [] } }; a.put (F.CH_TEMP_DIMM0 0) 100), { solo with dram := { tempFails := [] } }, by decide +kernel⟩

theorem witness_channelTrainingDone : ∃ (c : Fin 16) (lanes : List (Nat × Nat × Nat × Nat × Nat)) (_ppr : List Nat) (decoderOk : Bool) (a b : State) (s : State),
    s.get (F.CH_STATUS_STATE c.val) = 1 ∧ s.mode.mainRails = true ∧ s.mode ≠ .bringup ∧ s.judgeLanes c.val [] = (a, 0) ∧ lanes = [] ∧ decoderOk = true ∧ (a.put (F.CH_STATUS_STATE c.val) 2).put (F.CH_STATUS_OOS_CAUSE c.val) 0 = b :=
  ⟨0, [], [], true, (training.judgeLanes 0 []).1, (((training.judgeLanes 0 []).1.put (F.CH_STATUS_STATE 0) 2).put (F.CH_STATUS_OOS_CAUSE 0) 0), training, by decide +kernel⟩

theorem witness_channelTrainingTimeout : ∃ (c : Fin 16) (_step : Fin 8) (s : State),
    s.get (F.CH_STATUS_STATE c.val) = 1 ∧ s.mode.mainRails = true :=
  ⟨0, 3, training, by decide +kernel⟩

theorem witness_dqsDriftTrack : ∃ (c : Fin 16) (_drift : List (Fin 20 × Int)) (s : State),
    s.rankRuns c.val 0 = true :=
  ⟨0, [(3, -2)], inService, by decide +kernel⟩

theorem witness_rankPowerDownEntry : ∃ (c : Fin 16) (rank : Fin 8) (s : State),
    s.rankRuns c.val rank.val = true ∧ s.get F.DRC_CFG_PD_IDLE_US ≠ 0 ∧ Sparse.get 0 (c.val * 8 + rank.val) s.dram.ranks = 0 :=
  ⟨0, 0, puts [(F.DRC_CFG_PD_IDLE_US, 9)] inService, by decide +kernel⟩

theorem witness_rankSelfRefreshEntry : ∃ (c : Fin 16) (rank : Fin 8) (s : State),
    s.rankRuns c.val rank.val = true ∧ s.get F.DRC_CFG_SR_IDLE_MS ≠ 0 :=
  ⟨0, 0, puts [(F.DRC_CFG_SR_IDLE_MS, 9)] inService, by decide +kernel⟩

theorem witness_dramAlert : ∃ (c : Fin 16) (_replays : Fin 4) (ok : Bool) (_reads : List Nat) (_writes : List Nat) (s : State),
    s.rankRuns c.val 0 = true ∧ ok = true :=
  ⟨0, 1, true, [], [], inService, by decide +kernel⟩

theorem witness_dramAlert_2 : ∃ (c : Fin 16) (_replays : Fin 4) (ok : Bool) (reads : List Nat) (writes : List Nat) (s : State),
    s.rankRuns c.val 0 = true ∧ ok = false ∧ reads = [] ∧ writes = [] :=
  ⟨0, 1, false, [], [], inService, by decide +kernel⟩

theorem witness_dramPatrolRead : ∃ (c : Fin 16) (line : Option Nat) (_loc : List Nat) (bad : Bool) (_ecc : List EccNote) (_copyBad : List Nat) (_pct : Fin 101) (done : Bool) (s : State),
    s.get (F.CH_STATUS_STATE c.val) = 2 ∧ s.mode.mainRails = true ∧ s.frozenMode = false ∧ line = none ∧ bad = false ∧ done = false :=
  ⟨0, none, [], false, [], [], 100, false, inService, by decide +kernel⟩

theorem witness_dramPatrolRead_2 : ∃ (c : Fin 16) (line : Option Nat) (_loc : List Nat) (bad : Bool) (_ecc : List EccNote) (_copyBad : List Nat) (pct : Fin 101) (done : Bool) (l : Nat) (a : State) (s : State),
    s.get (F.CH_STATUS_STATE c.val) = 2 ∧ s.mode.mainRails = true ∧ s.frozenMode = false ∧ line = some l ∧ bad = false ∧ done = false ∧ (s.selectAll c.val 128).put (F.CH_PATROL_PCT c.val) pct.val = a ∧ a.channelOf l = c.val ∧ a.frameOf l ≠ none ∧ 2 ≤ (a.page (pageOfLine l)).st :=
  ⟨0, some 0, [], false, [], [], 5, false, 0, (let b : State := framed; (b.selectAll 0 128).put (F.CH_PATROL_PCT 0) 5), framed, by decide +kernel⟩

theorem witness_channelDrainPageCopy : ∃ (c : Fin 16) (_page : Option Nat) (s : State),
    s.get (F.CH_STATUS_STATE c.val) = 3 ∧ s.frozenMode = false ∧ s.mode.mainRails = true ∧ s.noRoom c.val = false :=
  ⟨0, none, puts [(F.CH_STATUS_STATE 0, 3), (F.CH_STATUS_STATE 1, 2), (F.CH_FRAMES_COUNT 1, 10000)] solo, by decide +kernel⟩

theorem witness_channelFault : ∃ (_c : Fin 16) (s : State),
    s.mode.mainRails = true :=
  ⟨0, solo, by decide +kernel⟩

theorem witness_lineDataArrival : ∃ (line : Nat) (verdict : LineVerdict) (lanes : Fin 3) (ecc : List EccNote) (copyBad : List Nat) (_memory : Nat) (_crypto : Nat) (a b : State) (s : State),
    ((s.reads.any fun r => r.missed && decide (lineOf r.addr = line)) || (s.merges.any fun m => decide (m.line = line))) = true ∧ s.present (pageOfLine line) = true ∧ s.mode.mainRails = true ∧ s.mode ≠ .quarantine ∧ verdict ≠ .uncorrectable ∧ lanes.val = 0 ∧ s.served false line = a ∧ ((a.countCorrected ecc).noteEcc (s.channelOf line) ((s.lineLocation line).drop 1) ecc).copyRow (s.channelOf line) (a.remaps (s.channelOf line)).length line copyBad = b :=
  ⟨0, .good, 0, [], [], 0, 0, _, _, { framed with reads := [{ id := 3, src := .guest 0 5, addr := 0, len := 64, taken := 0, missed := true, sampled := false, wake := 0, arb := 0, hazard := false }] }, by decide +kernel, by decide +kernel, by decide +kernel, by decide +kernel, by decide +kernel, by decide +kernel, rfl, rfl⟩

theorem witness_slotPresenceFiltered : ∃ (slot : Fin 20) (present : Bool) (_record : Nat) (_crcOk : Bool) (s : State),
    s.mode.mainRails = true ∧ s.isSet (F.SLOT_STATUS_PRESENT slot.val) ≠ present :=
  ⟨0, true, 0, true, solo, by decide +kernel⟩

theorem witness_slotPowerAttempt : ∃ (slot : Fin 20) (s : State),
    s.get (F.SLOT_STATUS_STATE slot.val) = 5 ∧ s.get (F.SLOT_STATUS_ATTEMPTS slot.val) = 0 :=
  ⟨0, puts [(F.SLOT_STATUS_STATE 0, 5)] solo, by decide +kernel⟩

theorem witness_slotPgAssert : ∃ (slot : Fin 20) (s : State),
    s.isSet (F.SLOT_STATUS_POWER_ON slot.val) = true :=
  ⟨0, puts [(F.SLOT_STATUS_POWER_ON 0, 1)] solo, by decide +kernel⟩

theorem witness_slotPgTimeout : ∃ (slot : Fin 20) (s : State),
    s.isSet (F.SLOT_STATUS_POWER_ON slot.val) = true ∧ s.isSet (F.SLOT_STATUS_PG slot.val) = false :=
  ⟨0, puts [(F.SLOT_STATUS_POWER_ON 0, 1)] solo, by decide +kernel⟩

theorem witness_slotFault : ∃ (slot : Fin 20) (s : State),
    s.isSet (F.SLOT_STATUS_POWER_ON slot.val) = true :=
  ⟨0, puts [(F.SLOT_STATUS_POWER_ON 0, 1)] solo, by decide +kernel⟩

theorem witness_slotPowerRetry : ∃ (slot : Fin 20) (s : State),
    (s.get (F.SLOT_STATUS_STATE slot.val) = 5 ∨ s.get (F.SLOT_STATUS_STATE slot.val) = 6 ∨ s.get (F.SLOT_STATUS_STATE slot.val) = 7) ∧ 1 ≤ s.get (F.SLOT_STATUS_ATTEMPTS slot.val) :=
  ⟨0, puts [(F.SLOT_STATUS_STATE 0, 6), (F.SLOT_STATUS_ATTEMPTS 0, 3)] solo, by decide +kernel⟩

theorem witness_slotSettleDone : ∃ (slot : Fin 20) (geometry : Bool) (_factoryBad : List Nat) (s : State),
    s.isSet (F.SLOT_STATUS_PG slot.val) = true ∧ s.get (F.SLOT_STATUS_STATE slot.val) = 5 ∧ geometry = true ∧ s.fl.taken.contains slot.val = false :=
  ⟨0, true, [5], puts [(F.SLOT_STATUS_PG 0, 1), (F.SLOT_STATUS_STATE 0, 5)] solo, by decide +kernel⟩

theorem witness_slotClearFault : ∃ (slot : Fin 20) (s : State),
    s.get (F.SLOT_STATUS_STATE slot.val) = 9 :=
  ⟨0, puts [(F.SLOT_STATUS_STATE 0, 9)] solo, by decide +kernel⟩

theorem witness_slotFailNow : ∃ (slot : Fin 20) (s : State),
    s.isMember slot.val = true :=
  ⟨0, puts [(F.SLOT_STATUS_STATE 0, 7)] solo, by decide +kernel⟩

theorem witness_onfiReadyTimeout : ∃ (slot : Fin 20) (s : State),
    s.isMember slot.val = true :=
  ⟨0, puts [(F.SLOT_STATUS_STATE 0, 6)] solo, by decide +kernel⟩

theorem witness_nandEraseDone : ∃ (what : EraseWhat) (_failed : List Nat) (sb : Nat) (s : State),
    s.isSet F.FL_STATUS_PROG_ALLOWED = true ∧ what = .block sb ∧ (s.block sb).st = 6 :=
  ⟨.block 5, [], 5, { deepUp with cul := { blocks := [(5, { st := 6 })] } }, by decide +kernel⟩

theorem witness_nandEraseDone_2 : ∃ (what : EraseWhat) (_failed : List Nat) (slot : Fin 20) (s : State),
    s.isSet F.FL_STATUS_PROG_ALLOWED = true ∧ what = .spareAreas slot :=
  ⟨.spareAreas 3, [], 3, deepUp, by decide +kernel⟩

theorem witness_nandEraseDone_3 : ∃ (what : EraseWhat) (_failed : List Nat) (s : State),
    s.isSet F.FL_STATUS_PROG_ALLOWED = true ∧ what = .imageArea 0 ∧ s.ssb.imageA = none ∧ s.ssb.erased.contains 0 = false :=
  ⟨.imageArea 0, [], { deepUp with ssb := { erased := [] } }, by decide +kernel⟩

theorem witness_rebuildStripe : ∃ (_bad : List Nat) (_ecc : DeepEcc) (_progFail : Bool) (s : State),
    s.get F.FL_REBUILD_STATUS_POSITION_A ≠ 31 ∧ s.programsAllowed = true ∧ s.fl.rbLeft = [] :=
  ⟨[], ⟨[], []⟩, false, puts [(F.FL_REBUILD_STATUS_POSITION_A, 0)] deepUp, by decide +kernel⟩

theorem witness_rebuildStripe_2 : ∃ (bad : List Nat) (ecc : DeepEcc) (progFail : Bool) (sb : Nat) (rest : List Nat) (a : State) (s : State),
    s.get F.FL_REBUILD_STATUS_POSITION_A ≠ 31 ∧ s.programsAllowed = true ∧ s.fl.rbLeft = sb :: rest ∧ bad = [] ∧ progFail = false ∧ (s.erasures sb s.fl.rbStripe []).length ≤ 2 ∧ s.noteLdpc sb ecc = a :=
  ⟨[], ⟨[], []⟩, false, 5, [], _, let a : State := puts [(F.FL_REBUILD_STATUS_POSITION_A, 0)] deepUp; { a with fl := { formed := true, rbLeft := [5] } }, by decide +kernel, by decide +kernel, by decide +kernel, by decide +kernel, by decide +kernel, by decide +kernel, rfl⟩

theorem witness_repairReplyTimeout : ∃ (id : Nat) (r : Nat × Nat × Nat) (s : State),
    s.fl.repairs.find? (fun r => decide (r.1 = id)) = some r :=
  ⟨1, (1, 0, 0), { deepUp with fl := { formed := true, repairs := [(1, 0, 0)] } }, by decide +kernel⟩

theorem witness_flashPatrolStripe : ∃ (bad : List Nat) (_ecc : DeepEcc) (parity : Option (Option Nat)) (marginal : Bool) (engine : Option (Fin 2)) (sb : Nat) (rest : List Nat) (s : State),
    s.mode.mainRails = true ∧ s.mode ≠ .save ∧ s.fl.formed = true ∧ s.fl.patrolLeft = sb :: rest ∧ bad = [] ∧ parity = none ∧ marginal = false ∧ engine = none :=
  ⟨[], ⟨[], []⟩, none, false, none, 5, [], { deepUp with fl := { formed := true, patrolLeft := [5] } }, by decide +kernel⟩

theorem witness_flashPatrolRateUpdate : ∃ (days left : Nat) (s : State),
    (if s.get F.FL_CTRL_PATROL_DAYS = 0 ∨ 14 < s.get F.FL_CTRL_PATROL_DAYS then 14 else s.get F.FL_CTRL_PATROL_DAYS) = days ∧ days * 86400 - (s.get F.ID_OPERATING_S_SECONDS - s.fl.patrolAt) = left :=
  ⟨14, 1209600, deepUp, by decide +kernel⟩

theorem witness_moduleTempRead : ∃ (slot : Fin 20) (reading : Option (BitVec 16)) (v : BitVec 16) (a b : State) (s : State),
    s.isSet (F.SLOT_STATUS_POWER_ON slot.val) = true ∧ reading = some v ∧ (s.put (F.SLOT_TEMP_CASE slot.val) v.toNat).put (F.SLOT_STATUS_SENSOR_FAIL slot.val) 0 = a ∧ ({ a with fl := { a.fl with tempFails := Sparse.set 0 slot.val 0 a.fl.tempFails } } : State) = b ∧ b.inWindow slot.val 0 = true ∧ b.isSet (F.SLOT_STATUS_TEMP_OK slot.val) = true ∧ b.slotsIn 6 = [slot.val] ∧ b.slotsIn 7 = [] ∧ b.inWindow slot.val 3 = true :=
  ⟨0, some 100, 100, (let c : State := member6; (c.put (F.SLOT_TEMP_CASE 0) 100).put (F.SLOT_STATUS_SENSOR_FAIL 0) 0), (let c : State := member6; (c.put (F.SLOT_TEMP_CASE 0) 100).put (F.SLOT_STATUS_SENSOR_FAIL 0) 0), member6, by decide +kernel⟩

theorem witness_pathTrainingDone : ∃ (p : Fin 2) (s : State),
    s.pathState p.val = 1 :=
  ⟨0, puts [(F.CW_PATH_STATUS_STATE 0, 1)] solo, by decide +kernel⟩

theorem witness_pathTrainingTimeout : ∃ (p : Fin 2) (s : State),
    s.pathState p.val = 1 :=
  ⟨0, puts [(F.CW_PATH_STATUS_STATE 0, 1)] solo, by decide +kernel⟩

theorem witness_pathLinkLoss : ∃ (p : Fin 2) (_fec : Fec) (s : State),
    s.pathState p.val = 2 :=
  ⟨0, ⟨3, 1⟩, puts [(F.CW_PATH_STATUS_STATE 0, 2)] solo, by decide +kernel⟩

theorem witness_linesFrameRx : ∃ (m : MirrorRx) (_es : List LineEntry) (win : Option WinRec) (a : State) (s : State),
    s.frameNext m a = true ∧ win = none :=
  ⟨mrx, [], none, (linked.countFec 0 {}).twinHeard, linked, by decide +kernel, rfl⟩

theorem witness_linesFrameRx_2 : ∃ (m : MirrorRx) (_es : List LineEntry) (win : Option WinRec) (a : State) (w : WinRec) (s : State),
    s.frameNext m a = true ∧ win = some w :=
  ⟨mrx, [], some ({ tenant := 1, side := 0, base := 4, span := 1, lsa := [], shutdown := 0 } : WinRec), (linked.countFec 0 {}).twinHeard, ({ tenant := 1, side := 0, base := 4, span := 1, lsa := [], shutdown := 0 } : WinRec), linked, by decide +kernel, rfl⟩

theorem witness_linesBgFrameRx : ∃ (m : MirrorRx) (_es : List LineEntry) (a : State) (s : State),
    s.frameNext m a = true :=
  ⟨mrx, [], linked.twinHeard, linked, by decide +kernel⟩

theorem witness_pageMarkRx : ∃ (m : MirrorRx) (_es : List (Nat × Bool)) (a : State) (s : State),
    s.frameNext m a = true :=
  ⟨mrx, [], linked.twinHeard, linked, by decide +kernel⟩

theorem witness_horizonFrameRx : ∃ (m : MirrorRx) (_es : List (Nat × Nat)) (a : State) (s : State),
    s.frameNext m a = true :=
  ⟨mrx, [], linked.twinHeard, linked, by decide +kernel⟩

theorem witness_recordFrameRx : ∃ (m : MirrorRx) (_kind : Nat) (_idx : Nat) (_words : List Nat) (a : State) (s : State),
    s.frameNext m a = true :=
  ⟨mrx, 1, 0, [], linked.twinHeard, linked, by decide +kernel⟩

theorem witness_recordCommitRx : ∃ (m : MirrorRx) (_seqs : List Nat) (a : State) (s : State),
    s.frameNext m a = true :=
  ⟨mrx, [], linked.twinHeard, linked, by decide +kernel⟩

theorem witness_keyGenEntryRx : ∃ (m : MirrorRx) (_side : Nat) (_gen : Nat) (_tenant : Nat) (_midx : Nat) (_salt : Nat) (a : State) (s : State),
    s.frameNext m a = true :=
  ⟨mrx, 0, 0, 0, 0, 0, linked.twinHeard, linked, by decide +kernel⟩

theorem witness_keyMasterRx : ∃ (m : MirrorRx) (_tenant : Nat) (_midx : Nat) (_serial : Nat) (_master : Nat) (a : State) (s : State),
    s.frameNext m a = true :=
  ⟨mrx, 0, 0, 0, 0, linked.twinHeard, linked, by decide +kernel⟩

theorem witness_keyDestroyRx : ∃ (m : MirrorRx) (_tenantKey : Bool) (_a : Nat) (_b : Nat) (x : State) (s : State),
    s.frameNext m x = true :=
  ⟨mrx, false, 0, 0, linked.twinHeard, linked, by decide +kernel⟩

theorem witness_repairReqRx : ∃ (m : MirrorRx) (_id : Nat) (_page : Nat) (a : State) (s : State),
    s.frameNext m a = true :=
  ⟨mrx, 0, 0, linked.twinHeard, linked, by decide +kernel⟩

theorem witness_assayStateRx : ∃ (m : MirrorRx) (_claim : Bool) (a : State) (s : State),
    s.frameNext m a = true :=
  ⟨mrx, true, linked.twinHeard, linked, by decide +kernel⟩

theorem witness_drainBeginRx : ∃ (m : MirrorRx) (a : State) (s : State),
    s.frameNext m a = true :=
  ⟨mrx, linked.twinHeard, linked, by decide +kernel⟩

theorem witness_catchupBeginRx : ∃ (m : MirrorRx) (_full0 : Bool) (_full1 : Bool) (a : State) (s : State),
    s.frameNext m a = true :=
  ⟨mrx, true, false, linked.twinHeard, linked, by decide +kernel⟩

theorem witness_catchupDoneRx : ∃ (m : MirrorRx) (a : State) (s : State),
    s.frameNext m a = true :=
  ⟨mrx, linked.twinHeard, linked, by decide +kernel⟩

theorem witness_temperSetRx : ∃ (m : MirrorRx) (_temper : Nat) (a : State) (s : State),
    s.frameNext m a = true :=
  ⟨mrx, 0, linked.twinHeard, linked, by decide +kernel⟩

theorem witness_unpairRx : ∃ (m : MirrorRx) (a : State) (s : State),
    s.frameNext m a = true :=
  ⟨mrx, linked.twinHeard, linked, by decide +kernel⟩

theorem witness_repairDoneRx : ∃ (m : MirrorRx) (_id : Nat) (_status : Nat) (a : State) (s : State),
    s.frameNext m a = true :=
  ⟨mrx, 0, 0, linked.twinHeard, linked, by decide +kernel⟩

theorem witness_keyCommittedRx : ∃ (m : MirrorRx) (_seq : Nat) (a : State) (s : State),
    s.frameNext m a = true :=
  ⟨mrx, 0, linked.twinHeard, linked, by decide +kernel⟩

theorem witness_controlFrameRx : ∃ (c : ControlRx) (z a b : State) (s : State),
    s.pathState c.path.val = 2 ∧ s.countFec c.path.val c.fec = z ∧ z.pathState c.path.val = 2 ∧ c.fchk = true ∧ c.tag = true ∧ z.cw.linkKey = true ∧ c.nak = 0 ∧ ((z.twinHeard.takeAck c.ack).takeCredit c.credit).pump = a ∧ ({ a with cw := { a.cw with partnerMode := c.mode, partnerFenced := c.fenced, partnerServing := c.serving, partnerReady := c.ready, partnerMeff := c.mEff, partnerEpoch := c.epoch } } : State) = b ∧ c.epoch ≤ b.get F.CW_PAIR_EPOCH_EPOCH :=
  ⟨{ path := 0, fchk := true, tag := true, ack := 0, nak := 0, credit := 0, mode := 0, fenced := false, serving := false, ready := false, mEff := 0, epoch := 0 }, _, _, _, linked, by decide +kernel, rfl, by decide +kernel, by decide +kernel, by decide +kernel, by decide +kernel, by decide +kernel, rfl, rfl, by decide +kernel⟩

theorem witness_helloRx : ∃ (p : Fin 2) (fchk : Bool) (fec : Fec) (h : Hello) (z a b : State) (s : State),
    s.pathState p.val = 2 ∧ fchk = true ∧ s.countFec p.val fec = z ∧ z.pathState p.val = 2 ∧ z.helloRefusal h = 0 ∧ z.twinHeard.pairWith h = a ∧ (if a.cw.hello then a else a.startHello) = b ∧ h.echo = false :=
  ⟨0, true, {}, { hello0 with pairId := 9 }, _, _, _, helloing, by decide +kernel, by decide +kernel, rfl, by decide +kernel, by decide +kernel, rfl, rfl, by decide +kernel⟩

theorem witness_helloRx_2 : ∃ (p : Fin 2) (fchk : Bool) (fec : Fec) (h : Hello) (z a b : State) (s : State),
    s.pathState p.val = 2 ∧ fchk = true ∧ s.countFec p.val fec = z ∧ z.pathState p.val = 2 ∧ z.helloRefusal h = 0 ∧ z.twinHeard.pairWith h = a ∧ h.echo = true ∧ a.cw.hello = true ∧ a.cw.paired = true ∧ a.get F.CW_PAIR_ID_ID = h.pairId ∧ ({ a with cw := { a.cw with helloHeard := true } } : State) = b :=
  ⟨0, true, {}, { hello0 with echo := true, pairId := 9 }, _, _, _, helloing, by decide +kernel, by decide +kernel, rfl, by decide +kernel, by decide +kernel, rfl, by decide +kernel, by decide +kernel, by decide +kernel, by decide +kernel, rfl⟩

theorem witness_nakTimer : ∃ (s : State),
    s.cw.linkKey = true ∧ s.cw.held ≠ [] ∧ (s.cw.held.any fun (f : Nat × CwBody) => decide (f.1 = s.get F.CW_RX_SEQ_SEQ + 1)) = false :=
  ⟨{ linked with cw := { linkKey := true, held := [(5, .unpair)] } }, by decide +kernel⟩

theorem witness_controlSendTimer : ∃ (p : Fin 2) (s : State),
    s.pathState p.val = 2 ∧ s.cw.linkKey = true :=
  ⟨0, linked, by decide +kernel⟩

theorem witness_helloSendTimer : ∃ (s : State),
    s.cw.hello = true :=
  ⟨helloing, by decide +kernel⟩

theorem witness_rekeyDue : ∃ (s : State),
    s.cw.linkKey = true :=
  ⟨linked, by decide +kernel⟩

theorem witness_cwRekey : ∃ (s : State),
    s.cw.linkKey = true :=
  ⟨linked, by decide +kernel⟩

theorem witness_heartbeatTimer : ∃ (s : State),
    s.witnessOn = true :=
  ⟨solo, by decide +kernel⟩

theorem witness_takeoverReqResend : ∃ (s : State),
    s.witnessOn = true ∧ s.wit.reason ≠ 0 :=
  ⟨{ solo with wit := { reason := 1 } }, by decide +kernel⟩

theorem witness_witnessStatusRx : ∃ (f : WitFrame) (a : State) (s : State),
    s.witnessOn = true ∧ s.witAccept 0x81 f = (true, a) ∧ a.witEcho f = true :=
  ⟨witF, (witOk.witAccept 0x81 witF).2, witOk, by decide +kernel⟩

theorem witness_witnessGrantRx : ∃ (f : WitFrame) (_scans : List (Nat × Nat × Nat)) (a : State) (s : State),
    s.witnessOn = true ∧ s.witAccept 0x82 f = (true, a) ∧ a.witEcho f = true :=
  ⟨witF, [], (witOk.witAccept 0x82 witF).2, witOk, by decide +kernel⟩

theorem witness_witnessDenyRx : ∃ (f : WitFrame) (a : State) (s : State),
    s.witnessOn = true ∧ s.witAccept 0x83 f = (true, a) ∧ a.witEcho f = true :=
  ⟨witF, (witOk.witAccept 0x83 witF).2, witOk, by decide +kernel⟩

theorem witness_witnessFenceRx : ∃ (f : WitFrame) (a : State) (s : State),
    s.witnessOn = true ∧ s.witAccept 0x84 f = (true, a) ∧ a.witEcho f = true :=
  ⟨witF, (witOk.witAccept 0x84 witF).2, witOk, by decide +kernel⟩

theorem witness_witnessContactTimeout : ∃ (s : State),
    s.isSet F.CW_STATUS_WITNESS_CONTACT = true :=
  ⟨puts [(F.CW_STATUS_WITNESS_CONTACT, 1)] solo, by decide +kernel⟩

theorem witness_twinContactTimeout : ∃ (s : State),
    s.isSet F.CW_STATUS_TWIN_CONTACT = true :=
  ⟨puts [(F.CW_STATUS_TWIN_CONTACT, 1)] solo, by decide +kernel⟩

theorem witness_fenceNAssert : ∃ (s : State),
    s.mode ≠ .off :=
  ⟨solo, by decide +kernel⟩

theorem witness_checkpointDue : ∃ (late : Bool) (_us : Nat) (s : State),
    s.ckptSides ≠ [] ∧ late = false ∧ s.checkpointWaits = false :=
  ⟨false, 0, { solo with mode := .paired }, by decide +kernel⟩

theorem witness_drainCutoverReady : ∃ (_us : Nat) (s : State),
    s.mode = .drain ∧ s.cw.cutover = 1 ∧ s.drained = true :=
  ⟨0, { solo with mode := .drain, cw := { cutover := 1 } }, by decide +kernel⟩

theorem witness_drainReleaseTimeout : ∃ (s : State),
    s.mode = .drain ∧ s.cw.cutover = 2 :=
  ⟨{ solo with mode := .drain, cw := { cutover := 2 } }, by decide +kernel⟩

theorem witness_catchupCopyExtent : ∃ (_x : Nat) (s : State),
    s.cw.linkKey = true :=
  ⟨0, linked, by decide +kernel⟩

theorem witness_catchupComplete : ∃ (s : State),
    s.cw.linkKey = true ∧ s.get F.CW_CATCHUP_STATUS_STATE = 2 ∧ s.cw.copyLeft = [] :=
  ⟨puts [(F.CW_CATCHUP_STATUS_STATE, 2)] linked, by decide +kernel⟩

theorem witness_handbackStart : ∃ (_us : Nat) (s : State),
    s.mode = .takeover ∧ s.get F.CW_CATCHUP_STATUS_STATE = 3 ∧ s.cw.copyDone = true ∧ s.cw.unacked = [] ∧ s.cw.cutover ≠ 2 :=
  ⟨0, let a : State := puts [(F.CW_CATCHUP_STATUS_STATE, 3)] linked; { a with mode := .takeover, cw := { a.cw with copyDone := true } }, by decide +kernel⟩

theorem witness_guestRdGran : ∃ (p : Fin 2) (tag : Nat) (handle : Nat) (grant : Nat) (addr : Nat) (_sramBad : Bool) (m : State) (s : State),
    m = s.guestMsg p.val 0 1 ∧ m.guestLink p.val = 2 ∧ m.frozenMode = false ∧ tag < 1024 ∧ m.guestReq p.val tag = none ∧ addr % 64 = 0 ∧ addr < 2 ^ 49 ∧ grant < 256 ∧ m.mode.serving = true ∧ m.grantCheck handle grant addr 64 false = 0 ∧ m.guestRange handle grant addr 64 false = 0 :=
  ⟨0, 0, 0, 0, 2 ^ 32, false, _, granted, rfl, by decide +kernel, by decide +kernel, by decide +kernel, by decide +kernel, by decide +kernel, by decide +kernel, by decide +kernel, by decide +kernel, by decide +kernel, by decide +kernel⟩

theorem witness_guestRdLine : ∃ (p : Fin 2) (tag : Nat) (handle : Nat) (grant : Nat) (addr : Nat) (_sramBad : Bool) (m : State) (s : State),
    m = s.guestMsg p.val 0 1 ∧ m.guestLink p.val = 2 ∧ m.frozenMode = false ∧ tag < 1024 ∧ m.guestReq p.val tag = none ∧ addr % 256 = 0 ∧ addr < 2 ^ 49 ∧ grant < 256 ∧ m.mode.serving = true ∧ m.grantCheck handle grant addr 256 false = 0 ∧ m.guestRange handle grant addr 256 false = 0 :=
  ⟨0, 0, 0, 0, 2 ^ 32, false, _, granted, rfl, by decide +kernel, by decide +kernel, by decide +kernel, by decide +kernel, by decide +kernel, by decide +kernel, by decide +kernel, by decide +kernel, by decide +kernel, by decide +kernel⟩

theorem witness_guestRdHint : ∃ (p : Fin 2) (tag : Nat) (handle : Nat) (grant : Nat) (addr : Nat) (m : State) (s : State),
    m = s.guestMsg p.val 0 1 ∧ m.guestLink p.val = 2 ∧ m.frozenMode = false ∧ tag < 1024 ∧ addr % 256 = 0 ∧ addr < 2 ^ 49 ∧ grant < 256 ∧ m.mode.serving = true ∧ m.grantCheck handle grant addr 256 false = 0 ∧ m.guestRange handle grant addr 256 false = 0 :=
  ⟨0, 0, 0, 0, 2 ^ 32, _, granted, rfl, by decide +kernel, by decide +kernel, by decide +kernel, by decide +kernel, by decide +kernel, by decide +kernel, by decide +kernel, by decide +kernel, by decide +kernel⟩

theorem witness_guestWrPtl : ∃ (p : Fin 2) (tag : Nat) (handle : Nat) (grant : Nat) (addr : Nat) (_mask : BitVec 64) (_data : Granule) (_sramBad : Bool) (m : State) (b : State) (s : State),
    m = s.guestMsg p.val 1 1 ∧ m.guestLink p.val = 2 ∧ m.frozenMode = false ∧ tag < 1024 ∧ m.guestReq p.val tag = none ∧ addr % 64 = 0 ∧ addr < 2 ^ 49 ∧ grant < 256 ∧ m.mode.serving = true ∧ m.grantCheck handle grant addr 64 true = 0 ∧ m.fenced = false ∧ m.guestRange handle grant addr 64 true = 0 ∧ m.addReq ⟨p.val, tag, some grant, handle⟩ = b :=
  ⟨0, 0, 0, 0, 2 ^ 32, 0, 0, false, _, _, granted, rfl, by decide +kernel, by decide +kernel, by decide +kernel, by decide +kernel, by decide +kernel, by decide +kernel, by decide +kernel, by decide +kernel, by decide +kernel, by decide +kernel, by decide +kernel, rfl⟩

theorem witness_guestWrGran : ∃ (p : Fin 2) (tag : Nat) (handle : Nat) (grant : Nat) (addr : Nat) (_data : Granule) (_sramBad : Bool) (m : State) (b : State) (s : State),
    m = s.guestMsg p.val 1 1 ∧ m.guestLink p.val = 2 ∧ m.frozenMode = false ∧ tag < 1024 ∧ m.guestReq p.val tag = none ∧ addr % 64 = 0 ∧ addr < 2 ^ 49 ∧ grant < 256 ∧ m.mode.serving = true ∧ m.grantCheck handle grant addr 64 true = 0 ∧ m.fenced = false ∧ m.guestRange handle grant addr 64 true = 0 ∧ m.addReq ⟨p.val, tag, some grant, handle⟩ = b :=
  ⟨0, 0, 0, 0, 2 ^ 32, 0, false, _, _, granted, rfl, by decide +kernel, by decide +kernel, by decide +kernel, by decide +kernel, by decide +kernel, by decide +kernel, by decide +kernel, by decide +kernel, by decide +kernel, by decide +kernel, by decide +kernel, rfl⟩

theorem witness_guestWrLine : ∃ (p : Fin 2) (tag : Nat) (handle : Nat) (grant : Nat) (addr : Nat) (_data : LineData) (m : State) (b : State) (s : State),
    m = s.guestMsg p.val 1 4 ∧ m.guestLink p.val = 2 ∧ m.frozenMode = false ∧ tag < 1024 ∧ m.guestReq p.val tag = none ∧ addr % 256 = 0 ∧ addr < 2 ^ 49 ∧ grant < 256 ∧ m.mode.serving = true ∧ m.grantCheck handle grant addr 256 true = 0 ∧ m.fenced = false ∧ m.guestRange handle grant addr 256 true = 0 ∧ m.addReq ⟨p.val, tag, some grant, handle⟩ = b :=
  ⟨0, 0, 0, 0, 2 ^ 32, 0, _, _, granted, rfl, by decide +kernel, by decide +kernel, by decide +kernel, by decide +kernel, by decide +kernel, by decide +kernel, by decide +kernel, by decide +kernel, by decide +kernel, by decide +kernel, by decide +kernel, rfl⟩

theorem witness_guest : ∃ (q : Nat) (seq : Nat) (o : OpRec) (s : State),
    s.mayStart q seq 0x30 = some o ∧ s.guestServes q = true ∧ dbits o.desc 12 0 8 ≤ recByte s.guestRecord 54 :=
  ⟨0, 1, op 0x30 1, withOp 0x30 1 guestIn, by decide +kernel⟩

theorem witness_gqSubmitDispatch : ∃ (q : Nat) (o : GuestOp) (s : State),
    (s.kg.ops.find? fun o => decide (o.q = q) && !o.sent) = some o ∧ s.guestState = 5 ∧ 2 ≤ s.guestLink (o.queue % 2) ∧ (s.kg.ops.filter fun x => x.sent).length < recHalf s.guestRecord 56 ∧ s.frozenMode = false :=
  ⟨0, { q := 0, seq := 1, queue := 0 }, { puts [(F.KG_GUEST_ID_RECORD 14, 1)] guestIn with kg := { ops := [{ q := 0, seq := 1, queue := 0 }] } }, by decide +kernel⟩

theorem witness_gqTakenRx : ∃ (p : Fin 2) (handle : Nat) (m : State) (o : GuestOp) (r : OpRec) (s : State),
    m = s.guestMsg p.val 2 1 ∧ m.liveHandle handle = some o ∧ m.guestLink p.val = 2 ∧ o.queue % 2 = p.val ∧ m.frozenMode = false ∧ ({ m with kg := { m.kg with ops := m.kg.ops.map fun x => if x.sent ∧ x.handle = handle then { x with taken := true } else x } } : State).op? o.q o.seq = some r :=
  ⟨0, 5, _, gop, op 0x30 1, { withOp 0x30 1 guestIn with kg := { ops := [gop] } }, rfl, by decide +kernel, by decide +kernel, by decide +kernel, by decide +kernel, by decide +kernel⟩

theorem witness_gqDoneRx : ∃ (p : Fin 2) (handle : Nat) (code : Nat) (_ra : Nat) (_rb : Nat) (m : State) (o : GuestOp) (s : State),
    m = s.guestMsg p.val 2 1 ∧ (m.kg.ops.find? fun o => o.sent && decide (o.handle = handle)) = some o ∧ m.guestLink p.val = 2 ∧ o.queue % 2 = p.val ∧ m.frozenMode = false ∧ o.aborted = false ∧ code = 0 :=
  ⟨0, 5, 0, 0, 0, _, gop, { withOp 0x30 1 guestIn with kg := { ops := [gop] } }, rfl, by decide +kernel, by decide +kernel, by decide +kernel, by decide +kernel, by decide +kernel, by decide +kernel⟩

theorem witness_gqTimeout : ∃ (handle : Nat) (o : GuestOp) (s : State),
    (s.kg.ops.find? fun o => o.sent && decide (o.handle = handle)) = some o ∧ s.frozenMode = false :=
  ⟨5, gop, { withOp 0x30 1 guestIn with kg := { ops := [gop] } }, by decide +kernel⟩

theorem witness_grantRevoke : ∃ (grant : Fin 256) (s : State),
    s.isSet (F.KG_GRANT_W0_VALID grant.val) = true :=
  ⟨0, granted, by decide +kernel⟩

theorem witness_grantRevokedSend : ∃ (grant : Fin 256) (s : State),
    s.isSet (F.KG_GRANT_W3_REVOKING grant.val) = true ∧ s.get (F.KG_GRANT_W3_OUTSTANDING grant.val) = 0 ∧ s.kg.revokeSent.contains grant.val = false ∧ s.frozenMode = false ∧ 2 ≤ s.guestLink s.guestPort :=
  ⟨0, puts [(F.KG_GRANT_W3_REVOKING 0, 1)] guestIn, by decide +kernel⟩

theorem witness_grantAckRx : ∃ (p : Fin 2) (grant : Fin 256) (m : State) (s : State),
    m = s.guestMsg p.val 2 1 ∧ m.guestLink p.val = 2 ∧ m.kg.revokeSent.contains grant.val = true ∧ m.frozenMode = false :=
  ⟨0, 0, _, { guestIn with kg := { revokeSent := [0] } }, rfl, by decide +kernel, by decide +kernel, by decide +kernel⟩

theorem witness_grantAckTimeout : ∃ (grant : Fin 256) (s : State),
    s.kg.revokeSent.contains grant.val = true ∧ s.frozenMode = false :=
  ⟨0, { guestIn with kg := { revokeSent := [0] } }, by decide +kernel⟩

theorem witness_kerupLinkUp : ∃ (k : Fin 13) (width : Nat) (repaired : Nat) (spares : Nat) (a b : State) (s : State),
    s.linkRuns k.val = true ∧ k.val < 10 ∧ repaired ≤ Sparse.get 0 k.val s.rv.units.lanes ∧ fullWidth k.val ≤ width ∧ (((s.put (F.KG_MOD_STATUS_STATE k.val) 2).put (F.KG_MOD_STATUS_WIDTH k.val) width).put (F.KG_MOD_STATUS_REPAIRED k.val) repaired).put (F.KG_MOD_STATUS_SPARES_LEFT k.val) spares = a ∧ (if s.kg.trained.contains k.val then a.bump (F.KG_MOD_RETRAINS_COUNT k.val) 1 else { a with kg := { a.kg with trained := a.kg.trained ++ [k.val] } }) = b :=
  ⟨0, 64, 0, 0, _, _, solo, by decide +kernel, by decide +kernel, by decide +kernel, by decide +kernel, rfl, rfl⟩

theorem witness_kerupLinkDown : ∃ (k : Fin 13) (s : State),
    2 ≤ s.get (F.KG_MOD_STATUS_STATE k.val) ∧ k.val ≠ 10 ∧ k.val ≠ 11 :=
  ⟨0, puts [(F.KG_MOD_STATUS_STATE 0, 2)] solo, by decide +kernel⟩

theorem witness_kerupLinkDown_2 : ∃ (k : Fin 13) (s : State),
    2 ≤ s.get (F.KG_MOD_STATUS_STATE k.val) ∧ (k.val = 10 ∨ k.val = 11) :=
  ⟨10, guestIn, by decide +kernel⟩

theorem witness_kerupL1Entry : ∃ (p : Fin 2) (s : State),
    s.guestLink p.val = 2 ∧ s.get F.KG_CTRL_L1_IDLE_US ≠ 0 ∧ s.kg.held = [] :=
  ⟨0, puts [(F.KG_CTRL_L1_IDLE_US, 5)] guestIn, by decide +kernel⟩

theorem witness_kerupL1Exit : ∃ (p : Fin 2) (s : State),
    s.guestLink p.val = 3 :=
  ⟨0, puts [(F.KG_MOD_STATUS_STATE 10, 3)] guestIn, by decide +kernel⟩

theorem witness_kerupFlitReplay : ∃ (k : Fin 13) (ts : List Nat) (s : State),
    2 ≤ s.get (F.KG_MOD_STATUS_STATE k.val) ∧ ((Sparse.get [] k.val s.kg.replays).filter fun t => decide (s.now < t + secFc 1)) ++ [s.now] = ts :=
  ⟨0, [0], puts [(F.KG_MOD_STATUS_STATE 0, 2)] solo, by decide +kernel⟩

theorem witness_kerupCreditReturn : ∃ (p : Fin 2) (idle : Bool) (_req : Nat) (_wdat : Nat) (_cmp : Nat) (_rdat : Nat) (_bad : List Nat) (s : State),
    s.guestLink p.val = 2 ∧ idle = true :=
  ⟨0, true, 1, 1, 1, 1, [5], guestIn, by decide +kernel⟩

theorem witness_guestRefclkStable : ∃ (s : State),
    s.kg.step = 1 ∧ s.guestState = 2 ∧ s.pw.lost.contains 5 = false ∧ s.pw.lost.contains 28 = false :=
  ⟨{ puts [(F.KG_GUEST_STATUS_STATE, 2)] solo with kg := { step := 1 } }, by decide +kernel⟩

theorem witness_gReadyAssert : ∃ (s : State),
    s.kg.step = 2 ∧ s.guestState = 3 :=
  ⟨{ puts [(F.KG_GUEST_STATUS_STATE, 3)] solo with kg := { step := 2 } }, by decide +kernel⟩

theorem witness_guestBringupTimeout : ∃ (s : State),
    s.kg.step ≠ 0 ∧ s.frozenMode = false :=
  ⟨{ puts [(F.KG_GUEST_STATUS_STATE, 3)] solo with kg := { step := 2 } }, by decide +kernel⟩

theorem witness_guestReset : ∃ (s : State),
    s.frozenMode = false :=
  ⟨guestIn, by decide +kernel⟩

theorem witness_guestServiceWrite : ∃ (_service : Bool) (s : State),
    s.frozenMode = false :=
  ⟨true, guestIn, by decide +kernel⟩

theorem witness_gErrNfAssert : ∃ (s : State),
    s.guestRuns = true :=
  ⟨guestIn, by decide +kernel⟩

theorem witness_gErrFAssert : ∃ (s : State),
    s.guestRuns = true :=
  ⟨guestIn, by decide +kernel⟩

theorem witness_echoRspRx : ∃ (p : Fin 2) (pattern : BitVec 64) (m : State) (s : State),
    m = s.guestMsg p.val 2 1 ∧ Sparse.get none p.val m.kg.pattern = some pattern.toNat ∧ m.kg.step = 5 ∧ m.guestLink p.val = 2 :=
  ⟨0, 9, _, { guestIn with kg := { step := 5, pattern := [(0, some 9)] } }, rfl, by decide +kernel, by decide +kernel, by decide +kernel⟩

theorem witness_kgGregTimeout : ∃ (off : Nat) (x : GuestAccess) (s : State),
    (s.kg.accesses.find? fun a => decide (a.off = off % 0x10000 / 4 * 4)) = some x :=
  ⟨4, { agent := .reeve, off := 4, write := true, tag := 68 }, { guestIn with kg := { accesses := [{ agent := .reeve, off := 4, write := true, tag := 68 }] } }, by decide +kernel⟩

theorem witness_guestRegDataRx : ∃ (p : Fin 2) (tag : Nat) (_value : BitVec 32) (m : State) (x : GuestAccess) (s : State),
    m = s.guestMsg p.val 2 1 ∧ m.guestLink p.val = 2 ∧ p.val = 0 ∧ 68 ≤ tag ∧ m.gregAccess tag = some x ∧ x.write = false :=
  ⟨0, 68, 9, _, { agent := .reeve, off := 4, write := false, tag := 68 }, { guestIn with kg := { accesses := [{ agent := .reeve, off := 4, write := false, tag := 68 }] } }, rfl, by decide +kernel, by decide +kernel, by decide +kernel, by decide +kernel, by decide +kernel⟩

theorem witness_guestRegDataRx_2 : ∃ (p : Fin 2) (tag : Nat) (value : BitVec 32) (m : State) (a : State) (s : State),
    m = s.guestMsg p.val 2 1 ∧ m.guestLink p.val = 2 ∧ p.val = 0 ∧ tag < 68 ∧ m.kg.step = 4 ∧ ({ m with kg := { m.kg with words := Sparse.set none tag (some value.toNat) m.kg.words } } : State) = a :=
  ⟨0, 67, 9, _, _, { guestIn with kg := { step := 4 } }, rfl, by decide +kernel, by decide +kernel, by decide +kernel, by decide +kernel, rfl⟩

theorem witness_guestCmpOkRx : ∃ (p : Fin 2) (tag : Nat) (m : State) (x : GuestAccess) (s : State),
    m = s.guestMsg p.val 2 1 ∧ m.gregAccess tag = some x ∧ m.guestLink p.val = 2 ∧ p.val = 0 ∧ x.write = true :=
  ⟨0, 68, _, { agent := .reeve, off := 4, write := true, tag := 68 }, { guestIn with kg := { accesses := [{ agent := .reeve, off := 4, write := true, tag := 68 }] } }, rfl, by decide +kernel, by decide +kernel, by decide +kernel, by decide +kernel⟩

theorem witness_guestCmpErrRx : ∃ (p : Fin 2) (tag : Nat) (code : Nat) (m : State) (x : GuestAccess) (s : State),
    m = s.guestMsg p.val 2 1 ∧ m.guestLink p.val = 2 ∧ p.val = 0 ∧ code ≠ 0 ∧ 68 ≤ tag ∧ m.gregAccess tag = some x :=
  ⟨0, 68, 1, _, { agent := .reeve, off := 4, write := true, tag := 68 }, { guestIn with kg := { accesses := [{ agent := .reeve, off := 4, write := true, tag := 68 }] } }, rfl, by decide +kernel, by decide +kernel, by decide +kernel, by decide +kernel, by decide +kernel⟩

theorem witness_reeveLockstepFail : ∃ (_failed : List (Fin 3)) (s : State),
    s.reeveUp = true ∧ s.mode ≠ .dormant ∧ s.isSet F.RV_CORES_DEGRADED = false :=
  ⟨[1], solo, by decide +kernel⟩

theorem witness_reeveWatchdogExpiry : ∃ (s : State),
    s.pw.firmware = true :=
  ⟨solo, by decide +kernel⟩

theorem witness_reeveSramUncorrectable : ∃ (_addr : Nat) (s : State),
    s.reeveUp = true :=
  ⟨0, solo, by decide +kernel⟩

theorem witness_reeveBoot : ∃ (_checks : List SlotCheck) (s : State),
    s.mode ≠ .off ∧ s.mode ≠ .dormant ∧ s.reeveUp = false ∧ s.rv.erasing = false ∧ ([0, 1, 2].all fun c => decide (s.core c = 3)) = false :=
  ⟨[], { solo with pw := { vaux := true } }, by decide +kernel⟩

theorem witness_fwTrialConfirm : ∃ (s : State),
    s.pw.firmware = true ∧ s.rv.trial = true ∧ s.rv.trialStarted = true :=
  ⟨{ solo with rv := { trial := true, trialStarted := true } }, by decide +kernel⟩

theorem witness_fwTrialTimeout : ∃ (s : State),
    s.pw.firmware = true ∧ s.rv.trial = true ∧ s.rv.trialStarted = true :=
  ⟨{ solo with rv := { trial := true, trialStarted := true } }, by decide +kernel⟩

theorem witness_flashUnlockWrite : ∃ (bank : Fin 4) (off : Nat) (value : Byte) (s : State),
    s.bankBusy bank.val = false ∧ (s.flashBank bank.val).step = 0 ∧ off = 0xA54 ∧ value = 0x4B :=
  ⟨0, 0xA54, 0x4B, solo, by decide +kernel⟩

theorem witness_flashUnlockWrite_2 : ∃ (bank : Fin 4) (off : Nat) (value : Byte) (s : State),
    s.bankBusy bank.val = false ∧ (s.flashBank bank.val).step = 1 ∧ off = 0x5AB ∧ value = 0xB4 :=
  ⟨0, 0x5AB, 0xB4, { solo with rv := { banks := [(0, { step := 1 })] } }, by decide +kernel⟩

theorem witness_programWord : ∃ (addr : Nat) (_value : BitVec 32) (s : State),
    s.bankBusy (addr % 2 ^ 26 / 2 ^ 24) = false ∧ (s.flashBank (addr % 2 ^ 26 / 2 ^ 24)).step = 3 ∧ (s.flashBank (addr % 2 ^ 26 / 2 ^ 24)).cmd = 0xA0 ∧ (s.flashBank (addr % 2 ^ 26 / 2 ^ 24)).operands = [] ∧ addr % 2 ^ 26 % 16 = 0 :=
  ⟨0, 9, { solo with rv := { banks := [(0, { step := 3, cmd := 0xA0 })] } }, by decide +kernel⟩

theorem witness_programRow : ∃ (addr : Nat) (_value : BitVec 32) (s : State),
    s.bankBusy (addr % 2 ^ 26 / 2 ^ 24) = false ∧ (s.flashBank (addr % 2 ^ 26 / 2 ^ 24)).step = 3 ∧ (s.flashBank (addr % 2 ^ 26 / 2 ^ 24)).cmd = 0xA5 ∧ (s.flashBank (addr % 2 ^ 26 / 2 ^ 24)).operands = [] ∧ addr % 2 ^ 26 % 512 = 0 :=
  ⟨0, 9, { solo with rv := { banks := [(0, { step := 3, cmd := 0xA5 })] } }, by decide +kernel⟩

theorem witness_eraseSector : ∃ (addr : Nat) (value : BitVec 32) (s : State),
    s.bankBusy (addr % 2 ^ 26 / 2 ^ 24) = false ∧ (s.flashBank (addr % 2 ^ 26 / 2 ^ 24)).step = 3 ∧ (s.flashBank (addr % 2 ^ 26 / 2 ^ 24)).cmd = 0x20 ∧ addr % 2 ^ 26 % 4 = 0 ∧ value.toNat = 0x20 :=
  ⟨0, 0x20, { solo with rv := { banks := [(0, { step := 3, cmd := 0x20 })] } }, by decide +kernel⟩

theorem witness_eraseBlock : ∃ (addr : Nat) (value : BitVec 32) (s : State),
    s.bankBusy (addr % 2 ^ 26 / 2 ^ 24) = false ∧ (s.flashBank (addr % 2 ^ 26 / 2 ^ 24)).step = 3 ∧ (s.flashBank (addr % 2 ^ 26 / 2 ^ 24)).cmd = 0x28 ∧ addr % 2 ^ 26 % 4 = 0 ∧ value.toNat = 0x28 :=
  ⟨0, 0x28, { solo with rv := { banks := [(0, { step := 3, cmd := 0x28 })] } }, by decide +kernel⟩

theorem witness_flashClearStatus : ∃ (bank : Fin 4) (s : State),
    s.bankBusy bank.val = false ∧ (s.flashBank bank.val).step = 2 :=
  ⟨0, { solo with rv := { banks := [(0, { step := 2 })] } }, by decide +kernel⟩

theorem witness_flashReset : ∃ (bank : Fin 4) (s : State),
    s.bankBusy bank.val = false ∧ (s.flashBank bank.val).step ≠ 0 :=
  ⟨0, { solo with rv := { banks := [(0, { step := 2 })] } }, by decide +kernel⟩

theorem witness_flashOpDone : ∃ (bank : Fin 4) (ok : Bool) (first n : Nat) (b : State) (s : State),
    (s.flashBank bank.val).busy = some (first, n, none) ∧ ok = true ∧ ((s.setBank bank.val { s.flashBank bank.val with busy := none }).touchSlots first n).eraseWords first (first + n) = b :=
  ⟨0, true, 0, 256, ((busyFlash.setBank 0 { busyFlash.flashBank 0 with busy := none }).touchSlots 0 256).eraseWords 0 256, busyFlash, by decide +kernel⟩

theorem witness_readoutEraseDone : ∃ (s : State),
    s.rv.erasing = true :=
  ⟨{ solo with rv := { erasing := true } }, by decide +kernel⟩

theorem witness_jtagAccess : ∃ (act : JtagAct) (addr : Nat) (ecc : EccVerdict) (s : State),
    s.get F.RDL_STATUS_LEVEL = 0 ∧ s.mode ≠ .off ∧ act = .read addr ecc :=
  ⟨.read 0 .ok, 0, .ok, solo, by decide +kernel⟩

theorem witness_jtagAccess_2 : ∃ (act : JtagAct) (on : Bool) (s : State),
    s.get F.RDL_STATUS_LEVEL = 0 ∧ s.mode ≠ .off ∧ act = .testMode on :=
  ⟨.testMode true, true, solo, by decide +kernel⟩

theorem witness_jtagAccess_3 : ∃ (act : JtagAct) (s : State),
    s.get F.RDL_STATUS_LEVEL = 0 ∧ s.mode ≠ .off ∧ act = .raise_ ∧ s.get F.RDL_STATUS_RAISES < 8 :=
  ⟨.raise_, solo, by decide +kernel⟩

theorem witness_bmcAddressMatch : ∃ (s : State),
    s.mode = .dormant :=
  ⟨{ solo with mode := .dormant }, by decide +kernel⟩

theorem witness_mctpControlMsg : ∃ (_setEid : Option Nat) (s : State),
    s.bmcPort = true :=
  ⟨some 9, solo, by decide +kernel⟩

theorem witness_getTid : ∃ (s : State),
    s.pldmTakes 0 = true :=
  ⟨solo, by decide +kernel⟩

theorem witness_getPldmVersion : ∃ (s : State),
    s.pldmTakes 0 = true :=
  ⟨solo, by decide +kernel⟩

theorem witness_getPldmTypes : ∃ (s : State),
    s.pldmTakes 0 = true :=
  ⟨solo, by decide +kernel⟩

theorem witness_getPldmCommands : ∃ (typ : Nat) (s : State),
    s.pldmTakes 0 = true ∧ s.pldmTypes.contains typ = true :=
  ⟨2, solo, by decide +kernel⟩

theorem witness_getPdrRepositoryInfo : ∃ (s : State),
    s.pldmTakes 2 = true :=
  ⟨solo, by decide +kernel⟩

theorem witness_getPdr : ∃ (n : Nat) (s : State),
    s.pldmTakes 2 = true ∧ n < numericSensors + 3 :=
  ⟨89, solo, by decide +kernel⟩

theorem witness_getSensorReading : ∃ (sensor : Nat) (s : State),
    s.pldmTakes 2 = true ∧ sensor < numericSensors :=
  ⟨0, solo, by decide +kernel⟩

theorem witness_getStateSensorReadings : ∃ (_sensor : Fin 3) (s : State),
    s.pldmTakes 2 = true :=
  ⟨2, solo, by decide +kernel⟩

theorem witness_setNumericSensorEnable : ∃ (sensor : Nat) (_on : Bool) (s : State),
    s.pldmTakes 2 = true ∧ sensor < numericSensors :=
  ⟨0, false, solo, by decide +kernel⟩

theorem witness_setEventReceiver : ∃ (_eid : Option Nat) (s : State),
    s.pldmTakes 2 = true :=
  ⟨some 8, solo, by decide +kernel⟩

theorem witness_pollForPlatformEventMessage : ∃ (s : State),
    s.pldmTakes 2 = true :=
  ⟨solo, by decide +kernel⟩

theorem witness_queryDeviceIdentifiers : ∃ (s : State),
    s.pldmTakes 5 = true :=
  ⟨solo, by decide +kernel⟩

theorem witness_getFirmwareParameters : ∃ (s : State),
    s.pldmTakes 5 = true :=
  ⟨solo, by decide +kernel⟩

theorem witness_requestUpdate : ∃ (s : State),
    s.pldmTakes 5 = true ∧ s.rv.update.st = 0 ∧ s.rv.trial = false ∧ s.rv.arm = none ∧ s.mode ≠ .save ∧ s.mode ≠ .restore :=
  ⟨solo, by decide +kernel⟩

theorem witness_passComponentTable : ∃ (s : State),
    s.pldmTakes 5 = true ∧ s.rv.update.st = 1 :=
  ⟨{ solo with rv := { update := { st := 1 } } }, by decide +kernel⟩

theorem witness_updateComponent : ∃ (comp : Fin 3) (size : Nat) (a : State) (s : State),
    s.pldmTakes 5 = true ∧ (s.rv.update.st = 2 ∨ s.rv.update.st = 5) ∧ comp.val = 1 ∧ size ≤ slotLen (s.updateSlot 1) * 16 ∧ (((s.eraseSlot (s.updateSlot 1)).setUpdate { s.rv.update with st := 3, comp := 1, size := size, got := 0, good := false }).emit (.pldm 5 0x14 Pldm.ok [])) = a :=
  ⟨1, 64, (updating.eraseSlot (updating.updateSlot 1)).setUpdate { st := 3, comp := 1, size := 64, got := 0, good := false } |>.emit (.pldm 5 0x14 Pldm.ok []), updating, by decide +kernel⟩

theorem witness_firmwareDataRx : ∃ (off : Nat) (bytes : List Byte) (s : State),
    s.bmcPort = true ∧ s.rv.update.st = 3 ∧ off = s.rv.update.got ∧ 1 ≤ bytes.length ∧ bytes.length ≤ 1024 ∧ off + bytes.length ≤ s.rv.update.size :=
  ⟨0, [1], { solo with rv := { update := { st := 3, comp := 1, size := 64 } } }, by decide +kernel⟩

theorem witness_transferComplete : ∃ (check : SlotCheck) (r : Bool × State) (s : State),
    s.bmcPort = true ∧ s.rv.update.st = 3 ∧ s.rv.update.size ≤ s.rv.update.got ∧ ({ s with rv := { s.rv with checks := Sparse.set {} (s.updateSlot s.rv.update.comp) check s.rv.checks } } : State).verifyImage (s.updateSlot s.rv.update.comp) = r ∧ r.1 = true :=
  ⟨goodCheck, (({ verified with rv := { verified.rv with checks := Sparse.set {} 1 goodCheck verified.rv.checks } } : State).verifyImage 1), verified, by decide +kernel⟩

theorem witness_verifyComplete : ∃ (s : State),
    s.bmcPort = true ∧ s.rv.update.st = 4 :=
  ⟨{ solo with rv := { update := { st := 4, good := true } } }, by decide +kernel⟩

theorem witness_applyComplete : ∃ (s : State),
    s.bmcPort = true ∧ s.rv.update.st = 4 ∧ s.rv.update.good = true :=
  ⟨{ solo with rv := { update := { st := 4, good := true } } }, by decide +kernel⟩

theorem witness_activateFirmware : ∃ (s : State),
    s.pldmTakes 5 = true ∧ s.rv.update.st = 5 ∧ s.rv.update.fw = false :=
  ⟨{ solo with rv := { update := { st := 5 } } }, by decide +kernel⟩

theorem witness_activateFirmware_2 : ∃ (b : State) (s : State),
    s.pldmTakes 5 = true ∧ s.rv.update.st = 5 ∧ s.rv.update.fw = true ∧ s.rv.recovery = false ∧ s.endUpdate = b :=
  ⟨({ solo with rv := { update := { st := 5, fw := true } } } : State).endUpdate, { solo with rv := { update := { st := 5, fw := true } } }, by decide +kernel⟩

theorem witness_getStatus : ∃ (s : State),
    s.pldmTakes 5 = true :=
  ⟨solo, by decide +kernel⟩

theorem witness_cancelUpdateComponent : ∃ (s : State),
    s.pldmTakes 5 = true ∧ (s.rv.update.st = 3 ∨ s.rv.update.st = 4) :=
  ⟨{ solo with rv := { update := { st := 3 } } }, by decide +kernel⟩

theorem witness_cancelUpdate : ∃ (s : State),
    s.pldmTakes 5 = true ∧ s.rv.update.st ≠ 0 :=
  ⟨{ solo with rv := { update := { st := 3 } } }, by decide +kernel⟩

theorem witness_pldmUnsupported : ∃ (_typ : Nat) (_cmd : Nat) (s : State),
    s.bmcPort = true :=
  ⟨3, 3, solo, by decide +kernel⟩

theorem witness_spdmGetVersion : ∃ (t : Transport) (s : State),
    s.spdmUp t = true :=
  ⟨.bmc, solo, by decide +kernel⟩

theorem witness_spdmGetCapabilities : ∃ (t : Transport) (s : State),
    s.spdmUp t = true :=
  ⟨.bmc, solo, by decide +kernel⟩

theorem witness_spdmNegotiateAlgorithms : ∃ (t : Transport) (s : State),
    s.spdmUp t = true :=
  ⟨.bmc, solo, by decide +kernel⟩

theorem witness_spdmGetDigests : ∃ (t : Transport) (s : State),
    s.spdmUp t = true :=
  ⟨.bmc, solo, by decide +kernel⟩

theorem witness_spdmGetCertificate : ∃ (t : Transport) (slot : Nat) (_off : Nat) (_len : Nat) (s : State),
    s.spdmUp t = true ∧ slot = 0 :=
  ⟨.bmc, 0, 0, 64, solo, by decide +kernel⟩

theorem witness_spdmChallenge : ∃ (t : Transport) (slot : Nat) (s : State),
    s.spdmUp t = true ∧ slot = 0 :=
  ⟨.bmc, 0, solo, by decide +kernel⟩

theorem witness_spdmGetMeasurements : ∃ (t : Transport) (_index : Nat) (s : State),
    s.spdmUp t = true :=
  ⟨.bmc, 0, solo, by decide +kernel⟩

theorem witness_spdmKeyExchange : ∃ (t : Transport) (s : State),
    s.spdmUp t = true ∧ s.rv.sessions.length < 8 :=
  ⟨.bmc, solo, by decide +kernel⟩

theorem witness_spdmFinish : ∃ (t : Transport) (session : Nat) (ok : Bool) (s : State),
    s.spdmUp t = true ∧ s.sessionOpen session = true ∧ ok = true :=
  ⟨.bmc, 1, true, { solo with rv := { sessions := [⟨1, .bmc, false⟩] } }, by decide +kernel⟩

theorem witness_spdmHeartbeat : ∃ (t : Transport) (session : Nat) (ok : Bool) (s : State),
    s.spdmUp t = true ∧ s.sessionOpen session = true ∧ ok = true :=
  ⟨.bmc, 1, true, { solo with rv := { sessions := [⟨1, .bmc, false⟩] } }, by decide +kernel⟩

theorem witness_spdmEndSession : ∃ (t : Transport) (session : Nat) (ok : Bool) (s : State),
    s.spdmUp t = true ∧ s.sessionOpen session = true ∧ ok = true :=
  ⟨.bmc, 1, true, { solo with rv := { sessions := [⟨1, .bmc, false⟩] } }, by decide +kernel⟩

theorem witness_mgmtOperation : ∃ (q : Nat) (seq : Nat) (o : OpRec) (s : State),
    s.op? q seq = some o ∧ dOpcode o.desc = 0x38 ∧ o.phase = .ready ∧ s.mode.serving = true ∧ s.frozenMode = false ∧ s.stopping = false ∧ s.fenced = false ∧ s.tenantActive (s.queue q).tenant = true ∧ s.pw.firmware = true :=
  ⟨0, 1, op 0x38 1, withOp 0x38 1 solo, by decide +kernel⟩

theorem witness_mailboxMgmtRequest : ∃ (ld : Fin 64) (_typ : Nat) (s : State),
    s.mailboxTakes ld.val true false = true ∧ s.rv.mboxWait = [] :=
  ⟨0, 1, solo, by decide +kernel⟩

theorem witness_mgmtUnknownType : ∃ (path : MgmtPath) (typ : Nat) (s : State),
    s.mgmtWaits path typ = true ∧ mgmtTypes.contains typ = false :=
  ⟨.bmc, 0x77, solo, by decide +kernel⟩

theorem witness_mgmtStatus : ∃ (path : MgmtPath) (s : State),
    s.mgmtTakes path 0x01 = true :=
  ⟨.bmc, solo, by decide +kernel⟩

theorem witness_mgmtIdentity : ∃ (path : MgmtPath) (s : State),
    s.mgmtTakes path 0x02 = true :=
  ⟨.bmc, solo, by decide +kernel⟩

theorem witness_mgmtDeviceKey : ∃ (path : MgmtPath) (s : State),
    s.mgmtTakes path 0x03 = true :=
  ⟨.bmc, solo, by decide +kernel⟩

theorem witness_mgmtSensorRead : ∃ (path : MgmtPath) (channels : List (Fin 256)) (s : State),
    s.mgmtTakes path 0x04 = true ∧ channels.length ≤ 32 ∧ (channels.all fun c => decide (c.val < 32)) = true :=
  ⟨.bmc, [31], solo, by decide +kernel⟩

theorem witness_mgmtBermRead : ∃ (path : MgmtPath) (pool : Nat) (_count : Nat) (s : State),
    s.mgmtTakes path 0x05 = true ∧ 1 ≤ pool ∧ pool ≤ 13 :=
  ⟨.bmc, 13, 1, solo, by decide +kernel⟩

theorem witness_mgmtEventRead : ∃ (path : MgmtPath) (_start : Nat) (count : Nat) (s : State),
    s.mgmtTakes path 0x06 = true ∧ 1 ≤ count ∧ count ≤ 15 :=
  ⟨.bmc, 0, 15, solo, by decide +kernel⟩

theorem witness_mgmtTenantSet : ∃ (path : MgmtPath) (tenant : Nat) (_state : Nat) (_weight : Nat) (_regions : Nat) (_gib : Nat) (s : State),
    s.mgmtTakes path 0x10 = true ∧ tenant ≠ 0 ∧ tenant < 4096 :=
  ⟨.bmc, 4095, 1, 0, 0, 0, solo, by decide +kernel⟩

theorem witness_mgmtBindingSet : ∃ (path : MgmtPath) (pkeyMap : Bool) (n : Nat) (_v : Nat) (s : State),
    s.mgmtTakes path 0x11 = true ∧ pkeyMap = true ∧ n < 4096 :=
  ⟨.bmc, true, 4095, 0, solo, by decide +kernel⟩

theorem witness_mgmtBindingSet_2 : ∃ (path : MgmtPath) (pkeyMap : Bool) (n : Nat) (_v : Nat) (s : State),
    s.mgmtTakes path 0x11 = true ∧ pkeyMap = false ∧ n < 64 :=
  ⟨.bmc, false, 63, 0, solo, by decide +kernel⟩

theorem witness_mgmtGrantSet : ∃ (path : MgmtPath) (grant : Nat) (w0 : Nat) (_w1 : Nat) (_w2 : Nat) (s : State),
    s.mgmtTakes path 0x12 = true ∧ grant < 256 ∧ s.grantOwn path grant w0 = true :=
  ⟨.bmc, 255, 0, 0, 0, solo, by decide +kernel⟩

theorem witness_mgmtRegRead : ∃ (path : MgmtPath) (off : Nat) (s : State),
    s.mgmtTakes path 0x13 = true ∧ off % 4 = 0 ∧ off < 0x2000000 ∧ (off < 0xF40000 ∨ 0xF50000 ≤ off) :=
  ⟨.bmc, 0, solo, by decide +kernel⟩

theorem witness_mgmtRegRead_2 : ∃ (path : MgmtPath) (off : Nat) (s : State),
    s.mgmtWaits path 0x13 = true ∧ s.mgmtAllowed path 0x13 = true ∧ off % 4 = 0 ∧ 0xF40000 ≤ off ∧ off < 0xF50000 :=
  ⟨.bmc, 0xF40004, solo, by decide +kernel⟩

theorem witness_mgmtRegWrite : ∃ (path : MgmtPath) (off : Nat) (_v : Nat) (s : State),
    s.mgmtTakes path 0x14 = true ∧ off % 4 = 0 ∧ off < 0x2000000 ∧ s.regDenied off = false :=
  ⟨.bmc, 0x200100, 1, solo, by decide +kernel⟩

theorem witness_mgmtAssayNow : ∃ (path : MgmtPath) (s : State),
    s.mgmtTakes path 0x20 = true :=
  ⟨.bmc, solo, by decide +kernel⟩

theorem witness_mgmtPairCmd : ∃ (path : MgmtPath) (bit : Nat) (s : State),
    s.mgmtTakes path 0x21 = true ∧ bit < 5 :=
  ⟨.bmc, 4, solo, by decide +kernel⟩

theorem witness_mgmtService : ∃ (path : MgmtPath) (off : Nat) (v : Nat) (s : State),
    s.mgmtTakes path 0x22 = true ∧ serviceMask off ≠ 0 ∧ v &&& serviceMask off = v :=
  ⟨.bmc, 0x200100, 1, solo, by decide +kernel⟩

theorem witness_mgmtTemperSet : ∃ (path : MgmtPath) (temper : Nat) (s : State),
    s.mgmtTakes path 0x23 = true ∧ s.get F.ID_TEMPER_TEMPER < temper ∧ temper ≤ s.get F.ID_TEMPER_TEMPER_MAX ∧ s.cw.paired = false ∧ s.mode = .solo :=
  ⟨.bmc, 9, puts [(F.ID_TEMPER_TEMPER_MAX, 9)] solo, by decide +kernel⟩

theorem witness_groupResetArm : ∃ (path : MgmtPath) (s : State),
    s.mgmtTakes path 0x30 = true :=
  ⟨.bmc, solo, by decide +kernel⟩

theorem witness_groupResetConfirm : ∃ (path : MgmtPath) (challenge : Nat) (s : State),
    s.mgmtTakes path 0x31 = true ∧ s.rv.arm = some (3, challenge) ∧ s.groupResetReady = true :=
  ⟨.bmc, 7, { solo with regions := [], rv := { arm := some (3, 7) } }, by decide +kernel⟩

theorem witness_readoutRaise : ∃ (path : MgmtPath) (s : State),
    s.mgmtTakes path 0x32 = true ∧ s.get F.RDL_STATUS_RAISES < 8 ∧ s.get F.RDL_STATUS_LEVEL = 0 :=
  ⟨.bmc, solo, by decide +kernel⟩

theorem witness_readoutLowerArm : ∃ (path : MgmtPath) (s : State),
    s.mgmtTakes path 0x33 = true ∧ s.get F.RDL_STATUS_LEVEL = 1 :=
  ⟨.bmc, puts [(F.RDL_STATUS_LEVEL, 1)] solo, by decide +kernel⟩

theorem witness_readoutLowerConfirm : ∃ (path : MgmtPath) (challenge : Nat) (s : State),
    s.mgmtTakes path 0x34 = true ∧ s.rv.arm = some (1, challenge) ∧ (s.mode = .paired ∨ s.cw.paired = false) :=
  ⟨.bmc, 7, { solo with rv := { arm := some (1, 7) } }, by decide +kernel⟩

theorem witness_readoutFinalArm : ∃ (path : MgmtPath) (s : State),
    s.mgmtTakes path 0x35 = true ∧ s.get F.RDL_STATUS_LEVEL = 1 :=
  ⟨.bmc, puts [(F.RDL_STATUS_LEVEL, 1)] solo, by decide +kernel⟩

theorem witness_readoutFinalConfirm : ∃ (path : MgmtPath) (challenge : Nat) (s : State),
    s.mgmtTakes path 0x36 = true ∧ s.rv.arm = some (2, challenge) :=
  ⟨.bmc, 7, { solo with rv := { arm := some (2, 7) } }, by decide +kernel⟩

theorem witness_vauxRise : ∃ (_side : Fin 2) (_autowake : Bool) (_i3cAddr : Fin 4) (_fuses : List (Nat × Nat)) (_part : Part) (s : State),
    s.mode = .off ∧ s.pw.vaux = false ∧ s.pw.fused = false :=
  ⟨1, true, 0, [], { revoked := 0, ownerHash := 0, final := false, flash := [], deviceKey := 0 }, State.reset, by decide +kernel⟩

theorem witness_aonStartCheck : ∃ (ok : Bool) (s : State),
    s.mode = .off ∧ s.pw.vaux = true ∧ s.pw.starting = true ∧ ok = true :=
  ⟨true, { State.reset with pw := { vaux := true, starting := true } }, by decide +kernel⟩

theorem witness_aonStartRetry : ∃ (s : State),
    s.mode = .off ∧ s.pw.vaux = true ∧ s.pw.starting = false :=
  ⟨{ State.reset with pw := { vaux := true } }, by decide +kernel⟩

theorem witness_aonRegulatorDip : ∃ (s : State),
    s.mode ≠ .off :=
  ⟨solo, by decide +kernel⟩

theorem witness_pwrRamp : ∃ (s : State),
    s.mode = .watch :=
  ⟨{ solo with mode := .watch }, by decide +kernel⟩

theorem witness_pwrSleep : ∃ (s : State),
    s.mode = .watch :=
  ⟨{ solo with mode := .watch }, by decide +kernel⟩

theorem witness_pwrShutdown : ∃ (s : State),
    s.mode = .solo :=
  ⟨solo, by decide +kernel⟩

theorem witness_pwrRestart : ∃ (s : State),
    s.mode = .quarantine ∧ s.canSave = true :=
  ⟨quarantined, by decide +kernel⟩

theorem witness_shutdownWritebackDone : ∃ (s : State),
    s.mode = .solo ∧ s.stopping = true ∧ s.dirtyLines = 0 ∧ s.cul.jpend = [] ∧ s.cul.tableDirty = [] :=
  ⟨puts [(F.PWR_STATUS_STOPPING, 1)] solo, by decide +kernel⟩

theorem witness_pseqGoAssert : ∃ (s : State),
    s.mode ≠ .off :=
  ⟨{ solo with mode := .watch }, by decide +kernel⟩

theorem witness_goWaitTimeout : ∃ (s : State),
    s.mode = .watch ∧ s.isSet F.PWR_STATUS_GO_WAIT = true ∧ s.pw.goTold = false :=
  ⟨{ puts [(F.PWR_STATUS_GO_WAIT, 1)] solo with mode := .watch }, by decide +kernel⟩

theorem witness_railPgAssert : ∃ (rail : Fin 12) (s : State),
    s.rampingUp rail.val = true ∧ s.railState rail.val = 1 :=
  ⟨3, ramping 3 false 0, by decide +kernel⟩

theorem witness_railPgTimeout : ∃ (rail : Fin 12) (s : State),
    s.rampingUp rail.val = true ∧ s.pw.pg = false :=
  ⟨3, ramping 3 false 0, by decide +kernel⟩

theorem witness_railWindowTimeout : ∃ (rail : Fin 12) (s : State),
    s.rampingUp rail.val = true ∧ s.pw.pg = true ∧ s.pw.inWindow < 2 :=
  ⟨3, ramping 3 true 1, by decide +kernel⟩

theorem witness_stepDelayExpiry : ∃ (rail : Fin 12) (s : State),
    s.rampingUp rail.val = true ∧ s.pw.pg = true ∧ 2 ≤ s.pw.inWindow :=
  ⟨3, ramping 3 true 2, by decide +kernel⟩

theorem witness_pllLocked : ∃ (pll : Fin 13) (v : Nat) (s : State),
    s.rampingUp 12 = true ∧ (if bitsOf (s.get F.CLK_STATUS_PLL_LOCK) pll.val 1 = 1 then s.get F.CLK_STATUS_PLL_LOCK else s.get F.CLK_STATUS_PLL_LOCK + 2 ^ pll.val) = v :=
  ⟨12, 4096, ramping 12 true 2, by decide +kernel⟩

theorem witness_pllLockTimeout : ∃ (pll : Fin 13) (s : State),
    s.rampingUp 12 = true ∧ bitsOf (s.get F.CLK_STATUS_PLL_LOCK) pll.val 1 = 0 :=
  ⟨12, ramping 12 true 2, by decide +kernel⟩

theorem witness_rampdownRailOff : ∃ (rail : Fin 12) (s : State),
    s.mode = .ramp ∧ s.pw.ramp = 2 ∧ s.pw.rail = rail.val ∧ s.railState rail.val = 5 :=
  ⟨3, { puts [(F.RAIL_STATUS_STATE 3, 5)] solo with mode := .ramp, pw := { ramp := 2, rail := 3 } }, by decide +kernel⟩

theorem witness_wakeRetryDelay : ∃ (s : State),
    s.mode = .ramp ∧ s.pw.ramp = 3 :=
  ⟨{ solo with mode := .ramp, pw := { ramp := 3 } }, by decide +kernel⟩

theorem witness_holdoffExpiry : ∃ (s : State),
    s.mode ≠ .off ∧ s.isSet F.PWR_STATUS_PFAIL = false :=
  ⟨solo, by decide +kernel⟩

theorem witness_moduleDiscoveryStart : ∃ (modules : List Module) (dimms : List Dimm) (faults : List SramRepair) (checkers : List (Checker × Nat)) (errorLines : List (Fin 48)) (load : Bool × State) (t a : State) (s : State),
    s.mode = .bringup ∧ (s.forEach errorLines fun j a => a.raise Ev.COLLECTOR_SELF_TEST [j.val]).bermLoad = load ∧ ((load.2.repairArrays faults).forEach checkers fun c a => a.checkerFails c.1 c.2).put F.ST_STATUS_DONE 1 = t ∧ modules.foldl (fun a m => a.discoverModule m) (t.guestBringup.startServices.discoverDimms dimms) = a ∧ a.fl.formed = true :=
  ⟨[], [], [], [], [], _, _, _, bringing, by decide +kernel, rfl, rfl, rfl, by decide +kernel⟩

theorem witness_bringupComplete : ∃ (a b : State) (s : State),
    s.mode = .bringup ∧ s.pw.configOk = true ∧ s.pw.bistOk = true ∧ s.isSet F.PWR_STATUS_RETURNING = false ∧ s.fl.formed = true ∧ ((List.range 16).any fun c => decide (s.get (F.CH_STATUS_STATE c) = 1)) = false ∧ s.placeFrames = a ∧ a.dramShort = false ∧ a.selectStore = b ∧ b.ks.a.ok = true :=
  ⟨_, _, { placed with pw := { placed.pw with configOk := true, bistOk := true } }, by decide +kernel, by decide +kernel, by decide +kernel, by decide +kernel, by decide +kernel, by decide +kernel, rfl, by decide +kernel, rfl, by decide +kernel⟩

theorem witness_railPgLoss : ∃ (rail : Fin 12) (s : State),
    s.mode.mainRails = true ∧ (s.railState rail.val = 2 ∨ s.railState rail.val = 3) :=
  ⟨3, puts [(F.RAIL_STATUS_STATE 3, 2)] solo, by decide +kernel⟩

theorem witness_pmbusPoll : ∃ (rail : Fin 12) (ok : Bool) (_bad : Bool) (_mv : Nat) (_tenMa : Nat) (_temp : BitVec 16) (s : State),
    s.mode ≠ .off ∧ s.mode ≠ .dormant ∧ s.get (F.RAIL_PMBUS_ADDR rail.val) ≠ 0 ∧ ok = true :=
  ⟨0, true, false, 800, 5, 0, puts [(F.RAIL_PMBUS_ADDR 0, 9)] solo, by decide +kernel⟩

theorem witness_pmbusMarginAck : ∃ (rail : Fin 12) (ok : Bool) (k : Nat) (s : State),
    Sparse.get 0 rail.val s.pw.margins = k + 1 ∧ ok = true :=
  ⟨0, true, 3, { solo with pw := { margins := [(0, 4)] } }, by decide +kernel⟩

theorem witness_xtalStable : ∃ (s : State),
    s.mode ≠ .off :=
  ⟨solo, by decide +kernel⟩

theorem witness_xtalFail : ∃ (s : State),
    s.mode ≠ .off :=
  ⟨solo, by decide +kernel⟩

theorem witness_pllLockLoss : ∃ (pll : Fin 13) (s : State),
    s.mode.mainRails = true ∧ bitsOf (s.get F.CLK_STATUS_PLL_LOCK) pll.val 1 = 1 :=
  ⟨12, puts [(F.CLK_STATUS_PLL_LOCK, 4096)] solo, by decide +kernel⟩

theorem witness_pllRelock : ∃ (pll : Fin 13) (s : State),
    s.pw.unlocked.contains pll.val = true :=
  ⟨12, { solo with pw := { unlocked := [12] } }, by decide +kernel⟩

theorem witness_pllRelockTimeout : ∃ (pll : Fin 13) (s : State),
    s.pw.unlocked.contains pll.val = true ∧ s.pw.lost.contains (16 + pll.val) = false :=
  ⟨12, { solo with pw := { unlocked := [12] } }, by decide +kernel⟩

theorem witness_flashClockIdleStop : ∃ (channel : Fin 40) (s : State),
    s.get F.CLK_CFG_FLASH_CLK_IDLE_US ≠ 0 ∧ s.mode.mainRails = true ∧ s.mode ≠ .save ∧ s.isSet (F.SLOT_STATUS_POWER_ON (channel.val / 2)) = true ∧ s.fl.clocksStopped.contains channel.val = false :=
  ⟨39, puts [(F.CLK_CFG_FLASH_CLK_IDLE_US, 9), (F.SLOT_STATUS_POWER_ON 19, 1)] solo, by decide +kernel⟩

theorem witness_aonAlarmExpiry : ∃ (s : State),
    s.get F.AON_ALARM_SECONDS ≠ 0 ∧ s.mode = .dormant :=
  ⟨{ puts [(F.AON_ALARM_SECONDS, 9)] solo with mode := .dormant }, by decide +kernel⟩

theorem witness_junctionSensorRead : ∃ (c : Fin 16) (reading : BitVec 16) (cause : Fin 4) (a : State) (s : State),
    s.sensorsRead.contains c.val = true ∧ cause.val = 0 ∧ s.isSet (F.TH_SENSOR_FAILED c.val) = false ∧ ((((s.put (F.TH_SENSOR_FAILED c.val) 0).put (F.TH_SENSOR_CAUSE c.val) 0).put (F.TH_SENSOR_READING c.val) reading.toNat).replaceReadings.judgeThermal) = a ∧ a.mode ≠ .watch :=
  ⟨0, 100, 0, _, solo, by decide +kernel, by decide +kernel, by decide +kernel, rfl, by decide +kernel⟩

theorem witness_thermalTrip : ∃ (_c : Fin 16) (s : State),
    s.mode.mainRails = true :=
  ⟨0, solo, by decide +kernel⟩

theorem witness_throttleGraceExpiry : ∃ (_rate : Nat) (s : State),
    s.isSet F.TH_STATUS_REQUESTED = true ∧ s.isSet F.TH_STATUS_ENFORCING = false :=
  ⟨0, puts [(F.TH_STATUS_REQUESTED, 1)] solo, by decide +kernel⟩

theorem witness_operatingSecondTick : ∃ (s : State),
    s.mode.mainRails = true ∧ s.pw.firmware = true ∧ (s.get F.ID_OPERATING_S_SECONDS + 1) % 3600 ≠ 0 :=
  ⟨solo, by decide +kernel⟩

theorem witness_bermBucketClose : ∃ (s : State),
    s.pw.firmware = true :=
  ⟨solo, by decide +kernel⟩

theorem witness_bermCommit : ∃ (toB : Bool) (k : BermSlot) (s : State),
    s.pw.firmware = true ∧ (s.berm.a.ok && (!s.berm.b.ok || decide (s.berm.b.sgen < s.berm.a.sgen))) = toB ∧ ({ ok := true, sgen := max (if s.berm.a.ok then s.berm.a.sgen else 0) (if s.berm.b.ok then s.berm.b.sgen else 0) + 1, recs := s.berm.recs } : BermSlot) = k :=
  ⟨false, { ok := true, sgen := 1, recs := [] }, solo, by decide +kernel⟩

theorem witness_adcConversion : ∃ (c : Fin 32) (reading : BitVec 24) (peak : BitVec 24) (r : Nat × Bool × Nat) (a : State) (s : State),
    s.mode ≠ .off ∧ s.mode ≠ .dormant ∧ s.isSet (F.ADC_CH_CFG_EN c.val) = true ∧ s.adcRange c.val (adcInt reading.toNat) (adcInt peak.toNat) = r ∧ r.2.1 = false ∧ s.adcResult c.val r.1 false reading.toNat = a :=
  ⟨0, 9, 9, converting.adcRange 0 9 9, (let b : State := converting; b.adcResult 0 (b.adcRange 0 9 9).1 false 9), converting, by decide +kernel⟩

theorem witness_witnessLinkAligned : ∃ (s : State),
    s.mode.mainRails = true :=
  ⟨solo, by decide +kernel⟩

theorem witness_errorLineAssert : ∃ (_line : Fin 48) (_link : Option (Fin 13)) (_word : List (Fin 32 × List Nat)) (s : State),
    s.collectorRuns = true :=
  ⟨5, none, [], solo, by decide +kernel⟩

theorem witness_wireFaultDetect : ∃ (pair : ErrPair) (j : Fin 48) (s : State),
    s.collectorRuns = true ∧ pair = .line j ∧ 2 ≤ j.val :=
  ⟨.line 2, 2, solo, by decide +kernel⟩

theorem witness_wireFaultDetect_2 : ∃ (pair : ErrPair) (s : State),
    s.collectorRuns = true ∧ pair = .guestF ∧ s.guestRuns = true :=
  ⟨.guestF, guestIn, by decide +kernel⟩

theorem witness_wireFaultPoll : ∃ (line : Fin 48) (link : Option (Fin 13)) (_word : List (Fin 32 × List Nat)) (s : State),
    s.collectorRuns = true ∧ Sparse.get 0 (16 + line.val) s.fc.cond ≠ 0 ∧ s.lineReadable (link.map fun k => k.val) = true :=
  ⟨5, none, [], let a : State := solo; { a with fc := { a.fc with cond := [(21, 1)] } }, by decide +kernel⟩

theorem witness_sourceConditionEnd : ∃ (n : Fin 1536) (s : State),
    (n.val < 1172 ∨ 1184 ≤ n.val) ∧ endsFromOutside n.val = true :=
  ⟨8, solo, by decide +kernel⟩

theorem witness_fcAckWrite : ∃ (n : BitVec 11) (s : State),
    s.collectorRuns = true ∧ s.srcState n.toNat = 1 :=
  ⟨5, puts [(F.FC_SRC_STATUS_STATE 5, 1)] solo, by decide +kernel⟩

theorem witness_fcRaiseWrite : ∃ (n : BitVec 11) (s : State),
    s.collectorRuns = true ∧ 1408 ≤ n.toNat ∧ n.toNat < 1536 :=
  ⟨1535, solo, by decide +kernel⟩

theorem witness_eventRecordWrite : ∃ (cut : Bool) (e : EvEntry) (l : List EvEntry) (s : State),
    s.pw.firmware = true ∧ s.fc.aon ++ s.fc.queue = e :: l ∧ cut = false :=
  ⟨false, entry0, [], let a : State := solo; { a with fc := { a.fc with queue := [entry0] } }, by decide +kernel⟩

theorem witness_stepFront : ∃ (c : Instr) (rest : List Instr) (s : State), s.pending = c :: rest :=
  ⟨.vauxFall, [], { solo with pending := [.vauxFall] }, rfl⟩

theorem witness_tick : ∃ s : State, s.pending = [] ∧ s.isSet F.RDMA_GLOBAL_CFG_FLOW_MODE = true ∧ 0 ∈ s.eth.xoff ∧ s.portWaits 0 = false :=
  ⟨{ puts [(F.RDMA_GLOBAL_CFG_FLOW_MODE, 1)] solo with eth := { xoff := [0] } }, rfl, by decide +kernel, by decide +kernel, by decide +kernel⟩

theorem witness_sound : ∃ s t : State, s.Sound ∧ step s = .next t :=
  ⟨State.reset, { State.reset with now := 1 }, ⟨rfl, rfl, rfl, rfl, List.Pairwise.nil, by decide, by decide⟩, rfl⟩

theorem witness_fifo : ∃ s t : State, step s = .next t := ⟨State.reset, { State.reset with now := 1 }, rfl⟩

theorem witness_regfile : ∃ (s : State) (f g : Fld), s.Sound ∧ g.key ≠ f.key :=
  ⟨State.reset, F.ADR_GEN_NEXT_GEN, F.CW_TX_SEQ_SEQ, ⟨rfl, rfl, rfl, rfl, List.Pairwise.nil, by decide, by decide⟩, by decide⟩

theorem witness_wordwrite : ∃ (s : State) (off : Nat) (g : Fld), s.Sound ∧
    (∀ p ∈ wordParts off, p.row.acc.writable = true → p.fld.key ≠ g.key) :=
  ⟨State.reset, 0, F.ADR_GEN_NEXT_GEN, ⟨rfl, rfl, rfl, rfl, List.Pairwise.nil, by decide, by decide⟩, by decide +kernel⟩

def part (acc : Access) (lo : Nat) : WordPart := ⟨⟨8, 0, 1, 0, 1, lo, 1, acc, .value, 0, 8, false⟩, 8, lo, 0, 1⟩

theorem witness_access : (∃ p : WordPart, p.row.acc = .ro) ∧
    (∃ (s : State) (p : WordPart), p.row.acc = .rw ∧ p.isLock = true ∧ s.isSet p.fld = true) ∧
    (∃ (s : State) (p : WordPart), p.row.acc = .rwl ∧ s.locked p = true) ∧ (∃ p : WordPart, p.row.acc = .w1c) :=
  ⟨⟨part .ro 0, rfl⟩, ⟨State.reset.put ⟨8, 31, 1⟩ 1, part .rw 31, by decide +kernel⟩, ⟨State.reset.put ⟨8, 31, 1⟩ 1, part .rwl 0, by decide +kernel⟩,
    part .w1c 0, rfl⟩

theorem witness_storeline : ∃ s : State, Memory.wf s.mem = true := ⟨solo, rfl⟩

theorem witness_zeroline : ∃ s : State, Memory.wf s.mem = true := ⟨solo, rfl⟩

theorem witness_setmeta : ∃ s : State, s.Sound :=
  ⟨State.reset, ⟨rfl, rfl, rfl, rfl, List.Pairwise.nil, by decide, by decide⟩⟩

theorem witness_home : (∃ a : Nat, a < 2 ^ 49) ∧ (∃ a b : Nat, a / 256 = b / 256) := ⟨⟨2 ^ 49 - 1, by decide⟩, 0, 255, by decide⟩

theorem witness_spread : ∃ page i j : Nat, i < 64 ∧ j < 64 ∧ homeOf (64 * page + i) = homeOf (64 * page + j) := ⟨5, 63, 63, by decide⟩

theorem witness_deep : ∃ (s : State) (sb n : Nat), 4 ≤ s.width ∧ s.width ≤ 16 ∧ sb < 2 ^ 19 ∧ n / s.width < 2 ^ 11 :=
  ⟨puts [(F.FL_STATUS_WIDTH, 16)] State.reset, 2 ^ 19 - 1, 16 * 2 ^ 11 - 1, by decide +kernel⟩

theorem witness_hist : ∃ total b : Nat, 1 ≤ b ∧ b ≤ 14 ∧ histBin total = b := ⟨2 ^ 19 - 1, 14, by decide⟩

theorem witness_horizon : ∃ s : State, (s.queues.Pairwise fun (e f : Nat × Queue) => e.1 < f.1) ∧ s.mode.twin = false ∧
    s.queues ≠ [] := ⟨{ solo with queues := [(3, { state := 1, horizon := 9 })] }, by simp, rfl, by simp⟩

theorem witness_credit : ∃ s : State, s.cw.sentLines ≤ s.cw.creditLines ∧ 0 < s.cw.creditLines :=
  ⟨{ solo with cw := { sentLines := 7, creditLines := 7 } }, by decide⟩

theorem witness_raise : ∃ (s : State) (n : Nat), s.Sound ∧ n < 1536 ∧ (eventRow? n).isSome = true ∧
    ¬ (1344 ≤ n ∧ n ≤ 1407 ∧ s.get F.ID_VARIANT_ORDER_CODE ≠ 1) ∧ s.collectorRuns = true ∧ s.srcState n = 0 :=
  ⟨{ State.reset with mode := .solo }, Ev.TWIN_LOST, ⟨rfl, rfl, rfl, rfl, List.Pairwise.nil, by decide, by decide⟩, by decide, by decide +kernel,
    by decide, rfl, by decide⟩

theorem witness_merge : ∃ (s : State) (n : Nat), s.Sound ∧ n < 1536 ∧ (eventRow? n).isSome = true ∧
    ¬ (1344 ≤ n ∧ n ≤ 1407 ∧ s.get F.ID_VARIANT_ORDER_CODE ≠ 1) ∧ s.collectorRuns = true ∧ s.srcState n ≠ 0 :=
  ⟨{ State.reset with mode := .solo, regs := [((F.FC_SRC_STATUS_STATE Ev.TWIN_LOST).key, 2)] }, Ev.TWIN_LOST,
    ⟨rfl, rfl, rfl, rfl, by simp, by decide, by decide⟩, by decide, by decide +kernel, by decide, rfl, by decide⟩

theorem witness_gens : ∃ s : State, s.Sound ∧ s.get F.ADR_GEN_NEXT_GEN < 0xFFFFFFFF :=
  ⟨State.reset, ⟨rfl, rfl, rfl, rfl, List.Pairwise.nil, by decide, by decide⟩, by decide⟩

theorem witness_saverestore : ∃ s r : State, s.Sound ∧ r.Sound ∧ s.imageLines ≠ [] :=
  ⟨{ State.reset with mem := [(256, 7)], lines := [(1, { dirty := true })] }, State.reset,
    ⟨by decide +kernel, rfl, by decide +kernel, rfl, List.Pairwise.nil, by decide, by decide⟩,
    ⟨rfl, rfl, rfl, rfl, List.Pairwise.nil, by decide, by decide⟩, by decide +kernel⟩

theorem witness_drain : ∃ s : State, s.mode ≠ .off ∧
    (s.mode ≠ .paired ∨ s.isSet F.CW_STATUS_TWIN_CONTACT = false ∨ s.isSet F.CW_STATUS_WITNESS_CONTACT = false) :=
  ⟨{ solo with mode := .paired }, by decide, .inr (by decide +kernel)⟩

theorem witness_queuefull : ∃ s : State, s.Sound ∧ s.fc.queue.length < 1024 :=
  ⟨State.reset, ⟨rfl, rfl, rfl, rfl, List.Pairwise.nil, by decide, by decide⟩, by decide⟩
theorem witness_queuefull_1024 (e : EvEntry) : ∃ s : State, s.Sound ∧ s.fc.queue.length = 1024 :=
  ⟨{ State.reset with fc := { queue := List.replicate 1024 e } }, ⟨rfl, rfl, rfl, rfl, List.Pairwise.nil,
    Nat.le_of_eq List.length_replicate, Nat.zero_le _⟩, List.length_replicate⟩

theorem witness_sluice : ∃ s : State, s.isSet F.SLU_STATUS_MARK_RAISED = false ∧ 20 ≤ s.sluiceD :=
  ⟨puts [(F.FB_STATUS_FREEBOARD_GIB, 20)] solo, by decide +kernel⟩

theorem witness_advance : ∃ (q seq j : Nat) (o : OpRec) (s : State), s.mayStart q seq 0x21 = some o ∧
    s.streamOfHandle (dbits o.desc 12 0 16) (s.queue q).tenant = some j ∧ (s.stream j).pos < 2 ^ 32 ∧
    2 ^ 31 ≤ (dbits o.desc 16 0 32 + 2 ^ 32 - (s.stream j).pos) % 2 ^ 32 := 
  ⟨0, 1, 0, op 0x21 1, (let a : State := withOp 0x21 1 solo; { a with cul := { a.cul with streams := [(0, { st := 1, region := 1, entries := [0], pos := 5 })] } }),
    by decide +kernel, by decide +kernel, by decide +kernel, by decide +kernel⟩

theorem witness_accept : ∃ (w : WriteReq) (s : State), Memory.wf s.mem = true ∧ w.poison = false ∧ w.atomic = none ∧ w.mask = fullMask :=
  ⟨{ src := .cxl 0 0 1, tenant := 1, line := 4, mask := fullMask, data := 5, poison := false, readOnly := false, entered := 0 }, solo, rfl, rfl, rfl, rfl⟩

theorem witness_durlevel : (∃ s : State, s.Sound ∧ s.mode = .paired) ∧ (∃ s : State, s.Sound ∧ s.mode = .solo) ∧
    (∃ s : State, s.Sound ∧ s.mode = .save) ∧ (∃ s : State, s.Sound ∧ s.mode = .restore) := by
  have h : ∀ m, ({ State.reset with mode := m } : State).Sound := fun _ => ⟨rfl, rfl, rfl, rfl, List.Pairwise.nil, Nat.zero_le _, Nat.zero_le _⟩
  exact ⟨⟨_, h .paired, rfl⟩, ⟨_, h .solo, rfl⟩, ⟨_, h .save, rfl⟩, ⟨_, h .restore, rfl⟩⟩

theorem witness_queueid : ∃ (s : State) (q : Nat), s.side ≤ 1 ∧ q < 2 ^ 25 := ⟨solo, 2 ^ 25 - 1, by decide +kernel⟩

theorem witness_ack : ∃ (s : State) (n : Nat), s.Sound ∧ s.srcState n = 1 ∧ isLevel n = true ∧ Sparse.get 0 n s.fc.cond ≠ 0 :=
  ⟨{ State.reset with regs := [((F.FC_SRC_STATUS_STATE Ev.BANK_NOT_READY).key, 1)], fc := { cond := [(Ev.BANK_NOT_READY, 1)] } }, Ev.BANK_NOT_READY,
    ⟨rfl, rfl, rfl, rfl, by simp, by decide, by decide⟩, by decide, by decide +kernel, by decide⟩

/-! Commands that each check of WellFormed.lean refuses, and one that it takes. -/

theorem test_wf_fits : (Instr.cxlMeminv 0 16 0).wellFormed = false ∧ (Instr.cxlMeminv 0 15 0).wellFormed = true := by decide +kernel
theorem test_wf_aligned : (Instr.cxlMemrd 0 0 0 32 false).wellFormed = false ∧ (Instr.cxlMemrd 0 0 0 64 false).wellFormed = true := by
  decide +kernel
theorem test_wf_queueKey : (Instr.persist 4096 1).wellFormed = false ∧ (Instr.persist 4095 1).wellFormed = true := by decide +kernel
theorem test_wf_mirror : (Instr.drainBeginRx { mrx with epoch := 256 }).wellFormed = false := by decide +kernel
theorem test_wf_mgmtPath : (Instr.mgmtStatus (.queue 4096 1)).wellFormed = false ∧ (Instr.mgmtStatus .bmc).wellFormed = true := by decide +kernel
theorem test_wf_witness : (Instr.witnessStatusRx ⟨true, 0, 0, 2 ^ 32, false, 0, false, 0, 0, 0⟩).wellFormed = false := by decide +kernel
theorem test_wf_control : (Instr.controlFrameRx ⟨0, true, true, 0, 0, 0, 16, false, false, false, 0, 0, {}⟩).wellFormed = false := by decide +kernel
theorem test_wf_hello :
    (Instr.helloRx 0 true {} ⟨true, 0, 2, 0, 0, 0, 0, 0, true, true, true, true, true, 0, false, 0, 0, 0, []⟩).wellFormed = false := by decide +kernel
theorem test_wf_lineEntry : (Instr.linesFrameRx mrx [⟨2 ^ 41, 1, false, 0, 0, 0⟩] none).wellFormed = false := by decide +kernel

/-! The spec's worked examples (chapters 2, 3, 6 and 8). -/

theorem test_home_example : homeOf (lineOf 0x107032A4FC1C0) = 31 ∧ setOf (lineOf 0x107032A4FC1C0) = 319 := by decide +kernel
theorem test_address_example : slotAddr 1 7168 + 0x32A4FC1C0 = 0x107032A4FC1C0 ∧ slotAddr 1 7180 + 0x2A4FC1C0 = 0x107032A4FC1C0 := by decide +kernel
theorem test_window_example :
    (puts [(F.CXL_LD_WIN_BASE_WIN_VALID 9, 1), (F.CXL_LD_WIN_BASE_SIDE 9, 1), (F.CXL_LD_WIN_BASE_BASE_SLOT 9, 7168), (F.CXL_LD_WIN_SPAN_SPAN_M1 9, 63)]
      solo).winDpa 9 (lineOf 0x107032A4FC1C0) = some 0x32A4FC100 := by decide +kernel
theorem test_sluice_example : let s := puts [(F.FB_STATUS_FREEBOARD_GIB, 111)] solo
    s.highMark10 = 999 * 2 ^ 30 ∧ s.admitMark = 110 * 2 ^ 30 ∧ s.releaseMark20 * 100 = 20 * (9435 * 2 ^ 30) := by decide +kernel

/-! Single steps. -/

/-- The byte of memory at an address after one command, and the answers it sent. -/
def after (c : Instr) (s : State) : Option State :=
  match step { s with pending := [c] } with
  | .next t => some t
  | _ => none

theorem test_write_stores : ((after (.cxlMemwr 0 0 5 64 7 false false) solo).map fun t => (t.byte (slotAddr 0 4 + 64), t.byte (slotAddr 0 4 + 65))) = some (7, 0) := by
  decide +kernel
theorem test_cdat_bandwidth :
    (puts [(F.CXL_LINK_STATUS_RATE 0, 3), (F.CXL_LINK_STATUS_WIDTH 0, 16)] solo).linkGbPerS 0 = 128 := by decide +kernel
theorem test_write_poison : ((after (.cxlMemwr 0 0 5 64 7 true false) solo).map fun t => (t.lineMeta (lineOf (slotAddr 0 4))).poison) = some true := by decide +kernel
theorem test_idle_ticks : (match step solo with | .next t => t.now | _ => 0) = 1 := by decide +kernel
theorem test_pfc_xoff :
    ((puts [(F.RDMA_GLOBAL_CFG_FLOW_MODE, 1), (F.RDMA_GLOBAL_CFG_PFC_PRIO, 3)] net).flowControl 0 75).out = net.out ++ [.pfc 0 3 true] := by decide +kernel

/-! Crypto: the GHASH of test case 2 of the published AES-GCM vectors, in which H and C are given (the bytes below, first byte lowest). -/

/-- A string of bytes written with its first byte highest. -/
def beBlock (x : Nat) : Nat := ofLe (leBytes 16 x).reverse

theorem test_ghash :
    ghash (beBlock 0x66e94bd4ef8a2c3b884cfa59ca342b2e) [beBlock 0x0388dace60b6a392f328c2b971b2fe78, lengthBlock 0 128] =
      beBlock 0xf38cbb1ad69223dcc3457ae5b6b0f885 := by decide +kernel

/-! The package: Table 18.3's totals, and lands of Tables 18.9 to 18.12. -/

theorem test_power_totals : (railLoads.map RailLoad.designMw).sum + vauxMw = 365000 ∧ (railLoads.map RailLoad.saveMw).sum = 160000 := by
  decide +kernel
theorem test_lands : landNet 84 1 = some (.cxl 0 0 true true) ∧ landNet 8 36 = some (.ethernet 1 7 false false) ∧
    landNet 3 45 = some (.causeway 1 0 true true) ∧ landNet 1 1 = some (.sideband "PFAIL_N") ∧ landNet 93 1 = none := by decide +kernel

/-- The lands of the grid that carry a net. -/
def landCount (net : LandNet) (rows : List Nat) : Nat :=
  (rows.map fun r => ((List.range 92).filter fun c => decide (landNet (r + 1) (c + 1) = some net)).length).sum

theorem test_land_totals : landCount (.rail 0) (List.range 92) = 624 ∧ landCount (.rail 4) (List.range 92) = 96 ∧
    landCount (.rail 6) (List.range 92) = 160 ∧ landCount (.rail 7) (List.range 92) = 80 ∧ landCount (.rail 8) (List.range 92) = 48 ∧
    landCount .gnd (List.range 92) = 2648 := by decide +kernel

end Sys2Proof.Machine.Tests
end

namespace Sys2Proof.Machine

/-! The home of a line (R197): its groups read from the address, and the obligation about it. -/

/-- A group at or above bit 8 reads the same from an address and from the first byte of its line: bits [7:0] play no part. -/
theorem lineOf_mul_div_two_pow (a b : Nat) (hb : 8 ≤ b) : lineOf a * 256 / 2 ^ b = a / 2 ^ b := by
  have hpow : 2 ^ b = 256 * 2 ^ (b - 8) := (pow_mul_pow_sub 2 hb).symm
  rw [hpow, ← Nat.div_div_eq_div_mul, ← Nat.div_div_eq_div_mul, lineOf, Nat.mul_div_cancel _ (by decide)]

/-- Each group already fits in 6 bits, so cutting the exclusive OR to 6 bits loses nothing. -/
theorem homeOf_lineOf (a : Nat) : homeOf (lineOf a) =
    ((((((a / 2 ^ 8 % 64 ^^^ a / 2 ^ 14 % 64) ^^^ a / 2 ^ 20 % 64) ^^^ a / 2 ^ 26 % 64) ^^^ a / 2 ^ 32 % 64) ^^^ a / 2 ^ 38 % 64) ^^^
      a / 2 ^ 44 % 64) := by
  have hcut (x y : Nat) : (x ^^^ y) % 64 = x % 64 ^^^ y % 64 := Nat.xor_mod_two_pow (n := 6)
  simp only [homeOf, List.foldl_cons, List.foldl_nil, Nat.zero_xor, hcut, Nat.mod_mod]
  rw [lineOf_mul_div_two_pow a 8 (by decide), lineOf_mul_div_two_pow a 14 (by decide), lineOf_mul_div_two_pow a 20 (by decide),
    lineOf_mul_div_two_pow a 26 (by decide), lineOf_mul_div_two_pow a 32 (by decide), lineOf_mul_div_two_pow a 38 (by decide),
    lineOf_mul_div_two_pow a 44 (by decide)]

/-- Settles O41: the home is the exclusive OR of the address's own groups, and G6, the top 5 bits, stands zero-extended; addresses of
one line have one line number. -/
theorem homeOfALineIsTheExclusiveOrOfItsGroups : Obligations.HomeOfALineIsTheExclusiveOrOfItsGroups := by
  unfold Obligations.HomeOfALineIsTheExclusiveOrOfItsGroups
  constructor
  · intro a ha
    have hG6 : a / 2 ^ 44 % 64 = a / 2 ^ 44 % 32 := by omega
    rw [homeOf_lineOf, hG6]
  · intro a b hline
    exact congrArg homeOf hline

end Sys2Proof.Machine

namespace Sys2Proof.Machine

/-! DRAIN written to CW_CMD (R435, R436): the path of the Reeve's write down to the register, and the obligation about a DRAIN out of
place. -/

@[simp] theorem State.dropLatch_mode (a : Agent) (off : Nat) (s : State) : (s.dropLatch a off).mode = s.mode := rfl

@[simp] theorem State.dropLatch_isSet (a : Agent) (off : Nat) (f : Fld) (s : State) : (s.dropLatch a off).isSet f = s.isSet f := rfl

/-- No link stands between the Reeve and the registers: outside OFF it is always answered. -/
theorem State.answers_reeve {s : State} (hmode : s.mode ≠ .off) : s.answers .reeve = true := by
  simp [State.answers, hmode]

/-- A 32-bit access is accepted at every offset of alignment 4, whatever register stands there. -/
theorem accessOk_word (off : Nat) (target : Option Nat) : accessOk off target 4 = decide (off % 4 = 0) := by
  simp [accessOk]

/-- An aligned 32-bit write of the Reeve reaches its own offset (Table 2.11) and drops the Reeve's latch there (R9). -/
theorem exec_registerWrite_reeve_word {s : State} (hmode : s.mode ≠ .off) {off : Nat} (halign : off % 4 = 0) (v : Nat) :
    exec (.registerWrite .reeve off 4 v) s = .next ((s.dropLatch .reeve off).writeWord .reeve off (v % 2 ^ 32)).settle := by
  have hexec : exec (.registerWrite .reeve off 4 v) s = execRegisterWrite .reeve off 4 v s := rfl
  rw [hexec]
  simp [execRegisterWrite, State.answers_reeve hmode, State.regWrite, accessOk_word, halign, reachOf, mayWrite, finish]

/-- The word at 0xE00004 is CW_CMD, for whichever agent reaches it. -/
theorem State.writeWord_cwCmd (a : Agent) (v : Nat) (s : State) : s.writeWord a 0xE00004 v = s.writeCwCmd v := by
  simp [State.writeWord, State.writeTiers]

/-- The value 1 sets bit 0 alone, so DRAIN is the only command of the word that acts. -/
theorem State.writeCwCmd_one (s : State) : s.writeCwCmd 1 = s.drain := by
  simp [State.writeCwCmd, bitsOf]

/-- A drain begins in PAIRED with both contacts held; where one of the three is missing only the report is left (R436). -/
theorem State.drain_of_outOfPlace {s : State}
    (h : s.mode ≠ .paired ∨ s.isSet F.CW_STATUS_TWIN_CONTACT = false ∨ s.isSet F.CW_STATUS_WITNESS_CONTACT = false) :
    s.drain = s.raise Ev.DRAIN_ABANDONED [] := by
  have hrefuse : ¬ (s.mode = .paired ∧ s.isSet F.CW_STATUS_TWIN_CONTACT ∧ s.isSet F.CW_STATUS_WITNESS_CONTACT) := by
    rintro ⟨hpaired, htwin, hwitness⟩
    rcases h with hmode | hlost | hlost
    · exact hmode hpaired
    · exact absurd htwin (by simp [hlost])
    · exact absurd hwitness (by simp [hlost])
  exact if_neg hrefuse

/-- Settles O52: the Reeve's write of 1 to CW_CMD runs `State.drain` alone, and dropping the latch moves neither the mode nor a contact, so
the drain finds itself as out of place as the write did. -/
theorem drainOutOfPlaceIsIgnoredAndReported : Obligations.DrainOutOfPlaceIsIgnoredAndReported := by
  unfold Obligations.DrainOutOfPlaceIsIgnoredAndReported
  intro s hmode hplace
  have hdrain : (s.dropLatch .reeve 0xE00004).drain = (s.dropLatch .reeve 0xE00004).raise Ev.DRAIN_ABANDONED [] :=
    State.drain_of_outOfPlace (by simpa using hplace)
  have hone : 1 % 2 ^ 32 = 1 := Nat.mod_eq_of_lt (by decide)
  rw [exec_registerWrite_reeve_word hmode (by decide), hone, State.writeWord_cwCmd, State.writeCwCmd_one, hdrain]

end Sys2Proof.Machine

namespace Sys2Proof.Machine

/-! SAVE_PATH_OK (R517): the modes after the end of BRINGUP, and what each source of Table 15.6 asks. -/

/-- Settles O54: the modes match one to one; of the sources, a cleared one asks nothing, an uncleared KERUP_LINK_DOWN of a flash tile (1252
and 1253) asks that its condition has ended, and any other uncleared one holds SAVE_PATH_OK at 0. -/
theorem savePathIsOkWhileNoSavePathSourceStands : Obligations.SavePathIsOkWhileNoSavePathSourceStands := by
  unfold Obligations.SavePathIsOkWhileNoSavePathSourceStands
  intro s
  rw [State.savePathOk, Bool.and_eq_true, List.all_eq_true]
  apply and_congr
  · simp only [Bool.or_eq_true, decide_eq_true_eq, or_assoc]
  · refine forall₂_congr fun n _ => ?_
    cases huncleared : s.uncleared n with
    | false => simp
    | true =>
      by_cases hflash : 1252 ≤ n ∧ n ≤ 1253
      · rw [if_pos hflash]
        simp [hflash]
      · rw [if_neg hflash]
        simp [hflash]

end Sys2Proof.Machine

namespace Sys2Proof.Machine

/-! The step (R92, log entries 3, 4 and 126): which command it runs, what a cycle with no command leaves alone, and what every step keeps. -/

/-- A step with a command waiting runs the front one on the state with the rest of the queue. -/
theorem step_of_front {s : State} {c : Instr} {rest : List Instr} (h : s.pending = c :: rest) :
    step s = exec c { s with pending := rest } := by
  simp only [step, h]

/-- A step with no command waiting is a tick of the clock. -/
theorem step_of_empty {s : State} (h : s.pending = []) : step s = .next s.tick := by
  simp only [step, h]

/-- Settles O28: it is what the step does on a queue that is not empty. -/
theorem stepRunsTheFrontCommand : Obligations.StepRunsTheFrontCommand := by
  unfold Obligations.StepRunsTheFrontCommand
  intro c rest s hfront
  exact step_of_front hfront

/-! A cycle with no command: the receive buffers drain (R157). -/

/-- `s` differs from `a` at most in which ports it has stopped and in what it has sent, and it has sent all that `a` had. -/
def FlowOnly (a s : State) : Prop :=
  s = { a with eth := { a.eth with xoff := s.eth.xoff }, out := s.out } ∧ a.out <+: s.out

theorem FlowOnly.refl (a : State) : FlowOnly a a := ⟨rfl, List.prefix_rfl⟩

theorem FlowOnly.trans {a b c : State} (h : FlowOnly a b) (g : FlowOnly b c) : FlowOnly a c := by
  refine ⟨?_, h.2.trans g.2⟩
  conv_lhs => rw [g.1, h.1]

/-- An empty buffer sends XON to a partner that its port had stopped, with FLOW_MODE 1. -/
theorem State.flowControl_zero_of_mem {s : State} {p : Nat} (hmode : s.isSet F.RDMA_GLOBAL_CFG_FLOW_MODE = true) (hp : p ∈ s.eth.xoff) :
    s.flowControl p 0 =
      ({ s with eth := { s.eth with xoff := s.eth.xoff.filter fun x => decide (x ≠ p) } } : State).emit (.pfc p s.pfcPrio false) := by
  simp [State.flowControl, hmode, hp, State.pfcPrio, State.get]

/-- An empty buffer of a port that has stopped nobody, or with FLOW_MODE 0, has no effect. -/
theorem State.flowControl_zero_eq_self {s : State} {p : Nat} (h : s.isSet F.RDMA_GLOBAL_CFG_FLOW_MODE = false ∨ p ∉ s.eth.xoff) :
    s.flowControl p 0 = s := by
  rcases h with h | h <;> simp [State.flowControl, h]

theorem State.flowControl_zero_rest (p : Nat) (s : State) : FlowOnly s (s.flowControl p 0) := by
  by_cases h : s.isSet F.RDMA_GLOBAL_CFG_FLOW_MODE = true ∧ p ∈ s.eth.xoff
  · rw [State.flowControl_zero_of_mem h.1 h.2]
    exact ⟨rfl, List.prefix_append _ _⟩
  · rw [State.flowControl_zero_eq_self (by simpa [or_iff_not_imp_left] using h)]
    exact FlowOnly.refl s

/-- Draining buffers one after another changes no more than draining one does. -/
theorem State.forEach_flowControl_rest (ps : List Nat) (s : State) : FlowOnly s (s.forEach ps fun p a => a.flowControl p 0) := by
  induction ps generalizing s with
  | nil => exact FlowOnly.refl s
  | cons p ps ih => exact (s.flowControl_zero_rest p).trans (ih (s.flowControl p 0))

/-- Draining one port's buffer leaves the other stopped ports stopped. -/
theorem State.mem_xoff_flowControl {s : State} {p x : Nat} (hne : p ≠ x) (hp : p ∈ s.eth.xoff) : p ∈ (s.flowControl x 0).eth.xoff := by
  by_cases h : s.isSet F.RDMA_GLOBAL_CFG_FLOW_MODE = true ∧ x ∈ s.eth.xoff
  · rw [State.flowControl_zero_of_mem h.1 h.2]
    simpa [State.emit, hne] using hp
  · rwa [State.flowControl_zero_eq_self (by simpa [or_iff_not_imp_left] using h)]

/-- Every stopped port whose buffer drains is sent XON. -/
theorem State.xon_mem_forEach_flowControl {p : Nat} (ps : List Nat) {s : State} (hmode : s.isSet F.RDMA_GLOBAL_CFG_FLOW_MODE = true)
    (hp : p ∈ s.eth.xoff) (hmem : p ∈ ps) : Output.pfc p s.pfcPrio false ∈ (s.forEach ps fun p a => a.flowControl p 0).out := by
  induction ps generalizing s with
  | nil => cases hmem
  | cons x ps ih =>
    have hrest := s.flowControl_zero_rest x
    by_cases hx : p = x
    · subst hx
      refine (State.forEach_flowControl_rest ps (s.flowControl p 0)).2.subset ?_
      rw [State.flowControl_zero_of_mem hmode hp]
      simp [State.emit]
    · have hget (f : Fld) : (s.flowControl x 0).get f = s.get f := by rw [hrest.1]; rfl
      have h := ih (s := s.flowControl x 0) (by rw [State.isSet, hget]; exact hmode) (State.mem_xoff_flowControl hx hp)
        ((List.mem_cons.1 hmem).resolve_left hx)
      rwa [State.pfcPrio, hget] at h

/-- A tick moves the clock by one and drains the buffers, nothing else. -/
theorem State.tick_rest (s : State) : FlowOnly { s with now := s.now + 1 } s.tick := State.forEach_flowControl_rest _ _

/-- Settles O29: the clock moves by one, and draining the buffers changes the stopped ports and what is sent, nothing else. -/
theorem emptyQueuePassesOneCycle : Obligations.EmptyQueuePassesOneCycle := by
  unfold Obligations.EmptyQueuePassesOneCycle
  intro s hempty
  obtain ⟨hrest, -⟩ := s.tick_rest
  refine ⟨s.tick, step_of_empty hempty, by rw [hrest], by rw [hrest, hempty], by rw [hrest], by rw [hrest], by rw [hrest],
    fun hxoff => ?_, fun hmode p hp hwaits => ?_⟩
  · simp [State.tick, State.drainBuffers, hxoff, State.forEach]
  · exact State.xon_mem_forEach_flowControl (s := { s with now := s.now + 1 }) _ hmode hp (by simpa using ⟨hp, hwaits⟩)

end Sys2Proof.Machine

namespace Sys2Proof.Machine

/-! No command ends in a fault or a refusal (log entry 126): each arm of `exec` is a tree of conditions whose leaves are next states. -/

/-- An outcome is a next state. -/
def Answers (o : Host.Outcome State Fault Refusal) : Prop := ∃ t, o = .next t

theorem Answers.finish {s : State} : Answers (finish s) := ⟨s.settle, rfl⟩

theorem Answers.ite {x y : Host.Outcome State Fault Refusal} {c : Prop} {_ : Decidable c} (h : Answers x) (g : Answers y) :
    Answers (if c then x else y) := by
  split
  · exact h
  · exact g

/-! The commands that look a record up first: in each case of the lookup, again such a tree. -/

theorem execCxlMemrd_answers {l : Fin 16} {ldid tag dpa : Nat} {sramBad : Bool} {s : State} : Answers (execCxlMemrd l ldid tag dpa sramBad s) := by
  dsimp only [execCxlMemrd]
  (repeat' split) <;> exact .finish

theorem execCxlMemspecrd_answers {l : Fin 16} {ldid dpa : Nat} {s : State} : Answers (execCxlMemspecrd l ldid dpa s) := by
  dsimp only [execCxlMemspecrd]
  (repeat' split) <;> exact .finish

theorem execCxlMeminv_answers {l : Fin 16} {ldid tag : Nat} {s : State} : Answers (execCxlMeminv l ldid tag s) := by
  dsimp only [execCxlMeminv]
  (repeat' split) <;> exact .finish

theorem execCxlUnsupportedM2s_answers {l : Fin 16} {ldid tag : Nat} {read : Bool} {s : State} :
    Answers (execCxlUnsupportedM2s l ldid tag read s) := by
  dsimp only [execCxlUnsupportedM2s]
  (repeat' split) <;> exact .finish

theorem execWriteCompletion_answers {id : Nat} {readbackOk : Bool} {s : State} : Answers (execWriteCompletion id readbackOk s) := by
  dsimp only [execWriteCompletion]
  (repeat' split) <;> exact .finish

theorem execPersistComplete_answers {q seq : Nat} {s : State} : Answers (execPersistComplete q seq s) := by
  dsimp only [execPersistComplete]
  (repeat' split) <;> exact .finish

theorem execPersistStalled_answers {q seq : Nat} {s : State} : Answers (execPersistStalled q seq s) := by
  dsimp only [execPersistStalled]
  (repeat' split) <;> exact .finish

theorem execGpfPhase1_answers {ld : Fin 64} {s : State} : Answers (execGpfPhase1 ld s) := by
  dsimp only [execGpfPhase1]
  (repeat' split) <;> exact .finish

theorem execGpfPhase2_answers {ld : Fin 64} {s : State} : Answers (execGpfPhase2 ld s) := by
  dsimp only [execGpfPhase2]
  (repeat' split) <;> exact .finish

theorem execGpfPhase2Done_answers {ld : Fin 64} {s : State} : Answers (execGpfPhase2Done ld s) := by
  dsimp only [execGpfPhase2Done]
  (repeat' split) <;> exact .finish

theorem execConfigRequest_answers {ld : Fin 64} {tag : Nat} {ask : CfgAsk} {s : State} : Answers (execConfigRequest ld tag ask s) := by
  dsimp only [execConfigRequest]
  (repeat' split) <;> exact .finish

theorem execIdeKmExchange_answers {l : Fin 16} {session : Nat} {act : IdeAct} {s : State} : Answers (execIdeKmExchange l session act s) := by
  dsimp only [execIdeKmExchange]
  (repeat' split) <;> exact .finish

theorem execHdmDecoderCommit_answers {ld : Fin 64} {idx : Fin 4} {base size skip ways gran : Nat} {lockOnCommit : Bool} {s : State} :
    Answers (execHdmDecoderCommit ld idx base size skip ways gran lockOnCommit s) := by
  dsimp only [execHdmDecoderCommit]
  (repeat' split) <;> exact .finish

theorem execScanMediaDone_answers {ld : Fin 64} {bad : List Nat} {s : State} : Answers (execScanMediaDone ld bad s) := by
  dsimp only [execScanMediaDone]
  (repeat' split) <;> exact .finish

theorem execArpNdRequest_answers {link : Fin 16} {addr : Nat} {s : State} : Answers (execArpNdRequest link addr s) := by
  dsimp only [execArpNdRequest]
  (repeat' split) <;> exact .finish

theorem execCmReq_answers {f : RxFrame} {addr pkey mtu : Nat} {rc : Bool} {depth psn : Nat} {priv : List Byte} {s : State} :
    Answers (execCmReq f addr pkey mtu rc depth psn priv s) := by
  dsimp only [execCmReq]
  (repeat' split) <;> exact .finish

theorem execCmRtu_answers {f : RxFrame} {qpn : Nat} {s : State} : Answers (execCmRtu f qpn s) := by
  dsimp only [execCmRtu]
  (repeat' split) <;> exact .finish

theorem execCmDreq_answers {f : RxFrame} {qpn : Nat} {s : State} : Answers (execCmDreq f qpn s) := by
  dsimp only [execCmDreq]
  (repeat' split) <;> exact .finish

theorem execCmRejRx_answers {f : RxFrame} {qpn : Nat} {s : State} : Answers (execCmRejRx f qpn s) := by
  dsimp only [execCmRejRx]
  (repeat' split) <;> exact .finish

theorem execRdmaWriteAck_answers {qpn : Nat} {s : State} : Answers (execRdmaWriteAck qpn s) := by
  dsimp only [execRdmaWriteAck]
  (repeat' split) <;> exact .finish

theorem execRdmaAckRx_answers {f : RxFrame} {qpn psn : Nat} {nak : Bool} {s : State} : Answers (execRdmaAckRx f qpn psn nak s) := by
  dsimp only [execRdmaAckRx]
  (repeat' split) <;> exact .finish

theorem execCqpRnrNakRx_answers {f : RxFrame} {qpn psn : Nat} {s : State} : Answers (execCqpRnrNakRx f qpn psn s) := by
  dsimp only [execCqpRnrNakRx]
  (repeat' split) <;> exact .finish

theorem execCqpRnrRetry_answers {qpn : Nat} {s : State} : Answers (execCqpRnrRetry qpn s) := by
  dsimp only [execCqpRnrRetry]
  (repeat' split) <;> exact .finish

theorem execCompletionSendFlush_answers {qpn : Nat} {s : State} : Answers (execCompletionSendFlush qpn s) := by
  dsimp only [execCompletionSendFlush]
  (repeat' split) <;> exact .finish

theorem execHltHolddownExpiry_answers {gid : Nat} {s : State} : Answers (execHltHolddownExpiry gid s) := by
  dsimp only [execHltHolddownExpiry]
  (repeat' split) <;> exact .finish

theorem execHltMoveDrainDone_answers {gid : Nat} {s : State} : Answers (execHltMoveDrainDone gid s) := by
  dsimp only [execHltMoveDrainDone]
  (repeat' split) <;> exact .finish

theorem execHltFlapClear_answers {gid : Nat} {s : State} : Answers (execHltFlapClear gid s) := by
  dsimp only [execHltFlapClear]
  (repeat' split) <;> exact .finish

theorem execHltEntryAgeOut_answers {gid : Nat} {s : State} : Answers (execHltEntryAgeOut gid s) := by
  dsimp only [execHltEntryAgeOut]
  (repeat' split) <;> exact .finish

theorem execCnpRx_answers {f : RxFrame} {qpn : Nat} {s : State} : Answers (execCnpRx f qpn s) := by
  dsimp only [execCnpRx]
  (repeat' split) <;> exact .finish

theorem execCnpRateRecovery_answers {qpn : Nat} {s : State} : Answers (execCnpRateRecovery qpn s) := by
  dsimp only [execCnpRateRecovery]
  (repeat' split) <;> exact .finish

theorem execPfcFrameRx_answers {link : Fin 16} {pause : Bool} {s : State} : Answers (execPfcFrameRx link pause s) := by
  dsimp only [execPfcFrameRx]
  (repeat' split) <;> exact .finish

theorem execMultipartAssembled_answers {q seq : Nat} {s : State} : Answers (execMultipartAssembled q seq s) := by
  dsimp only [execMultipartAssembled]
  (repeat' split) <;> exact .finish

theorem execCopyZeroDone_answers {q seq : Nat} {s : State} : Answers (execCopyZeroDone q seq s) := by
  dsimp only [execCopyZeroDone]
  (repeat' split) <;> exact .finish

theorem execHazardHoldRelease_answers {q seq : Nat} {sram : List Nat} {s : State} : Answers (execHazardHoldRelease q seq sram s) := by
  dsimp only [execHazardHoldRelease]
  (repeat' split) <;> exact .finish

theorem execWaitSatisfied_answers {q seq : Nat} {s : State} : Answers (execWaitSatisfied q seq s) := by
  dsimp only [execWaitSatisfied]
  (repeat' split) <;> exact .finish

theorem execWaitTimeout_answers {q seq : Nat} {s : State} : Answers (execWaitTimeout q seq s) := by
  dsimp only [execWaitTimeout]
  (repeat' split) <;> exact .finish

theorem execRegionAttachComplete_answers {q seq : Nat} {s : State} : Answers (execRegionAttachComplete q seq s) := by
  dsimp only [execRegionAttachComplete]
  (repeat' split) <;> exact .finish

theorem execRegionDetachComplete_answers {q seq : Nat} {s : State} : Answers (execRegionDetachComplete q seq s) := by
  dsimp only [execRegionDetachComplete]
  (repeat' split) <;> exact .finish

theorem execRegionInfo_answers {q seq : Nat} {s : State} : Answers (execRegionInfo q seq s) := by
  dsimp only [execRegionInfo]
  (repeat' split) <;> exact .finish

theorem execMgmtOperation_answers {q seq : Nat} {s : State} : Answers (execMgmtOperation q seq s) := by
  dsimp only [execMgmtOperation]
  (repeat' split) <;> exact .finish

theorem execStallCeilingExpiry_answers {id : Nat} {parts : List Nat} {s : State} : Answers (execStallCeilingExpiry id parts s) := by
  dsimp only [execStallCeilingExpiry]
  (repeat' split) <;> exact .finish

theorem execExtentDrop_answers {s : State} : Answers (execExtentDrop s) := by
  dsimp only [execExtentDrop]
  (repeat' split) <;> exact .finish

theorem execWritebackProgramDone_answers {page : Nat} {s : State} : Answers (execWritebackProgramDone page s) := by
  dsimp only [execWritebackProgramDone]
  (repeat' split) <;> exact .finish

theorem execProgramFailed_answers {page : Nat} {s : State} : Answers (execProgramFailed page s) := by
  dsimp only [execProgramFailed]
  (repeat' split) <;> exact .finish

theorem execTablePageWrite_answers {tp : Nat} {s : State} : Answers (execTablePageWrite tp s) := by
  dsimp only [execTablePageWrite]
  (repeat' split) <;> exact .finish

theorem execGcVictimRelocate_answers {s : State} : Answers (execGcVictimRelocate s) := by
  dsimp only [execGcVictimRelocate]
  (repeat' split) <;> exact .finish

theorem execWearLevelRelocate_answers {s : State} : Answers (execWearLevelRelocate s) := by
  dsimp only [execWearLevelRelocate]
  (repeat' split) <;> exact .finish

theorem execRestorePhaseDone_answers {repaired ignored : Nat} {damage : List (Nat × Nat)} {gap : Bool} {bad : List (Nat × LineVerdict)} {s : State} :
    Answers (execRestorePhaseDone repaired ignored damage gap bad s) := by
  unfold execRestorePhaseDone
  refine .ite .finish ?_
  split
  · dsimp only
    split <;> exact .finish
  · exact .ite .finish .finish
  · exact .ite .finish .finish
  · exact .ite .finish .finish
  · exact .finish

theorem execLineDataArrival_answers {line : Nat} {v : LineVerdict} {lanes : Fin 3} {ecc : List EccNote} {copyBad : List Nat} {memory crypto : Nat} {s : State} :
    Answers (execLineDataArrival line v lanes ecc copyBad memory crypto s) := by
  dsimp only [execLineDataArrival]
  (repeat' split) <;> exact .finish

theorem execKsCommandDone_answers {s : State} : Answers (execKsCommandDone s) := by
  dsimp only [execKsCommandDone]
  (repeat' split) <;> exact .finish

theorem execFlipMaskArm_answers {f : Fin 4} {read : Option Bool} {s : State} : Answers (execFlipMaskArm f read s) := by
  dsimp only [execFlipMaskArm]
  (repeat' split) <;> exact .finish

theorem execChannelDrainPageCopy_answers {c : Fin 16} {page : Option Nat} {s : State} : Answers (execChannelDrainPageCopy c page s) := by
  dsimp only [execChannelDrainPageCopy]
  (repeat' split) <;> exact .finish

theorem execNandEraseDone_answers {what : EraseWhat} {failed : List Nat} {s : State} : Answers (execNandEraseDone what failed s) := by
  dsimp only [execNandEraseDone]
  (repeat' split) <;> exact .finish

theorem execRebuildStripe_answers {bad : List Nat} {ecc : DeepEcc} {progFail : Bool} {s : State} :
    Answers (execRebuildStripe bad ecc progFail s) := by
  unfold execRebuildStripe
  refine .ite .finish ?_
  split <;> exact .finish

theorem execRepairReplyTimeout_answers {id : Nat} {s : State} : Answers (execRepairReplyTimeout id s) := by
  dsimp only [execRepairReplyTimeout]
  (repeat' split) <;> exact .finish

theorem execFlashPatrolStripe_answers {bad : List Nat} {ecc : DeepEcc} {parity : Option (Option Nat)} {marginal : Bool} {engine : Option (Fin 2)} {s : State} :
    Answers (execFlashPatrolStripe bad ecc parity marginal engine s) := by
  unfold execFlashPatrolStripe
  refine .ite .finish ?_
  extract_lets s0
  split <;> exact .finish

theorem execGqTakenRx_answers {p : Fin 2} {handle : Nat} {s0 : State} : Answers (execGqTakenRx p handle s0) := by
  dsimp only [execGqTakenRx]
  (repeat' split) <;> exact .finish

theorem execGqDoneRx_answers {p : Fin 2} {handle code ra rb : Nat} {s0 : State} : Answers (execGqDoneRx p handle code ra rb s0) := by
  dsimp only [execGqDoneRx]
  (repeat' split) <;> exact .finish

theorem execEchoRspRx_answers {p : Fin 2} {pattern : BitVec 64} {s0 : State} : Answers (execEchoRspRx p pattern s0) := by
  dsimp only [execEchoRspRx]
  (repeat' split) <;> exact .finish

theorem execGuestCmpOkRx_answers {p : Fin 2} {tag : Nat} {s0 : State} : Answers (execGuestCmpOkRx p tag s0) := by
  dsimp only [execGuestCmpOkRx]
  (repeat' split) <;> exact .finish

theorem execGuestCmpErrRx_answers {p : Fin 2} {tag code : Nat} {s0 : State} : Answers (execGuestCmpErrRx p tag code s0) := by
  dsimp only [execGuestCmpErrRx]
  (repeat' split) <;> exact .finish

theorem execGuestRegDataRx_answers {p : Fin 2} {tag : Nat} {value : BitVec 32} {s0 : State} : Answers (execGuestRegDataRx p tag value s0) := by
  dsimp only [execGuestRegDataRx]
  (repeat' split) <;> exact .finish

theorem execGqSubmitDispatch_answers {q : Nat} {s : State} : Answers (execGqSubmitDispatch q s) := by
  dsimp only [execGqSubmitDispatch]
  (repeat' split) <;> exact .finish

theorem execGqTimeout_answers {handle : Nat} {s : State} : Answers (execGqTimeout handle s) := by
  dsimp only [execGqTimeout]
  (repeat' split) <;> exact .finish

theorem execKgGregTimeout_answers {off : Nat} {s : State} : Answers (execKgGregTimeout off s) := by
  dsimp only [execKgGregTimeout]
  (repeat' split) <;> exact .finish

theorem execFlashOpDone_answers {bank : Fin 4} {ok : Bool} {s : State} : Answers (execFlashOpDone bank ok s) := by
  unfold execFlashOpDone
  extract_lets b
  split
  · exact .finish
  · exact .ite .finish .finish

theorem execWireFaultDetect_answers {pair : ErrPair} {s : State} : Answers (execWireFaultDetect pair s) := by
  dsimp only [execWireFaultDetect]
  (repeat' split) <;> exact .finish

theorem execEventRecordWrite_answers {cut : Bool} {s : State} : Answers (execEventRecordWrite cut s) := by
  dsimp only [execEventRecordWrite]
  (repeat' split) <;> exact .finish

theorem execPmbusMarginAck_answers {rail : Fin 12} {ok : Bool} {s : State} : Answers (execPmbusMarginAck rail ok s) := by
  dsimp only [execPmbusMarginAck]
  (repeat' split) <;> exact .finish

theorem execThermalTrip_answers {c : Fin 16} {s : State} : Answers (execThermalTrip c s) := by
  dsimp only [execThermalTrip]
  (repeat' split) <;> exact .finish

theorem execJtagAccess_answers {act : JtagAct} {s : State} : Answers (execJtagAccess act s) := by
  dsimp only [execJtagAccess]
  (repeat' split) <;> exact .finish

/-! What every command does, by its arm of `exec`: it answers a next state, and what `Keeps` says holds of that state. -/

theorem exec_answers_keeps (s : State) (i : Instr) : Answers (exec i s) ∧ Kept s (exec i s) := by
  cases i with
  | registerWrite => exact ⟨.ite .finish (.ite .finish .finish), execRegisterWrite_kept⟩
  | registerReadClear => exact ⟨.ite .finish (.ite .finish .finish), execRegisterReadClear_kept⟩
  | registerReadLatchHigh => exact ⟨.ite .finish (.ite .finish .finish), execRegisterReadLatchHigh_kept⟩
  | cxlMemrd => exact ⟨execCxlMemrd_answers, execCxlMemrd_kept⟩
  | cxlMemwr => exact ⟨.finish, execCxlMemwr_kept⟩
  | cxlMemwrptl => exact ⟨.finish, execCxlMemwrptl_kept⟩
  | cxlMemspecrd => exact ⟨execCxlMemspecrd_answers, execCxlMemspecrd_kept⟩
  | cxlMeminv => exact ⟨execCxlMeminv_answers, execCxlMeminv_kept⟩
  | cxlUnsupportedM2s => exact ⟨execCxlUnsupportedM2s_answers, execCxlUnsupportedM2s_kept⟩
  | writeCompletion => exact ⟨execWriteCompletion_answers, execWriteCompletion_kept⟩
  | mirrorWindowDrain => exact ⟨.ite .finish .finish, execMirrorWindowDrain_kept⟩
  | persist => exact ⟨.finish, execPersist_kept⟩
  | persistComplete => exact ⟨execPersistComplete_answers, execPersistComplete_kept⟩
  | persistStalled => exact ⟨execPersistStalled_answers, execPersistStalled_kept⟩
  | gpfPhase1 => exact ⟨execGpfPhase1_answers, execGpfPhase1_kept⟩
  | gpfPhase2 => exact ⟨execGpfPhase2_answers, execGpfPhase2_kept⟩
  | gpfPhase2Done => exact ⟨execGpfPhase2Done_answers, execGpfPhase2Done_kept⟩
  | configRequest => exact ⟨execConfigRequest_answers, execConfigRequest_kept⟩
  | perstNAssert => exact ⟨.ite .finish .finish, execPerstNAssert_kept⟩
  | perstNDeassert => exact ⟨.ite .finish .finish, execPerstNDeassert_kept⟩
  | cxlLinkUp => exact ⟨.ite .finish .finish, execCxlLinkUp_kept⟩
  | cxlLinkDown => exact ⟨.ite .finish (.ite .finish .finish), execCxlLinkDown_kept⟩
  | cxlHotReset => exact ⟨.ite .finish .finish, execCxlHotReset_kept⟩
  | functionLevelReset => exact ⟨.ite .finish .finish, execFunctionLevelReset_kept⟩
  | cxlPortServiceWrite => exact ⟨.finish, execCxlPortServiceWrite_kept⟩
  | cxlBindRestore => exact ⟨.finish, execCxlBindRestore_kept⟩
  | ideKmExchange => exact ⟨execIdeKmExchange_answers, execIdeKmExchange_kept⟩
  | ideMacFailure => exact ⟨.ite .finish .finish, execIdeMacFailure_kept⟩
  | ideEpochVerified => exact ⟨.ite .finish .finish, execIdeEpochVerified_kept⟩
  | hdmDecoderCommit => exact ⟨execHdmDecoderCommit_answers, execHdmDecoderCommit_kept⟩
  | getEventRecords => exact ⟨.finish, execGetEventRecords_kept⟩
  | clearEventRecords => exact ⟨.finish, execClearEventRecords_kept⟩
  | getEventInterruptPolicy => exact ⟨.finish, execGetEventInterruptPolicy_kept⟩
  | setEventInterruptPolicy => exact ⟨.finish, execSetEventInterruptPolicy_kept⟩
  | getFwInfo => exact ⟨.finish, execGetFwInfo_kept⟩
  | getTimestamp => exact ⟨.finish, execGetTimestamp_kept⟩
  | setTimestamp => exact ⟨.finish, execSetTimestamp_kept⟩
  | getSupportedLogs => exact ⟨.finish, execGetSupportedLogs_kept⟩
  | getLog => exact ⟨.finish, execGetLog_kept⟩
  | identifyMemoryDevice => exact ⟨.finish, execIdentifyMemoryDevice_kept⟩
  | getPartitionInfo => exact ⟨.finish, execGetPartitionInfo_kept⟩
  | getLsa => exact ⟨.finish, execGetLsa_kept⟩
  | setLsa => exact ⟨.finish, execSetLsa_kept⟩
  | getHealthInfo => exact ⟨.finish, execGetHealthInfo_kept⟩
  | getAlertConfiguration => exact ⟨.finish, execGetAlertConfiguration_kept⟩
  | getShutdownState => exact ⟨.finish, execGetShutdownState_kept⟩
  | setShutdownState => exact ⟨.finish, execSetShutdownState_kept⟩
  | getPoisonList => exact ⟨.finish, execGetPoisonList_kept⟩
  | injectPoison => exact ⟨.finish, execInjectPoison_kept⟩
  | clearPoison => exact ⟨.finish, execClearPoison_kept⟩
  | scanMedia => exact ⟨.finish, execScanMedia_kept⟩
  | getScanMediaCapabilities => exact ⟨.finish, execGetScanMediaCapabilities_kept⟩
  | getScanMediaResults => exact ⟨.finish, execGetScanMediaResults_kept⟩
  | scanMediaDone => exact ⟨execScanMediaDone_answers, execScanMediaDone_kept⟩
  | mailboxMgmtRequest => exact ⟨.finish, execMailboxMgmtRequest_kept⟩
  | mailboxUnsupported _ opcode => exact ⟨.finish, execMailboxUnsupported_kept (_opcode := opcode)⟩
  | getLdInfo => exact ⟨.finish, execGetLdInfo_kept⟩
  | getLdAllocations => exact ⟨.finish, execGetLdAllocations_kept⟩
  | getQosStatus => exact ⟨.finish, execGetQosStatus_kept⟩
  | fmApiUnsupported _ opcode => exact ⟨.finish, execFmApiUnsupported_kept (_opcode := opcode)⟩
  | ethLinkUp => exact ⟨.ite .finish .finish, execEthLinkUp_kept⟩
  | ethLinkDown => exact ⟨.ite .finish (.ite .finish .finish), execEthLinkDown_kept⟩
  | ethLinkServiceWrite => exact ⟨.finish, execEthLinkServiceWrite_kept⟩
  | arpNdRequest => exact ⟨execArpNdRequest_answers, execArpNdRequest_kept⟩
  | cmReq => exact ⟨execCmReq_answers, execCmReq_kept⟩
  | cmRtu => exact ⟨execCmRtu_answers, execCmRtu_kept⟩
  | cmDreq => exact ⟨execCmDreq_answers, execCmDreq_kept⟩
  | cmRejRx => exact ⟨execCmRejRx_answers, execCmRejRx_kept⟩
  | cmOtherMad => exact ⟨.ite .finish .finish, execCmOtherMad_kept⟩
  | rdmaReadReq => exact ⟨.finish, execRdmaReadReq_kept⟩
  | rdmaWritePacket => exact ⟨.finish, execRdmaWritePacket_kept⟩
  | rdmaWriteAck => exact ⟨execRdmaWriteAck_answers, execRdmaWriteAck_kept⟩
  | rdmaAtomic => exact ⟨.finish, execRdmaAtomic_kept⟩
  | rdmaUnsupportedOpcode => exact ⟨.finish, execRdmaUnsupportedOpcode_kept⟩
  | cqpSend => exact ⟨.finish, execCqpSend_kept⟩
  | rdmaAckRx => exact ⟨execRdmaAckRx_answers, execRdmaAckRx_kept⟩
  | cqpRnrNakRx => exact ⟨execCqpRnrNakRx_answers, execCqpRnrNakRx_kept⟩
  | cqpRnrRetry => exact ⟨execCqpRnrRetry_answers, execCqpRnrRetry_kept⟩
  | completionSendFlush => exact ⟨execCompletionSendFlush_answers, execCompletionSendFlush_kept⟩
  | qpContextFetchDone => exact ⟨.ite .finish .finish, execQpContextFetchDone_kept⟩
  | qpCachePressureCheck => exact ⟨.ite .finish .finish, execQpCachePressureCheck_kept⟩
  | hltHolddownExpiry => exact ⟨execHltHolddownExpiry_answers, execHltHolddownExpiry_kept⟩
  | hltMoveDrainDone => exact ⟨execHltMoveDrainDone_answers, execHltMoveDrainDone_kept⟩
  | hltFlapClear => exact ⟨execHltFlapClear_answers, execHltFlapClear_kept⟩
  | hltEntryAgeOut => exact ⟨execHltEntryAgeOut_answers, execHltEntryAgeOut_kept⟩
  | cnpRx => exact ⟨execCnpRx_answers, execCnpRx_kept⟩
  | cnpRateRecovery => exact ⟨execCnpRateRecovery_answers, execCnpRateRecovery_kept⟩
  | sluiceCnpTimer => exact ⟨.ite .finish .finish, execSluiceCnpTimer_kept⟩
  | pfcFrameRx => exact ⟨execPfcFrameRx_answers, execPfcFrameRx_kept⟩
  | pfcPauseLong => exact ⟨.ite .finish .finish, execPfcPauseLong_kept⟩
  | ringEnable => exact ⟨.finish, execRingEnable_kept⟩
  | ringDisable => exact ⟨.finish, execRingDisable_kept⟩
  | ringDisabled => exact ⟨.ite .finish .finish, execRingDisabled_kept⟩
  | pollerTick => exact ⟨.ite .finish .finish, execPollerTick_kept⟩
  | ringFetchData => exact ⟨.ite .finish .finish, execRingFetchData_kept⟩
  | multipartAssembled => exact ⟨execMultipartAssembled_answers, execMultipartAssembled_kept⟩
  | cqHeadRecheck => exact ⟨.ite .finish .finish, execCqHeadRecheck_kept⟩
  | cqFullTimeout => exact ⟨.ite .finish .finish, execCqFullTimeout_kept⟩
  | ringIdleSleep => exact ⟨.ite .finish (.ite .finish .finish), execRingIdleSleep_kept⟩
  | ringWake => exact ⟨.finish, execRingWake_kept⟩
  | ringRestart => exact ⟨.finish, execRingRestart_kept⟩
  | irqCoalesceExpiry => exact ⟨.ite (.ite .finish .finish) (.ite .finish .finish), execIrqCoalesceExpiry_kept⟩
  | copy => exact ⟨.finish, execCopy_kept⟩
  | zero => exact ⟨.finish, execZero_kept⟩
  | copyZeroResume => exact ⟨.finish, execCopyZeroResume_kept⟩
  | copyZeroDone => exact ⟨execCopyZeroDone_answers, execCopyZeroDone_kept⟩
  | hazardHoldRelease => exact ⟨execHazardHoldRelease_answers, execHazardHoldRelease_kept⟩
  | wait => exact ⟨.finish, execWait_kept⟩
  | waitSatisfied => exact ⟨execWaitSatisfied_answers, execWaitSatisfied_kept⟩
  | waitTimeout => exact ⟨execWaitTimeout_answers, execWaitTimeout_kept⟩
  | abort => exact ⟨.finish, execAbort_kept⟩
  | regionAttach => exact ⟨.finish, execRegionAttach_kept⟩
  | regionAttachComplete => exact ⟨execRegionAttachComplete_answers, execRegionAttachComplete_kept⟩
  | regionDetach => exact ⟨.finish, execRegionDetach_kept⟩
  | regionDetachComplete => exact ⟨execRegionDetachComplete_answers, execRegionDetachComplete_kept⟩
  | regionRelease => exact ⟨.ite .finish .finish, execRegionRelease_kept⟩
  | regionInfo => exact ⟨execRegionInfo_answers, execRegionInfo_kept⟩
  | keyProvision => exact ⟨.finish, execKeyProvision_kept⟩
  | keyRotate => exact ⟨.finish, execKeyRotate_kept⟩
  | streamDeclare => exact ⟨.finish, execStreamDeclare_kept⟩
  | streamAdvance => exact ⟨.finish, execStreamAdvance_kept⟩
  | streamRetire => exact ⟨.finish, execStreamRetire_kept⟩
  | guest => exact ⟨.finish, execGuest_kept⟩
  | mgmtOperation => exact ⟨execMgmtOperation_answers, execMgmtOperation_kept⟩
  | tenantCreate => exact ⟨.ite .finish .finish, execTenantCreate_kept⟩
  | tenantRemove => exact ⟨.ite .finish .finish, execTenantRemove_kept⟩
  | bindingWrite => exact ⟨.ite (.ite .finish .finish) (.ite .finish .finish), execBindingWrite_kept⟩
  | haSliceSleep => exact ⟨.ite .finish .finish, execHaSliceSleep_kept⟩
  | victimWriteAck => exact ⟨.ite .finish .finish, execVictimWriteAck_kept⟩
  | haRemapRequest => exact ⟨.ite .finish .finish, execHaRemapRequest_kept⟩
  | haSliceBistDone => exact ⟨.finish, execHaSliceBistDone_kept⟩
  | haSliceBistTimeout => exact ⟨.finish, execHaSliceBistTimeout_kept⟩
  | epochBoundary => exact ⟨.ite .finish (.ite .finish .finish), execEpochBoundary_kept⟩
  | latencyTracerClear => exact ⟨.finish, execLatencyTracerClear_kept⟩
  | fillLanded => exact ⟨.ite .finish (.ite .finish .finish), execFillLanded_kept⟩
  | stallCeilingExpiry => exact ⟨execStallCeilingExpiry_answers, execStallCeilingExpiry_kept⟩
  | extentDrop => exact ⟨execExtentDrop_answers, execExtentDrop_kept⟩
  | frameWaitTimeout => exact ⟨.ite .finish .finish, execFrameWaitTimeout_kept⟩
  | writebackCapture => exact ⟨.ite .finish .finish, execWritebackCapture_kept⟩
  | writebackProgramDone => exact ⟨execWritebackProgramDone_answers, execWritebackProgramDone_kept⟩
  | programFailed => exact ⟨execProgramFailed_answers, execProgramFailed_kept⟩
  | journalBlockWrite => exact ⟨.ite .finish .finish, execJournalBlockWrite_kept⟩
  | tablePageWrite => exact ⟨execTablePageWrite_answers, execTablePageWrite_kept⟩
  | gcVictimRelocate => exact ⟨execGcVictimRelocate_answers, execGcVictimRelocate_kept⟩
  | wearLevelRelocate => exact ⟨execWearLevelRelocate_answers, execWearLevelRelocate_kept⟩
  | streamStatusWrite => exact ⟨.ite .finish .finish, execStreamStatusWrite_kept⟩
  | freeboardRecompute => exact ⟨.finish, execFreeboardRecompute_kept⟩
  | sluiceShareRecompute => exact ⟨.ite .finish .finish, execSluiceShareRecompute_kept⟩
  | thermalCapStep => exact ⟨.ite .finish (.ite .finish (.ite .finish .finish)), execThermalCapStep_kept⟩
  | bankIdRead => exact ⟨.ite .finish (.ite .finish .finish), execBankIdRead_kept⟩
  | assayDue => exact ⟨.ite .finish .finish, execAssayDue_kept⟩
  | assayNow => exact ⟨.finish, execAssayNow_kept⟩
  | assayPrepareReady => exact ⟨.finish, execAssayPrepareReady_kept⟩
  | assayPrepareTimeout => exact ⟨.ite .finish .finish, execAssayPrepareTimeout_kept⟩
  | assayEsrMeasure => exact ⟨.ite .finish .finish, execAssayEsrMeasure_kept⟩
  | assayDischargeEnd => exact ⟨.ite .finish .finish, execAssayDischargeEnd_kept⟩
  | assayDischargeTimeout => exact ⟨.ite .finish .finish, execAssayDischargeTimeout_kept⟩
  | assayRelaxEnd => exact ⟨.ite .finish .finish, execAssayRelaxEnd_kept⟩
  | assayRechargeDone => exact ⟨.ite .finish .finish, execAssayRechargeDone_kept⟩
  | assayRechargeTimeout => exact ⟨.ite .finish .finish, execAssayRechargeTimeout_kept⟩
  | assayRetryDue => exact ⟨.ite .finish .finish, execAssayRetryDue_kept⟩
  | pfailNAssert => exact ⟨.ite .finish .finish, execPfailNAssert_kept⟩
  | pfailNDeassert => exact ⟨.ite .finish .finish, execPfailNDeassert_kept⟩
  | pfailFilterExpiry => exact ⟨.ite .finish .finish, execPfailFilterExpiry_kept⟩
  | spillwaySeal => exact ⟨.ite .finish .finish, execSpillwaySeal_kept⟩
  | saveRestartWaitEnd => exact ⟨.ite .finish (.ite .finish .finish), execSaveRestartWaitEnd_kept⟩
  | restorePhaseDone => exact ⟨execRestorePhaseDone_answers, execRestorePhaseDone_kept⟩
  | restoreExit => exact ⟨.ite .finish (.ite .finish (.ite .finish (.ite .finish .finish))), execRestoreExit_kept⟩
  | lineDataArrival => exact ⟨execLineDataArrival_answers, execLineDataArrival_kept⟩
  | cpIdleSleep => exact ⟨.ite .finish .finish, execCpIdleSleep_kept⟩
  | cpRemapRequest => exact ⟨.ite .finish .finish, execCpRemapRequest_kept⟩
  | cpSelfTestDone => exact ⟨.finish, execCpSelfTestDone_kept⟩
  | cpSelfTestTimeout => exact ⟨.finish, execCpSelfTestTimeout_kept⟩
  | ksLoad => exact ⟨.finish, execKsLoad_kept⟩
  | ksDestroy => exact ⟨.finish, execKsDestroy_kept⟩
  | ksCommandDone => exact ⟨execKsCommandDone_answers, execKsCommandDone_kept⟩
  | keyStoreUpdate => exact ⟨.ite .finish .finish, execKeyStoreUpdate_kept⟩
  | keyStoreUpdateDone => exact ⟨.ite .finish (.ite .finish .finish), execKeyStoreUpdateDone_kept⟩
  | rotationSweepExtent => exact ⟨.ite .finish (.ite .finish (.ite .finish (.ite .finish .finish))), execRotationSweepExtent_kept⟩
  | flipMaskArm => exact ⟨execFlipMaskArm_answers, execFlipMaskArm_kept⟩
  | dimmTempRead => exact ⟨.ite .finish (.ite .finish (.ite .finish .finish)), execDimmTempRead_kept⟩
  | channelTrainingDone => exact ⟨.ite .finish (.ite .finish (.ite .finish (.ite .finish .finish))), execChannelTrainingDone_kept⟩
  | channelTrainingTimeout => exact ⟨.ite .finish .finish, execChannelTrainingTimeout_kept⟩
  | zqCalibration c r => exact ⟨.finish, execZqCalibration_kept (z0 := c) (z1 := r)⟩
  | dqsDriftTrack => exact ⟨.ite .finish .finish, execDqsDriftTrack_kept⟩
  | refreshDue => exact ⟨.finish, execRefreshDue_kept⟩
  | rankPowerDownEntry => exact ⟨.ite .finish .finish, execRankPowerDownEntry_kept⟩
  | rankSelfRefreshEntry => exact ⟨.ite .finish .finish, execRankSelfRefreshEntry_kept⟩
  | dramAlert => exact ⟨.ite .finish (.ite .finish .finish), execDramAlert_kept⟩
  | dramPatrolRead => exact ⟨.ite .finish (.ite .finish (.ite .finish .finish)), execDramPatrolRead_kept⟩
  | channelServiceWrite => exact ⟨.finish, execChannelServiceWrite_kept⟩
  | channelDrainPageCopy => exact ⟨execChannelDrainPageCopy_answers, execChannelDrainPageCopy_kept⟩
  | channelFault => exact ⟨.ite .finish .finish, execChannelFault_kept⟩
  | slotPresenceFiltered => exact ⟨.ite .finish .finish, execSlotPresenceFiltered_kept⟩
  | slotPowerAttempt => exact ⟨.ite .finish .finish, execSlotPowerAttempt_kept⟩
  | slotPgTimeout => exact ⟨.ite .finish .finish, execSlotPgTimeout_kept⟩
  | slotFault => exact ⟨.ite .finish .finish, execSlotFault_kept⟩
  | slotPowerRetry => exact ⟨.ite .finish .finish, execSlotPowerRetry_kept⟩
  | slotSettleDone => exact ⟨.ite .finish (.ite .finish (.ite .finish .finish)), execSlotSettleDone_kept⟩
  | slotClearFault => exact ⟨.finish, execSlotClearFault_kept⟩
  | slotFailNow => exact ⟨.finish, execSlotFailNow_kept⟩
  | onfiReadyTimeout => exact ⟨.ite .finish .finish, execOnfiReadyTimeout_kept⟩
  | nandEraseDone => exact ⟨execNandEraseDone_answers, execNandEraseDone_kept⟩
  | noGroupRetry => exact ⟨.finish, execNoGroupRetry_kept⟩
  | rebuildStripe => exact ⟨execRebuildStripe_answers, execRebuildStripe_kept⟩
  | repairReplyTimeout => exact ⟨execRepairReplyTimeout_answers, execRepairReplyTimeout_kept⟩
  | flashPatrolStripe => exact ⟨execFlashPatrolStripe_answers, execFlashPatrolStripe_kept⟩
  | flashPatrolRateUpdate => exact ⟨.finish, execFlashPatrolRateUpdate_kept⟩
  | moduleTempRead => exact ⟨.ite .finish (.ite .finish (.ite .finish .finish)), execModuleTempRead_kept⟩
  | pathTrainingDone => exact ⟨.ite .finish .finish, execPathTrainingDone_kept⟩
  | pathTrainingTimeout => exact ⟨.ite .finish .finish, execPathTrainingTimeout_kept⟩
  | pathRetrainDue => exact ⟨.finish, execPathRetrainDue_kept⟩
  | pathLinkLoss => exact ⟨.ite .finish .finish, execPathLinkLoss_kept⟩
  | cwPathServiceWrite => exact ⟨.finish, execCwPathServiceWrite_kept⟩
  | linesFrameRx => exact ⟨.finish, execLinesFrameRx_kept⟩
  | linesBgFrameRx => exact ⟨.finish, execLinesBgFrameRx_kept⟩
  | pageMarkRx => exact ⟨.finish, execPageMarkRx_kept⟩
  | horizonFrameRx => exact ⟨.finish, execHorizonFrameRx_kept⟩
  | recordFrameRx => exact ⟨.finish, execRecordFrameRx_kept⟩
  | recordCommitRx => exact ⟨.finish, execRecordCommitRx_kept⟩
  | keyGenEntryRx => exact ⟨.finish, execKeyGenEntryRx_kept⟩
  | keyMasterRx => exact ⟨.finish, execKeyMasterRx_kept⟩
  | keyDestroyRx => exact ⟨.finish, execKeyDestroyRx_kept⟩
  | repairReqRx => exact ⟨.finish, execRepairReqRx_kept⟩
  | assayStateRx => exact ⟨.finish, execAssayStateRx_kept⟩
  | drainBeginRx => exact ⟨.finish, execDrainBeginRx_kept⟩
  | catchupBeginRx => exact ⟨.finish, execCatchupBeginRx_kept⟩
  | catchupDoneRx => exact ⟨.finish, execCatchupDoneRx_kept⟩
  | temperSetRx => exact ⟨.finish, execTemperSetRx_kept⟩
  | unpairRx => exact ⟨.finish, execUnpairRx_kept⟩
  | repairDoneRx => exact ⟨.finish, execRepairDoneRx_kept⟩
  | keyCommittedRx => exact ⟨.finish, execKeyCommittedRx_kept⟩
  | controlFrameRx => exact ⟨.ite .finish (.ite .finish (.ite .finish (.ite .finish .finish))), execControlFrameRx_kept⟩
  | helloRx => exact ⟨.ite .finish (.ite .finish (.ite .finish (.ite .finish .finish))), execHelloRx_kept⟩
  | nakTimer => exact ⟨.ite .finish .finish, execNakTimer_kept⟩
  | retransmitTimer => exact ⟨.finish, execRetransmitTimer_kept⟩
  | controlSendTimer => exact ⟨.ite .finish .finish, execControlSendTimer_kept⟩
  | helloSendTimer => exact ⟨.ite .finish .finish, execHelloSendTimer_kept⟩
  | rekeyDue => exact ⟨.finish, execRekeyDue_kept⟩
  | cwRekey => exact ⟨.finish, execCwRekey_kept⟩
  | oldKeyEpochExpiry => exact ⟨.finish, execOldKeyEpochExpiry_kept⟩
  | heartbeatTimer => exact ⟨.ite .finish .finish, execHeartbeatTimer_kept⟩
  | takeoverReqResend => exact ⟨.ite .finish .finish, execTakeoverReqResend_kept⟩
  | witnessStatusRx => exact ⟨.finish, execWitnessStatusRx_kept⟩
  | witnessGrantRx => exact ⟨.finish, execWitnessGrantRx_kept⟩
  | witnessDenyRx => exact ⟨.finish, execWitnessDenyRx_kept⟩
  | witnessFenceRx => exact ⟨.finish, execWitnessFenceRx_kept⟩
  | witnessContactTimeout => exact ⟨.finish, execWitnessContactTimeout_kept⟩
  | twinContactTimeout => exact ⟨.finish, execTwinContactTimeout_kept⟩
  | fenceNAssert => exact ⟨.ite .finish .finish, execFenceNAssert_kept⟩
  | fenceNDeassert => exact ⟨.finish, execFenceNDeassert_kept⟩
  | checkpointDue => exact ⟨.ite .finish (.ite .finish .finish), execCheckpointDue_kept⟩
  | cwDrain => exact ⟨.finish, execCwDrain_kept⟩
  | drainCutoverReady => exact ⟨.ite .finish .finish, execDrainCutoverReady_kept⟩
  | drainReleaseTimeout => exact ⟨.ite .finish .finish, execDrainReleaseTimeout_kept⟩
  | cwUnpair => exact ⟨.finish, execCwUnpair_kept⟩
  | cwReplaceAllow => exact ⟨.finish, execCwReplaceAllow_kept⟩
  | cwPairAllowNew => exact ⟨.finish, execCwPairAllowNew_kept⟩
  | pairAllowExpiry => exact ⟨.ite .finish .finish, execPairAllowExpiry_kept⟩
  | catchupCopyExtent => exact ⟨.ite .finish .finish, execCatchupCopyExtent_kept⟩
  | catchupComplete => exact ⟨.ite .finish .finish, execCatchupComplete_kept⟩
  | handbackStart => exact ⟨.ite .finish (.ite .finish .finish), execHandbackStart_kept⟩
  | kerupLinkUp => exact ⟨.ite .finish (.ite .finish .finish), execKerupLinkUp_kept⟩
  | kerupLinkDown => exact ⟨.ite .finish (.ite .finish .finish), execKerupLinkDown_kept⟩
  | guestRdGran => exact ⟨.finish, execGuestRdGran_kept⟩
  | guestRdLine => exact ⟨.finish, execGuestRdLine_kept⟩
  | guestRdHint => exact ⟨.ite .finish (.ite .finish (.ite .finish .finish)), execGuestRdHint_kept⟩
  | guestWrPtl => exact ⟨.finish, execGuestWrPtl_kept⟩
  | guestWrGran => exact ⟨.finish, execGuestWrGran_kept⟩
  | guestWrLine => exact ⟨.finish, execGuestWrLine_kept⟩
  | guestRegRd => exact ⟨.finish, execGuestRegRd_kept⟩
  | guestRegWr => exact ⟨.finish, execGuestRegWr_kept⟩
  | gqTakenRx => exact ⟨execGqTakenRx_answers, execGqTakenRx_kept⟩
  | gqDoneRx => exact ⟨execGqDoneRx_answers, execGqDoneRx_kept⟩
  | grantAckRx => exact ⟨.ite .finish .finish, execGrantAckRx_kept⟩
  | echoRspRx => exact ⟨execEchoRspRx_answers, execEchoRspRx_kept⟩
  | guestCmpOkRx => exact ⟨execGuestCmpOkRx_answers, execGuestCmpOkRx_kept⟩
  | guestCmpErrRx => exact ⟨execGuestCmpErrRx_answers, execGuestCmpErrRx_kept⟩
  | guestRegDataRx => exact ⟨execGuestRegDataRx_answers, execGuestRegDataRx_kept⟩
  | gqSubmitDispatch => exact ⟨execGqSubmitDispatch_answers, execGqSubmitDispatch_kept⟩
  | kgGrantWrite => exact ⟨.finish, execKgGrantWrite_kept⟩
  | grantRevoke => exact ⟨.ite .finish .finish, execGrantRevoke_kept⟩
  | grantRevokedSend => exact ⟨.ite .finish .finish, execGrantRevokedSend_kept⟩
  | grantAckTimeout => exact ⟨.ite .finish .finish, execGrantAckTimeout_kept⟩
  | gqTimeout => exact ⟨execGqTimeout_answers, execGqTimeout_kept⟩
  | gErrNfAssert => exact ⟨.ite .finish .finish, execGErrNfAssert_kept⟩
  | gErrFAssert => exact ⟨.ite .finish .finish, execGErrFAssert_kept⟩
  | guestRefclkStable => exact ⟨.ite .finish .finish, execGuestRefclkStable_kept⟩
  | gReadyAssert => exact ⟨.ite .finish .finish, execGReadyAssert_kept⟩
  | guestBringupTimeout => exact ⟨.ite .finish .finish, execGuestBringupTimeout_kept⟩
  | guestReset => exact ⟨.ite .finish .finish, execGuestReset_kept⟩
  | guestServiceWrite => exact ⟨.ite .finish .finish, execGuestServiceWrite_kept⟩
  | kerupL1Entry => exact ⟨.ite .finish .finish, execKerupL1Entry_kept⟩
  | kerupL1Exit => exact ⟨.ite .finish .finish, execKerupL1Exit_kept⟩
  | kgGregAccess => exact ⟨.finish, execKgGregAccess_kept⟩
  | kgGregTimeout => exact ⟨execKgGregTimeout_answers, execKgGregTimeout_kept⟩
  | reeveLockstepFail => exact ⟨.ite .finish .finish, execReeveLockstepFail_kept⟩
  | reeveWatchdogExpiry => exact ⟨.ite .finish .finish, execReeveWatchdogExpiry_kept⟩
  | rvWdtKick value _ => exact ⟨.finish, execRvWdtKick_kept (_value := value)⟩
  | reeveSramUncorrectable => exact ⟨.ite .finish .finish, execReeveSramUncorrectable_kept⟩
  | reeveBoot => exact ⟨.ite .finish .finish, execReeveBoot_kept⟩
  | fwTrialConfirm => exact ⟨.finish, execFwTrialConfirm_kept⟩
  | fwTrialTimeout => exact ⟨.ite .finish .finish, execFwTrialTimeout_kept⟩
  | flashUnlockWrite => exact ⟨.finish, execFlashUnlockWrite_kept⟩
  | programWord => exact ⟨.finish, execProgramWord_kept⟩
  | programRow => exact ⟨.finish, execProgramRow_kept⟩
  | eraseSector => exact ⟨.finish, execEraseSector_kept⟩
  | eraseBlock => exact ⟨.finish, execEraseBlock_kept⟩
  | flashClearStatus => exact ⟨.finish, execFlashClearStatus_kept⟩
  | flashReset => exact ⟨.ite .finish .finish, execFlashReset_kept⟩
  | flashOpDone => exact ⟨execFlashOpDone_answers, execFlashOpDone_kept⟩
  | flashWindowRead => exact ⟨.finish, execFlashWindowRead_kept⟩
  | readoutRaise => exact ⟨.finish, execReadoutRaise_kept⟩
  | readoutLowerArm => exact ⟨.finish, execReadoutLowerArm_kept⟩
  | readoutLowerConfirm => exact ⟨.finish, execReadoutLowerConfirm_kept⟩
  | readoutFinalArm => exact ⟨.finish, execReadoutFinalArm_kept⟩
  | readoutFinalConfirm => exact ⟨.finish, execReadoutFinalConfirm_kept⟩
  | armExpiry => exact ⟨.finish, execArmExpiry_kept⟩
  | readoutEraseDone => exact ⟨.ite .finish .finish, execReadoutEraseDone_kept⟩
  | bmcAddressMatch => exact ⟨.ite .finish .finish, execBmcAddressMatch_kept⟩
  | mctpControlMsg => exact ⟨.ite .finish .finish, execMctpControlMsg_kept⟩
  | getTid => exact ⟨.finish, execGetTid_kept⟩
  | getPldmVersion => exact ⟨.finish, execGetPldmVersion_kept⟩
  | getPldmTypes => exact ⟨.finish, execGetPldmTypes_kept⟩
  | getPldmCommands => exact ⟨.finish, execGetPldmCommands_kept⟩
  | getPdrRepositoryInfo => exact ⟨.finish, execGetPdrRepositoryInfo_kept⟩
  | getPdr => exact ⟨.finish, execGetPdr_kept⟩
  | getSensorReading => exact ⟨.finish, execGetSensorReading_kept⟩
  | getStateSensorReadings => exact ⟨.finish, execGetStateSensorReadings_kept⟩
  | setNumericSensorEnable => exact ⟨.finish, execSetNumericSensorEnable_kept⟩
  | setEventReceiver => exact ⟨.finish, execSetEventReceiver_kept⟩
  | pollForPlatformEventMessage => exact ⟨.finish, execPollForPlatformEventMessage_kept⟩
  | queryDeviceIdentifiers => exact ⟨.finish, execQueryDeviceIdentifiers_kept⟩
  | getFirmwareParameters => exact ⟨.finish, execGetFirmwareParameters_kept⟩
  | requestUpdate => exact ⟨.finish, execRequestUpdate_kept⟩
  | passComponentTable => exact ⟨.finish, execPassComponentTable_kept⟩
  | updateComponent => exact ⟨.ite .finish .finish, execUpdateComponent_kept⟩
  | firmwareDataRx => exact ⟨.ite .finish .finish, execFirmwareDataRx_kept⟩
  | transferComplete => exact ⟨.ite .finish .finish, execTransferComplete_kept⟩
  | verifyComplete => exact ⟨.ite .finish (.ite .finish .finish), execVerifyComplete_kept⟩
  | applyComplete => exact ⟨.ite .finish .finish, execApplyComplete_kept⟩
  | activateFirmware => exact ⟨.finish, execActivateFirmware_kept⟩
  | getStatus => exact ⟨.finish, execGetStatus_kept⟩
  | cancelUpdateComponent => exact ⟨.finish, execCancelUpdateComponent_kept⟩
  | cancelUpdate => exact ⟨.finish, execCancelUpdate_kept⟩
  | pldmUnsupported => exact ⟨.ite .finish .finish, execPldmUnsupported_kept⟩
  | spdmGetVersion => exact ⟨.finish, execSpdmGetVersion_kept⟩
  | spdmGetCapabilities => exact ⟨.finish, execSpdmGetCapabilities_kept⟩
  | spdmNegotiateAlgorithms => exact ⟨.finish, execSpdmNegotiateAlgorithms_kept⟩
  | spdmGetDigests => exact ⟨.finish, execSpdmGetDigests_kept⟩
  | spdmGetCertificate => exact ⟨.finish, execSpdmGetCertificate_kept⟩
  | spdmChallenge => exact ⟨.finish, execSpdmChallenge_kept⟩
  | spdmGetMeasurements => exact ⟨.finish, execSpdmGetMeasurements_kept⟩
  | spdmKeyExchange => exact ⟨.finish, execSpdmKeyExchange_kept⟩
  | spdmFinish => exact ⟨.finish, execSpdmFinish_kept⟩
  | spdmHeartbeat => exact ⟨.finish, execSpdmHeartbeat_kept⟩
  | spdmEndSession => exact ⟨.finish, execSpdmEndSession_kept⟩
  | mgmtStatus => exact ⟨.finish, execMgmtStatus_kept⟩
  | mgmtIdentity => exact ⟨.finish, execMgmtIdentity_kept⟩
  | mgmtDeviceKey => exact ⟨.finish, execMgmtDeviceKey_kept⟩
  | mgmtSensorRead => exact ⟨.finish, execMgmtSensorRead_kept⟩
  | mgmtBermRead => exact ⟨.finish, execMgmtBermRead_kept⟩
  | mgmtEventRead => exact ⟨.finish, execMgmtEventRead_kept⟩
  | mgmtTenantSet => exact ⟨.finish, execMgmtTenantSet_kept⟩
  | mgmtBindingSet => exact ⟨.finish, execMgmtBindingSet_kept⟩
  | mgmtGrantSet => exact ⟨.finish, execMgmtGrantSet_kept⟩
  | mgmtRegRead => exact ⟨.ite .finish .finish, execMgmtRegRead_kept⟩
  | mgmtRegWrite => exact ⟨.finish, execMgmtRegWrite_kept⟩
  | mgmtAssayNow => exact ⟨.finish, execMgmtAssayNow_kept⟩
  | mgmtPairCmd => exact ⟨.finish, execMgmtPairCmd_kept⟩
  | mgmtService => exact ⟨.finish, execMgmtService_kept⟩
  | mgmtTemperSet => exact ⟨.finish, execMgmtTemperSet_kept⟩
  | groupResetArm => exact ⟨.finish, execGroupResetArm_kept⟩
  | groupResetConfirm => exact ⟨.finish, execGroupResetConfirm_kept⟩
  | mgmtUnknownType => exact ⟨.ite .finish (.ite .finish (.ite .finish .finish)), execMgmtUnknownType_kept⟩
  | adcConversion => exact ⟨.ite .finish .finish, execAdcConversion_kept⟩
  | adcTrackClear => exact ⟨.finish, execAdcTrackClear_kept⟩
  | errorLineAssert => exact ⟨.ite .finish .finish, execErrorLineAssert_kept⟩
  | wireFaultDetect => exact ⟨execWireFaultDetect_answers, execWireFaultDetect_kept⟩
  | wireFaultPoll => exact ⟨.ite .finish .finish, execWireFaultPoll_kept⟩
  | sourceConditionEnd => exact ⟨.ite .finish (.ite .finish .finish), execSourceConditionEnd_kept⟩
  | fcAckWrite => exact ⟨.ite .finish .finish, execFcAckWrite_kept⟩
  | fcRaiseWrite => exact ⟨.finish, execFcRaiseWrite_kept⟩
  | fcPinClear => exact ⟨.finish, execFcPinClear_kept⟩
  | eventRecordWrite => exact ⟨execEventRecordWrite_answers, execEventRecordWrite_kept⟩
  | tokenRefill => exact ⟨.finish, execTokenRefill_kept⟩
  | vauxRise => exact ⟨.ite .finish .finish, execVauxRise_kept⟩
  | vauxFall => exact ⟨.finish, execVauxFall_kept⟩
  | aonStartCheck => exact ⟨.ite .finish (.ite .finish .finish), execAonStartCheck_kept⟩
  | aonStartRetry => exact ⟨.ite .finish .finish, execAonStartRetry_kept⟩
  | aonRegulatorDip => exact ⟨.ite .finish .finish, execAonRegulatorDip_kept⟩
  | pwrRamp => exact ⟨.finish, execPwrRamp_kept⟩
  | pwrSleep => exact ⟨.finish, execPwrSleep_kept⟩
  | pwrShutdown => exact ⟨.finish, execPwrShutdown_kept⟩
  | pwrRestart => exact ⟨.finish, execPwrRestart_kept⟩
  | shutdownWritebackDone => exact ⟨.ite .finish .finish, execShutdownWritebackDone_kept⟩
  | pseqGoAssert => exact ⟨.ite .finish (.ite .finish .finish), execPseqGoAssert_kept⟩
  | goWaitTimeout => exact ⟨.ite .finish .finish, execGoWaitTimeout_kept⟩
  | railPgAssert => exact ⟨.ite .finish .finish, execRailPgAssert_kept⟩
  | railPgTimeout => exact ⟨.ite .finish .finish, execRailPgTimeout_kept⟩
  | railWindowTimeout => exact ⟨.ite .finish .finish, execRailWindowTimeout_kept⟩
  | stepDelayExpiry => exact ⟨.ite .finish .finish, execStepDelayExpiry_kept⟩
  | pllLocked => exact ⟨.ite .finish (.ite .finish .finish), execPllLocked_kept⟩
  | pllLockTimeout => exact ⟨.ite .finish .finish, execPllLockTimeout_kept⟩
  | rampdownRailOff => exact ⟨.ite .finish .finish, execRampdownRailOff_kept⟩
  | wakeRetryDelay => exact ⟨.ite .finish .finish, execWakeRetryDelay_kept⟩
  | moduleDiscoveryStart => exact ⟨.ite .finish .finish, execModuleDiscoveryStart_kept⟩
  | bringupComplete => exact ⟨.ite .finish (.ite .finish (.ite .finish .finish)), execBringupComplete_kept⟩
  | railPgLoss => exact ⟨.ite .finish .finish, execRailPgLoss_kept⟩
  | pmbusPoll => exact ⟨.ite .finish (.ite .finish (.ite .finish .finish)), execPmbusPoll_kept⟩
  | railMarginWrite => exact ⟨.finish, execRailMarginWrite_kept⟩
  | pmbusMarginAck => exact ⟨execPmbusMarginAck_answers, execPmbusMarginAck_kept⟩
  | xtalStable => exact ⟨.ite .finish .finish, execXtalStable_kept⟩
  | xtalFail => exact ⟨.ite .finish .finish, execXtalFail_kept⟩
  | pllLockLoss => exact ⟨.ite .finish .finish, execPllLockLoss_kept⟩
  | pllRelock => exact ⟨.ite .finish .finish, execPllRelock_kept⟩
  | pllRelockTimeout => exact ⟨.ite .finish .finish, execPllRelockTimeout_kept⟩
  | flashClockIdleStop => exact ⟨.ite .finish .finish, execFlashClockIdleStop_kept⟩
  | aonAlarmExpiry => exact ⟨.ite .finish .finish, execAonAlarmExpiry_kept⟩
  | junctionSensorRead => exact ⟨.ite .finish (.ite .finish .finish), execJunctionSensorRead_kept⟩
  | thermalTrip => exact ⟨execThermalTrip_answers, execThermalTrip_kept⟩
  | throttleGraceExpiry => exact ⟨.ite .finish .finish, execThrottleGraceExpiry_kept⟩
  | operatingSecondTick => exact ⟨.ite .finish (.ite .finish .finish), execOperatingSecondTick_kept⟩
  | bermBucketClose => exact ⟨.ite .finish .finish, execBermBucketClose_kept⟩
  | bermCommit => exact ⟨.ite .finish .finish, execBermCommit_kept⟩
  | slotPgAssert => exact ⟨.ite .finish .finish, execSlotPgAssert_kept⟩
  | holdoffExpiry => exact ⟨.ite .finish .finish, execHoldoffExpiry_kept⟩
  | ringControlRecordReturn => exact ⟨.ite .finish .finish, execRingControlRecordReturn_kept⟩
  | ringReadCompletionTimeout => exact ⟨.ite .finish .finish, execRingReadCompletionTimeout_kept⟩
  | flitReplay => exact ⟨.ite .finish (.ite .finish .finish), execFlitReplay_kept⟩
  | kerupFlitReplay => exact ⟨.ite .finish .finish, execKerupFlitReplay_kept⟩
  | fecCodewordUncorrectable => exact ⟨.ite .finish (.ite .finish .finish), execFecCodewordUncorrectable_kept⟩
  | kerupCreditReturn => exact ⟨.ite .finish .finish, execKerupCreditReturn_kept⟩
  | jtagAccess => exact ⟨execJtagAccess_answers, execJtagAccess_kept⟩
  | witnessLinkAligned => exact ⟨.ite .finish .finish, execWitnessLinkAligned_kept⟩

theorem State.Sound.pending {s : State} (h : s.Sound) (l : List Instr) : State.Sound { s with pending := l } :=
  ⟨h.mem, h.deep, h.lines, h.deepLines, h.regs, h.queue, h.aon⟩

theorem State.Sound.now {s : State} (h : s.Sound) (n : Nat) : State.Sound { s with now := n } :=
  ⟨h.mem, h.deep, h.lines, h.deepLines, h.regs, h.queue, h.aon⟩

/-- What a step does: a tick of an empty queue, or what every command keeps from the state with the rest of the queue on. -/
theorem step_cases {s t : State} (h : step s = .next t) :
    (s.pending = [] ∧ Keeps { s with now := s.now + 1 } t) ∨ ∃ c rest, s.pending = c :: rest ∧ Keeps { s with pending := rest } t := by
  by_cases hqueue : s.pending = []
  · rw [step_of_empty hqueue] at h
    cases h
    exact .inl ⟨hqueue, State.drainBuffers_keeps (Keeps.refl _)⟩
  · obtain ⟨c, rest, hfront⟩ := List.exists_cons_of_ne_nil hqueue
    rw [step_of_front hfront] at h
    exact .inr ⟨c, rest, hfront, (exec_answers_keeps _ c).2 t h⟩

/-- Settles O31: by what every command keeps; neither taking the command off the queue nor moving the clock touches a table or a store. -/
theorem everyStepKeepsTheStateSound : Obligations.EveryStepKeepsTheStateSound := by
  unfold Obligations.EveryStepKeepsTheStateSound
  intro s t hs h
  rcases step_cases h with ⟨-, hkeeps⟩ | ⟨c, rest, -, hkeeps⟩
  · exact hkeeps.canon (hs.now _)
  · exact hkeeps.canon (hs.pending _)

/-- Settles O30: a tick is a next state, and so is what each command's arm answers. -/
theorem everyStepAnswersANextState : Obligations.EveryStepAnswersANextState := by
  unfold Obligations.EveryStepAnswersANextState
  intro s
  cases hqueue : s.pending with
  | nil => exact ⟨s.tick, step_of_empty hqueue⟩
  | cons c rest =>
    rw [step_of_front hqueue]
    exact (exec_answers_keeps _ c).1

/-- Settles O32: no command touches the rest of the queue or the clock, or draws a free value again. -/
theorem everyStepTakesOnlyTheFrontCommand : Obligations.EveryStepTakesOnlyTheFrontCommand := by
  unfold Obligations.EveryStepTakesOnlyTheFrontCommand
  intro s t h
  rcases step_cases h with ⟨hqueue, hkeeps⟩ | ⟨c, rest, hqueue, hkeeps⟩
  · exact ⟨by simp [hkeeps.pending, hqueue], by simp [hkeeps.now, hqueue], hkeeps.draws⟩
  · exact ⟨by simp [hkeeps.pending, hqueue], by simp [hkeeps.now, hqueue], hkeeps.draws⟩

end Sys2Proof.Machine

namespace Sys2Proof.Machine

/-! Registers (Table 0.8, R13): what a field set by hardware and a field written read as afterwards. -/

/-- A field reads back as it was set, cut to its width. -/
theorem State.get_put_self {s : State} (hs : s.Sound) (f : Fld) (v : Nat) : (s.put f v).get f = v % 2 ^ f.w := by
  rw [State.get, State.put, Sparse.get_set hs.regs, if_pos rfl]

theorem State.Sound.put {s : State} (hs : s.Sound) (f : Fld) (v : Nat) : (s.put f v).Sound :=
  (State.put_keeps (Keeps.refl s)).canon hs

/-- Settles O35: a set changes one key of the register file. -/
theorem registerFieldReadsBackWhatHardwarePut : Obligations.RegisterFieldReadsBackWhatHardwarePut := by
  unfold Obligations.RegisterFieldReadsBackWhatHardwarePut
  intro s f g v hs
  exact ⟨State.get_put_self hs f v, State.get_put_ne hs.regs, rfl, hs.put f v⟩

/-- From `a` to `s` the register file stays in order, and field `g` reads as it did. -/
structure FieldKept (g : Fld) (a s : State) : Prop where
  rising : s.regs.Pairwise fun (e f : Nat × Nat) => e.1 < f.1
  field : s.get g = a.get g

theorem FieldKept.refl {g : Fld} {s : State} (hs : s.Sound) : FieldKept g s s := ⟨hs.regs, rfl⟩

theorem FieldKept.put {g : Fld} {a s : State} (h : FieldKept g a s) {f : Fld} (hk : f.key ≠ g.key) (v : Nat) : FieldKept g a (s.put f v) :=
  ⟨Sparse.rising_set h.rising, (State.get_put_ne h.rising hk.symm).trans h.field⟩

/-- A change that leaves the register file alone keeps every field. -/
theorem FieldKept.of_regs {g : Fld} {a s t : State} (h : FieldKept g a s) (hregs : t.regs = s.regs) : FieldKept g a t :=
  ⟨hregs ▸ h.rising, by rw [State.get, hregs]; exact h.field⟩

/-- `s` differs from `a` in the register file alone. -/
def RegsOnly (a s : State) : Prop := s = { a with regs := s.regs }

theorem RegsOnly.refl (a : State) : RegsOnly a a := rfl

theorem RegsOnly.put {a s : State} (h : RegsOnly a s) (f : Fld) (v : Nat) : RegsOnly a (s.put f v) := by
  unfold RegsOnly at *
  conv_lhs => rw [State.put, h]
  rfl

/-- A part of a word is left alone, or its field is set where its access type lets it be written. -/
theorem State.writePart_cases (s0 s : State) (v : Nat) (p : WordPart) :
    s0.writePart v s p = s ∨ p.row.acc.writable = true ∧ ∃ new, s0.writePart v s p = s.put p.fld new := by
  unfold State.writePart
  cases p.row.acc with
  | ro | rc => exact .inl rfl
  | wo => exact .inr ⟨rfl, _, rfl⟩
  | rw | rwl | w1c =>
    dsimp only
    split
    · exact .inl rfl
    · exact .inr ⟨rfl, _, rfl⟩

/-- Parts of a word written one after another change the register file alone, and no field that none of them may write. -/
theorem State.foldl_writePart {a s : State} {g : Fld} (s0 : State) (v : Nat) {ps : List WordPart} (hrest : RegsOnly a s)
    (hkept : FieldKept g a s) (hps : ∀ p ∈ ps, p.row.acc.writable = true → p.fld.key ≠ g.key) :
    RegsOnly a (ps.foldl (State.writePart s0 v) s) ∧ FieldKept g a (ps.foldl (State.writePart s0 v) s) := by
  induction ps generalizing s with
  | nil => exact ⟨hrest, hkept⟩
  | cons p ps ih =>
    have htail (q) (hq : q ∈ ps) := hps q (List.mem_cons_of_mem p hq)
    rw [List.foldl_cons]
    rcases State.writePart_cases s0 s v p with h | ⟨hwritable, new, h⟩
    · rw [h]
      exact ih hrest hkept htail
    · rw [h]
      exact ih (hrest.put _ _) (hkept.put (hps p List.mem_cons_self hwritable) _) htail

/-- Settles O36: the word's parts are written one after another, each by its access type. -/
theorem registerWriteReachesOnlyItsWritableFields : Obligations.RegisterWriteReachesOnlyItsWritableFields := by
  unfold Obligations.RegisterWriteReachesOnlyItsWritableFields
  intro s off v g hs hparts
  obtain ⟨hrest, hkept⟩ := State.foldl_writePart s v (RegsOnly.refl s) (FieldKept.refl hs) hparts
  exact ⟨hkept.field, hrest⟩

/-- Settles O37: each access type is a branch of the write of a part. -/
theorem accessTypesActAsTheirTableSays : Obligations.AccessTypesActAsTheirTableSays := by
  unfold Obligations.AccessTypesActAsTheirTableSays
  intro s0 s p v
  refine ⟨?_, fun hacc hlock hset => ?_, fun hacc hlocked => ?_, fun hacc => ?_⟩
  · rintro (hacc | hacc) <;> rw [State.writePart, hacc]
  · simp only [State.writePart, hacc, hlock, hset, and_self, if_true]
  · simp only [State.writePart, hacc, hlocked, if_true]
  · rw [State.writePart, hacc]

/-! Lines in memory (R5, Table 0.4): what a byte reads as after a store or a zeroing of its line. -/

/-- The memory with byte `i` of a line stored, when the mask enables it. -/
def storeByte (line : Nat) (mask : BitVec 256) (d : LineData) (m : List Host.Cell) (i : Nat) : List Host.Cell :=
  if mask.getLsbD i then Sparse.set 0 (line * 256 + i) (lineByte d i) m else m

theorem State.storeLine_mem (s : State) (line : Nat) (mask : BitVec 256) (d : LineData) :
    (s.storeLine line mask d).mem = (List.range 256).foldl (storeByte line mask d) s.mem := by
  simp only [State.storeLine]
  congr 1

/-- A store to a line changes the memory alone. -/
theorem State.storeLine_rest (s : State) (line : Nat) (mask : BitVec 256) (d : LineData) :
    s.storeLine line mask d = { s with mem := (s.storeLine line mask d).mem } := by
  simp only [State.storeLine]

theorem wf_storeByte {line : Nat} {mask : BitVec 256} {d : LineData} {m : List Host.Cell} (hm : Memory.wf m = true) (i : Nat) :
    Memory.wf (storeByte line mask d m i) = true := by
  unfold storeByte
  split
  · exact Sparse.wf_set hm
  · exact hm

theorem get_storeByte {line : Nat} {mask : BitVec 256} {d : LineData} {m : List Host.Cell} (hm : Memory.wf m = true) (i a : Nat) :
    Sparse.get 0 a (storeByte line mask d m i) =
      if a = line * 256 + i ∧ mask.getLsbD i = true then lineByte d i else Sparse.get 0 a m := by
  unfold storeByte
  split
  · rename_i hi
    rw [Sparse.get_set ((Sparse.wf_iff _ _).1 hm).1]
    simp [hi]
  · rename_i hi
    simp [hi]

/-- The first `n` bytes of a line stored: the canonical form stays, and just the enabled ones of them read as stored. -/
theorem get_foldl_storeByte {line : Nat} {mask : BitVec 256} {d : LineData} {m : List Host.Cell} (hm : Memory.wf m = true) (a n : Nat)
    (hn : n ≤ 256) :
    Memory.wf ((List.range n).foldl (storeByte line mask d) m) = true ∧
    Sparse.get 0 a ((List.range n).foldl (storeByte line mask d) m) =
      if a / 256 = line ∧ a % 256 < n ∧ mask.getLsbD (a % 256) = true then lineByte d (a % 256) else Sparse.get 0 a m := by
  induction n with
  | zero => exact ⟨hm, by simp⟩
  | succ n ih =>
    obtain ⟨hwf, hget⟩ := ih (by omega)
    rw [List.range_succ, List.foldl_append, List.foldl_cons, List.foldl_nil]
    refine ⟨wf_storeByte hwf n, ?_⟩
    rw [get_storeByte hwf, hget]
    by_cases ha : a = line * 256 + n
    · have hline : a / 256 = line := by omega
      have hbyte : a % 256 = n := by omega
      simp [← ha, hline, hbyte]
    · have hiff : (a / 256 = line ∧ a % 256 < n + 1 ∧ mask.getLsbD (a % 256) = true) ↔
          (a / 256 = line ∧ a % 256 < n ∧ mask.getLsbD (a % 256) = true) := by
        refine and_congr_right fun hline => and_congr_left fun _ => ?_
        omega
      rw [if_neg (fun h => ha h.1)]
      simp only [hiff]

theorem State.wf_mem_storeLine {s : State} (hm : Memory.wf s.mem = true) (line : Nat) (mask : BitVec 256) (d : LineData) :
    Memory.wf (s.storeLine line mask d).mem = true := by
  rw [State.storeLine_mem]
  exact (get_foldl_storeByte hm 0 256 le_rfl).1

/-- A byte after a store to a line: the data's where it lies in the line and is enabled, and else as before. -/
theorem State.byte_storeLine {s : State} (hm : Memory.wf s.mem = true) (line a : Nat) (mask : BitVec 256) (d : LineData) :
    (s.storeLine line mask d).byte a =
      if a / 256 = line ∧ mask.getLsbD (a % 256) = true then lineByte d (a % 256) else s.byte a := by
  have hbyte : a % 256 < 256 := Nat.mod_lt _ (by decide)
  rw [State.byte, State.storeLine_mem, (get_foldl_storeByte hm a 256 le_rfl).2]
  simp only [hbyte, true_and, State.byte]

/-- Settles O38: a store sets the enabled bytes of its line one after another. -/
theorem storedLineReadsBackAndNoOtherByteChanges : Obligations.StoredLineReadsBackAndNoOtherByteChanges := by
  unfold Obligations.StoredLineReadsBackAndNoOtherByteChanges
  intro s line a mask d hm
  exact ⟨State.byte_storeLine hm line a mask d, State.storeLine_rest s line mask d, State.wf_mem_storeLine hm line mask d⟩

/-- Settles O39: zeroing a line clears its addresses, and an address that memory does not list reads as zero. -/
theorem zeroedLineReadsZeroAndNoOtherByteChanges : Obligations.ZeroedLineReadsZeroAndNoOtherByteChanges := by
  unfold Obligations.ZeroedLineReadsZeroAndNoOtherByteChanges
  intro s line a hm
  refine ⟨?_, rfl, Sparse.wf_clear hm⟩
  have hiff : (line * 256 ≤ a ∧ a < line * 256 + 256) ↔ a / 256 = line := by omega
  rw [State.byte, State.zeroLine, Sparse.get_clear ((Sparse.wf_iff _ _).1 hm).1]
  simp only [hiff, State.byte]

/-- The state of a line, set, reads back, and every other line's state reads as before. -/
theorem State.lineMeta_setMeta {s : State} (hs : s.Sound) (line k : Nat) (m : LineMeta) :
    (s.setMeta line m).lineMeta k = if k = line then m else s.lineMeta k := by
  rw [State.lineMeta, State.setMeta, Sparse.get_set ((Sparse.wf_iff _ _).1 hs.lines).1]
  rfl

/-- Settles O40: a set changes one key of the line states. -/
theorem lineStateReadsBackAndNoOtherLineChanges : Obligations.LineStateReadsBackAndNoOtherLineChanges := by
  unfold Obligations.LineStateReadsBackAndNoOtherLineChanges
  intro s line k m hs
  exact ⟨State.lineMeta_setMeta hs line k m, rfl, (State.setMeta_keeps (Keeps.refl s)).canon hs⟩

theorem State.forEach_cons {α : Type} (f : α → State → State) (x : α) (l : List α) (s : State) :
    s.forEach (x :: l) f = (f x s).forEach l f := rfl

/-! The lines of a save image, restored (R291, R296). -/

/-- `s` differs from `a` in the memory and the line states at most. -/
def LinesOnly (a s : State) : Prop := s = { a with mem := s.mem, lines := s.lines }

theorem LinesOnly.trans {a b c : State} (h : LinesOnly a b) (g : LinesOnly b c) : LinesOnly a c := by
  unfold LinesOnly at *
  conv_lhs => rw [g, h]

theorem State.restoreLine_rest (e : Nat × LineMeta × LineData) (s : State) : LinesOnly s (s.restoreLine e) := by
  simp only [LinesOnly, State.restoreLine, State.setMeta, State.storeLine]

theorem State.Sound.restoreLine {s : State} (hs : s.Sound) (e : Nat × LineMeta × LineData) : (s.restoreLine e).Sound :=
  (State.restoreLine_keeps (Keeps.refl s)).canon hs

theorem State.byte_restoreLine {s : State} (hs : s.Sound) (e : Nat × LineMeta × LineData) (a : Nat) :
    (s.restoreLine e).byte a = if a / 256 = e.1 then lineByte e.2.2 (a % 256) else s.byte a := by
  have henabled : fullMask.getLsbD (a % 256) = true := by
    rw [fullMask, BitVec.getLsbD_allOnes]
    exact decide_eq_true (Nat.mod_lt a (by decide))
  have hmem : (s.restoreLine e).byte a = (s.storeLine e.1 fullMask e.2.2).byte a := by
    rw [State.restoreLine, State.byte, State.setMeta_mem, State.byte]
  rw [hmem, State.byte_storeLine hs.mem]
  simp only [henabled, and_true]

theorem State.lineMeta_restoreLine {s : State} (hs : s.Sound) (e : Nat × LineMeta × LineData) (k : Nat) :
    (s.restoreLine e).lineMeta k = if k = e.1 then { e.2.1 with dirty := true, restored := true } else s.lineMeta k := by
  rw [State.restoreLine, State.lineMeta_setMeta ((State.storeLine_keeps (Keeps.refl s)).canon hs), State.lineMeta, State.storeLine_lines,
    State.lineMeta]

/-- Entries of distinct lines restored one after another: each of their lines reads as its entry, every other line as before. -/
theorem State.forEach_restoreLine {es : List (Nat × LineMeta × LineData)} {r : State} (hr : r.Sound)
    (hdistinct : es.Pairwise fun e f => e.1 < f.1) :
    (r.forEach es State.restoreLine).Sound ∧
    LinesOnly r (r.forEach es State.restoreLine) ∧
    (∀ e ∈ es, (r.forEach es State.restoreLine).lineMeta e.1 = { e.2.1 with dirty := true, restored := true } ∧
      ∀ a, a / 256 = e.1 → (r.forEach es State.restoreLine).byte a = lineByte e.2.2 (a % 256)) ∧
    ∀ line, (∀ e ∈ es, e.1 ≠ line) → (r.forEach es State.restoreLine).lineMeta line = r.lineMeta line ∧
      ∀ a, a / 256 = line → (r.forEach es State.restoreLine).byte a = r.byte a := by
  induction es generalizing r with
  | nil => exact ⟨hr, rfl, by simp, by simp [State.forEach]⟩
  | cons e es ih =>
    obtain ⟨hfirst, htail⟩ := List.pairwise_cons.1 hdistinct
    obtain ⟨hsound, hrest, hlisted, hother⟩ := ih (hr.restoreLine e) htail
    rw [State.forEach_cons]
    refine ⟨hsound, (r.restoreLine_rest e).trans hrest, fun f hf => ?_, fun line hline => ?_⟩
    · rcases List.mem_cons.1 hf with rfl | hf
      · obtain ⟨hmeta, hbyte⟩ := hother f.1 fun g hg => (hfirst g hg).ne'
        refine ⟨?_, fun a ha => ?_⟩
        · rw [hmeta, State.lineMeta_restoreLine hr, if_pos rfl]
        · rw [hbyte a ha, State.byte_restoreLine hr, if_pos ha]
      · exact hlisted f hf
    · obtain ⟨hmeta, hbyte⟩ := hother line fun g hg => hline g (List.mem_cons_of_mem e hg)
      have hne : line ≠ e.1 := (hline e List.mem_cons_self).symm
      refine ⟨?_, fun a ha => ?_⟩
      · rw [hmeta, State.lineMeta_restoreLine hr, if_neg hne]
      · rw [hbyte a ha, State.byte_restoreLine hr, if_neg (ha ▸ hne)]

/-- The entry of a save image for a line and its recorded state. -/
def State.imageEntry (s : State) (e : Nat × LineMeta) : Nat × LineMeta × LineData :=
  (e.1, { e.2 with pend := 0, ver := 0, poison := e.2.poison || s.imageLost e.1 }, s.lineData e.1)

/-- A line is dirty and goes into the image of a save. -/
def State.saved (s : State) (line : Nat) : Prop := (s.lineMeta line).dirty = true ∧ s.imageHolds line = true

/-- A recorded line state is the line's own. -/
theorem State.lineMeta_eq_of_mem {s : State} (hs : s.Sound) {e : Nat × LineMeta} (he : e ∈ s.lines) : s.lineMeta e.1 = e.2 := by
  obtain ⟨hrising, -⟩ := (Sparse.wf_iff _ _).1 hs.lines
  rw [State.lineMeta]
  generalize s.lines = t at hrising he
  induction t with
  | nil => cases he
  | cons f t ih =>
    obtain ⟨hfirst, htail⟩ := List.pairwise_cons.1 hrising
    rcases List.mem_cons.1 he with rfl | he
    · simp [Sparse.get]
    · have hlt := hfirst e he
      rw [Sparse.get, if_neg (by omega), if_neg (by omega)]
      exact ih htail he

/-- A line whose state is not that of a fresh line is recorded. -/
theorem State.mem_lines_of_ne {s : State} {line : Nat} (h : s.lineMeta line ≠ {}) : (line, s.lineMeta line) ∈ s.lines := by
  rw [State.lineMeta] at h ⊢
  generalize s.lines = t at h
  induction t with
  | nil => exact absurd rfl h
  | cons f t ih =>
    simp only [Sparse.get] at h ⊢
    split
    · rename_i hk
      exact hk ▸ List.mem_cons_self
    · rename_i hk
      rw [if_neg hk] at h
      split
      · rename_i hlt
        rw [if_pos hlt] at h
        exact absurd rfl h
      · rename_i hlt
        rw [if_neg hlt] at h
        exact List.mem_cons_of_mem f (ih h)

theorem State.imageLines_distinct {s : State} (hs : s.Sound) : s.imageLines.Pairwise fun e f => e.1 < f.1 := by
  obtain ⟨hrising, -⟩ := (Sparse.wf_iff _ _).1 hs.lines
  exact List.pairwise_map.2 (hrising.filter _)

/-- The image holds the saved lines, each with its entry. -/
theorem State.mem_imageLines_iff {s : State} (hs : s.Sound) (x : Nat × LineMeta × LineData) :
    x ∈ s.imageLines ↔ s.saved x.1 ∧ x = s.imageEntry (x.1, s.lineMeta x.1) := by
  simp only [State.imageLines, List.mem_map, List.mem_filter, Bool.and_eq_true, State.saved]
  constructor
  · rintro ⟨e, ⟨he, hdirty, hholds⟩, rfl⟩
    simp only [State.lineMeta_eq_of_mem hs he]
    exact ⟨⟨hdirty, hholds⟩, rfl⟩
  · rintro ⟨⟨hdirty, hholds⟩, hx⟩
    have hmem : (x.1, s.lineMeta x.1) ∈ s.lines := State.mem_lines_of_ne fun h => by simp [h] at hdirty
    exact ⟨(x.1, s.lineMeta x.1), ⟨hmem, hdirty, hholds⟩, hx.symm⟩

/-- Settles O51: a line is in the image just when it is saved, and then by one entry, which restores its data and its state. -/
theorem restoreGivesBackEverySavedLine : Obligations.RestoreGivesBackEverySavedLine := by
  unfold Obligations.RestoreGivesBackEverySavedLine
  intro s r hs hr
  obtain ⟨hsound, hrest, hlisted, hother⟩ := State.forEach_restoreLine hr (State.imageLines_distinct hs)
  have hentry (line : Nat) (h : s.saved line) : s.imageEntry (line, s.lineMeta line) ∈ s.imageLines :=
    (State.mem_imageLines_iff hs _).2 ⟨h, rfl⟩
  have hnone (line : Nat) (h : ¬ s.saved line) (e) (he : e ∈ s.imageLines) : e.1 ≠ line := by
    rintro rfl
    exact h ((State.mem_imageLines_iff hs e).1 he).1
  refine ⟨fun a => ?_, fun line => ?_, hrest, hsound⟩
  · split
    · rename_i h
      have hbyte : a % 256 < 256 := Nat.mod_lt a (by decide)
      refine ((hlisted _ (hentry (lineOf a) h)).2 a rfl).trans ((lineByte_lineData s (lineOf a) (a % 256) hbyte).trans ?_)
      rw [lineOf, Nat.div_add_mod' a 256]
    · rename_i h
      exact (hother (lineOf a) (hnone _ h)).2 a rfl
  · split
    · rename_i h
      exact (hlisted _ (hentry line h)).1
    · rename_i h
      exact (hother line (hnone line h)).1

end Sys2Proof.Machine

namespace Sys2Proof.Machine

/-! Addresses: the homes of a page's lines (R197), deep pages (R390, R391), windows (R103 to R108), and QUEUE_IDs (R429). -/

/-- What the page of a line adds to its home: the exclusive OR of the groups above the line's place in the page. -/
def pageHome (page : Nat) : Nat :=
  (((((page % 64 ^^^ page / 2 ^ 6 % 64) ^^^ page / 2 ^ 12 % 64) ^^^ page / 2 ^ 18 % 64) ^^^ page / 2 ^ 24 % 64) ^^^ page / 2 ^ 30 % 64)

theorem group_of_line (line k : Nat) : line * 256 / 2 ^ (8 + k) = line / 2 ^ k := by
  rw [Nat.add_comm, Nat.pow_add]
  exact Nat.mul_div_mul_right line (2 ^ k) (by decide)

theorem group_of_page (line k : Nat) : line * 256 / 2 ^ (14 + k) = line / 64 / 2 ^ k := by
  rw [show 14 + k = 8 + (6 + k) by omega, group_of_line, Nat.pow_add, ← Nat.div_div_eq_div_mul]

/-- The home of a line is its place in its page, exclusive-ORed with what the page adds. -/
theorem homeOf_eq_xor_pageHome (line : Nat) : homeOf line = line % 64 ^^^ pageHome (line / 64) := by
  have hline : lineOf (line * 256) = line := Nat.mul_div_cancel line (by decide)
  have h := homeOf_lineOf (line * 256)
  rw [hline, group_of_line line 0, group_of_page line 0, group_of_page line 6, group_of_page line 12, group_of_page line 18,
    group_of_page line 24, group_of_page line 30, Nat.pow_zero, Nat.div_one, Nat.div_one] at h
  rw [h, pageHome]
  simp only [Nat.xor_assoc]

/-- Settles O42: lines of one page add the same to their places, so equal homes are equal places. -/
theorem linesOfAPageLieInDistinctHomeAgents : Obligations.LinesOfAPageLieInDistinctHomeAgents := by
  unfold Obligations.LinesOfAPageLieInDistinctHomeAgents
  refine ⟨fun line => Nat.mod_lt _ (by decide), fun page i j hi hj h => ?_⟩
  have hhome (k : Nat) (hk : k < 64) : homeOf (64 * page + k) = k ^^^ pageHome page := by
    have hplace : (64 * page + k) % 64 = k := by omega
    have hpage : (64 * page + k) / 64 = page := by omega
    rw [homeOf_eq_xor_pageHome, hplace, hpage]
  rw [hhome i hi, hhome j hj] at h
  exact Nat.xor_left_injective h

/-- Positions of a stripe group of `k` are equal only where the places counted from one start are. -/
theorem eq_of_add_mod_eq {i a b k : Nat} (ha : a < k) (hb : b < k) (h : (i + a) % k = (i + b) % k) : a = b := by
  have hmod : a % k = b % k := Nat.ModEq.add_left_cancel' i h
  rwa [Nat.mod_eq_of_lt ha, Nat.mod_eq_of_lt hb] at hmod

/-- The fields of a DEEP_PAGE: its position, its stripe block and its stripe (R391). -/
theorem State.deepOf_fields {s : State} {sb n : Nat} (hmin : 4 ≤ s.width) (hmax : s.width ≤ 16) (hsb : sb < 2 ^ 19)
    (hn : n / s.width < 2 ^ 11) :
    posOfDeep (s.deepOf sb n) = (n / s.width + 2 + n % s.width) % (s.width + 2) ∧ sbOfDeep (s.deepOf sb n) = sb ∧
      s.deepOf sb n % 2 ^ 11 = n / s.width := by
  have hwidth : max 1 s.width = s.width := by omega
  have hpos : (n / s.width + 2 + n % s.width) % (s.width + 2) < s.width + 2 := Nat.mod_lt _ (by omega)
  simp only [posOfDeep, sbOfDeep, State.deepOf, hwidth]
  generalize (n / s.width + 2 + n % s.width) % (s.width + 2) = pos at hpos ⊢
  generalize n / s.width = i at hn ⊢
  refine ⟨?_, ?_, ?_⟩ <;> omega

/-- Settles O43: the positions of P and Q, and those of the stripe's data pages, are counted from the stripe's own place and differ. -/
theorem deepPagesLieOnDataPositionsAndNeverTwice : Obligations.DeepPagesLieOnDataPositionsAndNeverTwice := by
  unfold Obligations.DeepPagesLieOnDataPositionsAndNeverTwice
  intro s sb n hmin hmax hsb hn
  obtain ⟨hpos, hblock, hstripe⟩ := State.deepOf_fields hmin hmax hsb hn
  have hdata : n % s.width < s.width := Nat.mod_lt n (by omega)
  refine ⟨hpos, hblock, hstripe, fun h => ?_, fun h => ?_, fun k hk h => ?_⟩
  · rw [hpos, Nat.add_assoc] at h
    have := eq_of_add_mod_eq (i := n / s.width) (a := 2 + n % s.width) (b := 0) (by omega) (by omega) h
    omega
  · rw [hpos, Nat.add_assoc] at h
    have := eq_of_add_mod_eq (i := n / s.width) (a := 2 + n % s.width) (b := 1) (by omega) (by omega) h
    omega
  · obtain ⟨hposk, -, hstripek⟩ := State.deepOf_fields (s := s) hmin hmax hsb hk
    have hquot : k / s.width = n / s.width := by rw [← hstripek, ← hstripe, h]
    have hsum : (n / s.width + 2 + k % s.width) % (s.width + 2) = (n / s.width + 2 + n % s.width) % (s.width + 2) := by
      rw [← hpos, ← h, hposk, hquot]
    have hrem : k % s.width = n % s.width :=
      eq_of_add_mod_eq (i := n / s.width + 2) ((Nat.mod_lt k (by omega)).trans (by omega)) (by omega) hsum
    rw [← Nat.div_add_mod k s.width, hquot, hrem, Nat.div_add_mod]

/-- Settles O49: the window's mapping tests that the line lies from its base up to its span. -/
theorem windowOfALogicalDeviceMapsItsAddresses : Obligations.WindowOfALogicalDeviceMapsItsAddresses := by
  unfold Obligations.WindowOfALogicalDeviceMapsItsAddresses
  intro s n line d
  simp only [State.winDpa, Bool.and_eq_true, decide_eq_true_eq]
  generalize s.winBase n = base
  generalize s.winBytes n = span
  split
  · rename_i h
    obtain ⟨⟨hvalid, hlow⟩, hhigh⟩ := h
    simp only [hvalid, true_and, Option.some.injEq]
    omega
  · rename_i h
    refine iff_of_false (by simp) ?_
    rintro ⟨hvalid, haddr, hspan⟩
    exact h ⟨⟨hvalid, by omega⟩, by omega⟩

/-- A queue's side is one of the two. -/
theorem State.queueSide_le_one {s : State} (hside : s.side ≤ 1) (q : Nat) : s.queueSide q ≤ 1 := by
  unfold State.queueSide
  repeat' split
  all_goals omega

/-- Settles O59: the fields of a QUEUE_ID lie side by side. -/
theorem queueIdHoldsItsFields : Obligations.QueueIdHoldsItsFields := by
  unfold Obligations.QueueIdHoldsItsFields
  intro s q hside hq
  have hqs := State.queueSide_le_one hside q
  simp only [State.queueId]
  generalize s.queueSide q = qs at hqs ⊢
  generalize (s.queue q).incarnation % 2 ^ 32 = inc
  refine ⟨?_, ?_, ?_, ?_, ?_⟩ <;> omega

/-! Measures: the latency histogram (R219) and the Sluice's marks (R273 to R279). -/

/-- Settles O44: from 32 fc up a bin starts at each power of two, until the last. -/
theorem latencyBinsHoldTheirRanges : Obligations.LatencyBinsHoldTheirRanges := by
  unfold Obligations.LatencyBinsHoldTheirRanges
  intro total
  by_cases hlow : total < 32
  · have hbin : histBin total = 0 := if_pos hlow
    have hpow (b : Nat) (hb : 1 ≤ b) : 2 ^ 5 ≤ 2 ^ (b + 4) := Nat.pow_le_pow_right (by decide) (by omega)
    refine ⟨by omega, fun b hb _ => ?_, by omega⟩
    have := hpow b hb
    omega
  · have hbin : histBin total = min 15 (total.log2 - 4) := if_neg hlow
    have hle (k : Nat) : k ≤ total.log2 ↔ 2 ^ k ≤ total := Nat.le_log2 (by omega)
    have h5 := hle 5
    have h19 := hle 19
    refine ⟨by omega, fun b hb hb14 => ?_, by omega⟩
    rw [hbin, ← hle, ← not_le, ← hle]
    omega

/-- Settles O55: the marks are multiples of a GiB, which the comparisons settle. -/
theorem sluiceMarksLieInOrder : Obligations.SluiceMarksLieInOrder := by
  unfold Obligations.SluiceMarksLieInOrder
  intro s hraised
  have hhigh : s.highMark10 = min (9 * (s.sluiceD * 2 ^ 30)) (10 * s.admitMark) := by simp [State.highMark10, hraised, Nat.mul_assoc]
  have hrelease : s.releaseMark20 = min (17 * (s.sluiceD * 2 ^ 30)) (2 * s.highMark10 - 20 * 2 ^ 30) := by
    simp [State.releaseMark20, hraised, Nat.mul_assoc]
  have hadmit : s.admitMark = (s.sluiceD - 1) * 2 ^ 30 := rfl
  have hhighest : s.releaseMark20 ≤ 17 * (s.sluiceD * 2 ^ 30) := hrelease ▸ Nat.min_le_left ..
  have hbelow : s.releaseMark20 ≤ 2 * s.highMark10 - 20 * 2 ^ 30 := hrelease ▸ Nat.min_le_right ..
  refine ⟨hadmit, hhigh, hhighest, fun hd => ?_, hrelease, fun b ⟨hlimiting, hopen⟩ => ?_⟩
  · have hfree : s.highMark10 = 9 * (s.sluiceD * 2 ^ 30) := hhigh.trans (Nat.min_eq_left (by omega))
    exact ⟨hrelease.trans (Nat.min_eq_left (by omega)), hfree⟩
  · clear hadmit hhigh hrelease hhighest
    omega

end Sys2Proof.Machine

namespace Sys2Proof.Machine

/-! The Causeway: frames within the granted credit (R416), and a queue's horizon (R35 to R38). -/

/-- `s` differs from `a` in the Causeway's counts and in what it has sent, and it has sent all that `a` had. -/
structure FramesOnly (a s : State) : Prop where
  rest : s = { a with cw := s.cw, out := s.out }
  sent : a.out <+: s.out

theorem FramesOnly.refl (a : State) : FramesOnly a a := ⟨rfl, List.prefix_rfl⟩

theorem FramesOnly.trans {a b c : State} (h : FramesOnly a b) (g : FramesOnly b c) : FramesOnly a c := by
  refine ⟨?_, h.sent.trans g.sent⟩
  conv_lhs => rw [g.rest, h.rest]

/-- The state with one more mirror frame sent and its line entries counted. -/
def State.frameSent (f : Nat × CwBody) (s : State) : State :=
  ({ s with cw := { s.cw with sentUpTo := f.1, sentLines := s.cw.sentLines + frameLines f.2 } } : State).emit (.cwFrame f.1 f.2)

/-- A frame sent before is passed over, one that the credit covers is sent, and at any other the sending stops. -/
theorem State.pumpFrames_cons (f : Nat × CwBody) (fs : List (Nat × CwBody)) (s : State) : State.pumpFrames (f :: fs) s =
    if f.1 ≤ s.cw.sentUpTo then State.pumpFrames fs s
    else if s.cw.sentLines + frameLines f.2 ≤ s.cw.creditLines ∨ frameLines f.2 = 0 then State.pumpFrames fs (s.frameSent f)
    else s := rfl

theorem State.pumpFrames_rest (fs : List (Nat × CwBody)) (s : State) : FramesOnly s (State.pumpFrames fs s) := by
  induction fs generalizing s with
  | nil => exact FramesOnly.refl s
  | cons f fs ih =>
    rw [State.pumpFrames_cons]
    split
    · exact ih s
    · split
      · exact FramesOnly.trans ⟨rfl, List.prefix_append _ _⟩ (ih (s.frameSent f))
      · exact FramesOnly.refl s

/-- The count of line entries sent rises, and stays within the credit, which does not change. -/
theorem State.pumpFrames_credit (fs : List (Nat × CwBody)) (s : State) (h : s.cw.sentLines ≤ s.cw.creditLines) :
    (State.pumpFrames fs s).cw.sentLines ≤ s.cw.creditLines ∧ s.cw.sentLines ≤ (State.pumpFrames fs s).cw.sentLines ∧
      (State.pumpFrames fs s).cw.creditLines = s.cw.creditLines := by
  induction fs generalizing s with
  | nil => exact ⟨h, le_rfl, rfl⟩
  | cons f fs ih =>
    rw [State.pumpFrames_cons]
    split
    · exact ih s h
    · split
      · rename_i hcredit
        have hlines : (s.frameSent f).cw.sentLines = s.cw.sentLines + frameLines f.2 := rfl
        have hgranted : (s.frameSent f).cw.creditLines = s.cw.creditLines := rfl
        have hnext := ih (s.frameSent f) (by omega)
        omega
      · exact ⟨h, le_rfl, rfl⟩

/-- Settles O46: each frame sent fits in the credit that is left. -/
theorem mirrorFramesStayWithinTheGrantedCredit : Obligations.MirrorFramesStayWithinTheGrantedCredit := by
  unfold Obligations.MirrorFramesStayWithinTheGrantedCredit
  intro fs s h
  obtain ⟨hwithin, hrises, hcredit⟩ := State.pumpFrames_credit fs s h
  obtain ⟨hrest, hsent⟩ := State.pumpFrames_rest fs s
  exact ⟨hwithin, hrises, hcredit, hrest, hsent⟩

/-- A frame queued and sent changes the count of frames, the Causeway and what is sent. -/
theorem State.sendFrame_rest (b : CwBody) (s : State) :
    (s.sendFrame b).2 = { s with regs := (s.sendFrame b).2.regs, cw := (s.sendFrame b).2.cw, out := (s.sendFrame b).2.out } := by
  simp only [State.sendFrame, State.pump]
  rw [(State.pumpFrames_rest _ _).rest]
  rfl

theorem State.queue_setQueue {s : State} (hs : s.queues.Pairwise fun (e f : Nat × Queue) => e.1 < f.1) (q : Nat) (k : Queue) :
    (s.setQueue q k).queue q = k := by
  rw [State.queue, State.setQueue, Sparse.get_set hs, if_pos rfl]

/-- The horizon that the acknowledged frames of a queue carry, from the one it has. -/
def State.ackedHorizon (s : State) (frames : List (Nat × Nat)) (h : Nat) : Nat :=
  frames.foldl (fun h e => if e.1 ≤ s.ackSeq then max h e.2 else h) h

theorem State.le_ackedHorizon (s : State) (frames : List (Nat × Nat)) (h : Nat) : h ≤ s.ackedHorizon frames h := by
  induction frames generalizing h with
  | nil => exact le_rfl
  | cons e frames ih =>
    refine le_trans ?_ (ih _)
    dsimp only
    split
    · exact le_max_left h e.2
    · exact le_rfl

/-- What an advance does: nothing, or it sets the queue's record to one with the acknowledged horizon, with or without a frame sent. -/
theorem State.advanceHorizon_cases (s : State) (q : Nat) :
    s.advanceHorizon q = s ∨ ∃ k : Queue, k.horizon = s.ackedHorizon (s.queue q).hFrames (s.queue q).horizon ∧
      (s.advanceHorizon q = s.setQueue q k ∨ ∃ (k0 : Queue) (b : CwBody), s.advanceHorizon q = ((s.setQueue q k0).sendFrame b).2.setQueue q k) := by
  unfold State.advanceHorizon
  dsimp only
  split
  · exact .inl rfl
  · right
    split
    · exact ⟨_, by rfl, .inr ⟨_, _, rfl⟩⟩
    · exact ⟨_, by rfl, .inl rfl⟩

/-- Settles O45: an advance takes up acknowledged horizons, each by a maximum, and only with the twin in force and no fence. -/
theorem durabilityHorizonNeverFallsAndFreezes : Obligations.DurabilityHorizonNeverFallsAndFreezes := by
  unfold Obligations.DurabilityHorizonNeverFallsAndFreezes
  intro s q hs
  have hfrozen (h : s.mode.twin = false ∨ s.fenced = true) : s.advanceHorizon q = s := by
    rcases h with h | h <;> simp [State.advanceHorizon, h]
  rcases s.advanceHorizon_cases q with h | ⟨k, hk, h | ⟨k0, b, h⟩⟩
  · exact ⟨by rw [h], by rw [h], by rw [h], hfrozen⟩
  · refine ⟨?_, by rw [h, State.setQueue_mem], by rw [h, State.setQueue_lines], hfrozen⟩
    rw [h, State.queue_setQueue hs, hk]
    exact s.le_ackedHorizon _ _
  · have hqueues : ((s.setQueue q k0).sendFrame b).2.queues = (s.setQueue q k0).queues := by rw [State.sendFrame_rest]
    have hlines : ((s.setQueue q k0).sendFrame b).2.lines = s.lines := by rw [State.sendFrame_rest, State.setQueue_lines]
    refine ⟨?_, by rw [h, State.setQueue_mem, State.sendFrame_mem, State.setQueue_mem], by rw [h, State.setQueue_lines, hlines], hfrozen⟩
    rw [h, State.queue_setQueue (hqueues ▸ Sparse.rising_set hs), hk]
    exact s.le_ackedHorizon _ _

end Sys2Proof.Machine

namespace Sys2Proof.Machine

/-! The fault collector (R514 to R521): raises, acknowledgements and the ends of conditions. -/

/-- A counter reads as it did plus what it is raised by, saturated at its width. -/
theorem State.get_bump_self {s : State} (hs : s.Sound) (f : Fld) (n : Nat) : (s.bump f n).get f = satAdd f.w (s.get f) n := by
  have hpos : 0 < 2 ^ f.w := Nat.pow_pos (by decide)
  rw [State.bump, State.get_put_self hs, satAdd]
  exact Nat.mod_eq_of_lt (by omega)

theorem FieldKept.ite {g : Fld} {a x y : State} {c : Prop} [Decidable c] (hx : FieldKept g a x) (hy : FieldKept g a y) :
    FieldKept g a (if c then x else y) := by
  split
  · exact hx
  · exact hy

theorem FieldKept.bump {g : Fld} {a s : State} (h : FieldKept g a s) {f : Fld} (hk : f.key ≠ g.key) (n : Nat) :
    FieldKept g a (s.bump f n) := h.put hk _

theorem FieldKept.queueEntry {g : Fld} {a s : State} (h : FieldKept g a s) (hk : F.FC_QUEUE_DROPPED.key ≠ g.key) (e : EvEntry) :
    FieldKept g a (s.queueEntry e) := by
  unfold State.queueEntry
  split
  · exact h.of_regs rfl
  · refine FieldKept.bump ?_ hk 1
    exact h.of_regs rfl

theorem State.beginCond_regs (n : Nat) (s : State) : (s.beginCond n).regs = s.regs := by
  unfold State.beginCond
  split <;> rfl

/-- Settles O53: with room the entry goes to the end of the queue, and without it the count of the dropped rises. -/
theorem fullCollectorQueueDropsAndCounts : Obligations.FullCollectorQueueDropsAndCounts := by
  unfold Obligations.FullCollectorQueueDropsAndCounts
  intro s e hs
  refine ⟨fun hroom => if_pos hroom, fun hfull => ?_⟩
  rw [State.queueEntry, if_neg (by omega)]
  refine ⟨rfl, ?_, rfl⟩
  exact State.get_bump_self (s := { s with fc := { s.fc with dropsSinceRoom := s.fc.dropsSinceRoom + 1, lostEntries := s.fc.lostEntries + 1 } })
    ⟨hs.mem, hs.deep, hs.lines, hs.deepLines, hs.regs, hs.queue, hs.aon⟩ _ _

/-- The reaction that a raise of an idle source takes: its own, or one above the assigned while a source of its class is ACTIVE (R514, R516). -/
def State.takenReaction (n : Nat) (s : State) : Nat :=
  max (max (s.assigned n) (s.minReaction n))
    (if s.assigned n = 5 then 5
    else if s.activeSources.any fun m => decide (s.srcClass m = s.srcClass n) then
      min (s.assigned n + 1) (if 1 ≤ s.get F.FC_CTRL_ESC_MAX ∧ s.get F.FC_CTRL_ESC_MAX ≤ 5 then s.get F.FC_CTRL_ESC_MAX else 3)
    else s.assigned n)

theorem State.assigned_le (n : Nat) (s : State) : s.assigned n ≤ 5 := by
  unfold State.assigned
  dsimp only
  split
  · omega
  · split <;> omega

theorem State.minReaction_le (n : Nat) (s : State) : s.minReaction n ≤ 5 := by
  unfold State.minReaction
  repeat' split
  all_goals omega

/-- The reaction taken lies between the source's own and CHIP. -/
theorem State.takenReaction_bounds (n : Nat) (s : State) :
    s.minReaction n ≤ s.takenReaction n ∧ s.assigned n ≤ s.takenReaction n ∧ s.takenReaction n ≤ 5 := by
  have hassigned := s.assigned_le n
  have hmin := s.minReaction_le n
  unfold State.takenReaction
  refine ⟨le_max_of_le_left (le_max_right _ _), le_max_of_le_left (le_max_left _ _), max_le (max_le hassigned hmin) ?_⟩
  split
  · exact le_rfl
  · split
    · split <;> omega
    · exact hassigned

/-- The state with an idle source taken: ACTIVE, counted, with its reaction and whether it was escalated. -/
def State.markRaised (n taken : Nat) (escalated : Bool) (s : State) : State :=
  (((s.put (F.FC_SRC_STATUS_STATE n) 1).bump (F.FC_SRC_STATUS_COUNT n) 1).put (F.FC_SRC_STATUS_TAKEN n) taken).put
    (F.FC_SRC_STATUS_ESCALATED n) (flag escalated)

/-- The state with FAULT_N latched where the reaction is PIN or above. -/
def State.latchFor (taken : Nat) (s : State) : State := if 3 ≤ taken then { s with fc := { s.fc with latch := true } } else s

/-- The state with more reactions due. -/
def State.addDue (due : List (Nat × Nat)) (s : State) : State := { s with fc := { s.fc with due := s.fc.due ++ due } }

theorem State.addDue_latch (due : List (Nat × Nat)) (s : State) : (s.addDue due).fc.latch = s.fc.latch := rfl

theorem FieldKept.addDue {g : Fld} {a s : State} (h : FieldKept g a s) (due : List (Nat × Nat)) : FieldKept g a (s.addDue due) := h.of_regs rfl

/-- A source of the table is raised, where it is not a guest source without a guest site (R3). -/
theorem not_inactive {s : State} {n : Nat} (hrow : (eventRow? n).isSome = true)
    (hguest : ¬ (1344 ≤ n ∧ n ≤ 1407 ∧ s.get F.ID_VARIANT_ORDER_CODE ≠ 1)) :
    ¬ ((eventRow? n).isNone = true ∨ (1344 ≤ n ∧ n ≤ 1407 ∧ s.get F.ID_VARIANT_ORDER_CODE ≠ 1)) := by
  rintro (h | h)
  · rw [Option.isNone_iff_eq_none] at h
    simp [h] at hrow
  · exact hguest h

/-- What a raise of an idle source does while the collector runs: it marks the source, latches, queues an entry, and adds what is due. -/
theorem State.raise_of_idle {s : State} {n : Nat} (vals : List Nat) (hrow : (eventRow? n).isSome = true)
    (hguest : ¬ (1344 ≤ n ∧ n ≤ 1407 ∧ s.get F.ID_VARIANT_ORDER_CODE ≠ 1)) (hruns : s.collectorRuns = true) (hidle : s.srcState n = 0) :
    ∃ (escalated : Bool) (e : EvEntry) (due : List (Nat × Nat)), s.raise n vals =
      ((((s.beginCond n).markRaised n (s.takenReaction n) escalated).latchFor (s.takenReaction n)).queueEntry e).addDue due := by
  unfold State.raise
  dsimp only
  rw [if_neg (not_inactive hrow hguest), if_pos hruns, if_pos hidle]
  exact ⟨_, _, _, rfl⟩

/-- What a raise of an uncleared source does while the collector runs: it counts. -/
theorem State.raise_of_uncleared {s : State} {n : Nat} (vals : List Nat) (hrow : (eventRow? n).isSome = true)
    (hguest : ¬ (1344 ≤ n ∧ n ≤ 1407 ∧ s.get F.ID_VARIANT_ORDER_CODE ≠ 1)) (hruns : s.collectorRuns = true) (hstate : s.srcState n ≠ 0) :
    ∃ repeats : Sparse Nat, s.raise n vals =
      let t := (s.beginCond n).bump (F.FC_SRC_STATUS_COUNT n) 1
      { t with fc := { t.fc with repeats := repeats } } := by
  unfold State.raise
  dsimp only
  rw [if_neg (not_inactive hrow hguest), if_pos hruns, if_neg hstate]
  exact ⟨_, rfl⟩

theorem State.Sound.beginCond {s : State} (hs : s.Sound) (n : Nat) : (s.beginCond n).Sound :=
  (State.beginCond_keeps (Keeps.refl s)).canon hs

theorem State.beginCond_get (n : Nat) (f : Fld) (s : State) : (s.beginCond n).get f = s.get f := by
  rw [State.get, State.beginCond_regs, State.get]

theorem FieldKept.latchFor {g : Fld} {a s : State} (h : FieldKept g a s) (taken : Nat) : FieldKept g a (s.latchFor taken) :=
  .ite (h.of_regs rfl) h

/-- The fields of a source's status, and the count of dropped entries, lie at different places. -/
theorem statusKeys_ne (n : Nat) :
    (F.FC_SRC_STATUS_STATE n).key ≠ (F.FC_SRC_STATUS_COUNT n).key ∧ (F.FC_SRC_STATUS_STATE n).key ≠ (F.FC_SRC_STATUS_TAKEN n).key ∧
    (F.FC_SRC_STATUS_STATE n).key ≠ (F.FC_SRC_STATUS_ESCALATED n).key ∧ (F.FC_SRC_STATUS_COUNT n).key ≠ (F.FC_SRC_STATUS_TAKEN n).key ∧
    (F.FC_SRC_STATUS_COUNT n).key ≠ (F.FC_SRC_STATUS_ESCALATED n).key ∧ (F.FC_SRC_STATUS_TAKEN n).key ≠ (F.FC_SRC_STATUS_ESCALATED n).key ∧
    F.FC_QUEUE_DROPPED.key ≠ (F.FC_SRC_STATUS_STATE n).key ∧ F.FC_QUEUE_DROPPED.key ≠ (F.FC_SRC_STATUS_COUNT n).key ∧
    F.FC_QUEUE_DROPPED.key ≠ (F.FC_SRC_STATUS_TAKEN n).key := by
  simp only [Fld.key, F.FC_SRC_STATUS_STATE, F.FC_SRC_STATUS_COUNT, F.FC_SRC_STATUS_TAKEN, F.FC_SRC_STATUS_ESCALATED, F.FC_QUEUE_DROPPED]
  omega

/-- What an idle source's status reads once it is marked. -/
theorem State.markRaised_status {s : State} (hs : s.Sound) (n taken : Nat) (escalated : Bool) :
    (s.markRaised n taken escalated).srcState n = 1 ∧
    (s.markRaised n taken escalated).get (F.FC_SRC_STATUS_COUNT n) = satAdd 16 (s.get (F.FC_SRC_STATUS_COUNT n)) 1 ∧
    (s.markRaised n taken escalated).get (F.FC_SRC_STATUS_TAKEN n) = taken % 8 := by
  obtain ⟨hsc, hst, hse, hct, hce, hte, -, -, -⟩ := statusKeys_ne n
  have hstate := hs.put (F.FC_SRC_STATUS_STATE n) 1
  have hcount := hstate.put (F.FC_SRC_STATUS_COUNT n) (satAdd 16 ((s.put (F.FC_SRC_STATUS_STATE n) 1).get (F.FC_SRC_STATUS_COUNT n)) 1)
  refine ⟨?_, ?_, ?_⟩
  · exact ((((FieldKept.refl hstate).bump hsc.symm 1).put hst.symm taken).put hse.symm _).field.trans (State.get_put_self hs _ 1)
  · refine (((FieldKept.refl hcount).put hct.symm taken).put hce.symm _).field.trans ((State.get_bump_self hstate _ 1).trans ?_)
    rw [State.get_put_ne hs.regs hsc.symm]
    rfl
  · exact ((FieldKept.refl (hcount.put _ taken)).put hte.symm _).field.trans (State.get_put_self hcount _ taken)

theorem State.queueEntry_latch (e : EvEntry) (s : State) : (s.queueEntry e).fc.latch = s.fc.latch := by
  unfold State.queueEntry
  split <;> rfl

/-- Settles O47: the marks are read back through the latch, the entry and what is due, none of which touches them. -/
theorem raiseOfAnIdleSourceTakesItsReaction : Obligations.RaiseOfAnIdleSourceTakesItsReaction := by
  unfold Obligations.RaiseOfAnIdleSourceTakesItsReaction
  intro s n vals hs _ hrow hguest hruns hidle
  obtain ⟨escalated, e, due, hraise⟩ := State.raise_of_idle vals hrow hguest hruns hidle
  obtain ⟨hmin, hassigned, hchip⟩ := s.takenReaction_bounds n
  obtain ⟨-, -, -, -, -, -, hds, hdc, hdt⟩ := statusKeys_ne n
  obtain ⟨hstate, hcount, htaken⟩ := State.markRaised_status (hs.beginCond n) n (s.takenReaction n) escalated
  have hmarked : ((s.beginCond n).markRaised n (s.takenReaction n) escalated).Sound :=
    ((((hs.beginCond n).put _ _).put _ _).put _ _).put _ _
  have hkept {g : Fld} (hk : F.FC_QUEUE_DROPPED.key ≠ g.key) :
      (s.raise n vals).get g = ((s.beginCond n).markRaised n (s.takenReaction n) escalated).get g := by
    have hentry := ((FieldKept.refl hmarked).latchFor (s.takenReaction n)).queueEntry hk e
    rw [hraise]
    exact (hentry.addDue due).field
  rw [State.beginCond_get n (F.FC_SRC_STATUS_COUNT n) s] at hcount
  rw [← hkept hdt, Nat.mod_eq_of_lt (by omega)] at htaken
  refine ⟨(hkept hds).trans hstate, (hkept hdc).trans hcount, hmin.trans htaken.ge, hassigned.trans htaken.ge, htaken.le.trans hchip, fun hpin => ?_,
    State.raise_mem n vals s, State.raise_lines n vals s, State.raise_regions n vals s, State.raise_mode n vals s⟩
  rw [htaken] at hpin
  rw [hraise, State.addDue_latch, State.queueEntry_latch, State.latchFor, if_pos hpin]

/-- Settles O48: the raise counts at the source and among its repeats, and the level condition begins anew. -/
theorem raiseOfAnUnclearedSourceMerges : Obligations.RaiseOfAnUnclearedSourceMerges := by
  unfold Obligations.RaiseOfAnUnclearedSourceMerges
  intro s n vals hs _ hrow hguest hruns hstate
  obtain ⟨repeats, hraise⟩ := State.raise_of_uncleared vals hrow hguest hruns hstate
  obtain ⟨hsc, -⟩ := statusKeys_ne n
  have hcond : (s.beginCond n).fc.queue = s.fc.queue ∧ (s.beginCond n).fc.due = s.fc.due := by
    unfold State.beginCond
    split <;> simp
  have hbegun := hs.beginCond n
  have hkept (g : Fld) : (s.raise n vals).get g = ((s.beginCond n).bump (F.FC_SRC_STATUS_COUNT n) 1).get g := by
    rw [hraise]
    rfl
  refine ⟨by rw [hraise]; exact hcond.1, by rw [hraise]; exact hcond.2, ?_, ?_, State.raise_rest s n vals⟩
  · exact (hkept _).trans (((FieldKept.refl hbegun).bump hsc.symm 1).field.trans (State.beginCond_get n _ s))
  · rw [hkept, State.get_bump_self hbegun, State.beginCond_get]
    rfl

/-- Settling the latch may clear it, and does nothing else. -/
theorem State.settleLatch_cases (s : State) : s.settleLatch = s ∨ s.settleLatch = { s with fc := { s.fc with latch := false } } := by
  unfold State.settleLatch
  split
  · exact .inr rfl
  · exact .inl rfl

theorem State.settleLatch_get (f : Fld) (s : State) : s.settleLatch.get f = s.get f := by
  rcases s.settleLatch_cases with h | h
  · rw [h]
  · rw [h]
    rfl

theorem State.settleLatch_queue (s : State) : s.settleLatch.fc.queue = s.fc.queue := by
  rcases s.settleLatch_cases with h | h <;> rw [h]

theorem State.settleLatch_latch {s : State} (h : s.settleLatch.fc.latch = true) : s.fc.latch = true := by
  rcases s.settleLatch_cases with hs | hs
  · rwa [hs] at h
  · rw [hs] at h
    cases h

theorem State.ackSource_of_active {s : State} {n : Nat} (h : s.srcState n = 1) : s.ackSource n =
    (s.put (F.FC_SRC_STATUS_STATE n) (if isLevel n = true ∧ Sparse.get 0 n s.fc.cond ≠ 0 then 2 else 0)).settleLatch := if_pos h

/-- The state in which the level condition of a source has ended. -/
def State.condEnded (n : Nat) (s : State) : State := { s with fc := { s.fc with cond := Sparse.set 0 n 0 s.fc.cond } }

theorem State.endCond_eq (n : Nat) (s : State) : s.endCond n =
    if s.srcState n = 2 then ((s.condEnded n).put (F.FC_SRC_STATUS_STATE n) 0).settleLatch else s.condEnded n := rfl

/-- Settles O60: each writes the source's STATE at most, and then settles the latch, which can only clear it. -/
theorem acknowledgementClearsOrHolds : Obligations.AcknowledgementClearsOrHolds := by
  unfold Obligations.AcknowledgementClearsOrHolds
  intro s n hs
  have hidle (h : s.srcState n ≠ 1) : s.ackSource n = s := if_neg h
  have hack (h : s.srcState n = 1) : (s.ackSource n).srcState n = if isLevel n = true ∧ Sparse.get 0 n s.fc.cond ≠ 0 then 2 else 0 := by
    rw [State.ackSource_of_active h, State.srcState, State.settleLatch_get, State.get_put_self hs]
    split <;> rfl
  have hended : (s.condEnded n).Sound := ⟨hs.mem, hs.deep, hs.lines, hs.deepLines, hs.regs, hs.queue, hs.aon⟩
  refine ⟨fun h hlevel hcond => ?_, fun h hends => ?_, hidle, fun h => ?_, fun h => ?_, ?_, ?_, ?_, ?_⟩
  · rw [hack h, if_pos ⟨hlevel, hcond⟩]
  · rw [hack h, if_neg]
    rintro ⟨hlevel, hcond⟩
    rcases hends with hpulse | hends
    · simp [hpulse] at hlevel
    · exact hcond hends
  · rw [State.endCond_eq, if_pos h, State.srcState, State.settleLatch_get, State.get_put_self hended]
    rfl
  · rw [State.endCond_eq, if_neg h]
    rfl
  · by_cases h : s.srcState n = 1
    · rw [State.ackSource_of_active h]
      rcases State.settleLatch_cases (s.put (F.FC_SRC_STATUS_STATE n)
        (if isLevel n = true ∧ Sparse.get 0 n s.fc.cond ≠ 0 then 2 else 0)) with hlatch | hlatch <;> (rw [hlatch]; rfl)
    · rw [hidle h]
  · by_cases h : s.srcState n = 1
    · rw [State.ackSource_of_active h]
      exact State.settleLatch_latch
    · rw [hidle h]
      exact id
  · rw [State.endCond_eq]
    split
    · exact State.settleLatch_queue _
    · rfl
  · rw [State.endCond_eq]
    split
    · exact State.settleLatch_latch
    · exact id

end Sys2Proof.Machine

namespace Sys2Proof.Machine

/-! Fields below the collector's registers: what raises, host records and notices keep, and with it key generations (R80) and DUR_LEVEL
(Table 1.4). -/

/-- A field lies below the registers of the fault collector. -/
abbrev Fld.belowCollector (g : Fld) : Prop := g.key < F.FC_QUEUE_DROPPED.key

theorem Fld.belowCollector.dropped_ne {g : Fld} (hg : g.belowCollector) : F.FC_QUEUE_DROPPED.key ≠ g.key := Nat.ne_of_gt hg

/-- The status fields of the sources lie above the count of dropped entries. -/
theorem Fld.belowCollector.status_ne {g : Fld} (hg : g.belowCollector) (n : Nat) :
    (F.FC_SRC_STATUS_STATE n).key ≠ g.key ∧ (F.FC_SRC_STATUS_COUNT n).key ≠ g.key ∧ (F.FC_SRC_STATUS_TAKEN n).key ≠ g.key ∧
      (F.FC_SRC_STATUS_ESCALATED n).key ≠ g.key := by
  simp only [Fld.belowCollector, Fld.key, F.FC_QUEUE_DROPPED, F.FC_SRC_STATUS_STATE, F.FC_SRC_STATUS_COUNT, F.FC_SRC_STATUS_TAKEN,
    F.FC_SRC_STATUS_ESCALATED] at hg ⊢
  omega

theorem FieldKept.markRaised {g : Fld} {a s : State} (h : FieldKept g a s) (hg : g.belowCollector) (n taken : Nat) (escalated : Bool) :
    FieldKept g a (s.markRaised n taken escalated) := by
  obtain ⟨hstate, hcount, htaken, hescalated⟩ := hg.status_ne n
  exact (((h.put hstate _).bump hcount _).put htaken _).put hescalated _

/-- A raise keeps every field below the collector's. -/
theorem FieldKept.raise {g : Fld} {a s : State} (h : FieldKept g a s) (hg : g.belowCollector) (n : Nat) (vals : List Nat) :
    FieldKept g a (s.raise n vals) := by
  have hbegun : FieldKept g a (s.beginCond n) := h.of_regs (State.beginCond_regs n s)
  unfold State.raise
  dsimp only
  refine .ite h (.ite (.ite ?_ ?_) ?_)
  · exact FieldKept.addDue ((((hbegun.markRaised hg n (s.takenReaction n) _).latchFor (s.takenReaction n)).queueEntry hg.dropped_ne _)) _
  · exact FieldKept.of_regs (hbegun.bump (hg.status_ne n).2.1 1) rfl
  · split <;> split <;> exact FieldKept.of_regs hbegun rfl

theorem FieldKept.raiseLimited {g : Fld} {a s : State} (h : FieldKept g a s) (hg : g.belowCollector) (n key : Nat) (vals : List Nat) :
    FieldKept g a (s.raiseLimited n key vals) := by
  unfold State.raiseLimited
  dsimp only
  refine .ite h (FieldKept.raise ?_ hg n vals)
  exact h.of_regs rfl

theorem FieldKept.when {g : Fld} {a s : State} (h : FieldKept g a s) {c : Bool} {f : State → State} (hf : FieldKept g a (f s)) :
    FieldKept g a (s.when c f) := .ite hf h

theorem FieldKept.forEach {α : Type} {g : Fld} {a s : State} (h : FieldKept g a s) (l : List α) {f : α → State → State}
    (hf : ∀ x t, FieldKept g a t → FieldKept g a (f x t)) : FieldKept g a (s.forEach l f) := by
  induction l generalizing s with
  | nil => exact h
  | cons x l ih => exact ih (hf x s h)

/-! Host records and notices leave the register file alone, but for the raise of NOTICE_LOST. -/

theorem State.msix_regs (n v : Nat) (s : State) : (s.msix n v).regs = s.regs := by
  unfold State.msix
  dsimp only
  (repeat' split) <;> rfl

theorem State.when_regs {c : Bool} {f : State → State} {s : State} (h : (f s).regs = s.regs) : (s.when c f).regs = s.regs := by
  unfold State.when
  split
  · exact h
  · rfl

theorem State.placeRecord_regs (n cause source region tenant value : Nat) (dpa : Option Nat) (dram : List Nat) (onWrite : Bool) (s : State) :
    (s.placeRecord n cause source region tenant value dpa dram onWrite).regs = s.regs := by
  unfold State.placeRecord
  dsimp only
  split
  · rfl
  · split
    · exact State.when_regs (State.msix_regs _ _ _)
    · rfl

theorem State.signal_regs (q : Nat) (notice : Bool) (s : State) : (s.signal q notice).regs = s.regs := by
  unfold State.signal
  dsimp only
  (repeat' split) <;> first | rfl | exact State.msix_regs _ _ _

theorem State.writeRecord_regs (q : Nat) (r : CompRec) (s : State) : (s.writeRecord q r).regs = s.regs := by
  unfold State.writeRecord
  dsimp only
  (repeat' split) <;> first | rfl | exact State.signal_regs _ _ _

theorem State.payTakeover_regs (q : Nat) (s : State) : (s.payTakeover q).regs = s.regs := by
  unfold State.payTakeover
  dsimp only
  split
  · exact State.writeRecord_regs _ _ _
  · rfl

theorem State.offerTakeover_regs (q : Nat) (s : State) : (s.offerTakeover q).regs = s.regs := State.when_regs (State.payTakeover_regs q s)

theorem FieldKept.recordAll {g : Fld} {a s : State} (h : FieldKept g a s) (cause source value : Nat) :
    FieldKept g a (s.recordAll cause source value) :=
  h.forEach _ fun _ _ ht => ht.of_regs (State.placeRecord_regs ..)

theorem FieldKept.noticeTo {g : Fld} {a s : State} (h : FieldKept g a s) (hg : g.belowCollector) (q typ status ra rb : Nat) :
    FieldKept g a (s.noticeTo q typ status ra rb) := by
  have hoffer : FieldKept g a (s.offerTakeover q) := h.of_regs (State.offerTakeover_regs q s)
  unfold State.noticeTo
  dsimp only
  refine .ite h (.ite (hoffer.of_regs (State.writeRecord_regs ..)) (FieldKept.raiseLimited ?_ hg _ _ _))
  exact hoffer.of_regs rfl

theorem FieldKept.notice {g : Fld} {a s : State} (h : FieldKept g a s) (hg : g.belowCollector) (tenant : Option Nat) (typ ra rb : Nat) :
    FieldKept g a (s.notice tenant typ ra rb) :=
  h.forEach _ fun _ _ ht => .ite (ht.noticeTo hg _ _ _ _ _) ht

/-! Key generations (R80). -/

/-- The counter after a draw: one higher. -/
theorem State.drawGen_counter {s : State} (hs : s.Sound) (hend : s.get F.ADR_GEN_NEXT_GEN < 0xFFFFFFFF) :
    s.drawGen.2.get F.ADR_GEN_NEXT_GEN = s.get F.ADR_GEN_NEXT_GEN + 1 := by
  have hlow : F.ADR_GEN_NEXT_GEN.belowCollector := by decide
  have hput := FieldKept.refl (g := F.ADR_GEN_NEXT_GEN) (hs.put F.ADR_GEN_NEXT_GEN (s.get F.ADR_GEN_NEXT_GEN + 1))
  refine (hput.when (hput.raise hlow Ev.KEY_GEN_LOW [])).field.trans ((State.get_put_self hs _ _).trans (Nat.mod_eq_of_lt ?_))
  show s.get F.ADR_GEN_NEXT_GEN + 1 < 2 ^ 32
  omega

/-- Settles O50: a draw gives the counter, and the next draw gives the counter as this one left it. -/
theorem keyGenerationsAreDrawnOnce : Obligations.KeyGenerationsAreDrawnOnce := by
  unfold Obligations.KeyGenerationsAreDrawnOnce
  intro s hs hend
  have hdrawn (t : State) : t.drawGen.1 = t.get F.ADR_GEN_NEXT_GEN := rfl
  have hnext := State.drawGen_counter hs hend
  have hframe {α : Type} (field : State → α) (hput : ∀ t f v, field (State.put f v t) = field t)
      (hraise : ∀ t n vals, field (State.raise n vals t) = field t) : field s.drawGen.2 = field s := by
    simp only [State.drawGen, State.when]
    split
    · rw [hraise, hput]
    · rw [hput]
  refine ⟨hdrawn s, hnext, ?_, ?_, ?_, ?_, ?_⟩
  · rw [hdrawn, hdrawn, hnext]
    omega
  · rw [hdrawn, hnext]
    omega
  · exact hframe State.mem (fun t f v => State.put_mem f v t) fun t n vals => State.raise_mem n vals t
  · exact hframe State.lines (fun t f v => State.put_lines f v t) fun t n vals => State.raise_lines n vals t
  · exact hframe State.regions (fun t f v => State.put_regions f v t) fun t n vals => State.raise_regions n vals t

/-! PLD_DUR_STATE in line with the mode (Tables 1.4 and 1.17). -/

/-- The state with the three fields of PLD_DUR_STATE set for its mode. -/
def State.durFields (s : State) : State :=
  ((s.put F.PLD_DUR_STATE_DUR_LEVEL s.durLevel).put F.PLD_DUR_STATE_HORIZON_FROZEN (flag s.horizonFrozen)).put
    F.PLD_DUR_STATE_TWIN_COMPLETE_SUSPENDED (flag s.twinSuspended)

/-- The events, records and notices of the change keep the fields set. -/
theorem State.syncDur_get {s : State} (hs : s.Sound) {g : Fld} (hg : g.belowCollector) : s.syncDur.get g = s.durFields.get g := by
  have h0 : FieldKept g s.durFields s.durFields := FieldKept.refl (((hs.put _ _).put _ _).put _ _)
  have h1 := h0.when (c := decide (s.horizonFrozen ≠ s.isSet F.PLD_DUR_STATE_HORIZON_FROZEN))
    (h0.raise hg Ev.HORIZON_FROZEN [flag s.horizonFrozen])
  unfold State.syncDur
  dsimp only
  refine FieldKept.field (.ite ?_ (.ite ?_ h1))
  · exact (((h1.raise hg _ _).recordAll _ _ _).notice hg _ _ _ _)
  · exact ((h1.recordAll _ _ _).notice hg _ _ _ _)

theorem State.syncDur_durLevel {s : State} (hs : s.Sound) : s.syncDur.get F.PLD_DUR_STATE_DUR_LEVEL = s.durLevel % 4 := by
  rw [State.syncDur_get hs (by decide)]
  exact (((FieldKept.refl (hs.put _ _)).put (by decide) _).put (by decide) _).field.trans (State.get_put_self hs _ _)

theorem State.syncDur_suspended {s : State} (hs : s.Sound) :
    s.syncDur.get F.PLD_DUR_STATE_TWIN_COMPLETE_SUSPENDED = flag s.twinSuspended % 2 := by
  rw [State.syncDur_get hs (by decide)]
  exact State.get_put_self ((hs.put _ _).put _ _) _ _

/-- Settles O58: DUR_LEVEL and the suspension read as the mode sets them. -/
theorem durabilityLevelFollowsTheMode : Obligations.DurabilityLevelFollowsTheMode := by
  unfold Obligations.DurabilityLevelFollowsTheMode
  intro s hs
  rw [State.syncDur_durLevel hs, State.syncDur_suspended hs]
  refine ⟨?_, ?_, ?_, fun h1 h2 h3 h4 h5 h6 h7 => ?_⟩
  · rintro (h | h) <;> simp [State.durLevel, h]
  · rintro (h | h | h) <;> simp [State.durLevel, State.twinSuspended, h, flag]
  · rintro (h | h) <;> simp [State.durLevel, h]
  · cases hmode : s.mode <;> simp_all [State.durLevel]

end Sys2Proof.Machine

namespace Sys2Proof.Machine

/-! The state after reset (R14, R532; log entries 5, 9, 33 and 126). -/

/-- Settles O33: every table and store is empty. -/
theorem resetStateIsSound : Obligations.ResetStateIsSound := by
  unfold Obligations.ResetStateIsSound
  exact ⟨⟨rfl, rfl, rfl, rfl, List.Pairwise.nil, Nat.zero_le _, Nat.zero_le _⟩, rfl, rfl, rfl⟩

/-- After reset a field reads its reset value. -/
theorem State.reset_get (f : Fld) : State.reset.get f = resetValue f.off f.lo := rfl

/-- A field that no row with a reset value holds reads 0 after reset. -/
theorem resetValue_eq_zero {off lo : Nat} (h : ∀ r ∈ resetRows, r.lo = lo → r.at off ≠ true) : resetValue off lo = 0 := by
  have hnone : (resetRows.find? fun r => decide (r.lo = lo) && r.at off) = none := by
    rw [List.find?_eq_none]
    intro r hr
    rw [Bool.and_eq_true, decide_eq_true_eq]
    rintro ⟨hlo, hat⟩
    exact h r hr hlo hat
  rw [resetValue, hnone]

/-- The offsets of a row with one stride. -/
theorem RegRow.eq_of_at {r : RegRow} {off : Nat} (hs2 : r.s2 = 0) (h : r.at off = true) : ∃ i < max 1 r.c1, off = r.base + r.s1 * i := by
  simp only [RegRow.at, Bool.and_eq_true, decide_eq_true_eq, hs2, Nat.zero_mul] at h
  obtain ⟨hbase, -, hoff⟩ := h
  have hle : r.s1 * ((off - r.base) / r.s1) ≤ off - r.base := Nat.mul_div_le _ _
  split at hoff
  · exact ⟨0, by omega, by omega⟩
  · split at hoff
    · rename_i hlast
      have := Nat.mul_le_mul_left r.s1 (show r.c1 - 1 ≤ (off - r.base) / r.s1 by omega)
      exact ⟨r.c1 - 1, by omega, by omega⟩
    · exact ⟨(off - r.base) / r.s1, by omega, by omega⟩

/-- Of the rows with a reset value, none whose field begins at bit 0 lies at the place of DEV_MARK within a block of 64 KiB. -/
theorem resetRows_devMark : ∀ r ∈ resetRows, r.lo = 0 → r.s2 = 0 ∧ ∀ i < max 1 r.c1, (r.base + r.s1 * i) % 0x10000 ≠ 0x18 := by decide

theorem State.reset_devMark (k : Nat) : State.reset.get (F.CH_DEV_MARK_MARK k) = 0 := by
  rw [State.reset_get]
  refine resetValue_eq_zero fun r hr hlo hat => ?_
  obtain ⟨hs2, hplace⟩ := resetRows_devMark r hr hlo
  obtain ⟨i, hi, hoff⟩ := RegRow.eq_of_at hs2 hat
  refine hplace i hi ?_
  rw [← hoff]
  show (0x810018 + 0x10000 * k) % 0x10000 = 0x18
  omega

/-- Settles O34: an empty table reads its default everywhere. -/
theorem resetValuesTheSpecGives : Obligations.ResetValuesTheSpecGives := by
  unfold Obligations.ResetValuesTheSpecGives
  exact ⟨rfl, rfl, State.reset_devMark, fun _ => rfl, fun _ => rfl, rfl, rfl, rfl⟩

end Sys2Proof.Machine

namespace Sys2Proof.Machine

/-! STREAM_ADVANCE issued again (R243). -/

theorem dbits_lt (d : BitVec 512) (byte lo w : Nat) : dbits d byte lo w < 2 ^ w := Nat.mod_lt _ (Nat.pow_pos (by decide))

/-- An advance to the position held, or back, leaves the stream. -/
theorem State.advanceStream_eq_self {s : State} {j v : Nat} (h : (v + 2 ^ 32 - (s.stream j).pos) % 2 ^ 32 = 0 ∨
    2 ^ 31 ≤ (v + 2 ^ 32 - (s.stream j).pos) % 2 ^ 32) : s.advanceStream j v = s :=
  if_pos (h.imp_right Or.inl)

/-- Settles O56: such an advance leaves the state, and what is left is its completion. -/
theorem reissuedStreamAdvanceIsHarmless : Obligations.ReissuedStreamAdvanceIsHarmless := by
  unfold Obligations.ReissuedStreamAdvanceIsHarmless
  intro q seq j o s hstart hstream hpos hback
  have hv := dbits_lt o.desc 16 0 32
  have hself : s.advanceStream j (dbits o.desc 16 0 32) = s := by
    refine State.advanceStream_eq_self (hback.imp_left fun hsame => ?_)
    omega
  show execStreamAdvance q seq s = _
  rw [execStreamAdvance, startOp_mayStart hstart]
  simp only [hstream, hself, finish]

end Sys2Proof.Machine


namespace Sys2Proof.Sparse

/-! A field below another in the register space may be set in any table without a change of the other. -/

theorem get_erase_of_lt {α : Type} {d : α} {k j : Nat} (h : k < j) (t : Sparse α) : get d j (erase k t) = get d j t := by
  induction t with
  | nil => rfl
  | cons e t ih => grind [erase, get]

theorem get_insert_ne {α : Type} {d v : α} {k j : Nat} (h : j ≠ k) (t : Sparse α) : get d j (insert k v t) = get d j t := by
  induction t with
  | nil => grind [insert, get]
  | cons e t ih => grind [insert, get]

theorem get_set_of_lt {α : Type} [DecidableEq α] {d d' v : α} {k j : Nat} (h : k < j) (t : Sparse α) :
    get d' j (set d k v t) = get d' j t := by
  unfold set
  split_ifs
  · exact get_erase_of_lt h t
  · exact get_insert_ne h.ne' t

end Sys2Proof.Sparse

namespace Sys2Proof.Machine

theorem State.get_put_of_lt {f g : Fld} (h : f.key < g.key) (v : Nat) (s : State) : (s.put f v).get g = s.get g :=
  Sparse.get_set_of_lt h s.regs

theorem State.isSet_put_of_lt {f g : Fld} (h : f.key < g.key) (v : Nat) (s : State) : (s.put f v).isSet g = s.isSet g := by
  rw [State.isSet, State.get_put_of_lt h, State.isSet]

theorem Mode.ne_off_of_mainRails {m : Mode} (h : m.mainRails = true) : m ≠ .off := by
  rintro rfl
  exact absurd h (by decide)

end Sys2Proof.Machine

namespace Sys2Proof.Machine

/-! # The commands, one by one

A clause gives the state a command leaves under the conditions of its rule. Each proof names the command's definition and takes the branch those
conditions select; where several commands share a gate (a request that is taken, a frame that is next in order), the gate has a lemma. -/

/-! Register accesses -/

/-- Where the access is answered and inside the guest's block, only the register map is asked. -/
theorem outside_guest {agent : Agent} {off : Nat} (h : agent = .guest → off < 0x10000) : ¬ (agent = .guest ∧ 0x10000 ≤ off) :=
  fun ⟨hg, hle⟩ => absurd (h hg) (Nat.not_lt.mpr hle)

theorem State.regRead_of_register {agent : Agent} {off size o : Nat} {s : State} (hreach : reachOf agent off = some o)
    (hreg : o < 0xF40000 ∨ 0xF50000 ≤ o) (hok : accessOk off (some o) size = true) : s.regRead agent off size =
      ((s.readReg agent o (decide (size = 8))).2.emit (.regData agent off (s.readReg agent o (decide (size = 8))).1)).noteScratch agent o := by
  have hgreg : ¬ (0xF40000 ≤ o ∧ o < 0xF50000) := by omega
  simp [State.regRead, hreach, hok, hgreg]

theorem State.guestRegRequest_of_takes {p tag off : Nat} {act : State → State} {s m : State} (hm : m = s.guestMsg p 0 1)
    (hlink : m.guestLink p = 2) (hfrozen : m.frozenMode = false) (htag : tag < 1024) (hreq : m.guestReq p tag = none) (halign : off % 4 = 0)
    (hoff : off < 0x10000) : s.guestRegRequest p tag off act = act (m.addReq ⟨p, tag, none, 0⟩) := by
  subst hm
  simp [State.guestRegRequest, hlink, hfrozen, Nat.not_le.mpr htag, hreq, halign, Nat.not_le.mpr hoff]

/-- Settles O1: once the access is answered and reaches a register, only the write or the read of the map is left. -/
theorem registerAccessesComplete : Obligations.RegisterAccessesComplete := by
  refine ⟨?registerWrite, ?registerReadClear, ?registerReadLatchHigh, ?guestRegRd, ?guestRegWr⟩
  case registerWrite =>
    rintro agent off size v o s ⟨hanswers, hguest, hreach, hwrite, hok⟩
    show execRegisterWrite agent off size v s = _
    rw [execRegisterWrite, if_neg (by simp [hanswers]), if_neg (outside_guest hguest)]
    simp [State.regWrite, finish, hreach, hok, hwrite]
  case registerReadClear =>
    rintro agent off size o s ⟨hanswers, hguest, hreach, hreg, hok⟩
    show execRegisterReadClear agent off size s = _
    rw [execRegisterReadClear, if_neg (by simp [hanswers]), if_neg (outside_guest hguest), State.regRead_of_register hreach hreg hok,
      finish]
  case registerReadLatchHigh =>
    rintro agent off o s ⟨hanswers, hguest, hreach, hreg, halign⟩
    show execRegisterReadLatchHigh agent off s = _
    have hok : accessOk off (some o) 4 = true := by simp [accessOk_word, halign]
    rw [execRegisterReadLatchHigh, if_neg (by simp [hanswers]), if_neg (outside_guest hguest), State.regRead_of_register hreach hreg hok,
      finish]
    rfl
  case guestRegRd =>
    rintro p tag off m s ⟨hm, hlink, hfrozen, htag, hreq, halign, hoff⟩
    show execGuestRegRd p tag off s = _
    rw [execGuestRegRd, State.guestRegRequest_of_takes hm hlink hfrozen htag hreq halign hoff, finish]
  case guestRegWr =>
    rintro p tag off value m s ⟨hm, hlink, hfrozen, htag, hreq, halign, hoff⟩
    show execGuestRegWr p tag off value s = _
    rw [execGuestRegWr, State.guestRegRequest_of_takes hm hlink hfrozen htag hreq halign hoff, finish]

/-! CXL.mem requests -/

/-- Settles O2: the checks of Table 2.8 pass, so each request takes the one branch that presents it. -/
theorem cxlMemRequestsComplete : Obligations.CxlMemRequestsComplete := by
  refine ⟨?cxlMemrd, ?cxlMemwr, ?cxlMemwrptl, ?cxlMemspecrd, ?cxlMeminv, ?cxlUnsupportedM2s⟩
  case cxlMemrd =>
    intro link ldid tag dpa sramBad n a s h
    show execCxlMemrd link ldid tag dpa sramBad s = _
    simp [execCxlMemrd, finish, h]
  case cxlMemwr =>
    rintro link ldid tag dpa data poison sramBad n a s ⟨hcxlTarget, hldWithheld, hcxlCheck⟩
    show execCxlMemwr link ldid tag dpa data poison sramBad s = _
    simp [execCxlMemwr, State.cxlWrite, finish, hcxlTarget, hldWithheld, hcxlCheck]
  case cxlMemwrptl =>
    rintro link ldid tag dpa data enables poison sramBad n a s ⟨htarget, hheld, hwrites, hcheck⟩
    show execCxlMemwrptl link ldid tag dpa data enables poison sramBad s = _
    have htaken : ¬ (enables = 0 ∧ (!poison) = true) := fun ⟨he, hp⟩ => hwrites.elim (· he) fun h => by simp [h] at hp
    simp only [execCxlMemwrptl, State.cxlWrite, finish, htarget, hheld, hcheck, if_neg htaken, Bool.false_eq_true, reduceIte]
  case cxlMemspecrd =>
    intro link ldid dpa n a s h
    show execCxlMemspecrd link ldid dpa s = _
    simp [execCxlMemspecrd, finish, h]
  case cxlMeminv =>
    intro link ldid tag n s h
    show execCxlMeminv link ldid tag s = _
    simp [execCxlMeminv, finish, h]
  case cxlUnsupportedM2s =>
    rintro link ldid tag read n s ⟨hcxlTarget, hldWithheld⟩
    show execCxlUnsupportedM2s link ldid tag read s = _
    simp only [execCxlUnsupportedM2s, finish, hcxlTarget, hldWithheld, Bool.false_eq_true, reduceIte]

/-! Completions, PERSIST and GPF -/

theorem State.fenced_put_gpfCount (v : Nat) (s : State) : (s.put F.PLD_GPF_STATUS_GPF_COUNT v).fenced = s.fenced := by
  rw [State.fenced, State.isSet_put_of_lt (by decide)]
  rfl

/-- The GPF count lies below the LD_MAP in the register space. -/
theorem gpfCount_below_dormant (n : Nat) : F.PLD_GPF_STATUS_GPF_COUNT.key < (F.LD_MAP_DORMANT n).key := by
  simp only [Fld.key, F.LD_MAP_DORMANT, F.PLD_GPF_STATUS_GPF_COUNT]
  omega

/-- Settles O3: the count of GPF phase 2 lies below every field its later tests read, so the tests see the state before it. -/
theorem polderCommandsComplete : Obligations.PolderCommandsComplete := by
  refine ⟨?writeCompletion, ?mirrorWindowDrain, ?persist, ?persistComplete, ?persistStalled, ?gpfPhase1, ?gpfPhase2, ?gpfPhase2Done⟩
  case writeCompletion =>
    intro id readbackOk w s h
    show execWriteCompletion id readbackOk s = _
    simp [execWriteCompletion, finish, h]
  case mirrorWindowDrain =>
    intro s hfrozen
    show execMirrorWindowDrain s = _
    simp [execMirrorWindowDrain, finish, hfrozen]
  case persist =>
    intro q seq o s hstart
    show execPersist q seq s = _
    simp [execPersist, finish, hstart]
  case persistComplete =>
    intro q seq o s h
    show execPersistComplete q seq s = _
    simp [execPersistComplete, finish, h]
  case persistStalled =>
    intro q seq o s h
    show execPersistStalled q seq s = _
    simp [execPersistStalled, finish, h]
  case gpfPhase1 =>
    intro ld l s h
    show execGpfPhase1 ld s = _
    simp [execGpfPhase1, finish, h]
  case gpfPhase2 =>
    rintro ld l s ⟨hlink, hup, hfrozen, hdormant, hfence, htwin⟩
    show execGpfPhase2 ld s = _
    have hawake := (State.isSet_put_of_lt (gpfCount_below_dormant ld.val) (s.get F.PLD_GPF_STATUS_GPF_COUNT + 1) s).trans hdormant
    simp [execGpfPhase2, finish, hlink, hup, hfrozen, hawake, State.fenced_put_gpfCount, hfence, htwin]
  case gpfPhase2Done =>
    intro ld seq start s h
    show execGpfPhase2Done ld s = _
    simp [execGpfPhase2Done, finish, h]

/-! CXL links, ports and functions -/

/-- Settles O4: each condition rules out the branches of its event that leave the link as it is. -/
theorem cxlLinkCommandsComplete : Obligations.CxlLinkCommandsComplete := by
  refine ⟨?configRequest, ?perstNAssert, ?perstNDeassert, ?cxlLinkUp, ?cxlLinkDown, ?cxlHotReset, ?functionLevelReset,
    ?cxlPortServiceWrite, ?cxlBindRestore, ?ideProgram, ?ideRefresh, ?ideDisable, ?ideMacFailure, ?ideEpochVerified, ?hdmDecoderCommit,
    ?flitReplay⟩
  case configRequest =>
    intro ld tag ask l s h
    show execConfigRequest ld tag ask s = _
    simp [execConfigRequest, finish, h]
  case perstNAssert =>
    intro p s h
    show execPerstNAssert p s = _
    simp [execPerstNAssert, finish, h]
  case perstNDeassert =>
    rintro p s ⟨hmode, hstate⟩
    show execPerstNDeassert p s = _
    simp only [execPerstNDeassert, hmode, hstate, or_self, reduceIte]
    rfl
  case cxlLinkUp =>
    rintro link width rate mld lopt s ⟨hrails, hstate, hasserted, hpresent, hup, rfl, hldCount, rfl, hcontains⟩
    show execCxlLinkUp link ((s.link link.val).lanes) 3 mld lopt s = _
    simp only [execCxlLinkUp, finish, hrails, hstate, hasserted, hpresent, hup, hcontains, Nat.not_le.mpr hldCount, Nat.lt_irrefl,
      Bool.not_true, Bool.false_eq_true, decide_false, Bool.false_and, flag, false_and, or_false, OfNat.ofNat_ne_zero, reduceIte]
  case cxlLinkDown =>
    rintro link downs s ⟨hup, rfl, hlength⟩
    show execCxlLinkDown link s = _
    rw [execCxlLinkDown, if_neg (by simp [hup])]
    exact if_neg (Nat.not_lt.mpr hlength)
  case cxlHotReset =>
    intro link s h
    show execCxlHotReset link s = _
    simp [execCxlHotReset, finish, h]
  case functionLevelReset =>
    intro ld s hmode
    show execFunctionLevelReset ld s = _
    simp [execFunctionLevelReset, finish, hmode]
  case cxlPortServiceWrite =>
    rintro p service s ⟨hrails, rfl⟩
    show execCxlPortServiceWrite p false s = _
    simp [execCxlPortServiceWrite, State.portService, flag, finish, hrails]
  case cxlBindRestore =>
    intro link s hup
    show execCxlBindRestore link s = _
    simp [execCxlBindRestore, State.bindRestore, finish, hup]
  case ideProgram =>
    intro link session act s h
    show execIdeKmExchange link session act s = _
    simp [execIdeKmExchange, finish, h]
  case ideRefresh =>
    intro link session act s h
    show execIdeKmExchange link session act s = _
    simp [execIdeKmExchange, finish, h]
  case ideDisable =>
    intro link session act s h
    show execIdeKmExchange link session act s = _
    simp [execIdeKmExchange, finish, h]
  case ideMacFailure =>
    intro link s h
    show execIdeMacFailure link s = _
    simp [execIdeMacFailure, finish, h]
  case ideEpochVerified =>
    intro link s h
    show execIdeEpochVerified link s = _
    simp [execIdeEpochVerified, finish, h]
  case hdmDecoderCommit =>
    intro ld idx base size skip ways gran lockOnCommit l s h
    show execHdmDecoderCommit ld idx base size skip ways gran lockOnCommit s = _
    simp [execHdmDecoderCommit, finish, h]
  case flitReplay =>
    rintro link ts s ⟨hup, rfl, hlength⟩
    show execFlitReplay link s = _
    rw [execFlitReplay, if_neg (by simp [hup])]
    exact if_neg hlength

/-! Mailbox and FM API commands -/

theorem State.fmReach_up {l : Nat} {s : State} (f : State → State) (hup : s.linkUp l = true)
    (hmld : s.isSet (F.CXL_LINK_STATUS_MLD_ACTIVE l) = true) (hmode : s.mode ≠ .save) : s.fmReach l f = f s := by
  simp [State.fmReach, hup, hmld, hmode]

/-- Settles O5: a command that is taken is handed to its meaning (`mailbox_takes`, `State.fmReach_up`). -/
theorem mailboxCommandsComplete : Obligations.MailboxCommandsComplete := by
  refine ⟨?getEventRecords, ?clearEventRecords, ?getEventInterruptPolicy, ?setEventInterruptPolicy, ?getFwInfo, ?getTimestamp,
    ?setTimestamp, ?getSupportedLogs, ?getLog, ?identifyMemoryDevice, ?getPartitionInfo, ?getLsa, ?setLsa, ?getHealthInfo,
    ?getAlertConfiguration, ?getShutdownState, ?setShutdownState, ?getPoisonList, ?injectPoison, ?clearPoison, ?scanMedia,
    ?getScanMediaCapabilities, ?getScanMediaResults, ?scanMediaDone, ?mailboxUnsupported, ?getLdInfo, ?getLdAllocations, ?getQosStatus,
    ?fmApiUnsupported⟩
  case getEventRecords =>
    intro ld log s htakes
    show execGetEventRecords ld log s = _
    simp [execGetEventRecords, finish, htakes]
  case clearEventRecords =>
    intro ld log all handles s htakes
    show execClearEventRecords ld log all handles s = _
    simp [execClearEventRecords, finish, htakes]
  case getEventInterruptPolicy =>
    intro ld s htakes
    show execGetEventInterruptPolicy ld s = _
    simp [execGetEventInterruptPolicy, finish, htakes]
  case setEventInterruptPolicy =>
    rintro ld policy s ⟨htakes, hall⟩
    show execSetEventInterruptPolicy ld policy s = _
    rw [execSetEventInterruptPolicy, mailbox_takes htakes, if_pos (by simpa using hall), finish]
  case getFwInfo =>
    intro ld s htakes
    show execGetFwInfo ld s = _
    simp [execGetFwInfo, finish, htakes]
  case getTimestamp =>
    intro ld s htakes
    show execGetTimestamp ld s = _
    simp [execGetTimestamp, finish, htakes]
  case setTimestamp =>
    intro ld t s htakes
    show execSetTimestamp ld t s = _
    simp [execSetTimestamp, finish, htakes]
  case getSupportedLogs =>
    intro ld s htakes
    show execGetSupportedLogs ld s = _
    simp [execGetSupportedLogs, finish, htakes]
  case getLog =>
    intro ld cel s h
    show execGetLog ld cel s = _
    simp [execGetLog, finish, h]
  case identifyMemoryDevice =>
    intro ld s htakes
    show execIdentifyMemoryDevice ld s = _
    simp [execIdentifyMemoryDevice, finish, htakes]
  case getPartitionInfo =>
    intro ld s htakes
    show execGetPartitionInfo ld s = _
    simp [execGetPartitionInfo, finish, htakes]
  case getLsa =>
    intro ld off len s h
    show execGetLsa ld off len s = _
    simp [execGetLsa, finish, h]
  case setLsa =>
    rintro ld off data l f s ⟨htakes, hdormant, hoff, rfl, rfl⟩
    show execSetLsa ld off data s = _
    have hactive : ¬ (s.isSet (F.LD_MAP_DORMANT ld.val) = true ∧ (!s.isSet (F.CXL_LD_STATUS_ACTIVATED ld.val)) = true) := by
      rintro ⟨hd, ha⟩
      simp [hdormant hd] at ha
    rw [execSetLsa, mailbox_takes htakes, if_neg hactive, if_neg (Nat.not_lt.mpr hoff), finish]
  case getHealthInfo =>
    intro ld s htakes
    show execGetHealthInfo ld s = _
    simp [execGetHealthInfo, finish, htakes]
  case getAlertConfiguration =>
    intro ld s htakes
    show execGetAlertConfiguration ld s = _
    simp [execGetAlertConfiguration, finish, htakes]
  case getShutdownState =>
    intro ld s htakes
    show execGetShutdownState ld s = _
    simp [execGetShutdownState, finish, htakes]
  case setShutdownState =>
    intro ld v s htakes
    show execSetShutdownState ld v s = _
    simp [execSetShutdownState, finish, htakes]
  case getPoisonList =>
    intro ld dpa len s htakes
    show execGetPoisonList ld dpa len s = _
    simp [execGetPoisonList, finish, htakes]
  case injectPoison =>
    rintro ld dpa p s ⟨htakes, hmboxAddress, hfence, hlength⟩
    show execInjectPoison ld dpa s = _
    simp only [execInjectPoison, mailbox_takes htakes, hmboxAddress, hfence, Nat.not_le.mpr hlength, Bool.false_eq_true, reduceIte, finish]
  case clearPoison =>
    intro ld dpa data p s h
    show execClearPoison ld dpa data s = _
    simp [execClearPoison, finish, h]
  case scanMedia =>
    rintro ld dpa len s ⟨htakes, hscan, hlen, hdpa⟩
    show execScanMedia ld dpa len s = _
    simp [execScanMedia, mailbox_takes htakes, hscan, hlen, Nat.not_lt.mpr hdpa, finish]
  case getScanMediaCapabilities =>
    rintro ld dpa len s ⟨htakes, hdpa⟩
    show execGetScanMediaCapabilities ld dpa len s = _
    simp [execGetScanMediaCapabilities, mailbox_takes htakes, Nat.not_lt.mpr hdpa, finish]
  case getScanMediaResults =>
    intro ld s htakes
    show execGetScanMediaResults ld s = _
    simp [execGetScanMediaResults, finish, htakes]
  case scanMediaDone =>
    intro ld bad dpa len s h
    show execScanMediaDone ld bad s = _
    simp [execScanMediaDone, finish, h]
  case mailboxUnsupported =>
    intro ld opcode s htakes
    show execMailboxUnsupported ld opcode s = _
    simp [execMailboxUnsupported, finish, htakes]
  case getLdInfo =>
    rintro link s ⟨hup, hactive, hmode⟩
    show execGetLdInfo link s = _
    rw [execGetLdInfo, State.fmReach_up _ hup hactive hmode, finish]
  case getLdAllocations =>
    rintro link s ⟨hup, hactive, hmode⟩
    show execGetLdAllocations link s = _
    rw [execGetLdAllocations, State.fmReach_up _ hup hactive hmode, finish]
  case getQosStatus =>
    rintro link s ⟨hup, hactive, hmode⟩
    show execGetQosStatus link s = _
    rw [execGetQosStatus, State.fmReach_up _ hup hactive hmode, finish]
  case fmApiUnsupported =>
    rintro link opcode s ⟨hup, hactive, hmode⟩
    show execFmApiUnsupported link opcode s = _
    rw [execFmApiUnsupported, State.fmReach_up _ hup hactive hmode, finish]

/-! Ethernet, connections and RDMA -/

theorem State.rxPacket_of_taken {f : RxFrame} {qpn pkey psn : Nat} {op : PktKind} {sram : List Nat} {s a : State} (h : s.rxFrame f = (true, a)) :
    s.rxPacket f qpn pkey psn op sram = a.takePacket ⟨f.link.val, f.gid, qpn % 2 ^ 24, pkey % 2 ^ 16, psn % 2 ^ 24, f.ce, op, sram⟩ := by
  simp [State.rxPacket, h]

/-- Settles O6: a packet of a good frame is taken by its queue pair (`State.rxPacket_of_taken`); the rest are the events' own branches. -/
theorem ethernetAndRdmaCommandsComplete : Obligations.EthernetAndRdmaCommandsComplete := by
  refine ⟨?ethLinkUp, ?ethLinkDown, ?ethLinkServiceWrite, ?fecCodewordUncorrectable, ?pfcFrameRx, ?pfcPauseLong, ?arpNdRequest, ?cmReq,
    ?cmRtu, ?cmDreq, ?cmRejRx, ?cmOtherMad, ?rdmaReadReq, ?rdmaWritePacket, ?rdmaWriteAck, ?rdmaAtomic, ?rdmaUnsupportedOpcode, ?cqpSend,
    ?rdmaAckRx, ?cqpRnrNakRx, ?cqpRnrRetry, ?completionSendFlush, ?qpContextFetchDone, ?qpCachePressureCheck, ?hltHolddownExpiry,
    ?hltMoveDrainDone, ?hltFlapClear, ?hltEntryAgeOut, ?cnpRx, ?cnpRateRecovery, ?sluiceCnpTimer⟩
  case ethLinkUp =>
    intro link s h
    show execEthLinkUp link s = _
    simp [execEthLinkUp, finish, h]
  case ethLinkDown =>
    rintro link downs s ⟨hethUp, rfl, hlength⟩
    show execEthLinkDown link s = _
    rw [execEthLinkDown, if_neg (by simp [hethUp])]
    exact if_neg (Nat.not_lt.mpr hlength)
  case ethLinkServiceWrite =>
    rintro link service s ⟨hrails, rfl⟩
    show execEthLinkServiceWrite link false s = _
    simp [execEthLinkServiceWrite, State.ethService, flag, finish, hrails]
  case fecCodewordUncorrectable =>
    rintro link ts s ⟨hethUp, rfl, hlength⟩
    show execFecCodewordUncorrectable link s = _
    rw [execFecCodewordUncorrectable, if_neg (by simp [hethUp])]
    exact if_neg hlength
  case pfcFrameRx =>
    intro link pause s h
    show execPfcFrameRx link pause s = _
    simp [execPfcFrameRx, finish, h]
  case pfcPauseLong =>
    intro link s hvalue
    show execPfcPauseLong link s = _
    simp [execPfcPauseLong, finish, hvalue]
  case arpNdRequest =>
    intro link addr sd s h
    show execArpNdRequest link addr s = _
    simp [execArpNdRequest, finish, h]
  case cmReq =>
    intro f addr pkey mtu rc depth psn priv a t sd s h
    show execCmReq f addr pkey mtu rc depth psn priv s = _
    simp [execCmReq, finish, h]
  case cmRtu =>
    intro f qpn a p s h
    show execCmRtu f qpn s = _
    simp [execCmRtu, finish, h]
  case cmDreq =>
    intro f qpn a p s h
    show execCmDreq f qpn s = _
    simp [execCmDreq, finish, h]
  case cmRejRx =>
    intro f qpn a p s h
    show execCmRejRx f qpn s = _
    simp [execCmRejRx, finish, h]
  case cmOtherMad =>
    intro f a s hrxFrame
    show execCmOtherMad f s = _
    simp [execCmOtherMad, finish, hrxFrame]
  case rdmaReadReq =>
    intro f qpn pkey psn va rkey len sram a s hrxFrame
    show execRdmaReadReq f qpn pkey psn va rkey len sram s = _
    rw [execRdmaReadReq, State.rxPacket_of_taken hrxFrame, finish]
  case rdmaWritePacket =>
    intro f qpn pkey psn first last va rkey len bytes sram a s hrxFrame
    show execRdmaWritePacket f qpn pkey psn first last va rkey len bytes sram s = _
    rw [execRdmaWritePacket, State.rxPacket_of_taken hrxFrame, finish]
  case rdmaWriteAck =>
    intro qpn p x rest s h
    show execRdmaWriteAck qpn s = _
    simp [execRdmaWriteAck, finish, h]
  case rdmaAtomic =>
    intro f qpn pkey psn swap va rkey add compare sram a s hrxFrame
    show execRdmaAtomic f qpn pkey psn swap va rkey add compare sram s = _
    rw [execRdmaAtomic, State.rxPacket_of_taken hrxFrame, finish]
  case rdmaUnsupportedOpcode =>
    intro f qpn pkey psn a s hrxFrame
    show execRdmaUnsupportedOpcode f qpn pkey psn s = _
    rw [execRdmaUnsupportedOpcode, State.rxPacket_of_taken hrxFrame, finish]
  case cqpSend =>
    intro f qpn pkey psn len ds a s hrxFrame
    show execCqpSend f qpn pkey psn len ds s = _
    rw [execCqpSend, State.rxPacket_of_taken hrxFrame, finish]
  case rdmaAckRx =>
    intro f qpn psn nak a p left s h
    show execRdmaAckRx f qpn psn nak s = _
    simp [execRdmaAckRx, finish, h]
  case cqpRnrNakRx =>
    intro f qpn psn a p s h
    show execCqpRnrNakRx f qpn psn s = _
    simp [execCqpRnrNakRx, finish, h]
  case cqpRnrRetry =>
    intro qpn p s h
    show execCqpRnrRetry qpn s = _
    simp [execCqpRnrRetry, finish, h]
  case completionSendFlush =>
    intro qpn p s h
    show execCompletionSendFlush qpn s = _
    simp [execCompletionSendFlush, finish, h]
  case qpContextFetchDone =>
    intro qpn mine s h
    show execQpContextFetchDone qpn s = _
    simp [execQpContextFetchDone, finish, h]
  case qpCachePressureCheck =>
    intro s hmissed
    show execQpCachePressureCheck s = _
    simp [execQpCachePressureCheck, finish, Nat.not_lt.mpr hmissed]
  case hltHolddownExpiry =>
    intro gid h a s hc
    show execHltHolddownExpiry gid s = _
    simp [execHltHolddownExpiry, finish, hc]
  case hltMoveDrainDone =>
    intro gid h s hc
    show execHltMoveDrainDone gid s = _
    simp [execHltMoveDrainDone, finish, hc]
  case hltFlapClear =>
    intro gid h s hc
    show execHltFlapClear gid s = _
    simp [execHltFlapClear, finish, hc]
  case hltEntryAgeOut =>
    intro gid h s hc
    show execHltEntryAgeOut gid s = _
    simp [execHltEntryAgeOut, finish, hc]
  case cnpRx =>
    rintro f qpn a p s ⟨hrxFrame, hqpOf, hcutAt⟩
    show execCnpRx f qpn s = _
    have hcut : ¬ (p.cutAt ≠ 0 ∧ s.now < p.cutAt - 1 + usFc 50) := by omega
    simp only [execCnpRx, hrxFrame, hqpOf, if_neg hcut, finish]
  case cnpRateRecovery =>
    intro qpn p s hqpOf
    show execCnpRateRecovery qpn s = _
    simp [execCnpRateRecovery, finish, hqpOf]
  case sluiceCnpTimer =>
    intro s hserving
    show execSluiceCnpTimer s = _
    simp [execSluiceCnpTimer, finish, hserving]

/-! Operations of a queue -/

/-- Settles O7: an operation in the phase its rule names runs its meaning. -/
theorem queueOperationsComplete : Obligations.QueueOperationsComplete := by
  refine ⟨?copy, ?zero, ?copyZeroResume, ?copyZeroDone, ?hazardHoldRelease, ?wait, ?waitSatisfied, ?waitTimeout, ?abort,
    ?multipartAssembled⟩
  case copy =>
    intro q seq sram o s hstart
    show execCopy q seq sram s = _
    simp [execCopy, finish, hstart]
  case zero =>
    intro q seq o s hstart
    show execZero q seq s = _
    simp [execZero, finish, hstart]
  case copyZeroResume =>
    rintro q seq sram o s ⟨hop, hcode, hrun, hserving, hfence⟩
    show execCopyZeroResume q seq sram s = _
    simp only [execCopyZeroResume, State.resumeCopy, hop, hcode, hrun, hserving, hfence, Bool.not_false, and_self, reduceIte, finish]
  case copyZeroDone =>
    intro q seq o s h
    show execCopyZeroDone q seq s = _
    simp [execCopyZeroDone, finish, h]
  case hazardHoldRelease =>
    intro q seq sram o s h
    show execHazardHoldRelease q seq sram s = _
    simp [execHazardHoldRelease, finish, h]
  case wait =>
    intro q seq o s h
    show execWait q seq s = _
    simp [execWait, finish, h]
  case waitSatisfied =>
    rintro q seq o s ⟨hop, hcode, hrun, hfrozen, hvalue⟩
    show execWaitSatisfied q seq s = _
    simp only [execWaitSatisfied, State.testWait, hop, hcode, hrun, hfrozen, hvalue, Bool.not_false, and_self, reduceIte, finish]
  case waitTimeout =>
    intro q seq o s h
    show execWaitTimeout q seq s = _
    simp [execWaitTimeout, finish, h]
  case abort =>
    intro q seq o s h
    show execAbort q seq s = _
    simp [execAbort, finish, h]
  case multipartAssembled =>
    intro q seq o s h
    show execMultipartAssembled q seq s = _
    simp [execMultipartAssembled, finish, h]

/-! Rings -/

/-- Settles O8: the ring is in the state its rule names. -/
theorem ringCommandsComplete : Obligations.RingCommandsComplete := by
  refine ⟨?ringEnable, ?ringDisable, ?ringDisabled, ?pollerTick, ?ringFetchData, ?ringControlRecordReturn, ?cqHeadRecheck, ?cqFullTimeout,
    ?ringIdleSleep, ?ringWake, ?ringRestart, ?irqCoalesceExpiry, ?ringReadCompletionTimeout⟩
  case ringEnable =>
    rintro ld r v s ⟨hstate, henable, hvalid⟩
    show execRingEnable ld r v s = _
    simp only [execRingEnable, State.enableRing, hstate, henable, hvalid, Bool.false_eq_true, or_self, reduceIte, finish]
  case ringDisable =>
    intro ld r s hlive
    show execRingDisable ld r s = _
    simp [execRingDisable, finish]
  case ringDisabled =>
    intro ld r s h
    show execRingDisabled ld r s = _
    simp [execRingDisabled, finish, h]
  case pollerTick =>
    intro ld r s hpollerRuns
    show execPollerTick ld r s = _
    simp [execPollerTick, finish, hpollerRuns]
  case ringFetchData =>
    intro ld r ds a s h
    show execRingFetchData ld r ds s = _
    simp [execRingFetchData, finish, h]
  case ringControlRecordReturn =>
    intro ld r tail head k1 s h
    show execRingControlRecordReturn ld r tail head s = _
    simp [execRingControlRecordReturn, finish, h]
  case cqHeadRecheck =>
    intro ld r s h
    show execCqHeadRecheck ld r s = _
    simp [execCqHeadRecheck, finish, h]
  case cqFullTimeout =>
    intro ld r s h
    show execCqFullTimeout ld r s = _
    simp [execCqFullTimeout, finish, h]
  case ringIdleSleep =>
    rintro ld r tail s ⟨hruns, hasked, htail⟩
    show execRingIdleSleep ld r tail s = _
    simp only [execRingIdleSleep, hruns, Nat.not_le.mpr hasked, Nat.not_lt.mpr htail, Bool.not_true, Bool.false_eq_true, or_self,
      reduceIte, finish]
  case ringWake =>
    intro ld mask s _
    show execRingWake ld mask s = _
    rfl
  case ringRestart =>
    intro ld r s hstate
    show execRingRestart ld r s = _
    simp only [execRingRestart, State.restartQueue, hstate, reduceIte, finish]
  case irqCoalesceExpiry =>
    intro ld r notice s h
    show execIrqCoalesceExpiry ld r notice s = _
    simp [execIrqCoalesceExpiry, finish, h]
  case ringReadCompletionTimeout =>
    intro ld r s hstate
    show execRingReadCompletionTimeout ld r s = _
    simp [execRingReadCompletionTimeout, finish, hstate]

/-! Regions, tenants and bindings -/

/-- The descriptor's size and ceiling are within their ranges. -/
theorem attach_operands_ok {size policy ceil : Nat} (hmin : 1 ≤ size) (hmax : size ≤ 65536) (hpolicy : policy ≠ 3) (hceil : ceil ≤ 20) :
    ¬ (size = 0 ∨ 65536 < size ∨ policy = 3 ∨ 20 < ceil) := by omega

/-- Settles O9: an attach that starts and whose operands are in range is left with the check of a new or of an existing region. -/
theorem regionCommandsComplete : Obligations.RegionCommandsComplete := by
  refine ⟨?regionAttachNew, ?regionAttachAgain, ?regionAttachComplete, ?regionDetach, ?regionDetachComplete, ?regionRelease, ?regionInfo,
    ?tenantCreate, ?tenantRemove, ?bindingWritePkey, ?bindingWriteLd⟩
  case regionAttachNew =>
    rintro q seq o s ⟨hstart, hstays, hmin, hmax, hpolicy, hceil, hnew, hcheck⟩
    show execRegionAttach q seq s = _
    rw [execRegionAttach, startOp_mayStart hstart]
    simp only [hstays, if_neg (attach_operands_ok hmin hmax hpolicy hceil), hnew, hcheck, Bool.false_eq_true, reduceIte, finish]
  case regionAttachAgain =>
    rintro q seq o s ⟨hstart, hstays, hmin, hmax, hpolicy, hceil, hagain, hcheck⟩
    show execRegionAttach q seq s = _
    rw [execRegionAttach, startOp_mayStart hstart]
    simp only [hstays, if_neg (attach_operands_ok hmin hmax hpolicy hceil), hagain, hcheck, Bool.false_eq_true, reduceIte, finish]
  case regionAttachComplete =>
    rintro q seq o v s ⟨hop, hcode, hrun, hfrozen, hstate, hdone, hpolicy, hfin⟩
    show execRegionAttachComplete q seq s = _
    have hready : ¬ o.done < if dbits o.desc 12 0 12 ≠ 0xFFF then 1 else 2 := Nat.not_lt.mpr hdone
    simp only [execRegionAttachComplete, hop, hcode, hrun, hfrozen, hstate, hpolicy, hfin, decide_eq_true_eq, hready, ne_eq,
      not_true_eq_false, Bool.false_eq_true, or_self, false_and, decide_false, State.when, reduceIte, finish]
  case regionDetach =>
    intro q seq o r idx s h
    show execRegionDetach q seq s = _
    simp [execRegionDetach, finish, h]
  case regionDetachComplete =>
    rintro q seq o s ⟨hop, hcode, hrun, hfrozen, hdone, hrevoking⟩
    show execRegionDetachComplete q seq s = _
    simp [execRegionDetachComplete, hop, hcode, hrun, hfrozen, hrevoking, Nat.not_lt.mpr hdone, finish]
  case regionRelease =>
    intro idx s h
    show execRegionRelease idx s = _
    simp [execRegionRelease, finish, h]
  case regionInfo =>
    rintro q seq o s ⟨hop, hcode, hready, hfrozen, hfirmware, hfabric, hserving, hstate, hindex, htenant⟩
    show execRegionInfo q seq s = _
    simp only [execRegionInfo, hop, hcode, hready, hfrozen, hfirmware, hfabric, hserving, hstate, hindex, htenant, zero_ne_one, ne_eq,
      not_true_eq_false, Bool.not_true, Bool.false_eq_true, or_self, reduceIte, finish]
    split_ifs <;> rfl
  case tenantCreate =>
    intro t s h
    show execTenantCreate t s = _
    simp [execTenantCreate, finish, h]
  case tenantRemove =>
    intro t s h
    show execTenantRemove t s = _
    simp [execTenantRemove, finish, h]
  case bindingWritePkey =>
    intro pkeyMap n v s h
    show execBindingWrite pkeyMap n v s = _
    simp [execBindingWrite, finish, h]
  case bindingWriteLd =>
    intro pkeyMap n v s h
    show execBindingWrite pkeyMap n v s = _
    simp [execBindingWrite, finish, h]

/-! Keys -/

/-- Settles O10: the sweep of an extent splits on whether every line of it could be rewritten. -/
theorem keyCommandsComplete : Obligations.KeyCommandsComplete := by
  refine ⟨?keyProvision, ?keyRotate, ?rotationSweepExtent, ?flipMaskArm, ?ksLoad, ?ksDestroy, ?ksCommandDone, ?keyStoreUpdate,
    ?keyStoreUpdateDone, ?cpIdleSleep, ?cpRemapRequest, ?cpSelfTestDone, ?cpSelfTestTimeout⟩
  case keyProvision =>
    intro q seq tagOk o a s h
    show execKeyProvision q seq tagOk s = _
    simp [execKeyProvision, finish, h]
  case keyRotate =>
    rintro q seq o s ⟨hstart, hnum, hsome, hroom⟩
    show execKeyRotate q seq s = _
    rw [execKeyRotate, startOp_mayStart hstart]
    simp [hnum, hsome, Nat.not_lt.mpr hroom, finish]
  case rotationSweepExtent =>
    rintro idx bad s ⟨hstate, hrot, hopen, hserving, hfence, hserves, hcursor, hpresent⟩
    show execRotationSweepExtent idx bad s = _
    simp only [execRotationSweepExtent, hstate, hrot, hopen, hserving, hfence, hserves, Nat.not_le.mpr hcursor, hpresent, finish, ne_eq,
      not_true_eq_false, Bool.not_true, Bool.false_eq_true, or_self, List.isEmpty_nil, reduceIte]
    generalize s.sweepLines _ _ _ = swept
    obtain ⟨_ | _, t⟩ := swept
    · rfl
    · simp only [Bool.not_true, Bool.false_eq_true, reduceIte]
  case flipMaskArm =>
    intro f read s
    show execFlipMaskArm f read s = _
    cases read <;> rfl
  case ksLoad =>
    intro s
    show execKsLoad s = _
    simp [execKsLoad, finish]
  case ksDestroy =>
    intro s
    show execKsDestroy s = _
    simp [execKsDestroy, finish]
  case ksCommandDone =>
    intro k s h
    show execKsCommandDone s = _
    simp [execKsCommandDone, finish, h]
  case keyStoreUpdate =>
    intro s h
    show execKeyStoreUpdate s = _
    simp [execKeyStoreUpdate, finish, h]
  case keyStoreUpdateDone =>
    intro a s h
    show execKeyStoreUpdateDone s = _
    simp [execKeyStoreUpdateDone, finish, h]
  case cpIdleSleep =>
    rintro home s ⟨hstate, hlog2, hrails, hcontains⟩
    show execCpIdleSleep home s = _
    simp only [execCpIdleSleep, hstate, hlog2, hrails, hcontains, Bool.not_false, not_false_eq_true, and_self, ne_eq, reduceIte, finish]
  case cpRemapRequest =>
    intro home phys s hrails
    show execCpRemapRequest home phys s = _
    simp [execCpRemapRequest, finish, hrails]
  case cpSelfTestDone =>
    intro pipe pass s
    show execCpSelfTestDone pipe pass s = _
    simp [execCpSelfTestDone, finish]
  case cpSelfTestTimeout =>
    intro pipe s
    show execCpSelfTestTimeout pipe s = _
    simp [execCpSelfTestTimeout, finish]

/-! Streams -/

/-- Settles O11: an operation that may start runs its meaning (`startOp_mayStart`). -/
theorem streamCommandsComplete : Obligations.StreamCommandsComplete := by
  refine ⟨?streamDeclare, ?streamAdvance, ?streamRetire, ?streamStatusWrite⟩
  case streamDeclare =>
    intro q seq bad o i s h
    show execStreamDeclare q seq bad s = _
    simp [execStreamDeclare, finish, h]
  case streamAdvance =>
    intro q seq o j s h
    show execStreamAdvance q seq s = _
    simp [execStreamAdvance, finish, h]
  case streamRetire =>
    intro q seq o j s h
    show execStreamRetire q seq s = _
    simp [execStreamRetire, finish, h]
  case streamStatusWrite =>
    intro j s h
    show execStreamStatusWrite j s = _
    simp [execStreamStatusWrite, finish, h]

/-! The front path -/

/-- Settles O12: each condition selects one branch of its command. -/
theorem frontPathCommandsComplete : Obligations.FrontPathCommandsComplete := by
  refine ⟨?haSliceSleep, ?victimWriteAckHeld, ?victimWriteAckGone, ?haRemapRequest, ?haSliceBistDone, ?haSliceBistTimeout, ?epochBoundary,
    ?latencyTracerClear⟩
  case haSliceSleep =>
    intro home s h
    show execHaSliceSleep home s = _
    simp [execHaSliceSleep, finish, h]
  case victimWriteAckHeld =>
    intro line s hheld
    show execVictimWriteAck line s = _
    simp only [execVictimWriteAck, hheld, ne_eq, reduceIte, State.when, finish]
  case victimWriteAckGone =>
    intro line s hheld
    show execVictimWriteAck line s = _
    simp only [execVictimWriteAck, hheld, Bool.false_eq_true, ne_eq, reduceIte, State.when, finish]
  case haRemapRequest =>
    intro home phys s h
    show execHaRemapRequest home phys s = _
    simp [execHaRemapRequest, finish, h]
  case haSliceBistDone =>
    intro slice pass s
    show execHaSliceBistDone slice pass s = _
    simp [execHaSliceBistDone, finish]
  case haSliceBistTimeout =>
    intro slice s
    show execHaSliceBistTimeout slice s = _
    simp [execHaSliceBistTimeout, finish]
  case epochBoundary =>
    intro s h
    show execEpochBoundary s = _
    simp [execEpochBoundary, finish, h]
  case latencyTracerClear =>
    intro s
    show execLatencyTracerClear s = _
    simp [execLatencyTracerClear, finish]

/-! The tiers -/

/-- Settles O13: each condition selects one branch of its command. -/
theorem tierCommandsComplete : Obligations.TierCommandsComplete := by
  refine ⟨?fillLandedWithStalls, ?fillLandedNoStall, ?stallCeilingRead, ?stallCeilingWrite, ?frameWaitTimeout, ?extentDrop,
    ?writebackCapture, ?writebackProgramDone, ?programFailed, ?journalBlockWrite, ?tablePageWrite, ?gcVictimRelocate, ?wearLevelRelocate⟩
  case fillLandedWithStalls =>
    rintro page bad ecc verdicts stalls memory crypto a b c s ⟨rfl, hst, hframe, hrails, hunmapped, rfl, rfl, hzero⟩
    show execFillLanded page bad ecc verdicts stalls memory crypto s = _
    simp only [execFillLanded, hst, hframe, hrails, hunmapped, hzero, ne_eq, not_true_eq_false, Bool.not_true, Bool.false_eq_true, or_self,
      reduceIte, Option.isNone_iff_eq_none]
    rfl
  case fillLandedNoStall =>
    rintro page bad ecc verdicts stalls memory crypto a b c s ⟨rfl, hst, hframe, hrails, hunmapped, rfl, rfl, hzero⟩
    show execFillLanded page bad ecc verdicts stalls memory crypto s = _
    simp only [execFillLanded, hst, hframe, hrails, hunmapped, hzero, ne_eq, not_true_eq_false, Bool.not_true, Bool.false_eq_true, or_self,
      reduceIte, Option.isNone_iff_eq_none]
    rfl
  case stallCeilingRead =>
    rintro id parts r s ⟨hfind, hpresent⟩
    show execStallCeilingExpiry id parts s = _
    simp only [execStallCeilingExpiry, hfind, hpresent, Bool.false_eq_true, ne_eq, reduceIte, finish]
  case stallCeilingWrite =>
    rintro id parts w s ⟨hfind, hfind', hpresent⟩
    show execStallCeilingExpiry id parts s = _
    simp only [execStallCeilingExpiry, hfind, hfind', hpresent, Bool.false_eq_true, ne_eq, reduceIte, finish]
  case frameWaitTimeout =>
    intro s
    show execFrameWaitTimeout s = _
    by_cases h : s.giveFrames.frameWaiting = true <;> simp [execFrameWaitTimeout, finish, h]
  case extentDrop =>
    rintro a x s ⟨hevictState, hevicting, hfind⟩
    show execExtentDrop s = _
    simp only [execExtentDrop, hevictState, hevicting, hfind, Bool.not_true, Bool.false_eq_true]
    rfl
  case writebackCapture =>
    intro page s h
    show execWritebackCapture page s = _
    simp [execWritebackCapture, finish, h]
  case writebackProgramDone =>
    intro page c deep a s h
    show execWritebackProgramDone page s = _
    simp [execWritebackProgramDone, finish, h]
  case programFailed =>
    intro page c deep a s h
    show execProgramFailed page s = _
    simp [execProgramFailed, finish, h]
  case journalBlockWrite =>
    intro s h
    show execJournalBlockWrite s = _
    simp [execJournalBlockWrite, finish, h]
  case tablePageWrite =>
    intro tp n deep a s h
    show execTablePageWrite tp s = _
    simp [execTablePageWrite, finish, h]
  case gcVictimRelocate =>
    intro sb s h
    show execGcVictimRelocate s = _
    simp [execGcVictimRelocate, finish, h]
  case wearLevelRelocate =>
    intro a x s h
    show execWearLevelRelocate s = _
    simp [execWearLevelRelocate, finish, h]

/-! The freeboard, the Sluice and the assay -/

/-- Settles O14: each condition selects one branch of its command. -/
theorem bankCommandsComplete : Obligations.BankCommandsComplete := by
  refine ⟨?freeboardRecompute, ?sluiceShareRecompute, ?thermalCapStep, ?bankIdRead, ?assayDue, ?assayNow, ?assayPrepareReady,
    ?assayPrepareTimeout, ?assayEsrMeasure, ?assayDischargeEnd, ?assayDischargeTimeout, ?assayRelaxEnd, ?assayRechargeDone,
    ?assayRechargeTimeout, ?assayRetryDue⟩
  case freeboardRecompute =>
    intro s
    show execFreeboardRecompute s = _
    simp [execFreeboardRecompute, finish]
  case sluiceShareRecompute =>
    intro s h
    show execSluiceShareRecompute s = _
    simp [execSluiceShareRecompute, finish, h]
  case thermalCapStep =>
    intro s henforce
    show execThermalCapStep s = _
    simp only [execThermalCapStep, finish, henforce, Bool.not_true, Bool.false_eq_true, if_false]
    split_ifs <;> rfl
  case bankIdRead =>
    rintro record crcOk s ⟨hmode, hcrc, hformat⟩
    show execBankIdRead record crcOk s = _
    have hreads : ¬ (s.mode ≠ .bringup ∧ s.mode ≠ .watch ∧ (!s.mode.serving) = true) := fun ⟨hb, hw, hs⟩ =>
      hmode.elim hb fun h => h.elim hw fun h => by simp [h] at hs
    rw [execBankIdRead, if_neg hreads, if_pos ⟨hcrc, hformat⟩, finish]
  case assayDue =>
    intro s hmode
    show execAssayDue s = _
    simp [execAssayDue, finish, hmode]
  case assayNow =>
    intro s hrails
    show execAssayNow s = _
    simp [execAssayNow, finish, State.requestAssay, hrails]
  case assayPrepareReady =>
    intro s
    show execAssayPrepareReady s = _
    simp [execAssayPrepareReady, finish]
  case assayPrepareTimeout =>
    intro s hstate
    show execAssayPrepareTimeout s = _
    simp [execAssayPrepareTimeout, finish, hstate]
  case assayEsrMeasure =>
    intro s h
    show execAssayEsrMeasure s = _
    simp [execAssayEsrMeasure, finish, h]
  case assayDischargeEnd =>
    rintro s ⟨hstate, hmeasured, hlatest⟩
    show execAssayDischargeEnd s = _
    simp only [execAssayDischargeEnd, hstate, hmeasured, hlatest, and_self, reduceIte, finish]
  case assayDischargeTimeout =>
    intro s hstate
    show execAssayDischargeTimeout s = _
    simp [execAssayDischargeTimeout, finish, hstate]
  case assayRelaxEnd =>
    rintro a s ⟨hstate, hlength, rfl⟩
    show execAssayRelaxEnd s = _
    simp [execAssayRelaxEnd, finish, hstate, hlength]
  case assayRechargeDone =>
    intro s h
    show execAssayRechargeDone s = _
    simp [execAssayRechargeDone, finish, h]
  case assayRechargeTimeout =>
    intro s hstate
    show execAssayRechargeTimeout s = _
    simp [execAssayRechargeTimeout, finish, hstate]
  case assayRetryDue =>
    intro s h
    show execAssayRetryDue s = _
    simp [execAssayRetryDue, finish, h]

/-! Power failure, save and restore -/

/-- Settles O15: the restore is taken phase by phase. -/
theorem saveCommandsComplete : Obligations.SaveCommandsComplete := by
  refine ⟨?pfailNAssert, ?pfailNDeassert, ?pfailFilterExpiry, ?spillwaySeal, ?saveRestartWaitEnd, ?restoreScanDone, ?restoreTableDone,
    ?restoreLinesDone, ?restorePendingDone, ?restoreExitResync, ?restoreExitBringup⟩
  case pfailNAssert =>
    intro s hmode
    show execPfailNAssert s = _
    simp [execPfailNAssert, finish, hmode]
  case pfailNDeassert =>
    intro s hmode
    show execPfailNDeassert s = _
    simp [execPfailNDeassert, finish, hmode]
  case pfailFilterExpiry =>
    intro s h
    show execPfailFilterExpiry s = _
    simp [execPfailFilterExpiry, finish, h]
  case spillwaySeal =>
    intro us energy s h
    show execSpillwaySeal us energy s = _
    simp [execSpillwaySeal, finish, h]
  case saveRestartWaitEnd =>
    rintro s ⟨hmode, hphase, hpfailAt, hrailsLost⟩
    show execSaveRestartWaitEnd s = _
    have hwait : ¬ (s.mode ≠ .save ∨ s.get F.SPW_STATUS_PHASE ≠ 5 ∨ s.ssb.pfailAt ≠ 0 ∨ s.railsLost = true) := by simp [hmode, hphase,
      hpfailAt, hrailsLost]
    simp only [execSaveRestartWaitEnd, if_neg hwait, finish]
    split_ifs <;> rfl
  case restoreScanDone =>
    intro repaired ignored damage gap bad im s h
    show execRestorePhaseDone repaired ignored damage gap bad s = _
    simp [execRestorePhaseDone, finish, h]
  case restoreTableDone =>
    intro repaired ignored damage gap bad s h
    show execRestorePhaseDone repaired ignored damage gap bad s = _
    simp [execRestorePhaseDone, finish, h]
  case restoreLinesDone =>
    intro repaired ignored damage gap bad s h
    show execRestorePhaseDone repaired ignored damage gap bad s = _
    simp [execRestorePhaseDone, finish, h]
  case restorePendingDone =>
    rintro repaired ignored damage gap bad s ⟨hmode, hphase, hpendingArrivals, hmerges⟩
    show execRestorePhaseDone repaired ignored damage gap bad s = _
    simp [execRestorePhaseDone, finish, hmode, hphase, hpendingArrivals, hmerges, State.forEach]
  case restoreExitResync =>
    intro s h
    show execRestoreExit s = _
    simp [execRestoreExit, finish, h]
  case restoreExitBringup =>
    intro s h
    show execRestoreExit s = _
    simp [execRestoreExit, finish, h]

/-! DRAM channels -/

/-- Settles O16: each condition selects one branch of its command. -/
theorem dramCommandsComplete : Obligations.DramCommandsComplete := by
  refine ⟨?dimmTempRead, ?channelTrainingDone, ?channelTrainingTimeout, ?zqCalibration, ?dqsDriftTrack, ?refreshDue, ?rankPowerDownEntry,
    ?rankSelfRefreshEntry, ?dramAlertReplayed, ?dramAlertFailed, ?dramPatrolIdle, ?dramPatrolLine, ?channelServiceWrite,
    ?channelDrainPageCopy, ?channelFault, ?lineDataArrival⟩
  case dimmTempRead =>
    rintro c d reading v a s ⟨hrails, hmode, rfl, hdimms, hd, hput, hdimms', hvalue, hquarterC, hlimited⟩
    show execDimmTempRead c d (some v) s = _
    have hcool : ¬ 4 * (a.dimmHotC : Int) ≤ quarterC (a.get (F.CH_TEMP_DIMM0 c.val)) := by omega
    dsimp only at hput
    simp [execDimmTempRead, finish, hrails, hmode, hd, hput, hdimms', hvalue, hlimited, hcool]
  case channelTrainingDone =>
    rintro c lanes ppr decoderOk a b s ⟨hstate, hrails, hmode, hjudgeLanes, rfl, rfl, rfl⟩
    show execChannelTrainingDone c [] ppr true s = _
    simp [execChannelTrainingDone, finish, hstate, hrails, hmode, hjudgeLanes, State.forEach]
  case channelTrainingTimeout =>
    intro c step s h
    show execChannelTrainingTimeout c step s = _
    simp [execChannelTrainingTimeout, finish, h]
  case zqCalibration =>
    intro c rank s
    show execZqCalibration c rank s = _
    simp [execZqCalibration, finish]
  case dqsDriftTrack =>
    intro c drift s hrankRuns
    show execDqsDriftTrack c drift s = _
    simp [execDqsDriftTrack, finish, hrankRuns]
  case refreshDue =>
    intro c rank s
    show execRefreshDue c rank s = _
    simp [execRefreshDue, finish]
  case rankPowerDownEntry =>
    intro c rank s h
    show execRankPowerDownEntry c rank s = _
    simp [execRankPowerDownEntry, finish, h]
  case rankSelfRefreshEntry =>
    intro c rank s h
    show execRankSelfRefreshEntry c rank s = _
    simp [execRankSelfRefreshEntry, finish, h]
  case dramAlertReplayed =>
    intro c replays ok reads writes s h
    show execDramAlert c replays ok reads writes s = _
    simp [execDramAlert, finish, h]
  case dramAlertFailed =>
    rintro c replays ok reads writes s ⟨hrankRuns, hok, hreads, hwrites⟩
    show execDramAlert c replays ok reads writes s = _
    simp only [execDramAlert, hrankRuns, hok, hreads, hwrites, Bool.not_true, Bool.false_eq_true, ne_eq, reduceIte, State.when]
    rfl
  case dramPatrolIdle =>
    intro c line loc bad ecc copyBad pct done s h
    show execDramPatrolRead c line loc bad ecc copyBad pct done s = _
    simp [execDramPatrolRead, finish, h]
  case dramPatrolLine =>
    rintro c line loc bad ecc copyBad pct done l a s ⟨hstate, hrails, hfrozen, rfl, rfl, rfl, hput, hchannelOf, hframeOf, hst⟩
    show execDramPatrolRead c (some l) loc false ecc copyBad pct false s = _
    have hst : ¬ (a.page (pageOfLine l)).st ≤ 1 := by omega
    simp [execDramPatrolRead, finish, hstate, hrails, hfrozen, hput, hchannelOf, hframeOf, hst]
  case channelServiceWrite =>
    intro c service s
    show execChannelServiceWrite c service s = _
    simp [execChannelServiceWrite, finish]
  case channelDrainPageCopy =>
    rintro c page s ⟨hstate, hfrozen, hrails, hnoRoom⟩
    show execChannelDrainPageCopy c page s = _
    cases page <;> simp [execChannelDrainPageCopy, finish, hstate, hfrozen, hrails, hnoRoom]
  case channelFault =>
    intro c s hrails
    show execChannelFault c s = _
    simp [execChannelFault, finish, hrails]
  case lineDataArrival =>
    rintro line verdict lanes ecc copyBad memory crypto a b s ⟨hheld, hpresent, hrails, hmode, hverdict, hlanes, rfl, rfl⟩
    show execLineDataArrival line verdict lanes ecc copyBad memory crypto s = _
    simp [execLineDataArrival, finish, hheld, hpresent, hrails, hmode, hverdict, hlanes]

/-! Slots, modules and the group -/

/-- Settles O17: each condition selects one branch of its command. -/
theorem flashMemberCommandsComplete : Obligations.FlashMemberCommandsComplete := by
  refine ⟨?slotPresenceFiltered, ?slotPowerAttempt, ?slotPgAssert, ?slotPgTimeout, ?slotFault, ?slotPowerRetry, ?slotSettleDone,
    ?slotClearFault, ?slotFailNow, ?onfiReadyTimeout, ?nandEraseBlock, ?nandEraseSpare, ?nandEraseImage, ?noGroupRetry, ?rebuildEnds,
    ?rebuildGoesOn, ?repairReplyTimeout, ?flashPatrolStripe, ?flashPatrolRateUpdate, ?moduleTempRead⟩
  case slotPresenceFiltered =>
    intro slot present record crcOk s h
    show execSlotPresenceFiltered slot present record crcOk s = _
    simp [execSlotPresenceFiltered, finish, h]
  case slotPowerAttempt =>
    intro slot s h
    show execSlotPowerAttempt slot s = _
    simp [execSlotPowerAttempt, finish, h]
  case slotPgAssert =>
    intro slot s hon
    show execSlotPgAssert slot s = _
    simp [execSlotPgAssert, finish, hon]
  case slotPgTimeout =>
    intro slot s h
    show execSlotPgTimeout slot s = _
    simp [execSlotPgTimeout, finish, h]
  case slotFault =>
    intro slot s hon
    show execSlotFault slot s = _
    simp [execSlotFault, finish, hon]
  case slotPowerRetry =>
    intro slot s h
    show execSlotPowerRetry slot s = _
    simp [execSlotPowerRetry, finish, h]
  case slotSettleDone =>
    rintro slot geometry factoryBad s ⟨hpg, hstate, hgeometry, hcontains⟩
    show execSlotSettleDone slot geometry factoryBad s = _
    simp only [execSlotSettleDone, hpg, hstate, hgeometry, hcontains, Bool.not_true, Bool.false_eq_true, not_true_eq_false, or_self, ne_eq,
      reduceIte, finish]
  case slotClearFault =>
    intro slot s hstate
    show execSlotClearFault slot s = _
    simp [execSlotClearFault, State.clearFault, finish, hstate]
  case slotFailNow =>
    intro slot s hisMember
    show execSlotFailNow slot s = _
    simp [execSlotFailNow, State.failNow, finish, hisMember]
  case onfiReadyTimeout =>
    intro slot s hisMember
    show execOnfiReadyTimeout slot s = _
    simp [execOnfiReadyTimeout, finish, hisMember]
  case nandEraseBlock =>
    intro what failed sb s h
    show execNandEraseDone what failed s = _
    simp [execNandEraseDone, finish, h]
  case nandEraseSpare =>
    intro what failed slot s h
    show execNandEraseDone what failed s = _
    simp [execNandEraseDone, finish, h]
  case nandEraseImage =>
    rintro what failed s ⟨hallowed, rfl, himage, herased⟩
    show execNandEraseDone (.imageArea 0) failed s = _
    simp only [execNandEraseDone, hallowed, himage, Fin.coe_ofNat_eq_mod, Nat.zero_mod, herased, Option.isSome_none, Bool.not_true,
      Bool.false_eq_true, or_self, reduceIte, finish]
  case noGroupRetry =>
    intro s
    show execNoGroupRetry s = _
    simp [execNoGroupRetry, finish]
  case rebuildEnds =>
    intro bad ecc progFail s h
    show execRebuildStripe bad ecc progFail s = _
    simp [execRebuildStripe, finish, h]
  case rebuildGoesOn =>
    rintro bad ecc progFail sb rest a s ⟨ha, hprogramsAllowed, hrbLeft, rfl, rfl, hlength, rfl⟩
    show execRebuildStripe [] ecc false s = _
    simp [execRebuildStripe, finish, ha, hprogramsAllowed, hrbLeft, State.forEach, Nat.not_lt.mpr hlength]
  case repairReplyTimeout =>
    intro id r s hfind
    show execRepairReplyTimeout id s = _
    simp [execRepairReplyTimeout, finish, hfind]
  case flashPatrolStripe =>
    rintro bad ecc parity marginal engine sb rest s ⟨hrails, hmode, hformed, hpatrolLeft, heq, hparity, hmarginal, hengine⟩
    show execFlashPatrolStripe bad ecc parity marginal engine s = _
    simp only [execFlashPatrolStripe, hrails, hmode, hformed, hpatrolLeft, heq, hparity, hmarginal, hengine, Bool.not_true,
      Bool.false_eq_true, or_self, reduceIte, State.when]
    rfl
  case flashPatrolRateUpdate =>
    intro days left s h
    show execFlashPatrolRateUpdate s = _
    simp [execFlashPatrolRateUpdate, finish, h]
  case moduleTempRead =>
    intro slot reading v a b s h
    show execModuleTempRead slot reading s = _
    simp [execModuleTempRead, finish, h]

/-! The Causeway -/

/-- Settles O18: a mirror frame that is next in order lands (`receive_frameNext`); CONTROL and HELLO frames pass their tests one by one. -/
theorem causewayCommandsComplete : Obligations.CausewayCommandsComplete := by
  refine ⟨?pathTrainingDone, ?pathTrainingTimeout, ?pathRetrainDue, ?pathLinkLoss, ?cwPathServiceWrite, ?linesFrameRx, ?windowFrameRx,
    ?linesBgFrameRx, ?pageMarkRx, ?horizonFrameRx, ?recordFrameRx, ?recordCommitRx, ?keyGenEntryRx, ?keyMasterRx, ?keyDestroyRx,
    ?repairReqRx, ?assayStateRx, ?drainBeginRx, ?catchupBeginRx, ?catchupDoneRx, ?temperSetRx, ?unpairRx, ?repairDoneRx, ?keyCommittedRx,
    ?controlFrameRx, ?helloRxFirst, ?helloRxEcho, ?nakTimer, ?retransmitTimer, ?controlSendTimer, ?helloSendTimer, ?rekeyDue, ?cwRekey,
    ?oldKeyEpochExpiry⟩
  case pathTrainingDone =>
    intro p s hpathState
    show execPathTrainingDone p s = _
    simp [execPathTrainingDone, finish, hpathState]
  case pathTrainingTimeout =>
    intro p s hpathState
    show execPathTrainingTimeout p s = _
    simp [execPathTrainingTimeout, finish, hpathState]
  case pathRetrainDue =>
    intro p s
    show execPathRetrainDue p s = _
    simp [execPathRetrainDue, finish]
  case pathLinkLoss =>
    intro p fec s hpathState
    show execPathLinkLoss p fec s = _
    simp [execPathLinkLoss, finish, hpathState]
  case cwPathServiceWrite =>
    intro p service s
    show execCwPathServiceWrite p service s = _
    simp [execCwPathServiceWrite, finish]
  case linesFrameRx =>
    rintro m es win a s ⟨hnext, rfl⟩
    exact congrArg finish (receive_frameNext hnext)
  case windowFrameRx =>
    rintro m es win a w s ⟨hnext, rfl⟩
    exact congrArg finish (receive_frameNext hnext)
  case linesBgFrameRx =>
    intro m es a s hnext
    exact congrArg finish (receive_frameNext hnext)
  case pageMarkRx =>
    intro m es a s hnext
    exact congrArg finish (receive_frameNext hnext)
  case horizonFrameRx =>
    intro m es a s hnext
    exact congrArg finish (receive_frameNext hnext)
  case recordFrameRx =>
    intro m kind idx words a s hnext
    exact congrArg finish (receive_frameNext hnext)
  case recordCommitRx =>
    intro m seqs a s hnext
    exact congrArg finish (receive_frameNext hnext)
  case keyGenEntryRx =>
    intro m side gen tenant midx salt a s hnext
    exact congrArg finish (receive_frameNext hnext)
  case keyMasterRx =>
    intro m tenant midx serial master a s hnext
    exact congrArg finish (receive_frameNext hnext)
  case keyDestroyRx =>
    intro m tenantKey a b x s hnext
    exact congrArg finish (receive_frameNext hnext)
  case repairReqRx =>
    intro m id page a s hnext
    exact congrArg finish (receive_frameNext hnext)
  case assayStateRx =>
    intro m claim a s hnext
    exact congrArg finish (receive_frameNext hnext)
  case drainBeginRx =>
    intro m a s hnext
    exact congrArg finish (receive_frameNext hnext)
  case catchupBeginRx =>
    intro m full0 full1 a s hnext
    exact congrArg finish (receive_frameNext hnext)
  case catchupDoneRx =>
    intro m a s hnext
    exact congrArg finish (receive_frameNext hnext)
  case temperSetRx =>
    intro m temper a s hnext
    exact congrArg finish (receive_frameNext hnext)
  case unpairRx =>
    intro m a s hnext
    exact congrArg finish (receive_frameNext hnext)
  case repairDoneRx =>
    intro m id status a s hnext
    exact congrArg finish (receive_frameNext hnext)
  case keyCommittedRx =>
    intro m seq a s hnext
    exact congrArg finish (receive_frameNext hnext)
  case controlFrameRx =>
    rintro c z a b s ⟨hup, hz, hstill, hchk, htag, hkey, hnak, ha, hb, hepoch⟩
    have hrx : s.when (decide (s.pathState c.path.val = 2)) (State.countFec c.path.val c.fec) = z := (if_pos (decide_eq_true hup)).trans hz
    show execControlFrameRx c s = _
    rw [execControlFrameRx, hrx, if_neg (not_not.mpr hstill), if_neg (by simp [hchk]), if_neg (by simp [htag, hkey]), ha, hnak]
    subst hb
    exact if_neg (Nat.not_lt.mpr hepoch)
  case helloRxFirst =>
    rintro p fchk fec h z a b s ⟨hup, hchk, hz, hstill, hok, rfl, rfl, hecho⟩
    have hrx : s.when (decide (s.pathState p.val = 2)) (State.countFec p.val fec) = z := (if_pos (decide_eq_true hup)).trans hz
    show execHelloRx p fchk fec h s = _
    rw [execHelloRx, hrx, if_neg (not_not.mpr hstill), if_neg (by simp [hchk]), if_neg (not_not.mpr hok), if_neg (by simp [hecho]), finish]
  case helloRxEcho =>
    rintro p fchk fec h z a b s ⟨hup, hchk, hz, hstill, hok, ha, hecho, hsaid, hpaired, hid, hb⟩
    have hrx : s.when (decide (s.pathState p.val = 2)) (State.countFec p.val fec) = z := (if_pos (decide_eq_true hup)).trans hz
    have hstarted : (if a.cw.hello then a else a.startHello) = a := if_pos hsaid
    show execHelloRx p fchk fec h s = _
    rw [execHelloRx, hrx, if_neg (not_not.mpr hstill), if_neg (by simp [hchk]), if_neg (not_not.mpr hok), ha]
    subst hb
    refine (if_pos ⟨hecho, hsaid, hpaired, hid⟩).trans ?_
    exact congrArg (fun x : State => finish ((({ x with cw := { x.cw with helloHeard := true } } : State).sendHellos.formKey h).linkFormed (!z.cw.linkKey) h)) hstarted
  case nakTimer =>
    intro s h
    show execNakTimer s = _
    simp [execNakTimer, finish, h]
  case retransmitTimer =>
    intro seq s
    show execRetransmitTimer seq s = _
    simp [execRetransmitTimer, finish]
  case controlSendTimer =>
    intro p s h
    show execControlSendTimer p s = _
    simp [execControlSendTimer, finish, h]
  case helloSendTimer =>
    intro s hhello
    show execHelloSendTimer s = _
    simp [execHelloSendTimer, finish, hhello]
  case rekeyDue =>
    intro s hlinkKey
    show execRekeyDue s = _
    simp [execRekeyDue, State.rekey, finish, hlinkKey]
  case cwRekey =>
    intro s hlinkKey
    show execCwRekey s = _
    simp [execCwRekey, State.rekey, finish, hlinkKey]
  case oldKeyEpochExpiry =>
    intro s
    show execOldKeyEpochExpiry s = _
    simp [execOldKeyEpochExpiry, finish]

/-! The witness and the pair -/

theorem State.witFrame_of_accepted {typ : Nat} {f : WitFrame} {act : State → State} {s a : State} (hon : s.witnessOn = true)
    (haccept : s.witAccept typ f = (true, a)) (hecho : a.witEcho f = true) : s.witFrame typ f act = act a := by
  simp [State.witFrame, hon, haccept, hecho]

/-- Settles O19: a witness frame that is authentic and echoes the nonce is heeded (`State.witFrame_of_accepted`). -/
theorem pairServiceCommandsComplete : Obligations.PairServiceCommandsComplete := by
  refine ⟨?heartbeatTimer, ?takeoverReqResend, ?witnessStatusRx, ?witnessGrantRx, ?witnessDenyRx, ?witnessFenceRx, ?witnessContactTimeout,
    ?twinContactTimeout, ?fenceNAssert, ?fenceNDeassert, ?checkpointDue, ?cwDrain, ?drainCutoverReady, ?drainReleaseTimeout, ?cwUnpair,
    ?cwReplaceAllow, ?cwPairAllowNew, ?pairAllowExpiry, ?catchupCopyExtent, ?catchupComplete, ?handbackStart⟩
  case heartbeatTimer =>
    intro s hwitnessOn
    show execHeartbeatTimer s = _
    simp [execHeartbeatTimer, finish, hwitnessOn]
  case takeoverReqResend =>
    intro s h
    show execTakeoverReqResend s = _
    simp [execTakeoverReqResend, finish, h]
  case witnessStatusRx =>
    rintro f a s ⟨hwitnessOn, hwitAccept, hwitEcho⟩
    show execWitnessStatusRx f s = _
    rw [execWitnessStatusRx, State.witFrame_of_accepted hwitnessOn hwitAccept hwitEcho, finish]
  case witnessGrantRx =>
    rintro f scans a s ⟨hwitnessOn, hwitAccept, hwitEcho⟩
    show execWitnessGrantRx f scans s = _
    rw [execWitnessGrantRx, State.witFrame_of_accepted hwitnessOn hwitAccept hwitEcho, finish]
  case witnessDenyRx =>
    rintro f a s ⟨hwitnessOn, hwitAccept, hwitEcho⟩
    show execWitnessDenyRx f s = _
    rw [execWitnessDenyRx, State.witFrame_of_accepted hwitnessOn hwitAccept hwitEcho, finish]
  case witnessFenceRx =>
    rintro f a s ⟨hwitnessOn, hwitAccept, hwitEcho⟩
    show execWitnessFenceRx f s = _
    rw [execWitnessFenceRx, State.witFrame_of_accepted hwitnessOn hwitAccept hwitEcho, finish]
  case witnessContactTimeout =>
    intro s hcontact
    show execWitnessContactTimeout s = _
    simp [execWitnessContactTimeout, State.loseWitness, finish, hcontact]
  case twinContactTimeout =>
    intro s hcontact
    show execTwinContactTimeout s = _
    simp [execTwinContactTimeout, finish]
  case fenceNAssert =>
    intro s hmode
    show execFenceNAssert s = _
    simp [execFenceNAssert, finish, hmode]
  case fenceNDeassert =>
    intro s
    show execFenceNDeassert s = _
    simp [execFenceNDeassert, finish]
  case checkpointDue =>
    intro late us s h
    show execCheckpointDue late us s = _
    simp [execCheckpointDue, finish, h]
  case cwDrain =>
    intro s
    show execCwDrain s = _
    simp [execCwDrain, finish]
  case drainCutoverReady =>
    intro us s h
    show execDrainCutoverReady us s = _
    simp [execDrainCutoverReady, finish, h]
  case drainReleaseTimeout =>
    intro s h
    show execDrainReleaseTimeout s = _
    simp [execDrainReleaseTimeout, finish, h]
  case cwUnpair =>
    intro s
    show execCwUnpair s = _
    simp [execCwUnpair, finish]
  case cwReplaceAllow =>
    intro s
    show execCwReplaceAllow s = _
    simp [execCwReplaceAllow, finish]
  case cwPairAllowNew =>
    intro s
    show execCwPairAllowNew s = _
    simp [execCwPairAllowNew, finish]
  case pairAllowExpiry =>
    intro replace s
    show execPairAllowExpiry replace s = _
    cases replace <;> rfl
  case catchupCopyExtent =>
    intro x s hlinkKey
    show execCatchupCopyExtent x s = _
    simp [execCatchupCopyExtent, finish, hlinkKey]
  case catchupComplete =>
    rintro s ⟨hlinkKey, hstate, hcopyLeft⟩
    show execCatchupComplete s = _
    exact if_pos (by simp [hlinkKey, hstate, hcopyLeft])
  case handbackStart =>
    rintro us s ⟨hmode, hcaught, hcopied, hacked, hcutover⟩
    show execHandbackStart us s = _
    simp only [execHandbackStart, hmode, hcaught, hcopied, hacked, hcutover, ne_eq, not_true_eq_false, Bool.not_true, List.isEmpty_nil,
      Bool.false_eq_true, or_self, reduceIte, finish]
    split_ifs <;> rfl

/-! The guest -/

/-- The link is up and the request passes every check of R451 to R459, `m` being the state its credit leaves. -/
def State.GuestPasses (p tag handle grant a len : Nat) (write : Bool) (m : State) : Prop :=
  (m.guestLink p = 2 ∧ m.frozenMode = false) ∧ (tag < 1024 ∧ m.guestReq p tag = none) ∧ (a % len = 0 ∧ a < 2 ^ 49 ∧ grant < 256) ∧
    m.mode.serving = true ∧ m.grantCheck handle grant a len write = 0 ∧ (write = true → m.fenced = false) ∧
    m.guestRange handle grant a len write = 0

theorem State.guestRequest_of_passes {p tag handle grant a len : Nat} {write : Bool} {act : State → State} {s m : State}
    (hm : m = s.guestMsg p (flag write) (if write ∧ len = 256 then 4 else 1)) (h : m.GuestPasses p tag handle grant a len write) :
    s.guestRequest p tag handle grant a len write act = act (m.addReq ⟨p, tag, some grant, handle⟩) := by
  obtain ⟨⟨hlink, hfrozen⟩, ⟨htag, hfree⟩, ⟨halign, haddr, hgrant⟩, hserving, hcheck, hfence, hrange⟩ := h
  have hfenced : ¬ (write = true ∧ m.fenced = true) := fun ⟨hw, hf⟩ => by simp [hfence hw] at hf
  rw [State.guestRequest, ← hm]
  simp only [hlink, hfrozen, Nat.not_le.mpr htag, hfree, halign, Nat.not_le.mpr haddr, Nat.not_le.mpr hgrant, hserving, hcheck, hfenced, hrange,
    ne_eq, not_true_eq_false, Option.isSome_none, Bool.not_true, Bool.false_eq_true, or_self, reduceIte]

/-- Settles O20: a request that passes is handed to its access (`State.guestRequest_of_passes`). -/
theorem guestCommandsComplete : Obligations.GuestCommandsComplete := by
  refine ⟨?guestRdGran, ?guestRdLine, ?guestRdHint, ?guestWrPtl, ?guestWrGran, ?guestWrLine, ?guest, ?gqSubmitDispatch, ?gqTakenRx,
    ?gqDoneRx, ?gqTimeout, ?kgGrantWrite, ?grantRevoke, ?grantRevokedSend, ?grantAckRx, ?grantAckTimeout, ?kerupLinkUp, ?kerupLinkDownTile,
    ?kerupLinkDownGuest, ?kerupL1Entry, ?kerupL1Exit, ?kerupFlitReplay, ?kerupCreditReturn, ?guestRefclkStable, ?gReadyAssert,
    ?guestBringupTimeout, ?guestReset, ?guestServiceWrite, ?gErrNfAssert, ?gErrFAssert, ?echoRspRx, ?kgGregAccess, ?kgGregTimeout,
    ?guestRegDataRead, ?guestRegDataIdentity, ?guestCmpOkRx, ?guestCmpErrRx⟩
  case guestRdGran =>
    rintro p tag handle grant addr sramBad m s ⟨hm, hlink, hfrozen, htag, hfree, halign, haddr, hgrant, hserving, hcheck, hrange⟩
    exact congrArg finish (State.guestRequest_of_passes hm
      ⟨⟨hlink, hfrozen⟩, ⟨htag, hfree⟩, ⟨halign, haddr, hgrant⟩, hserving, hcheck, nofun, hrange⟩)
  case guestRdLine =>
    rintro p tag handle grant addr sramBad m s ⟨hm, hlink, hfrozen, htag, hfree, halign, haddr, hgrant, hserving, hcheck, hrange⟩
    exact congrArg finish (State.guestRequest_of_passes hm
      ⟨⟨hlink, hfrozen⟩, ⟨htag, hfree⟩, ⟨halign, haddr, hgrant⟩, hserving, hcheck, nofun, hrange⟩)
  case guestRdHint =>
    rintro p tag handle grant addr m s ⟨rfl, hlink, hfrozen, htag, halign, haddr, hgrant, hserving, hcheck, hrange⟩
    show execGuestRdHint p tag handle grant addr s = _
    simp only [execGuestRdHint, hlink, hfrozen, Nat.not_le.mpr htag, halign, Nat.not_le.mpr haddr, Nat.not_le.mpr hgrant, hserving, hcheck,
      hrange, ne_eq, not_true_eq_false, Bool.not_true, Bool.false_eq_true, or_self, reduceIte, finish]
  case guestWrPtl =>
    rintro p tag handle grant addr mask data sramBad m b s ⟨hm, hlink, hfrozen, htag, hfree, halign, haddr, hgrant, hserving, hcheck,
      hfence, hrange, rfl⟩
    show execGuestWrPtl p tag handle grant addr mask data sramBad s = _
    rw [execGuestWrPtl, State.guestGranule, State.guestWrite, State.guestRequest_of_passes hm
      ⟨⟨hlink, hfrozen⟩, ⟨htag, hfree⟩, ⟨halign, haddr, hgrant⟩, hserving, hcheck, fun _ => hfence, hrange⟩, finish]
  case guestWrGran =>
    rintro p tag handle grant addr data sramBad m b s ⟨hm, hlink, hfrozen, htag, hfree, halign, haddr, hgrant, hserving, hcheck, hfence,
      hrange, rfl⟩
    show execGuestWrGran p tag handle grant addr data sramBad s = _
    rw [execGuestWrGran, State.guestGranule, State.guestWrite, State.guestRequest_of_passes hm
      ⟨⟨hlink, hfrozen⟩, ⟨htag, hfree⟩, ⟨halign, haddr, hgrant⟩, hserving, hcheck, fun _ => hfence, hrange⟩, finish]
  case guestWrLine =>
    rintro p tag handle grant addr data m b s ⟨hm, hlink, hfrozen, htag, hfree, halign, haddr, hgrant, hserving, hcheck, hfence, hrange,
      rfl⟩
    exact congrArg finish (State.guestRequest_of_passes hm
      ⟨⟨hlink, hfrozen⟩, ⟨htag, hfree⟩, ⟨halign, haddr, hgrant⟩, hserving, hcheck, fun _ => hfence, hrange⟩)
  case guest =>
    rintro q seq o s ⟨hstart, hserves, hqueue⟩
    show execGuest q seq s = _
    rw [execGuest, startOp_mayStart hstart]
    simp only [hserves, Nat.not_lt.mpr hqueue, Bool.not_true, Bool.false_eq_true, reduceIte, finish]
  case gqSubmitDispatch =>
    intro q o s h
    show execGqSubmitDispatch q s = _
    simp [execGqSubmitDispatch, finish, h]
  case gqTakenRx =>
    rintro p handle m o r s ⟨rfl, hliveHandle, hguestLink, hqueue, hfrozen, hop⟩
    show execGqTakenRx p handle s = _
    simp only [execGqTakenRx, hliveHandle, hguestLink, hqueue, hfrozen, ne_eq, not_true_eq_false, Bool.false_eq_true, or_self, reduceIte]
    rw [hop]
    rfl
  case gqDoneRx =>
    rintro p handle code ra rb m o s ⟨rfl, hfind, hguestLink, hqueue, hfrozen, haborted, hcode⟩
    show execGqDoneRx p handle code ra rb s = _
    simp only [execGqDoneRx, hfind, hguestLink, hqueue, hfrozen, haborted, hcode, ne_eq, not_true_eq_false, Bool.false_eq_true, or_self,
      reduceIte, finish]
  case gqTimeout =>
    intro handle o s h
    show execGqTimeout handle s = _
    simp [execGqTimeout, finish, h]
  case kgGrantWrite =>
    intro grant word value s
    show execKgGrantWrite grant word value s = _
    simp [execKgGrantWrite, finish]
  case grantRevoke =>
    intro grant s hvalid
    show execGrantRevoke grant s = _
    simp [execGrantRevoke, finish, hvalid]
  case grantRevokedSend =>
    rintro grant s ⟨hrevoking, houtstanding, hcontains, hfrozen, hguestLink⟩
    show execGrantRevokedSend grant s = _
    simp only [execGrantRevokedSend, hrevoking, houtstanding, hcontains, hfrozen, hguestLink, Bool.not_false, and_self, reduceIte, finish]
  case grantAckRx =>
    rintro p grant m s ⟨rfl, hguestLink, hcontains, hfrozen⟩
    show execGrantAckRx p grant s = _
    simp only [execGrantAckRx, hguestLink, hcontains, hfrozen, Bool.not_false, and_self, reduceIte, finish]
  case grantAckTimeout =>
    rintro grant s ⟨hcontains, hfrozen⟩
    show execGrantAckTimeout grant s = _
    simp only [execGrantAckTimeout, hcontains, hfrozen, Bool.not_false, and_self, reduceIte, finish]
  case kerupLinkUp =>
    rintro k width repaired spares a b s ⟨hruns, hmod, hrepaired, hwidth, ha, hb⟩
    have hlanes : repaired - Sparse.get 0 k.val s.rv.units.lanes = 0 := Nat.sub_eq_zero_of_le hrepaired
    have hguest : ¬ (k.val = 10 ∨ k.val = 11) := by omega
    show execKerupLinkUp k width repaired spares s = _
    rw [execKerupLinkUp, if_neg (by simp [hruns]), ha]
    subst hb
    refine (if_neg hguest).trans ?_
    rw [if_neg (Nat.not_lt.mpr hwidth), hlanes]
    rfl
  case kerupLinkDownTile =>
    rintro k s ⟨hstate, hk, hk'⟩
    show execKerupLinkDown k s = _
    simp [execKerupLinkDown, finish, Nat.not_lt.mpr hstate, hk, hk']
  case kerupLinkDownGuest =>
    rintro k s ⟨hstate, hk⟩
    show execKerupLinkDown k s = _
    simp only [execKerupLinkDown, finish, if_neg (Nat.not_lt.mpr hstate), if_pos hk]
  case kerupL1Entry =>
    intro p s h
    show execKerupL1Entry p s = _
    simp [execKerupL1Entry, finish, h]
  case kerupL1Exit =>
    intro p s hguestLink
    show execKerupL1Exit p s = _
    simp [execKerupL1Exit, finish, hguestLink]
  case kerupFlitReplay =>
    rintro k ts s ⟨hup, rfl⟩
    show execKerupFlitReplay k s = _
    simp only [execKerupFlitReplay, finish, if_neg (Nat.not_lt.mpr hup)]
  case kerupCreditReturn =>
    rintro p idle req wdat cmp rdat bad s ⟨hup, rfl⟩
    show execKerupCreditReturn p true req wdat cmp rdat bad s = _
    simp only [execKerupCreditReturn, hup, State.when, Bool.not_true, Bool.false_eq_true, ne_eq, not_true_eq_false, reduceIte, finish]
  case guestRefclkStable =>
    rintro s ⟨hstep, hguestState, hcontains, hcontains'⟩
    show execGuestRefclkStable s = _
    simp only [execGuestRefclkStable, hstep, hguestState, hcontains, hcontains', Bool.not_false, and_self, reduceIte, finish]
  case gReadyAssert =>
    intro s h
    show execGReadyAssert s = _
    simp [execGReadyAssert, finish, h]
  case guestBringupTimeout =>
    intro s h
    show execGuestBringupTimeout s = _
    simp [execGuestBringupTimeout, finish, h]
  case guestReset =>
    intro s hfrozen
    show execGuestReset s = _
    simp [execGuestReset, finish, hfrozen]
  case guestServiceWrite =>
    intro service s hfrozen
    show execGuestServiceWrite service s = _
    simp [execGuestServiceWrite, finish, hfrozen]
  case gErrNfAssert =>
    intro s hguestRuns
    show execGErrNfAssert s = _
    simp [execGErrNfAssert, finish, hguestRuns]
  case gErrFAssert =>
    intro s hguestRuns
    show execGErrFAssert s = _
    simp [execGErrFAssert, finish, hguestRuns]
  case echoRspRx =>
    rintro p pattern m s ⟨rfl, hpattern, hstep, hlink⟩
    show execEchoRspRx p pattern s = _
    simp only [execEchoRspRx, hpattern, hstep, hlink, ne_eq, not_true_eq_false, or_self, reduceIte, finish]
    split_ifs <;> rfl
  case kgGregAccess =>
    intro off write value s
    show execKgGregAccess off write value s = _
    simp [execKgGregAccess, finish]
  case kgGregTimeout =>
    intro off x s hfind
    show execKgGregTimeout off s = _
    simp [execKgGregTimeout, finish, hfind]
  case guestRegDataRead =>
    rintro p tag value m x s ⟨rfl, hlink, hport, htag, haccess, hread⟩
    show execGuestRegDataRx p tag value s = _
    rw [hport] at hlink haccess
    simp only [execGuestRegDataRx, hport, hlink, Nat.not_lt.mpr htag, haccess, hread, ne_eq, not_true_eq_false, Bool.false_eq_true,
      or_self, reduceIte, finish]
  case guestRegDataIdentity =>
    rintro p tag value m a s ⟨rfl, hlink, hport, htag, hstep, rfl⟩
    show execGuestRegDataRx p tag value s = _
    rw [hport] at hlink hstep
    simp only [execGuestRegDataRx, hport, hlink, htag, hstep, ne_eq, not_true_eq_false, or_self, reduceIte, finish]
    split_ifs <;> rfl
  case guestCmpOkRx =>
    rintro p tag m x s ⟨rfl, haccess, hlink, hport, hwrite⟩
    show execGuestCmpOkRx p tag s = _
    rw [hport] at hlink haccess
    simp only [execGuestCmpOkRx, hport, haccess, hlink, hwrite, and_self, reduceIte, finish]
  case guestCmpErrRx =>
    rintro p tag code m x s ⟨rfl, hlink, hport, hcode, htag, haccess⟩
    show execGuestCmpErrRx p tag code s = _
    rw [hport] at hlink haccess
    simp only [execGuestCmpErrRx, hport, hlink, hcode, Nat.not_lt.mpr htag, haccess, ne_eq, not_true_eq_false, or_self, reduceIte, finish]

/-! The Reeve and the embedded flash -/

/-- Settles O21: the unlock sequence and the operands are taken step by step. -/
theorem reeveCommandsComplete : Obligations.ReeveCommandsComplete := by
  refine ⟨?reeveLockstepFail, ?reeveWatchdogExpiry, ?rvWdtKick, ?reeveSramUncorrectable, ?reeveBoot, ?fwTrialConfirm, ?fwTrialTimeout,
    ?flashUnlockFirst, ?flashUnlockSecond, ?programWord, ?programRow, ?eraseSector, ?eraseBlock, ?flashClearStatus, ?flashReset,
    ?flashOpDone, ?flashWindowRead, ?armExpiry, ?readoutEraseDone, ?jtagRead, ?jtagTestMode, ?jtagRaise⟩
  case reeveLockstepFail =>
    intro failed s h
    show execReeveLockstepFail failed s = _
    simp [execReeveLockstepFail, finish, h]
  case reeveWatchdogExpiry =>
    intro s hfirmware
    show execReeveWatchdogExpiry s = _
    simp [execReeveWatchdogExpiry, finish, hfirmware]
  case rvWdtKick =>
    intro value corrected s
    show execRvWdtKick value corrected s = _
    simp [execRvWdtKick, finish]
  case reeveSramUncorrectable =>
    intro addr s hreeveUp
    show execReeveSramUncorrectable addr s = _
    simp [execReeveSramUncorrectable, finish, hreeveUp]
  case reeveBoot =>
    intro checks s h
    show execReeveBoot checks s = _
    simp [execReeveBoot, finish, h]
  case fwTrialConfirm =>
    rintro s ⟨hfirmware, htrial, htrialStarted⟩
    show execFwTrialConfirm s = _
    simp [execFwTrialConfirm, State.confirmTrial, finish, hfirmware, htrial, htrialStarted]
  case fwTrialTimeout =>
    intro s h
    show execFwTrialTimeout s = _
    simp [execFwTrialTimeout, finish, h]
  case flashUnlockFirst =>
    rintro bank off value s ⟨hbusy, hstep, rfl, rfl⟩
    show execFlashUnlockWrite bank 0xA54 0x4B s = _
    simp [execFlashUnlockWrite, State.flashByte, finish, hbusy, hstep]
  case flashUnlockSecond =>
    rintro bank off value s ⟨hbusy, hstep, rfl, rfl⟩
    show execFlashUnlockWrite bank 0x5AB 0xB4 s = _
    simp [execFlashUnlockWrite, State.flashByte, finish, hbusy, hstep]
  case programWord =>
    rintro addr value s ⟨hbusy, hstep, hcmd, hfirst, halign⟩
    show execProgramWord addr value s = _
    have hword : addr % 2 ^ 26 % 4 = 0 := by omega
    simp [execProgramWord, State.flashOperand, finish, -Nat.reducePow, hbusy, hstep, hcmd, hfirst, halign, hword]
  case programRow =>
    rintro addr value s ⟨hbusy, hstep, hcmd, hfirst, halign⟩
    show execProgramRow addr value s = _
    have hword : addr % 2 ^ 26 % 4 = 0 := by omega
    simp [execProgramRow, State.flashOperand, finish, -Nat.reducePow, hbusy, hstep, hcmd, hfirst, halign, hword]
  case eraseSector =>
    rintro addr value s ⟨hbusy, hstep, hcmd, halign, hvalue⟩
    show execEraseSector addr value s = _
    simp [execEraseSector, State.flashOperand, finish, -Nat.reducePow, hbusy, hstep, hcmd, halign, hvalue]
  case eraseBlock =>
    rintro addr value s ⟨hbusy, hstep, hcmd, halign, hvalue⟩
    show execEraseBlock addr value s = _
    simp [execEraseBlock, State.flashOperand, finish, -Nat.reducePow, hbusy, hstep, hcmd, halign, hvalue]
  case flashClearStatus =>
    rintro bank s ⟨hbankBusy, hstep⟩
    show execFlashClearStatus bank s = _
    simp [execFlashClearStatus, State.flashByte, finish, hbankBusy, hstep]
  case flashReset =>
    rintro bank s ⟨hbankBusy, hstep⟩
    show execFlashReset bank s = _
    simp [execFlashReset, State.flashByte, finish, hbankBusy, hstep]
  case flashOpDone =>
    rintro bank ok first n b s ⟨hbusy, hok, heraseWords⟩
    show execFlashOpDone bank ok s = _
    simp only [execFlashOpDone, hbusy, hok, heraseWords, Bool.not_true, Bool.false_eq_true, reduceIte, State.when]
    rfl
  case flashWindowRead =>
    intro addr ecc s
    show execFlashWindowRead addr ecc s = _
    simp [execFlashWindowRead, finish]
  case armExpiry =>
    intro s
    show execArmExpiry s = _
    simp [execArmExpiry, finish]
  case readoutEraseDone =>
    intro s herasing
    show execReadoutEraseDone s = _
    simp [execReadoutEraseDone, finish, herasing]
  case jtagRead =>
    intro act addr ecc s h
    show execJtagAccess act s = _
    simp [execJtagAccess, finish, h]
  case jtagTestMode =>
    intro act on s h
    show execJtagAccess act s = _
    simp [execJtagAccess, finish, h]
  case jtagRaise =>
    intro act s h
    show execJtagAccess act s = _
    simp [execJtagAccess, finish, h]

/-! MCTP and PLDM -/

/-- Settles O22: a request that is handled gets its answer (`pldm_takes`), and the update is in the state the request asks for. -/
theorem pldmCommandsComplete : Obligations.PldmCommandsComplete := by
  refine ⟨?bmcAddressMatch, ?mctpControlMsg, ?getTid, ?getPldmVersion, ?getPldmTypes, ?getPldmCommands, ?getPdrRepositoryInfo, ?getPdr,
    ?getSensorReading, ?getStateSensorReadings, ?setNumericSensorEnable, ?setEventReceiver, ?pollForPlatformEventMessage,
    ?queryDeviceIdentifiers, ?getFirmwareParameters, ?requestUpdate, ?passComponentTable, ?updateComponent, ?firmwareDataRx,
    ?transferComplete, ?verifyComplete, ?applyComplete, ?activateWithoutFirmware, ?activateFirmware, ?getStatus, ?cancelUpdateComponent,
    ?cancelUpdate, ?pldmUnsupported⟩
  case bmcAddressMatch =>
    intro s hmode
    show execBmcAddressMatch s = _
    simp [execBmcAddressMatch, finish, hmode]
  case mctpControlMsg =>
    intro setEid s hbmcPort
    show execMctpControlMsg setEid s = _
    simp only [execMctpControlMsg, hbmcPort, Bool.not_true, Bool.false_eq_true, reduceIte]
    rfl
  case getTid =>
    intro s htakes
    exact congrArg finish (pldm_takes htakes)
  case getPldmVersion =>
    intro s htakes
    exact congrArg finish (pldm_takes htakes)
  case getPldmTypes =>
    intro s htakes
    exact congrArg finish (pldm_takes htakes)
  case getPldmCommands =>
    rintro typ s ⟨htakes, hcontains⟩
    show execGetPldmCommands typ s = _
    rw [execGetPldmCommands, pldm_takes htakes]
    simp only [hcontains, reduceIte, finish]
  case getPdrRepositoryInfo =>
    intro s htakes
    exact congrArg finish (pldm_takes htakes)
  case getPdr =>
    rintro n s ⟨htakes, hn⟩
    show execGetPdr n s = _
    rw [execGetPdr, pldm_takes htakes]
    simp only [hn, reduceIte, finish]
    split_ifs <;> rfl
  case getSensorReading =>
    rintro sensor s ⟨htakes, hsensor⟩
    show execGetSensorReading sensor s = _
    rw [execGetSensorReading, pldm_takes htakes]
    simp only [hsensor, reduceIte, finish]
  case getStateSensorReadings =>
    intro sensor s htakes
    exact congrArg finish (pldm_takes htakes)
  case setNumericSensorEnable =>
    rintro sensor on s ⟨htakes, hsensor⟩
    show execSetNumericSensorEnable sensor on s = _
    rw [execSetNumericSensorEnable, pldm_takes htakes]
    simp only [hsensor, reduceIte, finish]
  case setEventReceiver =>
    intro eid s htakes
    exact congrArg finish (pldm_takes htakes)
  case pollForPlatformEventMessage =>
    intro s htakes
    exact congrArg finish (pldm_takes htakes)
  case queryDeviceIdentifiers =>
    intro s htakes
    exact congrArg finish (pldm_takes htakes)
  case getFirmwareParameters =>
    intro s htakes
    exact congrArg finish (pldm_takes htakes)
  case requestUpdate =>
    rintro s ⟨htakes, hst, htrial, harm, hmode, hmode'⟩
    show execRequestUpdate s = _
    rw [execRequestUpdate, pldm_takes htakes]
    simp [hst, htrial, harm, hmode, hmode', finish]
  case passComponentTable =>
    rintro s ⟨htakes, hst⟩
    show execPassComponentTable s = _
    rw [execPassComponentTable, pldm_takes htakes]
    simp [hst, finish]
  case updateComponent =>
    rintro comp size a s ⟨htakes, hst, hcomp, hsize, rfl⟩
    show execUpdateComponent comp size s = _
    have hidle : s.rv.update.st ≠ 0 ∧ s.rv.update.st ≠ 3 := by omega
    have hasked : ¬ (s.rv.update.st ≠ 2 ∧ s.rv.update.st ≠ 5) := by omega
    have hport : s.bmcPort = true := (Bool.and_eq_true_iff.mp htakes).1
    simp only [execUpdateComponent, pldm_takes htakes, hidle.1, hasked, hcomp, hport, Nat.not_lt.mpr hsize]
    simp [State.setUpdate, hidle.2, finish]
  case firmwareDataRx =>
    rintro off bytes s ⟨hport, hst, rfl, hmin, hmax, hsize⟩
    show execFirmwareDataRx s.rv.update.got bytes s = _
    have hsome : bytes.isEmpty = false := by
      rw [List.isEmpty_eq_false_iff]
      rintro rfl
      exact absurd hmin (by decide)
    simp only [execFirmwareDataRx, hport, hst, Nat.not_lt.mpr hmax, Nat.not_lt.mpr hsize, hsome, Bool.not_true, Bool.false_eq_true, ne_eq,
      not_true_eq_false, or_self, reduceIte, finish]
  case transferComplete =>
    intro check r s h
    show execTransferComplete check s = _
    simp [execTransferComplete, finish, h]
  case verifyComplete =>
    rintro s ⟨hbmcPort, hst⟩
    show execVerifyComplete s = _
    simp only [execVerifyComplete, hbmcPort, hst, Bool.not_true, Bool.false_eq_true, ne_eq, not_true_eq_false, or_self, reduceIte, finish]
    split_ifs <;> rfl
  case applyComplete =>
    intro s h
    show execApplyComplete s = _
    simp [execApplyComplete, finish, h]
  case activateWithoutFirmware =>
    rintro s ⟨htakes, hst, hfw⟩
    show execActivateFirmware s = _
    rw [execActivateFirmware, pldm_takes htakes]
    simp [hst, hfw, finish]
  case activateFirmware =>
    rintro b s ⟨htakes, hst, hfw, hrecovery, rfl⟩
    show execActivateFirmware s = _
    rw [execActivateFirmware, pldm_takes htakes]
    simp [hst, hfw, hrecovery, finish]
  case getStatus =>
    intro s htakes
    exact congrArg finish (pldm_takes htakes)
  case cancelUpdateComponent =>
    rintro s ⟨htakes, hst⟩
    show execCancelUpdateComponent s = _
    have hst : s.rv.update.st ≠ 0 := by omega
    have hasked : ¬ (s.rv.update.st ≠ 3 ∧ s.rv.update.st ≠ 4) := by omega
    rw [execCancelUpdateComponent, pldm_takes htakes]
    simp only [hst, hasked, reduceIte, finish]
  case cancelUpdate =>
    rintro s ⟨htakes, hst⟩
    show execCancelUpdate s = _
    rw [execCancelUpdate, pldm_takes htakes]
    simp only [hst, reduceIte, finish]
  case pldmUnsupported =>
    intro typ cmd s hbmcPort
    show execPldmUnsupported typ cmd s = _
    simp [execPldmUnsupported, finish, hbmcPort]

/-! SPDM -/

theorem State.spdm_up {t : Transport} {f : State → SpdmReply × State} {s : State} (h : s.spdmUp t = true) :
    s.spdm t f = (f s).2.emit (.spdm t (f s).1) := by
  simp [State.spdm, h]

theorem State.inSession_open {id : Nat} {f : State → SpdmReply × State} {s : State} (h : s.sessionOpen id = true) : s.inSession id true f = f s := by
  simp [State.inSession, h]

/-- Settles O23: over a transport that is up a request gets its answer, in an open session too. -/
theorem spdmCommandsComplete : Obligations.SpdmCommandsComplete := by
  refine ⟨?spdmGetVersion, ?spdmGetCapabilities, ?spdmNegotiateAlgorithms, ?spdmGetDigests, ?spdmGetCertificate, ?spdmChallenge,
    ?spdmGetMeasurements, ?spdmKeyExchange, ?spdmFinish, ?spdmHeartbeat, ?spdmEndSession⟩
  case spdmGetVersion =>
    intro t s hup
    exact congrArg finish (State.spdm_up hup)
  case spdmGetCapabilities =>
    intro t s hup
    exact congrArg finish (State.spdm_up hup)
  case spdmNegotiateAlgorithms =>
    intro t s hup
    exact congrArg finish (State.spdm_up hup)
  case spdmGetDigests =>
    intro t s hup
    exact congrArg finish (State.spdm_up hup)
  case spdmGetCertificate =>
    rintro t slot off len s ⟨hup, rfl⟩
    exact congrArg finish (State.spdm_up hup)
  case spdmChallenge =>
    rintro t slot s ⟨hup, rfl⟩
    exact congrArg finish (State.spdm_up hup)
  case spdmGetMeasurements =>
    intro t index s hup
    exact congrArg finish (State.spdm_up hup)
  case spdmKeyExchange =>
    rintro t s ⟨hup, hlength⟩
    show execSpdmKeyExchange t s = _
    rw [execSpdmKeyExchange, State.spdm_up hup]
    simp only [Nat.not_le.mpr hlength, reduceIte, finish]
  case spdmFinish =>
    rintro t session ok s ⟨hup, hsessionOpen, rfl⟩
    show execSpdmFinish t session true s = _
    rw [execSpdmFinish, State.spdm_up hup, State.inSession_open hsessionOpen, finish]
  case spdmHeartbeat =>
    rintro t session ok s ⟨hup, hsessionOpen, rfl⟩
    show execSpdmHeartbeat t session true s = _
    rw [execSpdmHeartbeat, State.spdm_up hup, State.inSession_open hsessionOpen, finish]
  case spdmEndSession =>
    rintro t session ok s ⟨hup, hsessionOpen, rfl⟩
    show execSpdmEndSession t session true s = _
    rw [execSpdmEndSession, State.spdm_up hup, State.inSession_open hsessionOpen, finish]

/-! MGMT messages -/

theorem State.mgmt_success {p : MgmtPath} {typ : Nat} {f : State → (Nat × List Nat) × State} {s t : State} {body : List Nat}
    (htakes : s.mgmtTakes p typ = true) (hf : f s = ((St.SUCCESS, body), t)) : s.mgmt p typ f = t.mgmtSend p typ St.SUCCESS body := by
  rw [mgmt_takes htakes (by simp [hf, St.SUCCESS, St.DENIED]), hf]

theorem State.confirm_armed {n challenge : Nat} {act : State → (Nat × List Nat) × State} {s : State} (h : s.rv.arm = some (n, challenge)) :
    s.confirm n challenge act = act s := by
  simp [State.confirm, h]

/-- Settles O24: a message that is handled answers SUCCESS with its body (`State.mgmt_success`), where its operands and its arming are good. -/
theorem mgmtCommandsComplete : Obligations.MgmtCommandsComplete := by
  refine ⟨?mgmtOperation, ?mailboxMgmtRequest, ?mgmtUnknownType, ?mgmtStatus, ?mgmtIdentity, ?mgmtDeviceKey, ?mgmtSensorRead,
    ?mgmtBermRead, ?mgmtEventRead, ?mgmtTenantSet, ?mgmtBindingPkey, ?mgmtBindingLd, ?mgmtGrantSet, ?mgmtRegRead, ?mgmtRegReadGuest,
    ?mgmtRegWrite, ?mgmtAssayNow, ?mgmtPairCmd, ?mgmtService, ?mgmtTemperSet, ?groupResetArm, ?groupResetConfirm, ?readoutRaise,
    ?readoutLowerArm, ?readoutLowerConfirm, ?readoutFinalArm, ?readoutFinalConfirm⟩
  case mgmtOperation =>
    intro q seq o s h
    show execMgmtOperation q seq s = _
    simp [execMgmtOperation, finish, h]
  case mailboxMgmtRequest =>
    intro ld typ s h
    show execMailboxMgmtRequest ld typ s = _
    simp [execMailboxMgmtRequest, finish, h]
  case mgmtUnknownType =>
    rintro path typ s ⟨hmgmtWaits, hcontains⟩
    show execMgmtUnknownType path typ s = _
    simp only [execMgmtUnknownType, hmgmtWaits, hcontains, Bool.not_true, Bool.not_false, Bool.false_eq_true, reduceIte, finish]
  case mgmtStatus =>
    intro path s htakes
    exact congrArg finish (State.mgmt_success htakes rfl)
  case mgmtIdentity =>
    intro path s htakes
    exact congrArg finish (State.mgmt_success htakes rfl)
  case mgmtDeviceKey =>
    intro path s htakes
    exact congrArg finish (State.mgmt_success htakes rfl)
  case mgmtSensorRead =>
    rintro path channels s ⟨htakes, hlength, hall⟩
    refine congrArg finish (State.mgmt_success htakes ?_)
    simp only [hlength, hall, and_self, reduceIte]
  case mgmtBermRead =>
    rintro path pool count s ⟨htakes, hpool, hpool'⟩
    refine congrArg finish (State.mgmt_success htakes ?_)
    simp only [hpool, hpool', and_self, reduceIte]
  case mgmtEventRead =>
    rintro path start count s ⟨htakes, hcount, hcount'⟩
    refine congrArg finish (State.mgmt_success htakes ?_)
    simp only [hcount, hcount', and_self, reduceIte]
  case mgmtTenantSet =>
    rintro path tenant state weight regions gib s ⟨htakes, htenant, htenant'⟩
    refine congrArg finish (State.mgmt_success htakes ?_)
    simp only [htenant, Nat.not_le.mpr htenant', reduceIte]
  case mgmtBindingPkey =>
    rintro path pkeyMap n v s ⟨htakes, rfl, hn⟩
    refine congrArg finish (State.mgmt_success htakes ?_)
    simp only [hn, and_self, reduceIte]
  case mgmtBindingLd =>
    rintro path pkeyMap n v s ⟨htakes, rfl, hn⟩
    refine congrArg finish (State.mgmt_success htakes ?_)
    simp only [hn, Bool.false_eq_true, false_and, Bool.not_false, and_self, reduceIte]
  case mgmtGrantSet =>
    rintro path grant w0 w1 w2 s ⟨htakes, hgrant, hgrantOwn⟩
    refine congrArg finish (State.mgmt_success htakes ?_)
    simp only [Nat.not_le.mpr hgrant, hgrantOwn, Bool.not_true, Bool.false_eq_true, reduceIte]
  case mgmtRegRead =>
    rintro path off s ⟨htakes, halign, hmap, hreg⟩
    show execMgmtRegRead path off s = _
    have hgreg : ¬ (off % 4 = 0 ∧ 0xF40000 ≤ off ∧ off < 0xF50000 ∧ s.mgmtWaits path 0x13 = true ∧ s.mgmtAllowed path 0x13 = true) := by omega
    rw [execMgmtRegRead, if_neg hgreg]
    refine congrArg finish (State.mgmt_success htakes ?_)
    simp only [halign, Nat.not_le.mpr hmap, ne_eq, not_true_eq_false, or_self, reduceIte]
  case mgmtRegReadGuest =>
    intro path off s h
    show execMgmtRegRead path off s = _
    simp [execMgmtRegRead, finish, h]
  case mgmtRegWrite =>
    rintro path off v s ⟨htakes, halign, hmap, hallowed⟩
    refine congrArg finish (State.mgmt_success htakes ?_)
    simp only [halign, Nat.not_le.mpr hmap, hallowed, ne_eq, not_true_eq_false, Bool.false_eq_true, or_self, reduceIte]
  case mgmtAssayNow =>
    intro path s htakes
    exact congrArg finish (State.mgmt_success htakes rfl)
  case mgmtPairCmd =>
    rintro path bit s ⟨htakes, hbit⟩
    refine congrArg finish (State.mgmt_success htakes ?_)
    simp only [hbit, reduceIte]
  case mgmtService =>
    rintro path off v s ⟨htakes, hserviceMask, hv⟩
    refine congrArg finish (State.mgmt_success htakes ?_)
    simp only [hserviceMask, hv, ne_eq, not_true_eq_false, or_self, reduceIte]
  case mgmtTemperSet =>
    rintro path temper s ⟨htakes, habove, hmax, halone, hsolo⟩
    refine congrArg finish (State.mgmt_success htakes ?_)
    simp [State.temperCommand, Nat.not_le.mpr habove, Nat.not_lt.mpr hmax, halone, hsolo]
  case groupResetArm =>
    intro path s htakes
    exact congrArg finish (State.mgmt_success htakes rfl)
  case groupResetConfirm =>
    rintro path challenge s ⟨htakes, harm, hgroupResetReady⟩
    refine congrArg finish (State.mgmt_success htakes ?_)
    simp only [State.confirm_armed harm, hgroupResetReady, reduceIte]
  case readoutRaise =>
    rintro path s ⟨htakes, hraises, hlevel⟩
    refine congrArg finish (State.mgmt_success htakes ?_)
    simp only [Nat.not_le.mpr hraises, hlevel, ne_eq, not_true_eq_false, reduceIte]
  case readoutLowerArm =>
    rintro path s ⟨htakes, hlevel⟩
    refine congrArg finish (State.mgmt_success htakes ?_)
    simp only [hlevel, ne_eq, not_true_eq_false, reduceIte]
    rfl
  case readoutLowerConfirm =>
    rintro path challenge s ⟨htakes, harm, hmode⟩
    refine congrArg finish (State.mgmt_success htakes ?_)
    have hfree : s.mode = .paired ∨ (!s.cw.paired) = true := hmode.imp_right fun h => by simp [h]
    simp only [State.confirm_armed harm, hfree, reduceIte]
  case readoutFinalArm =>
    rintro path s ⟨htakes, hlevel⟩
    refine congrArg finish (State.mgmt_success htakes ?_)
    simp only [hlevel, ne_eq, not_true_eq_false, reduceIte]
    rfl
  case readoutFinalConfirm =>
    rintro path challenge s ⟨htakes, harm⟩
    exact congrArg finish (State.mgmt_success htakes (State.confirm_armed harm))

/-! Supplies, power commands and clocks -/

/-- Settles O25: each mode names the one branch a power command takes. -/
theorem powerCommandsComplete : Obligations.PowerCommandsComplete := by
  refine ⟨?vauxRise, ?vauxFall, ?aonStartCheck, ?aonStartRetry, ?aonRegulatorDip, ?pwrRamp, ?pwrSleep, ?pwrShutdown, ?pwrRestart,
    ?shutdownWritebackDone, ?pseqGoAssert, ?goWaitTimeout, ?railPgAssert, ?railPgTimeout, ?railWindowTimeout, ?stepDelayExpiry, ?pllLocked,
    ?pllLockTimeout, ?rampdownRailOff, ?wakeRetryDelay, ?holdoffExpiry, ?moduleDiscoveryStart, ?bringupComplete, ?railPgLoss, ?pmbusPoll,
    ?railMarginWrite, ?pmbusMarginAck, ?xtalStable, ?xtalFail, ?pllLockLoss, ?pllRelock, ?pllRelockTimeout, ?flashClockIdleStop,
    ?aonAlarmExpiry⟩
  case vauxRise =>
    intro side autowake i3cAddr fuses part s h
    show execVauxRise side autowake i3cAddr fuses part s = _
    simp [execVauxRise, finish, h]
  case vauxFall =>
    intro s
    show execVauxFall s = _
    simp [execVauxFall, finish]
  case aonStartCheck =>
    intro ok s h
    show execAonStartCheck ok s = _
    simp [execAonStartCheck, finish, h]
  case aonStartRetry =>
    rintro s ⟨hmode, hvaux, hstarting⟩
    show execAonStartRetry s = _
    exact if_pos (by simp [hmode, hvaux, hstarting])
  case aonRegulatorDip =>
    intro s hmode
    show execAonRegulatorDip s = _
    simp only [execAonRegulatorDip, hmode, reduceIte, finish]
  case pwrRamp =>
    intro s hmode
    show execPwrRamp s = _
    simp [execPwrRamp, State.powerCommand, finish, hmode]
  case pwrSleep =>
    intro s hmode
    show execPwrSleep s = _
    simp [execPwrSleep, State.powerCommand, finish, hmode]
  case pwrShutdown =>
    intro s hmode
    show execPwrShutdown s = _
    simp [execPwrShutdown, State.powerCommand, finish, hmode]
  case pwrRestart =>
    rintro s ⟨hmode, hsave⟩
    show execPwrRestart s = _
    simp [execPwrRestart, State.powerCommand, finish, hmode, hsave]
  case shutdownWritebackDone =>
    intro s h
    show execShutdownWritebackDone s = _
    simp [execShutdownWritebackDone, finish, h]
  case pseqGoAssert =>
    intro s hmode
    show execPseqGoAssert s = _
    simp only [execPseqGoAssert, hmode, reduceIte, finish]
    split_ifs <;> rfl
  case goWaitTimeout =>
    rintro s ⟨hmode, hwait, hgoTold⟩
    show execGoWaitTimeout s = _
    exact if_pos (by simp [hmode, hwait, hgoTold])
  case railPgAssert =>
    intro rail s h
    show execRailPgAssert rail s = _
    simp [execRailPgAssert, finish, h]
  case railPgTimeout =>
    intro rail s h
    show execRailPgTimeout rail s = _
    simp [execRailPgTimeout, finish, h]
  case railWindowTimeout =>
    intro rail s h
    show execRailWindowTimeout rail s = _
    simp [execRailWindowTimeout, finish, h]
  case stepDelayExpiry =>
    intro rail s h
    show execStepDelayExpiry rail s = _
    simp [execStepDelayExpiry, finish, h]
  case pllLocked =>
    rintro pll v s ⟨hramp, rfl⟩
    show execPllLocked pll s = _
    rw [execPllLocked, if_neg (by simp [hramp])]
    exact (apply_ite finish _ _ _).symm
  case pllLockTimeout =>
    intro pll s h
    show execPllLockTimeout pll s = _
    simp [execPllLockTimeout, finish, h]
  case rampdownRailOff =>
    intro rail s h
    show execRampdownRailOff rail s = _
    simp [execRampdownRailOff, finish, h]
  case wakeRetryDelay =>
    rintro s ⟨hmode, hramp⟩
    show execWakeRetryDelay s = _
    exact if_pos ⟨hmode, hramp⟩
  case holdoffExpiry =>
    intro s h
    show execHoldoffExpiry s = _
    simp [execHoldoffExpiry, finish, h]
  case moduleDiscoveryStart =>
    rintro modules dimms faults checkers errorLines load t a s ⟨hmode, rfl, rfl, rfl, hformed⟩
    show execModuleDiscoveryStart modules dimms faults checkers errorLines s = _
    rw [execModuleDiscoveryStart, if_neg (by simp [hmode])]
    simp only [State.forEach] at hformed ⊢
    simp only [hformed, reduceIte, finish]
  case bringupComplete =>
    intro a b s h
    show execBringupComplete s = _
    simp [execBringupComplete, finish, h]
  case railPgLoss =>
    rintro rail s ⟨hmode, hrail⟩
    show execRailPgLoss rail s = _
    have hwatched : (decide (s.railState rail.val = 2) || decide (s.railState rail.val = 3)) = true := by simpa using hrail
    simp only [execRailPgLoss, hmode, hwatched, Bool.true_or, Bool.true_and, Bool.not_true, Bool.false_eq_true, reduceIte, finish]
  case pmbusPoll =>
    intro rail ok bad mv tenMa temp s h
    show execPmbusPoll rail ok bad mv tenMa temp s = _
    simp [execPmbusPoll, finish, h]
  case railMarginWrite =>
    intro rail steps s
    show execRailMarginWrite rail steps s = _
    simp [execRailMarginWrite, finish]
  case pmbusMarginAck =>
    intro rail ok k s h
    show execPmbusMarginAck rail ok s = _
    simp [execPmbusMarginAck, finish, h]
  case xtalStable =>
    intro s hmode
    show execXtalStable s = _
    simp [execXtalStable, finish, hmode]
  case xtalFail =>
    intro s hmode
    show execXtalFail s = _
    simp [execXtalFail, finish, hmode]
  case pllLockLoss =>
    intro pll s h
    show execPllLockLoss pll s = _
    simp [execPllLockLoss, finish, h]
  case pllRelock =>
    intro pll s hcontains
    show execPllRelock pll s = _
    simp only [execPllRelock, hcontains, Bool.not_true, Bool.false_eq_true, ne_eq, reduceIte, finish]
  case pllRelockTimeout =>
    rintro pll s ⟨hcontains, hcontains'⟩
    show execPllRelockTimeout pll s = _
    simp only [execPllRelockTimeout, hcontains, hcontains', Bool.not_true, Bool.false_eq_true, or_self, reduceIte, finish]
  case flashClockIdleStop =>
    rintro channel s ⟨hus, hrails, hmode, hon, hcontains⟩
    show execFlashClockIdleStop channel s = _
    simp only [execFlashClockIdleStop, hus, hrails, hmode, hon, hcontains, Bool.not_true, Bool.false_eq_true, or_self, reduceIte, finish]
  case aonAlarmExpiry =>
    rintro s ⟨halarm, hmode⟩
    show execAonAlarmExpiry s = _
    simp [execAonAlarmExpiry, State.wakeDormant, halarm, hmode, finish]

/-! Sensors, the trip and the ledger -/

/-- Settles O26: the main rails are up, so the controller is neither OFF nor in a mode without them. -/
theorem thermalAndLifeCommandsComplete : Obligations.ThermalAndLifeCommandsComplete := by
  refine ⟨?junctionSensorRead, ?thermalTrip, ?throttleGraceExpiry, ?operatingSecondTick, ?bermBucketClose, ?bermCommit, ?adcConversion,
    ?adcTrackClear, ?witnessLinkAligned⟩
  case junctionSensorRead =>
    rintro c reading cause a s ⟨hcontains, hcause, hfailed, hfailed', hmode⟩
    show execJunctionSensorRead c reading cause s = _
    subst hfailed'
    simp only [execJunctionSensorRead, hcontains, hcause, hfailed, ne_eq, not_true_eq_false, decide_false, flag, Bool.not_true,
      Bool.false_eq_true, and_false, false_and, if_true, if_false]
    rw [if_neg fun h => hmode h.1]
    rfl
  case thermalTrip =>
    intro c s hrails
    show execThermalTrip c s = _
    cases hm : s.mode
    case off | dormant | watch => exact absurd (hm ▸ hrails) (by decide)
    all_goals simp only [execThermalTrip, finish, hm]
  case throttleGraceExpiry =>
    intro rate s h
    show execThrottleGraceExpiry rate s = _
    simp [execThrottleGraceExpiry, finish, h]
  case operatingSecondTick =>
    rintro s ⟨hrails, hfirmware, hseconds⟩
    show execOperatingSecondTick s = _
    have hoff : s.mode ≠ .off := Mode.ne_off_of_mainRails hrails
    simp [execOperatingSecondTick, finish, hrails, hfirmware, hseconds, hoff]
  case bermBucketClose =>
    intro s hfirmware
    show execBermBucketClose s = _
    simp [execBermBucketClose, finish, hfirmware]
  case bermCommit =>
    rintro toB k s ⟨hfirmware, rfl, rfl⟩
    show execBermCommit s = _
    simp only [execBermCommit, hfirmware, Bool.not_true, Bool.false_eq_true, reduceIte]
    rfl
  case adcConversion =>
    rintro c reading peak r a s ⟨hmode, hmode', hen, hadcRange, heq, hadcResult⟩
    show execAdcConversion c reading peak s = _
    simp only [execAdcConversion, hmode, hmode', hen, hadcRange, heq, hadcResult, Bool.not_true, Bool.false_eq_true, or_self, reduceIte,
      State.when]
    rfl
  case adcTrackClear =>
    intro s
    show execAdcTrackClear s = _
    simp [execAdcTrackClear, finish]
  case witnessLinkAligned =>
    intro s hrails
    show execWitnessLinkAligned s = _
    simp [execWitnessLinkAligned, finish, hrails]

/-! The fault collector -/

/-- Settles O27: each condition selects one branch of its command. -/
theorem collectorCommandsComplete : Obligations.CollectorCommandsComplete := by
  refine ⟨?errorLineAssert, ?wireFaultLine, ?wireFaultGuest, ?wireFaultPoll, ?sourceConditionEnd, ?fcAckWrite, ?fcRaiseWrite, ?fcPinClear,
    ?eventRecordWrite, ?tokenRefill⟩
  case errorLineAssert =>
    intro line link word s hcollectorRuns
    show execErrorLineAssert line link word s = _
    simp [execErrorLineAssert, finish, hcollectorRuns]
  case wireFaultLine =>
    intro pair j s h
    show execWireFaultDetect pair s = _
    simp [execWireFaultDetect, finish, h]
  case wireFaultGuest =>
    intro pair s h
    show execWireFaultDetect pair s = _
    simp [execWireFaultDetect, finish, h]
  case wireFaultPoll =>
    intro line link word s h
    show execWireFaultPoll line link word s = _
    simp [execWireFaultPoll, finish, h]
  case sourceConditionEnd =>
    rintro n s ⟨hn, hendsFromOutside⟩
    show execSourceConditionEnd n s = _
    have hrail : ¬ (1172 ≤ n.val ∧ n.val < 1184) := by omega
    simp [execSourceConditionEnd, finish, hrail, hendsFromOutside]
  case fcAckWrite =>
    rintro n s ⟨hcollectorRuns, hsrcState⟩
    show execFcAckWrite n s = _
    simp [execFcAckWrite, finish, hcollectorRuns, State.ackSource, hsrcState]
  case fcRaiseWrite =>
    rintro n s ⟨hcollectorRuns, htoNat, htoNat'⟩
    show execFcRaiseWrite n s = _
    simp [execFcRaiseWrite, finish, State.fcRaise, hcollectorRuns, htoNat, htoNat']
  case fcPinClear =>
    intro s
    show execFcPinClear s = _
    simp [execFcPinClear, finish]
  case eventRecordWrite =>
    intro cut e l s h
    show execEventRecordWrite cut s = _
    simp [execEventRecordWrite, finish, h]
  case tokenRefill =>
    intro code s
    show execTokenRefill code s = _
    simp [execTokenRefill, finish]

end Sys2Proof.Machine
